-- ==== Sys2Proof/Word.lean ====
section
/-! DEFINITION. Words and bytes of the block: registers are 32 bits wide and values are little-endian (R5, 00_scope). -/
namespace Sys2Proof

/-- A 32-bit register word. -/
abbrev Word := BitVec 32
/-- A byte of a memory. -/
abbrev Byte := BitVec 8

end Sys2Proof
end

