-- ==== Sys2Proof/Config.lean ====
section
/-! DEFINITION. The values that the spec leaves open: constants with no body, so that no proof can rest on one of them. -/
namespace Sys2Proof

/-- The values that the spec does not state, numbered by a counter of the state (log entry 4). -/
opaque Config.freeNat : Nat → Nat

/-- Byte `i` of the secure key K of R397, provisioned at the factory and never readable. -/
opaque Config.secureKeyByte : Nat → BitVec 8

/-- Whether an Ed25519 signature (RFC 8032) over a byte string verifies under Svabuern's key, whose hash the die holds
(R439, log entry 12). -/
opaque Config.ed25519 : List (BitVec 8) → List (BitVec 8) → Bool

/-- IDENT, the factory identity of the module (R395). -/
opaque Config.ident : Nat

/-- Firmware revisions: 0 and 1 the factory's in the keeper slots, 2 the storm door's, a package's CRC plus 3 (R401). -/
opaque Config.firmwareRev : Nat → Nat

/-- The major revision of keeper firmware, numbered as the revisions are (R442). -/
opaque Config.firmwareMajor : Nat → Nat

/-- The module's ordering code as a number (R242). -/
opaque Config.orderCode : Nat

/-- How far the transforms of a bank's spectra take an output sample from the exact convolution (R110): by its taps, its input
history and its place among the blocks, so that equal inputs give equal outputs (log entry 31). -/
opaque Config.spectral : List Nat → List Int → Nat → Int

/-- The octave-band filters of the STI estimator (R122): the state of band `k` after a sample, and its output. -/
opaque Config.bandStep : Nat → Nat → Int → Nat
opaque Config.bandOut : Nat → Nat → Int

/-- The 50 Hz low-pass of the STI estimator (R122): its state after a squared sample, and its output. -/
opaque Config.envStep : Nat → Nat → Nat
opaque Config.envOut : Nat → Nat

end Sys2Proof
end

