-- ==== Sys2Proof/Machine/Maps.lean ====
section
/-! DEFINITION. Small keyed collections held as lists in ascending key order, signed fields, bit masks and byte memories. -/
namespace Sys2Proof.Machine

/-- Values by key, in ascending key order. -/
abbrev Keyed (α : Type) := List (Nat × α)

/-- The value at a key, if one is listed. -/
def kget? {α : Type} : Keyed α → Nat → Option α
  | [], _ => none
  | (k, v) :: m, i => if k == i then some v else kget? m i

/-- The value at a key, or `d` where none is listed. -/
def kgetD {α : Type} (m : Keyed α) (i : Nat) (d : α) : α := (kget? m i).getD d

/-- Lists a value at a key, replacing an older one. -/
def kput {α : Type} : Keyed α → Nat → α → Keyed α
  | [], i, v => [(i, v)]
  | (k, w) :: m, i, v =>
    if k == i then (i, v) :: m else if i < k then (i, v) :: (k, w) :: m else (k, w) :: kput m i v

/-- Takes a key off the list. -/
def kdel {α : Type} (m : Keyed α) (i : Nat) : Keyed α := m.filter (fun e => !(e.1 == i))

/-- Counters by key; an unlisted one is 0. -/
abbrev Counts := Keyed Nat

/-- A counter's value. -/
def cget (m : Counts) (i : Nat) : Nat := kgetD m i 0

/-- Sets a counter; zero is not listed. -/
def cset (m : Counts) (i v : Nat) : Counts := if v == 0 then kdel m i else kput m i v

/-- The two's complement reading of a `w`-bit field. -/
def sx (w n : Nat) : Int :=
  if n % 2 ^ w < 2 ^ (w - 1) then ((n % 2 ^ w : Nat) : Int) else ((n % 2 ^ w : Nat) : Int) - ((2 ^ w : Nat) : Int)

/-- The `w`-bit two's complement pattern of an integer. -/
def ux (w : Nat) (z : Int) : Nat := (z % ((2 ^ w : Nat) : Int)).toNat

/-- Saturation to the range `[lo, hi]`. -/
def clampI (lo hi z : Int) : Int := if z < lo then lo else if hi < z then hi else z

/-- Bit `b` of a word. -/
def bit (n b : Nat) : Bool := n / 2 ^ b % 2 == 1

/-- Sets bit `b`. -/
def setBit (n b : Nat) : Nat := if bit n b then n else n + 2 ^ b

/-- Clears bit `b`. -/
def clrBit (n b : Nat) : Nat := if bit n b then n - 2 ^ b else n

/-- Puts bit `b` at a truth value. -/
def putBit (n b : Nat) (v : Bool) : Nat := if v then setBit n b else clrBit n b

/-- The positions below `w` whose bit is set. -/
def bitsOf (w n : Nat) : List Nat := (List.range w).filter (fun b => bit n b)

/-- `n` with the bits of `m` cleared. -/
def andNot (w n m : Nat) : Nat := n &&& (2 ^ w - 1 - m % 2 ^ w)

/-- A truth value as a field value. -/
def b2n (b : Bool) : Nat := if b then 1 else 0

/-- Whether window number `a` is later than `b` (R18): the signed 32-bit difference is positive. -/
def later (a b : Nat) : Bool := decide (0 < sx 32 (a + 2 ^ 32 - b % 2 ^ 32))

/-- The window number `k` windows after `w`, modulo 2^32. -/
def winAdd (w k : Nat) : Nat := (w + k) % 2 ^ 32

/-! Byte memories: listed bytes in strictly ascending address order, none equal to what an unlisted byte reads as. -/

/-- A byte memory. -/
abbrev Mem := List Host.Cell

/-- What an unlisted byte reads as: DRAM chunks are written with zeros at boot (R438), and the on-die memories have no
stated contents (DESIGN CHOICE, log entry 3). -/
def memDefault : Byte := 0

/-- Reads one byte. -/
def Mem.rd : Mem → Nat → Byte
  | [], _ => memDefault
  | (k, v) :: m, a => if k == a then v else Mem.rd m a

/-- Lists a byte at its place. -/
def Mem.ins : Mem → Nat → Byte → Mem
  | [], a, v => [(a, v)]
  | (k, w) :: m, a, v =>
    if a < k then (a, v) :: (k, w) :: m else if k == a then (a, v) :: m else (k, w) :: Mem.ins m a v

/-- Writes one byte; a byte at the default is taken off the list. -/
def Mem.wr (m : Mem) (a : Nat) (v : Byte) : Mem :=
  if v = memDefault then m.filter (fun e => !(e.1 == a)) else m.ins a v

/-- The canonical form: strictly ascending addresses, and no byte at the default. -/
def Mem.wf : Mem → Bool
  | [] => true
  | (k, v) :: m => (v != memDefault && m.all (fun e => k < e.1)) && Mem.wf m

/-- Writes bytes at consecutive addresses. -/
def Mem.wrs (m : Mem) (a : Nat) : List Byte → Mem
  | [] => m
  | v :: vs => Mem.wrs (m.wr a v) (a + 1) vs

/-- Bytes `a` to `a + n - 1` go back to the default. -/
def Mem.wipe (m : Mem) (a n : Nat) : Mem := m.filter (fun e => decide (e.1 < a ∨ a + n ≤ e.1))

/-- Reads `n` consecutive bytes. -/
def Mem.rds (m : Mem) (a : Nat) : Nat → List Byte
  | 0 => []
  | n + 1 => m.rd a :: Mem.rds m (a + 1) n

/-- The little-endian value of bytes (00_scope: all values are little-endian). -/
def leVal : List Byte → Nat
  | [] => 0
  | b :: bs => b.toNat + 256 * leVal bs

/-- The `n` little-endian bytes of a value. -/
def leBytes : Nat → Nat → List Byte
  | 0, _ => []
  | n + 1, v => BitVec.ofNat 8 v :: leBytes n (v / 256)

/-- Reads an `n`-byte little-endian value. -/
def Mem.rdN (m : Mem) (a n : Nat) : Nat := leVal (m.rds a n)

/-- Writes an `n`-byte little-endian value. -/
def Mem.wrN (m : Mem) (a n v : Nat) : Mem := m.wrs a (leBytes n v)

end Sys2Proof.Machine
end

