-- ==== Sys2Proof/Machine/Crypto.lean ====
section
/-! DEFINITION. The check functions that the spec names: CRC-32 with the IEEE 802.3 polynomial, CRC-32C, CRC-16 and CRC-8
forms by polynomial, and HMAC-SHA-256 (FIPS 180-4, RFC 2104). -/
namespace Sys2Proof.Machine

/-- One step of a reflected CRC: shift right, and fold in the reflected polynomial when a 1 leaves. -/
def crcStep (poly r : Nat) : Nat := if r % 2 == 1 then Nat.xor (r / 2) poly else r / 2

/-- Takes one byte into a reflected CRC register. -/
def crcByte (poly r : Nat) (b : Byte) : Nat :=
  let r := Nat.xor r b.toNat
  crcStep poly (crcStep poly (crcStep poly (crcStep poly (crcStep poly (crcStep poly (crcStep poly (crcStep poly r)))))))

/-- CRC-32 with the IEEE 802.3 polynomial: reflected, all ones first and last. -/
def crc32 (bs : List Byte) : Nat := Nat.xor (bs.foldl (crcByte 0xEDB88320) 0xFFFFFFFF) 0xFFFFFFFF

/-- The greatest `r` of at most `bits` bits whose power `r ^ k` does not exceed `n`, found from its highest bit down. -/
def rootFrom (k n : Nat) : Nat → Nat → Nat
  | 0, r => r
  | bits + 1, r => rootFrom k n bits (if (r + 2 ^ bits) ^ k ≤ n then r + 2 ^ bits else r)

/-- The primes below 312: the first 64 (FIPS 180-4 counts them from 2). -/
def shaPrimes : List Nat := (List.range 312).filter (fun n => 2 ≤ n && (List.range 18).all (fun d => d < 2 || n ≤ d || n % d != 0))

/-- The first 32 bits of the fraction of the `k`-th root of a prime (FIPS 180-4, 4.2.2 and 5.3.3). -/
def rootFrac (k p : Nat) : Nat := rootFrom k (p * 2 ^ (32 * k)) 37 0 % 2 ^ 32

/-- The round constants of SHA-256: from the cube roots of the first 64 primes. -/
def shaK : List Nat := shaPrimes.map (rootFrac 3)

/-- The initial hash words of SHA-256: from the square roots of the first eight primes. -/
def shaInit : List Nat := (shaPrimes.take 8).map (rootFrac 2)

/-- Rotation right of a 32-bit word. -/
def ror32 (n x : Nat) : Nat := x / 2 ^ n + x % 2 ^ n * 2 ^ (32 - n)

/-- The message schedule: the newest word first, extended `n` times. -/
def shaSchedule : Nat → List Nat → List Nat
  | 0, w => w
  | n + 1, w =>
    let a := w.getD 14 0
    let b := w.getD 1 0
    let s0 := Nat.xor (Nat.xor (ror32 7 a) (ror32 18 a)) (a / 8)
    let s1 := Nat.xor (Nat.xor (ror32 17 b) (ror32 19 b)) (b / 1024)
    shaSchedule n ((w.getD 15 0 + s0 + w.getD 6 0 + s1) % 2 ^ 32 :: w)

/-- One round on the eight working words. -/
def shaRound (h : List Nat) (kw : Nat × Nat) : List Nat :=
  match h with
  | [a, b, c, d, e, f, g, hh] =>
    let s1 := Nat.xor (Nat.xor (ror32 6 e) (ror32 11 e)) (ror32 25 e)
    let ch := Nat.xor (Nat.land e f) (Nat.land (2 ^ 32 - 1 - e) g)
    let t1 := hh + s1 + ch + kw.1 + kw.2
    let s0 := Nat.xor (Nat.xor (ror32 2 a) (ror32 13 a)) (ror32 22 a)
    let mj := Nat.xor (Nat.xor (Nat.land a b) (Nat.land a c)) (Nat.land b c)
    [(t1 + s0 + mj) % 2 ^ 32, a, b, c, (d + t1) % 2 ^ 32, e, f, g]
  | _ => h

/-- The big-endian value of bytes. -/
def beVal (bs : List Byte) : Nat := bs.foldl (fun n b => 256 * n + b.toNat) 0

/-- The `n` big-endian bytes of a value. -/
def beBytes (n v : Nat) : List Byte := (leBytes n v).reverse

/-- One 64-byte block. -/
def shaBlock (h : List Nat) (blk : List Byte) : List Nat :=
  let w := ((List.range 16).map (fun i => beVal ((blk.drop (4 * i)).take 4))).reverse
  let w := (shaSchedule 48 w).reverse
  let r := (List.zip shaK w).foldl shaRound h
  List.zipWith (fun a b => (a + b) % 2 ^ 32) h r

/-- All blocks, in order. -/
def shaBlocks : Nat → List Nat → List Byte → List Nat
  | 0, h, _ => h
  | n + 1, h, bs => shaBlocks n (shaBlock h (bs.take 64)) (bs.drop 64)

/-- SHA-256 of a byte string. -/
def sha256 (bs : List Byte) : List Byte :=
  let pad := (55 + 64 - bs.length % 64) % 64
  let m := bs ++ [0x80] ++ List.replicate pad 0 ++ beBytes 8 (8 * bs.length)
  (shaBlocks (m.length / 64) shaInit m).flatMap (beBytes 4)

/-- HMAC-SHA-256 for keys of at most 64 bytes. -/
def hmac (key bs : List Byte) : List Byte :=
  let k := key ++ List.replicate (64 - key.length) 0
  let i := k.map (fun b => b ^^^ 0x36)
  let o := k.map (fun b => b ^^^ 0x5C)
  sha256 (o ++ sha256 (i ++ bs))

/-- The secure key K (R397). -/
def secureKey : List Byte := (List.range 32).map Config.secureKeyByte

/-- The bytes of an ASCII label. -/
def ascii (s : String) : List Byte := s.toList.map (fun ch => BitVec.ofNat 8 ch.toNat)

end Sys2Proof.Machine
end

