-- ==== Sys2Proof/Machine/Registers.lean ====
section
/-! DEFINITION. Every register and table field of BAR0, each with its address, array layout, bit position, access type and
reset value, as the field tables of spec/01 to spec/17 and the map of R451 give them; and the sparse map that holds their values. -/
namespace Sys2Proof.Machine

/-- The access types of R5 (RSV fields hold nothing and are not listed). -/
inductive Acc where
  | rw | ro | wo | w1c | w1s | rc
  deriving DecidableEq, Repr

/-- One register or table field. Element `i` of an array lies at
`addr + oStride * (i / iCount) + iStride * (i % iCount)`; `resets` overrides `reset` element by element. -/
structure Reg where
  id : Nat
  addr : Nat
  oStride : Nat
  iStride : Nat
  iCount : Nat
  count : Nat
  lo : Nat
  width : Nat
  acc : Acc
  reset : Nat
  resets : List Nat := []
  deriving DecidableEq, Repr

namespace R
def WIN_CTRL_LEN : Reg := ⟨0, 0x10000, 0, 0, 1, 1, 0, 2, .rw, 1, []⟩
def WIN_CTRL_RATE96 : Reg := ⟨1, 0x10000, 0, 0, 1, 1, 2, 1, .rw, 0, []⟩
def WIN_CTRL_TICK : Reg := ⟨2, 0x10000, 0, 0, 1, 1, 8, 4, .rw, 3, []⟩
def WIN_CMD_START : Reg := ⟨3, 0x10004, 0, 0, 1, 1, 0, 1, .wo, 0, []⟩
def WIN_CMD_STOP : Reg := ⟨4, 0x10004, 0, 0, 1, 1, 1, 1, .wo, 0, []⟩
def WIN_STATUS_RUN : Reg := ⟨5, 0x10008, 0, 0, 1, 1, 0, 1, .ro, 0, []⟩
def WIN_STATUS_LEAN : Reg := ⟨6, 0x10008, 0, 0, 1, 1, 1, 1, .ro, 0, []⟩
def WIN_STATUS_ALIGNED : Reg := ⟨7, 0x10008, 0, 0, 1, 1, 2, 1, .ro, 0, []⟩
def WIN_STATUS_RATE96 : Reg := ⟨8, 0x10008, 0, 0, 1, 1, 3, 1, .ro, 0, []⟩
def WIN_STATUS_ERR_STATE : Reg := ⟨9, 0x10008, 0, 0, 1, 1, 8, 1, .w1c, 0, []⟩
def WIN_STATUS_SLIP : Reg := ⟨10, 0x10008, 0, 0, 1, 1, 9, 1, .w1c, 0, []⟩
def WIN_STATUS_DEADLINE_SEEN : Reg := ⟨11, 0x10008, 0, 0, 1, 1, 10, 1, .w1c, 0, []⟩
def WIN_COUNT : Reg := ⟨12, 0x1000C, 0, 0, 1, 1, 0, 32, .ro, 0, []⟩
def WIN_COUNT_HI : Reg := ⟨13, 0x10010, 0, 0, 1, 1, 0, 32, .ro, 0, []⟩
def WIN_EPOCH_LO : Reg := ⟨14, 0x10014, 0, 0, 1, 1, 0, 32, .rw, 0, []⟩
def WIN_EPOCH_HI : Reg := ⟨15, 0x10018, 0, 0, 1, 1, 0, 32, .rw, 0, []⟩
def WIN_TICK_PHASE : Reg := ⟨16, 0x1001C, 0, 0, 1, 1, 0, 4, .ro, 0, []⟩
def WIN_TICK_LEN_ACTIVE : Reg := ⟨17, 0x1001C, 0, 0, 1, 1, 4, 4, .ro, 3, []⟩
def WIN_TICK_PENDING : Reg := ⟨18, 0x1001C, 0, 0, 1, 1, 8, 1, .ro, 0, []⟩
def WIN_TICK_COUNT : Reg := ⟨19, 0x1001C, 0, 0, 1, 1, 16, 16, .ro, 0, []⟩
def WIN_GUARD_CYCLES : Reg := ⟨20, 0x10020, 0, 0, 1, 1, 0, 15, .rw, 4096, []⟩
def WIN_PHASE_ERR_ERR : Reg := ⟨21, 0x10024, 0, 0, 1, 1, 0, 32, .ro, 0, []⟩
def WIN_CLK_STATUS_ROOT_OK : Reg := ⟨22, 0x10028, 0, 0, 1, 1, 0, 1, .ro, 0, []⟩
def WIN_CLK_STATUS_AUDIO_LOCK : Reg := ⟨23, 0x10028, 0, 0, 1, 1, 1, 1, .ro, 0, []⟩
def WIN_CLK_STATUS_NET_LOCK : Reg := ⟨24, 0x10028, 0, 0, 1, 1, 2, 1, .ro, 0, []⟩
def WIN_CLK_STATUS_FAB_LOCK : Reg := ⟨25, 0x10028, 0, 0, 1, 1, 3, 1, .ro, 0, []⟩
def WIN_CLK_STATUS_HOST_LOCK : Reg := ⟨26, 0x10028, 0, 0, 1, 1, 4, 1, .ro, 0, []⟩
def WIN_CLK_STATUS_ROOT_LOST : Reg := ⟨27, 0x10028, 0, 0, 1, 1, 8, 1, .w1c, 0, []⟩
def WIN_CLK_STATUS_AUDIO_LOST : Reg := ⟨28, 0x10028, 0, 0, 1, 1, 9, 1, .w1c, 0, []⟩
def WIN_CLK_STATUS_NET_LOST : Reg := ⟨29, 0x10028, 0, 0, 1, 1, 10, 1, .w1c, 0, []⟩
def WIN_CLK_STATUS_FAB_LOST : Reg := ⟨30, 0x10028, 0, 0, 1, 1, 11, 1, .w1c, 0, []⟩
def WIN_CLK_STATUS_HOST_LOST : Reg := ⟨31, 0x10028, 0, 0, 1, 1, 12, 1, .w1c, 0, []⟩
def WIN_MISS_COUNT_MISSES : Reg := ⟨32, 0x1002C, 0, 0, 1, 1, 0, 32, .ro, 0, []⟩
def LEDG_CTRL_AUTO_SCALE : Reg := ⟨33, 0x20000, 0, 0, 1, 1, 0, 1, .rw, 1, []⟩
def LEDG_CTRL_LEAN_ON_BATT : Reg := ⟨34, 0x20000, 0, 0, 1, 1, 1, 1, .rw, 0, []⟩
def LEDG_CTRL_LEAN_SCALE : Reg := ⟨35, 0x20000, 0, 0, 1, 1, 8, 5, .rw, 6, []⟩
def LEDG_CTRL_HYST : Reg := ⟨36, 0x20000, 0, 0, 1, 1, 16, 8, .rw, 4, []⟩
def LEDG_STATUS_SUPPLY : Reg := ⟨37, 0x20004, 0, 0, 1, 1, 0, 2, .ro, 0, []⟩
def LEDG_STATUS_STEP : Reg := ⟨38, 0x20004, 0, 0, 1, 1, 2, 3, .ro, 7, []⟩
def LEDG_STATUS_BATT_LOW : Reg := ⟨39, 0x20004, 0, 0, 1, 1, 5, 1, .ro, 0, []⟩
def LEDG_STATUS_FLOOR_FAIL : Reg := ⟨40, 0x20004, 0, 0, 1, 1, 6, 1, .ro, 0, []⟩
def LEDG_STATUS_ERR_STATE : Reg := ⟨41, 0x20004, 0, 0, 1, 1, 8, 1, .w1c, 0, []⟩
def LEDG_STATUS_SUPPLY_SEEN : Reg := ⟨42, 0x20004, 0, 0, 1, 1, 9, 1, .w1c, 0, []⟩
def LEDG_STATUS_OVER_SEEN : Reg := ⟨43, 0x20004, 0, 0, 1, 1, 10, 1, .w1c, 0, []⟩
def LEDG_STATUS_OVER_A_SEEN : Reg := ⟨44, 0x20004, 0, 0, 1, 1, 11, 1, .w1c, 0, []⟩
def LEDG_STATUS_CAL_SEEN : Reg := ⟨45, 0x20004, 0, 0, 1, 1, 12, 1, .w1c, 0, []⟩
def LEDG_MEAS_MEAN_MA : Reg := ⟨46, 0x20008, 0, 0, 1, 1, 0, 16, .ro, 0, []⟩
def LEDG_MEAS_PEAK_MA : Reg := ⟨47, 0x20008, 0, 0, 1, 1, 16, 16, .ro, 0, []⟩
def LEDG_VOLT_BATT_MV : Reg := ⟨48, 0x2000C, 0, 0, 1, 1, 0, 16, .ro, 0, []⟩
def LEDG_VOLT_BUS_MV : Reg := ⟨49, 0x2000C, 0, 0, 1, 1, 16, 16, .ro, 0, []⟩
def LEDG_COMMIT_T : Reg := ⟨50, 0x20010, 0, 0, 1, 1, 0, 16, .ro, 640, []⟩
def LEDG_COMMIT_BUDGET : Reg := ⟨51, 0x20010, 0, 0, 1, 1, 16, 11, .ro, 1200, []⟩
def LEDG_CAL_RATIO : Reg := ⟨52, 0x20014, 0, 0, 1, 1, 0, 16, .ro, 4096, []⟩
def LEDG_CAL_TOL : Reg := ⟨53, 0x20014, 0, 0, 1, 1, 16, 8, .rw, 10, []⟩
def LEDG_TIMING_OVER_HOLD : Reg := ⟨54, 0x20018, 0, 0, 1, 1, 0, 8, .rw, 8, []⟩
def LEDG_TIMING_RESTORE_HOLD : Reg := ⟨55, 0x20018, 0, 0, 1, 1, 8, 24, .rw, 6000, []⟩
def LEDG_ENV_ENV : Reg := ⟨56, 0x20040, 4, 0, 1, 4, 0, 16, .ro, 0, []⟩
def LEDG_ENV_OBJ : Reg := ⟨57, 0x20040, 4, 0, 1, 4, 16, 16, .ro, 0, []⟩
def LEDG_JOB_ALLOW_ALLOW : Reg := ⟨58, 0x20050, 4, 0, 1, 4, 0, 11, .rw, 0, [0, 0, 0, 24]⟩
def LEDG_CLASS_CAP_CAP : Reg := ⟨59, 0x20060, 4, 0, 1, 4, 0, 11, .rw, 0, [1250, 600, 900, 120]⟩
def LEDG_REFUSED_COUNT : Reg := ⟨60, 0x20070, 4, 0, 1, 4, 0, 32, .ro, 0, []⟩
def LEDG_FLOOR_FLOOR : Reg := ⟨61, 0x20100, 0, 0, 1, 1, 0, 11, .rw, 100, []⟩
def LEDG_FLOOR_D_MIN : Reg := ⟨62, 0x20100, 0, 0, 1, 1, 16, 11, .rw, 4, []⟩
def LEDG_SUPPLY_LIM_MAINS : Reg := ⟨63, 0x20104, 0, 0, 1, 1, 0, 11, .rw, 1200, []⟩
def LEDG_SUPPLY_LIM_BATT : Reg := ⟨64, 0x20104, 0, 0, 1, 1, 16, 11, .rw, 500, []⟩
def LEDG_BATT_UV_UV : Reg := ⟨65, 0x20108, 0, 0, 1, 1, 0, 8, .rw, 200, []⟩
def LEDG_BATT_OFF_MASK : Reg := ⟨66, 0x2010C, 0, 0, 1, 1, 0, 27, .rw, 0, []⟩
def LEDG_COST_FULL : Reg := ⟨67, 0x20200, 4, 0, 1, 54, 0, 12, .rw, 0, [640, 192, 1024, 224, 224, 224, 224, 80, 80, 80, 80, 80, 80, 80, 80, 80, 80, 80, 80, 80, 80, 80, 80, 352, 352, 224, 224, 416, 416, 416, 416, 256, 256, 112, 112, 112, 112, 112, 112, 112, 112, 288, 160, 128, 32, 32, 32, 32, 96, 96, 160, 112, 112, 112]⟩
def LEDG_COST_ALT : Reg := ⟨68, 0x20200, 4, 0, 1, 54, 16, 12, .rw, 0, [640, 80, 64, 80, 80, 80, 80, 32, 32, 32, 32, 32, 32, 32, 32, 32, 32, 32, 32, 32, 32, 32, 32, 192, 192, 96, 96, 416, 416, 416, 416, 256, 256, 112, 112, 112, 112, 112, 112, 112, 112, 160, 160, 128, 32, 32, 32, 32, 96, 96, 160, 112, 112, 112]⟩
def SRC_EN : Reg := ⟨69, 0x250000, 32, 0, 1, 256, 0, 1, .rw, 0, []⟩
def SRC_CLASS : Reg := ⟨70, 0x250000, 32, 0, 1, 256, 1, 2, .rw, 3, []⟩
def SRC_EXPORT : Reg := ⟨71, 0x250000, 32, 0, 1, 256, 3, 1, .rw, 0, []⟩
def SRC_PORT : Reg := ⟨72, 0x250000, 32, 0, 1, 256, 4, 4, .rw, 0, []⟩
def SRC_CHAN : Reg := ⟨73, 0x250000, 32, 0, 1, 256, 8, 8, .rw, 0, []⟩
def SRC_GSRC : Reg := ⟨74, 0x250004, 32, 0, 1, 256, 0, 14, .rw, 0, []⟩
def SRC_TRIM : Reg := ⟨75, 0x250008, 32, 0, 1, 256, 0, 16, .rw, 0, []⟩
def SRC_INVERT : Reg := ⟨76, 0x250008, 32, 0, 1, 256, 16, 1, .rw, 0, []⟩
def SRC_RING : Reg := ⟨77, 0x25000C, 32, 0, 1, 256, 0, 17, .rw, 4800, []⟩
def SRC_LINK : Reg := ⟨78, 0x250010, 32, 0, 1, 256, 0, 2, .ro, 0, []⟩
def SRC_LAST : Reg := ⟨79, 0x250010, 32, 0, 1, 256, 4, 4, .ro, 0, []⟩
def SRC_ERR_STATE : Reg := ⟨80, 0x250010, 32, 0, 1, 256, 8, 1, .w1c, 0, []⟩
def SRC_LOST_SEEN : Reg := ⟨81, 0x250010, 32, 0, 1, 256, 9, 1, .w1c, 0, []⟩
def SRC_BOUND : Reg := ⟨82, 0x250010, 32, 0, 1, 256, 16, 16, .ro, 0, []⟩
def SRC_PEAK : Reg := ⟨83, 0x250014, 32, 0, 1, 256, 0, 16, .ro, 32768, []⟩
def OBJ_ACT_REQ : Reg := ⟨84, 0x200000, 64, 0, 1, 1024, 0, 1, .rw, 0, []⟩
def OBJ_CLASS : Reg := ⟨85, 0x200000, 64, 0, 1, 1024, 1, 2, .rw, 3, []⟩
def OBJ_GLOBAL : Reg := ⟨86, 0x200000, 64, 0, 1, 1024, 3, 1, .rw, 0, []⟩
def OBJ_ACT_AT : Reg := ⟨87, 0x200000, 64, 0, 1, 1024, 4, 1, .rw, 0, []⟩
def OBJ_HOLD : Reg := ⟨88, 0x200000, 64, 0, 1, 1024, 5, 1, .rw, 0, []⟩
def OBJ_PRIO : Reg := ⟨89, 0x200000, 64, 0, 1, 1024, 8, 8, .rw, 0, []⟩
def OBJ_GID : Reg := ⟨90, 0x200000, 64, 0, 1, 1024, 16, 12, .rw, 0, []⟩
def OBJ_STATE : Reg := ⟨91, 0x200004, 64, 0, 1, 1024, 0, 3, .ro, 0, []⟩
def OBJ_SRC_MUTE : Reg := ⟨92, 0x200004, 64, 0, 1, 1024, 3, 1, .ro, 0, []⟩
def OBJ_LAST : Reg := ⟨93, 0x200004, 64, 0, 1, 1024, 4, 4, .ro, 0, []⟩
def OBJ_ERR_STATE : Reg := ⟨94, 0x200004, 64, 0, 1, 1024, 8, 1, .w1c, 0, []⟩
def OBJ_MIRROR_LATE : Reg := ⟨95, 0x200004, 64, 0, 1, 1024, 9, 1, .w1c, 0, []⟩
def OBJ_REMOTE_REFUSED : Reg := ⟨96, 0x200004, 64, 0, 1, 1024, 10, 1, .w1c, 0, []⟩
def OBJ_TAPS : Reg := ⟨97, 0x200004, 64, 0, 1, 1024, 16, 6, .ro, 0, []⟩
def OBJ_SRC : Reg := ⟨98, 0x200008, 64, 0, 1, 1024, 0, 8, .rw, 0, []⟩
def OBJ_LAW : Reg := ⟨99, 0x200008, 64, 0, 1, 1024, 8, 4, .rw, 0, []⟩
def OBJ_GAIN : Reg := ⟨100, 0x200008, 64, 0, 1, 1024, 16, 16, .rw, 32768, []⟩
def OBJ_POS_X : Reg := ⟨101, 0x20000C, 64, 0, 1, 1024, 0, 32, .rw, 0, []⟩
def OBJ_POS_Y : Reg := ⟨102, 0x200010, 64, 0, 1, 1024, 0, 32, .rw, 0, []⟩
def OBJ_POS_Z : Reg := ⟨103, 0x200014, 64, 0, 1, 1024, 0, 32, .rw, 0, []⟩
def OBJ_SPREAD : Reg := ⟨104, 0x200018, 64, 0, 1, 1024, 0, 16, .rw, 0, []⟩
def OBJ_ACT_WIN : Reg := ⟨105, 0x20001C, 64, 0, 1, 1024, 0, 32, .rw, 0, []⟩
def OBJ_ZMASK : Reg := ⟨106, 0x200020, 64, 4, 4, 4096, 0, 32, .rw, 0, []⟩
def OBJ_COST : Reg := ⟨107, 0x200030, 64, 0, 1, 1024, 0, 16, .rw, 0, []⟩
def OBJ_TAP_MAX : Reg := ⟨108, 0x200030, 64, 0, 1, 1024, 16, 6, .rw, 8, []⟩
def OBJ_HOME : Reg := ⟨109, 0x200030, 64, 0, 1, 1024, 24, 6, .rw, 0, []⟩
def OBJ_USER : Reg := ⟨110, 0x200034, 64, 0, 1, 1024, 0, 32, .rw, 0, []⟩
def FEED_EN : Reg := ⟨111, 0x210000, 64, 0, 1, 768, 0, 1, .rw, 0, []⟩
def FEED_POS_X : Reg := ⟨112, 0x210004, 64, 0, 1, 768, 0, 32, .rw, 0, []⟩
def FEED_POS_Y : Reg := ⟨113, 0x210008, 64, 0, 1, 768, 0, 32, .rw, 0, []⟩
def FEED_POS_Z : Reg := ⟨114, 0x21000C, 64, 0, 1, 768, 0, 32, .rw, 0, []⟩
def FEED_AIM_X : Reg := ⟨115, 0x210010, 64, 0, 1, 768, 0, 32, .rw, 0, []⟩
def FEED_AIM_Y : Reg := ⟨116, 0x210014, 64, 0, 1, 768, 0, 32, .rw, 0, []⟩
def FEED_AIM_Z : Reg := ⟨117, 0x210018, 64, 0, 1, 768, 0, 32, .rw, 0, []⟩
def FEED_TRIM : Reg := ⟨118, 0x21001C, 64, 0, 1, 768, 0, 16, .rw, 0, []⟩
def FEED_ALIGN : Reg := ⟨119, 0x21001C, 64, 0, 1, 768, 16, 16, .rw, 0, []⟩
def FEED_ZONE : Reg := ⟨120, 0x210020, 64, 0, 1, 768, 0, 7, .rw, 0, []⟩
def FEED_NOZONE : Reg := ⟨121, 0x210020, 64, 0, 1, 768, 7, 1, .rw, 1, []⟩
def FEED_LINE : Reg := ⟨122, 0x210024, 64, 0, 1, 768, 0, 2, .ro, 0, []⟩
def FEED_SHUT : Reg := ⟨123, 0x210024, 64, 0, 1, 768, 2, 1, .ro, 0, []⟩
def FEED_SUBST : Reg := ⟨124, 0x210024, 64, 0, 1, 768, 3, 1, .ro, 0, []⟩
def FEED_LAST : Reg := ⟨125, 0x210024, 64, 0, 1, 768, 4, 4, .ro, 0, []⟩
def FEED_ERR_STATE : Reg := ⟨126, 0x210024, 64, 0, 1, 768, 8, 1, .w1c, 0, []⟩
def ZONE_EN : Reg := ⟨127, 0x220000, 64, 0, 1, 128, 0, 1, .rw, 0, []⟩
def ZONE_HOLD : Reg := ⟨128, 0x220000, 64, 0, 1, 128, 1, 1, .rw, 0, []⟩
def ZONE_GZID : Reg := ⟨129, 0x220000, 64, 0, 1, 128, 16, 11, .rw, 0, []⟩
def ZONE_GAIN_A : Reg := ⟨130, 0x220004, 64, 0, 1, 128, 0, 16, .rw, 0, []⟩
def ZONE_GAIN_B : Reg := ⟨131, 0x220004, 64, 0, 1, 128, 16, 16, .rw, 0, []⟩
def ZONE_GAIN_C : Reg := ⟨132, 0x220008, 64, 0, 1, 128, 0, 16, .rw, 0, []⟩
def ZONE_GAIN_D : Reg := ⟨133, 0x220008, 64, 0, 1, 128, 16, 16, .rw, 0, []⟩
def ZONE_STI_TARGET : Reg := ⟨134, 0x22000C, 64, 0, 1, 128, 0, 8, .rw, 50, []⟩
def ZONE_LIFT_MAX : Reg := ⟨135, 0x22000C, 64, 0, 1, 128, 8, 8, .rw, 60, []⟩
def ZONE_ANC_MAX : Reg := ⟨136, 0x22000C, 64, 0, 1, 128, 16, 8, .rw, 60, []⟩
def ZONE_FALLBACK : Reg := ⟨137, 0x22000C, 64, 0, 1, 128, 24, 1, .rw, 1, []⟩
def ZONE_EXIT_X : Reg := ⟨138, 0x220010, 64, 0, 1, 128, 0, 32, .rw, 0, []⟩
def ZONE_EXIT_Y : Reg := ⟨139, 0x220014, 64, 0, 1, 128, 0, 32, .rw, 0, []⟩
def ZONE_EXIT_Z : Reg := ⟨140, 0x220018, 64, 0, 1, 128, 0, 32, .rw, 0, []⟩
def ZONE_GRID_FIRST : Reg := ⟨141, 0x22001C, 64, 0, 1, 128, 0, 16, .rw, 0, []⟩
def ZONE_GRID_COUNT : Reg := ⟨142, 0x22001C, 64, 0, 1, 128, 16, 16, .rw, 0, []⟩
def ZONE_REF0 : Reg := ⟨143, 0x220020, 64, 0, 1, 128, 0, 8, .rw, 0, []⟩
def ZONE_REF0_EN : Reg := ⟨144, 0x220020, 64, 0, 1, 128, 8, 1, .rw, 0, []⟩
def ZONE_REF1 : Reg := ⟨145, 0x220020, 64, 0, 1, 128, 16, 8, .rw, 0, []⟩
def ZONE_REF1_EN : Reg := ⟨146, 0x220020, 64, 0, 1, 128, 24, 1, .rw, 0, []⟩
def ZONE_OWNER : Reg := ⟨147, 0x220024, 64, 0, 1, 128, 0, 2, .ro, 0, []⟩
def ZONE_ALARM : Reg := ⟨148, 0x220024, 64, 0, 1, 128, 2, 1, .ro, 0, []⟩
def ZONE_LAST : Reg := ⟨149, 0x220024, 64, 0, 1, 128, 4, 4, .ro, 0, []⟩
def ZONE_ERR_STATE : Reg := ⟨150, 0x220024, 64, 0, 1, 128, 8, 1, .w1c, 0, []⟩
def ZONE_STI : Reg := ⟨151, 0x220024, 64, 0, 1, 128, 16, 8, .ro, 0, []⟩
def ZONE_FEEDS : Reg := ⟨152, 0x220028, 64, 0, 1, 128, 0, 10, .ro, 0, []⟩
def PLAN_EN : Reg := ⟨153, 0x230000, 64, 0, 1, 64, 0, 1, .rw, 0, []⟩
def PLAN_HOST_TRIG : Reg := ⟨154, 0x230000, 64, 0, 1, 64, 1, 1, .rw, 0, []⟩
def PLAN_ALL : Reg := ⟨155, 0x230000, 64, 0, 1, 64, 2, 1, .rw, 0, []⟩
def PLAN_STORM_ON_STALL : Reg := ⟨156, 0x230000, 64, 0, 1, 64, 3, 1, .rw, 1, []⟩
def PLAN_PRIO : Reg := ⟨157, 0x230000, 64, 0, 1, 64, 8, 8, .rw, 0, []⟩
def PLAN_NEXT : Reg := ⟨158, 0x230000, 64, 0, 1, 64, 16, 6, .rw, 0, []⟩
def PLAN_NEXT_EN : Reg := ⟨159, 0x230000, 64, 0, 1, 64, 22, 1, .rw, 0, []⟩
def PLAN_FI_MASK : Reg := ⟨160, 0x230004, 64, 0, 1, 64, 0, 16, .rw, 0, []⟩
def PLAN_CONFIRM : Reg := ⟨161, 0x230004, 64, 0, 1, 64, 16, 16, .rw, 12, []⟩
def PLAN_ZONES : Reg := ⟨162, 0x230008, 64, 4, 4, 256, 0, 32, .rw, 0, []⟩
def PLAN_OBJS : Reg := ⟨163, 0x230018, 64, 4, 4, 256, 0, 32, .rw, 0, []⟩
def PLAN_MSG : Reg := ⟨164, 0x230028, 64, 0, 1, 64, 0, 5, .rw, 0, []⟩
def PLAN_MSG_EN : Reg := ⟨165, 0x230028, 64, 0, 1, 64, 7, 1, .rw, 0, []⟩
def PLAN_TONE : Reg := ⟨166, 0x230028, 64, 0, 1, 64, 8, 4, .rw, 0, []⟩
def PLAN_TONE_EN : Reg := ⟨167, 0x230028, 64, 0, 1, 64, 15, 1, .rw, 0, []⟩
def PLAN_STAGE_DELAY : Reg := ⟨168, 0x230028, 64, 0, 1, 64, 16, 16, .rw, 0, []⟩
def PLAN_STATE : Reg := ⟨169, 0x23002C, 64, 0, 1, 64, 0, 2, .ro, 0, []⟩
def PLAN_LAST : Reg := ⟨170, 0x23002C, 64, 0, 1, 64, 4, 4, .ro, 0, []⟩
def PLAN_ERR_STATE : Reg := ⟨171, 0x23002C, 64, 0, 1, 64, 8, 1, .w1c, 0, []⟩
def PLAN_COUNT : Reg := ⟨172, 0x23002C, 64, 0, 1, 64, 16, 16, .ro, 0, []⟩
def SYS_SCENE_STAGE : Reg := ⟨173, 0x40, 0, 0, 1, 1, 0, 2, .ro, 0, []⟩
def SYS_SCENE_PENDING : Reg := ⟨174, 0x40, 0, 0, 1, 1, 2, 1, .ro, 0, []⟩
def SYS_SCENE_LOAD_FAIL : Reg := ⟨175, 0x40, 0, 0, 1, 1, 3, 1, .ro, 0, []⟩
def SYS_SCENE_LAST_SW : Reg := ⟨176, 0x40, 0, 0, 1, 1, 4, 2, .ro, 0, []⟩
def SYS_SCENE_ERR_STATE : Reg := ⟨177, 0x40, 0, 0, 1, 1, 8, 1, .w1c, 0, []⟩
def SYS_SCENE_CANCEL_SEEN : Reg := ⟨178, 0x40, 0, 0, 1, 1, 9, 1, .w1c, 0, []⟩
def SYS_SCENE_SWITCHES : Reg := ⟨179, 0x40, 0, 0, 1, 1, 16, 16, .ro, 0, []⟩
def SYS_SCENE_ID : Reg := ⟨180, 0x44, 0, 0, 1, 1, 0, 32, .ro, 0, []⟩
def SYS_STAGE_ID : Reg := ⟨181, 0x48, 0, 0, 1, 1, 0, 32, .ro, 0, []⟩
def SYS_SCENE_WIN : Reg := ⟨182, 0x4C, 0, 0, 1, 1, 0, 32, .ro, 0, []⟩
def SYS_LAW_C_SOUND : Reg := ⟨183, 0x50, 0, 0, 1, 1, 0, 16, .rw, 34300, []⟩
def SYS_LAW_AIR_F : Reg := ⟨184, 0x50, 0, 0, 1, 1, 16, 11, .rw, 400, []⟩
def SYS_LAW_STATUS_CLAMP_SEEN : Reg := ⟨185, 0x54, 0, 0, 1, 1, 0, 1, .w1c, 0, []⟩
def SYS_LAW_STATUS_EXIT_SEEN : Reg := ⟨186, 0x54, 0, 0, 1, 1, 1, 1, .w1c, 0, []⟩
def SYS_LAW_STATUS_DEFER_SEEN : Reg := ⟨187, 0x54, 0, 0, 1, 1, 2, 1, .w1c, 0, []⟩
def SYS_LAW_STATUS_NOTAP_SEEN : Reg := ⟨188, 0x54, 0, 0, 1, 1, 3, 1, .w1c, 0, []⟩
def SYS_LAW_STATUS_ERR_STATE : Reg := ⟨189, 0x54, 0, 0, 1, 1, 8, 1, .w1c, 0, []⟩
def SYS_LAW_STATUS_CLAMPS : Reg := ⟨190, 0x54, 0, 0, 1, 1, 16, 16, .ro, 0, []⟩
def SYS_LAW_SEL_INDEX : Reg := ⟨191, 0x58, 0, 0, 1, 1, 0, 8, .rw, 0, []⟩
def SYS_LAW_SEL_KIND : Reg := ⟨192, 0x58, 0, 0, 1, 1, 8, 1, .rw, 0, []⟩
def CORR_STATUS_ERR_STATE : Reg := ⟨193, 0x240000, 0, 0, 1, 1, 0, 1, .w1c, 0, []⟩
def CORR_STATUS_SAT_SEEN : Reg := ⟨194, 0x240000, 0, 0, 1, 1, 1, 1, .w1c, 0, []⟩
def CORR_STATUS_CLIP_SEEN : Reg := ⟨195, 0x240000, 0, 0, 1, 1, 2, 1, .w1c, 0, []⟩
def CORR_STATUS_LOAD_FAIL_SEEN : Reg := ⟨196, 0x240000, 0, 0, 1, 1, 3, 1, .w1c, 0, []⟩
def CORR_STATUS_POISON_SEEN : Reg := ⟨197, 0x240000, 0, 0, 1, 1, 4, 1, .w1c, 0, []⟩
def CORR_STATUS_FADES : Reg := ⟨198, 0x240000, 0, 0, 1, 1, 16, 10, .ro, 0, []⟩
def CORR_LOAD_FEED : Reg := ⟨199, 0x240008, 0, 0, 1, 1, 0, 10, .rw, 0, []⟩
def CORR_LOAD_BANK : Reg := ⟨200, 0x240008, 0, 0, 1, 1, 10, 1, .rw, 0, []⟩
def CORR_LOAD_SLOT : Reg := ⟨201, 0x240008, 0, 0, 1, 1, 16, 4, .rw, 0, []⟩
def CORR_LOAD_GO : Reg := ⟨202, 0x240008, 0, 0, 1, 1, 31, 1, .wo, 0, []⟩
def CORR_LOAD_STATUS_BUSY : Reg := ⟨203, 0x24000C, 0, 0, 1, 1, 0, 1, .ro, 0, []⟩
def CORR_LOAD_STATUS_LAST : Reg := ⟨204, 0x24000C, 0, 0, 1, 1, 4, 4, .ro, 0, []⟩
def CORR_LOAD_STATUS_FEED : Reg := ⟨205, 0x24000C, 0, 0, 1, 1, 8, 10, .ro, 0, []⟩
def CORR_LOAD_STATUS_BANK : Reg := ⟨206, 0x24000C, 0, 0, 1, 1, 18, 1, .ro, 0, []⟩
def CORR_STAGE_BASE : Reg := ⟨207, 0x240010, 0, 0, 1, 1, 0, 32, .ro, 0, []⟩
def CORR_BANK_BASE : Reg := ⟨208, 0x240014, 0, 0, 1, 1, 0, 32, .ro, 0, []⟩
def CORR_FDL_BASE : Reg := ⟨209, 0x240018, 0, 0, 1, 1, 0, 32, .ro, 0, []⟩
def CORR_BQ_SEL_INDEX : Reg := ⟨210, 0x240020, 0, 0, 1, 1, 0, 10, .rw, 0, []⟩
def CORR_BQ_SEL_KIND : Reg := ⟨211, 0x240020, 0, 0, 1, 1, 10, 2, .rw, 0, []⟩
def CORR_BQ_SEL_STAGE : Reg := ⟨212, 0x240020, 0, 0, 1, 1, 12, 4, .rw, 0, []⟩
def CORR_BQ_COEF_COEF : Reg := ⟨213, 0x240024, 4, 0, 1, 5, 8, 24, .rw, 0, []⟩
def CORR_BQ_CMD_WRITE : Reg := ⟨214, 0x240038, 0, 0, 1, 1, 0, 1, .wo, 0, []⟩
def CORR_BQ_CMD_READ : Reg := ⟨215, 0x240038, 0, 0, 1, 1, 1, 1, .wo, 0, []⟩
def CORR_BQ_STATUS_LAST : Reg := ⟨216, 0x24003C, 0, 0, 1, 1, 0, 4, .ro, 0, []⟩
def CORR_BQ_STATUS_PENDING : Reg := ⟨217, 0x24003C, 0, 0, 1, 1, 4, 1, .ro, 0, []⟩
def CORR_SWAPS : Reg := ⟨218, 0x240040, 0, 0, 1, 1, 0, 32, .ro, 0, []⟩
def CORR_REPLACED : Reg := ⟨219, 0x240044, 0, 0, 1, 1, 0, 32, .ro, 0, []⟩
def CORR_STI_CTRL_SPAN : Reg := ⟨220, 0x240100, 0, 0, 1, 1, 0, 5, .rw, 8, []⟩
def CORR_STI_CTRL_STI_HOLD : Reg := ⟨221, 0x240100, 0, 0, 1, 1, 8, 4, .rw, 2, []⟩
def CORR_STI_CTRL_MOD_MIN : Reg := ⟨222, 0x240100, 0, 0, 1, 1, 16, 8, .rw, 10, []⟩
def CORR_FEED_TARGET : Reg := ⟨223, 0x241000, 16, 0, 1, 768, 0, 1, .rw, 0, []⟩
def CORR_FEED_FADE : Reg := ⟨224, 0x241000, 16, 0, 1, 768, 8, 8, .rw, 0, []⟩
def CORR_FEED_SWAP : Reg := ⟨225, 0x241000, 16, 0, 1, 768, 31, 1, .wo, 0, []⟩
def CORR_FEED_THRESH : Reg := ⟨226, 0x241004, 16, 0, 1, 768, 0, 16, .rw, 0, []⟩
def CORR_FEED_RELEASE : Reg := ⟨227, 0x241004, 16, 0, 1, 768, 16, 8, .rw, 20, []⟩
def CORR_FEED_LIM_EN : Reg := ⟨228, 0x241004, 16, 0, 1, 768, 24, 1, .rw, 0, []⟩
def CORR_FEED_ACTIVE : Reg := ⟨229, 0x241008, 16, 0, 1, 768, 0, 1, .ro, 0, []⟩
def CORR_FEED_FADING : Reg := ⟨230, 0x241008, 16, 0, 1, 768, 1, 1, .ro, 0, []⟩
def CORR_FEED_PENDING : Reg := ⟨231, 0x241008, 16, 0, 1, 768, 2, 1, .ro, 0, []⟩
def CORR_FEED_PEND_TARGET : Reg := ⟨232, 0x241008, 16, 0, 1, 768, 3, 1, .ro, 0, []⟩
def CORR_FEED_VALID_A : Reg := ⟨233, 0x241008, 16, 0, 1, 768, 4, 1, .ro, 0, []⟩
def CORR_FEED_VALID_B : Reg := ⟨234, 0x241008, 16, 0, 1, 768, 5, 1, .ro, 0, []⟩
def CORR_FEED_LOADING : Reg := ⟨235, 0x241008, 16, 0, 1, 768, 6, 1, .ro, 0, []⟩
def CORR_FEED_LAST : Reg := ⟨236, 0x241008, 16, 0, 1, 768, 8, 4, .ro, 0, []⟩
def CORR_FEED_ERR_STATE : Reg := ⟨237, 0x241008, 16, 0, 1, 768, 12, 1, .w1c, 0, []⟩
def CORR_FEED_SAT_SEEN : Reg := ⟨238, 0x241008, 16, 0, 1, 768, 13, 1, .w1c, 0, []⟩
def CORR_FEED_CLIP_SEEN : Reg := ⟨239, 0x241008, 16, 0, 1, 768, 14, 1, .w1c, 0, []⟩
def CORR_FEED_REPLACED : Reg := ⟨240, 0x241008, 16, 0, 1, 768, 16, 8, .ro, 0, []⟩
def CORR_FEED_FADE_LEFT : Reg := ⟨241, 0x241008, 16, 0, 1, 768, 24, 8, .ro, 0, []⟩
def CORR_FEED_GR : Reg := ⟨242, 0x24100C, 16, 0, 1, 768, 0, 16, .ro, 0, []⟩
def CORR_FEED_PEAK : Reg := ⟨243, 0x24100C, 16, 0, 1, 768, 16, 16, .ro, 32768, []⟩
def CORR_ZONE_ANC_REF : Reg := ⟨244, 0x244000, 32, 0, 1, 128, 0, 16, .rw, 61536, []⟩
def CORR_ZONE_MIC_CAL : Reg := ⟨245, 0x244000, 32, 0, 1, 128, 16, 16, .rw, 0, []⟩
def CORR_ZONE_CONF : Reg := ⟨246, 0x244004, 32, 0, 1, 128, 0, 2, .ro, 0, []⟩
def CORR_ZONE_STEP : Reg := ⟨247, 0x244004, 32, 0, 1, 128, 2, 2, .ro, 0, []⟩
def CORR_ZONE_BELOW : Reg := ⟨248, 0x244004, 32, 0, 1, 128, 4, 1, .ro, 0, []⟩
def CORR_ZONE_AMB_STALE : Reg := ⟨249, 0x244004, 32, 0, 1, 128, 5, 1, .ro, 0, []⟩
def CORR_ZONE_NOREF : Reg := ⟨250, 0x244004, 32, 0, 1, 128, 6, 1, .ro, 0, []⟩
def CORR_ZONE_NOCAL : Reg := ⟨251, 0x244004, 32, 0, 1, 128, 7, 1, .ro, 0, []⟩
def CORR_ZONE_BELOW_SEEN : Reg := ⟨252, 0x244004, 32, 0, 1, 128, 8, 1, .w1c, 0, []⟩
def CORR_ZONE_CONF_LOST_SEEN : Reg := ⟨253, 0x244004, 32, 0, 1, 128, 9, 1, .w1c, 0, []⟩
def CORR_ZONE_STI_MIC0 : Reg := ⟨254, 0x244004, 32, 0, 1, 128, 16, 8, .ro, 0, []⟩
def CORR_ZONE_STI_MIC1 : Reg := ⟨255, 0x244004, 32, 0, 1, 128, 24, 8, .ro, 0, []⟩
def CORR_ZONE_LIFT_DB : Reg := ⟨256, 0x244008, 32, 0, 1, 128, 0, 8, .ro, 0, []⟩
def CORR_ZONE_ANC_DB : Reg := ⟨257, 0x244008, 32, 0, 1, 128, 8, 8, .ro, 0, []⟩
def CORR_ZONE_AMB : Reg := ⟨258, 0x244008, 32, 0, 1, 128, 16, 16, .ro, 32768, []⟩
def CORR_ZONE_DELAY0 : Reg := ⟨259, 0x24400C, 32, 0, 1, 128, 0, 16, .ro, 0, []⟩
def CORR_ZONE_DELAY1 : Reg := ⟨260, 0x24400C, 32, 0, 1, 128, 16, 16, .ro, 0, []⟩
def CORR_ZONE_MTI0_3 : Reg := ⟨261, 0x244010, 32, 0, 1, 128, 0, 32, .ro, 0, []⟩
def CORR_ZONE_MTI4_6 : Reg := ⟨262, 0x244014, 32, 0, 1, 128, 0, 24, .ro, 0, []⟩
def CORR_ZONE_UPDATES : Reg := ⟨263, 0x244018, 32, 0, 1, 128, 0, 16, .ro, 0, []⟩
def CORR_ZONE_CELLS : Reg := ⟨264, 0x244018, 32, 0, 1, 128, 16, 7, .ro, 0, []⟩
def YARD_CTRL_EN : Reg := ⟨265, 0x100000, 262144, 0, 1, 4, 0, 1, .rw, 0, []⟩
def YARD_CTRL_STABLE_EN : Reg := ⟨266, 0x100000, 262144, 0, 1, 4, 4, 4, .rw, 0, []⟩
def YARD_STATUS_SEQ_RUN : Reg := ⟨267, 0x100004, 262144, 0, 1, 4, 0, 1, .ro, 0, []⟩
def YARD_STATUS_SEQ_EXC : Reg := ⟨268, 0x100004, 262144, 0, 1, 4, 1, 1, .ro, 0, []⟩
def YARD_STATUS_ERR_STATE : Reg := ⟨269, 0x100004, 262144, 0, 1, 4, 8, 1, .w1c, 0, []⟩
def YARD_STATUS_MISS_SEEN : Reg := ⟨270, 0x100004, 262144, 0, 1, 4, 9, 1, .w1c, 0, []⟩
def YARD_STATUS_FAULT_SEEN : Reg := ⟨271, 0x100004, 262144, 0, 1, 4, 10, 1, .w1c, 0, []⟩
def YARD_STATUS_ORDER_SEEN : Reg := ⟨272, 0x100004, 262144, 0, 1, 4, 11, 1, .w1c, 0, []⟩
def YARD_STATUS_QLOST_SEEN : Reg := ⟨273, 0x100004, 262144, 0, 1, 4, 12, 1, .w1c, 0, []⟩
def YARD_STATUS_WM_SEEN : Reg := ⟨274, 0x100004, 262144, 0, 1, 4, 13, 1, .w1c, 0, []⟩
def YARD_STATUS_DFLOOR_SEEN : Reg := ⟨275, 0x100004, 262144, 0, 1, 4, 14, 1, .w1c, 0, []⟩
def YARD_STATUS_ECC_SEEN : Reg := ⟨276, 0x100004, 262144, 0, 1, 4, 15, 1, .w1c, 0, []⟩
def YARD_RESERVE_RESERVE : Reg := ⟨277, 0x100008, 262144, 0, 1, 4, 0, 3, .rw, 2, []⟩
def YARD_RESERVE_LEND : Reg := ⟨278, 0x100008, 262144, 0, 1, 4, 4, 1, .rw, 1, []⟩
def YARD_RESERVE_DFLOOR : Reg := ⟨279, 0x100008, 262144, 0, 1, 4, 16, 5, .rw, 2, []⟩
def YARD_ARB_WB : Reg := ⟨280, 0x10000C, 262144, 0, 1, 4, 0, 4, .rw, 3, []⟩
def YARD_ARB_WC : Reg := ⟨281, 0x10000C, 262144, 0, 1, 4, 4, 4, .rw, 1, []⟩
def YARD_ARB_AGE : Reg := ⟨282, 0x10000C, 262144, 0, 1, 4, 16, 16, .rw, 16384, []⟩
def YARD_LIMITS_JOB_LIMIT : Reg := ⟨283, 0x100010, 262144, 0, 1, 4, 0, 8, .rw, 64, []⟩
def YARD_LIMITS_CUT : Reg := ⟨284, 0x100010, 262144, 0, 1, 4, 16, 8, .rw, 64, []⟩
def YARD_LIMITS_XBAR_AGE : Reg := ⟨285, 0x100010, 262144, 0, 1, 4, 24, 8, .rw, 16, []⟩
def YARD_QWM_HIGH : Reg := ⟨286, 0x100014, 262144, 0, 1, 4, 0, 7, .rw, 48, []⟩
def YARD_QWM_LOW : Reg := ⟨287, 0x100014, 262144, 0, 1, 4, 8, 7, .rw, 8, []⟩
def YARD_Q_DEPTH : Reg := ⟨288, 0x100020, 262144, 4, 4, 16, 0, 7, .ro, 0, []⟩
def YARD_Q_DEPTH_A : Reg := ⟨289, 0x100020, 262144, 4, 4, 16, 8, 7, .ro, 0, []⟩
def YARD_Q_HI_SEEN : Reg := ⟨290, 0x100020, 262144, 4, 4, 16, 16, 1, .w1c, 0, []⟩
def YARD_Q_LO_SEEN : Reg := ⟨291, 0x100020, 262144, 4, 4, 16, 17, 1, .w1c, 0, []⟩
def YARD_Q_CROSS : Reg := ⟨292, 0x100020, 262144, 4, 4, 16, 24, 8, .ro, 0, []⟩
def YARD_QLOST_LOST : Reg := ⟨293, 0x100030, 262144, 4, 4, 16, 0, 32, .ro, 0, []⟩
def YARD_CYC_CYCLES : Reg := ⟨294, 0x100040, 262144, 4, 4, 16, 0, 32, .ro, 0, []⟩
def YARD_LENT : Reg := ⟨295, 0x100050, 262144, 0, 1, 4, 0, 32, .ro, 0, []⟩
def YARD_MISS_COUNT : Reg := ⟨296, 0x100054, 262144, 0, 1, 4, 0, 32, .ro, 0, []⟩
def YARD_ABORTS : Reg := ⟨297, 0x100058, 262144, 0, 1, 4, 0, 32, .ro, 0, []⟩
def YARD_POSTS : Reg := ⟨298, 0x10005C, 262144, 0, 1, 4, 0, 32, .ro, 0, []⟩
def YARD_DFLOOR_MISS : Reg := ⟨299, 0x1000A0, 262144, 0, 1, 4, 0, 32, .ro, 0, []⟩
def YARD_MISS_MAP_MAP : Reg := ⟨300, 0x100060, 262144, 4, 6, 24, 0, 32, .ro, 0, []⟩
def YARD_ZRUN_RUN : Reg := ⟨301, 0x100080, 262144, 4, 2, 8, 0, 32, .ro, 0, []⟩
def YARD_ERR_CAP_LEVEL : Reg := ⟨302, 0x100090, 262144, 0, 1, 4, 0, 2, .ro, 0, []⟩
def YARD_ERR_CAP_STABLE : Reg := ⟨303, 0x100090, 262144, 0, 1, 4, 2, 2, .ro, 0, []⟩
def YARD_ERR_CAP_STALL : Reg := ⟨304, 0x100090, 262144, 0, 1, 4, 4, 3, .ro, 0, []⟩
def YARD_ERR_CAP_FAULT : Reg := ⟨305, 0x100090, 262144, 0, 1, 4, 8, 4, .ro, 0, []⟩
def YARD_ERR_WIN_WIN : Reg := ⟨306, 0x100094, 262144, 0, 1, 4, 0, 32, .ro, 0, []⟩
def YARD_ECC_CORR_STORE : Reg := ⟨307, 0x100098, 262144, 0, 1, 4, 0, 16, .ro, 0, []⟩
def YARD_ECC_CORR_LOFT : Reg := ⟨308, 0x100098, 262144, 0, 1, 4, 16, 16, .ro, 0, []⟩
def YARD_STALL_OFF_OFF : Reg := ⟨309, 0x10009C, 262144, 0, 1, 4, 0, 32, .w1c, 0, []⟩
def YARD_SEQ_CAP_CAUSE : Reg := ⟨310, 0x1000C0, 262144, 0, 1, 4, 0, 4, .ro, 0, []⟩
def YARD_SEQ_CAP_TRAP : Reg := ⟨311, 0x1000C0, 262144, 0, 1, 4, 8, 6, .ro, 0, []⟩
def YARD_SEQ_CAP_RESTARTS : Reg := ⟨312, 0x1000C0, 262144, 0, 1, 4, 16, 16, .ro, 0, []⟩
def YARD_SEQ_EPC : Reg := ⟨313, 0x1000C4, 262144, 0, 1, 4, 0, 32, .ro, 0, []⟩
def YARD_SEQ_EADDR : Reg := ⟨314, 0x1000C8, 262144, 0, 1, 4, 0, 32, .ro, 0, []⟩
def YARD_SEQ_EWIN : Reg := ⟨315, 0x1000CC, 262144, 0, 1, 4, 0, 32, .ro, 0, []⟩
def YARD_SEQ_IMAGE : Reg := ⟨316, 0x1000D0, 262144, 0, 1, 4, 0, 32, .ro, 0, []⟩
def SHUT_STATUS_LAST : Reg := ⟨317, 0xD0000, 0, 0, 1, 1, 0, 4, .ro, 0, []⟩
def SHUT_STATUS_ERR_STATE : Reg := ⟨318, 0xD0000, 0, 0, 1, 1, 8, 1, .w1c, 0, []⟩
def SHUT_STATUS_AUTO_SEEN : Reg := ⟨319, 0xD0000, 0, 0, 1, 1, 9, 1, .w1c, 0, []⟩
def SHUT_STATUS_OPEN : Reg := ⟨320, 0xD0000, 0, 0, 1, 1, 16, 10, .ro, 0, []⟩
def SHUT_OPEN : Reg := ⟨321, 0xD0100, 4, 0, 1, 24, 0, 32, .w1s, 0, []⟩
def SHUT_CLOSE : Reg := ⟨322, 0xD0180, 4, 0, 1, 24, 0, 32, .wo, 0, []⟩
def SHUT_AUTO : Reg := ⟨323, 0xD0200, 4, 0, 1, 24, 0, 32, .w1c, 0, []⟩
def STORM_CMD_ARM : Reg := ⟨324, 0xE0000, 0, 0, 1, 1, 0, 1, .wo, 0, []⟩
def STORM_CMD_DISARM : Reg := ⟨325, 0xE0000, 0, 0, 1, 1, 1, 1, .wo, 0, []⟩
def STORM_CMD_COMMIT : Reg := ⟨326, 0xE0000, 0, 0, 1, 1, 2, 1, .wo, 0, []⟩
def STORM_STATUS_ARMED : Reg := ⟨327, 0xE0004, 0, 0, 1, 1, 0, 1, .ro, 0, []⟩
def STORM_STATUS_ALL_LINKS : Reg := ⟨328, 0xE0004, 0, 0, 1, 1, 1, 1, .ro, 0, []⟩
def STORM_STATUS_SAFE_CLK : Reg := ⟨329, 0xE0004, 0, 0, 1, 1, 2, 1, .ro, 0, []⟩
def STORM_STATUS_DIRTY : Reg := ⟨330, 0xE0004, 0, 0, 1, 1, 3, 1, .ro, 0, []⟩
def STORM_STATUS_LAST : Reg := ⟨331, 0xE0004, 0, 0, 1, 1, 4, 4, .ro, 0, []⟩
def STORM_STATUS_ERR_STATE : Reg := ⟨332, 0xE0004, 0, 0, 1, 1, 8, 1, .w1c, 0, []⟩
def STORM_STATUS_ENGAGE_SEEN : Reg := ⟨333, 0xE0004, 0, 0, 1, 1, 9, 1, .w1c, 0, []⟩
def STORM_STATUS_STORE_SEEN : Reg := ⟨334, 0xE0004, 0, 0, 1, 1, 10, 1, .w1c, 0, []⟩
def STORM_STATUS_VOICE_SEEN : Reg := ⟨335, 0xE0004, 0, 0, 1, 1, 11, 1, .w1c, 0, []⟩
def STORM_STATUS_ZONES : Reg := ⟨336, 0xE0004, 0, 0, 1, 1, 16, 8, .ro, 0, []⟩
def STORM_CFG_TONE_SPAN : Reg := ⟨337, 0xE0008, 0, 0, 1, 1, 0, 5, .rw, 4, []⟩
def STORM_CFG_GAP : Reg := ⟨338, 0xE0008, 0, 0, 1, 1, 5, 4, .rw, 2, []⟩
def STORM_CFG_BACKSTOP : Reg := ⟨339, 0xE0008, 0, 0, 1, 1, 9, 8, .rw, 50, []⟩
def STORM_CFG_RETURN_CHECK : Reg := ⟨340, 0xE0008, 0, 0, 1, 1, 17, 11, .rw, 32, []⟩
def STORM_CFG_RETURN_AT_END : Reg := ⟨341, 0xE0008, 0, 0, 1, 1, 28, 1, .rw, 1, []⟩
def STORM_OWNER : Reg := ⟨342, 0xE0010, 4, 0, 1, 4, 0, 32, .ro, 0, []⟩
def STORM_FORCE : Reg := ⟨343, 0xE0020, 4, 0, 1, 4, 0, 32, .rw, 0, []⟩
def STORM_RETURN : Reg := ⟨344, 0xE0030, 4, 0, 1, 4, 0, 32, .wo, 0, []⟩
def STORM_EMIC_PLAN : Reg := ⟨345, 0xE0040, 4, 0, 1, 2, 0, 6, .rw, 0, []⟩
def STORM_EMIC_PLAN_EN : Reg := ⟨346, 0xE0040, 4, 0, 1, 2, 6, 1, .rw, 0, []⟩
def STORM_EMIC_PTT_EN : Reg := ⟨347, 0xE0040, 4, 0, 1, 2, 7, 1, .rw, 0, []⟩
def STORM_EMIC_PTT : Reg := ⟨348, 0xE0040, 4, 0, 1, 2, 8, 3, .ro, 0, []⟩
def STORM_EMIC_DEBOUNCE : Reg := ⟨349, 0xE0040, 4, 0, 1, 2, 16, 6, .rw, 1, []⟩
def STORM_EMIC_PRESSES : Reg := ⟨350, 0xE0040, 4, 0, 1, 2, 24, 8, .ro, 0, []⟩
def STORM_MSG_BAD : Reg := ⟨351, 0xE0048, 0, 0, 1, 1, 0, 32, .ro, 0, []⟩
def STORM_STORE_ID : Reg := ⟨352, 0xE004C, 0, 0, 1, 1, 0, 32, .ro, 0, []⟩
def STORM_BQ_SEL_ZONE : Reg := ⟨353, 0xE0050, 0, 0, 1, 1, 0, 7, .rw, 0, []⟩
def STORM_BQ_SEL_STAGE : Reg := ⟨354, 0xE0050, 0, 0, 1, 1, 8, 3, .rw, 0, []⟩
def STORM_BQ_COEF : Reg := ⟨355, 0xE0054, 4, 0, 1, 5, 8, 24, .rw, 0, []⟩
def STORM_BQ_CMD_WRITE : Reg := ⟨356, 0xE0068, 0, 0, 1, 1, 0, 1, .wo, 0, []⟩
def STORM_BQ_CMD_READ : Reg := ⟨357, 0xE0068, 0, 0, 1, 1, 1, 1, .wo, 0, []⟩
def STORM_CAUSE_CAUSE : Reg := ⟨358, 0xE0100, 4, 0, 1, 128, 0, 4, .ro, 0, []⟩
def STORM_CAUSE_PLAN : Reg := ⟨359, 0xE0100, 4, 0, 1, 128, 4, 6, .ro, 0, []⟩
def STORM_CAUSE_RETURNING : Reg := ⟨360, 0xE0100, 4, 0, 1, 128, 10, 1, .ro, 0, []⟩
def STORM_CAUSE_NOPLAN : Reg := ⟨361, 0xE0100, 4, 0, 1, 128, 11, 1, .ro, 0, []⟩
def STORM_CAUSE_CHECKED : Reg := ⟨362, 0xE0100, 4, 0, 1, 128, 12, 10, .ro, 0, []⟩
def STORM_ZONE_GAIN : Reg := ⟨363, 0xE0400, 4, 0, 1, 128, 0, 16, .rw, 0, []⟩
def STORM_ZONE_EMIC0 : Reg := ⟨364, 0xE0400, 4, 0, 1, 128, 16, 1, .rw, 0, []⟩
def STORM_ZONE_EMIC1 : Reg := ⟨365, 0xE0400, 4, 0, 1, 128, 17, 1, .rw, 0, []⟩
def STORM_FEED_EN : Reg := ⟨366, 0xE1000, 4, 0, 1, 768, 0, 1, .rw, 0, []⟩
def STORM_FEED_TRIM : Reg := ⟨367, 0xE1000, 4, 0, 1, 768, 8, 8, .rw, 0, []⟩
def STORM_FEED_ZONE : Reg := ⟨368, 0xE1000, 4, 0, 1, 768, 16, 7, .ro, 0, []⟩
def STORM_FEED_NOZONE : Reg := ⟨369, 0xE1000, 4, 0, 1, 768, 23, 1, .ro, 1, []⟩
def STORM_FEED_LINE : Reg := ⟨370, 0xE1000, 4, 0, 1, 768, 24, 2, .ro, 0, []⟩
def FIRE_STATUS_RELAYS : Reg := ⟨371, 0xE8000, 0, 0, 1, 1, 0, 4, .ro, 0, []⟩
def FIRE_STATUS_LAST : Reg := ⟨372, 0xE8000, 0, 0, 1, 1, 4, 4, .ro, 0, []⟩
def FIRE_STATUS_ERR_STATE : Reg := ⟨373, 0xE8000, 0, 0, 1, 1, 8, 1, .w1c, 0, []⟩
def FIRE_STATUS_ALARM_SEEN : Reg := ⟨374, 0xE8000, 0, 0, 1, 1, 9, 1, .w1c, 0, []⟩
def FIRE_STATUS_FAULT_SEEN : Reg := ⟨375, 0xE8000, 0, 0, 1, 1, 10, 1, .w1c, 0, []⟩
def FIRE_FAULT : Reg := ⟨376, 0xE8004, 0, 0, 1, 1, 0, 10, .ro, 1, []⟩
def FIRE_K1_MASK : Reg := ⟨377, 0xE8008, 0, 0, 1, 1, 0, 10, .rw, 1023, []⟩
def FIRE_RELAY_K4_SRC : Reg := ⟨378, 0xE800C, 0, 0, 1, 1, 0, 2, .rw, 0, []⟩
def FIRE_RELAY_K4_SET : Reg := ⟨379, 0xE800C, 0, 0, 1, 1, 2, 1, .rw, 0, []⟩
def FIRE_RELAY_HOST_FAULT : Reg := ⟨380, 0xE800C, 0, 0, 1, 1, 8, 1, .rw, 0, []⟩
def FIRE_IN_EN : Reg := ⟨381, 0xE8100, 8, 0, 1, 16, 0, 1, .rw, 0, []⟩
def FIRE_IN_SHORT_IS_ALARM : Reg := ⟨382, 0xE8100, 8, 0, 1, 16, 1, 1, .rw, 0, []⟩
def FIRE_IN_DEBOUNCE : Reg := ⟨383, 0xE8100, 8, 0, 1, 16, 2, 10, .rw, 100, []⟩
def FIRE_IN_FAULT_HOLD : Reg := ⟨384, 0xE8100, 8, 0, 1, 16, 12, 7, .rw, 20, []⟩
def FIRE_IN_STATE : Reg := ⟨385, 0xE8104, 8, 0, 1, 16, 0, 3, .ro, 0, []⟩
def FIRE_IN_OHMS : Reg := ⟨386, 0xE8104, 8, 0, 1, 16, 8, 16, .ro, 0, []⟩
def FIRE_IN_ALARMS : Reg := ⟨387, 0xE8104, 8, 0, 1, 16, 24, 8, .ro, 0, []⟩
def HNG_CFG_MODE : Reg := ⟨388, 0x80000, 0, 0, 1, 1, 0, 2, .rw, 0, []⟩
def HNG_CFG_RANK : Reg := ⟨389, 0x80000, 0, 0, 1, 1, 2, 2, .rw, 0, []⟩
def HNG_CFG_H0_EN : Reg := ⟨390, 0x80000, 0, 0, 1, 1, 4, 1, .rw, 0, []⟩
def HNG_CFG_H1_EN : Reg := ⟨391, 0x80000, 0, 0, 1, 1, 5, 1, .rw, 0, []⟩
def HNG_CFG_GROUP : Reg := ⟨392, 0x80000, 0, 0, 1, 1, 16, 16, .rw, 0, []⟩
def HNG_TIMING_HB_MISS : Reg := ⟨393, 0x80004, 0, 0, 1, 1, 0, 4, .rw, 2, []⟩
def HNG_TIMING_BULK_RATE : Reg := ⟨394, 0x80004, 0, 0, 1, 1, 4, 4, .rw, 8, []⟩
def HNG_TIMING_MATCH_RUN : Reg := ⟨395, 0x80004, 0, 0, 1, 1, 8, 8, .rw, 64, []⟩
def HNG_TIMING_FORM_WAIT : Reg := ⟨396, 0x80004, 0, 0, 1, 1, 16, 8, .rw, 64, []⟩
def HNG_TIMING_PROBE_EVERY : Reg := ⟨397, 0x80004, 0, 0, 1, 1, 24, 8, .rw, 16, []⟩
def HNG_CMD_ENABLE : Reg := ⟨398, 0x80008, 0, 0, 1, 1, 0, 1, .wo, 0, []⟩
def HNG_CMD_DISABLE : Reg := ⟨399, 0x80008, 0, 0, 1, 1, 1, 1, .wo, 0, []⟩
def HNG_CMD_REJOIN : Reg := ⟨400, 0x80008, 0, 0, 1, 1, 2, 1, .wo, 0, []⟩
def HNG_CMD_STAND_DOWN : Reg := ⟨401, 0x80008, 0, 0, 1, 1, 3, 1, .wo, 0, []⟩
def HNG_CMD_PROBE : Reg := ⟨402, 0x80008, 0, 0, 1, 1, 4, 1, .wo, 0, []⟩
def HNG_STATUS_ROLE : Reg := ⟨403, 0x8000C, 0, 0, 1, 1, 0, 3, .ro, 0, []⟩
def HNG_STATUS_SYNC : Reg := ⟨404, 0x8000C, 0, 0, 1, 1, 3, 2, .ro, 0, []⟩
def HNG_STATUS_DUAL : Reg := ⟨405, 0x8000C, 0, 0, 1, 1, 5, 1, .ro, 0, []⟩
def HNG_STATUS_H0_UP : Reg := ⟨406, 0x8000C, 0, 0, 1, 1, 6, 1, .ro, 0, []⟩
def HNG_STATUS_H1_UP : Reg := ⟨407, 0x8000C, 0, 0, 1, 1, 7, 1, .ro, 0, []⟩
def HNG_STATUS_LAST : Reg := ⟨408, 0x8000C, 0, 0, 1, 1, 8, 4, .ro, 0, []⟩
def HNG_STATUS_ERR_STATE : Reg := ⟨409, 0x8000C, 0, 0, 1, 1, 12, 1, .w1c, 0, []⟩
def HNG_STATUS_MISMATCH_SEEN : Reg := ⟨410, 0x8000C, 0, 0, 1, 1, 13, 1, .w1c, 0, []⟩
def HNG_STATUS_HB_LOST_SEEN : Reg := ⟨411, 0x8000C, 0, 0, 1, 1, 14, 1, .w1c, 0, []⟩
def HNG_STATUS_PROBE_FAIL_SEEN : Reg := ⟨412, 0x8000C, 0, 0, 1, 1, 15, 1, .w1c, 0, []⟩
def HNG_STATUS_WIRING_SEEN : Reg := ⟨413, 0x8000C, 0, 0, 1, 1, 16, 1, .w1c, 0, []⟩
def HNG_STATUS_JOURNAL_FULL_SEEN : Reg := ⟨414, 0x8000C, 0, 0, 1, 1, 17, 1, .w1c, 0, []⟩
def HNG_STATUS_CFG_DIFF : Reg := ⟨415, 0x8000C, 0, 0, 1, 1, 18, 1, .ro, 0, []⟩
def HNG_STATUS_UNSYNC_PROMOTE : Reg := ⟨416, 0x8000C, 0, 0, 1, 1, 19, 1, .ro, 0, []⟩
def HNG_STATUS_HEARD : Reg := ⟨417, 0x8000C, 0, 0, 1, 1, 20, 3, .ro, 0, []⟩
def HNG_STATUS_INPUT_GAP : Reg := ⟨418, 0x8000C, 0, 0, 1, 1, 24, 8, .ro, 0, []⟩
def HNG_PEER_ROLE : Reg := ⟨419, 0x80010, 4, 0, 1, 3, 0, 3, .ro, 0, []⟩
def HNG_PEER_SYNC : Reg := ⟨420, 0x80010, 4, 0, 1, 3, 3, 2, .ro, 0, []⟩
def HNG_PEER_MISSED : Reg := ⟨421, 0x80010, 4, 0, 1, 3, 8, 4, .ro, 0, []⟩
def HNG_MISMATCH : Reg := ⟨422, 0x80020, 0, 0, 1, 1, 0, 32, .ro, 0, []⟩
def HNG_MISMATCH_WIN : Reg := ⟨423, 0x80024, 0, 0, 1, 1, 0, 32, .ro, 0, []⟩
def HNG_PROMOTIONS : Reg := ⟨424, 0x80028, 0, 0, 1, 1, 0, 32, .ro, 0, []⟩
def HNG_LINK_ERR_COUNT : Reg := ⟨425, 0x80030, 4, 0, 1, 2, 0, 32, .ro, 0, []⟩
def HNG_FOLLOW_ME : Reg := ⟨426, 0x80040, 4, 0, 1, 8, 0, 7, .ro, 0, []⟩
def HNG_FOLLOW_OTHER : Reg := ⟨427, 0x80040, 4, 0, 1, 8, 8, 7, .ro, 0, []⟩
def HNG_FOLLOW_NONE : Reg := ⟨428, 0x80040, 4, 0, 1, 8, 16, 7, .ro, 0, []⟩
def HNG_RESYNC_BULK_PCT : Reg := ⟨429, 0x80060, 0, 0, 1, 1, 0, 8, .ro, 0, []⟩
def HNG_RESYNC_MATCHED : Reg := ⟨430, 0x80060, 0, 0, 1, 1, 16, 16, .ro, 0, []⟩
def FAB_CFG_NODE_REQ : Reg := ⟨431, 0x70000, 0, 0, 1, 1, 0, 6, .rw, 0, []⟩
def FAB_CFG_ANY : Reg := ⟨432, 0x70000, 0, 0, 1, 1, 6, 1, .rw, 0, []⟩
def FAB_CFG_EN : Reg := ⟨433, 0x70000, 0, 0, 1, 1, 7, 1, .rw, 0, []⟩
def FAB_CFG_GATE_EN : Reg := ⟨434, 0x70000, 0, 0, 1, 1, 8, 4, .rw, 0, []⟩
def FAB_CFG_PRIO : Reg := ⟨435, 0x70000, 0, 0, 1, 1, 16, 8, .rw, 128, []⟩
def FAB_FABRIC_ID_ID : Reg := ⟨436, 0x70004, 0, 0, 1, 1, 0, 32, .rw, 0, []⟩
def FAB_CMD_JOIN : Reg := ⟨437, 0x70008, 0, 0, 1, 1, 0, 1, .wo, 0, []⟩
def FAB_CMD_TICK : Reg := ⟨438, 0x70008, 0, 0, 1, 1, 1, 1, .wo, 0, []⟩
def FAB_CMD_TICK_LEN : Reg := ⟨439, 0x70008, 0, 0, 1, 1, 8, 4, .wo, 0, []⟩
def FAB_STATUS_STATE : Reg := ⟨440, 0x7000C, 0, 0, 1, 1, 0, 2, .ro, 0, []⟩
def FAB_STATUS_ROOT : Reg := ⟨441, 0x7000C, 0, 0, 1, 1, 2, 1, .ro, 0, []⟩
def FAB_STATUS_CONVERGED : Reg := ⟨442, 0x7000C, 0, 0, 1, 1, 3, 1, .ro, 0, []⟩
def FAB_STATUS_NODE : Reg := ⟨443, 0x7000C, 0, 0, 1, 1, 4, 6, .ro, 0, []⟩
def FAB_STATUS_DUP : Reg := ⟨444, 0x7000C, 0, 0, 1, 1, 10, 1, .ro, 0, []⟩
def FAB_STATUS_CFG_DIFF : Reg := ⟨445, 0x7000C, 0, 0, 1, 1, 11, 1, .ro, 0, []⟩
def FAB_STATUS_ERR_STATE : Reg := ⟨446, 0x7000C, 0, 0, 1, 1, 12, 1, .w1c, 0, []⟩
def FAB_STATUS_ESC_SEEN : Reg := ⟨447, 0x7000C, 0, 0, 1, 1, 13, 1, .w1c, 0, []⟩
def FAB_STATUS_LATE_SEEN : Reg := ⟨448, 0x7000C, 0, 0, 1, 1, 14, 1, .w1c, 0, []⟩
def FAB_STATUS_HOP_SEEN : Reg := ⟨449, 0x7000C, 0, 0, 1, 1, 15, 1, .w1c, 0, []⟩
def FAB_STATUS_TIME_SEEN : Reg := ⟨450, 0x7000C, 0, 0, 1, 1, 16, 1, .w1c, 0, []⟩
def FAB_STATUS_CELL_ERR_SEEN : Reg := ⟨451, 0x7000C, 0, 0, 1, 1, 17, 1, .w1c, 0, []⟩
def FAB_STATUS_DISCARD_SEEN : Reg := ⟨452, 0x7000C, 0, 0, 1, 1, 18, 1, .w1c, 0, []⟩
def FAB_STATUS_CTRLQ_SEEN : Reg := ⟨453, 0x7000C, 0, 0, 1, 1, 19, 1, .w1c, 0, []⟩
def FAB_STATUS_NODES : Reg := ⟨454, 0x7000C, 0, 0, 1, 1, 24, 7, .ro, 0, []⟩
def FAB_ROOT_NODE : Reg := ⟨455, 0x70010, 0, 0, 1, 1, 0, 6, .ro, 0, []⟩
def FAB_ROOT_DEPTH : Reg := ⟨456, 0x70010, 0, 0, 1, 1, 8, 4, .ro, 0, []⟩
def FAB_ROOT_SEQ : Reg := ⟨457, 0x70010, 0, 0, 1, 1, 16, 16, .ro, 0, []⟩
def FAB_GEN_GEN : Reg := ⟨458, 0x70014, 0, 0, 1, 1, 0, 16, .ro, 0, []⟩
def FAB_GEN_NEXT : Reg := ⟨459, 0x70014, 0, 0, 1, 1, 16, 16, .ro, 0, []⟩
def FAB_GEN_WIN : Reg := ⟨460, 0x70018, 0, 0, 1, 1, 0, 32, .ro, 0, []⟩
def FAB_TIMING_ESCAPE_WAIT : Reg := ⟨461, 0x7001C, 0, 0, 1, 1, 0, 8, .rw, 20, []⟩
def FAB_TIMING_FLOW_STALL : Reg := ⟨462, 0x7001C, 0, 0, 1, 1, 8, 8, .rw, 60, []⟩
def FAB_TIMING_TIME_TOL : Reg := ⟨463, 0x7001C, 0, 0, 1, 1, 16, 8, .rw, 20, []⟩
def FAB_TIMING_ROOT_WAIT : Reg := ⟨464, 0x7001C, 0, 0, 1, 1, 24, 8, .rw, 30, []⟩
def FAB_GATE_UP : Reg := ⟨465, 0x70040, 16, 0, 1, 4, 0, 1, .ro, 0, []⟩
def FAB_GATE_LOCK : Reg := ⟨466, 0x70040, 16, 0, 1, 4, 1, 1, .ro, 0, []⟩
def FAB_GATE_TREE : Reg := ⟨467, 0x70040, 16, 0, 1, 4, 2, 1, .ro, 0, []⟩
def FAB_GATE_UPLINK : Reg := ⟨468, 0x70040, 16, 0, 1, 4, 3, 1, .ro, 0, []⟩
def FAB_GATE_PEER : Reg := ⟨469, 0x70040, 16, 0, 1, 4, 4, 8, .ro, 0, []⟩
def FAB_GATE_PEER_VALID : Reg := ⟨470, 0x70040, 16, 0, 1, 4, 12, 1, .ro, 0, []⟩
def FAB_GATE_CREDITS : Reg := ⟨471, 0x70044, 16, 0, 1, 4, 0, 32, .ro, 0, []⟩
def FAB_GATE_ERRORS : Reg := ⟨472, 0x70048, 16, 0, 1, 4, 0, 32, .ro, 0, []⟩
def FAB_GATE_LOST : Reg := ⟨473, 0x7004C, 16, 0, 1, 4, 0, 32, .ro, 0, []⟩
def FAB_NBR_OFFSET : Reg := ⟨474, 0x70080, 8, 0, 1, 4, 0, 32, .ro, 0, []⟩
def FAB_NBR_ASYM : Reg := ⟨475, 0x70084, 8, 0, 1, 4, 0, 16, .rw, 0, []⟩
def FAB_ESCAPES : Reg := ⟨476, 0x700A0, 0, 0, 1, 1, 0, 32, .ro, 0, []⟩
def FAB_LATE : Reg := ⟨477, 0x700A4, 0, 0, 1, 1, 0, 32, .ro, 0, []⟩
def FAB_DISCARDS : Reg := ⟨478, 0x700A8, 0, 0, 1, 1, 0, 32, .ro, 0, []⟩
def FAB_CTRLQ_DEPTH : Reg := ⟨479, 0x700AC, 0, 0, 1, 1, 0, 9, .ro, 0, []⟩
def FAB_CTRLQ_WM_HIGH : Reg := ⟨480, 0x700B0, 0, 0, 1, 1, 0, 9, .rw, 192, []⟩
def FAB_CTRLQ_HI_SEEN : Reg := ⟨481, 0x700AC, 0, 0, 1, 1, 9, 1, .w1c, 0, []⟩
def FAB_CTRLQ_LO_SEEN : Reg := ⟨482, 0x700AC, 0, 0, 1, 1, 10, 1, .w1c, 0, []⟩
def FAB_CTRLQ_LOST : Reg := ⟨483, 0x700AC, 0, 0, 1, 1, 16, 16, .ro, 0, []⟩
def FAB_CTRLQ_WM_LOW : Reg := ⟨484, 0x700B0, 0, 0, 1, 1, 16, 16, .rw, 16, []⟩
def FAB_FLOW_SEL_GSRC : Reg := ⟨485, 0x70100, 0, 0, 1, 1, 0, 14, .rw, 0, []⟩
def FAB_ROUTE_MIN : Reg := ⟨486, 0x70400, 4, 0, 1, 256, 0, 4, .ro, 0, []⟩
def FAB_ROUTE_UP : Reg := ⟨487, 0x70400, 4, 0, 1, 256, 4, 2, .ro, 0, []⟩
def FAB_ROUTE_UP_VALID : Reg := ⟨488, 0x70400, 4, 0, 1, 256, 6, 1, .ro, 0, []⟩
def FAB_ROUTE_LOCAL : Reg := ⟨489, 0x70400, 4, 0, 1, 256, 7, 1, .ro, 0, []⟩
def FAB_ROUTE_DOWN : Reg := ⟨490, 0x70400, 4, 0, 1, 256, 8, 4, .ro, 0, []⟩
def FAB_ROUTE_HOPS : Reg := ⟨491, 0x70400, 4, 0, 1, 256, 12, 4, .ro, 0, []⟩
def FAB_ROUTE_VALID : Reg := ⟨492, 0x70400, 4, 0, 1, 256, 16, 1, .ro, 0, []⟩
def NET_CFG_EN : Reg := ⟨493, 0x60000, 16384, 0, 1, 4, 0, 1, .rw, 0, []⟩
def NET_CFG_RATE : Reg := ⟨494, 0x60000, 16384, 0, 1, 4, 1, 3, .rw, 0, [0, 0, 3, 3]⟩
def NET_CFG_AN_EN : Reg := ⟨495, 0x60000, 16384, 0, 1, 4, 4, 1, .rw, 1, []⟩
def NET_CFG_PROMISC : Reg := ⟨496, 0x60000, 16384, 0, 1, 4, 5, 1, .rw, 0, []⟩
def NET_CFG_PAUSE_EN : Reg := ⟨497, 0x60000, 16384, 0, 1, 4, 6, 1, .rw, 0, []⟩
def NET_CFG_PREEMPT_EN : Reg := ⟨498, 0x60000, 16384, 0, 1, 4, 7, 1, .rw, 0, []⟩
def NET_CFG_VERIFY_DIS : Reg := ⟨499, 0x60000, 16384, 0, 1, 4, 8, 1, .rw, 0, []⟩
def NET_CFG_ADD_FRAG : Reg := ⟨500, 0x60000, 16384, 0, 1, 4, 9, 2, .rw, 0, []⟩
def NET_CFG_EXPRESS_B : Reg := ⟨501, 0x60000, 16384, 0, 1, 4, 11, 1, .rw, 1, []⟩
def NET_CFG_MAXLEN : Reg := ⟨502, 0x60000, 16384, 0, 1, 4, 16, 11, .rw, 1522, []⟩
def NET_STATUS_LINK_UP : Reg := ⟨503, 0x60004, 16384, 0, 1, 4, 0, 1, .ro, 0, []⟩
def NET_STATUS_RATE_UP : Reg := ⟨504, 0x60004, 16384, 0, 1, 4, 1, 3, .ro, 0, []⟩
def NET_STATUS_PREEMPT : Reg := ⟨505, 0x60004, 16384, 0, 1, 4, 4, 2, .ro, 0, []⟩
def NET_STATUS_PAUSED : Reg := ⟨506, 0x60004, 16384, 0, 1, 4, 6, 1, .ro, 0, []⟩
def NET_STATUS_LAST : Reg := ⟨507, 0x60004, 16384, 0, 1, 4, 8, 4, .ro, 0, []⟩
def NET_STATUS_ERR_STATE : Reg := ⟨508, 0x60004, 16384, 0, 1, 4, 12, 1, .w1c, 0, []⟩
def NET_STATUS_LINK_SEEN : Reg := ⟨509, 0x60004, 16384, 0, 1, 4, 13, 1, .w1c, 0, []⟩
def NET_STATUS_PAUSE_SEEN : Reg := ⟨510, 0x60004, 16384, 0, 1, 4, 14, 1, .w1c, 0, []⟩
def NET_STATUS_LATE_SEEN : Reg := ⟨511, 0x60004, 16384, 0, 1, 4, 15, 1, .w1c, 0, []⟩
def NET_STATUS_LREP_LOST_SEEN : Reg := ⟨512, 0x60004, 16384, 0, 1, 4, 16, 1, .w1c, 0, []⟩
def NET_STATUS_RX_ERR_SEEN : Reg := ⟨513, 0x60004, 16384, 0, 1, 4, 17, 1, .w1c, 0, []⟩
def NET_CMD_STAT_CLR : Reg := ⟨514, 0x60008, 16384, 0, 1, 4, 0, 1, .wo, 0, []⟩
def NET_CMD_LREP_POP : Reg := ⟨515, 0x60008, 16384, 0, 1, 4, 1, 1, .wo, 0, []⟩
def NET_CMD_VERIFY : Reg := ⟨516, 0x60008, 16384, 0, 1, 4, 2, 1, .wo, 0, []⟩
def NET_MAC_LO : Reg := ⟨517, 0x60010, 16384, 0, 1, 4, 0, 32, .rw, 0, []⟩
def NET_MAC_HI : Reg := ⟨518, 0x60014, 16384, 0, 1, 4, 0, 16, .rw, 0, []⟩
def NET_IP : Reg := ⟨519, 0x60018, 16384, 0, 1, 4, 0, 32, .rw, 0, []⟩
def NET_VLAN_VID : Reg := ⟨520, 0x6001C, 16384, 0, 1, 4, 0, 12, .rw, 0, []⟩
def NET_MCAST_ADDR_LO : Reg := ⟨521, 0x60040, 16384, 8, 16, 64, 0, 32, .rw, 0, []⟩
def NET_MCAST_ADDR_HI : Reg := ⟨522, 0x60044, 16384, 8, 16, 64, 0, 16, .rw, 0, []⟩
def NET_MCAST_VALID : Reg := ⟨523, 0x60044, 16384, 8, 16, 64, 16, 1, .rw, 0, []⟩
def NET_TS_ADJ_RX : Reg := ⟨524, 0x600C0, 16384, 0, 1, 4, 0, 16, .rw, 0, []⟩
def NET_TS_ADJ_TX : Reg := ⟨525, 0x600C0, 16384, 0, 1, 4, 16, 16, .rw, 0, []⟩
def NET_LAUNCH_LATE_TOL : Reg := ⟨526, 0x600C4, 16384, 0, 1, 4, 0, 8, .rw, 10, []⟩
def NET_LAUNCH_HIGH : Reg := ⟨527, 0x600C4, 16384, 0, 1, 4, 16, 6, .rw, 48, []⟩
def NET_LAUNCH_LOW : Reg := ⟨528, 0x600C4, 16384, 0, 1, 4, 24, 6, .rw, 16, []⟩
def NET_PAUSE_QUANTA : Reg := ⟨529, 0x600C8, 16384, 0, 1, 4, 0, 16, .ro, 0, []⟩
def NET_RING_BASE_LO : Reg := ⟨530, 0x60100, 16384, 16, 2, 8, 0, 32, .rw, 0, []⟩
def NET_RING_BASE_HI : Reg := ⟨531, 0x60104, 16384, 16, 2, 8, 0, 8, .rw, 0, []⟩
def NET_RING_SIZE : Reg := ⟨532, 0x60104, 16384, 16, 2, 8, 16, 4, .rw, 8, []⟩
def NET_RING_HEAD : Reg := ⟨533, 0x60108, 16384, 16, 2, 8, 0, 12, .ro, 0, []⟩
def NET_RING_TAIL : Reg := ⟨534, 0x6010C, 16384, 16, 2, 8, 0, 12, .rw, 0, []⟩
def NET_LREP_STAT_DEPTH : Reg := ⟨535, 0x60150, 16384, 0, 1, 4, 0, 7, .ro, 0, []⟩
def NET_LREP_STAT_HI_SEEN : Reg := ⟨536, 0x60150, 16384, 0, 1, 4, 8, 1, .w1c, 0, []⟩
def NET_LREP_STAT_LO_SEEN : Reg := ⟨537, 0x60150, 16384, 0, 1, 4, 9, 1, .w1c, 0, []⟩
def NET_LREP_STAT_LOST : Reg := ⟨538, 0x60150, 16384, 0, 1, 4, 16, 16, .ro, 0, []⟩
def NET_STAT : Reg := ⟨539, 0x60400, 16384, 4, 24, 96, 0, 32, .ro, 0, []⟩
def NET_STAT_HALF : Reg := ⟨540, 0x60480, 16384, 0, 1, 4, 0, 24, .w1c, 0, []⟩
def NET_STREAM_CFG_STALL_TIME : Reg := ⟨541, 0x61000, 0, 0, 1, 1, 0, 10, .rw, 20, []⟩
def NET_RXS_EN : Reg := ⟨542, 0x61400, 32, 0, 1, 64, 0, 1, .rw, 0, []⟩
def NET_RXS_PORT : Reg := ⟨543, 0x61400, 32, 0, 1, 64, 1, 2, .rw, 0, []⟩
def NET_RXS_CLASS : Reg := ⟨544, 0x61400, 32, 0, 1, 64, 3, 2, .rw, 3, []⟩
def NET_RXS_L24 : Reg := ⟨545, 0x61400, 32, 0, 1, 64, 5, 1, .rw, 1, []⟩
def NET_RXS_PTIME : Reg := ⟨546, 0x61400, 32, 0, 1, 64, 6, 2, .rw, 0, []⟩
def NET_RXS_CHANS : Reg := ⟨547, 0x61400, 32, 0, 1, 64, 8, 7, .rw, 2, []⟩
def NET_RXS_SRC_FILT : Reg := ⟨548, 0x61400, 32, 0, 1, 64, 15, 1, .rw, 0, []⟩
def NET_RXS_POOL : Reg := ⟨549, 0x61400, 32, 0, 1, 64, 16, 8, .rw, 0, []⟩
def NET_RXS_PT : Reg := ⟨550, 0x61400, 32, 0, 1, 64, 24, 7, .rw, 96, []⟩
def NET_RXS_SSRC_FILT : Reg := ⟨551, 0x61400, 32, 0, 1, 64, 31, 1, .rw, 0, []⟩
def NET_RXS_DST_IP : Reg := ⟨552, 0x61404, 32, 0, 1, 64, 0, 32, .rw, 0, []⟩
def NET_RXS_UDP_PORT : Reg := ⟨553, 0x61408, 32, 0, 1, 64, 0, 16, .rw, 5004, []⟩
def NET_RXS_LINK_OFFSET : Reg := ⟨554, 0x61408, 32, 0, 1, 64, 16, 16, .rw, 24, []⟩
def NET_RXS_SRC_IP : Reg := ⟨555, 0x6140C, 32, 0, 1, 64, 0, 32, .rw, 0, []⟩
def NET_RXS_RTP_OFFSET : Reg := ⟨556, 0x61410, 32, 0, 1, 64, 0, 32, .rw, 0, []⟩
def NET_RXS_SSRC : Reg := ⟨557, 0x61414, 32, 0, 1, 64, 0, 32, .rw, 0, []⟩
def NET_RXS_STAT_STATE : Reg := ⟨558, 0x61C00, 16, 0, 1, 64, 0, 2, .ro, 0, []⟩
def NET_RXS_STAT_FLUSHES : Reg := ⟨559, 0x61C00, 16, 0, 1, 64, 8, 8, .ro, 0, []⟩
def NET_RXS_STAT_MISSING : Reg := ⟨560, 0x61C00, 16, 0, 1, 64, 16, 16, .ro, 0, []⟩
def NET_RXS_STAT_LATE : Reg := ⟨561, 0x61C04, 16, 0, 1, 64, 0, 16, .ro, 0, []⟩
def NET_RXS_STAT_JUMP : Reg := ⟨562, 0x61C04, 16, 0, 1, 64, 16, 16, .ro, 0, []⟩
def NET_RXS_STAT_DUP : Reg := ⟨563, 0x61C08, 16, 0, 1, 64, 0, 8, .ro, 0, []⟩
def NET_RXS_STAT_BADPKT : Reg := ⟨564, 0x61C08, 16, 0, 1, 64, 8, 8, .ro, 0, []⟩
def NET_RXS_STAT_SSRC_CHANGE : Reg := ⟨565, 0x61C08, 16, 0, 1, 64, 16, 8, .ro, 0, []⟩
def NET_RXS_STAT_REBASE : Reg := ⟨566, 0x61C0C, 16, 0, 1, 64, 0, 32, .ro, 0, []⟩
def NET_TXS_EN : Reg := ⟨567, 0x62400, 32, 0, 1, 64, 0, 1, .rw, 0, []⟩
def NET_TXS_PORT : Reg := ⟨568, 0x62400, 32, 0, 1, 64, 1, 2, .rw, 0, []⟩
def NET_TXS_CLASS : Reg := ⟨569, 0x62400, 32, 0, 1, 64, 3, 2, .rw, 3, []⟩
def NET_TXS_L24 : Reg := ⟨570, 0x62400, 32, 0, 1, 64, 5, 1, .rw, 1, []⟩
def NET_TXS_PTIME : Reg := ⟨571, 0x62400, 32, 0, 1, 64, 6, 2, .rw, 0, []⟩
def NET_TXS_CHANS : Reg := ⟨572, 0x62400, 32, 0, 1, 64, 8, 7, .rw, 2, []⟩
def NET_TXS_MAP : Reg := ⟨573, 0x62400, 32, 0, 1, 64, 15, 7, .rw, 0, []⟩
def NET_TXS_PT : Reg := ⟨574, 0x62400, 32, 0, 1, 64, 22, 7, .rw, 96, []⟩
def NET_TXS_DST_IP : Reg := ⟨575, 0x62404, 32, 0, 1, 64, 0, 32, .rw, 0, []⟩
def NET_TXS_DST_PORT : Reg := ⟨576, 0x62408, 32, 0, 1, 64, 0, 16, .rw, 5004, []⟩
def NET_TXS_SRC_PORT : Reg := ⟨577, 0x62408, 32, 0, 1, 64, 16, 16, .rw, 5004, []⟩
def NET_TXS_DST_MAC_LO : Reg := ⟨578, 0x6240C, 32, 0, 1, 64, 0, 32, .rw, 0, []⟩
def NET_TXS_DST_MAC_HI : Reg := ⟨579, 0x62410, 32, 0, 1, 64, 0, 16, .rw, 0, []⟩
def NET_TXS_DSCP : Reg := ⟨580, 0x62410, 32, 0, 1, 64, 16, 6, .rw, 34, []⟩
def NET_TXS_TTL : Reg := ⟨581, 0x62410, 32, 0, 1, 64, 22, 8, .rw, 16, []⟩
def NET_TXS_SSRC : Reg := ⟨582, 0x62414, 32, 0, 1, 64, 0, 32, .rw, 0, []⟩
def NET_TXS_RTP_OFFSET : Reg := ⟨583, 0x62418, 32, 0, 1, 64, 0, 32, .rw, 0, []⟩
def NET_TXS_VID : Reg := ⟨584, 0x6241C, 32, 0, 1, 64, 0, 12, .rw, 0, []⟩
def NET_TXS_PCP : Reg := ⟨585, 0x6241C, 32, 0, 1, 64, 12, 3, .rw, 5, []⟩
def NET_TXS_VLAN_EN : Reg := ⟨586, 0x6241C, 32, 0, 1, 64, 15, 1, .rw, 0, []⟩
def NET_TXMAP_KIND : Reg := ⟨587, 0x62C00, 4, 0, 1, 128, 0, 2, .rw, 0, []⟩
def NET_TXMAP_INDEX : Reg := ⟨588, 0x62C00, 4, 0, 1, 128, 2, 10, .rw, 0, []⟩
def TIME_CTRL_SERVO_EN : Reg := ⟨589, 0x50000, 0, 0, 1, 1, 0, 1, .rw, 0, []⟩
def TIME_CTRL_STEP_EN : Reg := ⟨590, 0x50000, 0, 0, 1, 1, 1, 1, .rw, 1, []⟩
def TIME_STATUS_SERVO : Reg := ⟨591, 0x50004, 0, 0, 1, 1, 0, 2, .ro, 0, []⟩
def TIME_STATUS_SLAVE : Reg := ⟨592, 0x50004, 0, 0, 1, 1, 2, 1, .ro, 0, []⟩
def TIME_STATUS_LAST : Reg := ⟨593, 0x50004, 0, 0, 1, 1, 8, 4, .ro, 0, []⟩
def TIME_STATUS_ERR_STATE : Reg := ⟨594, 0x50004, 0, 0, 1, 1, 12, 1, .w1c, 0, []⟩
def TIME_STATUS_STEP_SEEN : Reg := ⟨595, 0x50004, 0, 0, 1, 1, 13, 1, .w1c, 0, []⟩
def TIME_STATUS_LIMIT_SEEN : Reg := ⟨596, 0x50004, 0, 0, 1, 1, 14, 1, .w1c, 0, []⟩
def TIME_STATUS_MASTER_SEEN : Reg := ⟨597, 0x50004, 0, 0, 1, 1, 15, 1, .w1c, 0, []⟩
def TIME_NOW_LO : Reg := ⟨598, 0x50008, 0, 0, 1, 1, 0, 32, .ro, 0, []⟩
def TIME_NOW_HI : Reg := ⟨599, 0x5000C, 0, 0, 1, 1, 0, 32, .ro, 0, []⟩
def TIME_RATE : Reg := ⟨600, 0x50010, 0, 0, 1, 1, 0, 32, .rw, 0, []⟩
def TIME_AUDIO_TRIM : Reg := ⟨601, 0x50014, 0, 0, 1, 1, 0, 32, .ro, 0, []⟩
def TIME_OFFSET : Reg := ⟨602, 0x50018, 0, 0, 1, 1, 0, 32, .ro, 0, []⟩
def TIME_SERVO_KP : Reg := ⟨603, 0x5001C, 0, 0, 1, 1, 0, 16, .rw, 137, []⟩
def TIME_SERVO_KI : Reg := ⟨604, 0x5001C, 0, 0, 1, 1, 16, 16, .rw, 4, []⟩
def TIME_STEP_THRESH_THRESH : Reg := ⟨605, 0x50020, 0, 0, 1, 1, 0, 20, .rw, 1000, []⟩
def TIME_ADJ : Reg := ⟨606, 0x50024, 0, 0, 1, 1, 0, 32, .wo, 0, []⟩
def TIME_STEPS : Reg := ⟨607, 0x50028, 0, 0, 1, 1, 0, 32, .ro, 0, []⟩
def TIME_PTP_CFG_PROFILE : Reg := ⟨608, 0x50040, 0, 0, 1, 1, 0, 2, .rw, 1, []⟩
def TIME_PTP_CFG_DOMAIN : Reg := ⟨609, 0x50040, 0, 0, 1, 1, 2, 8, .rw, 0, []⟩
def TIME_PTP_CFG_PRIO1 : Reg := ⟨610, 0x50040, 0, 0, 1, 1, 10, 8, .rw, 128, []⟩
def TIME_PTP_CFG_PRIO2 : Reg := ⟨611, 0x50040, 0, 0, 1, 1, 18, 8, .rw, 128, []⟩
def TIME_PTP_CFG_SLAVE_ONLY : Reg := ⟨612, 0x50040, 0, 0, 1, 1, 26, 1, .rw, 1, []⟩
def TIME_PTP_PORT_EN : Reg := ⟨613, 0x50050, 4, 0, 1, 4, 0, 1, .rw, 0, []⟩
def TIME_PTP_PORT_P2P : Reg := ⟨614, 0x50050, 4, 0, 1, 4, 1, 1, .rw, 0, []⟩
def TIME_PTP_PORT_UDP : Reg := ⟨615, 0x50050, 4, 0, 1, 4, 2, 1, .rw, 1, []⟩
def TIME_PTP_PORT_OVERRIDE : Reg := ⟨616, 0x50050, 4, 0, 1, 4, 3, 1, .rw, 0, []⟩
def TIME_PTP_PORT_LOG_SYNC : Reg := ⟨617, 0x50050, 4, 0, 1, 4, 4, 4, .rw, 0, []⟩
def TIME_PTP_PORT_LOG_ANN : Reg := ⟨618, 0x50050, 4, 0, 1, 4, 8, 4, .rw, 0, []⟩
def TIME_PTP_PORT_STATE : Reg := ⟨619, 0x50050, 4, 0, 1, 4, 12, 4, .ro, 0, []⟩
def TIME_GM_LO : Reg := ⟨620, 0x50060, 0, 0, 1, 1, 0, 32, .ro, 0, []⟩
def TIME_GM_HI : Reg := ⟨621, 0x50064, 0, 0, 1, 1, 0, 32, .ro, 0, []⟩
def TIME_PATH : Reg := ⟨622, 0x50068, 0, 0, 1, 1, 0, 32, .ro, 0, []⟩
def AUD_CTRL_AES_EN : Reg := ⟨623, 0xB0000, 0, 0, 1, 1, 0, 1, .rw, 0, []⟩
def AUD_CTRL_MADI_EN : Reg := ⟨624, 0xB0000, 0, 0, 1, 1, 1, 1, .rw, 0, []⟩
def AUD_CTRL_TDM_EN : Reg := ⟨625, 0xB0000, 0, 0, 1, 1, 2, 4, .rw, 0, []⟩
def AUD_CTRL_ANA_EN : Reg := ⟨626, 0xB0000, 0, 0, 1, 1, 6, 1, .rw, 0, []⟩
def AUD_STATUS_LAST : Reg := ⟨627, 0xB0004, 0, 0, 1, 1, 0, 4, .ro, 0, []⟩
def AUD_STATUS_ERR_STATE : Reg := ⟨628, 0xB0004, 0, 0, 1, 1, 8, 1, .w1c, 0, []⟩
def AUD_STATUS_LINK_SEEN : Reg := ⟨629, 0xB0004, 0, 0, 1, 1, 9, 1, .w1c, 0, []⟩
def AUD_STATUS_SLIP_SEEN : Reg := ⟨630, 0xB0004, 0, 0, 1, 1, 10, 1, .w1c, 0, []⟩
def AUD_STATUS_BAD_SEEN : Reg := ⟨631, 0xB0004, 0, 0, 1, 1, 11, 1, .w1c, 0, []⟩
def AUD_STATUS_OVL_SEEN : Reg := ⟨632, 0xB0004, 0, 0, 1, 1, 12, 1, .w1c, 0, []⟩
def AUD_STATUS_EMIC_SEEN : Reg := ⟨633, 0xB0004, 0, 0, 1, 1, 13, 1, .w1c, 0, []⟩
def AUD_AES_IN_SRC : Reg := ⟨634, 0xB0100, 8, 0, 1, 8, 0, 1, .rw, 0, []⟩
def AUD_TDM_SLAVE : Reg := ⟨635, 0xB01A0, 8, 0, 1, 4, 0, 1, .rw, 0, []⟩
def AUD_TDM_FS_DELAY : Reg := ⟨636, 0xB01A0, 8, 0, 1, 4, 1, 1, .rw, 1, []⟩
def AUD_TDM_FS_WIDE : Reg := ⟨637, 0xB01A0, 8, 0, 1, 4, 2, 1, .rw, 0, []⟩
def AUD_AES_IN_LINK : Reg := ⟨638, 0xB0104, 8, 0, 1, 8, 0, 2, .ro, 0, []⟩
def AUD_MADI_IN_LINK : Reg := ⟨639, 0xB0184, 8, 0, 1, 2, 0, 2, .ro, 0, []⟩
def AUD_TDM_LINK : Reg := ⟨640, 0xB01A4, 8, 0, 1, 4, 0, 2, .ro, 0, []⟩
def AUD_AES_IN_SRC_LOCK : Reg := ⟨641, 0xB0104, 8, 0, 1, 8, 2, 1, .ro, 0, []⟩
def AUD_AES_IN_RATE : Reg := ⟨642, 0xB0104, 8, 0, 1, 8, 4, 4, .ro, 0, []⟩
def AUD_MADI_IN_RATE : Reg := ⟨643, 0xB0184, 8, 0, 1, 2, 4, 4, .ro, 0, []⟩
def AUD_AES_IN_SLIPS : Reg := ⟨644, 0xB0104, 8, 0, 1, 8, 8, 8, .ro, 0, []⟩
def AUD_MADI_IN_SLIPS : Reg := ⟨645, 0xB0184, 8, 0, 1, 2, 8, 8, .ro, 0, []⟩
def AUD_TDM_SLIPS : Reg := ⟨646, 0xB01A4, 8, 0, 1, 4, 8, 8, .ro, 0, []⟩
def AUD_AES_IN_BAD : Reg := ⟨647, 0xB0104, 8, 0, 1, 8, 16, 8, .ro, 0, []⟩
def AUD_MADI_IN_BAD : Reg := ⟨648, 0xB0184, 8, 0, 1, 2, 16, 8, .ro, 0, []⟩
def AUD_TDM_BAD : Reg := ⟨649, 0xB01A4, 8, 0, 1, 4, 16, 8, .ro, 0, []⟩
def AUD_AES_IN_LOSSES : Reg := ⟨650, 0xB0104, 8, 0, 1, 8, 24, 8, .ro, 0, []⟩
def AUD_MADI_IN_LOSSES : Reg := ⟨651, 0xB0184, 8, 0, 1, 2, 24, 8, .ro, 0, []⟩
def AUD_TDM_LOSSES : Reg := ⟨652, 0xB01A4, 8, 0, 1, 4, 24, 8, .ro, 0, []⟩
def AUD_CS_SEL_INPUT : Reg := ⟨653, 0xB01C0, 0, 0, 1, 1, 0, 4, .rw, 0, []⟩
def AUD_ANA_GAIN : Reg := ⟨654, 0xB0200, 8, 0, 1, 5, 0, 3, .rw, 0, []⟩
def AUD_ANA_RANGE : Reg := ⟨655, 0xB0200, 8, 0, 1, 5, 3, 1, .rw, 0, []⟩
def AUD_ANA_SUP_EN : Reg := ⟨656, 0xB0200, 8, 0, 1, 5, 4, 1, .rw, 0, []⟩
def AUD_ANA_SUP : Reg := ⟨657, 0xB0204, 8, 0, 1, 5, 0, 2, .ro, 0, []⟩
def AUD_ANA_OVL : Reg := ⟨658, 0xB0204, 8, 0, 1, 5, 8, 8, .ro, 0, []⟩
def AUD_ANA_PEAK : Reg := ⟨659, 0xB0204, 8, 0, 1, 5, 16, 16, .ro, 32768, []⟩
def AUD_OUTMAP_KIND : Reg := ⟨660, 0xB1000, 4, 0, 1, 402, 0, 2, .rw, 0, []⟩
def AUD_OUTMAP_INDEX : Reg := ⟨661, 0xB1000, 4, 0, 1, 402, 2, 10, .rw, 0, []⟩
def AMP_CTRL_EN : Reg := ⟨662, 0xC0000, 0, 0, 1, 1, 0, 8, .rw, 0, []⟩
def AMP_STATUS_LAST : Reg := ⟨663, 0xC0004, 0, 0, 1, 1, 0, 4, .ro, 0, []⟩
def AMP_STATUS_ERR_STATE : Reg := ⟨664, 0xC0004, 0, 0, 1, 1, 8, 1, .w1c, 0, []⟩
def AMP_STATUS_LINK_SEEN : Reg := ⟨665, 0xC0004, 0, 0, 1, 1, 9, 1, .w1c, 0, []⟩
def AMP_STATUS_BCH_ERR_SEEN : Reg := ⟨666, 0xC0004, 0, 0, 1, 1, 10, 1, .w1c, 0, []⟩
def AMP_STATUS_PRESENT_SEEN : Reg := ⟨667, 0xC0004, 0, 0, 1, 1, 11, 1, .w1c, 0, []⟩
def AMP_STATUS_FAULT_SEEN : Reg := ⟨668, 0xC0004, 0, 0, 1, 1, 12, 1, .w1c, 0, []⟩
def AMP_STATUS_CHAN_SEEN : Reg := ⟨669, 0xC0004, 0, 0, 1, 1, 13, 1, .w1c, 0, []⟩
def AMP_PILOT_EN : Reg := ⟨670, 0xC0008, 0, 0, 1, 1, 0, 1, .rw, 0, []⟩
def AMP_PILOT_LVL : Reg := ⟨671, 0xC0008, 0, 0, 1, 1, 1, 3, .rw, 0, []⟩
def AMP_PILOT_FREQ : Reg := ⟨672, 0xC0008, 0, 0, 1, 1, 4, 4, .rw, 0, []⟩
def AMP_LINK_STATE : Reg := ⟨673, 0xC0040, 16, 0, 1, 8, 0, 2, .ro, 0, []⟩
def AMP_LINK_ALL_LINKS : Reg := ⟨674, 0xC0040, 16, 0, 1, 8, 2, 1, .ro, 0, []⟩
def AMP_LINK_AMPS : Reg := ⟨675, 0xC0040, 16, 0, 1, 8, 8, 6, .ro, 0, []⟩
def AMP_LINK_BCH_BAD : Reg := ⟨676, 0xC0044, 16, 0, 1, 8, 0, 32, .ro, 0, []⟩
def AMP_LINK_RPT_BAD : Reg := ⟨677, 0xC0048, 16, 0, 1, 8, 0, 32, .ro, 0, []⟩
def AMP_LINK_PRESENT : Reg := ⟨678, 0xC004C, 16, 0, 1, 8, 0, 32, .ro, 0, []⟩
def AMP_MSG_TX_ADDR : Reg := ⟨679, 0xC00C0, 4, 0, 1, 8, 0, 5, .rw, 0, []⟩
def AMP_MSG_TX_BUSY : Reg := ⟨680, 0xC00C0, 4, 0, 1, 8, 7, 1, .ro, 0, []⟩
def AMP_MSG_TX_DATA : Reg := ⟨681, 0xC00C0, 4, 0, 1, 8, 8, 16, .rw, 0, []⟩
def AMP_MSG_TX_SEND : Reg := ⟨682, 0xC00C0, 4, 0, 1, 8, 31, 1, .wo, 0, []⟩
def AMP_RPT_OCTETS : Reg := ⟨683, 0xC1000, 16, 4, 3, 768, 0, 32, .ro, 0, []⟩
def AMP_RPT_OCTETS12 : Reg := ⟨684, 0xC100C, 16, 0, 1, 256, 0, 16, .ro, 0, []⟩
def AMP_RPT_AGE : Reg := ⟨685, 0xC100C, 16, 0, 1, 256, 16, 16, .ro, 0, []⟩
def DRAM_CTRL_THAW : Reg := ⟨686, 0x90000, 0, 0, 1, 1, 0, 1, .wo, 0, []⟩
def DRAM_CTRL_SR_EN : Reg := ⟨687, 0x90000, 0, 0, 1, 1, 1, 1, .rw, 0, []⟩
def DRAM_CTRL_CLEAR_FAULT : Reg := ⟨688, 0x90000, 0, 0, 1, 1, 2, 1, .rw, 1, []⟩
def DRAM_CTRL_SR_IDLE : Reg := ⟨689, 0x90000, 0, 0, 1, 1, 8, 8, .rw, 50, []⟩
def DRAM_STATUS_MODE : Reg := ⟨690, 0x90004, 0, 0, 1, 1, 0, 2, .ro, 0, []⟩
def DRAM_STATUS_TRAINED : Reg := ⟨691, 0x90004, 0, 0, 1, 1, 2, 1, .ro, 0, []⟩
def DRAM_STATUS_LAST : Reg := ⟨692, 0x90004, 0, 0, 1, 1, 8, 4, .ro, 0, []⟩
def DRAM_STATUS_ERR_STATE : Reg := ⟨693, 0x90004, 0, 0, 1, 1, 12, 1, .w1c, 0, []⟩
def DRAM_STATUS_CORR_SEEN : Reg := ⟨694, 0x90004, 0, 0, 1, 1, 13, 1, .w1c, 0, []⟩
def DRAM_STATUS_UE_SEEN : Reg := ⟨695, 0x90004, 0, 0, 1, 1, 14, 1, .w1c, 0, []⟩
def DRAM_STATUS_AGE_SEEN : Reg := ⟨696, 0x90004, 0, 0, 1, 1, 15, 1, .w1c, 0, []⟩
def DRAM_STATUS_WM_SEEN : Reg := ⟨697, 0x90004, 0, 0, 1, 1, 16, 1, .w1c, 0, []⟩
def DRAM_STATUS_MULTI_SEEN : Reg := ⟨698, 0x90004, 0, 0, 1, 1, 17, 1, .w1c, 0, []⟩
def DRAM_STATUS_TEMP : Reg := ⟨699, 0x90004, 0, 0, 1, 1, 24, 3, .ro, 0, []⟩
def DRAM_SIZE_FITTED : Reg := ⟨700, 0x90008, 0, 0, 1, 1, 0, 8, .ro, 8, []⟩
def DRAM_SIZE_USABLE : Reg := ⟨701, 0x90008, 0, 0, 1, 1, 8, 8, .ro, 15, []⟩
def DRAM_AGE_LIMIT : Reg := ⟨702, 0x9000C, 0, 0, 1, 1, 0, 12, .rw, 200, []⟩
def DRAM_PARA_K : Reg := ⟨703, 0x90010, 0, 0, 1, 1, 0, 4, .rw, 9, []⟩
def DRAM_PARA_WIDE : Reg := ⟨704, 0x90010, 0, 0, 1, 1, 4, 1, .rw, 0, []⟩
def DRAM_QWM_HIGH : Reg := ⟨705, 0x90014, 0, 0, 1, 1, 0, 8, .rw, 112, []⟩
def DRAM_QWM_LOW : Reg := ⟨706, 0x90014, 0, 0, 1, 1, 8, 8, .rw, 16, []⟩
def DRAM_FAULT_ADDR_LO : Reg := ⟨707, 0x90020, 0, 0, 1, 1, 0, 32, .ro, 0, []⟩
def DRAM_FAULT_ADDR_HI : Reg := ⟨708, 0x90024, 0, 0, 1, 1, 0, 8, .ro, 0, []⟩
def DRAM_FAULT_WIN : Reg := ⟨709, 0x9002C, 0, 0, 1, 1, 0, 32, .ro, 0, []⟩
def DRAM_FAULT_INFO_SYNDROME : Reg := ⟨710, 0x90028, 0, 0, 1, 1, 0, 16, .ro, 0, []⟩
def DRAM_FAULT_INFO_REQ : Reg := ⟨711, 0x90028, 0, 0, 1, 1, 16, 4, .ro, 0, []⟩
def DRAM_FAULT_INFO_MASTER : Reg := ⟨712, 0x90028, 0, 0, 1, 1, 20, 4, .ro, 0, []⟩
def DRAM_FAULT_INFO_CLASS : Reg := ⟨713, 0x90028, 0, 0, 1, 1, 24, 2, .ro, 0, []⟩
def DRAM_FAULT_INFO_RMW : Reg := ⟨714, 0x90028, 0, 0, 1, 1, 26, 1, .ro, 0, []⟩
def DRAM_FAULT_INFO_CHANNEL : Reg := ⟨715, 0x90028, 0, 0, 1, 1, 27, 1, .ro, 0, []⟩
def DRAM_FAULT_INFO_BANK : Reg := ⟨716, 0x90028, 0, 0, 1, 1, 28, 4, .ro, 0, []⟩
def DRAM_CORR : Reg := ⟨717, 0x90030, 0, 0, 1, 1, 0, 32, .ro, 0, []⟩
def DRAM_UE : Reg := ⟨718, 0x90034, 0, 0, 1, 1, 0, 32, .ro, 0, []⟩
def DRAM_PARA_COUNT : Reg := ⟨719, 0x90038, 0, 0, 1, 1, 0, 32, .ro, 0, []⟩
def DRAM_PROMOTED : Reg := ⟨720, 0x9003C, 0, 0, 1, 1, 0, 32, .ro, 0, []⟩
def DRAM_SR_WAIT : Reg := ⟨721, 0x90044, 0, 0, 1, 1, 0, 32, .ro, 0, []⟩
def DRAM_SR_STAT_WAKES : Reg := ⟨722, 0x90040, 0, 0, 1, 1, 0, 16, .ro, 0, []⟩
def DRAM_SR_STAT_ABORTS : Reg := ⟨723, 0x90040, 0, 0, 1, 1, 16, 16, .ro, 0, []⟩
def DRAM_Q_DEPTH : Reg := ⟨724, 0x90050, 4, 0, 1, 2, 0, 8, .ro, 0, []⟩
def DRAM_Q_PRIV : Reg := ⟨725, 0x90050, 4, 0, 1, 2, 8, 7, .ro, 0, []⟩
def DRAM_Q_HI_SEEN : Reg := ⟨726, 0x90050, 4, 0, 1, 2, 16, 1, .w1c, 0, []⟩
def DRAM_Q_LO_SEEN : Reg := ⟨727, 0x90050, 4, 0, 1, 2, 17, 1, .w1c, 0, []⟩
def DRAM_Q_CROSS : Reg := ⟨728, 0x90050, 4, 0, 1, 2, 24, 8, .ro, 0, []⟩
def DRAM_CLASS_LINES_LINES : Reg := ⟨729, 0x90060, 4, 0, 1, 4, 0, 32, .ro, 0, []⟩
def MTX_STATUS_SLICES : Reg := ⟨730, 0xA0000, 0, 0, 1, 1, 0, 1, .ro, 0, []⟩
def MTX_STATUS_LAST : Reg := ⟨731, 0xA0000, 0, 0, 1, 1, 8, 4, .ro, 0, []⟩
def MTX_STATUS_ERR_STATE : Reg := ⟨732, 0xA0000, 0, 0, 1, 1, 12, 1, .w1c, 0, []⟩
def MTX_STATUS_DECERR_SEEN : Reg := ⟨733, 0xA0000, 0, 0, 1, 1, 13, 1, .w1c, 0, []⟩
def MTX_STATUS_DENIED_SEEN : Reg := ⟨734, 0xA0000, 0, 0, 1, 1, 14, 1, .w1c, 0, []⟩
def MTX_STATUS_TIMEOUT_SEEN : Reg := ⟨735, 0xA0000, 0, 0, 1, 1, 15, 1, .w1c, 0, []⟩
def MTX_CAP_ADDR_ADDR : Reg := ⟨736, 0xA0004, 0, 0, 1, 1, 0, 32, .ro, 0, []⟩
def MTX_CAP_INFO_MASTER : Reg := ⟨737, 0xA0008, 0, 0, 1, 1, 0, 4, .ro, 0, []⟩
def MTX_CAP_INFO_TARGET : Reg := ⟨738, 0xA0008, 0, 0, 1, 1, 4, 4, .ro, 0, []⟩
def MTX_CAP_INFO_WRITE : Reg := ⟨739, 0xA0008, 0, 0, 1, 1, 8, 1, .ro, 0, []⟩
def MTX_CAP_INFO_KIND : Reg := ⟨740, 0xA0008, 0, 0, 1, 1, 9, 2, .ro, 0, []⟩
def MTX_CAP_INFO_CLASS : Reg := ⟨741, 0xA0008, 0, 0, 1, 1, 11, 2, .ro, 0, []⟩
def MTX_MCLASS_M0 : Reg := ⟨742, 0xA000C, 0, 0, 1, 1, 0, 2, .rw, 3, []⟩
def MTX_MCLASS_M1 : Reg := ⟨743, 0xA000C, 0, 0, 1, 1, 2, 2, .rw, 0, []⟩
def MTX_MCLASS_M9 : Reg := ⟨744, 0xA000C, 0, 0, 1, 1, 4, 2, .rw, 3, []⟩
def MTX_AGE_CYCLES : Reg := ⟨745, 0xA0010, 0, 0, 1, 1, 0, 13, .rw, 256, []⟩
def MTX_TIMEOUT_US : Reg := ⟨746, 0xA0014, 0, 0, 1, 1, 0, 10, .rw, 100, []⟩
def MTX_DECERR_COUNT : Reg := ⟨747, 0xA0018, 0, 0, 1, 1, 0, 32, .ro, 0, []⟩
def MTX_DENIED_COUNT : Reg := ⟨748, 0xA001C, 0, 0, 1, 1, 0, 32, .ro, 0, []⟩
def MTX_TIMEOUT_COUNT : Reg := ⟨749, 0xA0020, 0, 0, 1, 1, 0, 32, .ro, 0, []⟩
def MBX_LB_DATA : Reg := ⟨750, 0x40000, 128, 4, 16, 256, 0, 32, .rw, 0, []⟩
def MBX_LB_LB_GO : Reg := ⟨751, 0x40040, 128, 0, 1, 16, 0, 32, .rw, 0, []⟩
def MBX_LB_FULL : Reg := ⟨752, 0x40044, 128, 0, 1, 16, 0, 1, .ro, 0, []⟩
def MBX_LB_COLLIDE : Reg := ⟨753, 0x40044, 128, 0, 1, 16, 1, 1, .w1c, 0, []⟩
def MBX_CFG_STANDOFF : Reg := ⟨754, 0x41000, 0, 0, 1, 1, 0, 14, .rw, 50, []⟩
def MBX_ALLOC_YARD : Reg := ⟨755, 0x41004, 4, 0, 1, 2, 0, 2, .rw, 0, []⟩
def MBX_ALLOC_EN : Reg := ⟨756, 0x41004, 4, 0, 1, 2, 2, 1, .rw, 0, []⟩
def MBX_STATUS_LAST : Reg := ⟨757, 0x4100C, 0, 0, 1, 1, 0, 4, .ro, 0, []⟩
def MBX_STATUS_ERR_STATE : Reg := ⟨758, 0x4100C, 0, 0, 1, 1, 4, 1, .w1c, 0, []⟩
def MBX_STATUS_STANDOFF_SEEN : Reg := ⟨759, 0x4100C, 0, 0, 1, 1, 5, 1, .w1c, 0, []⟩
def MBX_STATUS_COLLIDE_SEEN : Reg := ⟨760, 0x4100C, 0, 0, 1, 1, 6, 1, .w1c, 0, []⟩
def MBX_STATUS_LATCH_SEEN : Reg := ⟨761, 0x4100C, 0, 0, 1, 1, 7, 1, .w1c, 0, []⟩
def MBX_STATUS_FULL_MAP : Reg := ⟨762, 0x4100C, 0, 0, 1, 1, 8, 8, .ro, 0, []⟩
def MBX_SESSION_OPEN4 : Reg := ⟨763, 0x41010, 0, 0, 1, 1, 0, 1, .ro, 0, []⟩
def MBX_SESSION_OPEN5 : Reg := ⟨764, 0x41010, 0, 0, 1, 1, 1, 1, .ro, 0, []⟩
def MBX_SESSION_LOCK4 : Reg := ⟨765, 0x41010, 0, 0, 1, 1, 2, 1, .ro, 0, []⟩
def MBX_SESSION_LOCK5 : Reg := ⟨766, 0x41010, 0, 0, 1, 1, 3, 1, .ro, 0, []⟩
def MBX_SESSION_AUTH_FAILS : Reg := ⟨767, 0x41010, 0, 0, 1, 1, 16, 16, .ro, 0, []⟩
def MBX_PCIE_UP : Reg := ⟨768, 0x41014, 0, 0, 1, 1, 0, 1, .ro, 0, []⟩
def MBX_PCIE_GEN : Reg := ⟨769, 0x41014, 0, 0, 1, 1, 1, 3, .ro, 0, []⟩
def MBX_PCIE_WIDTH : Reg := ⟨770, 0x41014, 0, 0, 1, 1, 4, 3, .ro, 0, []⟩
def MBX_PCIE_ERRORS : Reg := ⟨771, 0x41014, 0, 0, 1, 1, 16, 16, .ro, 0, []⟩
def LATCH : Reg := ⟨772, 0x48000, 4, 0, 1, 64, 0, 32, .rw, 0, []⟩
def EVT_SRC_PEND : Reg := ⟨773, 0x30000, 4, 0, 1, 24, 0, 8, .w1c, 0, []⟩
def EVT_SRC_EN : Reg := ⟨774, 0x30080, 4, 0, 1, 24, 0, 8, .rw, 255, []⟩
def EVT_GRP_EN : Reg := ⟨775, 0x30100, 0, 0, 1, 1, 0, 24, .rw, 0, []⟩
def EVT_GRP_PEND : Reg := ⟨776, 0x30104, 0, 0, 1, 1, 0, 24, .ro, 0, []⟩
def EVT_GRP_CLASS_CLASS : Reg := ⟨777, 0x30110, 4, 0, 1, 2, 0, 32, .rw, 0, [2948945219, 49152]⟩
def EVT_CLASS_ROUTE_VEC0 : Reg := ⟨778, 0x30120, 4, 0, 1, 4, 0, 3, .rw, 0, []⟩
def EVT_CLASS_ROUTE_EN0 : Reg := ⟨779, 0x30120, 4, 0, 1, 4, 3, 1, .rw, 0, []⟩
def EVT_CLASS_ROUTE_VEC1 : Reg := ⟨780, 0x30120, 4, 0, 1, 4, 4, 3, .rw, 0, []⟩
def EVT_CLASS_ROUTE_EN1 : Reg := ⟨781, 0x30120, 4, 0, 1, 4, 7, 1, .rw, 0, []⟩
def EVT_CLASS_ROUTE_KEEPER : Reg := ⟨782, 0x30120, 4, 0, 1, 4, 8, 1, .rw, 0, [1, 1, 1, 0]⟩
def EVT_CLASS_ROUTE_K1 : Reg := ⟨783, 0x30120, 4, 0, 1, 4, 9, 1, .rw, 0, []⟩
def EVT_CLASS_PEND : Reg := ⟨784, 0x30130, 0, 0, 1, 1, 0, 4, .ro, 0, []⟩
def EVT_EOI : Reg := ⟨785, 0x30134, 0, 0, 1, 1, 0, 4, .wo, 0, []⟩
def EVT_REC_STAT_DEPTH : Reg := ⟨786, 0x30150, 0, 0, 1, 1, 0, 9, .ro, 0, []⟩
def EVT_REC_WM_HIGH : Reg := ⟨787, 0x30158, 0, 0, 1, 1, 0, 9, .rw, 192, []⟩
def EVT_REC_STAT_HI_SEEN : Reg := ⟨788, 0x30150, 0, 0, 1, 1, 9, 1, .w1c, 0, []⟩
def EVT_REC_STAT_LO_SEEN : Reg := ⟨789, 0x30150, 0, 0, 1, 1, 10, 1, .w1c, 0, []⟩
def EVT_REC_STAT_LOST : Reg := ⟨790, 0x30150, 0, 0, 1, 1, 16, 16, .ro, 0, []⟩
def EVT_REC_WM_LOW : Reg := ⟨791, 0x30158, 0, 0, 1, 1, 16, 16, .rw, 16, []⟩
def LINE_CFG_TOL : Reg := ⟨792, 0xC8000, 0, 0, 1, 1, 0, 8, .rw, 20, []⟩
def LINE_CFG_OPEN_MUL : Reg := ⟨793, 0xC8000, 0, 0, 1, 1, 8, 4, .rw, 4, []⟩
def LINE_CFG_SHORT_FRAC : Reg := ⟨794, 0xC8000, 0, 0, 1, 1, 12, 4, .rw, 4, []⟩
def LINE_CFG_CONFIRM : Reg := ⟨795, 0xC8000, 0, 0, 1, 1, 16, 3, .rw, 2, []⟩
def LINE_CFG_NOMEAS : Reg := ⟨796, 0xC8000, 0, 0, 1, 1, 20, 8, .rw, 10, []⟩
def LINE_STATUS_LAST : Reg := ⟨797, 0xC8004, 0, 0, 1, 1, 0, 4, .ro, 0, []⟩
def LINE_STATUS_ERR_STATE : Reg := ⟨798, 0xC8004, 0, 0, 1, 1, 8, 1, .w1c, 0, []⟩
def LINE_STATUS_OPEN_SEEN : Reg := ⟨799, 0xC8004, 0, 0, 1, 1, 9, 1, .w1c, 0, []⟩
def LINE_STATUS_SHORT_SEEN : Reg := ⟨800, 0xC8004, 0, 0, 1, 1, 10, 1, .w1c, 0, []⟩
def LINE_STATUS_DRIFT_SEEN : Reg := ⟨801, 0xC8004, 0, 0, 1, 1, 11, 1, .w1c, 0, []⟩
def LINE_STATUS_NOMEAS_SEEN : Reg := ⟨802, 0xC8004, 0, 0, 1, 1, 12, 1, .w1c, 0, []⟩
def LINE_STATUS_FAULTS : Reg := ⟨803, 0xC8004, 0, 0, 1, 1, 16, 10, .ro, 0, []⟩
def LINE_ZONE_MAP : Reg := ⟨804, 0xC8010, 4, 0, 1, 4, 0, 32, .ro, 0, []⟩
def LINE_FEED_BASE_Z : Reg := ⟨805, 0xC8100, 8, 0, 1, 768, 0, 16, .ro, 0, []⟩
def LINE_FEED_BASE_PH : Reg := ⟨806, 0xC8100, 8, 0, 1, 768, 16, 8, .ro, 0, []⟩
def LINE_FEED_BASE_VALID : Reg := ⟨807, 0xC8100, 8, 0, 1, 768, 24, 1, .ro, 0, []⟩
def LINE_FEED_Z : Reg := ⟨808, 0xC8104, 8, 0, 1, 768, 0, 16, .ro, 0, []⟩
def LINE_FEED_PH : Reg := ⟨809, 0xC8104, 8, 0, 1, 768, 16, 8, .ro, 0, []⟩
def LINE_FEED_STATE : Reg := ⟨810, 0xC8104, 8, 0, 1, 768, 24, 2, .ro, 0, []⟩
def LINE_FEED_DRIFT : Reg := ⟨811, 0xC8104, 8, 0, 1, 768, 26, 1, .ro, 0, []⟩
def LINE_FEED_NOMEAS : Reg := ⟨812, 0xC8104, 8, 0, 1, 768, 27, 1, .ro, 0, []⟩
def MON_CTRL_EN : Reg := ⟨813, 0xF0000, 0, 0, 1, 1, 0, 1, .rw, 0, []⟩
def MON_CTRL_SCRUB_EN : Reg := ⟨814, 0xF0000, 0, 0, 1, 1, 1, 1, .rw, 0, []⟩
def MON_CTRL_SCRUB_RATE : Reg := ⟨815, 0xF0000, 0, 0, 1, 1, 8, 8, .rw, 64, []⟩
def MON_CMD_SYNC : Reg := ⟨816, 0xF0004, 0, 0, 1, 1, 0, 1, .wo, 0, []⟩
def MON_CMD_GROUPS : Reg := ⟨817, 0xF0004, 0, 0, 1, 1, 8, 4, .wo, 0, []⟩
def MON_STATUS_LAST : Reg := ⟨818, 0xF0008, 0, 0, 1, 1, 0, 4, .ro, 0, []⟩
def MON_STATUS_SYNC_PEND : Reg := ⟨819, 0xF0008, 0, 0, 1, 1, 4, 4, .ro, 0, []⟩
def MON_STATUS_ERR_STATE : Reg := ⟨820, 0xF0008, 0, 0, 1, 1, 8, 1, .w1c, 0, []⟩
def MON_STATUS_THRESH_SEEN : Reg := ⟨821, 0xF0008, 0, 0, 1, 1, 9, 1, .w1c, 0, []⟩
def MON_STATUS_SCRUB_SEEN : Reg := ⟨822, 0xF0008, 0, 0, 1, 1, 10, 1, .w1c, 0, []⟩
def MON_STATUS_CAL_SEEN : Reg := ⟨823, 0xF0008, 0, 0, 1, 1, 11, 1, .w1c, 0, []⟩
def MON_STATUS_FLASH_SEEN : Reg := ⟨824, 0xF0008, 0, 0, 1, 1, 12, 1, .w1c, 0, []⟩
def MON_STATUS_LOST_SEEN : Reg := ⟨825, 0xF0008, 0, 0, 1, 1, 13, 1, .w1c, 0, []⟩
def MON_STATUS_SAFE_BAD : Reg := ⟨826, 0xF0008, 0, 0, 1, 1, 16, 1, .ro, 0, []⟩
def MON_STATUS_DRAM_CAL_BAD : Reg := ⟨827, 0xF0008, 0, 0, 1, 1, 17, 1, .ro, 0, []⟩
def MON_RING_BASE_LO : Reg := ⟨828, 0xF0010, 0, 0, 1, 1, 0, 32, .rw, 0, []⟩
def MON_RING_BASE_HI : Reg := ⟨829, 0xF0014, 0, 0, 1, 1, 0, 8, .rw, 0, []⟩
def MON_RING_SIZE : Reg := ⟨830, 0xF0014, 0, 0, 1, 1, 16, 5, .rw, 10, []⟩
def MON_RING_HEAD : Reg := ⟨831, 0xF0018, 0, 0, 1, 1, 0, 16, .ro, 0, []⟩
def MON_RING_TAIL : Reg := ⟨832, 0xF001C, 0, 0, 1, 1, 0, 16, .rw, 0, []⟩
def MON_Q_DEPTH : Reg := ⟨833, 0xF0020, 0, 0, 1, 1, 0, 7, .ro, 0, []⟩
def MON_QWM_HIGH : Reg := ⟨834, 0xF0024, 0, 0, 1, 1, 0, 7, .rw, 48, []⟩
def MON_Q_HI_SEEN : Reg := ⟨835, 0xF0020, 0, 0, 1, 1, 8, 1, .w1c, 0, []⟩
def MON_Q_LO_SEEN : Reg := ⟨836, 0xF0020, 0, 0, 1, 1, 9, 1, .w1c, 0, []⟩
def MON_Q_LOST : Reg := ⟨837, 0xF0020, 0, 0, 1, 1, 16, 16, .ro, 0, []⟩
def MON_QWM_LOW : Reg := ⟨838, 0xF0024, 0, 0, 1, 1, 16, 16, .rw, 16, []⟩
def MON_SCRUB_POS : Reg := ⟨839, 0xF0030, 0, 0, 1, 1, 0, 32, .ro, 0, []⟩
def MON_SCRUB_PASS : Reg := ⟨840, 0xF0034, 0, 0, 1, 1, 0, 32, .ro, 0, []⟩
def MON_FLASH_ECC : Reg := ⟨841, 0xF0038, 0, 0, 1, 1, 0, 32, .ro, 0, []⟩
def MON_SENSE_VALUE : Reg := ⟨842, 0xF0040, 4, 0, 1, 8, 0, 32, .ro, 0, []⟩
def MON_FLASH_SPARE : Reg := ⟨843, 0xF0060, 0, 0, 1, 1, 0, 13, .ro, 160, []⟩
def MON_FLASH_SPARE_LOW : Reg := ⟨844, 0xF0060, 0, 0, 1, 1, 13, 1, .ro, 0, []⟩
def MON_FLASH_RETIRED : Reg := ⟨845, 0xF0060, 0, 0, 1, 1, 16, 16, .ro, 0, []⟩
def MON_CH_TAP : Reg := ⟨846, 0xF0400, 16, 0, 1, 64, 0, 4, .rw, 0, []⟩
def MON_CH_INDEX : Reg := ⟨847, 0xF0400, 16, 0, 1, 64, 4, 10, .rw, 0, []⟩
def MON_CH_MODE : Reg := ⟨848, 0xF0400, 16, 0, 1, 64, 14, 2, .rw, 0, []⟩
def MON_CH_PRESET : Reg := ⟨849, 0xF0400, 16, 0, 1, 64, 16, 3, .rw, 2, []⟩
def MON_CH_GROUP : Reg := ⟨850, 0xF0400, 16, 0, 1, 64, 20, 2, .rw, 0, []⟩
def MON_CH_EN : Reg := ⟨851, 0xF0400, 16, 0, 1, 64, 22, 1, .rw, 0, []⟩
def MON_CH_ABOVE : Reg := ⟨852, 0xF0400, 16, 0, 1, 64, 23, 1, .ro, 0, []⟩
def MON_CH_TSHIFT : Reg := ⟨853, 0xF0400, 16, 0, 1, 64, 24, 6, .rw, 0, []⟩
def MON_CH_SETTLING : Reg := ⟨854, 0xF0400, 16, 0, 1, 64, 30, 1, .ro, 0, []⟩
def MON_CH_L : Reg := ⟨855, 0xF0404, 16, 0, 1, 64, 0, 13, .rw, 48, []⟩
def MON_CH_PHASE : Reg := ⟨856, 0xF0404, 16, 0, 1, 64, 16, 13, .rw, 0, []⟩
def MON_CH_HI : Reg := ⟨857, 0xF0408, 16, 0, 1, 64, 0, 32, .rw, 2147483647, []⟩
def MON_CH_LO : Reg := ⟨858, 0xF040C, 16, 0, 1, 64, 0, 32, .rw, 2147483648, []⟩
def SYS_ID_DRAM_GIB : Reg := ⟨859, 0x0, 0, 0, 1, 1, 0, 8, .ro, 8, []⟩
def SYS_ID_DIE_REV : Reg := ⟨860, 0x0, 0, 0, 1, 1, 8, 8, .ro, 0, []⟩
def SYS_ID_BOARD_REV : Reg := ⟨861, 0x0, 0, 0, 1, 1, 16, 8, .ro, 0, []⟩
def SYS_BOOT_STAGE : Reg := ⟨862, 0x4, 0, 0, 1, 1, 0, 2, .ro, 0, []⟩
def SYS_BOOT_CAUSE : Reg := ⟨863, 0x4, 0, 0, 1, 1, 2, 2, .ro, 0, []⟩
def SYS_BOOT_SLOT : Reg := ⟨864, 0x4, 0, 0, 1, 1, 4, 1, .ro, 0, []⟩
def SYS_BOOT_SLOT_BAD : Reg := ⟨865, 0x4, 0, 0, 1, 1, 5, 1, .ro, 0, []⟩
def SYS_BOOT_NEW_SLOT : Reg := ⟨866, 0x4, 0, 0, 1, 1, 6, 1, .ro, 0, []⟩
def SYS_BOOT_PROFILE : Reg := ⟨867, 0x4, 0, 0, 1, 1, 8, 2, .ro, 0, []⟩
def SYS_BOOT_KRESTARTS : Reg := ⟨868, 0x4, 0, 0, 1, 1, 16, 16, .ro, 0, []⟩
def SYS_ARM_ARMED : Reg := ⟨869, 0x8, 0, 0, 1, 1, 0, 1, .ro, 0, []⟩
def SYS_ARM_AUTO : Reg := ⟨870, 0x8, 0, 0, 1, 1, 1, 1, .ro, 0, []⟩
def SYS_ARM_AUTO_FAIL : Reg := ⟨871, 0x8, 0, 0, 1, 1, 2, 1, .ro, 0, []⟩
def SYS_ARM_DEGRADED : Reg := ⟨872, 0x8, 0, 0, 1, 1, 3, 1, .ro, 0, []⟩
def SYS_ARM_FAIL_CHECK : Reg := ⟨873, 0x8, 0, 0, 1, 1, 4, 4, .ro, 0, []⟩
def SYS_ARM_ERR_STATE : Reg := ⟨874, 0x8, 0, 0, 1, 1, 8, 1, .w1c, 0, []⟩
def SYS_ARM_FREEZE_HOLD : Reg := ⟨875, 0x8, 0, 0, 1, 1, 9, 1, .ro, 0, []⟩
def SYS_ARM_ARMS : Reg := ⟨876, 0x8, 0, 0, 1, 1, 16, 16, .ro, 0, []⟩

/-- The fields of block WIN. -/
def fieldsWIN : List Reg := [WIN_CTRL_LEN, WIN_CTRL_RATE96, WIN_CTRL_TICK, WIN_CMD_START, WIN_CMD_STOP, WIN_STATUS_RUN, WIN_STATUS_LEAN, WIN_STATUS_ALIGNED, WIN_STATUS_RATE96, WIN_STATUS_ERR_STATE, WIN_STATUS_SLIP, WIN_STATUS_DEADLINE_SEEN, WIN_COUNT, WIN_COUNT_HI, WIN_EPOCH_LO, WIN_EPOCH_HI, WIN_TICK_PHASE, WIN_TICK_LEN_ACTIVE, WIN_TICK_PENDING, WIN_TICK_COUNT, WIN_GUARD_CYCLES, WIN_PHASE_ERR_ERR, WIN_CLK_STATUS_ROOT_OK, WIN_CLK_STATUS_AUDIO_LOCK, WIN_CLK_STATUS_NET_LOCK, WIN_CLK_STATUS_FAB_LOCK, WIN_CLK_STATUS_HOST_LOCK, WIN_CLK_STATUS_ROOT_LOST, WIN_CLK_STATUS_AUDIO_LOST, WIN_CLK_STATUS_NET_LOST, WIN_CLK_STATUS_FAB_LOST, WIN_CLK_STATUS_HOST_LOST, WIN_MISS_COUNT_MISSES]
/-- The fields of block LEDG. -/
def fieldsLEDG : List Reg := [LEDG_CTRL_AUTO_SCALE, LEDG_CTRL_LEAN_ON_BATT, LEDG_CTRL_LEAN_SCALE, LEDG_CTRL_HYST, LEDG_STATUS_SUPPLY, LEDG_STATUS_STEP, LEDG_STATUS_BATT_LOW, LEDG_STATUS_FLOOR_FAIL, LEDG_STATUS_ERR_STATE, LEDG_STATUS_SUPPLY_SEEN, LEDG_STATUS_OVER_SEEN, LEDG_STATUS_OVER_A_SEEN, LEDG_STATUS_CAL_SEEN, LEDG_MEAS_MEAN_MA, LEDG_MEAS_PEAK_MA, LEDG_VOLT_BATT_MV, LEDG_VOLT_BUS_MV, LEDG_COMMIT_T, LEDG_COMMIT_BUDGET, LEDG_CAL_RATIO, LEDG_CAL_TOL, LEDG_TIMING_OVER_HOLD, LEDG_TIMING_RESTORE_HOLD, LEDG_ENV_ENV, LEDG_ENV_OBJ, LEDG_JOB_ALLOW_ALLOW, LEDG_CLASS_CAP_CAP, LEDG_REFUSED_COUNT, LEDG_FLOOR_FLOOR, LEDG_FLOOR_D_MIN, LEDG_SUPPLY_LIM_MAINS, LEDG_SUPPLY_LIM_BATT, LEDG_BATT_UV_UV, LEDG_BATT_OFF_MASK, LEDG_COST_FULL, LEDG_COST_ALT]
/-- The fields of block SRC. -/
def fieldsSRC : List Reg := [SRC_EN, SRC_CLASS, SRC_EXPORT, SRC_PORT, SRC_CHAN, SRC_GSRC, SRC_TRIM, SRC_INVERT, SRC_RING, SRC_LINK, SRC_LAST, SRC_ERR_STATE, SRC_LOST_SEEN, SRC_BOUND, SRC_PEAK]
/-- The fields of block OBJ. -/
def fieldsOBJ : List Reg := [OBJ_ACT_REQ, OBJ_CLASS, OBJ_GLOBAL, OBJ_ACT_AT, OBJ_HOLD, OBJ_PRIO, OBJ_GID, OBJ_STATE, OBJ_SRC_MUTE, OBJ_LAST, OBJ_ERR_STATE, OBJ_MIRROR_LATE, OBJ_REMOTE_REFUSED, OBJ_TAPS, OBJ_SRC, OBJ_LAW, OBJ_GAIN, OBJ_POS_X, OBJ_POS_Y, OBJ_POS_Z, OBJ_SPREAD, OBJ_ACT_WIN, OBJ_ZMASK, OBJ_COST, OBJ_TAP_MAX, OBJ_HOME, OBJ_USER]
/-- The fields of block FEED. -/
def fieldsFEED : List Reg := [FEED_EN, FEED_POS_X, FEED_POS_Y, FEED_POS_Z, FEED_AIM_X, FEED_AIM_Y, FEED_AIM_Z, FEED_TRIM, FEED_ALIGN, FEED_ZONE, FEED_NOZONE, FEED_LINE, FEED_SHUT, FEED_SUBST, FEED_LAST, FEED_ERR_STATE]
/-- The fields of block ZONE. -/
def fieldsZONE : List Reg := [ZONE_EN, ZONE_HOLD, ZONE_GZID, ZONE_GAIN_A, ZONE_GAIN_B, ZONE_GAIN_C, ZONE_GAIN_D, ZONE_STI_TARGET, ZONE_LIFT_MAX, ZONE_ANC_MAX, ZONE_FALLBACK, ZONE_EXIT_X, ZONE_EXIT_Y, ZONE_EXIT_Z, ZONE_GRID_FIRST, ZONE_GRID_COUNT, ZONE_REF0, ZONE_REF0_EN, ZONE_REF1, ZONE_REF1_EN, ZONE_OWNER, ZONE_ALARM, ZONE_LAST, ZONE_ERR_STATE, ZONE_STI, ZONE_FEEDS]
/-- The fields of block PLAN. -/
def fieldsPLAN : List Reg := [PLAN_EN, PLAN_HOST_TRIG, PLAN_ALL, PLAN_STORM_ON_STALL, PLAN_PRIO, PLAN_NEXT, PLAN_NEXT_EN, PLAN_FI_MASK, PLAN_CONFIRM, PLAN_ZONES, PLAN_OBJS, PLAN_MSG, PLAN_MSG_EN, PLAN_TONE, PLAN_TONE_EN, PLAN_STAGE_DELAY, PLAN_STATE, PLAN_LAST, PLAN_ERR_STATE, PLAN_COUNT]
/-- The fields of block SYS. -/
def fieldsSYS : List Reg := [SYS_SCENE_STAGE, SYS_SCENE_PENDING, SYS_SCENE_LOAD_FAIL, SYS_SCENE_LAST_SW, SYS_SCENE_ERR_STATE, SYS_SCENE_CANCEL_SEEN, SYS_SCENE_SWITCHES, SYS_SCENE_ID, SYS_STAGE_ID, SYS_SCENE_WIN, SYS_LAW_C_SOUND, SYS_LAW_AIR_F, SYS_LAW_STATUS_CLAMP_SEEN, SYS_LAW_STATUS_EXIT_SEEN, SYS_LAW_STATUS_DEFER_SEEN, SYS_LAW_STATUS_NOTAP_SEEN, SYS_LAW_STATUS_ERR_STATE, SYS_LAW_STATUS_CLAMPS, SYS_LAW_SEL_INDEX, SYS_LAW_SEL_KIND, SYS_ID_DRAM_GIB, SYS_ID_DIE_REV, SYS_ID_BOARD_REV, SYS_BOOT_STAGE, SYS_BOOT_CAUSE, SYS_BOOT_SLOT, SYS_BOOT_SLOT_BAD, SYS_BOOT_NEW_SLOT, SYS_BOOT_PROFILE, SYS_BOOT_KRESTARTS, SYS_ARM_ARMED, SYS_ARM_AUTO, SYS_ARM_AUTO_FAIL, SYS_ARM_DEGRADED, SYS_ARM_FAIL_CHECK, SYS_ARM_ERR_STATE, SYS_ARM_FREEZE_HOLD, SYS_ARM_ARMS]
/-- The fields of block CORR, part 1. -/
def fieldsCORR1 : List Reg := [CORR_STATUS_ERR_STATE, CORR_STATUS_SAT_SEEN, CORR_STATUS_CLIP_SEEN, CORR_STATUS_LOAD_FAIL_SEEN, CORR_STATUS_POISON_SEEN, CORR_STATUS_FADES, CORR_LOAD_FEED, CORR_LOAD_BANK, CORR_LOAD_SLOT, CORR_LOAD_GO, CORR_LOAD_STATUS_BUSY, CORR_LOAD_STATUS_LAST, CORR_LOAD_STATUS_FEED, CORR_LOAD_STATUS_BANK, CORR_STAGE_BASE, CORR_BANK_BASE, CORR_FDL_BASE, CORR_BQ_SEL_INDEX, CORR_BQ_SEL_KIND, CORR_BQ_SEL_STAGE, CORR_BQ_COEF_COEF, CORR_BQ_CMD_WRITE, CORR_BQ_CMD_READ, CORR_BQ_STATUS_LAST, CORR_BQ_STATUS_PENDING, CORR_SWAPS, CORR_REPLACED, CORR_STI_CTRL_SPAN, CORR_STI_CTRL_STI_HOLD, CORR_STI_CTRL_MOD_MIN, CORR_FEED_TARGET, CORR_FEED_FADE, CORR_FEED_SWAP, CORR_FEED_THRESH, CORR_FEED_RELEASE, CORR_FEED_LIM_EN, CORR_FEED_ACTIVE, CORR_FEED_FADING, CORR_FEED_PENDING, CORR_FEED_PEND_TARGET]
/-- The fields of block CORR, part 2. -/
def fieldsCORR2 : List Reg := [CORR_FEED_VALID_A, CORR_FEED_VALID_B, CORR_FEED_LOADING, CORR_FEED_LAST, CORR_FEED_ERR_STATE, CORR_FEED_SAT_SEEN, CORR_FEED_CLIP_SEEN, CORR_FEED_REPLACED, CORR_FEED_FADE_LEFT, CORR_FEED_GR, CORR_FEED_PEAK, CORR_ZONE_ANC_REF, CORR_ZONE_MIC_CAL, CORR_ZONE_CONF, CORR_ZONE_STEP, CORR_ZONE_BELOW, CORR_ZONE_AMB_STALE, CORR_ZONE_NOREF, CORR_ZONE_NOCAL, CORR_ZONE_BELOW_SEEN, CORR_ZONE_CONF_LOST_SEEN, CORR_ZONE_STI_MIC0, CORR_ZONE_STI_MIC1, CORR_ZONE_LIFT_DB, CORR_ZONE_ANC_DB, CORR_ZONE_AMB, CORR_ZONE_DELAY0, CORR_ZONE_DELAY1, CORR_ZONE_MTI0_3, CORR_ZONE_MTI4_6, CORR_ZONE_UPDATES, CORR_ZONE_CELLS]
/-- The fields of block CORR. -/
def fieldsCORR : List Reg := fieldsCORR1 ++ fieldsCORR2
/-- The fields of block YARD, part 1. -/
def fieldsYARD1 : List Reg := [YARD_CTRL_EN, YARD_CTRL_STABLE_EN, YARD_STATUS_SEQ_RUN, YARD_STATUS_SEQ_EXC, YARD_STATUS_ERR_STATE, YARD_STATUS_MISS_SEEN, YARD_STATUS_FAULT_SEEN, YARD_STATUS_ORDER_SEEN, YARD_STATUS_QLOST_SEEN, YARD_STATUS_WM_SEEN, YARD_STATUS_DFLOOR_SEEN, YARD_STATUS_ECC_SEEN, YARD_RESERVE_RESERVE, YARD_RESERVE_LEND, YARD_RESERVE_DFLOOR, YARD_ARB_WB, YARD_ARB_WC, YARD_ARB_AGE, YARD_LIMITS_JOB_LIMIT, YARD_LIMITS_CUT, YARD_LIMITS_XBAR_AGE, YARD_QWM_HIGH, YARD_QWM_LOW, YARD_Q_DEPTH, YARD_Q_DEPTH_A, YARD_Q_HI_SEEN, YARD_Q_LO_SEEN, YARD_Q_CROSS, YARD_QLOST_LOST, YARD_CYC_CYCLES, YARD_LENT, YARD_MISS_COUNT, YARD_ABORTS, YARD_POSTS, YARD_DFLOOR_MISS, YARD_MISS_MAP_MAP, YARD_ZRUN_RUN, YARD_ERR_CAP_LEVEL, YARD_ERR_CAP_STABLE, YARD_ERR_CAP_STALL]
/-- The fields of block YARD, part 2. -/
def fieldsYARD2 : List Reg := [YARD_ERR_CAP_FAULT, YARD_ERR_WIN_WIN, YARD_ECC_CORR_STORE, YARD_ECC_CORR_LOFT, YARD_STALL_OFF_OFF, YARD_SEQ_CAP_CAUSE, YARD_SEQ_CAP_TRAP, YARD_SEQ_CAP_RESTARTS, YARD_SEQ_EPC, YARD_SEQ_EADDR, YARD_SEQ_EWIN, YARD_SEQ_IMAGE]
/-- The fields of block YARD. -/
def fieldsYARD : List Reg := fieldsYARD1 ++ fieldsYARD2
/-- The fields of block SHUT. -/
def fieldsSHUT : List Reg := [SHUT_STATUS_LAST, SHUT_STATUS_ERR_STATE, SHUT_STATUS_AUTO_SEEN, SHUT_STATUS_OPEN, SHUT_OPEN, SHUT_CLOSE, SHUT_AUTO]
/-- The fields of block STORM, part 1. -/
def fieldsSTORM1 : List Reg := [STORM_CMD_ARM, STORM_CMD_DISARM, STORM_CMD_COMMIT, STORM_STATUS_ARMED, STORM_STATUS_ALL_LINKS, STORM_STATUS_SAFE_CLK, STORM_STATUS_DIRTY, STORM_STATUS_LAST, STORM_STATUS_ERR_STATE, STORM_STATUS_ENGAGE_SEEN, STORM_STATUS_STORE_SEEN, STORM_STATUS_VOICE_SEEN, STORM_STATUS_ZONES, STORM_CFG_TONE_SPAN, STORM_CFG_GAP, STORM_CFG_BACKSTOP, STORM_CFG_RETURN_CHECK, STORM_CFG_RETURN_AT_END, STORM_OWNER, STORM_FORCE, STORM_RETURN, STORM_EMIC_PLAN, STORM_EMIC_PLAN_EN, STORM_EMIC_PTT_EN, STORM_EMIC_PTT, STORM_EMIC_DEBOUNCE, STORM_EMIC_PRESSES, STORM_MSG_BAD, STORM_STORE_ID, STORM_BQ_SEL_ZONE, STORM_BQ_SEL_STAGE, STORM_BQ_COEF, STORM_BQ_CMD_WRITE, STORM_BQ_CMD_READ, STORM_CAUSE_CAUSE, STORM_CAUSE_PLAN, STORM_CAUSE_RETURNING, STORM_CAUSE_NOPLAN, STORM_CAUSE_CHECKED, STORM_ZONE_GAIN]
/-- The fields of block STORM, part 2. -/
def fieldsSTORM2 : List Reg := [STORM_ZONE_EMIC0, STORM_ZONE_EMIC1, STORM_FEED_EN, STORM_FEED_TRIM, STORM_FEED_ZONE, STORM_FEED_NOZONE, STORM_FEED_LINE]
/-- The fields of block STORM. -/
def fieldsSTORM : List Reg := fieldsSTORM1 ++ fieldsSTORM2
/-- The fields of block FIRE. -/
def fieldsFIRE : List Reg := [FIRE_STATUS_RELAYS, FIRE_STATUS_LAST, FIRE_STATUS_ERR_STATE, FIRE_STATUS_ALARM_SEEN, FIRE_STATUS_FAULT_SEEN, FIRE_FAULT, FIRE_K1_MASK, FIRE_RELAY_K4_SRC, FIRE_RELAY_K4_SET, FIRE_RELAY_HOST_FAULT, FIRE_IN_EN, FIRE_IN_SHORT_IS_ALARM, FIRE_IN_DEBOUNCE, FIRE_IN_FAULT_HOLD, FIRE_IN_STATE, FIRE_IN_OHMS, FIRE_IN_ALARMS]
/-- The fields of block HNG, part 1. -/
def fieldsHNG1 : List Reg := [HNG_CFG_MODE, HNG_CFG_RANK, HNG_CFG_H0_EN, HNG_CFG_H1_EN, HNG_CFG_GROUP, HNG_TIMING_HB_MISS, HNG_TIMING_BULK_RATE, HNG_TIMING_MATCH_RUN, HNG_TIMING_FORM_WAIT, HNG_TIMING_PROBE_EVERY, HNG_CMD_ENABLE, HNG_CMD_DISABLE, HNG_CMD_REJOIN, HNG_CMD_STAND_DOWN, HNG_CMD_PROBE, HNG_STATUS_ROLE, HNG_STATUS_SYNC, HNG_STATUS_DUAL, HNG_STATUS_H0_UP, HNG_STATUS_H1_UP, HNG_STATUS_LAST, HNG_STATUS_ERR_STATE, HNG_STATUS_MISMATCH_SEEN, HNG_STATUS_HB_LOST_SEEN, HNG_STATUS_PROBE_FAIL_SEEN, HNG_STATUS_WIRING_SEEN, HNG_STATUS_JOURNAL_FULL_SEEN, HNG_STATUS_CFG_DIFF, HNG_STATUS_UNSYNC_PROMOTE, HNG_STATUS_HEARD, HNG_STATUS_INPUT_GAP, HNG_PEER_ROLE, HNG_PEER_SYNC, HNG_PEER_MISSED, HNG_MISMATCH, HNG_MISMATCH_WIN, HNG_PROMOTIONS, HNG_LINK_ERR_COUNT, HNG_FOLLOW_ME, HNG_FOLLOW_OTHER]
/-- The fields of block HNG, part 2. -/
def fieldsHNG2 : List Reg := [HNG_FOLLOW_NONE, HNG_RESYNC_BULK_PCT, HNG_RESYNC_MATCHED]
/-- The fields of block HNG. -/
def fieldsHNG : List Reg := fieldsHNG1 ++ fieldsHNG2
/-- The fields of block FAB, part 1. -/
def fieldsFAB1 : List Reg := [FAB_CFG_NODE_REQ, FAB_CFG_ANY, FAB_CFG_EN, FAB_CFG_GATE_EN, FAB_CFG_PRIO, FAB_FABRIC_ID_ID, FAB_CMD_JOIN, FAB_CMD_TICK, FAB_CMD_TICK_LEN, FAB_STATUS_STATE, FAB_STATUS_ROOT, FAB_STATUS_CONVERGED, FAB_STATUS_NODE, FAB_STATUS_DUP, FAB_STATUS_CFG_DIFF, FAB_STATUS_ERR_STATE, FAB_STATUS_ESC_SEEN, FAB_STATUS_LATE_SEEN, FAB_STATUS_HOP_SEEN, FAB_STATUS_TIME_SEEN, FAB_STATUS_CELL_ERR_SEEN, FAB_STATUS_DISCARD_SEEN, FAB_STATUS_CTRLQ_SEEN, FAB_STATUS_NODES, FAB_ROOT_NODE, FAB_ROOT_DEPTH, FAB_ROOT_SEQ, FAB_GEN_GEN, FAB_GEN_NEXT, FAB_GEN_WIN, FAB_TIMING_ESCAPE_WAIT, FAB_TIMING_FLOW_STALL, FAB_TIMING_TIME_TOL, FAB_TIMING_ROOT_WAIT, FAB_GATE_UP, FAB_GATE_LOCK, FAB_GATE_TREE, FAB_GATE_UPLINK, FAB_GATE_PEER, FAB_GATE_PEER_VALID]
/-- The fields of block FAB, part 2. -/
def fieldsFAB2 : List Reg := [FAB_GATE_CREDITS, FAB_GATE_ERRORS, FAB_GATE_LOST, FAB_NBR_OFFSET, FAB_NBR_ASYM, FAB_ESCAPES, FAB_LATE, FAB_DISCARDS, FAB_CTRLQ_DEPTH, FAB_CTRLQ_WM_HIGH, FAB_CTRLQ_HI_SEEN, FAB_CTRLQ_LO_SEEN, FAB_CTRLQ_LOST, FAB_CTRLQ_WM_LOW, FAB_FLOW_SEL_GSRC, FAB_ROUTE_MIN, FAB_ROUTE_UP, FAB_ROUTE_UP_VALID, FAB_ROUTE_LOCAL, FAB_ROUTE_DOWN, FAB_ROUTE_HOPS, FAB_ROUTE_VALID]
/-- The fields of block FAB. -/
def fieldsFAB : List Reg := fieldsFAB1 ++ fieldsFAB2
/-- The fields of block NET, part 1. -/
def fieldsNET1 : List Reg := [NET_CFG_EN, NET_CFG_RATE, NET_CFG_AN_EN, NET_CFG_PROMISC, NET_CFG_PAUSE_EN, NET_CFG_PREEMPT_EN, NET_CFG_VERIFY_DIS, NET_CFG_ADD_FRAG, NET_CFG_EXPRESS_B, NET_CFG_MAXLEN, NET_STATUS_LINK_UP, NET_STATUS_RATE_UP, NET_STATUS_PREEMPT, NET_STATUS_PAUSED, NET_STATUS_LAST, NET_STATUS_ERR_STATE, NET_STATUS_LINK_SEEN, NET_STATUS_PAUSE_SEEN, NET_STATUS_LATE_SEEN, NET_STATUS_LREP_LOST_SEEN, NET_STATUS_RX_ERR_SEEN, NET_CMD_STAT_CLR, NET_CMD_LREP_POP, NET_CMD_VERIFY, NET_MAC_LO, NET_MAC_HI, NET_IP, NET_VLAN_VID, NET_MCAST_ADDR_LO, NET_MCAST_ADDR_HI, NET_MCAST_VALID, NET_TS_ADJ_RX, NET_TS_ADJ_TX, NET_LAUNCH_LATE_TOL, NET_LAUNCH_HIGH, NET_LAUNCH_LOW, NET_PAUSE_QUANTA, NET_RING_BASE_LO, NET_RING_BASE_HI, NET_RING_SIZE]
/-- The fields of block NET, part 2. -/
def fieldsNET2 : List Reg := [NET_RING_HEAD, NET_RING_TAIL, NET_LREP_STAT_DEPTH, NET_LREP_STAT_HI_SEEN, NET_LREP_STAT_LO_SEEN, NET_LREP_STAT_LOST, NET_STAT, NET_STAT_HALF, NET_STREAM_CFG_STALL_TIME, NET_RXS_EN, NET_RXS_PORT, NET_RXS_CLASS, NET_RXS_L24, NET_RXS_PTIME, NET_RXS_CHANS, NET_RXS_SRC_FILT, NET_RXS_POOL, NET_RXS_PT, NET_RXS_SSRC_FILT, NET_RXS_DST_IP, NET_RXS_UDP_PORT, NET_RXS_LINK_OFFSET, NET_RXS_SRC_IP, NET_RXS_RTP_OFFSET, NET_RXS_SSRC, NET_RXS_STAT_STATE, NET_RXS_STAT_FLUSHES, NET_RXS_STAT_MISSING, NET_RXS_STAT_LATE, NET_RXS_STAT_JUMP, NET_RXS_STAT_DUP, NET_RXS_STAT_BADPKT, NET_RXS_STAT_SSRC_CHANGE, NET_RXS_STAT_REBASE, NET_TXS_EN, NET_TXS_PORT, NET_TXS_CLASS, NET_TXS_L24, NET_TXS_PTIME, NET_TXS_CHANS]
/-- The fields of block NET, part 3. -/
def fieldsNET3 : List Reg := [NET_TXS_MAP, NET_TXS_PT, NET_TXS_DST_IP, NET_TXS_DST_PORT, NET_TXS_SRC_PORT, NET_TXS_DST_MAC_LO, NET_TXS_DST_MAC_HI, NET_TXS_DSCP, NET_TXS_TTL, NET_TXS_SSRC, NET_TXS_RTP_OFFSET, NET_TXS_VID, NET_TXS_PCP, NET_TXS_VLAN_EN, NET_TXMAP_KIND, NET_TXMAP_INDEX]
/-- The fields of block NET. -/
def fieldsNET : List Reg := fieldsNET1 ++ fieldsNET2 ++ fieldsNET3
/-- The fields of block TIME. -/
def fieldsTIME : List Reg := [TIME_CTRL_SERVO_EN, TIME_CTRL_STEP_EN, TIME_STATUS_SERVO, TIME_STATUS_SLAVE, TIME_STATUS_LAST, TIME_STATUS_ERR_STATE, TIME_STATUS_STEP_SEEN, TIME_STATUS_LIMIT_SEEN, TIME_STATUS_MASTER_SEEN, TIME_NOW_LO, TIME_NOW_HI, TIME_RATE, TIME_AUDIO_TRIM, TIME_OFFSET, TIME_SERVO_KP, TIME_SERVO_KI, TIME_STEP_THRESH_THRESH, TIME_ADJ, TIME_STEPS, TIME_PTP_CFG_PROFILE, TIME_PTP_CFG_DOMAIN, TIME_PTP_CFG_PRIO1, TIME_PTP_CFG_PRIO2, TIME_PTP_CFG_SLAVE_ONLY, TIME_PTP_PORT_EN, TIME_PTP_PORT_P2P, TIME_PTP_PORT_UDP, TIME_PTP_PORT_OVERRIDE, TIME_PTP_PORT_LOG_SYNC, TIME_PTP_PORT_LOG_ANN, TIME_PTP_PORT_STATE, TIME_GM_LO, TIME_GM_HI, TIME_PATH]
/-- The fields of block AUD. -/
def fieldsAUD : List Reg := [AUD_CTRL_AES_EN, AUD_CTRL_MADI_EN, AUD_CTRL_TDM_EN, AUD_CTRL_ANA_EN, AUD_STATUS_LAST, AUD_STATUS_ERR_STATE, AUD_STATUS_LINK_SEEN, AUD_STATUS_SLIP_SEEN, AUD_STATUS_BAD_SEEN, AUD_STATUS_OVL_SEEN, AUD_STATUS_EMIC_SEEN, AUD_AES_IN_SRC, AUD_TDM_SLAVE, AUD_TDM_FS_DELAY, AUD_TDM_FS_WIDE, AUD_AES_IN_LINK, AUD_MADI_IN_LINK, AUD_TDM_LINK, AUD_AES_IN_SRC_LOCK, AUD_AES_IN_RATE, AUD_MADI_IN_RATE, AUD_AES_IN_SLIPS, AUD_MADI_IN_SLIPS, AUD_TDM_SLIPS, AUD_AES_IN_BAD, AUD_MADI_IN_BAD, AUD_TDM_BAD, AUD_AES_IN_LOSSES, AUD_MADI_IN_LOSSES, AUD_TDM_LOSSES, AUD_CS_SEL_INPUT, AUD_ANA_GAIN, AUD_ANA_RANGE, AUD_ANA_SUP_EN, AUD_ANA_SUP, AUD_ANA_OVL, AUD_ANA_PEAK, AUD_OUTMAP_KIND, AUD_OUTMAP_INDEX]
/-- The fields of block AMP. -/
def fieldsAMP : List Reg := [AMP_CTRL_EN, AMP_STATUS_LAST, AMP_STATUS_ERR_STATE, AMP_STATUS_LINK_SEEN, AMP_STATUS_BCH_ERR_SEEN, AMP_STATUS_PRESENT_SEEN, AMP_STATUS_FAULT_SEEN, AMP_STATUS_CHAN_SEEN, AMP_PILOT_EN, AMP_PILOT_LVL, AMP_PILOT_FREQ, AMP_LINK_STATE, AMP_LINK_ALL_LINKS, AMP_LINK_AMPS, AMP_LINK_BCH_BAD, AMP_LINK_RPT_BAD, AMP_LINK_PRESENT, AMP_MSG_TX_ADDR, AMP_MSG_TX_BUSY, AMP_MSG_TX_DATA, AMP_MSG_TX_SEND, AMP_RPT_OCTETS, AMP_RPT_OCTETS12, AMP_RPT_AGE]
/-- The fields of block DRAM, part 1. -/
def fieldsDRAM1 : List Reg := [DRAM_CTRL_THAW, DRAM_CTRL_SR_EN, DRAM_CTRL_CLEAR_FAULT, DRAM_CTRL_SR_IDLE, DRAM_STATUS_MODE, DRAM_STATUS_TRAINED, DRAM_STATUS_LAST, DRAM_STATUS_ERR_STATE, DRAM_STATUS_CORR_SEEN, DRAM_STATUS_UE_SEEN, DRAM_STATUS_AGE_SEEN, DRAM_STATUS_WM_SEEN, DRAM_STATUS_MULTI_SEEN, DRAM_STATUS_TEMP, DRAM_SIZE_FITTED, DRAM_SIZE_USABLE, DRAM_AGE_LIMIT, DRAM_PARA_K, DRAM_PARA_WIDE, DRAM_QWM_HIGH, DRAM_QWM_LOW, DRAM_FAULT_ADDR_LO, DRAM_FAULT_ADDR_HI, DRAM_FAULT_WIN, DRAM_FAULT_INFO_SYNDROME, DRAM_FAULT_INFO_REQ, DRAM_FAULT_INFO_MASTER, DRAM_FAULT_INFO_CLASS, DRAM_FAULT_INFO_RMW, DRAM_FAULT_INFO_CHANNEL, DRAM_FAULT_INFO_BANK, DRAM_CORR, DRAM_UE, DRAM_PARA_COUNT, DRAM_PROMOTED, DRAM_SR_WAIT, DRAM_SR_STAT_WAKES, DRAM_SR_STAT_ABORTS, DRAM_Q_DEPTH, DRAM_Q_PRIV]
/-- The fields of block DRAM, part 2. -/
def fieldsDRAM2 : List Reg := [DRAM_Q_HI_SEEN, DRAM_Q_LO_SEEN, DRAM_Q_CROSS, DRAM_CLASS_LINES_LINES]
/-- The fields of block DRAM. -/
def fieldsDRAM : List Reg := fieldsDRAM1 ++ fieldsDRAM2
/-- The fields of block MTX. -/
def fieldsMTX : List Reg := [MTX_STATUS_SLICES, MTX_STATUS_LAST, MTX_STATUS_ERR_STATE, MTX_STATUS_DECERR_SEEN, MTX_STATUS_DENIED_SEEN, MTX_STATUS_TIMEOUT_SEEN, MTX_CAP_ADDR_ADDR, MTX_CAP_INFO_MASTER, MTX_CAP_INFO_TARGET, MTX_CAP_INFO_WRITE, MTX_CAP_INFO_KIND, MTX_CAP_INFO_CLASS, MTX_MCLASS_M0, MTX_MCLASS_M1, MTX_MCLASS_M9, MTX_AGE_CYCLES, MTX_TIMEOUT_US, MTX_DECERR_COUNT, MTX_DENIED_COUNT, MTX_TIMEOUT_COUNT]
/-- The fields of block MBX. -/
def fieldsMBX : List Reg := [MBX_LB_DATA, MBX_LB_LB_GO, MBX_LB_FULL, MBX_LB_COLLIDE, MBX_CFG_STANDOFF, MBX_ALLOC_YARD, MBX_ALLOC_EN, MBX_STATUS_LAST, MBX_STATUS_ERR_STATE, MBX_STATUS_STANDOFF_SEEN, MBX_STATUS_COLLIDE_SEEN, MBX_STATUS_LATCH_SEEN, MBX_STATUS_FULL_MAP, MBX_SESSION_OPEN4, MBX_SESSION_OPEN5, MBX_SESSION_LOCK4, MBX_SESSION_LOCK5, MBX_SESSION_AUTH_FAILS, MBX_PCIE_UP, MBX_PCIE_GEN, MBX_PCIE_WIDTH, MBX_PCIE_ERRORS]
/-- The fields of block LATCH. -/
def fieldsLATCH : List Reg := [LATCH]
/-- The fields of block EVT. -/
def fieldsEVT : List Reg := [EVT_SRC_PEND, EVT_SRC_EN, EVT_GRP_EN, EVT_GRP_PEND, EVT_GRP_CLASS_CLASS, EVT_CLASS_ROUTE_VEC0, EVT_CLASS_ROUTE_EN0, EVT_CLASS_ROUTE_VEC1, EVT_CLASS_ROUTE_EN1, EVT_CLASS_ROUTE_KEEPER, EVT_CLASS_ROUTE_K1, EVT_CLASS_PEND, EVT_EOI, EVT_REC_STAT_DEPTH, EVT_REC_WM_HIGH, EVT_REC_STAT_HI_SEEN, EVT_REC_STAT_LO_SEEN, EVT_REC_STAT_LOST, EVT_REC_WM_LOW]
/-- The fields of block LINE. -/
def fieldsLINE : List Reg := [LINE_CFG_TOL, LINE_CFG_OPEN_MUL, LINE_CFG_SHORT_FRAC, LINE_CFG_CONFIRM, LINE_CFG_NOMEAS, LINE_STATUS_LAST, LINE_STATUS_ERR_STATE, LINE_STATUS_OPEN_SEEN, LINE_STATUS_SHORT_SEEN, LINE_STATUS_DRIFT_SEEN, LINE_STATUS_NOMEAS_SEEN, LINE_STATUS_FAULTS, LINE_ZONE_MAP, LINE_FEED_BASE_Z, LINE_FEED_BASE_PH, LINE_FEED_BASE_VALID, LINE_FEED_Z, LINE_FEED_PH, LINE_FEED_STATE, LINE_FEED_DRIFT, LINE_FEED_NOMEAS]
/-- The fields of block MON, part 1. -/
def fieldsMON1 : List Reg := [MON_CTRL_EN, MON_CTRL_SCRUB_EN, MON_CTRL_SCRUB_RATE, MON_CMD_SYNC, MON_CMD_GROUPS, MON_STATUS_LAST, MON_STATUS_SYNC_PEND, MON_STATUS_ERR_STATE, MON_STATUS_THRESH_SEEN, MON_STATUS_SCRUB_SEEN, MON_STATUS_CAL_SEEN, MON_STATUS_FLASH_SEEN, MON_STATUS_LOST_SEEN, MON_STATUS_SAFE_BAD, MON_STATUS_DRAM_CAL_BAD, MON_RING_BASE_LO, MON_RING_BASE_HI, MON_RING_SIZE, MON_RING_HEAD, MON_RING_TAIL, MON_Q_DEPTH, MON_QWM_HIGH, MON_Q_HI_SEEN, MON_Q_LO_SEEN, MON_Q_LOST, MON_QWM_LOW, MON_SCRUB_POS, MON_SCRUB_PASS, MON_FLASH_ECC, MON_SENSE_VALUE, MON_FLASH_SPARE, MON_FLASH_SPARE_LOW, MON_FLASH_RETIRED, MON_CH_TAP, MON_CH_INDEX, MON_CH_MODE, MON_CH_PRESET, MON_CH_GROUP, MON_CH_EN, MON_CH_ABOVE]
/-- The fields of block MON, part 2. -/
def fieldsMON2 : List Reg := [MON_CH_TSHIFT, MON_CH_SETTLING, MON_CH_L, MON_CH_PHASE, MON_CH_HI, MON_CH_LO]
/-- The fields of block MON. -/
def fieldsMON : List Reg := fieldsMON1 ++ fieldsMON2
end R

/-- Every field of BAR0. -/
def allRegs : List Reg :=
  R.fieldsWIN ++ R.fieldsLEDG ++ R.fieldsSRC ++ R.fieldsOBJ ++ R.fieldsFEED ++ R.fieldsZONE ++ R.fieldsPLAN ++ R.fieldsSYS ++ R.fieldsCORR ++ R.fieldsYARD ++ R.fieldsSHUT ++ R.fieldsSTORM ++ R.fieldsFIRE ++ R.fieldsHNG ++ R.fieldsFAB ++ R.fieldsNET ++ R.fieldsTIME ++ R.fieldsAUD ++ R.fieldsAMP ++ R.fieldsDRAM ++ R.fieldsMTX ++ R.fieldsMBX ++ R.fieldsLATCH ++ R.fieldsEVT ++ R.fieldsLINE ++ R.fieldsMON

/-- The reset value of element `i` (R455 and each field table). -/
def Reg.resetAt (r : Reg) (i : Nat) : Nat := r.resets.getD i r.reset

/-- The field's bits of a register word. -/
def Reg.of (r : Reg) (word : Nat) : Nat := word >>> r.lo % 2 ^ r.width

/-- The byte address of element `i`. -/
def Reg.addrAt (r : Reg) (i : Nat) : Nat := r.addr + r.oStride * (i / r.iCount) + r.iStride * (i % r.iCount)

/-- Which element of the array lies at byte address `a`, if any. -/
def Reg.indexAt (r : Reg) (a : Nat) : Option Nat :=
  if a < r.addr then none else
  let d := a - r.addr
  let o := if r.oStride = 0 then 0 else d / r.oStride
  let rem := d - o * r.oStride
  let n := if r.iStride = 0 then 0 else rem / r.iStride
  let i := o * r.iCount + n
  if n < r.iCount && i < r.count && rem == n * r.iStride then some i else none

/-- One entry of a register map: element `idx` of field `reg` holds `val`. -/
structure Ent where
  reg : Reg
  idx : Nat
  val : Nat
  deriving DecidableEq, Repr

/-- Field values: the listed elements in ascending (id, index) order; an unlisted element holds its reset value. -/
abbrev RegMap := List Ent

/-- The order of the entries. -/
def keyLt (i a j b : Nat) : Bool := i < j || (i == j && a < b)

/-- Reading element `i` of field `r`. -/
def RegMap.get : RegMap → Reg → Nat → Nat
  | [], r, i => r.resetAt i
  | e :: m, r, i => if e.reg.id == r.id && e.idx == i then e.val else RegMap.get m r i

/-- Entering a value for an element, in order. -/
def RegMap.put : RegMap → Ent → RegMap
  | [], e => [e]
  | x :: m, e =>
    if x.reg.id == e.reg.id && x.idx == e.idx then e :: m
    else if keyLt e.reg.id e.idx x.reg.id x.idx then e :: x :: m
    else x :: RegMap.put m e

/-- Writing element `i` of field `r`: the value is taken modulo the field's width, and an element at its reset value is
not listed. -/
def RegMap.set (m : RegMap) (r : Reg) (i v : Nat) : RegMap :=
  let v := v % 2 ^ r.width
  if v == r.resetAt i then m.filter (fun e => !(e.reg.id == r.id && e.idx == i))
  else m.put ⟨r, i, v⟩

/-- Every entry is in range, away from its reset value, and the entries rise strictly. -/
def RegMap.wf : RegMap → Bool
  | [] => true
  | e :: m =>
    (e.val < 2 ^ e.reg.width && e.val != e.reg.resetAt e.idx) &&
      (m.all (fun x => keyLt e.reg.id e.idx x.reg.id x.idx) && RegMap.wf m)

/-- The write classes of R453. -/
inductive WClass where
  | any | secure | keeperState | keeperDenied | read
  deriving DecidableEq, Repr

/-- The write class of a BAR0 address (R451, R453). -/
def writeClass (a : Nat) : WClass :=
  if 0x20100 ≤ a ∧ a ≤ 0x2010F then .secure
  else if 0x20200 ≤ a ∧ a < 0x20200 + 4 * 54 then .keeperState
  else if 0x80000 ≤ a ∧ a ≤ 0x8FFFF then .secure
  else if a = 0xC0008 then .keeperDenied
  else if 0xD0000 ≤ a ∧ a ≤ 0xEFFFF then .secure
  else if 0x100000 ≤ a ∧ a < 0x200000 ∧ a % 0x40000 = 0x9C then .keeperDenied
  else if 0x230000 ≤ a ∧ a ≤ 0x23FFFF then .secure
  else if 0x400000 ≤ a ∧ a < 0x800000 then .read
  else .any

/-- Whether the address is unmapped and goes to the DEFAULT target (R451, R452). -/
def unmapped (a : Nat) : Bool :=
  (0x260000 ≤ a && a < 0x400000) || (0x800000 ≤ a && a < 0x1000000) || 0x2000000 ≤ a

/-! The event sources, numbered as R406 numbers them. -/
namespace Ev
def WIN_START : Nat := 0
def WIN_TICK : Nat := 1
def WIN_GUARD : Nat := 2
def WIN_SLIP : Nat := 3
def WIN_STATE : Nat := 4
def WIN_CLK : Nat := 5
def WIN_LEAN : Nat := 6
def WIN_WRAP : Nat := 7
def LEDG_SUPPLY : Nat := 8
def LEDG_STEP : Nat := 9
def LEDG_REFUSE : Nat := 10
def LEDG_OVER : Nat := 11
def LEDG_CAL : Nat := 12
def LEDG_BATT_LOW : Nat := 13
def LEDG_FLOOR_FAIL : Nat := 14
def LEDG_STATE : Nat := 15
def YARD_STATE : Nat := 168
def YARD_MISS : Nat := 169
def YARD_ZONE_MISS : Nat := 170
def YARD_FAULT : Nat := 171
def YARD_ORDER : Nat := 172
def YARD_ECC : Nat := 173
def YARD_QUEUE : Nat := 174
def YARD_WM : Nat := 175
def YARD_SEQ : Nat := 176
def YARD_DFLOOR : Nat := 177
def YARD_CLAMP : Nat := 178
def YARD_EXIT : Nat := 179
def YARD_LAW : Nat := 180
def YARD_CORR : Nat := 181
def YARD_FEED : Nat := 182
def YARD_STI : Nat := 183
def STORM_ENGAGE : Nat := 152
def STORM_RETURN : Nat := 153
def STORM_ALL : Nat := 154
def STORM_STORE : Nat := 155
def STORM_ARM : Nat := 156
def STORM_PTT : Nat := 157
def STORM_VOICE : Nat := 158
def STORM_BACKSTOP : Nat := 159
def FIRE_ALARM : Nat := 160
def FIRE_FAULT : Nat := 161
def FIRE_PLAN : Nat := 162
def FIRE_CONFIRM : Nat := 163
def FIRE_K1 : Nat := 164
def FIRE_RELAY : Nat := 165
def SHUT_AUTO : Nat := 166
def FIRE_STATE : Nat := 167
def HNG_ROLE : Nat := 16
def HNG_MISMATCH : Nat := 17
def HNG_HB_LOST : Nat := 18
def HNG_PROBE : Nat := 19
def HNG_SYNC : Nat := 20
def HNG_DUAL : Nat := 21
def HNG_LINK : Nat := 22
def HNG_STATE : Nat := 23
def FAB_LINK : Nat := 24
def FAB_KNOCK_CFG : Nat := 25
def FAB_ROOT : Nat := 26
def FAB_CONV : Nat := 27
def FAB_GEN : Nat := 28
def FAB_DUP : Nat := 29
def FAB_CELL_ERR : Nat := 30
def FAB_CREDIT : Nat := 31
def FAB_ESCAPE : Nat := 32
def FAB_FLOW_LATE : Nat := 33
def FAB_FLOW_STALL : Nat := 34
def FAB_HOP : Nat := 35
def FAB_TIME : Nat := 36
def FAB_DISCARD : Nat := 37
def FAB_CTRLQ : Nat := 38
def FAB_STATE : Nat := 39
def NET_LINK : Nat := 40
def NET_RXERR : Nat := 41
def NET_STATS : Nat := 42
def NET_PREEMPT : Nat := 43
def NET_PAUSE : Nat := 44
def NET_LAUNCH : Nat := 45
def NET_STREAM : Nat := 46
def NET_STATE : Nat := 47
def TIME_STEP : Nat := 72
def TIME_SERVO : Nat := 73
def TIME_LIMIT : Nat := 74
def TIME_MASTER : Nat := 75
def TIME_PORT : Nat := 76
def TIME_OFFSET : Nat := 77
def TIME_ALIGN : Nat := 78
def TIME_STATE : Nat := 79
def AUD_LINK : Nat := 112
def AUD_SLIP : Nat := 113
def AUD_BAD : Nat := 114
def AUD_SRC : Nat := 115
def AUD_RATE : Nat := 116
def AUD_CS : Nat := 117
def AUD_VALID : Nat := 118
def AUD_MADI_MODE : Nat := 119
def AUD_TDM_CLK : Nat := 120
def AUD_OVL : Nat := 121
def AUD_EMIC : Nat := 122
def AUD_MAP : Nat := 123
def AUD_STATE : Nat := 127
def AMP_LINK : Nat := 128
def AMP_BCH_ERR : Nat := 129
def AMP_PRESENT : Nat := 130
def AMP_FOLLOW : Nat := 131
def AMP_FAULT : Nat := 132
def AMP_DLERR : Nat := 133
def AMP_CHAN : Nat := 134
def AMP_MSG : Nat := 135
def AMP_MUTED : Nat := 136
def AMP_CLIP : Nat := 137
def AMP_STATE : Nat := 143
def DRAM_FREEZE : Nat := 80
def DRAM_THAW : Nat := 81
def DRAM_CORR : Nat := 82
def DRAM_PROMOTE : Nat := 83
def DRAM_SR : Nat := 84
def DRAM_TEMP : Nat := 85
def DRAM_WM : Nat := 86
def DRAM_STATE : Nat := 87
def MTX_DENIED : Nat := 88
def MTX_DECERR : Nat := 89
def MTX_TIMEOUT : Nat := 90
def MTX_STATE : Nat := 91
def MBX_BELL : Nat := 96
def MBX_EMPTY : Nat := 102
def MBX_COLLIDE : Nat := 103
def MBX_STANDOFF : Nat := 104
def MBX_LATCH : Nat := 105
def MBX_BREAK : Nat := 106
def MBX_SESSION : Nat := 107
def MBX_AUTH : Nat := 108
def MBX_PCIE : Nat := 109
def MBX_EVTQ : Nat := 110
def MBX_STATE : Nat := 111
def KEEP_TABLE : Nat := 92
def KEEP_SCENE : Nat := 93
def KEEP_ARM : Nat := 94
def KEEP_STATE : Nat := 95
def LINE_OPEN : Nat := 144
def LINE_SHORT : Nat := 145
def LINE_OK : Nat := 146
def LINE_DRIFT : Nat := 147
def LINE_NOMEAS : Nat := 148
def LINE_BASE : Nat := 149
def LINE_ZONE : Nat := 150
def LINE_STATE : Nat := 151
def MON_THRESH : Nat := 184
def MON_SYNC : Nat := 185
def MON_WM : Nat := 186
def MON_LOST : Nat := 187
def MON_SCRUB : Nat := 188
def MON_CAL : Nat := 189
def MON_FLASH : Nat := 190
def MON_STATE : Nat := 191
end Ev

end Sys2Proof.Machine
end

