-- ==== Sys2Proof/Operand.lean ====
section
/-! DEFINITION. What the commands carry: masters, owner codes, received frames and cells, measurements. Each is data that comes
from outside the block (a host write, a received frame, a measured value) or names a part of it. -/
namespace Sys2Proof

/-- A master of the bus matrix (R371, R385): the two PCIe functions are both M0. -/
inductive Master where
  | fn0 | fn1 | keeper
  | seq (y : Fin 4)
  | agent (m : Fin 4)   -- M6 streams, M7 fabric, M8 hinge, M9 monitor chain
  deriving DecidableEq, Repr

/-- The master number of R370 and R404. -/
def Master.num : Master → Nat
  | .fn0 => 0 | .fn1 => 0 | .keeper => 1
  | .seq y => 2 + y
  | .agent m => 6 + m

/-- What a check of a protected word or chunk finds (R352, R156); in a freeze, whether the other channel found a second one
in the same cycle (R366). -/
inductive EccOut where
  | clean
  | corrected
  | bad (second : Bool)
  deriving DecidableEq, Repr

/-- A word of a yard found in error by a read or a scrub (R156, R419): in its loft or in one of its stores, its byte address
there, and whether it is uncorrectable. -/
structure ScrubHit where
  loft : Bool
  addr : Nat
  bad : Bool
  deriving DecidableEq, Repr

/-- How a stream transfer ended (R180): with an error return of the DRAM controller or the matrix, and the words of the yard that
its reads found in error (R156). -/
structure XferEnd where
  err : Bool
  ecc : List ScrubHit
  deriving DecidableEq, Repr

/-- A port or gate and the pluggable in its cage: what that draws in mW, none when it does not answer (R465). -/
structure Plug where
  port : Fin 4
  draws : Option Nat
  deriving DecidableEq, Repr

/-- How one slot operation of a bundle issues (R160, R161): the stall, whether it is the bundle's last operation, whether a
register it reads has a parity error (R162), whether the slot spells a reserved opcode or a field marked 0 is not 0 (R185),
what the check of the store words that it reads finds (the first that it loads, or the fetched bundle where it loads none,
R156), and the CORE cycles for which the stall is frozen before it (R167). -/
structure Slot where
  stall : Fin 128
  last : Bool
  parity : Bool
  mbz : Bool
  ecc : EccOut
  frozen : Nat
  deriving DecidableEq, Repr

/-- How a sequencer instruction issues: the yard, whether a register that it reads has a parity error (R187), whether a
field marked 0 is not 0 or the word spells a reserved opcode or function (R189), whether the fetched word is uncorrectable,
and whether the target of its access answers with an error return or an uncorrectable word (R192). -/
structure Issue where
  yard : Fin 4
  parity : Bool
  mbz : Bool
  fetchEcc : Bool
  bus : Bool
  ecc : Bool
  deriving DecidableEq, Repr

/-- The small queues whose pointers are duplicated (R376). -/
inductive SmallQueue where
  | work (stable : Fin 16)
  | launch (port : Fin 4)
  | storm
  | monitor
  deriving DecidableEq, Repr

/-- The width of an access to BAR0 (R7): 1, 2, 4 or 8 bytes. -/
inductive AccSize where
  | byte | half | word | double
  deriving DecidableEq, Repr

/-- The bytes of an access. -/
def AccSize.bytes : AccSize → Nat
  | .byte => 1 | .half => 2 | .word => 4 | .double => 8

/-- The header of a received hinge frame (R245), and whether its CRC is good. -/
structure HngHead where
  crcOk : Bool
  ver : Nat
  src : Nat
  dst : Nat
  group : Nat
  seq : Nat
  cwin : Nat
  deriving DecidableEq, Repr

/-- What a STATUS frame says (R245): role and sync phase, the configuration of R242, the output CRCs of content window
`cwin` of its header, and the results of probes by render window. -/
structure HngInfo where
  role : Nat
  sync : Nat
  order : Nat
  firmware : Nat
  mode : Nat
  len : Nat
  rate96 : Nat
  tick : Nat
  crcs : List Nat
  probes : List (Nat × Bool)
  deriving DecidableEq, Repr

/-- A cell (R268, R269): whether its HEC and CRC are good, its header fields, its sixteen payload words and AUX. -/
structure Cell where
  hecOk : Bool := true
  crcOk : Bool := true
  vc : Nat
  cls : Nat
  kind : Nat
  mc : Bool
  down : Bool := false
  dst : Nat
  hops : Nat := 0
  part : Nat := 0
  win8 : Nat := 0
  crCnt : Nat := 0
  crVc : Nat := 0
  words : List Nat
  aux : Nat := 0
  deriving DecidableEq, Repr

/-- A PTP message that the keeper sends (R302); a Pdelay_Resp names the receive timestamp of its request. -/
inductive PtpMsg where
  | sync
  | delayReq
  | delayResp
  | pdelayReq
  | pdelayResp (rx : Nat)
  | announce
  deriving DecidableEq, Repr

/-- What the keeper's PTP engine concludes from a received message under IEEE 1588-2019: a measured offset in ns, the
portState, the grandmaster identity and the mean path delay. -/
structure PtpOut where
  offset : Option Int
  state : Nat
  gm : Nat
  path : Nat
  deriving DecidableEq, Repr

/-- What the MAC saw beside a frame's octets: FCS, reassembly of its fragments and how many there were, whether it is a
verify frame, how long ago its SFD passed the MDI in ns, and what a PTP message in it leads to. -/
structure RxInfo where
  fcsOk : Bool := true
  asmOk : Bool := true
  frags : Nat := 0
  verify : Bool := false
  sfdAgo : Nat := 0
  ptp : Option PtpOut := none
  deriving DecidableEq, Repr

/-- A frame at a digital audio input (R325 to R328): whether it is good, its 24-bit samples by channel, its RATE code, the
channel-status bytes of each subframe when a block completes, and the channels whose validity bit is set. -/
structure AudFrame where
  good : Bool
  samples : List Nat
  rate : Nat := 0
  cs : List (List Nat) := []
  valid : List Nat := []
  deriving DecidableEq, Repr

end Sys2Proof
end

