-- ==== Sys2Proof/Machine/Ctl.lean ====
section
/-! DEFINITION. The control state of the module: the register fields, and chapter by chapter the state behind them.
A field with no reset value in the spec starts at the value written here (log entry 2). -/
namespace Sys2Proof.Machine

/-- An event record (R413). -/
structure EvRec where
  source : Nat
  info : Nat
  safe : Bool
  seq : Nat
  detail : Nat
  time : Nat
  deriving DecidableEq, Repr

/-- One MSI-X vector of a function (R386, PCI Express Base Specification). -/
structure MsixVec where
  mask : Bool := true
  pending : Bool := false
  addr : Nat := 0
  data : Nat := 0
  deriving DecidableEq, Repr

/-- The MSI-X controls of a function (R386): Enable, Function Mask, eight vectors. -/
structure MsixFn where
  enable : Bool := false
  fmask : Bool := false
  vecs : Keyed MsixVec := []
  deriving DecidableEq, Repr

/-- The event controller (R406 to R415). -/
structure EvtSt where
  seqs : Counts := []             -- per-source record count, modulo 256 (R413)
  queue : List EvRec := []        -- oldest first, at most 256 (R414)
  log : List EvRec := []          -- flash event log, oldest first, at most 1,048,576 (R412)
  logNext : Nat := 0              -- log sequence of the next record
  cross : Nat := 0                -- watermark crossings of the record queue (R379)
  corr : Nat := 0                 -- corrected words of the record queue (R376)
  fn0 : MsixFn := {}
  fn1 : MsixFn := {}
  deriving DecidableEq, Repr

/-- The window engine (R15 to R25). -/
structure WinSt where
  ext : Nat := 0                  -- the 64-bit extended count of the window in progress
  awaiting : Bool := false        -- RUN is set and the first window has not begun (R29)
  firstWin : Nat := 0             -- extended count of the first window (0 for START, M for JOIN)
  stopPending : Bool := false     -- a STOP takes effect at the next boundary
  alignedRun : Nat := 0           -- boundaries in a row with ALIGNED (R20)
  prevBig : Bool := false         -- the previous boundary's error exceeded 1,000 ns (R20)
  tickReq : Option Nat := none    -- tick length latched for the next tick boundary (R21)
  tickFrom : Option Nat := none   -- a fabric tick change waits for the boundary of this window (R287)
  leanWanted : Bool := false      -- the ledger has chosen lean mode for the next boundary (R25)
  deriving DecidableEq, Repr

/-- A shed item that the ledger may restore, in shedding order (R46, R49). -/
inductive ShedItem where
  /-- Step 0: the block with this LEDG_COST index was disabled. -/
  | block (i : Nat)
  /-- Step 1: the allowance of class D was lowered; `restore` is the value to return to. -/
  | allow (restore : Nat)
  /-- Steps 2, 3 and 5: the object was deactivated. -/
  | obj (step idx : Nat)
  /-- Lean mode: step 4, or step 0 with LEAN_ON_BATT (R51). -/
  | lean (step : Nat)
  /-- A step taken with nothing left to shed. -/
  | empty (step : Nat)
  deriving DecidableEq, Repr

/-- The ledger (R31 to R51). Charges are in sixteenths of an LU. -/
structure LedgSt where
  mainsOk : Bool := true           -- MAINS_OK (R33)
  battPresent : Bool := false      -- the battery is at 12.0 V or more (R33)
  battOpen : Bool := false         -- the battery path is open after a cut-off (R34)
  mayUseFloor : Bool := false      -- the write in hand is the keeper's, made while it arms or carries out a plan (R38)
  jobs : Counts := []              -- J[k][w] at key 4 * w + k (R40)
  switchHold : List Nat := [0, 0, 0, 0]   -- charge of a pending switch per class (R72)
  overRun : Nat := 0               -- windows in a row with the mean above B (R45)
  overLatch : Bool := false        -- the mean trigger holds until the mean is at or below B (R45)
  mainsRun : Nat := 0              -- windows for which MAINS_OK has been 1 (R49)
  shed : List ShedItem := []       -- what is shed, oldest first (R46)
  leanWait : Nat := 0              -- window boundaries to the exit from lean mode that is decided, 0 with none (R50)
  shedRamp : Counts := []          -- shed objects whose ramp has not ended: index, tick boundaries to its end, this one not counted (R47)
  battSeen : Bool := false         -- the battery budget has been evaluated since MAINS_OK fell (R46)
  refusedA : List Nat := []        -- class-A objects refused, for the floor failure rule (R39, R48)
  calSum : Nat := 0                -- sum of the ratios averaged so far (R44)
  calN : Nat := 0                  -- how many ratios the average holds, at most 1,024
  stepShown : Nat := 7             -- the step last shown, for EV_LEDG_STEP
  deriving DecidableEq, Repr

/-- An object of the scene before a switch that still fades out (R74). -/
structure OldObj where
  idx : Nat
  cls : Nat
  cost : Nat
  law : Nat
  left : Nat                       -- tick boundaries until its ramp tick ends
  st : Nat                         -- its STATE at the switch
  deriving DecidableEq, Repr

/-- A loaded program image (R211 to R213): its id, job-entry table and code region. -/
structure Image where
  id : Nat := 0
  entries : List (Nat × Nat × Nat) := []   -- ENTRY, COST_MAX, CLASSES
  jobBase : Nat := 0
  jobSize : Nat := 0
  start : Nat := 0                 -- IMEM offset of the first instruction
  crc : Nat := 0
  data : List Byte := []           -- initial DMEM content
  kit : Bool := false              -- its programs are the kit's standard law and mix programs (log entry 129)
  deriving DecidableEq, Repr

/-- A program image with the yards that take it and its code (R211). -/
structure ProgImg where
  yards : Nat
  img : Image
  code : List Byte
  job : List Byte
  deriving DecidableEq, Repr

/-- Objects, sources, feeds, zones and scenes (R55 to R76). -/
structure TabSt where
  snap : RegMap := []              -- the tick snapshot (R22); unlisted fields hold their reset values
  stage : RegMap := []             -- the hidden bank that SCENE_LOAD writes (R71)
  stageHasPlan : Bool := false
  stageProg : List ProgImg := []   -- the staged program images
  stageMesh : List Nat := []       -- MESH and GRID sections as words, staged and in force (R80, R98)
  stageGrid : List Nat := []
  mesh : List Nat := []
  grid : List Nat := []
  loadPend : Bool := false         -- a SCENE_LOAD is writing the stage
  loadProg : List ProgImg := []
  loadMesh : List Nat := []
  loadGrid : List Nat := []
  loadImg : RegMap := []           -- the checked content that is being written
  loadId : Nat := 0
  loadPlan : Bool := false
  switchMin : Option Nat := none   -- a switch is pending for the first tick boundary at or after this window (R72)
  ramps : List Nat := []           -- tick boundaries until the ramp tick of each recent switch ends (R74)
  oldObjs : List OldObj := []      -- old objects that fade out in the ramp tick
  objPh : Counts := []             -- tick boundaries until a PENDING object fades in (R63)
  fadeReq : Counts := []           -- tick boundaries until an object asked to stop fades out (R63)
  reAct : List Nat := []           -- objects asked to activate again while FADING_OUT (R63)
  lastSwitch : Nat := 0            -- the window of the last scene switch that took effect (SYS_SCENE_WIN)
  tickDue : Bool := false          -- the boundary in progress is a tick boundary
  firstBoundary : Bool := false    -- the boundary in progress opened the first window
  mirror : RegMap := []            -- mirrored fields received for the next snapshot (R67)
  mirrorGot : List Nat := []       -- global entries that received them
  mirrorAsked : List Nat := []     -- copies whose mirrored activation request has been decided (R68)
  tickWin : Nat := 0               -- the window that the last tick boundary opened
  snapTime : Option Nat := none    -- TIME of the last tick snapshot (R57)
  homePrev : RegMap := []          -- the home node's snapshot of the tick before (R67)
  deriving DecidableEq, Repr

/-- A biquad coefficient set: 24-bit codes of signed Q3.21 (R118); the identity at reset. -/
structure BqSet where
  b0 : Nat := 0x200000
  b1 : Nat := 0
  b2 : Nat := 0
  a1 : Nat := 0
  a2 : Nat := 0
  deriving DecidableEq, Repr

/-- The state of a biquad stage (R117): the last two inputs and outputs. -/
structure BqMem where
  x1 : Int := 0
  x2 : Int := 0
  y1 : Int := 0
  y2 : Int := 0
  deriving DecidableEq, Repr

/-- The raw state of a supervised loop and for how long it has held (R219, R220). -/
structure LoopSt where
  raw : Nat := 0
  heldMs : Nat := 0
  deriving DecidableEq, Repr

/-- A plan in progress, in the render and in the storm door (R222 to R227). -/
structure PlanRt where
  pendAct : Bool := false          -- triggered; the keeper has not carried it out yet (R223)
  actWin : Nat := 0                -- window of activation
  confirmEnd : Option Nat := none  -- the boundary that begins this window ends the confirmation count (R224)
  confirmed : List Nat := []       -- zones confirmed so far
  chainAt : Option Nat := none     -- SAFE count at which NEXT is triggered (R225)
  backstopAt : Option Nat := none  -- SAFE count at which the storm door's backstop expires (R227)
  stormOn : Bool := false          -- the storm door counts the plan as an active storm plan (R230)
  deriving DecidableEq, Repr

/-- Where a plan's programme stands (R230): 0 tone, 1 message, 2 gap. -/
structure Prog where
  phase : Nat := 0
  pos : Nat := 0                   -- samples played of the tone, message or gap
  msg : Bool := false              -- the plan holds a message voice
  denied : Bool := false           -- it wanted one and received none
  tone : Bool := false             -- the plan holds a tone voice
  deriving DecidableEq, Repr

/-- The fire interface and the shutters (R215 to R221). -/
structure FireSt where
  loops : Keyed LoopSt := []       -- FI0 to FI15 at 0 to 15, PTT0 and PTT1 at 16 and 17
  openReq : Counts := []           -- feeds asked to open at the next boundary, 32 to a word (R217)
  closeReq : Counts := []          -- feeds asked to close
  autoReq : Counts := []           -- feeds to close by R218
  openDue : Counts := []           -- requests that the boundary in progress puts into effect: accepted before it (R217)
  closeDue : Counts := []
  autoDue : Counts := []
  opening : Counts := []           -- feeds in their first open window
  closing : Counts := []           -- feeds in their last window
  clockLost : Bool := false        -- the root or the audio PLL is lost (R15, R221)
  dieLost : Bool := false          -- the render die is lost (R234)
  storeBad : Bool := false         -- a storm-store check has failed (R228)
  deriving DecidableEq, Repr

/-- The storm door (R228 to R237). -/
structure StormSt where
  inForce : RegMap := []           -- STORM and PLAN fields put in force by COMMIT (R233)
  bqShadow : Keyed BqSet := []     -- zone biquads as written, at 8 * zone + stage
  bqForce : Keyed BqSet := []      -- zone biquads in force
  plans : Keyed PlanRt := []
  progs : Keyed Prog := []         -- programme positions, by plan
  fadeIn : Counts := []            -- samples left of a zone's storm fade-in (R235)
  fadeOut : Counts := []           -- samples left of a zone's fade back to the render (R237)
  fadeNow : Counts := []           -- the two counts at the storm sample at hand
  outNow : Counts := []
  sig : Keyed Int := []            -- the zone signals at the storm sample at hand (R232)
  sigPrev : Keyed Int := []        -- those of the sample before
  zmem : Keyed (List BqMem) := []  -- the states of the zone biquads in force
  linkSent : List Nat := []        -- links that have sent the storm sample at hand
  half : Bool := false             -- at 96 kHz, the first of the two frames of a sample
  ready : List Nat := []           -- zones that may return: checked, or with no active plan (R237)
  atEnd : List Nat := []           -- ready zones whose message or tone cycle has ended since
  causedBy : Counts := []          -- the plan plus 1 for which a zone was taken (causes 5 to 7)
  hdrOk : Bool := false            -- the store header and directory pass their CRCs (R228)
  safeCount : Nat := 0             -- the SAFE cycle count (R228)
  safeSub : Nat := 0               -- of the SAFE cycle in progress, in units of 2.5 ns
  evq : List EvRec := []           -- records queued while the render die is lost, at most 64 (R240)
  evqLost : Nat := 0
  freeCtr : Nat := 0               -- numbers the free values used so far (log entry 4)
  deriving DecidableEq, Repr

/-- A cell that waits at a gate, and the receive buffer that it still holds, as gate and virtual channel (R271). -/
structure QCell where
  cell : Cell
  held : Option (Nat × Nat) := none
  deriving DecidableEq, Repr

/-- A flow at this node (R282): the gates it leaves by, the hops from its owner, and the subscribing stations by gate. -/
structure Flow where
  outs : Nat
  hops : Nat
  stations : List (Nat × Nat)
  deriving DecidableEq, Repr

/-- What a neighbour's last knock said (R275). -/
structure Nbr where
  station : Nat
  gate : Nat
  run : Bool
  any : Bool
  role : Nat
  prio : Nat
  ident : Nat
  fabric : Nat
  root : Nat                       -- ROOT_IDENT
  dist : Nat
  rootPrio : Nat
  rootRun : Bool
  seq : Nat
  gen : Nat
  epoch : Nat
  tickOrigin : Nat
  len : Nat
  rate96 : Nat
  tick : Nat
  group : Nat
  deriving DecidableEq, Repr

/-- A keeper-handled control cell (R285), with what the message says beyond the words that the spec lays out: the classes
of an EXPORTS map and the flow gate sets of a ROUTE. -/
structure CtrlMsg where
  cell : Cell
  classes : Nat := 0
  flows : Keyed Flow := []
  deriving DecidableEq, Repr

/-- What a FAB node knows of the fabric (R267 to R289). -/
structure FabSt where
  rootIdent : Nat := 0             -- IDENT of the root
  rootPrio : Nat := 128
  rootRun : Bool := false          -- ROOT_RUN of the knock last taken (R275)
  rootEpoch : Nat := 0             -- the fabric's EPOCH
  rootGen : Nat := 0               -- the root's generation
  tickOrigin : Nat := 0            -- TICK_ORIGIN
  rootTick : Nat := 3              -- the fabric's tick length minus one
  rootLen : Nat := 1               -- LEN of the root
  exports : Keyed (Nat × Nat) := []   -- export directory: GSRC to class and owner node (R282)
  subs : List Nat := []            -- SRC entries that have subscribed (R283)
  nbrs : Keyed Nbr := []           -- by gate
  heard : Counts := []             -- nodes heard: address to GROUP plus 1 (R277)
  out : Keyed (List QCell) := []   -- output queues at 4 * gate + channel; link-local cells at 16 + gate
  passed : Counts := []            -- slots in which a channel was passed over, at 4 * gate + channel (R273)
  localHold : Counts := []         -- slots in which the first rule of R273 sends no link-local cell, by gate
  sent : Counts := []              -- cells sent, at 4 * gate + channel, modulo 65,536 (R272)
  peerFreed : Counts := []         -- cells the peer has freed
  rx : Counts := []                -- cells received
  freed : Counts := []             -- receive-buffer cells freed
  owed : Counts := []              -- credits owed
  flows : Keyed Flow := []         -- flow tables in force, by global source
  pendFlows : Keyed Flow := []     -- of the pending generation
  pendRoutes : Counts := []        -- FAB_ROUTE words of the pending generation, by station
  topo : Keyed (List (Option Nat)) := []   -- the root's map: peers of each station by gate
  acks : List Nat := []            -- stations that have acknowledged the pending generation
  acked : Bool := false            -- this station has acknowledged the last generation
  parts : Keyed (List (Nat × List Nat)) := []   -- parts received in this window, by global source
  partLink : Counts := []          -- LINK carried by them
  late : Counts := []              -- incomplete blocks by global source, modulo 65,536
  runs : Counts := []              -- incomplete blocks in a row, by SRC entry (R284)
  offsets : Keyed (List Int) := [] -- the last sixteen offsets by gate, newest first (R288)
  overTol : Counts := []           -- offsets in a row beyond the tolerance, by gate
  ctrlq : List CtrlMsg := []       -- the keeper's control queue (R285)
  ctrlSeq : Nat := 0
  once : List Nat := []            -- events already raised in this window
  dropPend : Bool := false         -- a DROP_PKT of the control queue waits for its marker (R378)
  announced : Nat := 0             -- the export map last announced, by bit, and the root it went to (R282)
  annRoot : Nat := 0
  deriving DecidableEq, Repr

/-- A delay ring (R94): samples as Q1.31 integers, newest first. -/
structure Ring where
  alloc : Nat := 0                 -- allocation A in samples
  fill : Nat := 0                  -- fill count F
  data : List Int := []
  pend : Option Nat := none        -- ring length latched for the next window boundary (R96)
  fresh : Bool := true             -- no staged block has been written yet (R60)
  left : Nat := 0                  -- an old ring: tick boundaries until it is released (R75)
  len : Nat := 0                   -- an old ring: its RING, PORT, CHAN and GSRC (R75)
  port : Nat := 0
  chan : Nat := 0
  gsrc : Nat := 0
  held : List Int := []            -- the block acquired in the last window, written at the next boundary (R23)
  heldLink : Nat := 2              -- the LINK that the held block carries
  deriving DecidableEq, Repr

/-- A dense slot's near window (R97). -/
structure Near where
  obj : Nat := 0
  fill : Nat := 0
  next : Nat := 0                  -- the place of the next sample, of 4,096
  fresh : List Int := []           -- samples that go into the loft at this boundary, oldest first
  copyDue : Bool := true           -- the copy from the DRAM ring is due in the window after admission
  src : Nat := 0                   -- the ring that it follows: a SRC entry, or 256 plus the key of an old ring (R75)
  left : Nat := 0                  -- an object of the scene before a switch: tick boundaries until the slot is free (R74)
  taps : Keyed Nat := []           -- feeds with a tap here, and tick boundaries until each ends, 0 while the law names it (R92)
  deriving DecidableEq, Repr

/-- The last solve of a zone (R100, R102). -/
structure SolveInfo where
  unresolved : Nat := 0
  passes : Nat := 0
  fallback : Bool := false         -- the sparse fallback is in force
  want : Bool := false             -- it is to be in force from the next tick boundary on (R128, R129)
  sol : List (Nat × Nat × Int) := []   -- feed, delay τ and lag gain Gz of the last solve (R101)
  deriving DecidableEq, Repr

/-- A live sparse tap of the kit's programs (R92): its feed, the ring that it reads (a SRC entry, or 256 plus the key of an old
ring), the tick boundaries until it ends, 0 while the law names its feed, and whether its object is of the scene before a switch. -/
structure Tap where
  feed : Nat
  src : Nat
  left : Nat := 0
  old : Bool := false
  deriving DecidableEq, Repr

/-- Delay rings, near windows and the law information (R94 to R104). -/
structure SrcSt where
  rings : Keyed Ring := []
  oldRings : Keyed Ring := []      -- rings of a scene before a switch, at source + 256 * n (R75)
  bq : Keyed BqMem := []           -- source biquad states, at 8 * source + stage
  near : Keyed Near := []          -- by dense slot
  solves : Keyed SolveInfo := []   -- by local zone
  spoiled : List Nat := []         -- objects with a live tap record that the host has written (R93)
  clamped : List Nat := []         -- the tap records, by their loft byte, with a clamp counted in this tick (R95)
  taps : Keyed Tap := []           -- live sparse taps of the kit's programs, by the loft byte of their records (R92)
  deriving DecidableEq, Repr

/-- A bank load in progress (R113). -/
structure BankLoad where
  feed : Nat
  bank : Nat
  id : Nat
  crc : Nat
  taps : List Nat                  -- 24-bit codes of the taps supplied
  start : Nat                      -- window of acceptance
  deriving DecidableEq, Repr

/-- A bank fade in progress (R114, R116). -/
structure Fade where
  old : Nat
  len : Nat
  done : Nat := 0                  -- windows of the fade that have ended
  deriving DecidableEq, Repr

/-- A swap request: accepted for the next window, or in the pending slot (R114, R115). -/
structure SwapReq where
  target : Nat
  len : Nat
  held : Bool := false             -- held for the limit of 48 fading feeds
  deriving DecidableEq, Repr

/-- What a feed's chain keeps between windows (R106 to R120, R150). -/
structure FeedSt where
  acc : List Int := []             -- feed accumulators, 72 bits each, by sample of the window
  mix : List Int := []             -- stage-0 block taken by the feed dispatcher
  zbq : List BqMem := []
  fbq : List BqMem := []
  lift : BqMem := {}
  hist : List Int := []            -- stage-4 outputs, newest first, at most 8,191
  gr : Nat := 0                    -- limiter reduction in 2^-16 dB
  last : Option Int := none        -- last stage-6 sample of the window before
  subst : Bool := false            -- the window before was a substitute
  out : List Int := []             -- the output buffer's block
  ready : List Int := []           -- the block that plays in this window
  deriving DecidableEq, Repr

/-- What the guard of a zone keeps (R121 to R129). -/
structure GuardSt where
  below : Nat := 0                 -- updates in a row below target
  liftFrom : Nat := 0              -- where the last movement began, in 2^-16 dB
  ancFrom : Nat := 0
  since : Nat := 48000             -- samples since the movement began, at most `span`
  span : Nat := 48000              -- samples of the movement in progress
  liftCur : Nat := 0x100000        -- Q4.20 gains at the start and the end of the tick
  liftTo : Nat := 0x100000
  ancCur : Nat := 0x100000
  ancTo : Nat := 0x100000
  frames : Nat := 0                -- ambient frames measured
  quiet : List (Nat × Int) := []   -- quiet frames of the last 10 s: frame number and level
  lastQuiet : Nat := 0             -- frame number of the last quiet frame
  power : List Nat := []           -- stage-6 power sums of the last 10 ms frames, newest first
  powerNow : Nat := 0              -- of the frame in progress
  seen : Nat := 0                  -- the 10 ms frame last measured
  heard : List Nat := []           -- microphones at which it has been measured
  run : Nat := 0                   -- samples for which the guard has run (R122)
  second : Nat := 0                -- the second of the last estimate
  deriving DecidableEq, Repr

/-- What the STI estimator and the ambient measurement keep of a source's signal (R122, R126). -/
structure StiSig where
  banks : List Nat := []           -- states of the octave-band filters
  lows : List Nat := []            -- states of the low-passes: the seven bands, then the whole signal
  env : List (List Nat) := []      -- envelopes at 100 Hz, newest first, in the order of `lows`
  power : Nat := 0                 -- power of the 500 Hz to 4 kHz bands in the 10 ms frame in progress
  frame : Nat := 0                 -- that of the last whole frame
  deriving DecidableEq, Repr

/-- Feed correction and the intelligibility guard (R106 to R131). -/
structure CorrSt where
  load : Option BankLoad := none
  banks : Keyed (List Nat) := []   -- taps of loaded banks, 24-bit codes, at 2 * feed + bank
  fades : Keyed Fade := []
  starts : Keyed SwapReq := []     -- accepted swaps that begin with the next window
  pend : Keyed SwapReq := []       -- pending slots
  bqStaged : Keyed BqSet := []     -- at 65536 * kind + 16 * index + stage
  bqForce : Keyed BqSet := []
  feeds : Keyed FeedSt := []
  zones : Keyed GuardSt := []
  clipped : Bool := false          -- EV_YARD_FEED has been raised in this window
  written : List Nat := []         -- bank records that a load has begun to write, at 2 * feed + bank
  spoiled : List Nat := []         -- feeds with a record that the host has written (R112)
  sigs : Keyed StiSig := []        -- signals that the guard reads, by SRC entry
  done : Nat := 0                  -- samples of a feed from START to the last guard point (R108, R112)
  deriving DecidableEq, Repr

/-- A work order (R201) with its post number; `elig` numbers aged orders in ageing order (R139). -/
structure Order where
  cls : Nat
  smask : Nat
  deadline : Nat
  cost : Nat
  kind : Nat                       -- SCOPE: 0 NONE, 1 MIX, 2 LAW, 3 ZONE_LAW
  first : Nat
  count : Nat
  entry : Nat
  arg : Nat
  post : Nat := 0
  aged : Option Nat := none
  deriving DecidableEq, Repr

/-- A stream descriptor (R180). -/
structure Desc where
  far : Nat
  dram : Bool
  out : Bool                       -- DIR 1: store to far
  store : Nat
  len : Nat
  ringBase : Nat
  ringLen : Nat
  deriving DecidableEq, Repr

/-- A stream channel of a yard (R144, R180). -/
structure Chan where
  owner : Option Nat := none       -- stall that holds it
  run : Option Desc := none        -- transfer in progress
  aged : Bool := false             -- the transfer has taken class-A precedence (R143)
  deriving DecidableEq, Repr

/-- Why a stall is frozen (R167). -/
inductive Wait where
  | none
  | granted                        -- an ACQ that waited has its resource; its bundle issues before anything else of the job
  | acq (level index : Nat)
  | rel (index : Nat)
  | strm (ch : Nat)
  | swait (ch : Nat)
  | halt (user : Nat)
  deriving DecidableEq, Repr

/-- One effect of a bundle, applied after every slot has read its operands (R161). -/
inductive Fx where
  | v (phys val : Nat)
  | aset (d : Nat) (val : Int)
  | aadd (d : Nat) (val : Int)
  | p (slot k val lat : Nat)       -- slot 1 is A, 2 is L
  | c (n val : Nat)
  | m (k val : Nat)
  | sat
  | store (addr val : Nat)
  | send (index val : Nat)
  | loop (n rot len : Nat)
  | branch (target : Nat)
  | rrb (val : Nat)
  | acq (level index : Nat)
  | rel (level index : Nat)
  | strm (ch addr : Nat)
  | swait (ch : Nat)
  | halt (user : Nat)
  | fault (code : Nat)             -- FAULT code of R157
  deriving DecidableEq, Repr

/-- An active hardware loop (R176). -/
structure LoopRt where
  n : Nat
  rot : Nat
  start : Nat
  stop : Nat                       -- address of the last bundle of the body
  deriving DecidableEq, Repr

/-- A stall that runs a job (R162, R182). -/
structure StallSt where
  order : Order
  lent : Bool := false
  floor : Bool := false
  cycles : Nat := 0                -- CORE cycles since dispatch
  pc : Nat := 0
  t : Nat := 0                     -- bundles issued
  v : Counts := []
  a : Keyed Int := []
  p : Counts := []
  m : Counts := []
  lc : Counts := []                -- loop counters c0 to c3
  rrb : Nat := 0
  sat : Bool := false
  govf : Nat := 0
  status : Nat := 0
  loops : List LoopRt := []        -- innermost first
  fx : List Fx := []               -- effects of the bundle in issue, in slot order
  pend : List (Nat × Fx) := []     -- register writes that have not landed, with the bundle that sees them
  held : List (Nat × Nat) := []    -- resources held, last acquired first
  sends : Nat := 0                 -- ACC sends not yet acknowledged
  bad : Bool := false              -- a transfer that the job started has ended with an error (R180)
  froze : Bool := false            -- cycles of a freeze are not in `cycles` yet (R167)
  wait : Wait := .none
  deriving DecidableEq, Repr

/-- The queue and the arbitration of a stable (R132 to R139). -/
structure StableSt where
  queue : List Order := []         -- in post order
  creditB : Nat := 3
  creditC : Nat := 1
  agedCount : Nat := 0             -- orders that have become aged, to number the next
  used : Counts := []              -- stall cycles used in this window, by class
  lent : Nat := 0
  deriving DecidableEq, Repr

/-- A latched write of YARD_RESERVE, YARD_ARB or YARD_LIMITS (R136). -/
structure YardCfg where
  reserve : Option Nat := none
  arb : Option Nat := none
  limits : Option Nat := none
  deriving DecidableEq, Repr

/-- The render window inside a yard (R147 to R153). -/
structure YardSt where
  cfg : YardCfg := {}
  cut : Bool := false              -- the mix cut-off of this window has passed
  dispatched : Bool := false       -- feed dispatch of this window has started
  covered : List Nat := []         -- objects covered in this window (R148)
  stages : List (Nat × List Nat) := []   -- stage jobs posted in this window: feed and block lengths (R107, R108)
  missMix : List Order := []       -- missed orders whose deadline window has not passed (R134, R151, R152)
  deriving DecidableEq, Repr

/-- The render fabric: stables, stalls, yards. -/
structure FabricSt where
  stables : Keyed StableSt := []
  stalls : Keyed StallSt := []
  yards : Keyed YardSt := []
  locks : Counts := []             -- bank locks at 8 * stable + bank: owner stall + 1
  chans : Keyed Chan := []         -- at 16 * yard + channel
  parity : Keyed (List Nat) := []  -- windows of the last parity aborts, by stall
  storePoison : List Nat := []     -- poisoned store words: byte address in the sixteen stores
  loftPoison : List Nat := []      -- poisoned loft words
  deriving DecidableEq, Repr

/-- A completion record with its poison mark (R183, R204). -/
structure CqRec where
  words : List Nat
  poison : Bool := false
  deriving DecidableEq, Repr

/-- Why a sequencer does not fetch (R200). -/
inductive SeqWait where
  | none
  | abs (w rd : Nat)
  | next (rd : Nat) (due : Bool)   -- due: the boundary has passed
  | tick (rd : Nat) (due : Bool)
  deriving DecidableEq, Repr

/-- A yard sequencer (R186 to R214). -/
structure SeqSt where
  s : Counts := []                 -- s1 to s31
  f : Counts := []                 -- f0 to f31
  pc : Nat := 0
  wait : SeqWait := .none
  fflags : Nat := 0
  lastPost : Nat := 0
  cqLost : Nat := 0
  dwin : Nat := 0
  wdog : Nat := 32
  sclass : Nat := 0
  winHi : Nat := 0                 -- WINHI as latched by the last read of WIN
  cycHi : Nat := 0                 -- CYCLEHI as latched by the last read of CYCLE
  cq : List CqRec := []            -- completion queue, oldest first
  boundaries : Nat := 0            -- window boundaries since the last resume from WAIT.W
  excWin : Option Nat := none      -- a restart is due: window of the exception (R210)
  restarted : Option Nat := none   -- window of the last keeper restart
  active : Option Image := none    -- image in force
  loaded : Option Image := none    -- image in the inactive halves
  loadPend : Bool := false         -- the loader writes the inactive halves
  forceFrom : Option Nat := none   -- the loaded image comes into force at the first tick boundary at or after this window
  half : Nat := 0                  -- IMEM and DMEM half in force
  firstPost : Nat := 0             -- records of orders posted before this one are discarded (R214)
  leftWin : Option Nat := none     -- window in which the image of the inactive region left force (R213)
  kitDue : Bool := false           -- the kit's program waits for a tick boundary (R200)
  kitRun : Bool := false           -- it has posted its MIX orders for the windows of this tick
  deriving DecidableEq, Repr

/-- Letterbox pairs (R392): those whose standoff has been reported. -/
structure MbxSt where
  reported : List Nat := []
  deriving DecidableEq, Repr

/-- A journal entry (R250), with the argument words of a COMMAND; `after` says that it landed after the snapshot of its PERI
cycle (R249). -/
structure JEntry where
  kind : Nat
  loc : Nat
  value : Nat
  args : List Nat := []
  after : Bool := false
  deriving DecidableEq, Repr

/-- What a RECORD frame of content window `cwin` carries (R252). -/
structure RecordFrame where
  rank : Nat
  role : Nat
  lean : Bool
  step : Nat
  mainsOk : Bool
  promoted : Bool
  overflow : Bool
  budget : Nat
  first : Nat
  scene : Nat
  crcs : List Nat                  -- AL0 to AL7 and the other outputs
  feedMiss : List Nat              -- the maps as words
  objMiss : List Nat
  owners : List Nat                -- CAUSE or 0 by zone
  journal : List JEntry
  deriving DecidableEq, Repr

/-- A forwarded source block (R246). -/
structure FwdBlock where
  src : Nat
  link : Nat
  samples : List Int
  deriving DecidableEq, Repr

/-- What a member last said in a STATUS frame (R245). -/
structure PeerStatus where
  role : Nat := 0
  sync : Nat := 0
  cwin : Nat := 0
  crcs : List Nat := []
  probes : List (Nat × Bool) := [] -- render window and result
  differs : Bool := false          -- its configuration differs (R242)
  deriving DecidableEq, Repr

/-- A STATE frame set (R263): the running state as of the boundary that begins content window `cwin`. -/
structure HngState where
  cwin : Nat
  feeds : Keyed FeedSt             -- biquad and limiter states
  guards : Keyed GuardSt           -- guard state and estimator sums
  zones : List (Nat × Nat) := []   -- the guard's CORR_ZONE words, by BAR0 address
  src : Keyed BqMem                -- source biquad states
  sigs : Keyed StiSig := []        -- estimator sums of the sources
  loft : List (Nat × Byte)         -- tap records and air-filter states
  taps : Keyed Tap := []           -- live sparse taps, and the dense taps by slot
  dense : Keyed (Keyed Nat) := []
  dmem : List (Nat × Byte)         -- sequencer DMEM in force, at 128 KiB per yard
  env : List Nat                   -- ledger envelopes
  deriving DecidableEq, Repr

/-- The tables in force, the law and guard settings, the bank fades and the biquad sets, as bulk data (R263). -/
structure HngTables where
  scene : Nat := 0
  words : List (Nat × Nat) := []   -- the words of the blocks of R248 that hold something, by BAR0 address
  snap : List (Nat × Nat) := []    -- those of the tick snapshot
  slots : List (Nat × Nat) := []   -- dense slots and their objects
  plans : List (Nat × Nat) := []   -- plans that are not IDLE and their states
  objPh : Counts := []
  fadeReq : Counts := []
  reAct : List Nat := []
  ramps : List Nat := []
  oldObjs : List OldObj := []
  mesh : List Nat := []
  grid : List Nat := []
  fades : Keyed Fade := []
  starts : Keyed SwapReq := []
  pend : Keyed SwapReq := []
  bqStaged : Keyed BqSet := []
  bqForce : Keyed BqSet := []
  deriving DecidableEq, Repr

/-- The scene stage as bulk data (R263). -/
structure HngStage where
  stage : Nat := 0                 -- SYS_SCENE.STAGE
  id : Nat := 0
  words : List (Nat × Nat) := []   -- the staged words by BAR0 address
  hasPlan : Bool := false
  progs : List ProgImg := []
  mesh : List Nat := []
  grid : List Nat := []
  switchMin : Option Nat := none   -- a switch is pending
  deriving DecidableEq, Repr

/-- One part of the bulk data that an active sends to a joining standby (R263). -/
inductive HngBulk where
  | tables (t : HngTables)
  | stage (s : HngStage)
  /-- The program image in force in the yards that it names. -/
  | image (p : ProgImg)
  /-- A VALID correction bank, and whether it is the feed's ACTIVE bank. -/
  | bank (l : BankLoad) (active : Bool)
  deriving DecidableEq, Repr

/-- The hinge (R241 to R264). -/
structure HngSt where
  journal : List JEntry := []      -- of the window in progress, oldest first
  jwords : Nat := 0
  overflow : Bool := false         -- the journal has been cut (R249)
  records : Keyed RecordFrame := []   -- records received and not yet applied, by window
  seqs : Counts := []              -- last SEQ seen plus 1, by 4 * link + rank
  seqOut : Nat := 0                -- SEQ of the next frame sent
  beats : List Nat := []           -- ranks whose heartbeat for the window in progress has arrived
  blocks : Keyed (List FwdBlock) := []   -- forwarded blocks by acquire window
  own : Keyed (List FwdBlock) := []      -- own staged blocks of the last HB_MISS + 2 windows
  crcs : Keyed (List Nat) := []    -- own CRCs by content window, newest 8
  peers : Keyed PeerStatus := []   -- by rank
  missed : List Nat := []          -- own undeclared misses by content window
  probe : Option Nat := none       -- the window in which the probe in progress runs
  probeWhy : Nat := 0              -- 0 commanded, 1 periodic, 2 decision
  probes : List (Nat × Bool) := [] -- own results
  sinceProbe : Nat := 0            -- windows since the last periodic probe
  decide : Option (Nat × Bool) := none  -- a duplex decision is due at this boundary; after a triplex vote
  formWait : Nat := 0              -- windows without an active member while FORMING
  standAt : Option Nat := none     -- a handover takes effect at this boundary
  offAfter : Bool := false         -- DISABLE: OFF after the handover, or at the next boundary
  unheard : Nat := 0               -- windows in a row with amplifiers that follow no ACTIVE entry (R262)
  promotedAt : Option Nat := none  -- P of the promotion in progress (R259)
  first : Nat := 0                 -- FIRST of that promotion
  bulkDone : Bool := false         -- every BULK part has arrived
  bulkTo : Option Nat := none      -- the joining standby that this active sends bulk data to
  bulkSent : List Nat := []        -- parts sent to it: 0 tables, 1 stage, 2 to 5 images, 8 + n bank n
  bulkCredit : Nat := 0            -- words that BULK_RATE has allowed and no part has used
  stateTo : List Nat := []         -- ranks in CONVERGE that a STATE set has been sent to
  stateSet : Option HngState := none   -- a STATE set that waits for its boundary
  stateDone : Bool := false        -- a STATE set has been loaded since CONVERGE began
  lost : List Nat := []            -- ranks declared lost
  counted : Option Nat := none     -- the content window of the last mismatch counted (R254)
  decidedAt : Option Nat := none   -- the boundary of the last decision (R256)
  gaps : List Nat := []            -- acquire windows whose forwarded block was not complete, newest 10
  objMiss : List Nat := []         -- objects missed in the last window settled
  budget : Option Nat := none      -- the budget of the last record, on a standby
  deriving DecidableEq, Repr

/-- A session of pair 4 or 5 (R397 to R399). -/
structure Session where
  nh : List Byte := []
  nk : List Byte := []
  opening : Bool := false          -- NH and NK are held for SESSION_AUTH
  ks : List Byte := []
  last : Nat := 0                  -- last accepted SEQ
  bad : Nat := 0                   -- refusals in a row for a wrong HT or MAC
  deriving DecidableEq, Repr

/-- A keeper command that has not replied yet (R396). -/
structure LongCmd where
  pair : Nat
  code : Nat
  head : Nat                       -- word 0, echoed in the reply
  arg : Nat := 0
  deriving DecidableEq, Repr

/-- The keeper: its sessions, the command it still owes a reply for, and whether it is down (R395 to R402, R443). -/
structure KeepSt where
  sessions : Keyed Session := []
  long : List LongCmd := []
  down : Bool := false             -- the keeper restarts
  turns : List Nat := []           -- the pair of each set (0 and 1, 4 and 5) that was read last (R396)
  deriving DecidableEq, Repr

/-- The TIME counter's fraction, the servo and the audio trim (R300 to R306). -/
structure TimeSt where
  frac : Nat := 0                  -- the 32-bit fraction below the count
  integ : Int := 0                 -- integrator i in units of 2^-8
  run : Nat := 0                   -- offsets in a row within 1 us
  big : Nat := 0                   -- offsets in a row beyond TIME_STEP_THRESH
  mayStep : Bool := false          -- ACQUIRE has not stepped yet
  slew : Nat := 0                  -- trim units not yet spent, in 1/48,000
  seqCycles : Nat := 0             -- SEQ cycles since reset, as CYCLE last showed them (R188)
  noSlew : Bool := false           -- AUDIO_TRIM ran without slew limit at the last boundary
  deriving DecidableEq, Repr

/-- A stream packet that waits for its launch (R296, R307). -/
structure TxPkt where
  cls : Nat
  target : Nat
  idx : Nat
  len : Nat                        -- octets from destination address to FCS
  words : List Nat                 -- the fields of R316, then the samples
  deriving DecidableEq, Repr

/-- A network port (R291 to R308). -/
structure PortSt where
  ptp : List PtpMsg := []          -- PTP messages waiting, in order of issue
  pkts : List TxPkt := []          -- stream packets waiting
  reports : List (List Nat) := []  -- launch reports, oldest first, at most 64
  tries : Nat := 0                 -- verification attempts that have failed
  pauseEnd : Nat := 0              -- end of the pause in force, in tenths of a nanosecond
  rxOnce : Bool := false           -- EV_NET_RXERR has been raised in this window
  deriving DecidableEq, Repr

/-- A receive stream (R311 to R314). -/
structure RxSt where
  buf : Keyed (List Int) := []     -- samples placed, by media count, one per channel
  since : Nat := 0                 -- TIME of EN = 1
  gap : Nat := 0                   -- samples missing so far, 0 while none is
  last : List Int := []            -- last samples staged before the gap
  fade : Option (Nat × Nat) := none   -- fade-in: samples done and its length
  zeroTo : Nat := 0                -- zeros are staged up to this media count (R314)
  jumps : Nat := 0                 -- JUMP packets in a row
  delta : Nat := 0                 -- rebase
  ssrc : Option Nat := none        -- SSRC of the last packet
  phase : Nat := 0                 -- first media count of the last packet placed
  link : Nat := 2                  -- LINK of the block in acquisition
  cur : List (List Int) := []      -- samples staged in the window in progress, one list per slot
  block : List (List Int) := []    -- the block staged in the last window, one list per channel
  blockLink : Nat := 2
  deriving DecidableEq, Repr

/-- A transmit stream (R316). -/
structure TxSt where
  pend : List (List Int) := []     -- samples of ended windows that are not sent yet, one list per sample
  skip : Nat := 0                  -- samples of the window in play that are used already
  slot : Nat := 0                  -- play slot of the first pending sample, counted from window 0
  seq : Nat := 0                   -- RTP sequence number of the next packet
  deriving DecidableEq, Repr

/-- The network ports and streams (R291 to R317). -/
structure NetSt where
  ports : Keyed PortSt := []
  rx : Keyed RxSt := []
  tx : Keyed TxSt := []
  held : List Nat := []            -- cages whose pluggable is held powered down: 0 and 1 of P0 and P1, 4 to 7 of G0 to G3 (R465)
  hist : Keyed (List (List Int)) := []   -- the last three blocks acquired for a SRC entry, newest first
  deriving DecidableEq, Repr

/-- An audio input port (R321 to R328). -/
structure AudIn where
  frames : Nat := 0                -- frames completed in the slot in progress
  now : List Int := []             -- samples of the last good frame, by channel
  good : Nat := 0                  -- good frames in a row
  gap : Nat := 0                   -- samples staged since the loss
  fade : Nat := 16                 -- samples staged since the relock, at most 16
  clkLost : Bool := false          -- a slave TDM port has no clocks
  cur : List (List Int) := []      -- samples staged in the window in progress, one list per slot
  block : List (List Int) := []    -- the block staged in the last window, one list per channel
  blockLink : Nat := 2
  deriving DecidableEq, Repr

/-- The audio ports (R321 to R332): inputs are AES3 pairs at 0 to 7, MADI at 8 and 9, TDM at 10 to 13, analogue at 14. -/
structure AudSt where
  ins : Keyed AudIn := []
  slot : Nat := 0                  -- slots of the acquire window that have ended
  once : List Nat := []            -- events raised in this window
  sent : Counts := []              -- frames sent in the window in play, by output port
  map : Keyed (Nat × Nat) := []    -- output map in force: KIND and INDEX
  mapPend : List Nat := []         -- output channels written since the last boundary
  fs : Counts := []                -- full-scale samples in a row: analogue inputs 0 to 3, CUE0 and CUE1 at 4 and 5
  sup : Keyed LoopSt := []         -- emergency microphone lines
  cs : Keyed (List Nat) := []      -- channel status by AES3 channel
  valid : Counts := []             -- validity bits counted by AES3 channel
  deriving DecidableEq, Repr

/-- Line watch of a feed (R420 to R424): the class of the last measurements and how many in a row, and the baseline run. -/
structure LineSt where
  cls : Nat := 0
  run : Nat := 0
  n : Nat := 0
  sumZ : Nat := 0
  sumPh : Int := 0
  deriving DecidableEq, Repr

/-- The amplifier links and line watch (R333 to R345, R420 to R424). -/
structure AmpSt where
  seqs : Counts := []              -- SEQ of the next downlink frame, by link
  sent : Counts := []              -- downlink frames sent in the window in play
  good : Counts := []              -- good back-channel frames in a row
  bad : Counts := []               -- bad back-channel frames in a row
  once : List Nat := []            -- events raised in this window
  msgs : List Nat := []            -- links whose message waits for its frame
  line : Keyed LineSt := []        -- by feed
  cal : Bool := false              -- a baseline run is in progress (R424)
  calFrom : Nat := 0               -- its first window
  deriving DecidableEq, Repr

/-- A request in a channel's queues (R355, R356). -/
structure DramReq where
  num : Nat                        -- order of acceptance
  req : Nat                        -- requester code
  master : Nat
  cls : Nat
  addr : Nat                       -- usable offset
  len : Nat                        -- octets, within one 64-byte line
  isWrite : Bool
  write : List Byte                -- what a write stores
  aged : Bool := false             -- promoted (R358)
  deriving DecidableEq, Repr

/-- The DRAM controller (R351 to R368). -/
structure DramSt where
  q0 : List DramReq := []          -- channel 0, oldest first
  q1 : List DramReq := []          -- channel 1
  accepted : Nat := 0
  lastBank : Counts := []          -- bank last picked from the bank queues, by channel
  rows : Counts := []              -- open row plus 1, at 16 * channel + bank
  bad : List Nat := []             -- uncorrectable chunks, in units of 32 bytes
  once : List Nat := []            -- events raised in this window
  lines : Counts := []             -- lines transferred in this window, by class
  frozeAt : Option Nat := none     -- extended window count at the freeze
  frozeTime : Nat := 0             -- TIME of the last freeze
  lastThaw : Option Nat := none    -- TIME of the last THAW
  deriving DecidableEq, Repr

/-- The bus matrix (R371 to R374): the master that each target granted last, plus 1, and promoted transfers. -/
structure MtxSt where
  last : Counts := []
  aged : List (Nat × Nat) := []
  deriving DecidableEq, Repr

/-- A monitor channel (R430 to R433): integrators and combs modulo 2^64. -/
structure MonCh where
  i1 : Nat := 0
  i2 : Nat := 0
  i3 : Nat := 0
  z1 : Nat := 0
  z2 : Nat := 0
  z3 : Nat := 0
  n : Nat := 0                     -- inputs since the synchronising reset
  seq : Nat := 0
  due : List (Nat × Nat × Bool) := []   -- outputs not recorded yet: y, SIDX, SETTLING
  deriving DecidableEq, Repr

/-- Telemetry and background work (R418 to R434). -/
structure MonSt where
  chs : Keyed MonCh := []
  queue : List (List Nat) := []    -- on-die record queue, oldest first
  reset : List Nat := []           -- channels that the next boundary resets
  dueChs : List Nat := []          -- channels whose reset the boundary in progress brings (R432)
  scrub : Nat := 0                 -- next 64-byte line to scrub (R418)
  once : List Nat := []            -- events raised in this window
  zqBad : Bool := false            -- the last ZQ calibration failed
  strobeBad : Bool := false        -- the last strobe tracking failed
  deriving DecidableEq, Repr

/-- The auto-arm profile (R442): RW contents, the scene image in force with its program images, the valid correction
banks, the storm shadow's biquads, IDENT and the firmware's major revision, and whether the stored TAG is intact. -/
structure Profile where
  regs : RegMap
  scene : Nat
  mesh : List Nat
  grid : List Nat
  progs : List ProgImg
  banks : List BankLoad
  active : List Nat                -- feeds whose ACTIVE bank is B
  bq : Keyed BqSet
  ident : Nat
  major : Nat
  tagOk : Bool := true
  deriving DecidableEq, Repr

/-- A firmware slot (R439); `fw` names its firmware: a package by its CRC plus 3, the factory's by slot number. -/
structure SlotSt where
  gen : Nat := 0
  rollback : Nat := 0
  valid : Bool := false
  fw : Nat := 0
  deriving DecidableEq, Repr

/-- Start-up, arming, recovery and updates (R437 to R449). -/
structure BootSt where
  slot0 : SlotSt := { gen := 1, valid := true }
  slot1 : SlotSt := { gen := 0, valid := true, fw := 1 }
  fused : Nat := 0                 -- fused rollback floor
  profile : Option Profile := none
  romOnly : Bool := false          -- neither slot is valid
  kresets : List Nat := []         -- TIME of the latest KEEPER resets
  halted : Bool := false           -- the third KEEPER reset within 600 s
  armPend : Option (Nat × Nat × Bool) := none   -- an accepted ARM: pair, word 0, SAVE; pair 8 is the keeper's own
  armDue : Bool := false           -- a window boundary has come since the ARM was accepted (R441)
  autoFrom : Option Nat := none    -- TIME of the first auto-arm attempt
  update : List Byte := []         -- the package that an update writes
  seqDue : Bool := false           -- the sequencers restart at the first tick boundary (R444)
  dieHot : Bool := false           -- the render die is held in reset (R470)
  psuHot : Bool := false           -- the mains PSU has stopped (R470)
  handBack : List Nat := []        -- causes whose zones the keeper hands back once it may (R444)
  clockDue : Bool := false         -- windows ran when the clocks were lost, and the keeper restarts them (R444)
  deriving DecidableEq, Repr

-- CHAPTERS END

/-- What the block sends out while it carries out one command: the model's own record of it, emptied when a command
begins (log entry 5). -/
inductive Output where
  /-- Data returned to a reader. -/
  | readData (w : Nat)
  /-- A bus result other than OK: a status code of R9, or 16 for an error return, 17 for a poisoned completion (R387). -/
  | busResult (code : Nat)
  /-- An MSI-X message of a function (R386). -/
  | msix (fn vec : Nat)
  /-- A keeper reply: pair and its sixteen words (R395). -/
  | reply (pair : Nat) (words : List Nat)
  /-- A frame started on a network port. -/
  | netFrame (port queue : Nat) (octets : List Nat)
  /-- A cell sent on a gate: its virtual channel and its words. -/
  | cell (gate vc : Nat) (words : List Nat)
  /-- A hinge frame of a type (R245) with its payload. -/
  | hinge (type : Nat) (words : List Nat)
  /-- One part of the bulk data (R263) for a rank, with the percentage sent so far; it stands for the frames that its words fill
  (log entry 5). -/
  | hingeBulk (dst pct : Nat) (part : HngBulk)
  /-- A STATE frame set for a rank (R263). -/
  | hingeState (dst : Nat) (set : HngState)
  /-- One amplifier-link frame: link, flags and channel samples (R334). -/
  | downlink (link : Nat) (words : List Nat)
  /-- One audio frame: the output channel's first index and its samples (R322). -/
  | audio (slot : Nat) (samples : List Int)
  /-- A matrix grant (`what` 1): the master granted. -/
  | note (what : Nat) (arg : Nat)
  deriving DecidableEq, Repr

/-- The control state of the module. -/
structure Ctl where
  regs : RegMap := []              -- every register and table field of BAR0
  out : List Output := []          -- what the command in progress sends out
  time : Nat := 0                  -- the 64-bit TIME counter, in ns (R300)
  evt : EvtSt := {}
  win : WinSt := {}
  ledg : LedgSt := {}
  tab : TabSt := {}
  fire : FireSt := {}
  storm : StormSt := {}
  fab : FabSt := {}
  src : SrcSt := {}
  fabr : FabricSt := {}
  seqs : Keyed SeqSt := []
  mbx : MbxSt := {}
  hng : HngSt := {}
  keep : KeepSt := {}
  corr : CorrSt := {}
  clk : TimeSt := {}
  net : NetSt := {}
  aud : AudSt := {}
  amp : AmpSt := {}
  dram : DramSt := {}
  mtx : MtxSt := {}
  mon : MonSt := {}
  boot : BootSt := {}
  deriving DecidableEq, Repr

/-- The byte memories: DRAM at BAR2 offsets; the lofts at 4 MiB per yard; the stable stores at 256 KiB per stable; the
sequencers' instruction and data memories at 256 KiB per yard; the storm store. -/
structure Rams where
  dram : Mem := []
  loft : Mem := []
  store : Mem := []
  imem : Mem := []
  dmem : Mem := []
  nor : Mem := []
  deriving DecidableEq, Repr

/-- The module: its control state and its memories. -/
structure Mach where
  c : Ctl := {}
  m : Rams := {}
  deriving DecidableEq, Repr

end Sys2Proof.Machine
end

