-- ==== Sys2Proof/Machine/Dsp.lean ====
section
/-! DEFINITION. The fixed-point arithmetic that the spec states bit for bit: biquads (R117), the limiter (R119), levels in
hundredths of a dB, ramps (R90), fractional delay (R88), cross-fades (R91, R116). Samples are signed Q1.31 integers. -/
namespace Sys2Proof.Machine

/-- Saturation to Q1.31. -/
def sat31 (z : Int) : Int := clampI (-2147483648) 2147483647 z

/-- Whether a value saturates in Q1.31. -/
def sats31 (z : Int) : Bool := decide (z < -2147483648 ∨ 2147483647 < z)

/-- The 72-bit accumulator is modular (R89). -/
def wrap72 (z : Int) : Int := sx 72 (ux 72 z)

/-- An arithmetic right shift, truncating toward minus infinity. -/
def asr (z : Int) (n : Nat) : Int := z / ((2 ^ n : Nat) : Int)

/-! ## Biquads (R117, R118) -/

/-- One sample through a biquad stage. -/
def bqStep (s : BqSet) (t : BqMem) (x : Int) : Int × BqMem :=
  let y := sat31 (asr (wrap72 (sx 24 s.b0 * x + sx 24 s.b1 * t.x1 + sx 24 s.b2 * t.x2 - sx 24 s.a1 * t.y1 - sx 24 s.a2 * t.y2)) 21)
  (y, { x1 := x, x2 := t.x1, y1 := y, y2 := t.y1 })

/-- A block through a biquad stage. -/
def bqBlock (s : BqSet) (t : BqMem) : List Int → List Int × BqMem
  | [] => ([], t)
  | x :: l =>
    let p := bqStep s t x
    let q := bqBlock s p.2 l
    (p.1 :: q.1, q.2)

/-- A block through a chain of stages. -/
def bqChain : List BqSet → List BqMem → List Int → List Int × List BqMem
  | [], _, l => (l, [])
  | s :: ss, ts, l =>
    let p := bqBlock s (ts.headD {}) l
    let q := bqChain ss (ts.drop 1) p.1
    (q.1, p.2 :: q.2)

/-- The stability condition of R118. -/
def bqOk (s : BqSet) : Bool :=
  decide ((sx 24 s.a2).natAbs < 2 ^ 21 ∧ ((sx 24 s.a1).natAbs : Int) < 2 ^ 21 + sx 24 s.a2)

/-- The band-pass of the speech-band lift at 48 and 96 kHz (R128): w0 = 2π × 2,000 / fs, Q = 0.7, truncated to Q3.21. -/
def liftBq (rate96 : Bool) : BqSet :=
  if rate96 then { b0 := 178849, b1 := 0, b2 := 16598366, a1 := 12973432, a2 := 1739453 }
  else { b0 := 327210, b1 := 0, b2 := 16450005, a1 := 13357951, a2 := 1442731 }

/-! ## Decibels -/

/-- The largest `k` below `hi` with `p k`, for a `p` that holds from 0 up to some point: `n` halvings. -/
def searchMax (p : Nat → Bool) : Nat → Nat → Nat → Nat
  | 0, lo, _ => lo
  | n + 1, lo, hi =>
    let mid := (lo + hi) / 2
    if p mid then searchMax p n mid hi else searchMax p n lo mid

/-- The integer square root of a number below 2^128. -/
def isqrt (x : Nat) : Nat := searchMax (fun r => r * r ≤ x) 64 0 (2 ^ 64)

/-- How far a magnitude in Q1.31 lies below full scale, in hundredths of a dB, truncated; the magnitude is not 0. -/
def belowFs (p : Nat) : Nat := searchMax (fun k => 10 ^ k * p ^ 2000 ≤ 2 ^ 62000) 15 0 32768

/-- A level in signed hundredths of a dBFS as a 16-bit pattern; 0x8000 is silence. -/
def levelDb (p : Nat) : Nat := if p = 0 then 0x8000 else if 2 ^ 31 ≤ p then 0 else (65536 - belowFs p) % 65536

/-- The largest magnitude of a block. -/
def blockPeak (l : List Int) : Nat := l.foldl (fun m x => max m x.natAbs) 0

/-- A threshold of `h` hundredths of a dB below full scale as a Q1.31 magnitude. -/
def threshQ31 (h : Nat) : Nat := searchMax (fun t => t ^ 2000 * 10 ^ h ≤ 2 ^ 62000) 33 0 (2 ^ 31 + 1)

/-- 2^96 × 10^(−2^b / (20 × 2^16)), truncated: powers of ten in steps of 2^−16 dB. -/
def dbConsts : List Nat :=
  [79228023331658051956200388549, 79227884149296272783196133042, 79227605785306232112077494746,
   79227049060260209442545642182, 79225935621904302580104934859, 79223708792136273058267197182,
   79219255320369193361436737116, 79210349127861694228514378563, 79192539746559321524809597533,
   79156932995653618920738268211, 79085767515437336080676919807, 78943628439946778110664442169,
   78660116219940596534448287587, 78096142676798442441426538255, 76980297250952728363302959383,
   74796208529739937090257788518, 70612174167450941842876011836, 62933166470404083641613631154,
   49989591028045417366379999059, 31541299606706430206514463774, 12556817542006032568350838141,
   1990121464130165294035080367, 49989591028045417366379999, 31541299606706430206514]

/-- 2^96 × 10^(−n / (20 × 2^16)): an attenuation of `n` units of 2^−16 dB. -/
def dbDown (n : Nat) : Nat := (dbConsts.zipIdx).foldl (fun a c => if bit n c.2 then a * c.1 / 2 ^ 96 else a) (2 ^ 96)

/-- The Q4.20 gain of a reduction by `n` units of 2^−16 dB (R119). -/
def gainDown (n : Nat) : Nat := dbDown n / 2 ^ 76

/-- The Q4.20 gain of a rise by `n` units of 2^−16 dB (R128). -/
def gainUp (n : Nat) : Nat := 2 ^ 116 / dbDown n

/-! ## Ramps, fades and fractional delay -/

/-- A linear ramp at sample `j` of `m` (R90). -/
def rampAt (cur target : Int) (j m : Nat) : Int := cur + (target - cur) * ((j + 1 : Nat) : Int) / (m : Int)

/-- A two-way cross-fade at sample `q` of `m` (R91, R116). -/
def crossFade (old new : Int) (q m : Nat) : Int :=
  let wn : Int := ((2 ^ 22 * (q + 1) / m : Nat) : Int)
  sat31 (asr ((4194304 - wn) * old + wn * new) 22)

/-- The limiter over one block of eight samples (R119): the output, the new reduction and whether it clipped.
`rel` is the release in dB/s, `thresh` the threshold in hundredths of a dB below full scale. A negative ramp term rounds toward minus
infinity, and gr starts again from 0 after LIM_EN = 0 (DESIGN CHOICE, log entry 138). -/
def limitBlock (thresh rel fs gr : Nat) (l : List Int) : List Int × Nat × Bool :=
  let p := blockPeak l
  let need := if p = 0 || thresh ≤ belowFs p then 0 else (thresh - belowFs p) * 65536 / 100
  let new := max need (gr - rel * 8 * 65536 / fs)
  let t := threshQ31 thresh
  let ys := (l.zipIdx).map (fun e =>
    let g := gainDown ((gr : Int) + ((new : Int) - gr) * ((e.2 + 1 : Nat) : Int) / 8).toNat
    sat31 (asr ((g : Int) * e.1) 20))
  (ys.map (fun y => clampI (-(t : Int)) t y), new, ys.any (fun y => t < y.natAbs))

/-- A block through the limiter, eight samples at a time. -/
def limitRun (thresh rel fs : Nat) : Nat → Nat → List Int → List Int × Nat × Bool
  | 0, gr, _ => ([], gr, false)
  | n + 1, gr, l =>
    if l.isEmpty then ([], gr, false)
    else
      let p := limitBlock thresh rel fs gr (l.take 8)
      let q := limitRun thresh rel fs n p.2.1 (l.drop 8)
      (p.1 ++ q.1, q.2.1, p.2.2 || q.2.2)

end Sys2Proof.Machine
end

