-- ==== Sys2Proof/Machine/Ranges.lean ====
section
/-! DEFINITION. The ranges that the field tables of spec/01 to spec/16 state: a write outside one is refused with RANGE. -/
namespace Sys2Proof.Machine

/-- A stated range of a field, read as signed where the field is. -/
structure RangeRow where
  reg : Reg
  signed : Bool
  lo : Int
  hi : Int
  deriving DecidableEq, Repr

/-- Range rows, part 1. -/
def rangeRows1 : List RangeRow :=
  [⟨R.LEDG_CTRL_LEAN_SCALE, false, 4, 16⟩,
   ⟨R.LEDG_CAL_TOL, false, 1, 50⟩,
   ⟨R.LEDG_TIMING_OVER_HOLD, false, 1, 255⟩,
   ⟨R.LEDG_TIMING_RESTORE_HOLD, false, 1, 16777215⟩,
   ⟨R.LEDG_CLASS_CAP_CAP, false, 0, 1250⟩,
   ⟨R.LEDG_FLOOR_FLOOR, false, 0, 1250⟩,
   ⟨R.LEDG_FLOOR_D_MIN, false, 2, 120⟩,
   ⟨R.LEDG_SUPPLY_LIM_MAINS, false, 100, 1250⟩,
   ⟨R.LEDG_SUPPLY_LIM_BATT, false, 100, 1250⟩,
   ⟨R.LEDG_BATT_UV_UV, false, 190, 220⟩,
   ⟨R.OBJ_LAW, false, 0, 1⟩,
   ⟨R.OBJ_SPREAD, false, 0, 18000⟩,
   ⟨R.OBJ_TAP_MAX, false, 3, 48⟩,
   ⟨R.FEED_ALIGN, false, 0, 4095⟩,
   ⟨R.ZONE_GAIN_A, true, -2000, 1200⟩,
   ⟨R.ZONE_STI_TARGET, false, 30, 80⟩,
   ⟨R.ZONE_LIFT_MAX, false, 0, 120⟩,
   ⟨R.ZONE_ANC_MAX, false, 0, 120⟩,
   ⟨R.PLAN_CONFIRM, false, 3, 65535⟩,
   ⟨R.CORR_STI_CTRL_STI_HOLD, false, 1, 8⟩,
   ⟨R.CORR_STI_CTRL_MOD_MIN, false, 5, 50⟩,
   ⟨R.CORR_FEED_THRESH, true, -4000, 0⟩,
   ⟨R.CORR_FEED_RELEASE, false, 1, 200⟩,
   ⟨R.CORR_ZONE_ANC_REF, true, -9000, 0⟩,
   ⟨R.YARD_RESERVE_RESERVE, false, 1, 6⟩,
   ⟨R.YARD_RESERVE_DFLOOR, false, 1, 20⟩,
   ⟨R.YARD_ARB_WB, false, 1, 15⟩,
   ⟨R.YARD_ARB_WC, false, 1, 15⟩,
   ⟨R.YARD_ARB_AGE, false, 1024, 65535⟩,
   ⟨R.YARD_LIMITS_JOB_LIMIT, false, 8, 255⟩]

/-- Range rows, part 2. -/
def rangeRows2 : List RangeRow :=
  [⟨R.YARD_LIMITS_CUT, false, 16, 128⟩,
   ⟨R.YARD_LIMITS_XBAR_AGE, false, 1, 255⟩,
   ⟨R.YARD_QWM_HIGH, false, 1, 64⟩,
   ⟨R.YARD_QWM_LOW, false, 0, 63⟩,
   ⟨R.STORM_CFG_TONE_SPAN, false, 0, 30⟩,
   ⟨R.STORM_CFG_GAP, false, 0, 10⟩,
   ⟨R.STORM_CFG_BACKSTOP, false, 5, 200⟩,
   ⟨R.STORM_CFG_RETURN_CHECK, false, 4, 1024⟩,
   ⟨R.STORM_EMIC_DEBOUNCE, false, 1, 50⟩,
   ⟨R.STORM_ZONE_GAIN, true, -2000, 1200⟩,
   ⟨R.STORM_FEED_TRIM, true, -80, 24⟩,
   ⟨R.FIRE_IN_DEBOUNCE, false, 20, 1000⟩,
   ⟨R.FIRE_IN_FAULT_HOLD, false, 1, 100⟩,
   ⟨R.HNG_CFG_MODE, false, 0, 2⟩,
   ⟨R.HNG_CFG_RANK, false, 0, 2⟩,
   ⟨R.HNG_TIMING_HB_MISS, false, 1, 8⟩,
   ⟨R.HNG_TIMING_BULK_RATE, false, 1, 15⟩,
   ⟨R.HNG_TIMING_MATCH_RUN, false, 16, 255⟩,
   ⟨R.HNG_TIMING_FORM_WAIT, false, 8, 255⟩,
   ⟨R.FAB_TIMING_ESCAPE_WAIT, false, 4, 255⟩,
   ⟨R.FAB_TIMING_FLOW_STALL, false, 8, 255⟩,
   ⟨R.FAB_TIMING_TIME_TOL, false, 5, 100⟩,
   ⟨R.FAB_TIMING_ROOT_WAIT, false, 20, 255⟩,
   ⟨R.FAB_CTRLQ_WM_HIGH, false, 1, 256⟩,
   ⟨R.FAB_CTRLQ_WM_LOW, false, 0, 255⟩,
   ⟨R.NET_CFG_MAXLEN, false, 1518, 2000⟩,
   ⟨R.NET_LAUNCH_LATE_TOL, false, 1, 255⟩,
   ⟨R.NET_LAUNCH_HIGH, false, 1, 63⟩,
   ⟨R.NET_LAUNCH_LOW, false, 0, 62⟩,
   ⟨R.NET_RING_SIZE, false, 4, 12⟩]

/-- Range rows, part 3. -/
def rangeRows3 : List RangeRow :=
  [⟨R.NET_STREAM_CFG_STALL_TIME, false, 2, 1000⟩,
   ⟨R.NET_RXS_CHANS, false, 1, 64⟩,
   ⟨R.NET_TXS_CHANS, false, 1, 64⟩,
   ⟨R.NET_TXMAP_KIND, false, 0, 2⟩,
   ⟨R.TIME_RATE, true, -429496, 429496⟩,
   ⟨R.TIME_STEP_THRESH_THRESH, false, 10, 1000000⟩,
   ⟨R.TIME_PTP_CFG_PROFILE, false, 0, 2⟩,
   ⟨R.AUD_OUTMAP_KIND, false, 0, 2⟩,
   ⟨R.AMP_PILOT_FREQ, false, 0, 2⟩,
   ⟨R.DRAM_CTRL_SR_IDLE, false, 10, 255⟩,
   ⟨R.DRAM_AGE_LIMIT, false, 20, 4000⟩,
   ⟨R.DRAM_QWM_HIGH, false, 1, 128⟩,
   ⟨R.DRAM_QWM_LOW, false, 0, 127⟩,
   ⟨R.MTX_AGE_CYCLES, false, 16, 4096⟩,
   ⟨R.MTX_TIMEOUT_US, false, 10, 1000⟩,
   ⟨R.MBX_CFG_STANDOFF, false, 10, 10000⟩,
   ⟨R.EVT_REC_WM_HIGH, false, 1, 256⟩,
   ⟨R.EVT_REC_WM_LOW, false, 0, 255⟩,
   ⟨R.LINE_CFG_TOL, false, 5, 50⟩,
   ⟨R.LINE_CFG_OPEN_MUL, false, 2, 15⟩,
   ⟨R.LINE_CFG_SHORT_FRAC, false, 1, 8⟩,
   ⟨R.LINE_CFG_CONFIRM, false, 1, 7⟩,
   ⟨R.LINE_CFG_NOMEAS, false, 2, 255⟩,
   ⟨R.MON_CTRL_SCRUB_RATE, false, 8, 255⟩,
   ⟨R.MON_RING_SIZE, false, 4, 16⟩,
   ⟨R.MON_QWM_HIGH, false, 1, 64⟩,
   ⟨R.MON_QWM_LOW, false, 0, 63⟩,
   ⟨R.MON_CH_TAP, false, 0, 4⟩,
   ⟨R.MON_CH_MODE, false, 0, 2⟩,
   ⟨R.MON_CH_PRESET, false, 0, 4⟩]

/-- Every stated range. -/
def rangeRows : List RangeRow := rangeRows1 ++ rangeRows2 ++ rangeRows3

/-- The binary32 coordinate fields (R55). FEED.AIM_X to AIM_Z, a direction, are held to the same limit and zero rules (DESIGN
CHOICE, log entry 138). -/
def coordRegs : List Reg :=
  [R.OBJ_POS_X, R.OBJ_POS_Y, R.OBJ_POS_Z, R.FEED_POS_X, R.FEED_POS_Y, R.FEED_POS_Z, R.FEED_AIM_X, R.FEED_AIM_Y,
   R.FEED_AIM_Z, R.ZONE_EXIT_X, R.ZONE_EXIT_Y, R.ZONE_EXIT_Z]

/-- Whether a field holds a coordinate. -/
def isCoord (r : Reg) : Bool := coordRegs.any (fun c => c.id == r.id)

/-- A coordinate is finite and at most 16,384.0 in magnitude (R55): 16,384.0 is 0x4680_0000. -/
def coordOk (v : Nat) : Bool := v % 2 ^ 31 ≤ 0x46800000

/-- The value that a coordinate write stores: a subnormal or a negative zero becomes +0.0 (R55). -/
def coordStore (v : Nat) : Nat := if v % 2 ^ 31 < 2 ^ 23 then 0 else v

/-- Whether a value lies in the range stated for a field; fields with no stated range accept every value.
SPAN is even, 4 to 16 (R122); MIC_CAL is 0 or 9,000 to 14,000 (R123). -/
def rangeOk (r : Reg) (v : Nat) : Bool :=
  rangeRows.all (fun row =>
    row.reg.id != r.id || (let z : Int := if row.signed then sx r.width v else v; decide (row.lo ≤ z ∧ z ≤ row.hi))) &&
  (!isCoord r || coordOk v) &&
  (r.id != R.CORR_STI_CTRL_SPAN.id || (v % 2 == 0 && 4 ≤ v && v ≤ 16)) &&
  (r.id != R.CORR_ZONE_MIC_CAL.id || v == 0 || (9000 ≤ v && v ≤ 14000))

/-- The value that an accepted write stores in a field: coordinates by R55; WIN_GUARD below 1,024 stores 1,024; bits 0–4
of FIRE_K1_MASK stay 1. -/
def storeVal (r : Reg) (v : Nat) : Nat :=
  if isCoord r then coordStore v
  else if r.id == R.WIN_GUARD_CYCLES.id then (if v < 1024 then 1024 else v)
  else if r.id == R.FIRE_K1_MASK.id then v ||| 0x1F
  else v

end Sys2Proof.Machine
end

