-- ==== Sys2Proof/Machine/Ops.lean ====
section
/-! DEFINITION. The named operations that every family shares: register fields, events, refusals, bus errors, free values,
zones and the storm door, and the scene-switch cancellation. -/
namespace Sys2Proof.Machine

/-- A field of a register, element `i`. -/
def Ctl.get (c : Ctl) (r : Reg) (i : Nat := 0) : Nat := c.regs.get r i

/-- Whether a field is not zero. -/
def Ctl.is (c : Ctl) (r : Reg) (i : Nat := 0) : Bool := c.regs.get r i != 0

/-- Writes a field, modulo its width. -/
def Ctl.set (c : Ctl) (r : Reg) (v : Nat) (i : Nat := 0) : Ctl := { c with regs := c.regs.set r i v }

/-- Adds to a counter field, which wraps at its width. -/
def Ctl.inc (c : Ctl) (r : Reg) (i : Nat := 0) (n : Nat := 1) : Ctl := c.set r (c.get r i + n) i

/-- Applies `f` when `p` holds. -/
def Ctl.when (c : Ctl) (p : Bool) (f : Ctl → Ctl) : Ctl := if p then f c else c

/-- Applies `f` for each element, in order. -/
def Ctl.each {α : Type} (c : Ctl) (l : List α) (f : Ctl → α → Ctl) : Ctl := l.foldl f c

/-- Records something that the block sends out. -/
def Ctl.emit (c : Ctl) (o : Output) : Ctl := { c with out := c.out ++ [o] }

/-- A field read as a signed number. -/
def Ctl.geti (c : Ctl) (r : Reg) (i : Nat := 0) : Int := sx r.width (c.get r i)

/-- A value that the spec does not state, below `2 ^ w`; the counter moves on, so no two uses share one (log entry 4). -/
def Ctl.free (c : Ctl) (w : Nat) : Nat × Ctl :=
  (Config.freeNat c.storm.freeCtr % 2 ^ w, { c with storm := { c.storm with freeCtr := c.storm.freeCtr + 1 } })

/-! ## Events (R411 to R414) -/

/-- Sends an MSI-X message of a function, or holds it pending while the vector is masked (R386). -/
def Ctl.msix (c : Ctl) (fn vec : Nat) : Ctl :=
  let f := if fn == 0 then c.evt.fn0 else c.evt.fn1
  let v := kgetD f.vecs vec {}
  if !f.enable then c
  else if v.mask || f.fmask then
    let f := { f with vecs := kput f.vecs vec { v with pending := true } }
    { c with evt := if fn == 0 then { c.evt with fn0 := f } else { c.evt with fn1 := f } }
  else c.emit (.msix fn vec)

/-- Signals class `k` on the vectors of its route (R412). -/
def Ctl.signalClass (c : Ctl) (k : Nat) : Ctl :=
  (c.when (c.is R.EVT_CLASS_ROUTE_EN0 k) (·.msix 0 (c.get R.EVT_CLASS_ROUTE_VEC0 k))).when
    (c.is R.EVT_CLASS_ROUTE_EN1 k) (·.msix 1 (c.get R.EVT_CLASS_ROUTE_VEC1 k))

/-- The class of a group (EVT_GRP_CLASS). -/
def Ctl.groupClass (c : Ctl) (g : Nat) : Nat := c.get R.EVT_GRP_CLASS_CLASS (g / 16) / 2 ^ (2 * (g % 16)) % 4

/-- The groups that are pending: enabled, with an enabled source pending (R411). -/
def Ctl.groupsPending (c : Ctl) : Nat :=
  (List.range 24).foldl (fun n g =>
    putBit n g (bit (c.get R.EVT_GRP_EN) g && (c.get R.EVT_SRC_PEND g &&& c.get R.EVT_SRC_EN g) != 0)) 0

/-- The classes that are pending: some group routed to the class is (R411). -/
def Ctl.classesPending (c : Ctl) (groups : Nat) : Nat :=
  (bitsOf 24 groups).foldl (fun n g => setBit n (c.groupClass g)) 0

/-- Whether a pending class, or the maker's software, asks for FIRE_FAULT.HOST (R221, R412). -/
def Ctl.hostCause (c : Ctl) : Bool :=
  c.is R.FIRE_RELAY_HOST_FAULT ||
    (List.range 4).any (fun k => bit (c.get R.EVT_CLASS_PEND) k && c.is R.EVT_CLASS_ROUTE_K1 k)

/-- Brings the pending groups and classes up to date and signals the classes that have become pending, A to D (R412). -/
def Ctl.evtUpdate (c : Ctl) : Ctl :=
  let was := c.get R.EVT_CLASS_PEND
  let g := c.groupsPending
  let k := c.classesPending g
  let c := (c.set R.EVT_GRP_PEND g).set R.EVT_CLASS_PEND k
  let c := c.each ((List.range 4).filter (fun j => bit k j && !bit was j)) Ctl.signalClass
  c.set R.FIRE_FAULT (putBit (c.get R.FIRE_FAULT) 9 c.hostCause)

/-- The common watermark rule (R379): what a change of depth from `d0` to `d1` crosses, as (high, low). -/
def crossed (d0 d1 high low : Nat) : Bool × Bool := (d0 < high && high ≤ d1, low < d0 && d1 ≤ low)

/-- Sets the record queue's contents and its DEPTH and watermark flags (R414); the second component says whether a
watermark was crossed. -/
def Ctl.evtQueue (c : Ctl) (q : List EvRec) : Ctl × Bool :=
  let x := crossed c.evt.queue.length q.length (c.get R.EVT_REC_WM_HIGH) (c.get R.EVT_REC_WM_LOW)
  let n := b2n x.1 + b2n x.2
  let c := { c with evt := { c.evt with queue := q, cross := c.evt.cross + n } }
  let c := c.set R.EVT_REC_STAT_DEPTH q.length
  let c := c.when x.1 (·.set R.EVT_REC_STAT_HI_SEEN 1)
  let c := c.when x.2 (·.set R.EVT_REC_STAT_LO_SEEN 1)
  (c, x.1 || x.2)

/-- Enters a record into the log and the queue (R412, R414); the second component says whether the entry crossed a
watermark or overwrote a record. -/
def Ctl.pushRec (c : Ctl) (e : EvRec) : Ctl × Bool :=
  let logged := c.is R.EVT_CLASS_ROUTE_KEEPER (c.groupClass (e.source / 8)) && e.source != Ev.WIN_START
    && e.source != Ev.WIN_TICK && c.get R.MON_FLASH_SPARE != 0
  let c := c.when logged (fun c =>
    let l := c.evt.log ++ [e]
    { c with evt := { c.evt with log := if l.length > 1048576 then l.tail else l, logNext := c.evt.logNext + 1 } })
  let q := c.evt.queue
  if q.length < 256 then c.evtQueue (q ++ [e])
  else
    let c := c.inc R.EVT_REC_STAT_LOST
    ((c.evtQueue (q.tail ++ [e])).1, true)

/-- The next record of a source, and the count that numbers it (R413). -/
def Ctl.mkRec (c : Ctl) (src info detail : Nat) : EvRec × Ctl :=
  let n := cget c.evt.seqs src
  (⟨src, info % 256, false, n, detail % 2 ^ 32, c.time / 5 * 5⟩,
    { c with evt := { c.evt with seqs := cset c.evt.seqs src ((n + 1) % 256) } })

/-- Whether a source is enabled (EVT_SRC_EN). -/
def Ctl.srcOn (c : Ctl) (src : Nat) : Bool := bit (c.get R.EVT_SRC_EN (src / 8)) (src % 8)

/-- Sets a source's pending bit. -/
def Ctl.setPend (c : Ctl) (src : Nat) : Ctl :=
  c.set R.EVT_SRC_PEND (setBit (c.get R.EVT_SRC_PEND (src / 8)) (src % 8)) (src / 8)

/-- Delivers a record that is already made: log, queue, pending bit, classes, and the queue's own event (R414). -/
def Ctl.deliver (c : Ctl) (e : EvRec) : Ctl :=
  let p := c.pushRec e
  let c := p.1.setPend e.source
  let c := if p.2 && e.source != Ev.MBX_EVTQ && c.srcOn Ev.MBX_EVTQ then
      let m := c.mkRec Ev.MBX_EVTQ 0 0
      (m.2.pushRec m.1).1.setPend Ev.MBX_EVTQ
    else c
  c.evtUpdate

/-- A source fires (R411, R413). While the render die is lost, the storm door keeps its own records, stamped with the
SAFE count (R240). -/
def Ctl.raise (c : Ctl) (src : Nat) (info : Nat := 0) (detail : Nat := 0) : Ctl :=
  if !c.srcOn src then c
  else
    let m := c.mkRec src info detail
    if c.fire.dieLost && 152 ≤ src && src < 168 then
      let c := m.2
      let e := { m.1 with safe := true, time := c.storm.safeCount }
      let q := c.storm.evq
      if q.length < 64 then { c with storm := { c.storm with evq := q ++ [e] } }
      else { c with storm := { c.storm with evq := q.tail ++ [e], evqLost := c.storm.evqLost + 1 } }
    else m.2.deliver m.1

/-! ## Cages (R465) -/

/-- Whether a pluggable is held powered down: it draws more than its cage allows, in mW, or does not answer. -/
def plugHeld (most : Nat) (plug : Option Nat) : Bool := match plug with | some d => most < d | none => true

/-- Notes whether the pluggable of cage `i` is held powered down. -/
def Ctl.cageHold (c : Ctl) (i : Nat) (on : Bool) : Ctl :=
  let l := c.net.held.filter (· != i)
  { c with net := { c.net with held := if on then i :: l else l } }

/-! ## The hinge journal (R248, R249) -/

/-- Enters an action of the active in its journal; the journal is cut at its limits (R249). -/
def Ctl.jot (c : Ctl) (kind loc value : Nat) (args : List Nat := []) : Ctl :=
  let h := c.hng
  if c.get R.HNG_STATUS_ROLE != 2 then c
  else if 4096 ≤ h.journal.length || 16299 < h.jwords + 2 + args.length then
    { c with hng := { h with overflow := true } }.set R.HNG_STATUS_JOURNAL_FULL_SEEN 1
  else { c with hng := { h with journal := h.journal ++ [⟨kind, loc, value, args, c.tab.snapTime == some c.time⟩], jwords := h.jwords + 2 + args.length } }

/-- A part of the bulk data has changed and is sent again (R263). -/
def Ctl.bulkAgain (c : Ctl) (k : Nat) : Ctl := { c with hng := { c.hng with bulkSent := c.hng.bulkSent.filter (· != k) } }

/-- What stops a mirrored write: 1 on a standby, 3 while the journal is nearly full; the keeper's own pass (R248, R249). -/
def Ctl.hngBar (c : Ctl) (m : Master) : Nat :=
  if m == .keeper then 0
  else if c.get R.HNG_STATUS_ROLE = 3 then 1
  else if c.get R.HNG_STATUS_ROLE = 2 && (3072 ≤ c.hng.journal.length || 12288 ≤ c.hng.jwords) then 3
  else 0

/-- A mirrored write refused with STATE or BUSY. -/
def Ctl.hngRefuse (c : Ctl) (code : Nat) : Ctl :=
  if code = 1 then (c.set R.HNG_STATUS_ERR_STATE 1).raise Ev.HNG_STATE else c.set R.HNG_STATUS_JOURNAL_FULL_SEEN 1

/-- A write of word `d` to a mirrored block at address `a`: `last` is the status field that shows whether it was accepted.
The journal has the write before the admission that it leads to. -/
def Ctl.hngGate (c : Ctl) (m : Master) (a d : Nat) (last : Option (Reg × Nat)) (f : Ctl → Ctl) : Ctl :=
  let b := c.hngBar m
  if b = 0 then
    let c' := f (c.jot 0 (a / 4) d)
    match last with
    | none => c'
    | some r => if c'.get r.1 r.2 = 0 then c' else f c
  else
    let c := c.hngRefuse b
    match last with | none => c | some r => c.set r.1 b r.2

/-! ## Bus results (R8, R374, R453) -/

/-- The class of a master's transfers (R371): MTX_MCLASS, the sequencer's SCLASS, and D for the network DMA's host frames. -/
def Ctl.masterClass (c : Ctl) : Master → Nat
  | .fn0 | .fn1 => c.get R.MTX_MCLASS_M0
  | .keeper => c.get R.MTX_MCLASS_M1
  | .seq y => (kgetD c.seqs y {}).sclass
  | .agent m => if m = 3 then c.get R.MTX_MCLASS_M9 else if m = 0 then 3 else 0

/-- Whether the keeper arms the module or carries out a plan (R38, R355). -/
def Ctl.keeperBusy (c : Ctl) : Bool :=
  c.boot.armPend.isSome || c.boot.autoFrom.isSome || (List.range 64).any (fun p => c.get R.PLAN_STATE p != 0)

/-- The matrix target of a BAR0 address (the table before R371). -/
def targetOf (a : Nat) : Nat :=
  if 0x48000 ≤ a ∧ a ≤ 0x4FFFF then 1
  else if 0x1000000 ≤ a ∧ a < 0x2000000 then 2 + (a - 0x1000000) / 0x400000
  else if 0x400000 ≤ a ∧ a < 0x800000 then 7 + (a - 0x400000) / 0x100000
  else if unmapped a then 15
  else 0

/-- Captures a matrix fault, when it is the first since its SEEN bit was cleared, and counts it (R374). KIND is 1 DENIED,
2 DECERR, 3 TIMEOUT. -/
def Ctl.mtxFault (c : Ctl) (kind : Nat) (m : Master) (a : Nat) (write : Bool) (target : Nat) : Ctl :=
  let seen := if kind == 1 then R.MTX_STATUS_DENIED_SEEN else if kind == 2 then R.MTX_STATUS_DECERR_SEEN
    else R.MTX_STATUS_TIMEOUT_SEEN
  let cnt := if kind == 1 then R.MTX_DENIED_COUNT else if kind == 2 then R.MTX_DECERR_COUNT else R.MTX_TIMEOUT_COUNT
  let ev := if kind == 1 then Ev.MTX_DENIED else if kind == 2 then Ev.MTX_DECERR else Ev.MTX_TIMEOUT
  let first := !c.is seen
  let c := c.when first (fun c =>
    (((((c.set R.MTX_CAP_ADDR_ADDR a).set R.MTX_CAP_INFO_MASTER m.num).set R.MTX_CAP_INFO_TARGET target).set
      R.MTX_CAP_INFO_WRITE (b2n write)).set R.MTX_CAP_INFO_KIND kind).set R.MTX_CAP_INFO_CLASS (c.masterClass m))
  ((c.set seen 1).inc cnt).raise ev m.num a

/-- A write discarded under R8. -/
def Ctl.denied (c : Ctl) (m : Master) (a : Nat) : Ctl :=
  (c.mtxFault 1 m a true (targetOf a)).emit (.busResult 4)

/-- An access that ends with DECERR. -/
def Ctl.decerr (c : Ctl) (m : Master) (a : Nat) (write : Bool) : Ctl :=
  (c.mtxFault 2 m a write (targetOf a)).emit (.busResult 6)

/-- Whether a session is open on pair 4 or 5 (R400). -/
def Ctl.session (c : Ctl) : Bool := c.is R.MBX_SESSION_OPEN4 || c.is R.MBX_SESSION_OPEN5

/-- Whether a master may write the SECURE blocks (R8, R400, R453). -/
def Ctl.secure (c : Ctl) (m : Master) : Bool := m == .keeper || (m == .fn1 && c.session)

/-- Carries out a write of a SECURE block, or discards it under R8. -/
def Ctl.ifSecure (c : Ctl) (m : Master) (a : Nat) (f : Ctl → Ctl) : Ctl := if c.secure m then f c else c.denied m a

/-! ## Status fields -/

/-- Ends a register command with a status code in the block's LAST field; a STATE refusal also sets ERR_STATE and raises
the block's state-error event (R10). -/
def Ctl.status (c : Ctl) (last err : Reg) (ev code : Nat) (i : Nat := 0) (info : Nat := 0) : Ctl :=
  let c := c.set last code i
  if code == 1 then (c.set err 1 i).raise ev info else c

/-- A STATE refusal in a block that has no LAST field. -/
def Ctl.refuse (c : Ctl) (err : Reg) (ev : Nat) (i : Nat := 0) (info : Nat := 0) : Ctl := (c.set err 1 i).raise ev info

/-- The SHUT, STORM and FIRE blocks' status (R239). -/
def Ctl.stormStatus (c : Ctl) (code : Nat) : Ctl := c.status R.STORM_STATUS_LAST R.STORM_STATUS_ERR_STATE Ev.FIRE_STATE code

/-- Whether a word changes any of the fields listed. -/
def Ctl.changes (c : Ctl) (fields : List Reg) (i : Nat) (d : Nat) : Bool :=
  fields.any (fun r => r.acc == .rw && storeVal r (r.of d) != c.get r i)

/-- Writes a word into the fields listed, by their access types (R5): RW takes the value, W1C clears. -/
def Ctl.store (c : Ctl) (fields : List Reg) (i : Nat) (d : Nat) : Ctl :=
  c.each fields (fun c r =>
    match r.acc with
    | .rw => c.set r (storeVal r (r.of d)) i
    | .w1c => c.set r (andNot r.width (c.get r i) (r.of d)) i
    | _ => c)

/-- Whether every RW field of the word is given a value in its range. -/
def inRange (fields : List Reg) (d : Nat) : Bool := fields.all (fun r => r.acc != .rw || rangeOk r (r.of d))

/-- The fields of a block that share the word at byte offset `off` from element 0 of the array. -/
def wordFields (block : List Reg) (addr : Nat) : List Reg := block.filter (fun r => r.addr == addr && r.iCount == 1)

/-- The fields of the word at a BAR0 address, each with its element. -/
def fieldsAt (a : Nat) : List (Reg × Nat) := allRegs.filterMap (fun r => (r.indexAt a).map (fun i => (r, i)))

/-- The word at a BAR0 address, as its fields hold it. -/
def Ctl.wordAt (c : Ctl) (a : Nat) : Nat := (fieldsAt a).foldl (fun n e => n + c.get e.1 e.2 * 2 ^ e.1.lo) 0

/-- Puts a word's fields at the values given, whatever their access types. -/
def Ctl.putWord (c : Ctl) (a d : Nat) : Ctl := c.each (fieldsAt a) (fun c e => c.set e.1 (e.1.of d) e.2)

/-- Whether a BAR0 address belongs to the blocks whose writes a hinge active mirrors (R248). -/
def mirroredBlock (a : Nat) : Bool :=
  (0x200000 ≤ a && a < 0x260000) || a == 0x50 || (0x100000 ≤ a && a < 0x200000) || (0xD0000 ≤ a && a < 0xE0000)

/-! ## Windows -/

/-- The low 32 bits of the extended count. -/
def Ctl.winNo (c : Ctl) : Nat := c.get R.WIN_COUNT

/-- The content window: a hinge standby renders one window behind (R247). -/
def Ctl.cwin (c : Ctl) : Nat := if c.get R.HNG_STATUS_ROLE = 3 then (c.winNo + 2 ^ 32 - 1) % 2 ^ 32 else c.winNo

/-- What STATE of an entry reads: an old object of a scene switch is still ACTIVE until its ramp tick and FADING_OUT in it,
unless the entry shows a new object (R74). -/
def Ctl.shownState (c : Ctl) (o : Nat) : Nat :=
  let st := c.get R.OBJ_STATE o
  if st != 0 then st
  else match c.tab.oldObjs.find? (fun e => e.idx == o) with
    | some e => if e.left ≤ 1 || e.st = 4 then 4 else 3
    | none => 0

/-- The old objects of a scene switch whose entries read as them: BOUND of their sources counts them (R74). -/
def Ctl.shownOld (c : Ctl) : List Nat :=
  (c.tab.oldObjs.map (·.idx)).dedup.filter (fun o => c.get R.OBJ_STATE o == 0 && c.shownState o != 0)

/-- The fields, with STATE of the old objects of a scene switch and BOUND of their sources as they read (R74, R194). -/
def Ctl.shownRegs (c : Ctl) : RegMap :=
  let m := c.tab.oldObjs.foldl (fun m e => m.set R.OBJ_STATE e.idx (c.shownState e.idx)) c.regs
  c.shownOld.foldl (fun m o => let i := c.get R.OBJ_SRC o; m.set R.SRC_BOUND i (m.get R.SRC_BOUND i + 1)) m

/-- Samples in a window at 48 kHz (R16). -/
def Ctl.winS (c : Ctl) : Nat := 8 * 2 ^ c.get R.WIN_CTRL_LEN

/-- Whether 96 kHz mode is in force. -/
def Ctl.rate96 (c : Ctl) : Bool := c.is R.WIN_CTRL_RATE96

/-- Samples in a window at the module rate (R17). -/
def Ctl.winSamples (c : Ctl) : Nat := if c.rate96 then 2 * c.winS else c.winS

/-- Windows in the control tick in force. -/
def Ctl.tickLen (c : Ctl) : Nat := c.get R.WIN_TICK_LEN_ACTIVE + 1

/-- Whether the module is armed. -/
def Ctl.armed (c : Ctl) : Bool := c.is R.SYS_ARM_ARMED

/-- Objects of the table: halved at 96 kHz (R2). -/
def Ctl.objCount (c : Ctl) : Nat := if c.rate96 then 512 else 1024

/-- Feeds of the table: halved at 96 kHz (R2). -/
def Ctl.feedCount (c : Ctl) : Nat := if c.rate96 then 384 else 768

/-- The amplifier link and channel of a feed (R66). -/
def Ctl.feedLink (c : Ctl) (f : Nat) : Nat := if c.rate96 then f / 48 else f / 96

/-- Whether feed `f` is an enabled feed of zone `z`. -/
def Ctl.feedIn (c : Ctl) (z f : Nat) : Bool := c.is R.FEED_EN f && !c.is R.FEED_NOZONE f && c.get R.FEED_ZONE f == z

/-- The enabled feeds of a zone. -/
def Ctl.zoneFeeds (c : Ctl) (z : Nat) : List Nat := (List.range c.feedCount).filter (c.feedIn z)

/-- Whether an object's zone mask selects a local zone. -/
def Ctl.objSelects (c : Ctl) (o z : Nat) : Bool := bit (c.get R.OBJ_ZMASK (4 * o + z / 32)) (z % 32)

/-- Whether a plan covers a zone. -/
def Ctl.planCovers (c : Ctl) (p z : Nat) : Bool := bit (c.get R.PLAN_ZONES (4 * p + z / 32)) (z % 32)

/-- The objects named by a plan's VALID slots (PLAN.OBJS). -/
def Ctl.planObjs (c : Ctl) (p : Nat) : List Nat :=
  (List.range 8).filterMap (fun s =>
    let h := c.get R.PLAN_OBJS (4 * p + s / 2) / 2 ^ (16 * (s % 2)) % 65536
    if bit h 15 then some (h % 1024) else none)

/-- The objects that are not IDLE, by index. -/
def Ctl.liveObjs (c : Ctl) : List Nat := (c.regs.filter (fun e => e.reg.id == R.OBJ_STATE.id && e.val != 0)).map (·.idx)

/-! ## Zones and the storm door (R221, R234, R235) -/

/-- Whether the storm door drives a zone. -/
def Ctl.driven (c : Ctl) (z : Nat) : Bool := bit (c.get R.STORM_OWNER (z / 32)) (z % 32)

/-- The zones that the storm door drives. -/
def Ctl.drivenZones (c : Ctl) : List Nat := (List.range 128).filter c.driven

/-- Whether an input or a PTT contact reports OPEN, SHORT or INVALID. -/
def Ctl.inputFault (c : Ctl) : Bool :=
  (List.range 16).any (fun i => 3 ≤ c.get R.FIRE_IN_STATE i) || (List.range 2).any (fun n => 3 ≤ c.get R.STORM_EMIC_PTT n)

/-- Whether an enabled feed of an enabled zone reads OPEN or SHORT (R423). -/
def Ctl.lineFault (c : Ctl) : Bool :=
  c.regs.any (fun e => e.reg.id == R.FEED_LINE.id && 2 ≤ e.val && c.is R.FEED_EN e.idx && !c.is R.FEED_NOZONE e.idx &&
    c.is R.ZONE_EN (c.get R.FEED_ZONE e.idx))

/-- Brings the causes of FIRE_FAULT that follow a condition up to date (R221): CLOCK, STORE, BATT_LOW, INPUT, LINE, ZONE,
FLOOR and HOST. NOT_ARMED and KEEPER_LOST are set and cleared by their own commands. -/
def Ctl.faults (c : Ctl) : Ctl :=
  let f := c.get R.FIRE_FAULT % 4
  let f := putBit f 2 (c.fire.clockLost || c.fire.dieLost)
  let f := putBit f 3 c.fire.storeBad
  let f := putBit f 4 (c.is R.LEDG_STATUS_BATT_LOW)
  let f := putBit f 5 c.inputFault
  let f := putBit f 6 c.lineFault
  let f := putBit f 7 (c.drivenZones.any (fun z => c.get R.STORM_CAUSE_CAUSE z != 8))
  let f := putBit f 8 (c.is R.LEDG_STATUS_FLOOR_FAIL)
  let f := putBit f 9 c.hostCause
  c.set R.FIRE_FAULT f

/-! ### Programmes (R230) -/

/-- A field of the copy in force of the STORM block or the PLAN table (R233). -/
def Ctl.inForce (c : Ctl) (r : Reg) (i : Nat := 0) : Nat := c.storm.inForce.get r i

/-- Whether the storm door counts a plan as active. -/
def Ctl.stormActive (c : Ctl) (p : Nat) : Bool := c.get R.PLAN_STATE p != 0 || (kgetD c.storm.plans p {}).stormOn

/-- Whether plan `p` comes before `q`: the higher PRIO, then the lower index. -/
def Ctl.planBefore (c : Ctl) (p q : Nat) : Bool :=
  c.inForce R.PLAN_PRIO q < c.inForce R.PLAN_PRIO p || (c.inForce R.PLAN_PRIO p == c.inForce R.PLAN_PRIO q && p < q)

/-- Whether the committed copy of a plan covers a zone. -/
def Ctl.stormCovers (c : Ctl) (p z : Nat) : Bool := bit (c.inForce R.PLAN_ZONES (4 * p + z / 32)) (z % 32)

/-- The plan whose programme a zone plays. -/
def Ctl.zonePlan (c : Ctl) (z : Nat) : Option Nat :=
  ((List.range 64).filter (fun p => c.stormActive p && c.stormCovers p z)).foldl (fun b p =>
    match b with
    | none => some p
    | some q => if c.planBefore p q then some p else b) none

/-- The plans that some zone driven by the storm door plays. -/
def Ctl.playing (c : Ctl) : List Nat :=
  let l := c.drivenZones.map c.zonePlan
  (List.range 64).filter (fun p => l.contains (some p))

/-- Whether a plan has a message that is not BAD. -/
def Ctl.wantsMsg (c : Ctl) (p : Nat) : Bool :=
  c.inForce R.PLAN_MSG_EN p == 1 && !bit (c.get R.STORM_MSG_BAD) (c.inForce R.PLAN_MSG p)

/-- Whether fewer than `n` of the plans listed come before `p`. -/
def Ctl.among (c : Ctl) (l : List Nat) (n p : Nat) : Bool := l.contains p && (l.filter (c.planBefore · p)).length < n

/-- Brings the programmes up to date: what each driven zone plays, four message voices and eight tone voices. A programme keeps its
place; one that gains or loses its message voice begins anew (R230; log entry 149). -/
def Ctl.showProg (c : Ctl) : Ctl :=
  let c := c.each c.drivenZones (fun c z =>
    let p := c.zonePlan z
    (c.set R.STORM_CAUSE_PLAN (p.getD 0) z).set R.STORM_CAUSE_NOPLAN (b2n p.isNone) z)
  let play := c.playing
  let want := play.filter c.wantsMsg
  let msgs := want.filter (c.among want 4)
  let toned := play.filter (fun p => c.inForce R.PLAN_TONE_EN p == 1 || !msgs.contains p)
  let lost := want.filter (fun p => !msgs.contains p && !(kgetD c.storm.progs p {}).denied)
  let progs := play.map (fun p =>
    let was := kget? c.storm.progs p
    let msg := msgs.contains p
    let start := if msg && c.inForce R.PLAN_TONE_EN p != 1 then 1 else 0
    let at' := match was with
      | none => (start, 0)
      | some g => if g.msg == msg then (g.phase, g.pos) else (start, 0)
    (p, ({ phase := at'.1, pos := at'.2, msg := msg, denied := want.contains p && !msg, tone := c.among toned 8 p } : Prog)))
  let c := { c with storm := { c.storm with progs := progs } }
  c.each lost (fun c p => (c.set R.STORM_STATUS_VOICE_SEEN 1).raise Ev.STORM_VOICE p)

/-- The storm door takes the zones listed, for a cause of R234. A zone taken for a second cause keeps the first; a
RETURNING zone goes back to STORM. -/
def Ctl.takeAs (c : Ctl) (cause : Nat) (zs : List Nat) : Ctl :=
  let c := { c with storm := { c.storm with ready := c.storm.ready.filter (fun z => !zs.contains z) } }
  match zs.filter (fun z => c.get R.ZONE_OWNER z != 1) with
  | [] => c
  | z0 :: zs' =>
    let c := c.each (z0 :: zs') (fun c z =>
      let fresh := !c.driven z
      let c := (c.set R.ZONE_OWNER 1 z).set R.STORM_OWNER (setBit (c.get R.STORM_OWNER (z / 32)) (z % 32)) (z / 32)
      let c := c.when (c.get R.STORM_CAUSE_CAUSE z == 0) (·.set R.STORM_CAUSE_CAUSE cause z)
      let c := (c.set R.STORM_CAUSE_RETURNING 0 z).set R.STORM_CAUSE_CHECKED 0 z
      let fade := if fresh then cset c.storm.fadeIn z 48 else c.storm.fadeIn
      { c with storm := { c.storm with fadeIn := fade } })
    let c := (c.set R.STORM_STATUS_ENGAGE_SEEN 1).set R.STORM_STATUS_ZONES c.drivenZones.length
    (c.raise Ev.STORM_ENGAGE z0 cause).faults.showProg

/-- An armed storm door takes zones (R234); on a hinge standby it takes them only as the records declare (R251). -/
def Ctl.takeZones (c : Ctl) (cause : Nat) (zs : List Nat) : Ctl :=
  if !c.is R.STORM_STATUS_ARMED || c.get R.HNG_STATUS_ROLE == 3 then c else c.takeAs cause zs

/-- An armed storm door takes every link (R235): CLOCK and DIE. -/
def Ctl.allLinks (c : Ctl) : Ctl :=
  if !c.is R.STORM_STATUS_ARMED || c.is R.STORM_STATUS_ALL_LINKS then c
  else (((c.set R.STORM_STATUS_ALL_LINKS 1).set R.STORM_STATUS_SAFE_CLK 1).raise Ev.STORM_ALL 0 1)

/-- Cancels a pending scene switch, releases its charge and keeps the stage (R73). -/
def Ctl.cancelSwitch (c : Ctl) : Ctl :=
  match c.tab.switchMin with
  | none => c
  | some _ =>
    let c := { c with tab := { c.tab with switchMin := none },
                      ledg := { c.ledg with switchHold := [0, 0, 0, 0] } }
    ((((c.set R.SYS_SCENE_PENDING 0).set R.SYS_SCENE_WIN c.tab.lastSwitch).set R.SYS_SCENE_LAST_SW 2).set R.SYS_SCENE_CANCEL_SEEN 1).raise Ev.KEEP_SCENE 0 2

/-- The status of a refused or accepted SYS command; a STATE refusal raises EV_KEEP_STATE (R454). -/
def Ctl.sysState (c : Ctl) (err : Reg) : Ctl := (c.set err 1).raise Ev.KEEP_STATE

end Sys2Proof.Machine
end

