-- ==== Sys2Proof/Machine/Cells.lean ====
section
/-! DEFINITION. Cells of the gate fabric (R267 to R281): encoding, output queues, credits, routing and escape. -/
namespace Sys2Proof.Machine

/-- This node's address: 0 while the module is not a MEMBER of a fabric (R71). -/
def Ctl.node (c : Ctl) : Nat := if c.get R.FAB_STATUS_STATE = 2 then c.get R.FAB_STATUS_NODE else 0

/-- This module's station code: node + 64 × rank. -/
def Ctl.station (c : Ctl) : Nat := c.get R.FAB_STATUS_NODE + 64 * c.get R.HNG_CFG_RANK

/-! ## Encoding (R268, R269) -/

/-- One step of a CRC-8 with its highest bit first. -/
def crc8Step (poly r : Nat) : Nat := if 128 ≤ r then Nat.xor (2 * r % 256) poly else 2 * r

/-- A byte into a CRC-8 register. -/
def crc8Byte (poly r : Nat) (b : Byte) : Nat :=
  let r := Nat.xor r b.toNat
  let s := crc8Step poly
  s (s (s (s (s (s (s (s r)))))))

/-- CRC-8 of a byte string: initial value 0, highest bit first. -/
def crc8 (poly : Nat) (l : List Byte) : Nat := l.foldl (crc8Byte poly) 0

/-- The 48 header bits that the HEC covers. -/
def cellHeader (x : Cell) : Nat :=
  x.vc + 4 * x.cls + 16 * x.kind + 128 * b2n x.mc + 256 * b2n x.down + 512 * x.dst + 2 ^ 23 * x.hops + 2 ^ 27 * x.part +
    2 ^ 30 * x.win8 + 2 ^ 38 * x.crCnt + 2 ^ 43 * x.crVc

/-- The cell as it leaves: two words of header with HEC, sixteen of payload, AUX and CRC. -/
def cellWire (x : Cell) : List Nat :=
  let h := leBytes 6 (cellHeader x)
  let hec := crc8 0x07 h
  let body := h ++ [BitVec.ofNat 8 hec] ++ ((x.words ++ List.replicate 16 0).take 16 ++ [x.aux]).flatMap (leBytes 4)
  [cellHeader x % 2 ^ 32, cellHeader x / 2 ^ 32 + 2 ^ 16 * hec] ++ (x.words ++ List.replicate 16 0).take 16 ++ [x.aux, crc32 body]

/-! ## Queues and credits (R270 to R272) -/

/-- Receive buffer cells of a channel. -/
def vcBuf (vc : Nat) : Nat := [64, 96, 48, 48].getD vc 0

/-- Credits held on a channel of a gate (R272). -/
def Ctl.credits (c : Ctl) (g vc : Nat) : Nat :=
  vcBuf vc - (cget c.fab.sent (4 * g + vc) + 65536 - cget c.fab.peerFreed (4 * g + vc)) % 65536

/-- FAB_GATE[g].CREDITS. -/
def Ctl.showCredits (c : Ctl) (g : Nat) : Ctl :=
  c.set R.FAB_GATE_CREDITS (if c.is R.FAB_GATE_UP g then
    c.credits g 0 + 256 * c.credits g 1 + 65536 * c.credits g 2 + 2 ^ 24 * c.credits g 3 else 0) g

/-- An event raised at most once in a window (R270, R274). -/
def Ctl.raiseOnce (c : Ctl) (ev : Nat) : Ctl :=
  if c.fab.once.contains ev then c else { c with fab := { c.fab with once := ev :: c.fab.once } }.raise ev

/-- A cell is discarded (R270). -/
def Ctl.cellDiscard (c : Ctl) : Ctl :=
  ((c.inc R.FAB_DISCARDS).set R.FAB_STATUS_DISCARD_SEEN 1).raiseOnce Ev.FAB_DISCARD

/-- A receive-buffer cell is freed, and its credit owed (R271). -/
def Ctl.cellFree (c : Ctl) (held : Option (Nat × Nat)) : Ctl :=
  match held with
  | none => c
  | some p =>
    let k := 4 * p.1 + p.2
    { c with fab := { c.fab with freed := cset c.fab.freed k ((cget c.fab.freed k + 1) % 65536),
                                 owed := cset c.fab.owed k (cget c.fab.owed k + 1) } }

/-- A cell joins an output queue; `k` is 4 × gate + channel, or 16 + gate for a link-local one. -/
def Ctl.cellPut (c : Ctl) (k : Nat) (q : QCell) : Ctl :=
  { c with fab := { c.fab with out := kput c.fab.out k (kgetD c.fab.out k [] ++ [q]) } }

/-- A cell leaves by a gate: HOPS counts the send (R269). -/
def Ctl.cellOut (c : Ctl) (g : Nat) (x : Cell) (held : Option (Nat × Nat)) : Ctl :=
  if 15 ≤ x.hops then c.cellDiscard.cellFree held
  else c.cellPut (4 * g + x.vc) ⟨{ x with hops := x.hops + 1 }, held⟩

/-! ## Routing (R279, R281) -/

/-- The gate of a set with the most credit on a channel, the lowest index first among equals. -/
def Ctl.bestGate (c : Ctl) (vc : Nat) : List Nat → Option Nat
  | [] => none
  | g :: l => match c.bestGate vc l with
    | none => some g
    | some h => if c.credits g vc < c.credits h vc then some h else some g

/-- An escape is counted (R274). -/
def Ctl.escaped (c : Ctl) : Ctl := ((c.inc R.FAB_ESCAPES).set R.FAB_STATUS_ESC_SEEN 1).raiseOnce Ev.FAB_ESCAPE

/-- A VC3 cell goes up while it may, and down otherwise (R279); without an UP gate to take it is discarded (R281). -/
def Ctl.route3 (c : Ctl) (x : Cell) (held : Option (Nat × Nat)) : Ctl :=
  let st := x.dst % 256
  if !c.is R.FAB_ROUTE_VALID st then c.cellDiscard.cellFree held
  else if !x.down && c.is R.FAB_ROUTE_UP_VALID st then
    let g := c.get R.FAB_ROUTE_UP st
    if c.is R.FAB_GATE_UP g then c.cellOut g x held else c.cellDiscard.cellFree held
  else
    match (bitsOf 4 (c.get R.FAB_ROUTE_DOWN st)).filter (c.is R.FAB_GATE_UP ·) with
    | [] => c.cellDiscard.cellFree held
    | g :: _ => c.cellOut g { x with down := true } held

/-- A unicast cell is routed (R279, R281). -/
def Ctl.unicast (c : Ctl) (x : Cell) (held : Option (Nat × Nat)) : Ctl :=
  let st := x.dst % 256
  if x.vc = 3 then c.route3 x held
  else if !c.is R.FAB_ROUTE_VALID st then c.cellDiscard.cellFree held
  else match c.bestGate x.vc ((bitsOf 4 (c.get R.FAB_ROUTE_MIN st)).filter (c.is R.FAB_GATE_UP ·)) with
    | none => c.escaped.route3 { x with vc := 3 } held
    | some g => c.cellOut g x held

/-- The gate by which a VC3 cell of this node leaves for a station (R279). -/
def Ctl.gate3 (c : Ctl) (st : Nat) : Option Nat :=
  if !c.is R.FAB_ROUTE_VALID st then none
  else if c.is R.FAB_ROUTE_UP_VALID st then some (c.get R.FAB_ROUTE_UP st)
  else (bitsOf 4 (c.get R.FAB_ROUTE_DOWN st)).head?

/-- The stations beyond a gate that a multicast cell goes to: the subscribing ones of a flow, or all of a broadcast's, which
before the first generation is the neighbour alone (R274). -/
def Ctl.beyond (c : Ctl) (g : Nat) (x : Cell) : List Nat :=
  if x.kind = 1 then ((kgetD c.fab.flows x.dst ⟨0, 0, []⟩).stations.filter (fun s => s.1 == g)).map (·.2)
  else
    let l := (List.range 192).filter (fun st => c.gate3 st == some g)
    if l.isEmpty then [c.get R.FAB_GATE_PEER g] else l

/-- A multicast copy for a gate escapes: one unicast VC3 cell for each station beyond it (R274). -/
def Ctl.expand (c : Ctl) (g : Nat) (x : Cell) (held : Option (Nat × Nat)) : Ctl :=
  (c.each (c.beyond g x) (fun c st => c.route3 { x with vc := 3, mc := false, down := false, dst := st } none)).cellFree held

/-- A copy for a gate that is DOWN escapes at once (R281). -/
def Ctl.copyOut (c : Ctl) (g : Nat) (x : Cell) (held : Option (Nat × Nat)) : Ctl :=
  if c.is R.FAB_GATE_UP g then c.cellOut g x held else c.escaped.expand g x held

/-- A cell is copied to gates; its buffer is freed with the last copy. -/
def Ctl.copies (c : Ctl) (x : Cell) (held : Option (Nat × Nat)) : List Nat → Ctl
  | [] => c.cellFree held
  | [g] => c.copyOut g x held
  | g :: l => (c.copyOut g x none).copies x held l

/-- The spanning-tree gates that are UP (R276, R279). -/
def Ctl.treeGates (c : Ctl) : List Nat := (List.range 4).filter (fun g => c.is R.FAB_GATE_TREE g && c.is R.FAB_GATE_UP g)

/-! ## Control cells (R285) -/

/-- A CTRL cell of this station. -/
def Ctl.ctrlCell (c : Ctl) (cls op : Nat) (mc : Bool) (dst : Nat) (words : List Nat) : Cell :=
  { vc := 2, cls := cls, kind := 2, mc := mc, dst := dst, win8 := c.winNo % 256,
    words := (op + 256 * c.station + 65536 * (c.fab.ctrlSeq % 65536)) :: words }

/-- Whether a station code means this station: its own, or the alias of a node whose active member it is. -/
def Ctl.isMe (c : Ctl) (st : Nat) : Bool :=
  st == c.station || (st / 64 == 3 && st % 64 == c.node && (c.get R.HNG_STATUS_ROLE == 0 || c.get R.HNG_STATUS_ROLE == 2))

/-- Sends a CTRL cell to one station; one addressed to this station is not sent. -/
def Ctl.fabCtrl (c : Ctl) (cls op dst : Nat) (words : List Nat) : Ctl :=
  if c.get R.FAB_STATUS_STATE != 2 || c.isMe dst then c
  else { c with fab := { c.fab with ctrlSeq := c.fab.ctrlSeq + 1 } }.unicast (c.ctrlCell cls op false dst words) none

/-- Broadcasts a CTRL cell over the tree. -/
def Ctl.fabBroadcast (c : Ctl) (cls op : Nat) (words : List Nat) : Ctl :=
  if c.get R.FAB_STATUS_STATE != 2 then c
  else { c with fab := { c.fab with ctrlSeq := c.fab.ctrlSeq + 1 } }.copies (c.ctrlCell cls op true c.station words) none c.treeGates

/-- Whether this station sends for its node: a SOLO module, or the active member of a group. -/
def Ctl.speaks (c : Ctl) : Bool := c.get R.FAB_STATUS_STATE == 2 && (c.get R.HNG_STATUS_ROLE == 0 || c.get R.HNG_STATUS_ROLE == 2)

/-- The sources of this node that are exported (R282). -/
def Ctl.exported (c : Ctl) : List Nat := (List.range 256).filter (fun i => c.is R.SRC_EN i && c.is R.SRC_EXPORT i)

/-- The exports that changed, or that a new root has not heard of, are announced to the root; the root takes its own and
broadcasts them (R282, R285). -/
def Ctl.announce (c : Ctl) : Ctl :=
  let l := c.exported
  let map := l.foldl setBit 0
  if !c.speaks || (map = c.fab.announced && (map = 0 || c.fab.annRoot = c.fab.rootIdent)) then c
  else
    let words := 256 * c.node :: (List.range 8).map (fun k => map / 2 ^ (32 * k) % 2 ^ 32)
    let c := { c with fab := { c.fab with announced := map, annRoot := c.fab.rootIdent } }
    if !c.is R.FAB_STATUS_ROOT then c.fabCtrl 3 5 (c.get R.FAB_ROOT_NODE + 192) words
    else
      let ex := l.foldl (fun e i => kput e (256 * c.node + i) (c.get R.SRC_CLASS i, c.node))
        (c.fab.exports.filter (fun (e : Nat × (Nat × Nat)) => e.1 / 256 != c.node))
      { c with fab := { c.fab with exports := ex } }.fabBroadcast 3 5 words

/-- REFUSE to the home node's alias (R68). -/
def Ctl.fabRefuse (c : Ctl) (cls gid home : Nat) : Ctl := c.fabCtrl cls 2 (home + 192) [gid + 2 ^ 12 * c.station]

end Sys2Proof.Machine
end

