-- ==== Sys2Proof/Machine/Ledger.lean ====
section
/-! DEFINITION. The current ledger (spec/02): charges, admission, shedding and restoring. Charges are in sixteenths of an LU. -/
namespace Sys2Proof.Machine

/-- Insertion into a list ordered by `le`. -/
def insBy {α : Type} (le : α → α → Bool) (x : α) : List α → List α
  | [] => [x]
  | y :: l => if le x y then x :: y :: l else y :: insBy le x l

/-- The list put in order. -/
def sortBy {α : Type} (le : α → α → Bool) : List α → List α
  | [] => []
  | x :: l => insBy le x (sortBy le l)

/-- The budget in force, in LU (R33); a hinge standby takes it from the records (R252). -/
def Ctl.budget (c : Ctl) : Nat :=
  let own := if c.ledg.mainsOk then c.get R.LEDG_SUPPLY_LIM_MAINS else c.get R.LEDG_SUPPLY_LIM_BATT
  if c.get R.HNG_STATUS_ROLE = 3 then c.hng.budget.getD own else own

/-- The entry's full or higher-state cost. -/
def Ctl.costHi (c : Ctl) (i : Nat) : Nat := c.get R.LEDG_COST_FULL i

/-- The entry's lean or lower-state cost. -/
def Ctl.costLo (c : Ctl) (i : Nat) : Nat := c.get R.LEDG_COST_ALT i

/-- What LEDG_COST entry `i` draws now (R35); `lean` selects the lean column. -/
def Ctl.entryCost (c : Ctl) (lean : Bool) (i : Nat) : Nat :=
  let two (hi : Bool) : Nat := if hi then c.costHi i else c.costLo i
  if i = 0 then c.costHi 0
  else if i = 1 then
    if !c.drivenZones.isEmpty then c.costHi 1 else if c.is R.STORM_STATUS_ARMED then c.costLo 1 else 0
  else if i = 2 then
    if c.get R.DRAM_STATUS_MODE = 0 then 0 else two (c.get R.DRAM_STATUS_MODE != 2)
  else if i < 7 then if c.is R.YARD_CTRL_EN (i - 3) then two (!lean) else 0
  else if i < 23 then
    if bit (c.get R.YARD_CTRL_STABLE_EN ((i - 7) / 4)) ((i - 7) % 4) then two (!lean) else 0
  else if i < 25 then if c.is R.NET_CFG_EN (i - 23) then two (c.get R.NET_CFG_RATE (i - 23) == 0) else 0
  else if i < 27 then if c.is R.NET_CFG_EN (i - 23) then two (c.get R.NET_CFG_RATE (i - 23) == 3) else 0
  else if i < 31 then if bit (c.get R.FAB_CFG_GATE_EN) (i - 27) then c.costHi i else 0
  else if i = 31 then if c.is R.HNG_CFG_H0_EN then c.costHi i else 0
  else if i = 32 then if c.is R.HNG_CFG_H1_EN then c.costHi i else 0
  else if i < 41 then if bit (c.get R.AMP_CTRL_EN) (i - 33) then c.costHi i else 0
  else if i = 41 then if c.is R.MBX_PCIE_UP then two (3 ≤ c.get R.MBX_PCIE_GEN) else 0
  else if i = 42 then if c.is R.AUD_CTRL_AES_EN then c.costHi i else 0
  else if i = 43 then if c.is R.AUD_CTRL_MADI_EN then c.costHi i else 0
  else if i < 48 then if bit (c.get R.AUD_CTRL_TDM_EN) (i - 44) then c.costHi i else 0
  else if i = 48 then if c.is R.AUD_CTRL_ANA_EN then c.costHi i else 0
  else if i = 49 then if c.is R.MON_CTRL_EN then c.costHi i else 0
  else if bit (c.get R.FIRE_STATUS_RELAYS) (i - 50) then c.costHi i else 0

/-- The fixed charge F (R36). -/
def Ctl.fixedF (c : Ctl) (lean : Bool) : Nat := (List.range 54).foldl (fun n i => n + c.entryCost lean i) 0

/-- Whether lean mode is in force. -/
def Ctl.lean (c : Ctl) : Bool := c.is R.WIN_STATUS_LEAN

/-- A declared charge at the scale of the mode (R51); the sixteenth is rounded down (log entry 9). -/
def Ctl.scaled (c : Ctl) (lean : Bool) (x : Nat) : Nat := if lean then x * c.get R.LEDG_CTRL_LEAN_SCALE / 16 else x

/-- Whether an object is charged: admitted and not released; a shed one until its ramp ends unless `decided` (R47), even when it
was deactivated meanwhile. -/
def Ctl.objCharged (c : Ctl) (decided : Bool) (o : Nat) : Bool :=
  let st := c.get R.OBJ_STATE o
  (1 ≤ st && st ≤ 4) || (!decided && cget c.ledg.shedRamp o != 0)

/-- The charge R[k] of class `k`: its charged objects, and the old objects of a switch (R36, R74). -/
def Ctl.objCharge (c : Ctl) (decided : Bool) (k : Nat) : Nat :=
  let ramping := (c.ledg.shedRamp.map (·.1)).filter (fun o => c.get R.OBJ_STATE o == 0)
  let live := ((c.liveObjs ++ ramping).filter (fun o => c.get R.OBJ_CLASS o == k && c.objCharged decided o)).map (c.get R.OBJ_COST ·)
  let old := (c.tab.oldObjs.filter (·.cls == k)).map (·.cost)
  (live ++ old).foldl (· + ·) 0

/-- The envelope E[k] (R36), with the charge held for a pending switch (R72). -/
def Ctl.envelope (c : Ctl) (decided lean : Bool) (k : Nat) : Nat :=
  c.scaled lean (c.objCharge decided k + 16 * c.get R.LEDG_JOB_ALLOW_ALLOW k + c.ledg.switchHold.getD k 0)

/-- The total commitment: `decided` counts shedding as if its ramps had ended (R36, R46). -/
def Ctl.total (c : Ctl) (decided lean : Bool) : Nat :=
  c.fixedF lean + (List.range 4).foldl (fun n k => n + c.envelope decided lean k) 0

/-- The floor deficit (R36). -/
def Ctl.deficit (c : Ctl) (decided lean : Bool) : Nat := 16 * c.get R.LEDG_FLOOR_FLOOR - c.envelope decided lean 0

/-- The projection that the evaluation compares with B: scaled up by the calibration ratio when AUTO_SCALE asks (R44). Admission
compares T as it is, since it never depends on measured current (R42; log entry 137). -/
def Ctl.project (c : Ctl) (t : Nat) : Nat :=
  if c.is R.LEDG_CTRL_AUTO_SCALE && 0x1000 < c.get R.LEDG_CAL_RATIO then t * c.get R.LEDG_CAL_RATIO / 0x1000 else t

/-- Whether the module stands as reset leaves it: only entry 0 is charged and the allowances are the reset ones (R35). -/
def Ctl.onlyBase (c : Ctl) : Bool :=
  c.fixedF false == c.costHi 0 && c.liveObjs.isEmpty && c.tab.oldObjs.isEmpty &&
    (List.range 4).all (fun k => c.get R.LEDG_JOB_ALLOW_ALLOW k == R.LEDG_JOB_ALLOW_ALLOW.resets.getD k 0)

/-- Brings LEDG_COMMIT and LEDG_ENV up to date. While only entry 0 is charged they show it alone, as R35 and their reset values
state it: the class-D allowance shows with the first further charge (log entry 7). -/
def Ctl.ledgShow (c : Ctl) : Ctl :=
  let base := c.onlyBase
  let c := (c.set R.LEDG_COMMIT_T (if base then c.costHi 0 else c.total false c.lean)).set R.LEDG_COMMIT_BUDGET c.budget
  c.each (List.range 4) (fun c k =>
    (c.set R.LEDG_ENV_ENV (if base then 0 else c.envelope false c.lean k) k).set R.LEDG_ENV_OBJ (c.objCharge false k) k)

/-- Whether T + add + deficit fits the budget (R38), `add` at the scale in force. -/
def Ctl.fits (c : Ctl) (add : Nat) (useFloor : Bool) : Bool :=
  let t := c.total false c.lean + add
  (if useFloor then t else t + c.deficit false c.lean) ≤ 16 * c.budget

/-- The LEDG_COST index of the first block whose charge is higher in `n`, when that added charge does not fit (R38). The keeper's
own enables while it arms the module or carries out a plan may use the floor. -/
def Ctl.enableBar (c n : Ctl) : Option Nat :=
  let add := n.fixedF c.lean - c.fixedF c.lean
  if add = 0 || c.fits add c.ledg.mayUseFloor then none
  else some (((List.range 54).find? (fun i => c.entryCost c.lean i < n.entryCost c.lean i)).getD 0)

/-- Block enables made by one write, decided one by one in order (R38): all are carried out, or the first that does not fit is
refused with LEDGER, its index is reported and nothing changes. The second component is the status code. -/
def Ctl.enableBlocks (c : Ctl) (l : List Nat) (on : Nat → Ctl → Ctl) : Ctl × Nat :=
  let p := l.foldl (fun (p : Ctl × Option Nat) i =>
    if p.2.isSome then p else match p.1.enableBar (on i p.1) with
      | none => (on i p.1, none)
      | bar => (p.1, bar)) (c, none)
  match p.2 with
  | none => (p.1.ledgShow, 0)
  | some i => (c.raise Ev.LEDG_REFUSE 0 i, 5)

/-- A block enable that `on` carries out (R38). -/
def Ctl.enableBlock (c : Ctl) (on : Ctl → Ctl) : Ctl × Nat := c.enableBlocks [0] (fun _ => on)

/-- Counts a request of class `k` refused with LEDGER (R38, R40). -/
def Ctl.ledgRefuse (c : Ctl) (k detail : Nat) : Ctl := (c.inc R.LEDG_REFUSED_COUNT k).raise Ev.LEDG_REFUSE k detail

/-! ## Shedding (R45 to R48) -/

/-- The step of a shed item. -/
def ShedItem.step : ShedItem → Nat
  | .block _ => 0 | .allow _ => 1 | .obj s _ => s | .lean s => s | .empty s => s

/-- The highest step in force, 7 when nothing is shed (LEDG_STATUS.STEP). -/
def shedStep (l : List ShedItem) : Nat := if l.isEmpty then 7 else l.foldl (fun n x => max n x.step) 0

/-- Lists an item as shed. -/
def Ctl.shedAdd (c : Ctl) (x : ShedItem) : Ctl := { c with ledg := { c.ledg with shed := c.ledg.shed ++ [x] } }

/-- Whether lean mode is in force or decided. -/
def Ctl.leanDecided (c : Ctl) : Bool := c.win.leanWanted

/-- Whether the projection as decided, with the floor deficit, is at or below B less `hyst` (R45, R46, R49). -/
def Ctl.projOk (c : Ctl) (hyst : Nat) : Bool :=
  let l := c.leanDecided
  c.project (c.total true l) + c.deficit true l + 16 * hyst ≤ 16 * c.budget

/-- Whether a class-A request of declared charge `add` fits B as decided (R39); it may use the floor. The charge is counted at the
scale that the shedding decided so far leaves. -/
def Ctl.admitOk (c : Ctl) (add : Nat) : Bool :=
  c.total true c.leanDecided + c.scaled c.leanDecided add ≤ 16 * c.budget

/-- The enable field of the block with LEDG_COST index 23 to 49, put at `on`. -/
def Ctl.blockSet (c : Ctl) (i : Nat) (on : Bool) : Ctl :=
  let v := b2n on
  if i < 27 then c.set R.NET_CFG_EN v (i - 23)
  else if i < 31 then c.set R.FAB_CFG_GATE_EN (putBit (c.get R.FAB_CFG_GATE_EN) (i - 27) on)
  else if i = 31 then c.set R.HNG_CFG_H0_EN v
  else if i = 32 then c.set R.HNG_CFG_H1_EN v
  else if i < 41 then c.set R.AMP_CTRL_EN (putBit (c.get R.AMP_CTRL_EN) (i - 33) on)
  else if i = 42 then c.set R.AUD_CTRL_AES_EN v
  else if i = 43 then c.set R.AUD_CTRL_MADI_EN v
  else if i = 48 then c.set R.AUD_CTRL_ANA_EN v
  else if i = 49 then c.set R.MON_CTRL_EN v
  else if 44 ≤ i && i < 48 then c.set R.AUD_CTRL_TDM_EN (putBit (c.get R.AUD_CTRL_TDM_EN) (i - 44) on)
  else c

/-- Sheds one object: it shows SHED and ramps out across the next whole tick (R47). -/
def Ctl.shedObj (c : Ctl) (step o : Nat) : Ctl :=
  let c := ((c.set R.OBJ_STATE 5 o).shedAdd (.obj step o)).jot 3 o step
  { c with ledg := { c.ledg with shedRamp := cset c.ledg.shedRamp o 2 },
           tab := { c.tab with objPh := cset c.tab.objPh o 0, fadeReq := cset c.tab.fadeReq o 0 } }

/-- The objects of class `k` that can be shed, lowest priority first, highest index first among equals (R46). -/
def Ctl.shedOrder (c : Ctl) (k : Nat) : List Nat :=
  sortBy (fun a b => c.get R.OBJ_PRIO a < c.get R.OBJ_PRIO b || (c.get R.OBJ_PRIO a == c.get R.OBJ_PRIO b && b ≤ a))
    (c.liveObjs.filter (fun o => c.get R.OBJ_CLASS o == k && 1 ≤ c.get R.OBJ_STATE o && c.get R.OBJ_STATE o ≤ 3))

/-- Sheds objects in order until `ok`, or all of them. -/
def Ctl.shedObjs (c : Ctl) (step : Nat) (l : List Nat) (ok : Ctl → Bool) : Ctl :=
  l.foldl (fun c o => if ok c then c else c.shedObj step o) c

/-- Lowers the class-D allowance LU by LU toward D_MIN until `ok` (step 1). -/
def lowerAllow (ok : Ctl → Bool) : Nat → Ctl → Ctl
  | 0, c => c
  | n + 1, c =>
    let a := c.get R.LEDG_JOB_ALLOW_ALLOW 3
    if ok c || a ≤ c.get R.LEDG_FLOOR_D_MIN then c else lowerAllow ok n (c.set R.LEDG_JOB_ALLOW_ALLOW (a - 1) 3)

/-- The leading run of ranked class-A objects whose costs fit FLOOR; the rest lie beyond the floor (R46). -/
def beyondFloor (cost : Nat → Nat) : Nat → List Nat → List Nat
  | _, [] => []
  | room, o :: l => if cost o ≤ room then beyondFloor cost (room - cost o) l else o :: l

/-- The class-A objects beyond the floor, in shedding order (R46 step 5), each charged at the scale in force at the decision. -/
def Ctl.beyondFloorA (c : Ctl) : List Nat :=
  let ranked := (c.shedOrder 0).reverse
  (beyondFloor (fun o => c.scaled c.lean (c.get R.OBJ_COST o)) (16 * c.get R.LEDG_FLOOR_FLOOR) ranked).reverse

/-- Decides lean mode at `step`; an exit that was decided is off (R46, R51). -/
def Ctl.shedLean (c : Ctl) (step : Nat) : Ctl :=
  if c.leanDecided then c
  else { c with win := { c.win with leanWanted := true }, ledg := { c.ledg with leanWait := 0 } }.shedAdd (.lean step)

/-- Carries out one step of R46 until `ok`. With LEAN_ON_BATT lean mode belongs to step 0 and not to step 4 (R51). What step 0 and
step 1 change enters the journal beside the objects shed (R42, log entry 139). -/
def Ctl.shedOne (c : Ctl) (ok : Ctl → Bool) (step : Nat) : Ctl :=
  match step with
  | 0 =>
    if c.ledg.mainsOk then c
    else
      let marked := (List.range 27).filter (fun b => bit (c.get R.LEDG_BATT_OFF_MASK) b && c.entryCost c.lean (23 + b) != 0)
      let c := marked.reverse.foldl (fun c b =>
        if ok c then c else ((c.blockSet (23 + b) false).shedAdd (.block (23 + b))).jot 3 (23 + b) 0) c
      if ok c || !c.is R.LEDG_CTRL_LEAN_ON_BATT then c else c.shedLean 0
  | 1 =>
    let a := c.get R.LEDG_JOB_ALLOW_ALLOW 3
    let c' := lowerAllow ok a c
    if c'.get R.LEDG_JOB_ALLOW_ALLOW 3 == a then c
    else
      let c' := c'.jot 3 (c'.get R.LEDG_JOB_ALLOW_ALLOW 3) 1
      if c.ledg.shed.any (fun x => match x with | .allow _ => true | _ => false) then c' else c'.shedAdd (.allow a)
  | 2 => c.shedObjs 2 (c.shedOrder 2) ok
  | 3 => c.shedObjs 3 (c.shedOrder 1) ok
  | 4 => if ok c || c.is R.LEDG_CTRL_LEAN_ON_BATT then c else c.shedLean 4
  | _ => c.shedObjs 5 c.beyondFloorA ok

/-- Sheds for the projection: the steps listed, under the stop rule. -/
def Ctl.shedProj (c : Ctl) (ok : Ctl → Bool) (steps : List Nat) : Ctl :=
  steps.foldl (fun c s => if ok c then c else c.shedOne ok s) c

/-- Sheds one further whole step for a measured trigger: the first step listed that has something left to shed; one that has
nothing left counts as taken (R45). -/
def Ctl.shedNext (c : Ctl) : List Nat → Ctl
  | [] => c
  | s :: l =>
    let c' := c.shedOne (fun _ => false) s
    if c'.ledg.shed.length != c.ledg.shed.length then c' else (c.shedAdd (.empty s)).shedNext l

/-- One further step: the whole of the next step of R46 that is not yet in force (R45). A step in force in part is in force. -/
def Ctl.shedFurther (c : Ctl) : Ctl :=
  c.shedNext ([0, 1, 2, 3, 4, 5].filter (fun s => !c.ledg.shed.any (·.step == s)))

/-- Shows the step in force and reports its change (R49). -/
def Ctl.showStep (c : Ctl) : Ctl :=
  let s := shedStep c.ledg.shed
  let c := c.set R.LEDG_STATUS_STEP s
  if s == c.ledg.stepShown then c
  else { c with ledg := { c.ledg with stepShown := s } }.raise Ev.LEDG_STEP 0 s

/-- The condition of R48: F + D_MIN + min(E[A], FLOOR) exceeds B. -/
def Ctl.floorUnmet (c : Ctl) : Bool :=
  let l := c.leanDecided
  16 * c.budget < c.project (c.fixedF l + 16 * c.get R.LEDG_FLOOR_D_MIN +
    min (c.envelope true l 0) (16 * c.get R.LEDG_FLOOR_FLOOR))

/-- The zones of R48: those with an active or refused class-A object, and those of active alarm plans. -/
def Ctl.floorZones (c : Ctl) : List Nat :=
  let objs := c.liveObjs.filter (fun o =>
    c.get R.OBJ_CLASS o == 0 && (let s := c.get R.OBJ_STATE o; (1 ≤ s && s ≤ 4) || s == 6))
  (List.range 128).filter (fun z => c.is R.ZONE_ALARM z || objs.any (fun o => c.objSelects o z))

/-- The floor cannot be met (R48): FLOOR_FAIL, its event when newly set, and the zones to the storm door. -/
def Ctl.floorFail (c : Ctl) : Ctl :=
  let new := !c.is R.LEDG_STATUS_FLOOR_FAIL
  let c := c.set R.LEDG_STATUS_FLOOR_FAIL 1
  let c := c.when new (·.raise Ev.LEDG_FLOOR_FAIL)
  (c.takeZones 4 c.floorZones).faults

/-- A class-A activation or allowance raise of declared charge `add` (R39): admitted after the shedding of steps 1 to 4 that it
would cause, and with `displace` by step 5 on objects beyond the floor with a lower priority. The second component says
whether it is admitted; a refusal sheds nothing. -/
def Ctl.admitA (c : Ctl) (add prio : Nat) (displace : Bool) : Ctl × Bool :=
  let ok := fun (c : Ctl) => c.admitOk add
  let c1 := c.shedProj ok [1, 2, 3, 4]
  if ok c1 then (c1.showStep, true)
  else if displace then
    let c2 := c1.shedObjs 5 (c1.beyondFloorA.filter (fun o => c1.get R.OBJ_PRIO o < prio)) ok
    if ok c2 then (c2.showStep, true) else (c, false)
  else (c, false)

/-! ## Restoring (R49) -/

/-- Whether every ramp has ended and lean mode is as decided: in force if shed, left if restored (R49, R50). -/
def Ctl.shedDone (c : Ctl) : Bool := c.ledg.shedRamp.isEmpty && c.win.leanWanted == c.lean

/-- The ramps of shed objects at a boundary: a ramp that ends releases its reservation (R47). -/
def Ctl.shedRamps (c : Ctl) : Ctl :=
  if c.tab.tickDue then { c with ledg := { c.ledg with
    shedRamp := c.ledg.shedRamp.filterMap (fun e => if e.2 ≤ 1 then none else some (e.1, e.2 - 1)) } }
  else c

/-- Lean mode is entered at the boundary at which the last ramp ends (R25, R47); the bus-matrix slices follow it (R375). -/
def Ctl.leanEnter (c : Ctl) : Ctl :=
  if c.win.leanWanted && !c.lean && c.ledg.shedRamp.isEmpty then
    ((c.set R.WIN_STATUS_LEAN 1).set R.MTX_STATUS_SLICES 1).raise Ev.WIN_LEAN 0 1
  else c

/-- Lean mode is left at the first boundary 200 µs or more after the decision, when the core voltage has settled (R25, R50). -/
def Ctl.leanLeave (c : Ctl) : Ctl :=
  let c := { c with ledg := { c.ledg with leanWait := c.ledg.leanWait - 1 } }
  if !c.win.leanWanted && c.lean && c.ledg.leanWait = 0 then
    ((c.set R.WIN_STATUS_LEAN 0).set R.MTX_STATUS_SLICES 0).raise Ev.WIN_LEAN 0 0
  else c

/-- Whether mains has held for RESTORE_HOLD windows. -/
def Ctl.mainsHeld (c : Ctl) : Bool := c.ledg.mainsOk && c.get R.LEDG_TIMING_RESTORE_HOLD ≤ c.ledg.mainsRun

/-- Raises the class-D allowance LU by LU toward its restore value while it fits. -/
def raiseAllow (ok : Ctl → Bool) (goal : Nat) : Nat → Ctl → Ctl
  | 0, c => c
  | n + 1, c =>
    let a := c.get R.LEDG_JOB_ALLOW_ALLOW 3
    let c' := c.set R.LEDG_JOB_ALLOW_ALLOW (a + 1) 3
    if goal ≤ a || !ok c' then c else raiseAllow ok goal n c'

/-- A shed object is PENDING again (R49). -/
def Ctl.backObj (c : Ctl) (o : Nat) : Ctl :=
  let c := c.set R.OBJ_STATE 1 o
  { c with tab := { c.tab with objPh := cset c.tab.objPh o (if c.tab.tickDue then 2 else 1) } }

/-- Tries to restore one item; the item is returned when it stays shed. -/
def Ctl.restoreOne (c : Ctl) (x : ShedItem) : Ctl × Option ShedItem :=
  let ok := fun (c : Ctl) => c.projOk (c.get R.LEDG_CTRL_HYST)
  match x with
  | .empty _ => (c, none)
  | .obj s o =>
    if c.get R.OBJ_STATE o != 5 then (c, none)
    else
      let c' := c.backObj o
      if ok c' then (c'.jot 4 o s, none) else (c, some (.obj s o))
  | .allow goal =>
    let c' := raiseAllow ok goal goal c
    let now := c'.get R.LEDG_JOB_ALLOW_ALLOW 3
    let c' := if now == c.get R.LEDG_JOB_ALLOW_ALLOW 3 then c' else c'.jot 4 now 1
    if goal ≤ c'.get R.LEDG_JOB_ALLOW_ALLOW 3 then (c', none) else (c', some (.allow goal))
  | .lean s =>
    let c' := { c with win := { c.win with leanWanted := false }
                       ledg := { c.ledg with leanWait := if c.winS = 8 then 2 else 1 } }
    if c.mainsHeld && ok c' then (c', none) else (c, some (.lean s))
  | .block i =>
    let c' := c.blockSet i true
    if c.mainsHeld && ok c' then (c'.jot 4 i 0, none) else (c, some (.block i))

/-- Restores in the reverse order of shedding, passing over what is held or does not fit; what was shed before lean mode waits
for its exit (R49). -/
def Ctl.restoreAll (c : Ctl) : Ctl :=
  let p := c.ledg.shed.reverse.foldl (fun (p : Ctl × List ShedItem) x =>
    let q := if p.1.win.leanWanted == p.1.lean then p.1.restoreOne x else (p.1, some x)
    (q.1, match q.2 with | none => p.2 | some y => y :: p.2)) (c, [])
  { p.1 with ledg := { p.1.ledg with shed := p.2 } }

/-- The measurements of the window that ends (R43), and the calibration ratio (R44). DESIGN CHOICE where the rule is silent (log
entry 140): a window whose projection less unused allowance is 0 leaves the ratio as it is, and the ratio rounds down. -/
def Ctl.measure (c : Ctl) (mean peak battMv busMv : Nat) : Ctl :=
  let c := (((c.set R.LEDG_MEAS_MEAN_MA mean).set R.LEDG_MEAS_PEAK_MA peak).set R.LEDG_VOLT_BATT_MV battMv).set
    R.LEDG_VOLT_BUS_MV busMv
  let w := c.winNo
  let unused := (List.range 4).foldl (fun n k =>
    n + (c.scaled c.lean (16 * c.get R.LEDG_JOB_ALLOW_ALLOW k) - cget c.ledg.jobs (4 * w + k))) 0
  let proj := c.total false c.lean - unused
  if proj = 0 then c
  else
    let ratio := mean * 4 * 0x1000 / proj
    let full := c.ledg.calN = 1024
    let sum := if full then c.ledg.calSum - c.ledg.calSum / 1024 + ratio else c.ledg.calSum + ratio
    let n := if full then 1024 else c.ledg.calN + 1
    let was := c.get R.LEDG_CAL_RATIO
    let now := sum / n
    let out := fun (r : Nat) => c.get R.LEDG_CAL_TOL * 0x1000 < 100 * (max r 0x1000 - min r 0x1000)
    let c := { c with ledg := { c.ledg with calSum := sum, calN := n } }.set R.LEDG_CAL_RATIO now
    if out now && !out was then (c.set R.LEDG_STATUS_CAL_SEEN 1).raise Ev.LEDG_CAL 0 now else c

/-- The background charges of a window against class D (R417). -/
def Ctl.background (c : Ctl) (w : Nat) : Ctl :=
  let need := (c.get R.MON_CTRL_SCRUB_RATE + 31) / 32
  let scrub := if !c.is R.MON_CTRL_SCRUB_EN then 0
    else if c.get R.LEDG_JOB_ALLOW_ALLOW 3 < 1 + need then 1 else need
  { c with ledg := { c.ledg with
      jobs := cset (c.ledg.jobs.filter (fun e => w ≤ e.1 / 4)) (4 * w + 3) (cget c.ledg.jobs (4 * w + 3) + 16 * (1 + scrub)) } }

/-- The evaluation of a hinge standby, which sheds only as the records state (R252). -/
def Ctl.evaluateStandby (c : Ctl) : Ctl :=
  let mean := c.get R.LEDG_MEAS_MEAN_MA
  let run := if 4 * c.budget < mean then c.ledg.overRun + 1 else 0
  let c := { c with ledg := { c.ledg with overRun := run } }
  let over' := fun (c : Ctl) (v : Nat) => (c.set R.LEDG_STATUS_OVER_SEEN 1).raise Ev.LEDG_OVER 0 v
  let c := c.when (c.get R.LEDG_TIMING_OVER_HOLD ≤ run) (over' · mean)
  (c.when (5000 < c.get R.LEDG_MEAS_PEAK_MA) (over' · (c.get R.LEDG_MEAS_PEAK_MA))).leanEnter.ledgShow

/-- The evaluation at a window boundary (R45 to R49). A mean trigger and a peak trigger met at one boundary each shed one further
step: DESIGN CHOICE, the rule does not say whether they share one (log entry 140). -/
def Ctl.evaluateOwn (c : Ctl) : Ctl :=
  let mean := c.get R.LEDG_MEAS_MEAN_MA
  let ovr := 4 * c.budget < mean
  let run := if ovr then c.ledg.overRun + 1 else 0
  let latch := (c.ledg.overLatch && ovr) || c.get R.LEDG_TIMING_OVER_HOLD ≤ run
  let peak := 5000 < c.get R.LEDG_MEAS_PEAK_MA
  let first := !c.ledg.mainsOk && !c.ledg.battSeen
  let c := { c with ledg := { c.ledg with
    overRun := run, overLatch := latch, battSeen := !c.ledg.mainsOk,
    mainsRun := if c.ledg.mainsOk then c.ledg.mainsRun + 1 else 0 } }
  let n := c.ledg.shed.length
  let a := c.get R.LEDG_JOB_ALLOW_ALLOW 3
  let c := c.when first (·.shedOne (fun _ => false) 0)
  let ok := fun (c : Ctl) => c.projOk 0
  let c := if ok c then c else c.shedProj ok [0, 1, 2, 3, 4, 5]
  let c := c.when latch (fun c =>
    (c.shedFurther.set R.LEDG_STATUS_OVER_SEEN 1).raise Ev.LEDG_OVER 0 mean)
  let c := c.when peak (fun c =>
    (c.shedFurther.set R.LEDG_STATUS_OVER_SEEN 1).raise Ev.LEDG_OVER 0 (c.get R.LEDG_MEAS_PEAK_MA))
  let shedNow := c.ledg.shed.length != n || c.get R.LEDG_JOB_ALLOW_ALLOW 3 < a || latch || peak
  let c := c.leanEnter
  let c := if c.shedDone && !shedNow then c.restoreAll else c
  let c := c.showStep
  let c := if c.floorUnmet then c.floorFail
    else if c.liveObjs.any (fun o => c.get R.OBJ_CLASS o == 0 && c.get R.OBJ_STATE o == 6) then c
    else (c.set R.LEDG_STATUS_FLOOR_FAIL 0).faults
  c.ledgShow

/-- The ledger at a window boundary: the ramps that end and a lean mode that is left, then the evaluation. -/
def Ctl.evaluate (c : Ctl) : Ctl :=
  let c := c.shedRamps.leanLeave
  if c.get R.HNG_STATUS_ROLE = 3 then c.evaluateStandby else c.evaluateOwn

/-- A posted work order's charge (R40): J[k][w] takes its cost, or the order is refused with LEDGER. -/
def Ctl.chargeOrder (c : Ctl) (k w cost : Nat) : Ctl × Bool :=
  let cost := c.scaled c.lean cost
  let j := cget c.ledg.jobs (4 * w + k) + cost
  let ovr := c.envelope false c.lean k < j
  if ovr && k != 0 then (c.ledgRefuse k 0, false)
  else
    let c := { c with ledg := { c.ledg with jobs := cset c.ledg.jobs (4 * w + k) j } }
    (c.when ovr (·.set R.LEDG_STATUS_OVER_A_SEEN 1), true)

/-! ## Register writes and supply events -/

/-- The LEDG block's state refusal (R53). -/
def Ctl.ledgState (c : Ctl) : Ctl := c.refuse R.LEDG_STATUS_ERR_STATE Ev.LEDG_STATE

/-- SUPPLY as the inputs are (R33): 1 MAINS, 2 BATT, 3 BOTH. -/
def Ctl.showSupply (c : Ctl) : Ctl :=
  let b := c.ledg.battPresent
  c.set R.LEDG_STATUS_SUPPLY (if c.ledg.mainsOk then (if b then 3 else 1) else (if b then 2 else 0))

/-- MAINS_OK changes (R33); it cannot rise while the PSU has stopped (R470). -/
def mainsChange (ok : Bool) (c : Ctl) : Ctl :=
  if ok == c.ledg.mainsOk || (ok && c.boot.psuHot) then c
  else
    let c := { c with ledg := { c.ledg with mainsOk := ok, mainsRun := 0, battSeen := false } }
    ((c.showSupply.set R.LEDG_STATUS_SUPPLY_SEEN 1).set R.LEDG_COMMIT_BUDGET c.budget).raise Ev.LEDG_SUPPLY 0
      (b2n ok)

/-- The battery becomes present or absent (R33). -/
def battPresence (present : Bool) (c : Ctl) : Ctl :=
  if present == c.ledg.battPresent then c
  else ({ c with ledg := { c.ledg with battPresent := present } }.showSupply).raise Ev.LEDG_SUPPLY 1 (b2n present)

/-- The battery has been below UV + 1.0 V on no mains for 1 s (R34). -/
def battLowSet (c : Ctl) : Ctl :=
  if c.ledg.mainsOk || c.is R.LEDG_STATUS_BATT_LOW then c
  else (c.set R.LEDG_STATUS_BATT_LOW 1).faults.raise Ev.LEDG_BATT_LOW 0 1

/-- The battery has been below UV for 50 ms: its path opens (R34); `Mach.powerCheck` says what follows without mains. -/
def battCutoff (c : Ctl) : Ctl := { c with ledg := { c.ledg with battOpen := true } }

/-- The battery has been at or above UV + 1.0 V for 1 s after a cut-off: its path closes (R34). -/
def battClose (c : Ctl) : Ctl := { c with ledg := { c.ledg with battOpen := false } }

/-- The battery has been at or above UV + 1.5 V for 10 s: BATT_LOW clears (R34). -/
def battLowClear (c : Ctl) : Ctl :=
  if c.is R.LEDG_STATUS_BATT_LOW then (c.set R.LEDG_STATUS_BATT_LOW 0).faults.raise Ev.LEDG_BATT_LOW 0 0 else c

/-- A write of LEDG_JOB_ALLOW[k] (R38, R39, R49). -/
def jobAllowWrite (k d : Nat) (c : Ctl) : Ctl :=
  let v := R.LEDG_JOB_ALLOW_ALLOW.of d
  let now := c.get R.LEDG_JOB_ALLOW_ALLOW k
  let held := k = 3 && c.ledg.shed.any (fun x => match x with | .allow _ => true | _ => false)
  if held then
    let shed := if v ≤ now then c.ledg.shed.filter (fun x => match x with | .allow _ => false | _ => true)
      else c.ledg.shed.map (fun x => match x with | .allow _ => .allow v | y => y)
    let c := { c with ledg := { c.ledg with shed := shed } }
    ((if v ≤ now then c.set R.LEDG_JOB_ALLOW_ALLOW v 3 else c).showStep).ledgShow
  else if v ≤ now then (c.set R.LEDG_JOB_ALLOW_ALLOW v k).ledgShow
  else
    let add := c.scaled c.lean (16 * (v - now))
    let capOk := c.envelope false c.lean k + add ≤ 16 * c.get R.LEDG_CLASS_CAP_CAP k
    if k = 0 then
      let p := c.admitA (16 * (v - now)) 0 false
      if capOk && p.2 then (p.1.set R.LEDG_JOB_ALLOW_ALLOW v 0).ledgShow else c.ledgRefuse 0 0
    else if capOk && c.fits add false then (c.set R.LEDG_JOB_ALLOW_ALLOW v k).ledgShow
    else c.ledgRefuse k 0

/-- A write of LEDG_FLOOR, LEDG_SUPPLY_LIM, LEDG_BATT_UV or LEDG_BATT_OFF: the range and the armed-state rules (R53).
`w` is 0 to 3 in that order; the second component is the status code. -/
def ledgLimit (w d : Nat) (c : Ctl) : Ctl × Nat :=
  let fields := R.fieldsLEDG.filter (fun r => r.addr == 0x20100 + 4 * w)
  let f := c.fixedF c.lean
  let bad := c.armed && match w with
    | 0 => let v := R.LEDG_FLOOR_FLOOR.of d
      v != c.get R.LEDG_FLOOR_FLOOR && 16 * c.get R.LEDG_SUPPLY_LIM_BATT < f + 16 * v
    | 1 =>
      let m := R.LEDG_SUPPLY_LIM_MAINS.of d
      let b := R.LEDG_SUPPLY_LIM_BATT.of d
      let low := fun (x : Nat) => 16 * x < f + 16 * c.get R.LEDG_FLOOR_FLOOR
      (m != c.get R.LEDG_SUPPLY_LIM_MAINS && low m) || (b != c.get R.LEDG_SUPPLY_LIM_BATT && low b)
    | _ => false
  if !inRange fields d then (c, 2)
  else if bad then (c.ledgState, 1)
  else ((c.store fields 0 d).ledgShow, 0)

/-- A write of a ledger floor register, SECURE (R8, R52, R53). -/
def ledgLimitWrite (m : Master) (w d : Nat) (c : Ctl) : Ctl :=
  c.ifSecure m (0x20100 + 4 * w) (fun c => (ledgLimit w d c).1)

/-- A write of LEDG_COST[i] (R53): the keeper's only. -/
def ledgCostWrite (m : Master) (i d : Nat) (c : Ctl) : Ctl :=
  if m == .keeper then ((c.set R.LEDG_COST_FULL (R.LEDG_COST_FULL.of d) i).set R.LEDG_COST_ALT (R.LEDG_COST_ALT.of d) i).ledgShow
  else if R.LEDG_COST_FULL.of d = c.get R.LEDG_COST_FULL i && R.LEDG_COST_ALT.of d = c.get R.LEDG_COST_ALT i then c
  else c.ledgState

end Sys2Proof.Machine
end

