-- ==== Sys2Proof/Machine/Freeze.lean ====
section
/-! DEFINITION. The addressing and the freeze of the DRAM controller (R353, R365 to R367), which every engine that reads or writes
DRAM can meet. -/
namespace Sys2Proof.Machine

/-! ## Addressing (R353) -/

/-- The channel of a usable offset. -/
def dramChan (u : Nat) : Nat := u / 960 % 2

/-- The channel segment of a usable offset. -/
def dramSeg (u : Nat) : Nat := u / 960 / 2

/-- The row of a usable offset. -/
def dramRow (u : Nat) : Nat := dramSeg u / 64

/-- The bank of a usable offset. -/
def dramBank (u : Nat) : Nat := dramSeg u % 16 ^^^ dramRow u % 16

/-- The byte within the row. -/
def dramByte (u : Nat) : Nat := dramSeg u / 16 % 4 * 1024 + u % 960

/-! ## The hinge partner -/

/-- The members of the group (R241). -/
def Ctl.hngMembers (c : Ctl) : Nat := c.get R.HNG_CFG_MODE + 1

/-- The other ranks of the group. -/
def Ctl.hngRanks (c : Ctl) : List Nat := (List.range c.hngMembers).filter (· != c.get R.HNG_CFG_RANK)

/-- The role. -/
def Ctl.role (c : Ctl) : Nat := c.get R.HNG_STATUS_ROLE

/-- A partner that is SYNCED (R260): its rank, the lowest first. -/
def Ctl.syncedPartner (c : Ctl) : Option Nat :=
  c.hngRanks.find? (fun r => c.get R.HNG_PEER_ROLE r == 3 && c.get R.HNG_PEER_SYNC r == 3 && bit (c.get R.HNG_STATUS_HEARD) r)

/-! ## The freeze (R365 to R367, R446) -/

/-- Whether a freeze at this instant is the second within 600 s of a THAW, which the keeper does not thaw (R446). -/
def Ctl.freezeAgain (c : Ctl) : Bool := match c.dram.lastThaw with | some t => c.time < t + 600 * 10 ^ 9 | none => false

/-- The freeze (R365, R366): the chunk at usable offset `32 * k` is captured, and every accepted request gets its error. An
active with a SYNCED partner hands service over at the first boundary at least 2 windows later (R368). -/
def Ctl.dramFreeze (c : Ctl) (r : DramReq) (k : Nat) (second : Bool) : Ctl :=
  let u := 32 * k
  let p := c.free 16
  let c := p.2
  let c := { c with dram := { c.dram with frozeAt := some c.win.ext, frozeTime := c.time, bad := k :: c.dram.bad.filter (· != k) } }
  let c := ((c.set R.DRAM_FAULT_ADDR_LO u).set R.DRAM_FAULT_ADDR_HI (u / 2 ^ 32)).set R.DRAM_FAULT_WIN c.winNo
  let c := ((c.set R.DRAM_FAULT_INFO_SYNDROME (if p.1 = 0 then 1 else p.1)).set R.DRAM_FAULT_INFO_REQ r.req).set
    R.DRAM_FAULT_INFO_MASTER (if r.req = 4 then r.master else 0)
  let c := ((c.set R.DRAM_FAULT_INFO_CLASS r.cls).set R.DRAM_FAULT_INFO_RMW (b2n r.isWrite)).set
    R.DRAM_FAULT_INFO_CHANNEL (dramChan u)
  let c := (c.set R.DRAM_FAULT_INFO_BANK (dramBank u)).set R.DRAM_STATUS_MODE 3
  let c := (c.set R.DRAM_STATUS_UE_SEEN 1).inc R.DRAM_UE 0 (1 + b2n second)
  let c := c.when second (·.set R.DRAM_STATUS_MULTI_SEEN 1)
  let c := c.when (c.freezeAgain && !c.keep.down) (·.set R.SYS_ARM_FREEZE_HOLD 1)
  let c := c.each (c.dram.q0 ++ c.dram.q1) (fun c _ => c.emit (.busResult 16))
  let c := if c.role = 2 && c.syncedPartner.isSome then
      { c with hng := { c.hng with standAt := some (winAdd c.winNo 3) } }
    else c
  (c.raise Ev.DRAM_FREEZE).ledgShow

/-- The captured chunk. -/
def Ctl.faultChunk (c : Ctl) : Nat := (c.get R.DRAM_FAULT_ADDR_LO + 2 ^ 32 * c.get R.DRAM_FAULT_ADDR_HI) / 32

/-- A request that meets self-refresh starts its exit and is served when that has passed (R364); the wait of 0.39 to 0.42 µs is
free. -/
def Ctl.dramWake (c : Ctl) : Ctl :=
  if c.get R.DRAM_STATUS_MODE != 2 then c
  else
    let p := c.free 2
    let c := (p.2.inc R.DRAM_SR_STAT_WAKES).inc R.DRAM_SR_WAIT 0 (39 + p.1)
    ((c.set R.DRAM_STATUS_MODE 1).raise Ev.DRAM_SR).ledgShow

/-- An access by a requester to `n` octets of DRAM from `a` on, within another command: a read, or a write that covers a chunk
in part, freezes the controller on a chunk that is known to be uncorrectable (R354, R365, R367); a write that covers chunks makes
them good. The second component says whether it was served. -/
def Ctl.dramTouch (c : Ctl) (req master cls : Nat) (isWrite : Bool) (a n : Nat) : Ctl × Bool :=
  let c := c.dramWake
  let met := c.dram.bad.filter (fun k => a < 32 * k + 32 && 32 * k < a + n)
  let whole := fun (k : Nat) => isWrite && a ≤ 32 * k && 32 * k + 32 ≤ a + n
  if met.isEmpty then (c, true)
  else match (met.filter (fun k => !whole k)).min? with
  | some k =>
    (c.dramFreeze { num := 0, req := req, master := master, cls := cls, addr := a, len := n, isWrite := isWrite, write := [] } k false,
      false)
  | none => ({ c with dram := { c.dram with bad := c.dram.bad.filter (fun k => !met.contains k) } }, true)

/-- Whether DRAM answers no request: it is not initialised yet, or frozen. -/
def Ctl.dramDown (c : Ctl) : Bool := c.get R.DRAM_STATUS_MODE == 0 || c.get R.DRAM_STATUS_MODE == 3

end Sys2Proof.Machine
end

