-- ==== Sys2Proof/Machine/Objects.lean ====
section
/-! DEFINITION. The OBJ, FEED, ZONE and PLAN tables (spec/03): entry writes, activation, the object lifecycle, the tick
snapshot and the mirror of global objects. Source entries are in Sources.lean, scenes in Scenes.lean. -/
namespace Sys2Proof.Machine

/-- A table write refused with STATE (R56, R70, R73). -/
def Ctl.tableState (c : Ctl) (last err : Reg) (i : Nat) : Ctl :=
  ((c.set last 1 i).set err 1 i).raise Ev.KEEP_TABLE 0 i

/-- Whether a scene switch is pending. -/
def Ctl.switching (c : Ctl) : Bool := c.tab.switchMin.isSome

/-- The lowest free dense slot (R77). -/
def Ctl.freeSlot (c : Ctl) : Nat := ((List.range 256).find? (fun s => (kget? c.src.near s).isNone)).getD 0

/-- An EXIT_PULL object holds its dense slot from admission until it is IDLE again (R77, R97). -/
def Ctl.denseSlot (c : Ctl) (o st : Nat) : Ctl :=
  let own := fun (e : Nat × Near) => e.2.obj == o && e.2.left == 0
  if c.get R.OBJ_LAW o != 1 then c
  else if st = 0 then { c with src := { c.src with near := c.src.near.filter (fun e => !own e) } }
  else if st = 1 && !c.src.near.any own then
    { c with src := { c.src with near := kput c.src.near c.freeSlot { obj := o, src := c.get R.OBJ_SRC o } } }
  else c

/-- The state of an object; SRC.BOUND of its source counts the objects that are not IDLE. -/
def Ctl.objState (c : Ctl) (o st : Nat) : Ctl :=
  let was := c.get R.OBJ_STATE o
  let src := c.get R.OBJ_SRC o
  let c := (c.set R.OBJ_STATE st o).denseSlot o st
  let c := c.when (was == 0 || st == 0) (fun c => { c with src := { c.src with spoiled := c.src.spoiled.filter (· != o) } })
  let c := if was == 0 && st != 0 then c.inc R.SRC_BOUND src
    else if was != 0 && st == 0 then c.set R.SRC_BOUND (c.get R.SRC_BOUND src - 1) src else c
  let mute := st != 0 && (!c.is R.SRC_EN src || 2 ≤ c.get R.SRC_LINK src)
  c.set R.OBJ_SRC_MUTE (b2n mute) o

/-- Brings SRC_MUTE of a source's objects up to date (R60). -/
def Ctl.showMute (c : Ctl) (src : Nat) : Ctl :=
  let mute := b2n (!c.is R.SRC_EN src || 2 ≤ c.get R.SRC_LINK src)
  c.each (c.liveObjs.filter (fun o => c.get R.OBJ_SRC o == src)) (fun c o => c.set R.OBJ_SRC_MUTE mute o)

/-- Sets the countdown of tick boundaries until a PENDING object fades in. -/
def Ctl.objWait (c : Ctl) (o n : Nat) : Ctl := { c with tab := { c.tab with objPh := cset c.tab.objPh o n } }

/-- Sets the countdown of tick boundaries until an object that was asked to stop fades out. -/
def Ctl.objFade (c : Ctl) (o n : Nat) : Ctl := { c with tab := { c.tab with fadeReq := cset c.tab.fadeReq o n } }

/-- How many EXIT_PULL objects are not IDLE, old ones of a switch included (R61, R74). -/
def Ctl.denseCount (c : Ctl) : Nat :=
  (c.liveObjs.filter (fun o => c.get R.OBJ_LAW o == 1)).length + (c.tab.oldObjs.filter (·.law == 1)).length

/-- Whether class `k` may take the charge of an object (R38): under the cap of its class and within the budget. -/
def Ctl.objFits (c : Ctl) (k cost : Nat) : Bool :=
  let add := c.scaled c.lean cost
  c.envelope false c.lean k + add ≤ 16 * c.get R.LEDG_CLASS_CAP_CAP k && c.fits add false

/-- Whether an object is a global one of which this node is the home: its changes enter the render one tick later (R67). -/
def Ctl.homed (c : Ctl) (o : Nat) : Bool := c.is R.OBJ_GLOBAL o && c.get R.OBJ_HOME o == c.node

/-- Whether an object is this node's copy of a global object whose home is another node. -/
def Ctl.isCopy (c : Ctl) (o : Nat) : Bool := c.is R.OBJ_GLOBAL o && c.get R.OBJ_HOME o != c.node

/-- Enters an admitted object into PENDING (R61, R63). The home of a global object waits for the snapshot that it sends; a copy
is admitted when that snapshot reaches it (R67, R68). -/
def Ctl.objAdmit (c : Ctl) (o : Nat) : Ctl :=
  ((((c.objState o 1).set R.OBJ_ACT_REQ 1 o).set R.OBJ_LAST 0 o).objWait o (if c.homed o then 3 else 2)).ledgShow

/-- The decision of R61: the checks in order, then admission. `remote` marks a node's own copy of a mirrored object
(R68), whose HOME check does not apply. The second component is the status code. -/
def Ctl.objDecide (c : Ctl) (o : Nat) (remote : Bool := false) : Ctl × Nat :=
  let k := c.get R.OBJ_CLASS o
  let cost := c.get R.OBJ_COST o
  let c := if c.get R.OBJ_STATE o = 7 then c.objState o 0 else c
  if k < c.get R.SRC_CLASS (c.get R.OBJ_SRC o) || (c.get R.OBJ_LAW o == 1 && 256 ≤ c.denseCount) ||
      (!remote && c.isCopy o) then
    ((c.set R.OBJ_ACT_REQ 0 o).tableState R.OBJ_LAST R.OBJ_ERR_STATE o, 1)
  else if k = 0 then
    let p := c.admitA cost (c.get R.OBJ_PRIO o) true
    if p.2 then ((p.1.objAdmit o).jot 1 o 0, 0)
    else
      let c := ((c.set R.OBJ_ACT_REQ 0 o).objState o 6).set R.OBJ_LAST 5 o
      (((c.ledgRefuse 0 o).floorFail).jot 2 o 5, 5)
  else if c.objFits k cost then ((c.objAdmit o).jot 1 o 0, 0)
  else ((((c.set R.OBJ_ACT_REQ 0 o).set R.OBJ_LAST 5 o).ledgRefuse k o).jot 2 o 5, 5)

/-- A write of ACT_REQ = 1 (R61 to R63). One that follows ACT_REQ = 0 before FADING_OUT has begun cancels that fade (DESIGN
CHOICE, log entry 138). -/
def Ctl.objActivate (c : Ctl) (o : Nat) : Ctl :=
  let c := if c.get R.OBJ_STATE o = 6 then c.objState o 0 else c
  let st := c.get R.OBJ_STATE o
  if st = 0 then
    if c.is R.OBJ_ACT_AT o then ((c.set R.OBJ_ACT_REQ 1 o).objState o 7).set R.OBJ_LAST 0 o
    else (c.objDecide o).1
  else if st = 4 then
    let c := { c with tab := { c.tab with reAct := o :: c.tab.reAct.filter (· != o) } }
    (c.set R.OBJ_ACT_REQ 1 o).set R.OBJ_LAST 0 o
  else ((c.set R.OBJ_ACT_REQ 1 o).objFade o 0).set R.OBJ_LAST 0 o

/-- A write of ACT_REQ = 0 (R62, R63). A SHED object is IDLE at once, but a ramp under way goes on to its end and holds the
reservation until then (R47). -/
def Ctl.objDeactivate (c : Ctl) (o : Nat) : Ctl :=
  let st := c.get R.OBJ_STATE o
  let was := c.is R.OBJ_ACT_REQ o
  let c := (c.set R.OBJ_ACT_REQ 0 o).set R.OBJ_LAST 0 o
  if st = 1 || st = 5 || st = 6 || st = 7 then
    let c := (c.objState o 0).objWait o 0
    let drop := fun (x : ShedItem) => match x with | .obj _ i => i != o | _ => true
    ({ c with ledg := { c.ledg with shed := c.ledg.shed.filter drop } }.showStep).ledgShow
  else if (st = 2 || st = 3) && was then c.objFade o (if c.homed o then 3 else 2)
  else if st = 4 then { c with tab := { c.tab with reAct := c.tab.reAct.filter (· != o) } }
  else c

/-- The OBJ fields that are locked except in IDLE or REFUSED. -/
def objLocked : List Reg :=
  [R.OBJ_CLASS, R.OBJ_GLOBAL, R.OBJ_GID, R.OBJ_SRC, R.OBJ_LAW, R.OBJ_COST, R.OBJ_TAP_MAX, R.OBJ_HOME]

/-- The mirrored fields of a global object (R67). -/
def objMirrored : List Reg :=
  [R.OBJ_ACT_REQ, R.OBJ_ACT_AT, R.OBJ_ACT_WIN, R.OBJ_HOLD, R.OBJ_PRIO, R.OBJ_GAIN, R.OBJ_POS_X, R.OBJ_POS_Y,
   R.OBJ_POS_Z, R.OBJ_SPREAD]

/-- The live fields of an OBJ entry (R58). -/
def objLive : List Reg :=
  [R.OBJ_GAIN, R.OBJ_POS_X, R.OBJ_POS_Y, R.OBJ_POS_Z, R.OBJ_SPREAD, R.OBJ_ZMASK, R.OBJ_PRIO]

/-- The live fields of a ZONE entry (R58). -/
def zoneLive : List Reg :=
  [R.ZONE_GAIN_A, R.ZONE_GAIN_B, R.ZONE_GAIN_C, R.ZONE_GAIN_D, R.ZONE_STI_TARGET, R.ZONE_LIFT_MAX, R.ZONE_ANC_MAX,
   R.ZONE_FALLBACK, R.ZONE_EXIT_X, R.ZONE_EXIT_Y, R.ZONE_EXIT_Z, R.ZONE_REF0, R.ZONE_REF0_EN, R.ZONE_REF1, R.ZONE_REF1_EN]

/-- The fields locked outside a stopped module with no scene (FEED.EN and as for it). -/
def sceneLocked : List Reg :=
  [R.FEED_EN, R.FEED_POS_X, R.FEED_POS_Y, R.FEED_POS_Z, R.FEED_AIM_X, R.FEED_AIM_Y, R.FEED_AIM_Z, R.FEED_ALIGN,
   R.FEED_ZONE, R.FEED_NOZONE, R.ZONE_EN, R.ZONE_GZID, R.ZONE_GRID_FIRST, R.ZONE_GRID_COUNT]

/-- Whether a field is one of a list. -/
def Reg.isIn (r : Reg) (l : List Reg) : Bool := l.any (fun x => x.id == r.id)

/-- The fields in word `w` of an OBJ entry. -/
def objWord (w : Nat) : List Reg := wordFields R.fieldsOBJ (0x200000 + 4 * w)

/-- Whether no field of a word takes a write: such a write is ignored (R56). -/
def roWord (fields : List Reg) : Bool := fields.all (fun r => r.acc == .ro)

/-- A write to word `w` of OBJ[o] (R2, R56, R61, R73). -/
def Ctl.objWrite (c : Ctl) (o w d : Nat) : Ctl :=
  if roWord (objWord w) && !(8 ≤ w && w ≤ 11) then c
  else if c.objCount ≤ o then c.set R.OBJ_LAST 2 o
  else if c.switching then c.tableState R.OBJ_LAST R.OBJ_ERR_STATE o
  else if w = 1 then (c.store (objWord 1) o d).set R.OBJ_LAST 0 o
  else if 8 ≤ w && w ≤ 11 then (c.set R.OBJ_ZMASK d (4 * o + (w - 8))).set R.OBJ_LAST 0 o
  else
    let fields := objWord w
    let st := c.shownState o
    if !inRange fields d then c.set R.OBJ_LAST 2 o
    else if (c.changes (fields.filter (·.isIn objLocked)) o d && st != 0 && st != 6) ||
        (c.isCopy o && c.changes (fields.filter (·.isIn objMirrored)) o d) then c.tableState R.OBJ_LAST R.OBJ_ERR_STATE o
    else
      let c := (c.store (fields.filter (fun r => r.id != R.OBJ_ACT_REQ.id)) o d).set R.OBJ_LAST 0 o
      if w != 0 then c
      else
        let v := R.OBJ_ACT_REQ.of d
        if v == c.get R.OBJ_ACT_REQ o && st != 6 then c
        else if v = 1 then c.objActivate o else c.objDeactivate o

/-- A write to an OBJ entry (R56). -/
def objEntryWrite (m : Master) (o w d : Nat) (c : Ctl) : Ctl :=
  c.hngGate m (0x200000 + 64 * o + 4 * w) d (if w = 1 then none else some (R.OBJ_LAST, o)) (·.objWrite o w d)

/-- A write of ACT_REQ in an OBJ entry, the word's other fields as they stand (R61, R63). -/
def objActReq (m : Master) (o : Nat) (on : Bool) (c : Ctl) : Ctl :=
  let d := (objWord 0).foldl (fun n r => n + c.get r o * 2 ^ r.lo) 0
  objEntryWrite m o 0 (putBit d 0 on) c

/-- The SCHEDULED objects that fall due at a tick boundary, in the order of R62; copies follow their home (R68). -/
def Ctl.scheduledDue (c : Ctl) : List Nat :=
  sortBy (fun a b =>
      let ka := c.get R.OBJ_CLASS a; let kb := c.get R.OBJ_CLASS b
      let pa := c.get R.OBJ_PRIO a; let pb := c.get R.OBJ_PRIO b
      ka < kb || (ka == kb && (pb < pa || (pb == pa && a ≤ b))))
    (c.liveObjs.filter (fun o => c.get R.OBJ_STATE o == 7 && !c.isCopy o && !later (c.get R.OBJ_ACT_WIN o) c.winNo))

/-- The scheduled activations of a tick boundary, made before its snapshot (R62); nothing is due away from one,
and a hinge standby takes the admissions from the journal (R42). -/
def scheduledActivation (c : Ctl) : Ctl :=
  if !c.tab.tickDue || c.get R.HNG_STATUS_ROLE == 3 then c else c.each c.scheduledDue (fun c o => (c.objDecide o).1)

/-- The number of enabled feeds whose ZONE names each zone (ZONE.FEEDS). -/
def Ctl.showFeeds (c : Ctl) : Ctl :=
  c.each (List.range 128) (fun c z => c.set R.ZONE_FEEDS (c.zoneFeeds z).length z)

/-- Whether a write changes a field that is locked while a scene is in force or windows run (R56, R66). -/
def Ctl.breaksScene (c : Ctl) (fields : List Reg) (i d : Nat) : Bool :=
  c.changes (fields.filter (·.isIn sceneLocked)) i d && (c.get R.SYS_SCENE_ID != 0 || c.is R.WIN_STATUS_RUN)

/-- The module has computed no stage-6 output for a feed in the window before (R150). -/
def Ctl.noLast (c : Ctl) (f : Nat) : Ctl :=
  match kget? c.corr.feeds f with
  | none => c
  | some q => { c with corr := { c.corr with feeds := kput c.corr.feeds f { q with last := none } } }

/-- A write to word `w` of FEED[f] (R2, R56, R73). -/
def Ctl.feedWrite (c : Ctl) (f w d : Nat) : Ctl :=
  let fields := wordFields R.fieldsFEED (0x210000 + 4 * w)
  if roWord fields then c
  else if c.feedCount ≤ f then c.set R.FEED_LAST 2 f
  else if c.switching then c.tableState R.FEED_LAST R.FEED_ERR_STATE f
  else if !inRange fields d then c.set R.FEED_LAST 2 f
  else if c.breaksScene fields f d then c.tableState R.FEED_LAST R.FEED_ERR_STATE f
  else
    let rise := w = 0 && d % 2 = 1 && !c.is R.FEED_EN f
    (((c.store fields f d).set R.FEED_LAST 0 f).showFeeds).when rise (·.noLast f)

/-- A write to a FEED entry (R56). -/
def feedEntryWrite (m : Master) (f w d : Nat) (c : Ctl) : Ctl :=
  c.hngGate m (0x210000 + 64 * f + 4 * w) d (if w = 9 then none else some (R.FEED_LAST, f)) (·.feedWrite f w d)

/-- A write to word `w` of ZONE[z] (R56, R73). -/
def Ctl.zoneWrite (c : Ctl) (z w d : Nat) : Ctl :=
  let fields := wordFields R.fieldsZONE (0x220000 + 4 * w)
  if roWord fields then c
  else if c.switching then c.tableState R.ZONE_LAST R.ZONE_ERR_STATE z
  else if !inRange fields d then c.set R.ZONE_LAST 2 z
  else if c.breaksScene fields z d then c.tableState R.ZONE_LAST R.ZONE_ERR_STATE z
  else (c.store fields z d).set R.ZONE_LAST 0 z

/-- A write to a ZONE entry (R56). -/
def zoneEntryWrite (m : Master) (z w d : Nat) (c : Ctl) : Ctl :=
  c.hngGate m (0x220000 + 64 * z + 4 * w) d (if w = 9 then none else some (R.ZONE_LAST, z)) (·.zoneWrite z w d)

/-- The fields that COMMIT puts in force (R233): the writable STORM fields but FORCE and the biquad registers, and the
writable PLAN fields. -/
def Reg.shadowed (r : Reg) : Bool :=
  (r.isIn [R.STORM_CFG_TONE_SPAN, R.STORM_CFG_GAP, R.STORM_CFG_BACKSTOP, R.STORM_CFG_RETURN_CHECK, R.STORM_CFG_RETURN_AT_END,
     R.STORM_EMIC_PLAN, R.STORM_EMIC_PLAN_EN, R.STORM_EMIC_PTT_EN, R.STORM_EMIC_DEBOUNCE, R.STORM_ZONE_GAIN,
     R.STORM_ZONE_EMIC0, R.STORM_ZONE_EMIC1, R.STORM_FEED_EN, R.STORM_FEED_TRIM]) ||
    (0x230000 ≤ r.addr && r.addr < 0x231000 && r.acc == .rw)

/-- The shadow and the PLAN table as written. -/
def Ctl.shadow (c : Ctl) : RegMap := c.regs.filter (fun e => e.reg.shadowed)

/-- STORM_STATUS.DIRTY: the shadow or the PLAN table differs from the copy in force (R233). -/
def Ctl.dirty (c : Ctl) : Bool := c.shadow != c.storm.inForce || c.storm.bqShadow != c.storm.bqForce

/-- Brings DIRTY up to date. -/
def Ctl.showDirty (c : Ctl) : Ctl := c.set R.STORM_STATUS_DIRTY (b2n c.dirty)

/-- Whether a PLAN word's object slots name entries outside the table (96 kHz halves it, R2). -/
def Ctl.badSlots (c : Ctl) (d : Nat) : Bool :=
  (bit d 15 && c.objCount ≤ d % 1024) || (bit d 31 && c.objCount ≤ d / 65536 % 1024)

/-- A write to word `w` of PLAN[p] by a permitted master (R70). The second component is the status code. -/
def Ctl.planWrite (c : Ctl) (p w d : Nat) : Ctl × Nat :=
  let fields := wordFields R.fieldsPLAN (0x230000 + 4 * w)
  if roWord fields && !(2 ≤ w && w ≤ 9) then (c, 0)
  else if c.get R.PLAN_STATE p != 0 then (c.tableState R.PLAN_LAST R.PLAN_ERR_STATE p, 1)
  else if !inRange fields d || (6 ≤ w && w ≤ 9 && c.badSlots d) then (c.set R.PLAN_LAST 2 p, 2)
  else
    let c := if 2 ≤ w && w ≤ 5 then c.set R.PLAN_ZONES d (4 * p + (w - 2))
      else if 6 ≤ w && w ≤ 9 then c.set R.PLAN_OBJS d (4 * p + (w - 6))
      else c.store fields p d
    ((c.set R.PLAN_LAST 0 p).showDirty, 0)

/-- A write to a PLAN entry: SECURE (R8, R70). -/
def planEntryWrite (m : Master) (p w d : Nat) (c : Ctl) : Ctl :=
  let a := 0x230000 + 64 * p + 4 * w
  c.ifSecure m a (fun c => c.hngGate m a d (if w = 11 then none else some (R.PLAN_LAST, p)) (fun c => (c.planWrite p w d).1))

/-! ## Tick boundaries: lifecycle and snapshot -/

/-- One object at a tick boundary (R63). -/
def Ctl.objTick (c : Ctl) (o : Nat) : Ctl :=
  let st := c.get R.OBJ_STATE o
  let n := cget c.tab.objPh o
  let f := cget c.tab.fadeReq o
  let fade (c : Ctl) : Ctl := if f = 1 then (c.objState o 4).objFade o 0 else if 1 < f then c.objFade o (f - 1) else c
  if st = 1 then if n ≤ 1 then (c.objState o 2).objWait o 0 else c.objWait o (n - 1)
  else if st = 2 then fade (c.objState o 3)
  else if st = 3 then fade c
  else if st = 4 then
    if c.tab.reAct.any (· == o) then
      ({ c with tab := { c.tab with reAct := c.tab.reAct.filter (· != o) } }.objState o 1).objWait o 1
    else c.objState o 0
  else c

/-- The fields of the tick snapshot: OBJ, SRC, ZONE and FEED tables and SYS_LAW (R22, R104). -/
def Reg.inSnap (r : Reg) : Bool :=
  ((0x200000 ≤ r.addr && r.addr < 0x230000) || (0x250000 ≤ r.addr && r.addr < 0x252000) || r.addr == 0x50)

/-- Which entry of its table an element belongs to. -/
def Ent.entry (e : Ent) : Nat := e.idx / e.reg.iCount

/-- Whether an element is a mirrored field of a global object that has its home here. -/
def Ctl.homeEnt (c : Ctl) (e : Ent) : Bool := e.reg.isIn objMirrored && c.homed e.entry

/-- Whether HOLD keeps the element's previous snapshot (R58). The HOLD of a global object is the mirrored one that enters this
snapshot (R67); its mirrored fields were held by the home snapshot already. -/
def Ctl.held (c : Ctl) (e : Ent) : Bool :=
  let o := e.entry
  if e.reg.isIn objLive then
    if e.reg.isIn objMirrored && c.is R.OBJ_GLOBAL o then false
    else if c.homed o then c.tab.homePrev.get R.OBJ_HOLD o == 1 else c.is R.OBJ_HOLD o
  else e.reg.isIn zoneLive && c.is R.ZONE_HOLD o

/-- The snapshot of a tick boundary (R22, R57, R58, R67): held fields keep the previous snapshot, and the mirrored fields of the
objects that have their home here come from the home snapshot of the tick before, which follows HOLD in its turn. -/
def Ctl.snapshot (c : Ctl) : Ctl :=
  let cur := c.shownRegs.filter (fun e => e.reg.inSnap)
  let fresh := cur.filter (fun e => !c.held e && !c.homeEnt e)
  let kept := c.tab.snap.filter c.held
  let stays := fun (e : Ent) => e.reg.isIn objLive && c.is R.OBJ_HOLD e.entry
  let home := (c.tab.homePrev.filter (fun e => c.homeEnt e && stays e)).foldl RegMap.put
    (cur.filter (fun e => c.homeEnt e && !stays e))
  { c with tab := { c.tab with
    snap := (kept ++ c.tab.homePrev.filter c.homeEnt).foldl RegMap.put fresh, homePrev := home, snapTime := some c.time } }

/-- A field of the tick snapshot. -/
def Ctl.sget (c : Ctl) (r : Reg) (i : Nat := 0) : Nat := c.tab.snap.get r i

/-- The copies of global objects that this node renders for other homes. -/
def Ctl.mirrorCopies (c : Ctl) : List Nat :=
  (c.regs.filter (fun e => e.reg.id == R.OBJ_GLOBAL.id && c.isCopy e.idx)).map (·.idx)

/-- Notes whether the mirrored activation of a copy has been decided. -/
def Ctl.mirrorAsk (c : Ctl) (o : Nat) (on : Bool) : Ctl :=
  let l := c.tab.mirrorAsked.filter (· != o)
  { c with tab := { c.tab with mirrorAsked := if on then o :: l else l } }

/-- One copy whose home snapshot of the tick before has been received (R67, R68): its mirrored fields take the values, and a
mirrored activation is decided once, against this node's own ledger, when it reaches the node. One with ACT_AT = 1 reaches it with
the home snapshot of the tick boundary at which the home decides it. -/
def Ctl.copyUpdate (c : Ctl) (o : Nat) : Ctl :=
  let got := fun (r : Reg) => c.tab.mirror.get r o
  let c := c.each (objMirrored.filter (fun r => r.id != R.OBJ_ACT_REQ.id)) (fun c r => c.set r (got r) o)
  let st := c.get R.OBJ_STATE o
  if c.get R.HNG_STATUS_ROLE = 3 then c
  else if got R.OBJ_ACT_REQ = 0 then (if c.is R.OBJ_ACT_REQ o then c.objDeactivate o else c).mirrorAsk o false
  else if c.tab.mirrorAsked.contains o then c
  else if c.is R.OBJ_ACT_AT o && later (c.get R.OBJ_ACT_WIN o) c.tab.tickWin then
    if st = 0 || st = 6 then (c.set R.OBJ_ACT_REQ 1 o).objState o 7 else c
  else if st = 0 || st = 6 || st = 7 then
    let p := (c.set R.OBJ_ACT_REQ 1 o).objDecide o true
    (if p.2 = 0 then p.1 else p.1.fabRefuse (c.get R.OBJ_CLASS o) (c.get R.OBJ_GID o) (c.get R.OBJ_HOME o)).mirrorAsk o true
  else (c.objActivate o).mirrorAsk o true

/-- The mirrored updates that a tick boundary brings, before its snapshot (R67, R68): a copy that has received none keeps its
values and sets MIRROR_LATE. -/
def Ctl.mirrorUpdate (c : Ctl) : Ctl :=
  let got := c.tab.mirrorGot
  let c := c.each c.mirrorCopies (fun c o => if got.contains o then c.copyUpdate o else c.set R.OBJ_MIRROR_LATE 1 o)
  { c with tab := { c.tab with mirror := [], mirrorGot := [], tickWin := c.winNo } }

/-- The record of a global object in a MIRROR cell (R285): the home snapshot just taken (R67). -/
def Ctl.mirrorRec (c : Ctl) (o : Nat) : List Nat :=
  let h := fun (r : Reg) => c.tab.homePrev.get r o
  [c.get R.OBJ_GID o + 2 ^ 12 * h R.OBJ_ACT_REQ + 2 ^ 13 * h R.OBJ_ACT_AT + 2 ^ 14 * h R.OBJ_HOLD + 2 ^ 16 * h R.OBJ_PRIO,
   h R.OBJ_GAIN + 2 ^ 16 * h R.OBJ_SPREAD, h R.OBJ_POS_X, h R.OBJ_POS_Y, h R.OBJ_POS_Z, h R.OBJ_ACT_WIN]

/-- Pairs of a list's elements; the last may stand alone. -/
def pairUp : List Nat → List (Nat × Option Nat)
  | [] => []
  | [a] => [(a, none)]
  | a :: b :: l => (a, some b) :: pairUp l

/-- The home node's broadcast of its snapshot of the mirrored fields (R67, R285): two records to a cell. -/
def Ctl.mirrorSend (c : Ctl) : Ctl :=
  let mine := (c.regs.filter (fun e => e.reg.id == R.OBJ_GLOBAL.id && c.get R.OBJ_HOME e.idx == c.node)).map (·.idx)
  if c.get R.FAB_STATUS_STATE != 2 then c
  else c.each (pairUp mine) (fun c p =>
    let second := match p.2 with | some o => c.mirrorRec o | none => [0xFFF, 0, 0, 0, 0, 0]
    c.fabBroadcast (c.get R.OBJ_CLASS p.1) 1 (c.get R.WIN_TICK_COUNT :: (c.mirrorRec p.1 ++ second)))

end Sys2Proof.Machine
end

