-- ==== Sys2Proof/Machine/Windows.lean ====
section
/-! DEFINITION. Clocks and windows (spec/01): root and PLL loss, the window count, the control tick and the WIN registers. -/
namespace Sys2Proof.Machine

/-- The duration of a window in nanoseconds times 48,000 (R16). -/
def Ctl.winDur48 (c : Ctl) : Nat := c.winS * 10 ^ 9

/-- A WIN command refused with STATE (R29). -/
def Ctl.winState (c : Ctl) : Ctl := c.refuse R.WIN_STATUS_ERR_STATE Ev.WIN_STATE

/-- Windows stop: no further boundary falls until START or JOIN. -/
def Ctl.stopWindows (c : Ctl) : Ctl :=
  { c with win := { c.win with awaiting := false, stopPending := false, alignedRun := 0, prevBig := false } }.set
    R.WIN_STATUS_RUN 0

/-- The lock bits of WIN_CLK_STATUS, PLL 0 audio, 1 network, 2 fabric, 3 host. -/
def lockReg (p : Fin 4) : Reg :=
  match p with
  | 0 => R.WIN_CLK_STATUS_AUDIO_LOCK | 1 => R.WIN_CLK_STATUS_NET_LOCK
  | 2 => R.WIN_CLK_STATUS_FAB_LOCK | 3 => R.WIN_CLK_STATUS_HOST_LOCK

/-- The loss bits of WIN_CLK_STATUS. -/
def lostReg (p : Fin 4) : Reg :=
  match p with
  | 0 => R.WIN_CLK_STATUS_AUDIO_LOST | 1 => R.WIN_CLK_STATUS_NET_LOST
  | 2 => R.WIN_CLK_STATUS_FAB_LOST | 3 => R.WIN_CLK_STATUS_HOST_LOST

/-- The clocks that time windows are gone: windows stop, and the storm door takes the links and every zone (R15, R234,
R235). -/
def Ctl.clockGone (c : Ctl) : Ctl :=
  let ran := c.is R.WIN_STATUS_RUN
  let c := { c with boot := { c.boot with clockDue := c.boot.clockDue || ran } }.stopWindows
  (({ c with fire := { c.fire with clockLost := true } }.allLinks).takeZones 1 (List.range 128)).faults

/-- The root is declared lost: every lock bit clears and every loss bit sets in one cycle, with one event (R15). -/
def rootLost (c : Ctl) : Ctl :=
  let c := (c.set R.WIN_CLK_STATUS_ROOT_OK 0).set R.WIN_CLK_STATUS_ROOT_LOST 1
  let c := c.each [0, 1, 2, 3] (fun c (p : Fin 4) => (c.set (lockReg p) 0).set (lostReg p) 1)
  (c.raise Ev.WIN_CLK).clockGone

/-- A PLL loses lock while the root is present; the audio PLL stops windows (R15). -/
def pllLockLoss (p : Fin 4) (c : Ctl) : Ctl :=
  let c := (((c.set (lockReg p) 0).set (lostReg p) 1).raise Ev.WIN_CLK)
  if p = 0 then c.clockGone else c

/-- Whether every lock bit of WIN_CLK_STATUS is 1. -/
def Ctl.clocksOk (c : Ctl) : Bool :=
  c.is R.WIN_CLK_STATUS_ROOT_OK && [0, 1, 2, 3].all (fun (p : Fin 4) => c.is (lockReg p))

/-- A PLL relocks; it cannot while the root is absent (R15). With the audio PLL the clock loss ends (R221); once every PLL has
locked after boot, DRAM training begins (R438). -/
def pllRelock (p : Fin 4) (c : Ctl) : Ctl :=
  if !c.is R.WIN_CLK_STATUS_ROOT_OK then c
  else
    let c := c.set (lockReg p) 1
    let c := if p = 0 then { c with fire := { c.fire with clockLost := false } }.faults else c
    if c.get R.SYS_BOOT_STAGE = 1 && c.clocksOk then c.set R.SYS_BOOT_STAGE 2 else c

/-- Root edges are present again: ROOT_OK reads 1 (R15). -/
def rootReturn (c : Ctl) : Ctl := c.set R.WIN_CLK_STATUS_ROOT_OK 1

/-- Whether a fabric controls this node's tick length and start (R286, R287). -/
def Ctl.fabConverged (c : Ctl) : Bool := c.get R.FAB_STATUS_STATE = 2 && c.is R.FAB_STATUS_CONVERGED

/-- The tick length that R21 compares a write with. -/
def Ctl.tickNext (c : Ctl) : Nat := c.win.tickReq.getD (c.get R.WIN_TICK_LEN_ACTIVE)

/-- The first tick boundary that starts a window at or after `target`, as the length in force and a pending change place
it (R72): boundaries keep the length in force up to the one at which the change takes effect. -/
def Ctl.tickAt (c : Ctl) (target : Nat) : Nat :=
  let w := c.winNo
  let ph := c.get R.WIN_TICK_PHASE
  let n := if c.win.awaiting && ph == 0 then 0 else c.tickLen - ph
  let d := (target + 2 ^ 32 - w) % 2 ^ 32
  let l := c.tickLen
  let wait := match c.win.tickReq, c.win.tickFrom with
    | some _, some o => if later o w then (o + 2 ^ 32 - w) % 2 ^ 32 else 0
    | _, _ => 0
  let up := fun (a d l : Nat) => a + (d - a + l - 1) / l * l
  let k := up n wait l
  if d ≤ k then winAdd w (up n d l) else winAdd w (up k d (c.tickNext + 1))

/-- SYS_SCENE_WIN of a pending switch (R72). -/
def Ctl.showSwitch (c : Ctl) : Ctl :=
  match c.tab.switchMin with
  | none => c
  | some m => c.set R.SYS_SCENE_WIN (c.tickAt m)

/-- A tick length is latched, or a pending change is cancelled (R21). One latched in the cycle of a tick boundary waits for the
following one. -/
def Ctl.latchTick (c : Ctl) (t : Nat) : Ctl :=
  if t = c.tickNext then c
  else
    let req := if t = c.get R.WIN_TICK_LEN_ACTIVE then none else some t
    (({ c with win := { c.win with tickReq := req, tickFrom := if c.tab.tickDue then some (winAdd c.winNo 1) else none } }.set R.WIN_TICK_PENDING (b2n req.isSome)).set R.WIN_CTRL_TICK t).showSwitch

/-- A write of WIN_CTRL (R21, R29, R287). -/
def Ctl.winCtrl (c : Ctl) (d : Nat) : Ctl :=
  let len := R.WIN_CTRL_LEN.of d
  let rate := R.WIN_CTRL_RATE96.of d
  let t := R.WIN_CTRL_TICK.of d
  let moves := len != c.get R.WIN_CTRL_LEN || rate != c.get R.WIN_CTRL_RATE96
  if (moves && c.is R.WIN_STATUS_RUN) || (c.fabConverged && t != c.tickNext) then c.winState
  else (((c.set R.WIN_CTRL_LEN len).set R.WIN_CTRL_RATE96 rate).set R.WIN_STATUS_RATE96 rate).latchTick t

/-- A write of WIN_CTRL; a change of TICK is mirrored (R248). -/
def winCtrlWrite (m : Master) (d : Nat) (c : Ctl) : Ctl :=
  if R.WIN_CTRL_TICK.of d = c.tickNext then c.winCtrl d else c.hngGate m 0x10000 d none (·.winCtrl d)

/-- A latched tick length takes effect at a tick boundary, which is phase 0 of it (R21). Away from a tick boundary, or
with none latched, nothing is due. -/
def tickLengthChange (c : Ctl) : Ctl :=
  match c.tab.tickDue, c.win.tickReq with
  | true, some t =>
    if c.win.tickFrom.any (fun w => later w c.winNo) then c
    else
      let c : Ctl := { c with win := { c.win with tickReq := none, tickFrom := none } }
      (((c.set R.WIN_TICK_LEN_ACTIVE t).set R.WIN_CTRL_TICK t).set R.WIN_TICK_PENDING 0).set R.WIN_TICK_PHASE 0
  | _, _ => c

/-- Windows are accepted to begin at window `first`, with tick phase `phase` (R21, R29, R286); no feed has an output yet (R150). -/
def Ctl.beginWindows (c : Ctl) (first phase : Nat) : Ctl :=
  let fresh := fun (e : Nat × FeedSt) => (e.1, { e.2 with last := none })
  let aligned := fun (e : Nat × TxSt) => (e.1, { e.2 with pend := [], skip := 0, slot := first * c.winSamples })
  let guards := fun (e : Nat × GuardSt) => (e.1, { e.2 with run := 0, second := 0, powerNow := 0 })
  let c := { c with
    win := { c.win with
      ext := first, awaiting := true, firstWin := first, stopPending := false, alignedRun := 0, prevBig := false }
    net := { c.net with tx := c.net.tx.map aligned }
    corr := { c.corr with feeds := c.corr.feeds.map fresh, zones := c.corr.zones.map guards, sigs := [], done := 0 } }
  (((((c.set R.WIN_STATUS_RUN 1).set R.WIN_COUNT first).set R.WIN_COUNT_HI (first / 2 ^ 32)).set R.WIN_TICK_PHASE phase).set
    R.WIN_TICK_COUNT 0)

/-- Whether the epoch is at least one window ahead of TIME. -/
def Ctl.epochAhead (c : Ctl) : Bool :=
  48000 * c.time + c.winDur48 ≤ 48000 * (c.get R.WIN_EPOCH_LO + 2 ^ 32 * c.get R.WIN_EPOCH_HI)

/-- WIN_CMD.START (R29, R286). -/
def winStart (c : Ctl) : Ctl :=
  if c.is R.WIN_STATUS_RUN || !c.clocksOk || !c.epochAhead || (c.get R.FAB_STATUS_STATE = 2 && c.fab.rootRun) then c.winState
  else c.beginWindows 0 0

/-- WIN_CMD.STOP (R29). -/
def winStop (c : Ctl) : Ctl :=
  if c.armed then c.winState
  else if c.is R.WIN_STATUS_RUN then { c with win := { c.win with stopPending := true } } else c

/-- A read of WIN_COUNT: the low half, and the high half latched for the next read of WIN_COUNT_HI (R29). -/
def winCountRead (c : Ctl) : Ctl :=
  (c.set R.WIN_COUNT_HI (c.win.ext / 2 ^ 32)).emit (.readData (c.get R.WIN_COUNT))

/-- A write of an epoch half (R29). -/
def Ctl.epochWrite (c : Ctl) (r : Reg) (d : Nat) : Ctl :=
  if c.is R.WIN_STATUS_RUN && d != c.get r then c.winState else c.set r d

/-! ## The count and the tick at a boundary -/

/-- The window count at a boundary: the first window keeps the number it was accepted with; later ones advance it, with
EV_WIN_WRAP where WIN passes a half of its range (R29, R30). -/
def Ctl.countWindow (c : Ctl) : Ctl :=
  if c.win.awaiting then
    { c with win := { c.win with awaiting := false }, tab := { c.tab with firstBoundary := true } }
  else
    let n := (c.win.ext + 1) % 2 ^ 64
    let c := { c with win := { c.win with ext := n }, tab := { c.tab with firstBoundary := false } }
    let c := c.set R.WIN_COUNT n
    c.when (n % 2 ^ 31 == 0) (·.raise Ev.WIN_WRAP)

/-- The tick phase at a boundary. The first window keeps the phase that START or JOIN gave (R21, R286). -/
def Ctl.phaseWindow (c : Ctl) : Ctl :=
  let ph := if c.tab.firstBoundary then c.get R.WIN_TICK_PHASE
    else if c.get R.WIN_TICK_LEN_ACTIVE ≤ c.get R.WIN_TICK_PHASE then 0 else c.get R.WIN_TICK_PHASE + 1
  let c := c.set R.WIN_TICK_PHASE ph
  let due := ph == 0
  let c := c.when (due && !c.tab.firstBoundary) (·.inc R.WIN_TICK_COUNT)
  { c with tab := { c.tab with tickDue := due } }

/-- The network time at which window `n` starts, in ns (R19). -/
def Ctl.windowTime (c : Ctl) (n : Nat) : Nat := c.get R.WIN_EPOCH_LO + 2 ^ 32 * c.get R.WIN_EPOCH_HI + n * c.winDur48 / 48000

/-- The phase error of a boundary, measured against TIME (R19): ERR, ALIGNED, the run of aligned windows and SLIP (R20). An error
beyond the field's range shows its nearer limit (DESIGN CHOICE, log entry 135). -/
def Ctl.phaseError (c : Ctl) : Ctl :=
  let e := clampI (-(2 ^ 31)) (2 ^ 31 - 1) ((c.time : Int) - (c.windowTime c.win.ext : Nat))
  let err := ux 32 e
  let mag := e.natAbs
  let ok := decide (mag ≤ 50)
  let big := decide (1000 < mag)
  let entry := big && !c.win.prevBig
  let c := (c.set R.WIN_PHASE_ERR_ERR err).set R.WIN_STATUS_ALIGNED (b2n ok)
  let c := { c with win := { c.win with alignedRun := if ok then c.win.alignedRun + 1 else 0, prevBig := big } }
  let c := c.when big (·.set R.WIN_STATUS_SLIP 1)
  c.when entry (·.raise Ev.WIN_SLIP)

end Sys2Proof.Machine
end

