-- ==== Sys2Proof/Machine/Corr.lean ====
section
/-! DEFINITION. The CORR block (spec/05): bank loads, swaps, biquad sets and the intelligibility guard. -/
namespace Sys2Proof.Machine

/-- Applies a control operation to the module. -/
def Mach.ctl (x : Mach) (f : Ctl → Ctl) : Mach := { x with c := f x.c }

/-- A feed command refused with STATE (R130). -/
def Ctl.corrState (c : Ctl) (f : Nat) : Ctl :=
  (((c.set R.CORR_FEED_LAST 1 f).set R.CORR_FEED_ERR_STATE 1 f).set R.CORR_STATUS_ERR_STATE 1).raise Ev.YARD_CORR (f / 192) f

/-- The yard of a feed. -/
def feedYard (f : Nat) : Nat := f / 192

/-- VALID of bank `b` of a feed. -/
def validReg (b : Nat) : Reg := if b = 0 then R.CORR_FEED_VALID_A else R.CORR_FEED_VALID_B

/-- Whether a load into bank `b` of feed `f` is in progress. -/
def Ctl.loadingBank (c : Ctl) (f b : Nat) : Bool :=
  match c.corr.load with
  | some l => l.feed == f && l.bank == b
  | none => false

/-- How many feeds of a yard fade, counting swaps that begin with the next window. -/
def Ctl.fadingIn (c : Ctl) (y : Nat) : Nat :=
  (c.corr.fades.filter (fun e => feedYard e.1 == y)).length + (c.corr.starts.filter (fun e => feedYard e.1 == y)).length

/-! ## Loading a bank (R113) -/

/-- The end of a load, or its refusal: status code and event. -/
def Ctl.loadEnd (c : Ctl) (f code : Nat) : Ctl := (c.set R.CORR_LOAD_STATUS_LAST code).raise Ev.YARD_CORR (f / 192) f

/-- Whether the named bank may not be loaded: ACTIVE, outgoing, a pending target or loading (R113). -/
def Ctl.bankBusy (c : Ctl) (f b : Nat) : Bool :=
  c.get R.CORR_FEED_ACTIVE f == b || (match kget? c.corr.fades f with | some x => x.old == b | none => false) ||
    (match kget? c.corr.pend f with | some r => r.target == b | none => false) ||
    (match kget? c.corr.starts f with | some r => r.target == b | none => false) || c.loadingBank f b

/-- The DRAM address of a 64 KiB-unit base register. -/
def Ctl.base64k (c : Ctl) (r : Reg) : Nat := c.get r * 0x10000

/-- The bank records lie at CORR_BANK_BASE, the FDL records at CORR_FDL_BASE (R112): the feed whose record holds usable offset
`a`, if one does. -/
def Ctl.recordFeed (c : Ctl) (a : Nat) : Option Nat :=
  let bank := c.base64k R.CORR_BANK_BASE
  let fdl := c.base64k R.CORR_FDL_BASE
  if bank ≤ a && a < bank + 768 * 0x20000 then some ((a - bank) / 0x20000)
  else if fdl ≤ a && a < fdl + 768 * 0x12000 then some ((a - fdl) / 0x12000)
  else none

/-- Whether the firmware's transforms decide the byte at usable offset `a`: the exponents and spectra of a bank record that a
load has begun to write, and the FDL record of a feed that has been processed, but for its input history where no host write has
touched the feed's records. The spec does not give these values (R110, R112). -/
def Ctl.unstated (c : Ctl) (a : Nat) : Bool :=
  let bank := c.base64k R.CORR_BANK_BASE
  let fdl := c.base64k R.CORR_FDL_BASE
  let o := (a - bank) % 0x10000
  if bank ≤ a && a < bank + 768 * 0x20000 then
    c.corr.written.contains ((a - bank) / 0x10000) && ((8 ≤ o && o < 0xB) || (0x140 ≤ o && o < 0xFFF8))
  else
    let f := (a - fdl) / 0x12000
    fdl ≤ a && a < fdl + 768 * 0x12000 && (kget? c.corr.feeds f).isSome &&
      (0x2000 ≤ (a - fdl) % 0x12000 || c.corr.spoiled.contains f)

/-- The byte of a processed feed's input history at usable offset `a` (R112): a ring of 2,048 samples, the sample counted n from
START in word n mod 2,048 (DEDUCED, log entry 31). -/
def Ctl.historyByte (c : Ctl) (a : Nat) : Option Byte :=
  let fdl := c.base64k R.CORR_FDL_BASE
  let o := (a - fdl) % 0x12000
  if fdl ≤ a && a < fdl + 768 * 0x12000 && o < 0x2000 then
    (kget? c.corr.feeds ((a - fdl) / 0x12000)).map (fun q =>
      let back := (c.corr.done + 2047 - o / 4) % 2048
      BitVec.ofNat 8 (ux 32 (q.hist.getD back 0) / 256 ^ (o % 4)))
  else none

/-- The bytes that a read of DRAM answers: those stored, those of a feed's history, and free values where the spec states none
(log entry 4). -/
def Ctl.dramOut (c : Ctl) (m : Mem) (a n : Nat) : List Byte × Ctl :=
  let own := fun (e : Byte × Nat) => (c.historyByte (a + e.2)).getD e.1
  if (List.range n).any (fun i => c.unstated (a + i)) then
    let p := c.free (8 * n)
    (((m.rds a n).zip (leBytes n p.1)).zipIdx.map (fun e => if c.unstated (a + e.2) then e.1.2 else own (e.1.1, e.2)), p.2)
  else ((m.rds a n).zipIdx.map own, c)

/-- The host writes DRAM bytes: one in a bank or FDL record leaves the feed's output undefined until the next reset (R112). -/
def Ctl.spoil (c : Ctl) (a n : Nat) : Ctl :=
  let l := ((List.range n).filterMap (fun i => c.recordFeed (a + i))).filter (fun f => !c.corr.spoiled.contains f)
  if l.isEmpty then c else { c with corr := { c.corr with spoiled := l.dedup ++ c.corr.spoiled } }

/-- An accepted load begins (R113). -/
def Ctl.loadBegin (c : Ctl) (slot : Nat) (l : BankLoad) : Ctl :=
  let c := { c with corr := { c.corr with
    load := some l
    banks := kdel c.corr.banks (2 * l.feed + l.bank)
    written := (2 * l.feed + l.bank) :: c.corr.written.filter (· != 2 * l.feed + l.bank) } }
  let c := ((c.set R.CORR_LOAD_FEED l.feed).set R.CORR_LOAD_BANK l.bank).set R.CORR_LOAD_SLOT slot
  ((((c.set R.CORR_LOAD_STATUS_BUSY 1).set R.CORR_LOAD_STATUS_FEED l.feed).set R.CORR_LOAD_STATUS_BANK l.bank).set
    (validReg l.bank) 0 l.feed).set R.CORR_FEED_LOADING 1 l.feed

/-- A load ends with TIMEOUT (R113). -/
def Ctl.loadFail (c : Ctl) (l : BankLoad) : Ctl :=
  let c := { c with corr := { c.corr with load := none } }
  (((c.set R.CORR_FEED_LOADING 0 l.feed).set R.CORR_LOAD_STATUS_BUSY 0).set R.CORR_STATUS_LOAD_FAIL_SEEN 1).loadEnd l.feed 7

/-- CORR_LOAD.GO with FEED, BANK and SLOT (R113). The checks read the slot for the feed's yard in class D; an error there ends the
load like one that has begun. A refused one changes no field (R130). -/
def Mach.loadGo (x : Mach) (f b slot : Nat) : Mach :=
  let c := x.c
  let base := c.base64k R.CORR_STAGE_BASE + slot * 0x10000
  let rd := fun (o n : Nat) => x.m.dram.rdN (base + o) n
  let taps := rd 6 2
  let q := if c.dramDown then (c, false) else c.dramTouch (feedYard f) 0 3 false base 0x10000
  let bad := rd 0 4 != 0x4B4E4243 || rd 4 2 != 1 || taps == 0 || 8192 < taps ||
    crc32 (x.m.dram.rds (base + 0x40) (4 * taps)) != rd 0x10 4
  let l : BankLoad := ⟨f, b, rd 0xC 4, rd 0x10 4, (List.range taps).map (fun i => rd (0x40 + 4 * i) 4 / 256), c.winNo⟩
  if c.is R.CORR_LOAD_STATUS_BUSY then { x with c := c.loadEnd f 3 }
  else if c.feedCount ≤ f then { x with c := c.loadEnd f 2 }
  else if c.bankBusy f b then { x with c := (c.loadEnd f 1).set R.CORR_STATUS_ERR_STATE 1 }
  else if !q.2 then { x with c := (q.1.loadBegin slot l).loadFail l }
  else if bad then { x with c := c.loadEnd f 2 }
  else if (bit (rd 0xA 2) 0) != c.rate96 || (rd 8 2 != f && rd 8 2 != 0xFFFF) then
    { x with c := (c.loadEnd f 1).set R.CORR_STATUS_ERR_STATE 1 }
  else { x with c := c.loadBegin slot l }

/-- CORR_LOAD.GO (R113), a mirrored write (R248). -/
def corrLoadGo (m : Master) (f b slot : Nat) (x : Mach) : Mach :=
  let k := x.c.hngBar m
  if k != 0 then { x with c := (x.c.hngRefuse k).set R.CORR_LOAD_STATUS_LAST k }
  else
    let y := x.loadGo f b slot
    if !x.c.is R.CORR_LOAD_STATUS_BUSY && y.c.is R.CORR_LOAD_STATUS_BUSY then
      { y with c := y.c.jot 0 (0x240008 / 4) (y.c.wordAt 0x240008 + 2 ^ 31) } else y

/-- The content of a bank (R112, R113): the record's header and direct taps in DRAM, and the direct taps in the loft. The exponents
and spectra follow from the firmware's transforms: a read of them is a free value (`Ctl.unstated`). -/
def Mach.bankPut (x : Mach) (l : BankLoad) : Mach :=
  let k := 2 * l.feed + l.bank
  let bank := x.c.base64k R.CORR_BANK_BASE + k * 0x10000
  let direct := ((List.range 64).map (fun i => l.taps.getD i 0 * 256)).flatMap (leBytes 4)
  let loftAt := feedYard l.feed * 0x400000 + 0x2B0000 + (l.feed % 192) * 0x200 + l.bank * 0x100
  let head := leBytes 4 l.id ++ leBytes 4 l.taps.length ++ leBytes 4 0 ++ leBytes 4 l.crc ++ List.replicate 48 0
  let c := { x.c with corr := { x.c.corr with
    banks := kput x.c.corr.banks k l.taps
    written := k :: x.c.corr.written.filter (· != k) } }
  let c := (c.dramTouch (feedYard l.feed) 0 3 true bank 0x10000).1
  { c := c.set (validReg l.bank) 1 l.feed,
    m := { x.m with dram := (x.m.dram.wrs bank (head ++ direct)).wrs (bank + 0xFFF8) (List.replicate 8 0), loft := x.m.loft.wrs loftAt direct } }

/-- A load completes (R113), unless DRAM is frozen, which ends it with TIMEOUT: the bank is VALID. A hinge active sends it again to a joining standby (R263). -/
def bankLoadComplete (x : Mach) : Mach :=
  match x.c.corr.load with
  | none => x
  | some l =>
    if x.c.get R.DRAM_STATUS_MODE = 3 then x else
    let y := x.bankPut l
    let c := ({ y.c with corr := { y.c.corr with load := none } }).bulkAgain (8 + 2 * l.feed + l.bank)
    { y with c := ((c.set R.CORR_FEED_LOADING 0 l.feed).set R.CORR_LOAD_STATUS_BUSY 0).loadEnd l.feed 0 }

/-- A load has not completed after 64 windows, or met an uncorrectable DRAM error (R113). -/
def bankLoadTimeout (c : Ctl) : Ctl :=
  match c.corr.load with
  | none => c
  | some l =>
    if (c.winNo + 2 ^ 32 - l.start) % 2 ^ 32 < 64 && c.get R.DRAM_STATUS_MODE != 3 then c else c.loadFail l

/-! ## Swaps (R114, R115) -/

/-- Puts a request into the feed's pending slot. -/
def Ctl.swapPend (c : Ctl) (f : Nat) (r : SwapReq) : Ctl :=
  let full := c.is R.CORR_FEED_PENDING f
  let c := { c with corr := { c.corr with pend := kput c.corr.pend f r } }
  let c := (c.set R.CORR_FEED_PENDING 1 f).set R.CORR_FEED_PEND_TARGET r.target f
  c.when full (fun c => (c.inc R.CORR_FEED_REPLACED f).inc R.CORR_REPLACED)

/-- A SWAP write to CORR_FEED[f] with TARGET and FADE (R114, R115). One that comes after an accepted swap and before its fade has
begun enters the pending slot like one during the fade (DESIGN CHOICE, log entry 134). -/
def Ctl.swapCmd (c : Ctl) (f target fade : Nat) : Ctl :=
  if c.feedCount ≤ f then c.set R.CORR_FEED_LAST 2 f
  else
    let busy := (kget? c.corr.fades f).isSome || (kget? c.corr.starts f).isSome || c.is R.CORR_FEED_PENDING f
    let r : SwapReq := { target := target, len := fade + 1 }
    let keep (c : Ctl) : Ctl := ((c.set R.CORR_FEED_TARGET target f).set R.CORR_FEED_FADE fade f).set R.CORR_FEED_LAST 0 f
    let noBank := !c.is (validReg target) f || c.loadingBank f target
    if !busy && target == c.get R.CORR_FEED_ACTIVE f then keep c
    else if noBank then c.corrState f
    else if busy then (keep c).swapPend f r
    else if 48 ≤ c.fadingIn (feedYard f) then (keep c).swapPend f { r with held := true }
    else
      let c := keep c
      { c with corr := { c.corr with starts := kput c.corr.starts f r } }

/-- A write of CORR_FEED that requests a swap (R114), a mirrored write (R248). -/
def corrSwap (m : Master) (f target fade : Nat) (c : Ctl) : Ctl :=
  c.hngGate m (0x241000 + 16 * f) (target + 256 * fade + 2 ^ 31) (some (R.CORR_FEED_LAST, f)) (·.swapCmd f target fade)

/-- CORR_STATUS.FADES. -/
def Ctl.showFades (c : Ctl) : Ctl := c.set R.CORR_STATUS_FADES c.corr.fades.length

/-- The first window of a fade begins: ACTIVE names the target (R114). -/
def Ctl.fadeBegin (c : Ctl) (f : Nat) (r : SwapReq) : Ctl :=
  let old := c.get R.CORR_FEED_ACTIVE f
  let c := { c with corr := { c.corr with fades := kput c.corr.fades f ⟨old, r.len, 0⟩, starts := kdel c.corr.starts f } }
  (((c.set R.CORR_FEED_ACTIVE r.target f).set R.CORR_FEED_FADING 1 f).set R.CORR_FEED_FADE_LEFT (r.len - 1) f).showFades

/-- The fades at a window boundary: each has one window less before it; accepted swaps begin. -/
def Ctl.fadesBoundary (c : Ctl) : Ctl :=
  let c := c.each c.corr.fades (fun c e =>
    let x := { e.2 with done := min e.2.len (e.2.done + 1) }
    { c with corr := { c.corr with fades := kput c.corr.fades e.1 x } }.set R.CORR_FEED_FADE_LEFT (x.len - x.done - 1) e.1)
  c.each c.corr.starts (fun c e => c.fadeBegin e.1 e.2)

/-- The last window of a feed's fade has ended (R114). -/
def bankFadeEnd (f : Nat) (c : Ctl) : Ctl :=
  match kget? c.corr.fades f with
  | none => c
  | some x =>
    if x.done < x.len then c
    else (((({ c with corr := { c.corr with fades := kdel c.corr.fades f } }.set R.CORR_FEED_FADING 0 f).set
      R.CORR_FEED_FADE_LEFT 0 f).inc R.CORR_SWAPS).showFades)

/-- Whether a feed's pending or held request can start now: its fade is over, and the guard point has not taken the window's block
(R115). -/
def Ctl.pendReady (c : Ctl) (f : Nat) : Bool :=
  (kget? c.corr.pend f).isSome && (kget? c.corr.fades f).isNone && (kgetD c.corr.feeds f {}).out.isEmpty

/-- The pending request of a feed leaves its slot and starts; one whose target is active is dropped (R115). -/
def Ctl.pendStart (c : Ctl) (f : Nat) : Ctl :=
  match kget? c.corr.pend f with
  | none => c
  | some r =>
    let c := (({ c with corr := { c.corr with pend := kdel c.corr.pend f } }.set R.CORR_FEED_PENDING 0 f).set
      R.CORR_FEED_PEND_TARGET 0 f)
    if r.target == c.get R.CORR_FEED_ACTIVE f then c else c.fadeBegin f r

/-- A feed's pending request, where it is ready and the yard's limit allows; the journal gives the start like an accepted swap, its
bit 30 set (R115, R116; DESIGN CHOICE, log entry 134). -/
def Ctl.pendTry (c : Ctl) (f : Nat) : Ctl :=
  match kget? c.corr.pend f with
  | none => c
  | some r =>
    if !c.pendReady f || 48 ≤ c.fadingIn (feedYard f) then c
    else (c.pendStart f).jot 0 ((0x241000 + 16 * f) / 4) (r.target + 256 * (r.len - 1) + 3 * 2 ^ 30)

/-- PENDING_SWAP_START: the requests of feed `f` and of the feeds of its yard below it start in ascending order, as far as the limit
allows (R115). A standby's start with the record. -/
def pendingSwapStart (f : Nat) (c : Ctl) : Ctl :=
  if c.get R.HNG_STATUS_ROLE = 3 then c
  else c.each ((c.corr.pend.map (·.1)).filter (fun g => feedYard g == feedYard f && g ≤ f)) Ctl.pendTry

/-! ## Biquad sets (R118) -/

/-- The key of a biquad stage: kind 0 FEED, 1 SRC, 2 ZONE. -/
def bqKey (kind idx stage : Nat) : Nat := 65536 * kind + 16 * idx + stage

/-- Whether the selection lies inside its kind's range. -/
def Ctl.bqSelOk (c : Ctl) (kind idx stage : Nat) : Bool :=
  if kind = 0 then idx < c.feedCount && stage < 16
  else if kind = 1 then idx < 256 && stage < 8
  else if kind = 2 then idx < 128 && stage < 8 else false

/-- The set that the coefficient registers hold. -/
def Ctl.bqRegs (c : Ctl) (r : Reg) : BqSet := ⟨c.get r 0, c.get r 1, c.get r 2, c.get r 3, c.get r 4⟩

/-- Loads the coefficient registers with a set. -/
def Ctl.bqLoad (c : Ctl) (r : Reg) (s : BqSet) : Ctl :=
  ((((c.set r s.b0 0).set r s.b1 1).set r s.b2 2).set r s.a1 3).set r s.a2 4

/-- The selected stage's key. -/
def Ctl.bqSel (c : Ctl) : Nat × Nat × Nat := (c.get R.CORR_BQ_SEL_KIND, c.get R.CORR_BQ_SEL_INDEX, c.get R.CORR_BQ_SEL_STAGE)

/-- CORR_BQ_STATUS.PENDING of the selected stage. -/
def Ctl.bqPending (c : Ctl) : Ctl :=
  let s := c.bqSel
  c.set R.CORR_BQ_STATUS_PENDING (b2n (kget? c.corr.bqStaged (bqKey s.1 s.2.1 s.2.2)).isSome)

/-- CORR_BQ_CMD.WRITE (R118). -/
def Ctl.bqWriteCmd (c : Ctl) : Ctl :=
  let s := c.bqSel
  let set := c.bqRegs R.CORR_BQ_COEF_COEF
  if !c.bqSelOk s.1 s.2.1 s.2.2 || !bqOk set then c.set R.CORR_BQ_STATUS_LAST 2
  else ({ c with corr := { c.corr with bqStaged := kput c.corr.bqStaged (bqKey s.1 s.2.1 s.2.2) set } }.set
    R.CORR_BQ_STATUS_LAST 0).bqPending

/-- CORR_BQ_CMD.WRITE (R118), a mirrored write (R248). -/
def corrBqWrite (m : Master) (c : Ctl) : Ctl := c.hngGate m 0x240038 1 (some (R.CORR_BQ_STATUS_LAST, 0)) (·.bqWriteCmd)

/-- CORR_BQ_CMD.READ (R118): the staged set, or the set in force when none is staged. -/
def corrBqRead (c : Ctl) : Ctl :=
  let s := c.bqSel
  let k := bqKey s.1 s.2.1 s.2.2
  if !c.bqSelOk s.1 s.2.1 s.2.2 then c.set R.CORR_BQ_STATUS_LAST 2
  else (c.bqLoad R.CORR_BQ_COEF_COEF ((kget? c.corr.bqStaged k).getD (kgetD c.corr.bqForce k {}))).set R.CORR_BQ_STATUS_LAST 0

/-- Staged sets enter the snapshot and are in force from the tick that begins (R22, R118). -/
def Ctl.bqSnapshot (c : Ctl) : Ctl :=
  let force := c.corr.bqStaged.foldl (fun m e => if e.2 = {} then kdel m e.1 else kput m e.1 e.2) c.corr.bqForce
  ({ c with corr := { c.corr with bqForce := force, bqStaged := [] } }).bqPending

/-! ## The intelligibility guard (R121 to R129) -/

/-- The non-IDLE class-A objects that select a zone. -/
def Ctl.classAOf (c : Ctl) (z : Nat) : List Nat :=
  c.liveObjs.filter (fun o => c.get R.OBJ_CLASS o == 0 && c.objSelects o z)

/-- Whether a zone carries class-A audio (R121, R129, R153). -/
def Ctl.carriesA (c : Ctl) (z : Nat) : Bool := c.is R.ZONE_ALARM z || !(c.classAOf z).isEmpty

/-- The reference source of a zone (R121): highest PRIO, then lowest index. -/
def Ctl.refSource (c : Ctl) (z : Nat) : Option Nat :=
  ((sortBy (fun a b => c.get R.OBJ_PRIO b < c.get R.OBJ_PRIO a || (c.get R.OBJ_PRIO a == c.get R.OBJ_PRIO b && a ≤ b))
    (c.classAOf z)).head?).map (c.get R.OBJ_SRC ·)

/-- Whether microphone `i` of a zone is enabled and has LINK = OK (R121). -/
def Ctl.micOk (c : Ctl) (z i : Nat) : Bool :=
  if i = 0 then c.is R.ZONE_REF0_EN z && c.get R.SRC_LINK (c.get R.ZONE_REF0 z) == 1
  else c.is R.ZONE_REF1_EN z && c.get R.SRC_LINK (c.get R.ZONE_REF1 z) == 1

/-- The guard's state of a zone. -/
def Ctl.guard (c : Ctl) (z : Nat) : GuardSt := kgetD c.corr.zones z {}

/-- Sets the guard's state of a zone. -/
def Ctl.setGuard (c : Ctl) (z : Nat) (g : GuardSt) : Ctl := { c with corr := { c.corr with zones := kput c.corr.zones z g } }

/-- 0.1 dB steps in 2^−16 dB. -/
def dbUnits (n : Nat) : Nat := n * 65536 / 10

/-- Where a movement from `a` to `b` stands, all in 2^−16 dB (R128). -/
def moveAt (a b since span : Nat) : Nat := ((a : Int) + ((b : Int) - a) * since / span).toNat

/-- New lift and ambient-noise gain targets in 0.1 dB: a movement over `span` samples begins from where the gains stand (R128,
R129). -/
def Ctl.guardMove (c : Ctl) (z lift anc span : Nat) : Ctl :=
  let g := c.guard z
  let g := { g with liftFrom := moveAt g.liftFrom (dbUnits (c.get R.CORR_ZONE_LIFT_DB z)) g.since g.span,
                    ancFrom := moveAt g.ancFrom (dbUnits (c.get R.CORR_ZONE_ANC_DB z)) g.since g.span, since := 0, span := span }
  ((c.setGuard z g).set R.CORR_ZONE_LIFT_DB lift z).set R.CORR_ZONE_ANC_DB anc z

/-- The ambient-noise gain target (R128). -/
def Ctl.ancTarget (c : Ctl) (z : Nat) : Nat :=
  if c.get R.CORR_ZONE_AMB z = 0x8000 then 0
  else (clampI 0 (c.get R.ZONE_ANC_MAX z) ((c.geti R.CORR_ZONE_AMB z - c.geti R.CORR_ZONE_ANC_REF z) / 10)).toNat

/-- The next available countermeasure (R127): the new step and lift. -/
def Ctl.stiStep (c : Ctl) (z : Nat) : Option (Nat × Nat) :=
  let step := c.get R.CORR_ZONE_STEP z
  let lift := c.get R.CORR_ZONE_LIFT_DB z
  let dense := c.liveObjs.any (fun o => c.get R.OBJ_LAW o == 1 && c.objSelects o z)
  if c.is R.ZONE_ANC_MAX z && step < 1 then some (1, lift)
  else if lift < c.get R.ZONE_LIFT_MAX z then some (2, min (lift + 10) (c.get R.ZONE_LIFT_MAX z))
  else if c.is R.ZONE_FALLBACK z && dense && step < 3 then some (3, lift)
  else none

/-- Puts a zone into the sparse fallback from the next tick on, or takes it out (R102, R128, R129). -/
def Ctl.setFallback (c : Ctl) (z : Nat) (on : Bool) : Ctl :=
  let s := kgetD c.src.solves z {}
  { c with src := { c.src with solves := kput c.src.solves z { s with want := on } } }

/-- The count and the step of an update (R127), and the lift that it asks for. Where STI_HOLD is reached with no step left, the count
goes on, so that a step that becomes available is taken at the next update below target (DESIGN CHOICE, log entry 134). -/
def Ctl.countermeasure (c : Ctl) (z est : Nat) : Ctl × Nat :=
  let g := c.guard z
  let under := decide (est < c.get R.ZONE_STI_TARGET z)
  let n := if under then g.below + 1 else 0
  let c := (c.setGuard z { g with below := n }).set R.CORR_ZONE_BELOW (b2n under) z
  match (if under && c.get R.CORR_STI_CTRL_STI_HOLD ≤ n then c.stiStep z else none) with
  | none => (c, c.get R.CORR_ZONE_LIFT_DB z)
  | some (step, lift) =>
    let c := (c.setGuard z { (c.guard z) with below := 0 }).set R.CORR_ZONE_STEP step z
    let c := c.when (step == 3) (·.setFallback z true)
    ((c.set R.CORR_ZONE_BELOW_SEEN 1 z).raise Ev.YARD_STI (z / 32) z, lift)

/-- The gains that an update asks for (R128, R129): a lift within its limit, and from step 1 on the ambient-noise target. -/
def Ctl.guardGains (c : Ctl) (z lift : Nat) : Ctl :=
  c.guardMove z (min lift (c.get R.ZONE_LIFT_MAX z)) (if 1 ≤ c.get R.CORR_ZONE_STEP z then c.ancTarget z else 0)
    (if c.rate96 then 96000 else 48000)

/-- A zone stops carrying class-A audio (R129); with R121 not met, its confidence is NONE (R125). -/
def guardRelax (z : Nat) (c : Ctl) : Ctl :=
  if c.carriesA z then c
  else
    let c := c.guardMove z 0 0 (c.winSamples * c.tickLen)
    let c := c.setGuard z { (c.guard z) with below := 0 }
    let c := c.setFallback z false
    ((c.set R.CORR_ZONE_STEP 0 z).set R.CORR_ZONE_CONF 0 z).set R.ZONE_STI 0 z

/-- The lift and ambient-noise gains at a tick boundary (R128). -/
def Ctl.guardTick (c : Ctl) : Ctl :=
  c.each c.corr.zones (fun c e =>
    let g := e.2
    let since := min g.span (g.since + c.winSamples * c.tickLen)
    c.setGuard e.1 { g with
      since := since
      liftCur := g.liftTo, liftTo := gainUp (moveAt g.liftFrom (dbUnits (c.get R.CORR_ZONE_LIFT_DB e.1)) since g.span)
      ancCur := g.ancTo, ancTo := gainUp (moveAt g.ancFrom (dbUnits (c.get R.CORR_ZONE_ANC_DB e.1)) since g.span) })

end Sys2Proof.Machine
end

