-- ==== Sys2Proof/Machine/Float.lean ====
section
/-! DEFINITION. Binary32 arithmetic as R196 to R198 define it: round to nearest even, subnormal operands read as zero, subnormal
results delivered as zero, one NaN. Each operation gives its bits and the flags that it sets: NX 1, UF 2, OF 4, DZ 8, NV 16. -/
namespace Sys2Proof.Machine

/-- A binary32 operand. -/
inductive FV where
  | nan (signalling : Bool)
  | inf (neg : Bool)
  | zero (neg : Bool)
  | fin (neg : Bool) (m : Nat) (e : Int)   -- m × 2^e with 2^23 ≤ m < 2^24
  deriving DecidableEq, Repr

/-- Reads an operand; a subnormal is zero of the same sign (R196). -/
def fRead (n : Nat) : FV :=
  let s := bit n 31
  let e : Nat := n / 2 ^ 23 % 256
  let f : Nat := n % 2 ^ 23
  if e = 255 then (if f = 0 then .inf s else .nan (f < 2 ^ 22))
  else if e = 0 then .zero s
  else .fin s (f + 2 ^ 23 : Nat) ((e : Int) - 150)

/-- The sign bit. -/
def fSign (neg : Bool) : Nat := if neg then 2 ^ 31 else 0

/-- The NaN of every result. -/
def fNaN : Nat := 0x7FC00000

/-- Infinity. -/
def fInf (neg : Bool) : Nat := fSign neg + 0x7F800000

/-- The bit length of a number below 2^512. -/
def bitLen (n : Nat) : Nat := searchMax (fun k => k = 0 || 2 ^ (k - 1) ≤ n) 10 0 1024

/-- Rounds `m × 2^e`, with a `sticky` remainder below `m`'s last bit, to binary32 (R196). Callers give at least 26 bits of
`m` where `sticky` is set. -/
def fRound (neg : Bool) (m : Nat) (e : Int) (sticky : Bool) : Nat × Nat :=
  if m = 0 then (fSign neg, 0)
  else
    let l := bitLen m
    let up := 24 - l
    let dn := l - 24
    let q := m * 2 ^ up / 2 ^ dn
    let r := m * 2 ^ up % 2 ^ dn
    let inexact := r != 0 || sticky
    let half := 2 ^ dn / 2
    let inc := dn != 0 && (half < r || (r == half && (sticky || q % 2 == 1)))
    let q := if inc then q + 1 else q
    let e := e + dn - up
    let q' := if q = 2 ^ 24 then 2 ^ 23 else q
    let e' := if q = 2 ^ 24 then e + 1 else e
    let x := e' + 150
    if 255 ≤ x then (fInf neg, 5)
    else if x ≤ 0 then (fSign neg, 3)
    else (fSign neg + x.toNat * 2 ^ 23 + (q' - 2 ^ 23), if inexact then 1 else 0)

/-- Whether an operand is a signalling NaN. -/
def FV.snan : FV → Bool
  | .nan s => s
  | _ => false

/-- A NaN result: invalid where an operand is signalling. -/
def fNaNOf (a b : FV) : Nat × Nat := (fNaN, if a.snan || b.snan then 16 else 0)

/-- Negation of an operand. -/
def FV.neg : FV → FV
  | .inf s => .inf (!s)
  | .zero s => .zero (!s)
  | .fin s m e => .fin (!s) m e
  | .nan s => .nan s

/-- A value as a signed integer times 2^e. -/
def fInt (neg : Bool) (m : Nat) : Int := if neg then -(m : Int) else m

/-- The bits of an operand as read. -/
def FV.bits : FV → Nat
  | .nan _ => fNaN
  | .inf s => fInf s
  | .zero s => fSign s
  | .fin s m e => fSign s + (e + 150).toNat * 2 ^ 23 + (m - 2 ^ 23)

/-- Addition of two operands. -/
def fAddV (a b : FV) : Nat × Nat :=
  match a, b with
  | .nan _, _ | _, .nan _ => fNaNOf a b
  | .inf s, .inf t => if s == t then (fInf s, 0) else (fNaN, 16)
  | .inf s, _ => (fInf s, 0)
  | _, .inf t => (fInf t, 0)
  | .zero s, .zero t => (fSign (s && t), 0)
  | .zero _, x => (x.bits, 0)
  | x, .zero _ => (x.bits, 0)
  | .fin s m e, .fin t n g =>
    let lo := min e g
    let z := fInt s m * 2 ^ (e - lo).toNat + fInt t n * 2 ^ (g - lo).toNat
    if z = 0 then (0, 0) else fRound (decide (z < 0)) z.natAbs lo false

def fAdd (a b : Nat) : Nat × Nat := fAddV (fRead a) (fRead b)
def fSub (a b : Nat) : Nat × Nat := fAddV (fRead a) (fRead b).neg

def fMul (a b : Nat) : Nat × Nat :=
  match fRead a, fRead b with
  | .nan s, y => fNaNOf (.nan s) y
  | x, .nan t => fNaNOf x (.nan t)
  | .inf _, .zero _ | .zero _, .inf _ => (fNaN, 16)
  | .inf s, .inf t => (fInf (s != t), 0)
  | .inf s, .fin t _ _ => (fInf (s != t), 0)
  | .fin s _ _, .inf t => (fInf (s != t), 0)
  | .zero s, .zero t => (fSign (s != t), 0)
  | .zero s, .fin t _ _ => (fSign (s != t), 0)
  | .fin s _ _, .zero t => (fSign (s != t), 0)
  | .fin s m e, .fin t n g => fRound (s != t) (m * n) (e + g) false

def fDiv (a b : Nat) : Nat × Nat :=
  match fRead a, fRead b with
  | .nan s, y => fNaNOf (.nan s) y
  | x, .nan t => fNaNOf x (.nan t)
  | .inf _, .inf _ => (fNaN, 16)
  | .zero _, .zero _ => (fNaN, 16)
  | .inf s, .zero t => (fInf (s != t), 0)
  | .inf s, .fin t _ _ => (fInf (s != t), 0)
  | .zero s, .inf t => (fSign (s != t), 0)
  | .zero s, .fin t _ _ => (fSign (s != t), 0)
  | .fin s _ _, .inf t => (fSign (s != t), 0)
  | .fin s _ _, .zero t => (fInf (s != t), 8)
  | .fin s m e, .fin t n g => fRound (s != t) (m * 2 ^ 40 / n) (e - g - 40) (m * 2 ^ 40 % n != 0)

def fSqrt (a : Nat) : Nat × Nat :=
  match fRead a with
  | .nan s => (fNaN, if s then 16 else 0)
  | .zero s => (fSign s, 0)
  | .inf s => if s then (fNaN, 16) else (fInf false, 0)
  | .fin s m e =>
    if s then (fNaN, 16)
    else
      let odd := e % 2 != 0
      let x := (if odd then 2 * m else m) * 2 ^ 40
      let e := if odd then e - 1 else e
      let q := isqrt x
      fRound false q (e / 2 - 20) (q * q != x)

/-- The reciprocal square root, correctly rounded (R198). -/
def fRsq (a : Nat) : Nat × Nat :=
  match fRead a with
  | .nan s => (fNaN, if s then 16 else 0)
  | .zero s => (fInf s, 8)
  | .inf s => if s then (fNaN, 16) else (0, 0)
  | .fin s m e =>
    if s then (fNaN, 16)
    else
      let odd := e % 2 != 0
      let x := if odd then 2 * m else m
      let e := if odd then e - 1 else e
      let q := isqrt (2 ^ 100 / x)
      fRound false q (-50 - e / 2) (q * q * x != 2 ^ 100)

/-- Whether `a` is below `b`; neither is a NaN. -/
def fLess (a b : FV) : Bool :=
  let key : FV → Int := fun v => match v with
    | .inf s => if s then -(2 ^ 300) else 2 ^ 300
    | .fin s m e => fInt s (m * 2 ^ (e + 150).toNat)
    | _ => 0
  decide (key a < key b)

/-- FMIN and FMAX: −0 is below +0, and one NaN gives the other operand (R196, R197). -/
def fPick (max : Bool) (a b : Nat) : Nat × Nat :=
  let x := fRead a
  let y := fRead b
  let fl := if x.snan || y.snan then 16 else 0
  match x, y with
  | .nan _, .nan _ => (fNaN, fl)
  | .nan _, y => (y.bits, fl)
  | x, .nan _ => (x.bits, fl)
  | .zero s, .zero t => (fSign (if max then s && t else s || t), 0)
  | x, y => (if fLess x y == max then y.bits else x.bits, 0)

/-- A comparison: 0 FEQ, 1 FLT, 2 FLE. -/
def fCmp (op a b : Nat) : Nat × Nat :=
  let x := fRead a
  let y := fRead b
  match x, y with
  | .nan _, _ | _, .nan _ => (0, if op != 0 || x.snan || y.snan then 16 else 0)
  | _, _ =>
    let lt := fLess x y
    let gt := fLess y x
    (b2n (if op = 0 then !lt && !gt else if op = 1 then lt else !gt), 0)

/-- FTOI: floor(f × 2^n), saturated (R197). -/
def fToInt (a n : Nat) : Nat × Nat :=
  match fRead a with
  | .nan _ => (0, 16)
  | .zero _ => (0, 0)
  | .inf s => (if s then 2 ^ 31 else 2 ^ 31 - 1, 16)
  | .fin s m e =>
    let k := e + n
    let z := if 0 ≤ k then fInt s m * 2 ^ (min k.toNat 64) else fInt s m / 2 ^ (-k).toNat
    let r := clampI (-2147483648) 2147483647 z
    (ux 32 r, if r = z then 0 else 16)

/-- ITOF: s × 2^−n, rounded (R197). -/
def fOfInt (a n : Nat) : Nat × Nat :=
  let z := sx 32 a
  if z = 0 then (0, 0) else fRound (decide (z < 0)) z.natAbs (-(n : Int)) false

end Sys2Proof.Machine
end

