-- ==== Sys2Proof/Machine/Sources.lean ====
section
/-! DEFINITION. Sources and their delay rings (spec/03 R59, R60, R65; spec/04 R94 to R97), and the law registers (R104). -/
namespace Sys2Proof.Machine

/-- Whether CHAN lies in the range of its PORT (R59); NONE and FABRIC ignore it. -/
def Ctl.chanOk (c : Ctl) (port chan : Nat) : Bool :=
  if port = 0 || port = 10 then true
  else if port = 1 then chan < 16
  else if port < 8 then chan < (if c.rate96 then 32 else 64)
  else if port = 8 then chan < 4
  else port == 9

/-- The fields of SRC word 0 that are locked while EN = 1. -/
def srcLocked : List Reg := [R.SRC_CLASS, R.SRC_EXPORT, R.SRC_PORT, R.SRC_CHAN, R.SRC_GSRC]

/-- A ring length rounded up to the allocation unit (R94). -/
def ringAlloc (n : Nat) : Nat := (n + 8191) / 8192 * 8192

/-- The usable DRAM below the correction region, in samples of four bytes (R112). -/
def Ctl.ringRoom (c : Ctl) : Nat := (c.get R.DRAM_SIZE_USABLE * 2 ^ 29 - 151 * 2 ^ 20) / 4

/-- The samples allocated to rings, old ones of a switch included. -/
def Ctl.ringUsed (c : Ctl) : Nat := (c.src.rings ++ c.src.oldRings).foldl (fun n e => n + e.2.alloc) 0

/-- Whether an enabled FABRIC source may subscribe (R283): 0, or the status code of its refusal. -/
def Ctl.subscribeCheck (c : Ctl) (gsrc cls : Nat) : Nat :=
  match c.fabConverged, kget? c.fab.exports gsrc with
  | true, some (k, owner) =>
    if cls < k then 1 else if 8 < c.get R.FAB_ROUTE_HOPS (owner + 192) then 2 else 0
  | _, _ => 1

/-- Whether the bound objects would be left with a source of a class code higher than theirs (R65). -/
def Ctl.classBreak (c : Ctl) (i k : Nat) : Bool :=
  c.liveObjs.any (fun o => c.get R.OBJ_SRC o == i && c.get R.OBJ_CLASS o < k)

/-- Shows LINK, and LOST_SEEN when it becomes LOST or STALLED (R60). -/
def Ctl.setLink (c : Ctl) (i v : Nat) : Ctl :=
  let c := (c.set R.SRC_LINK v i).when (2 ≤ v) (·.set R.SRC_LOST_SEEN 1 i)
  c.showMute i

/-- An entry comes on: its ring is allocated, empty, and LINK reads LOST (R60, R94). -/
def Ctl.srcOpen (c : Ctl) (i : Nat) : Ctl :=
  let r : Ring := { alloc := ringAlloc (c.get R.SRC_RING i) }
  let c := { c with src := { c.src with rings := kput c.src.rings i r } }
  let c := if c.get R.SRC_PORT i = 10 then { c with fab := { c.fab with subs := i :: c.fab.subs.filter (· != i) } } else c
  c.setLink i (if c.get R.SRC_PORT i = 0 then 0 else 2)

/-- An entry goes off: its ring is released, and the bound objects show SRC_MUTE (R65, R94). -/
def Ctl.srcClose (c : Ctl) (i : Nat) : Ctl :=
  let c := { c with src := { c.src with rings := kdel c.src.rings i }, fab := { c.fab with subs := c.fab.subs.filter (· != i) } }
  ((c.set R.SRC_LINK 0 i).showMute i)

/-- The fields in word `w` of a SRC entry. -/
def srcWord (w : Nat) : List Reg := wordFields R.fieldsSRC (0x250000 + 4 * w)

/-- A refused source write: LAST, and for STATE the entry's ERR_STATE and EV_KEEP_TABLE (R56). -/
def Ctl.srcRefuse (c : Ctl) (i code : Nat) : Ctl :=
  if code = 1 then c.tableState R.SRC_LAST R.SRC_ERR_STATE i else c.set R.SRC_LAST code i

/-- A write of the ring length (R96). -/
def Ctl.ringWrite (c : Ctl) (i d : Nat) : Ctl :=
  let v := R.SRC_RING.of d
  if v < 128 || 96068 < v then c.srcRefuse i 2
  else match c.is R.SRC_EN i, kget? c.src.rings i with
    | true, some r =>
      if r.alloc < v then ((c.set R.SRC_LAST 1 i).set R.SRC_ERR_STATE 1 i).sysState R.SYS_LAW_STATUS_ERR_STATE
      else { c with src := { c.src with rings := kput c.src.rings i { r with pend := some v } } }.set R.SRC_LAST 0 i
    | _, _ => (c.set R.SRC_RING v i).set R.SRC_LAST 0 i

/-- A write of word 0: EN and the fields that are locked while it is set (R56, R59, R65, R94, R283). -/
def Ctl.srcHead (c : Ctl) (i d : Nat) : Ctl :=
  let en := R.SRC_EN.of d
  let port := R.SRC_PORT.of d
  let was := c.is R.SRC_EN i
  let opens := en = 1 && !was
  let k := R.SRC_CLASS.of d
  let fab := if opens && port = 10 then c.subscribeCheck (c.get R.SRC_GSRC i) k else 0
  if 10 < port || !c.chanOk port (R.SRC_CHAN.of d) || (port == 10 && R.SRC_EXPORT.of d == 1) then c.srcRefuse i 2
  else if (was && c.changes (srcWord 0 |>.filter (·.isIn srcLocked)) i d) || ((opens || k != c.get R.SRC_CLASS i) && c.classBreak i k) then c.srcRefuse i 1
  else if fab != 0 then c.srcRefuse i fab
  else if opens && c.ringRoom < c.ringUsed + ringAlloc (c.get R.SRC_RING i) then c.srcRefuse i 2
  else
    let c := (c.store (srcWord 0) i d).set R.SRC_LAST 0 i
    (if opens then c.srcOpen i else if was && en = 0 then c.srcClose i else c).announce

/-- A write to word `w` of SRC[i] (R56, R73). -/
def Ctl.srcWrite (c : Ctl) (i w d : Nat) : Ctl :=
  let fields := srcWord w
  if roWord fields then c
  else if c.switching then c.srcRefuse i 1
  else if w = 0 then c.srcHead i d
  else if w = 3 then c.ringWrite i d
  else if c.is R.SRC_EN i && c.changes (fields.filter (·.isIn srcLocked)) i d then c.srcRefuse i 1
  else (c.store fields i d).set R.SRC_LAST 0 i

/-- A write to a SRC entry (R56, R59, R65). -/
def srcEntryWrite (m : Master) (i w d : Nat) (c : Ctl) : Ctl :=
  c.hngGate m (0x250000 + 32 * i + 4 * w) d (if w = 4 then none else some (R.SRC_LAST, i)) (·.srcWrite i w d)

/-- SRC word 0 as it stands, with EN at a value. -/
def Ctl.srcHeadAs (c : Ctl) (i en : Nat) : Nat :=
  ((srcWord 0).filter (fun r => r.id != R.SRC_EN.id)).foldl (fun n r => n + c.get r i * 2 ^ r.lo) en

/-- A write of SRC.EN = 1 (R94, R283). -/
def srcEnable (m : Master) (i : Nat) (c : Ctl) : Ctl := srcEntryWrite m i 0 (c.srcHeadAs i 1) c

/-- A write of SRC.EN = 0 (R65). -/
def srcDisable (m : Master) (i : Nat) (c : Ctl) : Ctl := srcEntryWrite m i 0 (c.srcHeadAs i 0) c

/-- A write of SRC.RING (R96). -/
def ringLengthWrite (m : Master) (i d : Nat) (c : Ctl) : Ctl := srcEntryWrite m i 3 d c

/-- The fill count when a ring takes a new length (R96). -/
def Ring.resize (r : Ring) (n : Nat) : Ring :=
  { r with pend := none, fill := min r.fill n, data := r.data.take n }

/-- A latched ring length takes effect at a window boundary (R96). -/
def ringLengthChange (i : Nat) (c : Ctl) : Ctl :=
  match kget? c.src.rings i with
  | none => c
  | some r =>
    match r.pend with
    | none => c
    | some n =>
      let c := { c with src := { c.src with rings := kput c.src.rings i (r.resize n) } }
      { c with tab := { c.tab with snap := c.tab.snap.set R.SRC_RING i n } }.set R.SRC_RING n i

/-! ## The ring writers (R94, R97) -/

/-- The sets in force of a source's biquads. -/
def Ctl.srcBqs (c : Ctl) (i : Nat) : List BqSet := (List.range 8).map (fun s => kgetD c.corr.bqForce (bqKey 1 i s) {})

/-- A block through a source's biquads, which keep their states (R117). -/
def Ctl.srcFilter (c : Ctl) (i : Nat) (l : List Int) : List Int × Ctl :=
  let ms := (List.range 8).map (fun s => kgetD c.src.bq (8 * i + s) {})
  let p := bqChain (c.srcBqs i) ms l
  let bq := (p.2.zipIdx).foldl (fun m e => if e.1 = {} then kdel m (8 * i + e.2) else kput m (8 * i + e.2) e.1) c.src.bq
  (p.1, { c with src := { c.src with bq := bq } })

/-- Appends a block, oldest sample first, to a ring of length `n` (R94). -/
def Ring.append (r : Ring) (n : Nat) (l : List Int) : Ring :=
  { r with fill := min n (r.fill + l.length), data := (l.reverse ++ r.data).take n, fresh := false }

/-- The ring that a tap or a near window reads: of a SRC entry, or from 256 on of an old entry. -/
def Ctl.ringOf (c : Ctl) (k : Nat) : Option Ring := if k < 256 then kget? c.src.rings k else kget? c.src.oldRings (k - 256)

/-- The near windows of a source's dense slots take the block too (R97); in the window after admission the most recent
samples of the ring are copied. -/
def Ctl.nearWrite (c : Ctl) (i : Nat) (l : List Int) : Ctl :=
  let one := fun (e : Nat × Near) =>
    if e.2.src != i then e
    else if e.2.copyDue then
      let r := (c.ringOf i).getD {}
      (e.1, { e.2 with copyDue := false, fill := min 4096 r.fill, fresh := (r.data.take 4096).reverse })
    else (e.1, { e.2 with fill := min 4096 (e.2.fill + l.length), fresh := e.2.fresh ++ l })
  { c with src := { c.src with near := c.src.near.map one } }

/-- The ring writer of one enabled source at a window boundary: the block acquired in the window before last is in the
ring, and the block staged in the last one, with its LINK, is held for the next boundary (R23, R60, R94). -/
def Ctl.ringBoundary (c : Ctl) (i : Nat) (staged : List Int) (link : Nat) : Ctl :=
  match kget? c.src.rings i with
  | none => c
  | some r =>
    let c := if r.held.isEmpty then c
      else
        let p := c.srcFilter i r.held
        let r' := (kgetD p.2.src.rings i r).append (c.get R.SRC_RING i) p.1
        let c := { p.2 with src := { p.2.src with rings := kput p.2.src.rings i r' } }
        ((c.nearWrite i p.1).setLink i (if c.get R.SRC_PORT i = 0 then 0 else r.heldLink)).set R.SRC_PEAK (levelDb (blockPeak p.1)) i
    match kget? c.src.rings i with
    | none => c
    | some r => { c with src := { c.src with rings := kput c.src.rings i { r with held := staged, heldLink := link } } }

/-- The old rings of a switch are written on from their own ports, without the source biquads, until its ramp tick ends, and so
are the near windows of the old objects (R75). -/
def Ctl.oldRingsBoundary (c : Ctl) (staged : Ring → List Int) : Ctl :=
  let one := fun (e : Nat × Ring) =>
    (e.1, { (if e.2.held.isEmpty then e.2 else e.2.append e.2.len e.2.held) with held := staged e.2 })
  let c := c.each c.src.oldRings (fun c e => if e.2.held.isEmpty then c else c.nearWrite (256 + e.1) e.2.held)
  { c with src := { c.src with oldRings := c.src.oldRings.map one } }

/-- The near windows' new samples go into the lofts: dense slot s has 4,096 words from (s mod 64) × 0x4000 of yard s div 64,
written in turn (R97; DESIGN CHOICE, log entry 33: from the first word on). -/
def Mach.nearPut (x : Mach) : Mach :=
  let at' := fun (e : Nat × Near) (k : Nat) => e.1 / 64 * 0x400000 + e.1 % 64 * 0x4000 + 4 * ((e.2.next + k) % 4096)
  let put := fun (m : Mem) (e : Nat × Near) => (e.2.fresh.zipIdx).foldl (fun m p => m.wrN (at' e p.2) 4 (ux 32 p.1)) m
  let f := x.c.fabr
  let hit := fun (w : Nat) => x.c.src.near.any fun e => (List.range e.2.fresh.length).any fun k => at' e k == w
  let done := fun (e : Nat × Near) => (e.1, { e.2 with next := (e.2.next + e.2.fresh.length) % 4096, fresh := [] })
  { c := { x.c with fabr := { f with loftPoison := f.loftPoison.filter (fun w => !hit w) },
                    src := { x.c.src with near := x.c.src.near.map done } },
    m := { x.m with loft := x.c.src.near.foldl put x.m.loft } }

/-! ## Tap delays that are clamped (R95) -/

/-- The object of the sparse tap record at loft byte `o`, or the feed of the dense one (R93, R103). -/
def tapOwner (o : Nat) : Nat :=
  let a := o % 0x400000
  if a < 0x190000 then o / 0x400000 * 256 + (a - 0x100000) / 0x900 else (a - 0x190000) % 0x4800 / 24

/-- The delay of the tap whose record lies at loft byte `o` is clamped: counted once per tap per tick, with one event per
tick (R95). -/
def Ctl.clampTap (c : Ctl) (o : Nat) : Ctl :=
  let l := c.src.clamped
  let c := c.set R.SYS_LAW_STATUS_CLAMP_SEEN 1
  if l.contains o then c
  else
    let c := { c.inc R.SYS_LAW_STATUS_CLAMPS with src := { c.src with clamped := o :: l } }
    if l.isEmpty then c.raise Ev.YARD_CLAMP (o / 0x400000) (tapOwner o) else c

/-! ## Law registers (R104) -/

/-- A write of SYS_LAW (R104). -/
def Ctl.sysLaw (c : Ctl) (d : Nat) : Ctl :=
  let cs := R.SYS_LAW_C_SOUND.of d
  let air := R.SYS_LAW_AIR_F.of d
  if cs < 33000 || 35500 < cs || (air != 0 && (air < 50 || 2000 < air)) then c
  else (c.set R.SYS_LAW_C_SOUND cs).set R.SYS_LAW_AIR_F air

/-- A write of SYS_LAW (R104), a mirrored write (R248). -/
def sysLawWrite (m : Master) (d : Nat) (c : Ctl) : Ctl := c.hngGate m 0x50 d none (·.sysLaw d)

/-- A write of SYS_LAW_SEL: an INDEX beyond its table is refused with RANGE (R104). -/
def Ctl.lawSelWrite (c : Ctl) (d : Nat) : Ctl :=
  let k := R.SYS_LAW_SEL_KIND.of d
  let i := R.SYS_LAW_SEL_INDEX.of d
  if k = 1 && 128 ≤ i then c else (c.set R.SYS_LAW_SEL_INDEX i).set R.SYS_LAW_SEL_KIND k

/-- SYS_LAW_INFO as a read returns it (R104). -/
def Ctl.lawInfo (c : Ctl) : Nat :=
  let i := c.get R.SYS_LAW_SEL_INDEX
  if c.is R.SYS_LAW_SEL_KIND then
    let s := kgetD c.src.solves i {}
    s.unresolved % 65536 + 2 ^ 16 * (s.passes % 16) + 2 ^ 20 * b2n s.fallback + 2 ^ 21 * b2n (c.get R.ZONE_GRID_COUNT i == 0)
  else
    let r := kgetD c.src.rings i {}
    r.fill % 2 ^ 17 + 2 ^ 17 * (r.alloc / 8192 % 16) + 2 ^ 21 * b2n r.pend.isSome

/-- What a law program reports by storing `v` to a law register (R84, R92, R100, R105): bits 2 and 3 of SYS_LAW_STATUS, a
deferred tap or a zone without one; with KIND = ZONE, UNRESOLVED and PASSES of SYS_LAW_INFO (DESIGN CHOICE, log entry 123). -/
def Ctl.lawReport (c : Ctl) (y a v : Nat) : Ctl :=
  if a = 0x54 then
    let d := (c.when (bit v 2) (·.set R.SYS_LAW_STATUS_DEFER_SEEN 1)).when (bit v 3) (·.set R.SYS_LAW_STATUS_NOTAP_SEEN 1)
    if bit v 2 || bit v 3 then d.raise Ev.YARD_LAW y else d
  else if a = 0x5C && c.is R.SYS_LAW_SEL_KIND then
    let i := c.get R.SYS_LAW_SEL_INDEX
    let s : SolveInfo := { kgetD c.src.solves i {} with unresolved := v % 65536, passes := v / 65536 % 16 }
    let c := { c with src := { c.src with solves := kput c.src.solves i s } }
    if s.unresolved = 0 then c else (c.set R.SYS_LAW_STATUS_EXIT_SEEN 1).raise Ev.YARD_EXIT y i
  else c

/-! ## Tap records that a law or mix program writes (R92, R93, R95, R103) -/

/-- The object of the sparse tap whose record lies at loft byte `a` (R93). -/
def tapObj (a : Nat) : Nat := a / 0x400000 * 256 + (a % 0x400000 - 0x100000) / 0x900

/-- The place of CLAMP in the header word at loft byte `w`, where a tap record begins there: sparse (R93) or dense (R103). -/
def clampBit (w : Nat) : Option Nat :=
  let a := w % 0x400000
  if 0x100000 ≤ a && a < 0x190000 && (a - 0x100000) % 48 == 0 then some 11
  else if 0x190000 ≤ a && a < 0x2B0000 && (a - 0x190000) % 24 == 0 then some 16
  else none

/-- The live sparse taps of object `i` (R92). -/
def liveTaps (loft : Mem) (i : Nat) : Nat :=
  (List.range 48).countP fun t => bit (loft.rdN (i / 256 * 0x400000 + 0x100000 + i % 256 * 0x900 + 48 * t) 4) 10

/-- A law or mix program has stored `n` bytes from loft byte `o` on, within one word: CLAMP stored as 1 is a clamp of that tap,
and OBJ.TAPS shows the live slots (log entry 123). -/
def Mach.lawNote (x : Mach) (o n : Nat) : Mach :=
  let w := o / 4 * 4
  match clampBit w with
  | none => x
  | some b =>
    let c := if o ≤ w + b / 8 && w + b / 8 < o + n && bit (x.m.loft.rdN w 4) b then x.c.clampTap w else x.c
    let i := tapObj w
    { x with c := if b = 11 then c.set R.OBJ_TAPS (liveTaps x.m.loft i) i else c }

end Sys2Proof.Machine
end

