-- ==== Sys2Proof/Machine/Stall.lean ====
section
/-! DEFINITION. The stalls (spec/07): bundles, registers and their latencies, resources, streams, and the end of a job.
One command carries one slot operation; the last one of a bundle lands the bundle's effects (R161). -/
namespace Sys2Proof.Machine

/-! ## Access -/

/-- The yard of a stall. -/
def stallYard (s : Nat) : Nat := s / 32

/-- The stable of a stall. -/
def stallStable (s : Nat) : Nat := s / 8

/-- A stall's job, if it runs one. -/
def Ctl.stall? (c : Ctl) (s : Nat) : Option StallSt := kget? c.fabr.stalls s

/-- Sets a stall's job. -/
def Ctl.setStall (c : Ctl) (s : Nat) (st : StallSt) : Ctl := { c with fabr := { c.fabr with stalls := kput c.fabr.stalls s st } }

/-- A stable's queue and arbitration. -/
def Ctl.stable (c : Ctl) (n : Nat) : StableSt := kgetD c.fabr.stables n {}

/-- Sets a stable. -/
def Ctl.setStable (c : Ctl) (n : Nat) (t : StableSt) : Ctl := { c with fabr := { c.fabr with stables := kput c.fabr.stables n t } }

/-- A yard's window state. -/
def Ctl.yard (c : Ctl) (y : Nat) : YardSt := kgetD c.fabr.yards y {}

/-- Sets a yard's window state. -/
def Ctl.setYard (c : Ctl) (y : Nat) (t : YardSt) : Ctl := { c with fabr := { c.fabr with yards := kput c.fabr.yards y t } }

/-- A yard's sequencer. -/
def Ctl.seq (c : Ctl) (y : Nat) : SeqSt := kgetD c.seqs y {}

/-- Sets a yard's sequencer. -/
def Ctl.setSeq (c : Ctl) (y : Nat) (q : SeqSt) : Ctl := { c with seqs := kput c.seqs y q }

/-- A stream channel. -/
def Ctl.chan (c : Ctl) (y ch : Nat) : Chan := kgetD c.fabr.chans (16 * y + ch) {}

/-- Sets a stream channel. -/
def Ctl.setChan (c : Ctl) (y ch : Nat) (k : Chan) : Ctl :=
  { c with fabr := { c.fabr with chans := kput c.fabr.chans (16 * y + ch) k } }

/-- Whether two channels name the same yard and number. -/
def Chan.ownedBy (k : Chan) (s : Nat) : Bool := k.owner == some s

/-! ## Completion queue (R183, R204) -/

/-- Pushes a completion record: a push into a full queue overwrites the oldest record (R204, R377). -/
def SeqSt.pushCq (q : SeqSt) (r : CqRec) : SeqSt :=
  if q.cq.length < 256 then { q with cq := q.cq ++ [r] }
  else { q with cq := q.cq.tail ++ [r], cqLost := (q.cqLost + 1) % 2 ^ 32 }

/-! ## Resources (R144, R179, R403 to R405) -/

/-- The owner code of a job of a stall (R404). -/
def jobOwner (s : Nat) : Nat := 2 + stallYard s + 16 + 32 * s

/-- Whether a resource is free for the stalls of `s`'s stable and yard. -/
def Ctl.resFree (c : Ctl) (s level index : Nat) : Bool :=
  if level = 1 then cget c.fabr.locks (8 * stallStable s + index) == 0
  else if level = 2 then (c.chan (stallYard s) index).owner.isNone
  else c.get R.LATCH index == 0

/-- Whether a job of `s` and a job of `t` compete for one resource. -/
def sameScope (level s t : Nat) : Bool :=
  if level = 1 then stallStable s == stallStable t else if level = 2 then stallYard s == stallYard t else true

/-- Marks a resource as held by a stall, or free. -/
def Ctl.resMark (c : Ctl) (s level index : Nat) (take : Bool) : Ctl :=
  if level = 1 then
    { c with fabr := { c.fabr with locks := cset c.fabr.locks (8 * stallStable s + index) (if take then s + 1 else 0) } }
  else if level = 2 then
    let k := c.chan (stallYard s) index
    c.setChan (stallYard s) index (if take then { k with owner := some s } else {})
  else c.set R.LATCH (if take then 0x80000000 + jobOwner s else 0) index

/-- A stall acquires a resource: it is the last in its list, and STATUS is OK. Where it waited, its bundle issues next. -/
def Ctl.resTake (c : Ctl) (s level index : Nat) : Ctl :=
  match c.stall? s with
  | none => c
  | some st =>
    let w : Wait := if st.wait == .acq level index then .granted else .none
    let fx := st.fx.filter (fun e => !(st.wait == .acq level index && e == .acq level index))
    (c.resMark s level index true).setStall s { st with held := (level, index) :: st.held, status := 0, wait := w, fx := fx }

/-- A freed resource goes to a stall that waits for it in ACQ; which of several is not stated (free value). -/
def Ctl.resGrant (c : Ctl) (s level index : Nat) : Ctl :=
  let ws := (c.fabr.stalls.filter (fun e => e.2.wait == .acq level index && sameScope level s e.1)).map (·.1)
  match ws with
  | [] => c
  | w :: _ =>
    let p := c.free 7
    p.2.resTake (ws.getD (p.1 % ws.length) w) level index

/-- A resource is freed, and granted to a waiting stall. -/
def Ctl.resFreeUp (c : Ctl) (s level index : Nat) : Ctl := (c.resMark s level index false).resGrant s level index

/-- A refused acquisition or release (R144). -/
def Ctl.orderRefuse (c : Ctl) (s : Nat) : Ctl :=
  let c := match c.stall? s with | none => c | some st => c.setStall s { st with status := 1 }
  (c.set R.YARD_STATUS_ORDER_SEEN 1 (stallYard s)).raise Ev.YARD_ORDER (stallYard s)

/-- Lexicographic order of (level, index). -/
def resAbove (a b : Nat × Nat) : Bool := b.1 < a.1 || (a.1 == b.1 && b.2 < a.2)

/-- ACQ in its bundle (R144, R179), which issues once the resource is free. -/
def Ctl.acqDo (c : Ctl) (s level index : Nat) : Ctl :=
  match c.stall? s with
  | none => c
  | some st =>
    if st.held.all (fun h => resAbove (level, index) h) then c.resTake s level index else c.orderRefuse s

/-- REL in its bundle, which issues once the running transfer of its channel has ended: only the last acquired resource. -/
def Ctl.relDo (c : Ctl) (s level index : Nat) : Ctl :=
  match c.stall? s with
  | none => c
  | some st =>
    if st.held.head? != some (level, index) then c.orderRefuse s
    else (c.setStall s { st with held := st.held.tail, status := 0, wait := .none }).resFreeUp s level index

/-! ## The end of a job (R145, R157, R183, R184) -/

/-- The level of a fault (R156): 0 stall, 1 stable, 3 chip. A GUARD abort, which the table of levels does not list, captures 0
(DESIGN CHOICE, log entry 138). -/
def faultLevel (code : Nat) : Nat := if code = 2 then 1 else if code = 7 then 3 else 0

/-- Counts and captures an abort (R157); a parity abort may retire the stall (R156). -/
def Ctl.abortNote (c : Ctl) (s fault : Nat) : Ctl :=
  let y := stallYard s
  let first := !c.is R.YARD_STATUS_FAULT_SEEN y
  let c := c.when first (fun c =>
    ((((c.set R.YARD_ERR_CAP_LEVEL (faultLevel fault) y).set R.YARD_ERR_CAP_STABLE (stallStable s % 4) y).set
      R.YARD_ERR_CAP_STALL (s % 8) y).set R.YARD_ERR_CAP_FAULT fault y).set R.YARD_ERR_WIN_WIN c.winNo y)
  let c := ((c.set R.YARD_STATUS_FAULT_SEEN 1 y).inc R.YARD_ABORTS y).raise Ev.YARD_FAULT y
  if fault != 1 then c
  else
    let w := c.cwin
    let l := w :: (kgetD c.fabr.parity s []).filter (fun v => (w + 2 ^ 32 - v) % 2 ^ 32 < 1024)
    let c := { c with fabr := { c.fabr with parity := kput c.fabr.parity s l } }
    if 3 ≤ l.length then c.set R.YARD_STALL_OFF_OFF (setBit (c.get R.YARD_STALL_OFF_OFF y) (s % 32)) y else c

/-- The objects that a MIX order which ended in time covers (R148). -/
def Ctl.cover (c : Ctl) (y : Nat) (o : Order) : Ctl :=
  let t := c.yard y
  if o.kind != 1 || o.deadline != c.cwin || t.cut then c
  else c.setYard y { t with covered := (List.range o.count).map (o.first + ·) ++ t.covered }

/-- The job of a stall ends: its resources are released in descending order, its completion record is written and the
stall is freed (R145, R183). A MIX or law order that did not end with HALT is missed. CYCLES counts the cycles of a freeze that
ends with the job, a free value (log entry 132). -/
def Ctl.endJob (c : Ctl) (s fault user : Nat) : Ctl :=
  match c.stall? s with
  | none => c
  | some st =>
    let y := stallYard s
    let p : Nat × Ctl := if st.froze then c.free 32 else (0, c)
    let c : Ctl := { p.2 with fabr := { p.2.fabr with stalls := kdel p.2.fabr.stalls s } }
    let c : Ctl := c.each st.held (fun c h => c.resFreeUp s h.1 h.2)
    let rec0 := (if fault = 0 then 0 else 7) + 16 * fault + 256 * b2n st.sat + 65536 * st.govf + 16777216 * user
    let r : CqRec := { words := [rec0, st.order.post, (st.cycles + p.1) % 2 ^ 32, st.pc % 2 ^ 18] }
    let q := c.seq y
    let old := decide (2 ^ 31 ≤ (st.order.post + 2 ^ 32 - q.firstPost) % 2 ^ 32)
    let c := if old then c else c.setSeq y (q.pushCq r)
    if fault = 0 then c.cover y st.order
    else if st.order.kind = 0 then c
    else
      let t := c.yard y
      c.setYard y { t with missMix := st.order :: t.missMix }

/-- Aborts the job of a stall (R157, R184). -/
def Ctl.abortJob (c : Ctl) (s fault : Nat) : Ctl := (c.endJob s fault 0).abortNote s fault

/-- HALT: its bundle has issued, no transfer of its channels being outstanding; the job ends with its last ACC send (R183). -/
def Ctl.haltTry (c : Ctl) (s : Nat) : Ctl :=
  match c.stall? s with
  | none => c
  | some st =>
    match st.wait with
    | .halt user => if st.sends != 0 || !st.fx.isEmpty then c else c.endJob s 0 user
    | _ => c

/-! ## Registers and operands -/

/-- The physical register that a v name resolves to (R177). -/
def StallSt.phys (st : StallSt) (n : Nat) : Nat := if n < 32 then n else 32 + (n - 32 + st.rrb) % 32

/-- A v register as the sample operand. -/
def StallSt.samp (st : StallSt) (n : Nat) : Int := sx 32 (cget st.v (st.phys n))

/-- A v register as the coefficient operand (R163). -/
def StallSt.coef (st : StallSt) (n : Nat) : Int := sx 24 (cget st.v (st.phys n) / 256)

/-- A pointer. -/
def StallSt.ptr (st : StallSt) (k : Nat) : Nat := cget st.p k

/-- An accumulator, as a signed 72-bit value. -/
def StallSt.acc (st : StallSt) (d : Nat) : Int := kgetD st.a d 0

/-- The conversion of R165: the 32-bit pattern, and whether it saturated. -/
def convAcc (a : Int) (sh : Nat) : Nat × Bool :=
  let r := asr a ([0, 16, 20, 21, 22, 23, 24, 31].getD sh 0)
  (ux 32 (sat31 r), sats31 r)

/-- The ring length and base of a pointer: none where it is plain (R171). -/
def StallSt.ring (st : StallSt) (k : Nat) : Option (Nat × Nat) :=
  if k < 4 && cget st.m k % 65536 != 0 then some (cget st.m k / 65536, cget st.m k % 65536) else none

/-- A pointer advanced by `d` words round its ring, or by `plain` bytes where it is plain (R171). -/
def StallSt.advance (st : StallSt) (k : Nat) (d plain : Int) : Nat :=
  let x := st.ptr k
  match st.ring k with
  | some (base, len) =>
    let w : Int := ((x / 4 : Nat) : Int)
    ux 32 (4 * (base + ((w - base + d) % (len : Int))) + ((x % 4 : Nat) : Int))
  | none => ux 32 ((x : Int) + plain)

/-- The words that a post-modify code advances by (R172). -/
def postWords (code : Nat) : Int := if code = 1 then 1 else if code = 2 then -1 else if code = 3 then 4 else 0

/-- A post-modify of the L slot. -/
def StallSt.post (st : StallSt) (k code : Nat) : List Fx :=
  if code = 0 then [] else [.p 2 k (st.advance k (postWords code) (4 * postWords code)) 1]

/-- The address of word `i` of a group access through a pointer (R171). -/
def StallSt.groupAddr (st : StallSt) (k i : Nat) : Nat :=
  match st.ring k with
  | some (base, len) => 4 * (base + (((st.ptr k / 4 : Nat) : Int) - base + i) % (len : Int)).toNat
  | none => st.ptr k + 4 * i

/-- Whether an address is a word of the stable store. -/
def storeOk (a : Nat) : Bool := a < 0x40000 && a % 4 == 0

/-- Whether a store address lies in the code region of a loaded program (R173, R181). -/
def Ctl.inCode (c : Ctl) (y a : Nat) : Bool :=
  let q := c.seq y
  [q.active, q.loaded].any (fun i => match i with | some g => g.jobBase ≤ a && a < g.jobBase + g.jobSize | none => false)

/-- The byte address of a store word in the sixteen stores. -/
def storeAt (s a : Nat) : Nat := stallStable s * 0x40000 + a

/-! ## Streams (R180) -/

/-- The bytes of the usable DRAM. -/
def Ctl.usable (c : Ctl) : Nat := c.get R.DRAM_SIZE_USABLE * 2 ^ 29

/-- Reads a descriptor; none where a field is out of its range or a range lies outside its memory. -/
def Mach.descAt (x : Mach) (s a : Nat) : Option Desc :=
  let w := fun (i : Nat) => x.m.store.rdN (storeAt s (a + 4 * i)) 4
  let kind := w 1 / 256 % 4
  let far := w 0 + 2 ^ 32 * (w 1 % 256)
  let d : Desc := ⟨far, kind == 1, bit (w 1) 10, w 2, w 3, w 4 + 2 ^ 32 * w 5, w 6⟩
  let lim := if kind = 1 then x.c.usable else 2 ^ 24
  let span := fun (b n : Nat) => b + n ≤ lim && (kind == 1 || b / 2 ^ 22 == (b + n - 1) / 2 ^ 22)
  let farOk := if d.ringLen = 0 then span far d.len
    else span d.ringBase d.ringLen && d.ringBase ≤ far && far < d.ringBase + d.ringLen && d.ringLen % 4 == 0
  if a % 32 == 0 && a + 32 ≤ 0x40000 && kind < 2 && w 1 < 2048 && w 2 < 0x40000 && w 2 % 4 == 0 && 4 ≤ d.len && d.len ≤ 262144 &&
    d.len % 4 == 0 && w 2 + d.len ≤ 0x40000 && w 5 < 256 && w 7 == 0 && farOk then some d else none

/-- The far address of byte `i` of a transfer. -/
def Desc.farAt (d : Desc) (i : Nat) : Nat :=
  if d.ringLen = 0 then d.far + i else d.ringBase + (d.far - d.ringBase + i) % d.ringLen

/-- Whether one of `n` bytes of a stall's store from `a` on lies in a poisoned word (R156). -/
def Ctl.storeBad (c : Ctl) (s a n : Nat) : Bool :=
  c.fabr.storePoison.any (fun w => storeAt s a / 4 * 4 ≤ w && w < storeAt s a + n)

/-- STRM or SWAIT on a channel that the job does not hold (R180). -/
def Ctl.chanState (c : Ctl) (s : Nat) (st : StallSt) : Ctl :=
  let y := stallYard s
  ((c.setStall s { st with status := 1 }).set R.YARD_STATUS_ERR_STATE 1 y).raise Ev.YARD_STATE y

/-- STRM in its bundle, which issues once the channel's last transfer has ended: the transfer starts. -/
def Mach.strmDo (x : Mach) (s ch a : Nat) : Mach :=
  let y := stallYard s
  match x.c.stall? s with
  | none => x
  | some st =>
    let k := x.c.chan y ch
    if !k.ownedBy s then { x with c := x.c.chanState s st }
    else match x.descAt s a with
      | none => x
      | some d => { x with c := (x.c.setChan y ch { k with run := some d, aged := false }).setStall s { st with status := 0 } }

/-- SWAIT in its bundle, which issues once the channel's last transfer has ended. -/
def Ctl.swaitDo (c : Ctl) (s ch : Nat) : Ctl :=
  match c.stall? s with
  | none => c
  | some st => if (c.chan (stallYard s) ch).ownedBy s then c.setStall s { st with status := 0 } else c.chanState s st

/-- What holds a bundle back (R167), `none` where nothing does: a held resource for ACQ, a running transfer for STRM, SWAIT, REL
and HALT. -/
def Ctl.bundleWait (c : Ctl) (s : Nat) (st : StallSt) (fx : List Fx) : Wait :=
  let runs := fun (i : Nat) => (c.chan (stallYard s) i).ownedBy s && (c.chan (stallYard s) i).run.isSome
  let one := fun (e : Fx) => match e with
    | .acq l i => if st.held.all (fun h => resAbove (l, i) h) && !c.resFree s l i then some (Wait.acq l i) else none
    | .rel l i => if l == 2 && st.held.head? == some (2, i) && runs i then some (Wait.rel i) else none
    | .strm ch _ => if runs ch then some (Wait.strm ch) else none
    | .swait ch => if runs ch then some (Wait.swait ch) else none
    | .halt u => if st.held.any (fun h => h.1 == 2 && runs h.2) then some (Wait.halt u) else none
    | _ => none
  (fx.findSome? one).getD .none

/-- A cause that shows only when the bundle is free to issue (R180): a bad descriptor, or at a SWAIT or HALT the error of a
transfer that the job started (the next one of either, whichever the channel: DEDUCED, log entry 132). -/
def Mach.lateFault (x : Mach) (s : Nat) (st : StallSt) (fx : List Fx) : Option Nat :=
  let mine := fun (ch : Nat) => (x.c.chan (stallYard s) ch).ownedBy s
  let one := fun (e : Fx) => match e with
    | .strm ch a =>
      if !mine ch then none
      else if a % 32 != 0 || 0x40000 < a + 32 then some 6
      else if x.c.storeBad s a 32 then some 2
      else if (x.descAt s a).isNone then some 6 else none
    | .swait ch => if mine ch && st.bad then some 7 else none
    | .halt _ => if st.bad then some 7 else none
    | _ => none
  fx.findSome? one

/-- The words of a transfer, moved; the second component is false where a poisoned store word was read (R180). -/
def Mach.move (x : Mach) (s : Nat) (d : Desc) : Mach × Bool :=
  let words := List.range (d.len / 4)
  let st := fun (i : Nat) => storeAt s (d.store + 4 * i)
  if d.out then
    let bad := words.any (fun i => x.c.fabr.storePoison.any (· == st i))
    let put := fun (m : Mem) => words.foldl (fun m i => m.wrN (d.farAt (4 * i)) 4 (x.m.store.rdN (st i) 4)) m
    let far := words.map (fun i => d.farAt (4 * i))
    if d.dram then ({ x with m := { x.m with dram := put x.m.dram } }, !bad)
    else
      let z : Mach := { c := { x.c with fabr := { x.c.fabr with loftPoison := x.c.fabr.loftPoison.filter (fun w => !far.any (· == w)) } },
                        m := { x.m with loft := put x.m.loft } }
      (far.foldl (fun (z : Mach) w => z.lawNote w 4) z, !bad)
  else
    let step := fun (e : Mem × Ctl) (i : Nat) =>
      let a := d.farAt (4 * i)
      let p := if d.dram then e.2.dramOut x.m.dram a 4 else (x.m.loft.rds a 4, e.2)
      (e.1.wrs (st i) p.1, p.2)
    let moved := words.foldl step (x.m.store, x.c)
    let bad := if d.dram then [] else words.filter (fun i => x.c.fabr.loftPoison.any (· == d.farAt (4 * i)))
    let kept := x.c.fabr.storePoison.filter (fun w => !words.any (fun i => st i == w))
    ({ c := { moved.2 with fabr := { x.c.fabr with storePoison := bad.map st ++ kept } }, m := { x.m with store := moved.1 } }, true)

/-- The DRAM side of a transfer, as the yard's requester in the class of its stall: the first chunk that is known to be
uncorrectable freezes the controller, unless it is written as a whole (R354, R365, R367). -/
def Ctl.streamTouch (c : Ctl) (y cls : Nat) (d : Desc) : Ctl × Bool :=
  let far := (List.range (d.len / 4)).map (fun i => d.farAt (4 * i))
  let whole := fun (k : Nat) => d.out && (List.range 8).all (fun j => far.any (· == 32 * k + 4 * j))
  let c := if d.dram then c.dramWake else c
  if !d.dram || c.dram.bad.isEmpty then (c, true)
  else match far.find? (fun a => c.dram.bad.any (· == a / 32) && !whole (a / 32)) with
  | some a =>
    (c.dramFreeze { num := 0, req := y, master := 0, cls := cls, addr := a, len := 4, isWrite := d.out, write := [] } (a / 32) false,
      false)
  | none => ({ c with dram := { c.dram with bad := c.dram.bad.filter (fun k => !(d.out && far.any (· / 32 == k))) } }, true)

/-! ## The end of a bundle -/

/-- One register write that lands. An accumulating write adds onto the value of that moment and may set GOVF (R164). -/
def StallSt.land (st : StallSt) : Fx → StallSt
  | .v k val => { st with v := cset st.v k val }
  | .aset d val => { st with a := kput st.a d (wrap72 val) }
  | .aadd d val =>
    let z := st.acc d + val
    let wrapped := decide (z < -(2 ^ 71) ∨ 2 ^ 71 ≤ z)
    { st with a := kput st.a d (wrap72 z), govf := if wrapped then setBit st.govf d else st.govf }
  | .p _ k val _ => { st with p := cset st.p k val }
  | .c n val => { st with lc := cset st.lc n val }
  | .m k val => { st with m := cset st.m k val }
  | .sat => { st with sat := true }
  | _ => st

/-- The latency of a register write (R166); none for the other effects. -/
def Fx.latency : Fx → Option Nat
  | .v _ _ => some 2
  | .aset _ _ | .aadd _ _ => some 3
  | .p _ _ _ l => some l
  | .c _ _ | .m _ _ => some 1
  | .sat => some 0
  | _ => none

/-- Lands every write that is visible by now: in the order in which they become so, and of two that land together the one
issued later stands (R166, R168). -/
def StallSt.landDue (st : StallSt) : StallSt :=
  let due := sortBy (fun a b => a.1 ≤ b.1) (st.pend.filter (fun e => e.1 ≤ st.t))
  due.foldl (fun st e => st.land e.2) { st with pend := st.pend.filter (fun e => st.t < e.1) }

/-- The pass ends of the loops that end at address `a` (R176, R177): the inner pass first. -/
def passEnd (a : Nat) : List LoopRt → StallSt → StallSt
  | [], st => { st with loops := [], pc := a + 8 }
  | l :: ls, st =>
    if l.stop != a then { st with loops := l :: ls, pc := a + 8 }
    else
      let n := cget st.lc l.n - 1
      let rrb := if l.rot = 1 then (st.rrb + 31) % 32 else if l.rot = 2 then (st.rrb + 28) % 32 else st.rrb
      let st := { st with lc := cset st.lc l.n n, rrb := rrb }
      if n != 0 then { st with loops := l :: ls, pc := l.start } else passEnd a ls st

/-- Where fetching goes on after the bundle, and the bubbles of a taken branch (R167, R176, R178). -/
def StallSt.nextPc (st : StallSt) (fx : List Fx) : StallSt :=
  match fx.findSome? (fun e => match e with | .branch t => some t | _ => none),
    fx.findSome? (fun e => match e with | .loop n r l => some (n, r, l) | _ => none) with
  | some t, _ => { st with pc := t, t := st.t + 2, cycles := st.cycles + 2 }
  | _, some (n, r, l) =>
    let stop := st.pc + 8 * l
    if cget st.lc n = 0 then passEnd stop st.loops st
    else { st with loops := ⟨n, r, st.pc + 8, stop⟩ :: st.loops, pc := st.pc + 8 }
  | _, _ => passEnd st.pc st.loops st

/-- The FAULT of a bundle with several causes (R184). -/
def firstFault (fx : List Fx) : Option Nat :=
  [5, 1, 6, 2, 7].find? (fun k => fx.any (fun e => e == .fault k))

/-- Whether the A slot and the L slot write one pointer in the bundle (R161). -/
def ptrClash (fx : List Fx) : Bool :=
  fx.any (fun e => match e with
    | .p 1 k _ _ => fx.any (fun g => match g with | .p 2 j _ _ => j == k | _ => false)
    | _ => false)

/-- Adds a value into a feed accumulator, modulo 2^72 (R174). -/
def Ctl.accAdd (c : Ctl) (f j : Nat) (z : Int) : Ctl :=
  if !c.is R.FEED_EN f then c
  else
    let q := kgetD c.corr.feeds f {}
    let acc := if q.acc.isEmpty then List.replicate c.winSamples 0 else q.acc
    let acc := acc.set j (wrap72 (acc.getD j 0 + z))
    { c with corr := { c.corr with feeds := kput c.corr.feeds f { q with acc := acc } } }

/-- The stores and sends of a bundle. -/
def Mach.bundleMem (x : Mach) (s : Nat) : List Fx → Mach
  | [] => x
  | .store a val :: l =>
    let g := storeAt s a
    Mach.bundleMem { c := { x.c with fabr := { x.c.fabr with storePoison := x.c.fabr.storePoison.filter (· != g) } },
                     m := { x.m with store := x.m.store.wrN g 4 val } } s l
  | .send i z :: l => Mach.bundleMem { x with c := x.c.accAdd (i / 128) (i % 128) (sx 72 z) } s l
  | _ :: l => Mach.bundleMem x s l

/-- The resource and stream effects of a bundle. -/
def Mach.bundleRes (x : Mach) (s : Nat) : List Fx → Mach
  | [] => x
  | .acq k i :: l => Mach.bundleRes { x with c := x.c.acqDo s k i } s l
  | .rel k i :: l => Mach.bundleRes { x with c := x.c.relDo s k i } s l
  | .strm ch a :: l => Mach.bundleRes (x.strmDo s ch a) s l
  | .swait ch :: l => Mach.bundleRes { x with c := x.c.swaitDo s ch } s l
  | .halt u :: l =>
    let c := match x.c.stall? s with
      | none => x.c
      | some st => x.c.setStall s { st with wait := .halt u, froze := st.froze || st.sends != 0 }
    Mach.bundleRes { x with c := c.haltTry s } s l
  | _ :: l => Mach.bundleRes x s l

/-- Counts a job's stall cycles for its class, and as lent (YARD_CYC, YARD_LENT, R138). -/
def Ctl.useCycles (c : Ctl) (s : Nat) (st : StallSt) (n : Nat) : Ctl :=
  let b := c.stable (stallStable s)
  c.setStable (stallStable s) { b with
    used := cset b.used st.order.cls (cget b.used st.order.cls + n), lent := if st.lent then b.lent + n else b.lent }

/-- The bundle `fx` of a stall issues: its effects land (R161). -/
def Mach.bundleGo (x : Mach) (s : Nat) (st : StallSt) (fx : List Fx) : Mach :=
  let sends := (fx.filter (fun e => match e with | .send _ _ => true | _ => false)).length
  let pend := fx.filterMap (fun e => e.latency.map (fun l => (st.t + l, e)))
  let halting := fx.any (fun e => match e with | .halt _ => true | _ => false)
  let st1 := { st with
    fx := [], pend := st.pend ++ pend, t := st.t + 1, cycles := st.cycles + 1, sends := st.sends + sends, wait := .none }
  let rrb := fx.findSome? (fun e => match e with | .rrb r => some r | _ => none)
  let st2 := if halting then st1 else st1.nextPc fx
  let st3 := ({ st2 with rrb := rrb.getD st2.rrb }).landDue
  let x := { x with c := (x.c.setStall s st3).useCycles s st (st3.cycles - st.cycles) }
  (x.bundleMem s fx).bundleRes s fx

/-- The bundle in issue is complete: its effects land, its causes abort the job with none of its writes, or it waits (R161,
R167, R184). -/
def Mach.bundleEnd (x : Mach) (s : Nat) : Mach :=
  match x.c.stall? s with
  | none => x
  | some st =>
    let fx := if ptrClash st.fx then .fault 5 :: st.fx else st.fx
    match firstFault fx with
    | some k => { x with c := x.c.abortJob s k }
    | none =>
      let w := x.c.bundleWait s st fx
      if w != .none then { x with c := x.c.setStall s { st with fx := fx, wait := w, froze := true } }
      else match x.lateFault s st fx with
        | some k => { x with c := x.c.abortJob s k }
        | none => x.bundleGo s st fx

/-- A bundle whose ACQ has received its resource issues. -/
def Mach.wake (x : Mach) (s : Nat) : Mach :=
  match x.c.stall? s with
  | none => x
  | some st => if st.wait == .granted then x.bundleGo s st st.fx else x

/-- A bundle that has issued completes before a limit or the guard acts (R184): one whose slots have been given in part, and one
whose ACQ has its resource. A bundle that still waits has not issued (R167). -/
def Mach.bundleSettle (x : Mach) (s : Nat) : Mach :=
  let x := x.wake s
  match x.c.stall? s with
  | none => x
  | some st => if st.wait == .none && !st.fx.isEmpty then x.bundleEnd s else x

/-- A word of a yard found in error: counted where corrected, poisoned where not (R156, R419). -/
def Ctl.eccHit (c : Ctl) (y : Nat) (h : ScrubHit) : Ctl :=
  let cnt := if h.loft then R.YARD_ECC_CORR_LOFT else R.YARD_ECC_CORR_STORE
  if !h.bad then c.inc cnt y
  else
    let w := (if h.loft then y * 0x400000 else y * 0x100000) + h.addr / 4 * 4
    let f := c.fabr
    let c := { c with fabr := if h.loft then { f with loftPoison := w :: f.loftPoison.filter (· != w) }
                              else { f with storePoison := w :: f.storePoison.filter (· != w) } }
    (c.set R.YARD_STATUS_ECC_SEEN 1 y).raise Ev.YARD_ECC y

/-- What the check of a store word at `a` finds when a stall reads it (R156). -/
def Ctl.storeEcc (c : Ctl) (s a : Nat) (e : EccOut) : Ctl :=
  if 0x40000 ≤ a then c
  else match e with
    | .clean => c
    | .corrected => c.eccHit (stallYard s) ⟨false, storeAt s a % 0x100000, false⟩
    | .bad _ => c.eccHit (stallYard s) ⟨false, storeAt s a % 0x100000, true⟩

/-- One slot operation: `f` gives its effects from the registers as they stand at issue, `a` the store word whose check the slot
carries. A stall that runs no job or is frozen issues nothing. -/
def slotAt (k : Slot) (a : StallSt → Nat) (f : Mach → StallSt → List Fx) (x : Mach) : Mach :=
  let x := x.wake k.stall
  match x.c.stall? k.stall with
  | none => x
  | some st =>
    if st.wait != .none then x
    else
      let x := { x with c := x.c.storeEcc k.stall (a st) k.ecc }
      let fx := (if k.parity then [Fx.fault 1] else []) ++ (if k.mbz then [Fx.fault 5] else []) ++
        (if 0x40000 ≤ st.pc then [Fx.fault 6] else if x.c.storeBad k.stall st.pc 8 then [Fx.fault 2] else []) ++ f x st
      let c := (x.c.setStall k.stall { st with fx := st.fx ++ fx, cycles := st.cycles + k.frozen, froze := false }).useCycles
        k.stall st k.frozen
      let x := { x with c := c }
      if k.last then x.bundleEnd k.stall else x

/-- A slot operation that loads no store word. -/
def slotOp (k : Slot) (f : Mach → StallSt → List Fx) : Mach → Mach := slotAt k (·.pc) f

/-- A stream transfer of the yard ends (R180). A stall that waits in STRM, SWAIT, REL or HALT goes on. -/
def streamTransferEnd (y : Fin 4) (ch : Fin 16) (fin : XferEnd) (x : Mach) : Mach :=
  let k := x.c.chan y ch
  match k.run, k.owner with
  | some d, some s =>
    let x := { x with c := x.c.each fin.ecc (fun c h => c.eccHit y h) }
    let frozen := d.dram && x.c.get R.DRAM_STATUS_MODE == 3
    let q := if fin.err || frozen then (x.c, false) else x.c.streamTouch y (match x.c.stall? s with | some st => st.order.cls | none => 3) d
    let p := if q.2 then Mach.move { x with c := q.1 } s d else ({ x with c := q.1 }, false)
    let x := { p.1 with c := p.1.c.setChan y ch { k with run := none } }
    match x.c.stall? s with
    | none => x
    | some st =>
      let st := { st with bad := st.bad || !p.2 }
      let go : Bool := match st.wait with
        | .strm n => n == ch.val
        | .swait n => n == ch.val
        | .rel n => n == ch.val
        | .halt _ => !st.fx.isEmpty
        | _ => false
      let x := { x with c := x.c.setStall s (if go then { st with wait := .none } else st) }
      if go then x.bundleEnd s else x
  | _, _ => x

/-- The all-zero bundle, or a slot that spells a reserved opcode (R160, R185). -/
def nopBundle (k : Slot) : Mach → Mach := slotOp { k with last := k.last || !k.mbz } (fun _ _ => [])

/-! ## M slot (R169) -/

/-- Four lanes of a coefficient-broadcast multiply. -/
def lanesC (st : StallSt) (b s : Nat) : List Int := (List.range 4).map (fun i => st.samp (b + i) * st.coef s)

/-- Four lanes of a sample-broadcast multiply. -/
def lanesS (st : StallSt) (b s : Nat) : List Int := (List.range 4).map (fun i => st.samp s * st.coef (b + i))

/-- Writes four lanes into a[4D] to a[4D+3]; B above 60 is ILLEGAL (R185). -/
def laneFx (mk : Nat → Int → Fx) (d b : Nat) (l : List Int) : List Fx :=
  if 60 < b then [.fault 5] else (l.zipIdx).map (fun e => mk (4 * d + e.2) e.1)

def vmacC (k : Slot) (d : Fin 2) (b s : Fin 64) : Mach → Mach := slotOp k (fun _ st => laneFx .aadd d b (lanesC st b s))
def vmsuC (k : Slot) (d : Fin 2) (b s : Fin 64) : Mach → Mach :=
  slotOp k (fun _ st => laneFx .aadd d b ((lanesC st b s).map (- ·)))
def vmulC (k : Slot) (d : Fin 2) (b s : Fin 64) : Mach → Mach := slotOp k (fun _ st => laneFx .aset d b (lanesC st b s))
def vmacS (k : Slot) (d : Fin 2) (b s : Fin 64) : Mach → Mach := slotOp k (fun _ st => laneFx .aadd d b (lanesS st b s))
def vmulS (k : Slot) (d : Fin 2) (b s : Fin 64) : Mach → Mach := slotOp k (fun _ st => laneFx .aset d b (lanesS st b s))
def smac (k : Slot) (d cf : Fin 8) (y : Fin 64) : Mach → Mach := slotOp k (fun _ st => [.aadd d (st.samp y * st.coef cf)])
def smsu (k : Slot) (d cf : Fin 8) (y : Fin 64) : Mach → Mach := slotOp k (fun _ st => [.aadd d (-(st.samp y * st.coef cf))])
def smul (k : Slot) (d cf : Fin 8) (y : Fin 64) : Mach → Mach := slotOp k (fun _ st => [.aset d (st.samp y * st.coef cf)])
def aclr (k : Slot) (mask : Nat) : Mach → Mach := slotOp k (fun _ _ => (bitsOf 8 mask).map (fun d => .aset d 0))
def aadd (k : Slot) (d s : Fin 8) : Mach → Mach := slotOp k (fun _ st => [.aadd d (st.acc s)])
def asub (k : Slot) (d s : Fin 8) : Mach → Mach := slotOp k (fun _ st => [.aadd d (-(st.acc s))])

/-! ## A slot (R170, R171) -/

/-- The st register as PST reads it (R162). -/
def StallSt.stReg (st : StallSt) : Nat :=
  st.status + 16 * b2n st.sat + 256 * st.govf + 65536 * st.rrb + 2 ^ 21 * st.loops.length

/-- Whether an active loop uses a counter. -/
def StallSt.inUse (st : StallSt) (n : Nat) : Bool := st.loops.any (fun l => l.n == n)

def paddi (k : Slot) (d : Fin 16) (imm : BitVec 8) : Mach → Mach :=
  slotOp k (fun _ st => [.p 1 d (st.advance d imm.toInt (4 * imm.toInt)) 1])
def padd (k : Slot) (d s : Fin 16) : Mach → Mach :=
  slotOp k (fun _ st => [.p 1 d (st.advance d (sx 32 (st.ptr s) / 4) (st.ptr s)) 1])
def psub (k : Slot) (d s : Fin 16) : Mach → Mach :=
  slotOp k (fun _ st => [.p 1 d (st.advance d (-(sx 32 (st.ptr s) / 4)) (-(st.ptr s : Int))) 1])
def pmov (k : Slot) (d s : Fin 16) : Mach → Mach := slotOp k (fun _ st => [.p 1 d (st.ptr s) 1])
def pli (k : Slot) (d : Fin 16) (imm : BitVec 8) : Mach → Mach := slotOp k (fun _ _ => [.p 1 d (ux 32 imm.toInt) 1])
def pshl (k : Slot) (d : Fin 16) (n : Fin 32) : Mach → Mach := slotOp k (fun _ st => [.p 1 d (st.ptr d * 2 ^ n.val % 2 ^ 32) 1])
def pshr (k : Slot) (d : Fin 16) (n : Fin 32) : Mach → Mach :=
  slotOp k (fun _ st => [.p 1 d (ux 32 (asr (sx 32 (st.ptr d)) n)) 1])
def pand (k : Slot) (d s : Fin 16) : Mach → Mach := slotOp k (fun _ st => [.p 1 d (st.ptr d &&& st.ptr s) 1])
def setc (k : Slot) (n : Fin 4) (s : Fin 16) : Mach → Mach :=
  slotOp k (fun _ st => if st.inUse n then [.fault 5] else [.c n (st.ptr s % 65536)])
def setci (k : Slot) (n : Fin 4) (imm : BitVec 8) : Mach → Mach :=
  slotOp k (fun _ st => if st.inUse n then [.fault 5] else [.c n imm.toNat])
def mset (k : Slot) (n : Fin 4) (s : Fin 16) : Mach → Mach := slotOp k (fun _ st => [.m n (st.ptr s)])
def pst (k : Slot) (d : Fin 16) : Mach → Mach := slotOp k (fun _ st => [.p 1 d st.stReg 1])

/-! ## L slot (R172 to R174) -/

/-- The transfer that is writing a store word of the stall's stable, if one is. -/
def Ctl.writing (c : Ctl) (s a : Nat) : Option (Desc × Nat) :=
  c.fabr.chans.findSome? (fun e =>
    match e.2.run, e.2.owner with
    | some d, some t => if stallStable t == stallStable s && !d.out && d.store ≤ a && a < d.store + d.len
        then some (d, a - d.store) else none
    | _, _ => none)

/-- A word as a load reads it. Of a range that a transfer is writing, the old or the new word, unpredictably: a free value
chooses (R180). -/
def Mach.loadWord (x : Mach) (s a i : Nat) : Nat :=
  let old := x.m.store.rdN (storeAt s a) 4
  match x.c.writing s a with
  | none => old
  | some (d, o) =>
    if Config.freeNat (x.c.storm.freeCtr + i) % 2 = 0 then old
    else (if d.dram then x.m.dram else x.m.loft).rdN (d.farAt o) 4

/-- A load of the words at `as'`: `mk i w` is the effect of word `i`. An address outside the store is FAULT ADDRESS, a
poisoned word FAULT ECC (R173). -/
def Mach.loadFx (x : Mach) (s : Nat) (as' : List Nat) (mk : Nat → Nat → Fx) : List Fx :=
  if !as'.all storeOk then [.fault 6]
  else if as'.any (fun a => x.c.storeBad s a 4) then [.fault 2]
  else (as'.zipIdx).map (fun e => mk e.2 (x.loadWord s e.1 e.2))

/-- A store of words; a store into a code region is FAULT ADDRESS (R173). -/
def Mach.storeFx (x : Mach) (s : Nat) (l : List (Nat × Nat)) : List Fx :=
  if !l.all (fun e => storeOk e.1 && !x.c.inCode (stallYard s) e.1) then [.fault 6] else l.map (fun e => .store e.1 e.2)

/-- A load's slot operation, `a` the first word that it loads; the free values that it may have used are behind it. -/
def slotLoad (k : Slot) (a : StallSt → Nat) (f : Mach → StallSt → List Fx) (x : Mach) : Mach :=
  let y := slotAt k a f x
  { y with c := { y.c with storm := { y.c.storm with freeCtr := y.c.storm.freeCtr + 4 } } }

/-- The four addresses of a group access; REV reverses them. -/
def StallSt.group (st : StallSt) (p : Nat) (rev : Bool) : List Nat :=
  let l := (List.range 4).map (st.groupAddr p)
  if rev then l.reverse else l

def ld1 (k : Slot) (d : Fin 64) (p : Fin 16) (post : Fin 4) : Mach → Mach :=
  slotLoad k (·.ptr p) (fun x st => x.loadFx k.stall [st.ptr p] (fun _ w => .v (st.phys d) w) ++ st.post p post)
def st1 (k : Slot) (s : Fin 64) (p : Fin 16) (post : Fin 4) : Mach → Mach :=
  slotOp k (fun x st => x.storeFx k.stall [(st.ptr p, cget st.v (st.phys s))] ++ st.post p post)
def ld4 (k : Slot) (g : Fin 16) (p : Fin 16) (post : Fin 4) (rev : Bool) : Mach → Mach :=
  slotLoad k (fun st => (st.group p rev).headD 0) (fun x st => x.loadFx k.stall (st.group p rev) (fun i w => .v (st.phys (4 * g + i)) w) ++ st.post p post)
def st4 (k : Slot) (g : Fin 16) (p : Fin 16) (post : Fin 4) (rev : Bool) : Mach → Mach :=
  slotOp k (fun x st =>
    x.storeFx k.stall (((st.group p rev).zipIdx).map (fun e => (e.1, cget st.v (st.phys (4 * g + e.2))))) ++ st.post p post)

/-- A conversion into a v register. -/
def convFx (st : StallSt) (name src sh : Nat) : List Fx :=
  let r := convAcc (st.acc src) sh
  .v (st.phys name) r.1 :: (if r.2 then [.sat] else [])

def mova (k : Slot) (d : Fin 64) (s sh : Fin 8) : Mach → Mach := slotOp k (fun _ st => convFx st d s sh)
def mova4 (k : Slot) (g : Fin 16) (h : Fin 2) (sh : Fin 8) : Mach → Mach :=
  slotOp k (fun _ st => (List.range 4).flatMap (fun i => convFx st (4 * g + i) (4 * h + i) sh))
def sta (k : Slot) (p : Fin 16) (s sh : Fin 8) (post : Fin 4) : Mach → Mach :=
  slotOp k (fun x st =>
    let r := convAcc (st.acc s) sh
    x.storeFx k.stall [(st.ptr p, r.1)] ++ (if r.2 then [.sat] else []) ++ st.post p post)

/-- Whether an accumulate index is in its range (R174). -/
def Ctl.accIndexOk (c : Ctl) (i : Nat) : Bool := i < 2 ^ 17 && i / 128 < c.feedCount && i % 128 < c.winSamples

/-- The accumulate path (R174). -/
def acc (k : Slot) (p : Fin 16) (s : Fin 8) (four rev : Bool) (post : Fin 4) : Mach → Mach :=
  slotOp k (fun x st =>
    let i := st.ptr p
    let sends := if four then (List.range 4).map (fun j => (i + (if rev then 3 - j else j), st.acc (s + j))) else [(i, st.acc s)]
    if st.order.kind != 1 || (four && s.val % 4 != 0) then [.fault 5]
    else if !sends.all (fun e => x.c.accIndexOk e.1) then [.fault 6]
    else sends.map (fun e => .send e.1 (ux 72 e.2)) ++
      (if post.val = 0 then [] else [.p 2 p (ux 32 ((i : Int) + postWords post)) 1]))

def ldp (k : Slot) (d s : Fin 16) (post : Fin 4) : Mach → Mach :=
  slotLoad k (·.ptr s) (fun x st => x.loadFx k.stall [st.ptr s] (fun _ w => .p 2 d w 2) ++ st.post s post)
def movv (k : Slot) (d s : Fin 64) : Mach → Mach := slotOp k (fun _ st => [.v (st.phys d) (cget st.v (st.phys s))])
def movp (k : Slot) (d : Fin 64) (s : Fin 16) : Mach → Mach := slotOp k (fun _ st => [.v (st.phys d) (st.ptr s)])
def movpv (k : Slot) (d : Fin 16) (s : Fin 64) : Mach → Mach := slotOp k (fun _ st => [.p 2 d (cget st.v (st.phys s)) 2])

/-- The loft acknowledges an accumulate send (R174). -/
def accAck (s : Fin 128) (c : Ctl) : Ctl :=
  match c.stall? s with
  | none => c
  | some st => if st.sends = 0 then c else (c.setStall s { st with sends := st.sends - 1 }).haltTry s

/-! ## C slot (R175 to R180) -/

/-- LOOP and its conditions (R176, R177, R185). -/
def loop (k : Slot) (n rot : Fin 4) (len : Fin 256) : Mach → Mach :=
  slotOp k (fun _ st =>
    let stop := st.pc + 8 * (len.val + 1)
    if rot.val = 3 || st.inUse n || 4 ≤ st.loops.length || st.loops.any (fun l => l.stop < stop) then [.fault 5]
    else [.loop n rot (len.val + 1)])

/-- A branch, taken or not (R178). A target below the store is, like one above it, no address of the store (R181). -/
def branchFx (st : StallSt) (off : BitVec 8) (taken : Bool) : List Fx :=
  let target : Int := st.pc + 8 + 8 * off.toInt
  let out : Bool := match st.loops with | [] => false | l :: _ => decide (target < l.start ∨ (l.stop : Int) < target)
  if st.loops.any (fun l => l.stop == st.pc) || (taken && out) then [.fault 5]
  else if taken then [.branch (ux 32 target)] else []

def br (k : Slot) (off : BitVec 8) : Mach → Mach := slotOp k (fun _ st => branchFx st off true)
def bz (k : Slot) (p : Fin 16) (off : BitVec 8) : Mach → Mach := slotOp k (fun _ st => branchFx st off (st.ptr p == 0))
def bnz (k : Slot) (p : Fin 16) (off : BitVec 8) : Mach → Mach := slotOp k (fun _ st => branchFx st off (st.ptr p != 0))

/-- Whether a level and an index name a resource (R179). -/
def resOk (level index : Nat) : Bool := (level == 1 && index < 8) || (level == 2 && index < 16) || level == 3

def acq (k : Slot) (level : Fin 4) (index : Fin 64) : Mach → Mach :=
  slotOp k (fun _ _ => if resOk level index then [.acq level index] else [.fault 5])
def rel (k : Slot) (level : Fin 4) (index : Fin 64) : Mach → Mach :=
  slotOp k (fun _ _ => if resOk level index then [.rel level index] else [.fault 5])
def strm (k : Slot) (ch : Fin 16) (p : Fin 16) : Mach → Mach := slotOp k (fun _ st => [.strm ch (st.ptr p)])
def swait (k : Slot) (ch : Fin 16) : Mach → Mach := slotOp k (fun _ _ => [.swait ch])
def setrrb (k : Slot) (v : Fin 32) : Mach → Mach :=
  slotOp k (fun _ st => if st.loops.any (fun l => l.rot != 0) then [.fault 5] else [.rrb v])

/-- HALT (R183). -/
def halt (k : Slot) (user : BitVec 8) : Mach → Mach := slotOp k (fun _ _ => [.halt user.toNat])

/-- A halting job's outstanding work has ended (R183). -/
def haltComplete (s : Fin 128) (c : Ctl) : Ctl := c.haltTry s

end Sys2Proof.Machine
end

