-- ==== Sys2Proof/Machine/Yards.lean ====
section
/-! DEFINITION. Work orders, stable queues and stall time (spec/06 R132 to R140), the mix phase (R147) and the YARD
registers (R158). -/
namespace Sys2Proof.Machine

/-- A YARD command or POST refused with STATE (R132, R158). -/
def Ctl.yardState (c : Ctl) (y : Nat) : Ctl := c.refuse R.YARD_STATUS_ERR_STATE Ev.YARD_STATE y y

/-- Whether a stable is powered. -/
def Ctl.stablePowered (c : Ctl) (n : Nat) : Bool := c.is R.YARD_CTRL_EN (n / 4) && bit (c.get R.YARD_CTRL_STABLE_EN (n / 4)) (n % 4)

/-! ## Queues (R132 to R134) -/

/-- Sets a stable's queue, with DEPTH, DEPTH_A and the watermark crossings (R134, R379). -/
def Ctl.setQueue (c : Ctl) (n : Nat) (q : List Order) : Ctl :=
  let t := c.stable n
  let y := n / 4
  let x := crossed t.queue.length q.length (c.get R.YARD_QWM_HIGH y) (c.get R.YARD_QWM_LOW y)
  let c := c.setStable n { t with queue := q }
  let c := (c.set R.YARD_Q_DEPTH q.length n).set R.YARD_Q_DEPTH_A (q.filter (·.cls == 0)).length n
  let c := c.when x.1 (fun c => (c.set R.YARD_Q_HI_SEEN 1 n).inc R.YARD_Q_CROSS n)
  let c := c.when x.2 (fun c => (c.set R.YARD_Q_LO_SEEN 1 n).inc R.YARD_Q_CROSS n)
  c.when (x.1 || x.2) (fun c => (c.set R.YARD_STATUS_WM_SEEN 1 y).raise Ev.YARD_WM n)

/-- Whether a queue has space for an order of class `k` (R134). -/
def Ctl.queueSpace (c : Ctl) (n k : Nat) : Bool := (c.stable n).queue.length < (if k = 0 then 64 else 48)

/-- The stable that an order goes to: the powered one in SMASK with space and the fewest queued orders (R133). -/
def Ctl.pickStable (c : Ctl) (y : Nat) (o : Order) : Option Nat :=
  let l := ((List.range 4).filter (fun i => bit o.smask i)).map (4 * y + ·)
  let l := l.filter (fun n => c.stablePowered n && c.queueSpace n o.cls)
  (sortBy (fun a b => (c.stable a).queue.length ≤ (c.stable b).queue.length) l).head?

/-- SCOPE within its table (R201). -/
def Ctl.scopeOk (c : Ctl) (o : Order) : Bool :=
  if o.kind = 0 then o.first == 0 && o.count == 0
  else 1 ≤ o.count && o.first + o.count ≤ (if o.kind = 3 then 128 else c.objCount)

/-- How many windows a deadline lies ahead (R18). -/
def Ctl.ahead (c : Ctl) (w : Nat) : Int := sx 32 (w + 2 ^ 32 - c.cwin)

/-- The decision of a POST (R132): the new state and the status code. -/
def Ctl.postOrder (c : Ctl) (y : Nat) (o : Order) : Ctl × Nat :=
  let powered := (List.range 4).any (fun i => bit o.smask i && c.stablePowered (4 * y + i))
  if o.smask == 0 || !c.scopeOk o || decide (15 < c.ahead o.deadline) then (c, 2)
  else if decide (c.ahead o.deadline < 0) || (o.kind == 1 && o.deadline == c.cwin && (c.yard y).cut) || !powered then
    (c.yardState y, 1)
  else match c.pickStable y o with
    | none => (c, 3)
    | some n =>
      let p := c.chargeOrder o.cls o.deadline o.cost
      if !p.2 then (p.1, 5)
      else
        let c := p.1
        let o := { o with post := c.get R.YARD_POSTS y }
        ((c.inc R.YARD_POSTS y).setQueue n ((c.stable n).queue ++ [o]), 0)

/-- The pointers of a stable's queue disagree: it empties, and its orders are missed in their deadline windows (R134, R376). -/
def Ctl.queueReset (c : Ctl) (n : Nat) : Ctl :=
  let q := (c.stable n).queue
  let y := n / 4
  let t := c.yard y
  let c := c.setYard y { t with missMix := q.filter (·.kind != 0) ++ t.missMix }
  (((c.setQueue n []).inc R.YARD_QLOST_LOST n q.length).set R.YARD_STATUS_QLOST_SEEN 1 y).raise Ev.YARD_QUEUE n

/-! ## Stall time (R136 to R140) -/

/-- Whether a stall is in service: powered and not retired. -/
def Ctl.inService (c : Ctl) (s : Nat) : Bool :=
  c.stablePowered (s / 8) && !bit (c.get R.YARD_STALL_OFF_OFF (s / 32)) (s % 32)

/-- The stalls of a stable in service. -/
def Ctl.service (c : Ctl) (n : Nat) : List Nat := ((List.range 8).map (8 * n + ·)).filter c.inService

/-- Whether a stall is reserved for class A (R136). -/
def Ctl.reserved (c : Ctl) (s : Nat) : Bool :=
  let l := c.service (s / 8)
  let n := c.get R.YARD_RESERVE_RESERVE (s / 32)
  (l.filter (s < ·)).length < n || l.length < n + 1

/-- CORE cycles of a window at the rate in force (R16). -/
def Ctl.winCycles (c : Ctl) : Nat := (if c.lean then 12288 else 24576) * c.winS

/-- The guard in cycles at the rate in force (R23, R24). Half of an odd number of cycles is rounded down (DESIGN CHOICE, log
entry 138). -/
def Ctl.guardCycles (c : Ctl) : Nat := if c.lean then c.get R.WIN_GUARD_CYCLES / 2 else c.get R.WIN_GUARD_CYCLES

/-- The class-D floor of a stable, in stall cycles (R138). -/
def Ctl.dFloor (c : Ctl) (n : Nat) : Nat := 8 * (c.winCycles - c.guardCycles) * c.get R.YARD_RESERVE_DFLOOR (n / 4) / 100

/-- Whether the floor of a stable is suspended (R136). -/
def Ctl.floorOff (c : Ctl) (n : Nat) : Bool := (c.service n).length < c.get R.YARD_RESERVE_RESERVE (n / 4) + 1

/-- Whether an order may start (R135). -/
def Ctl.eligible (c : Ctl) (o : Order) : Bool := o.kind != 1 || o.deadline == c.cwin

/-- The first of a class: earliest deadline, then post number (R137). -/
def Ctl.firstOf (c : Ctl) (l : List Order) : Option Order :=
  (sortBy (fun a b => c.ahead a.deadline ≤ c.ahead b.deadline) l).head?

/-- Whether a floor order runs in a stable. -/
def Ctl.floorRuns (c : Ctl) (n : Nat) : Bool := c.fabr.stalls.any (fun e => e.1 / 8 == n && e.2.floor)

/-- What a pick chooses: the order, whether it is the floor order, whether the stall is lent, and the credits left. -/
structure Pick where
  order : Order
  floor : Bool
  lent : Bool
  creditB : Nat
  creditC : Nat
  deriving DecidableEq, Repr

/-- Weighted round robin of classes B and C (R139). -/
def Ctl.wrr (c : Ctl) (y : Nat) (t : StableSt) (b k : Option Order) : Option (Order × Nat × Nat) :=
  match b, k with
  | none, none => none
  | some o, none => some (o, t.creditB, t.creditC)
  | none, some o => some (o, t.creditB, t.creditC)
  | some o, some p =>
    let z := t.creditB = 0 && t.creditC = 0
    let cb := if z then c.get R.YARD_ARB_WB y else t.creditB
    let cc := if z then c.get R.YARD_ARB_WC y else t.creditC
    if cc ≤ cb then some (o, cb - 1, cc) else some (p, cb, cc - 1)

/-- The order that a free stall starts (R137). -/
def Ctl.pick (c : Ctl) (s : Nat) : Option Pick :=
  let n := s / 8
  let t := c.stable n
  let res := c.reserved s
  let q := t.queue.filter c.eligible
  let of := fun (k : Nat) => c.firstOf (q.filter (·.cls == k))
  let lend := res && c.is R.YARD_RESERVE_LEND (s / 32)
  let mk := fun (o : Order) (f : Bool) => some (⟨o, f, res && o.cls != 0, t.creditB, t.creditC⟩ : Pick)
  let floor := !res && !c.floorOff n && cget t.used 3 < c.dFloor n && !c.floorRuns n
  match (if floor then of 3 else none) with
  | some o => mk o true
  | none => match of 0 with
    | some o => mk o false
    | none =>
      if res && !lend then none
      else
        let aged := (q.filter (fun o => (o.cls == 1 || o.cls == 2) && o.aged.isSome))
        match (sortBy (fun a b => a.aged.getD 0 ≤ b.aged.getD 0) aged).head? with
        | some o => mk o false
        | none => match c.wrr (s / 32) t (of 1) (of 2) with
          | some (o, cb, cc) => some ⟨o, false, res, cb, cc⟩
          | none => (of 3).bind (fun o => mk o false)

/-- The registers of a job at dispatch (R182). -/
def jobStart (k : Pick) : StallSt :=
  let o := k.order
  { order := o, lent := k.lent, floor := k.floor, pc := o.entry
    p := [(0, o.arg), (1, o.deadline), (2, o.first), (3, o.count)].foldl (fun m e => cset m e.1 e.2) [] }

/-- A free stall picks its next order and starts it (R137, R182). -/
def Ctl.dispatch (c : Ctl) (s : Nat) : Ctl :=
  if !c.inService s || (c.stall? s).isSome then c
  else match c.pick s with
    | none => c
    | some k =>
      let n := s / 8
      let c := c.setStable n { c.stable n with creditB := k.creditB, creditC := k.creditC }
      (c.setQueue n ((c.stable n).queue.filter (fun o => o.post != k.order.post))).setStall s (jobStart k)

/-- The stalls of a stable in the order in which those that are free pick (R137): the reserved ones first, highest index first,
then the others in ascending index. -/
def Ctl.pickOrder (c : Ctl) (n : Nat) : List Nat :=
  let l := c.service n
  (l.filter c.reserved).reverse ++ l.filter (!c.reserved ·)

/-- JOB_DISPATCH: a free stall starts its next order; the free stalls that pick before it do so first (R137). -/
def jobDispatch (s : Fin 128) (c : Ctl) : Ctl :=
  if !c.inService s || (c.stall? s).isSome then c
  else (((c.pickOrder (s / 8)).takeWhile (· != s.val)).foldl Ctl.dispatch c).dispatch s

/-- A class-B or class-C order has been eligible for AGE cycles (R139). -/
def orderAged (n : Fin 16) (post : Nat) (c : Ctl) : Ctl :=
  let t := c.stable n
  let due := fun (o : Order) => o.post == post && (o.cls == 1 || o.cls == 2) && o.aged.isNone && c.eligible o
  if t.queue.any due then
    c.setStable n { t with queue := t.queue.map (fun o => if due o then { o with aged := some t.agedCount } else o),
                           agedCount := t.agedCount + 1 }
  else c

/-- The limit of a stall's job, in cycles (R140). -/
def Ctl.jobLimit (c : Ctl) (s : Nat) : Nat := 1024 * c.get R.YARD_LIMITS_JOB_LIMIT (s / 32)

/-- A job has run for JOB_LIMIT cycles (R140), those of a freeze that has not ended among them. -/
def jobLimitAbort (s : Fin 128) (x : Mach) : Mach :=
  let x := x.bundleSettle s
  match x.c.stall? s with
  | none => x
  | some st =>
    let n := x.c.jobLimit s
    if x.c.jobLimit s ≤ st.cycles then { x with c := x.c.abortJob s 4 }
    else if st.froze then { x with c := (x.c.setStall s { st with cycles := n, froze := false }).abortJob s 4 }
    else x

/-- A crossbar transfer has waited XBAR_AGE and takes class-A precedence (R143). -/
def xbarAgePromote (y : Fin 4) (ch : Fin 16) (c : Ctl) : Ctl :=
  let k := c.chan y ch
  if k.run.isSome then c.setChan y ch { k with aged := true } else c

/-! ## The mix phase (R147) -/

/-- Whether the window named has started: never while no window runs. -/
def Ctl.winStarted (c : Ctl) (w : Nat) : Bool :=
  c.is R.WIN_STATUS_RUN && !c.win.awaiting && decide (0 ≤ sx 32 (c.cwin + 2 ^ 32 - w % 2 ^ 32))

/-- Whether a yard's sequencer can still post an order in the window: it runs and does not wait for a later boundary. -/
def Ctl.mayPost (c : Ctl) (y : Nat) : Bool :=
  let q := c.seq y
  c.is R.YARD_STATUS_SEQ_RUN y && !(q.active.any (·.kit)) &&
    (match q.wait with
    | .abs w _ => c.winStarted w
    | .next _ due | .tick _ due => due
    | _ => true)

/-- Whether every MIX order of the window in the four yards has ended or been refused, and no more can be posted (R147). -/
def Ctl.mixOver (c : Ctl) : Bool :=
  let due := fun (o : Order) => o.kind == 1 && o.deadline == c.cwin
  !(c.fabr.stables.any (fun e => e.2.queue.any due)) && !(c.fabr.stalls.any (fun e => due e.2.order)) &&
    !(List.range 4).any c.mayPost

/-- The phase of a stage in a feed (R108). -/
def stagePhase (f n : Nat) : Nat := if n = 64 then 0 else if n = 256 then 64 * (f % 4) else 64 * (f % 16)

/-- The stage jobs of a feed in the window in progress (R108, R111): for the blocks that ended with the last window, and at 96 kHz
and W64 for those that end with slot 63 of this one. -/
def Ctl.stageDue (c : Ctl) (f : Nat) : List Nat :=
  let s := c.winSamples
  let n := (c.win.ext - c.win.firstWin) * s
  [64, 256, 1024].filter (fun k =>
    (n != 0 && (n + stagePhase f k) % k == 0) || (s == 128 && (n + 64 + stagePhase f k) % k == 0))

/-- The feed dispatcher of a yard takes its feeds' accumulators (R106, R147), read and cleared, and posts the stage jobs of its
enabled feeds as class A (R107): no order of a queue, since no ledger charge and no sequencer belongs to them. -/
def Ctl.dispatchFeeds (c : Ctl) (y : Nat) : Ctl :=
  let t := c.yard y
  if t.dispatched then c
  else
    let take := fun (e : Nat × FeedSt) =>
      if feedYard e.1 == y then (e.1, { e.2 with mix := e.2.acc.map (fun a => sat31 (asr a 20)), acc := [] }) else e
    let jobs := ((List.range 192).map (192 * y + ·)).filter (fun f => f < c.feedCount && c.is R.FEED_EN f)
    ({ c with corr := { c.corr with feeds := c.corr.feeds.map take } }).setYard y
      { t with dispatched := true, stages := jobs.map (fun f => (f, c.stageDue f)) }

/-- Every MIX order of the window has ended: the feed dispatchers post the stage jobs (R147). -/
def feedDispatch (y : Fin 4) (c : Ctl) : Ctl := if c.mixOver then c.dispatchFeeds y else c

/-- Drops the queued orders of a yard that `due` names; they are missed. -/
def Ctl.dropOrders (c : Ctl) (y : Nat) (due : Order → Bool) : Ctl :=
  c.each ((List.range 4).map (4 * y + ·)) (fun c n =>
    let q := (c.stable n).queue
    if !q.any due then c
    else
      let t := c.yard y
      (c.setYard y { t with missMix := q.filter (fun o => due o && o.kind != 0) ++ t.missMix }).setQueue n (q.filter (fun o => !due o)))

/-- Aborts the running jobs of a yard whose orders `due` names, with FAULT GUARD. -/
def Ctl.abortJobs (c : Ctl) (y : Nat) (due : Order → Bool) : Ctl :=
  c.each ((c.fabr.stalls.filter (fun e => e.1 / 32 == y && due e.2.order)).map (·.1)) (fun c s => c.abortJob s 3)

/-- The bundles that have issued in a yard complete (R184). -/
def Mach.yardSettle (x : Mach) (y : Nat) : Mach :=
  ((x.c.fabr.stalls.filter (fun e => e.1 / 32 == y)).map (·.1)).foldl Mach.bundleSettle x

/-- The mix cut-off (R147): MIX orders due in the window are discarded or aborted, and feed dispatch starts. -/
def mixCutoff (y : Fin 4) (x : Mach) : Mach :=
  let x := x.yardSettle y
  let due := fun (o : Order) => o.kind == 1 && o.deadline == x.c.cwin
  let c := x.c.setYard y { (x.c.yard y) with cut := true }
  { x with c := ((c.dropOrders y due).abortJobs y due).dispatchFeeds y }

/-! ## Registers (R136, R158) -/

/-- A write of YARD_CTRL (R38, R158). One that sets EN and STABLE_EN bits together is judged by the EN that it writes (DESIGN
CHOICE, log entry 138). -/
def Ctl.yardCtrl (c : Ctl) (y d : Nat) : Ctl :=
  let en := R.YARD_CTRL_EN.of d
  let st := R.YARD_CTRL_STABLE_EN.of d
  let was := c.get R.YARD_CTRL_STABLE_EN y
  let busy := (List.range 4).any (fun i => bit was i && !bit st i &&
    (!(c.stable (4 * y + i)).queue.isEmpty || c.fabr.stalls.any (fun e => e.1 / 8 == 4 * y + i)))
  let rise := (List.range 4).any (fun i => !bit was i && bit st i)
  if busy || (rise && en = 0) || (en = 0 && c.is R.YARD_CTRL_EN y && c.is R.WIN_STATUS_RUN) then c.yardState y
  else (c.enableBlock (fun c => (c.set R.YARD_CTRL_EN en y).set R.YARD_CTRL_STABLE_EN st y)).1

/-- A write of YARD_CTRL (R38, R158). -/
def yardCtrlWrite (m : Master) (y : Fin 4) (d : Nat) (c : Ctl) : Ctl :=
  c.hngGate m (0x100000 + 0x40000 * y) d none (·.yardCtrl y d)

/-- A write of YARD_RESERVE, YARD_ARB or YARD_LIMITS is latched until the next window boundary; `w` is 0 to 2. A value
outside its range is refused with RANGE. -/
def Ctl.yardCfgWrite (c : Ctl) (y w d : Nat) : Ctl :=
  let fields := wordFields R.fieldsYARD (0x100008 + 4 * w)
  let t := c.yard y
  if !inRange fields d then c
  else c.setYard y { t with cfg :=
    if w = 0 then { t.cfg with reserve := some d } else if w = 1 then { t.cfg with arb := some d }
    else { t.cfg with limits := some d } }

/-- The latched configuration takes effect at a window boundary (R136). -/
def yardConfigApply (y : Fin 4) (c : Ctl) : Ctl :=
  let t := c.yard y
  let put := fun (c : Ctl) (w : Nat) (v : Option Nat) =>
    match v with | none => c | some d => c.store (wordFields R.fieldsYARD (0x100008 + 4 * w)) y d
  (put (put (put c 0 t.cfg.reserve) 1 t.cfg.arb) 2 t.cfg.limits).setYard y { t with cfg := {} }

/-- The boundary of a window in a yard: the counters of the last window are shown and a new window begins; orders that have missed
early wait for the guard point of their deadline window. -/
def Ctl.yardBoundary (c : Ctl) (y : Nat) : Ctl :=
  let bs := (List.range 4).map (4 * y + ·)
  let used := fun (k : Nat) => bs.foldl (fun n b => n + cget (c.stable b).used k) 0
  let lent := bs.foldl (fun n b => n + (c.stable b).lent) 0
  let c := c.each (List.range 4) (fun c k => c.set R.YARD_CYC_CYCLES (used k) (4 * y + k))
  let c := c.set R.YARD_LENT lent y
  let c := c.each (bs.filter (fun b => (kget? c.fabr.stables b).isSome)) (fun c b => c.setStable b { (c.stable b) with used := [], lent := 0 })
  match kget? c.fabr.yards y with
  | none => c
  | some t => c.setYard y { t with
      cut := false, dispatched := false, stages := [], covered := [], missMix := t.missMix.filter (fun o => decide (0 ≤ c.ahead o.deadline)) }

/-- The class-D floor at the guard point (R138). -/
def Ctl.dFloorCheck (c : Ctl) (y : Nat) : Ctl :=
  let low := ((List.range 4).map (4 * y + ·)).any (fun n => !c.floorOff n && c.stablePowered n &&
    cget (c.stable n).used 3 < c.dFloor n && (c.stable n).queue.any (fun o => o.cls == 3 && c.eligible o))
  if low then (((c.set R.YARD_STATUS_DFLOOR_SEEN 1 y).inc R.YARD_DFLOOR_MISS y).raise Ev.YARD_DFLOOR y) else c

end Sys2Proof.Machine
end

