-- ==== Sys2Proof/Machine/Chain.lean ====
section
/-! DEFINITION. The feed chain of R106 (stages 1 to 6), the substitute of R150, and what the guard point settles (R120, R151 to
R153). The stage jobs are the module's firmware (R107); their output is formed at the guard point. -/
namespace Sys2Proof.Machine

/-- A feed's chain state. -/
def Ctl.feedSt (c : Ctl) (f : Nat) : FeedSt := kgetD c.corr.feeds f {}

/-- Sets a feed's chain state. -/
def Ctl.setFeed (c : Ctl) (f : Nat) (q : FeedSt) : Ctl := { c with corr := { c.corr with feeds := kput c.corr.feeds f q } }

/-- The enabled feeds. -/
def Ctl.enabledFeeds (c : Ctl) : List Nat := (c.regs.filter (fun e => e.reg.id == R.FEED_EN.id && e.val != 0)).map (·.idx)

/-- The biquad sets in force of a zone or of a feed. -/
def Ctl.bqSets (c : Ctl) (kind i n : Nat) : List BqSet := (List.range n).map (fun s => kgetD c.corr.bqForce (bqKey kind i s) {})

/-- The sample position in the tick of sample `j` of this window, and the tick's length in samples (R90). -/
def Ctl.tickPos (c : Ctl) (j : Nat) : Nat × Nat := (c.get R.WIN_TICK_PHASE * c.winSamples + j, c.winSamples * c.tickLen)

/-- Stage 2, the speech-band lift (R128). -/
def Ctl.liftStage (c : Ctl) (g : GuardSt) (m : BqMem) (l : List Int) : List Int × BqMem :=
  let bp := bqBlock (liftBq c.rate96) m l
  let ys := ((l.zip bp.1).zipIdx).map (fun e =>
    let t := c.tickPos e.2
    sat31 (e.1.1 + asr ((rampAt g.liftCur g.liftTo t.1 t.2 - 1048576) * e.1.2) 20))
  (ys, bp.2)

/-- Stage 3, the ambient-noise gain (R128). -/
def Ctl.ancStage (c : Ctl) (g : GuardSt) (l : List Int) : List Int :=
  (l.zipIdx).map (fun e => let t := c.tickPos e.2; sat31 (asr (rampAt g.ancCur g.ancTo t.1 t.2 * e.1) 20))

/-- The exact convolution sum of R109, for taps in Q2.22 and samples newest first. -/
def convSum : List Nat → List Int → Int
  | [], _ => 0
  | _, [] => 0
  | h :: hs, x :: xs => sx 24 h * x + convSum hs xs

/-- The most by which a partitioned filter's output may differ from the exact convolution: −110 dBFS (R110). -/
def convBound : Nat := 6790

/-- One output sample of a bank (R109, R110). A bank with no tap beyond the direct section is exact; the spectra's deviation
is not stated: it is a function without a value, within the bound, of the taps, the input and the sample's place `n` in the
blocks. -/
def bankSample (taps : List Nat) (xs : List Int) (n : Nat) : Int :=
  let z := asr (convSum taps xs) 22
  if (taps.drop 64).all (· == 0) then z else z + Config.spectral taps xs n % (2 * convBound + 1 : Int) - convBound

/-- The taps of bank `b` of a feed; a bank with VALID = 0 is the identity (R113). -/
def Ctl.bankTaps (c : Ctl) (f b : Nat) : List Nat :=
  if c.is (validReg b) f then kgetD c.corr.banks (2 * f + b) [0x400000] else [0x400000]

/-- The samples of a feed from START to this window (R108). -/
def Ctl.feedCountN (c : Ctl) : Nat := (c.win.ext - c.win.firstWin) * c.winSamples

/-- The place of sample `j` of this window in the blocks of a feed's stages (R108). -/
def Ctl.blockPlace (c : Ctl) (f j : Nat) : Nat := (c.feedCountN + j) % 1024 + 1024 * (f % 16)

/-- Stage 5 for one sample: the active bank, or the cross-fade of both (R114, R116). The second component says whether the
output saturated. -/
def Ctl.corrSample (c : Ctl) (f : Nat) (xs : List Int) (j : Nat) : Int × Bool :=
  let new := bankSample (c.bankTaps f (c.get R.CORR_FEED_ACTIVE f)) xs (c.blockPlace f j)
  match kget? c.corr.fades f with
  | none => (sat31 new, sats31 new)
  | some x =>
    let old := bankSample (c.bankTaps f x.old) xs (c.blockPlace f j)
    let q := x.done * c.winSamples + j
    (crossFade (sat31 old) (sat31 new) q (x.len * c.winSamples), sats31 new || sats31 old)

/-- Stage 5 for a block: `hist` holds the stage-4 samples before it, newest first (R109). -/
def Ctl.corrBlock (c : Ctl) (f : Nat) : Nat → List Int → List Int → List Int × Bool
  | _, _, [] => ([], false)
  | j, hist, x :: l =>
    let p := c.corrSample f (x :: hist) j
    let q := Ctl.corrBlock c f (j + 1) (x :: hist) l
    (p.1 :: q.1, p.2 || q.2)

/-- Stages 1 to 4 of a feed. -/
def Ctl.earlyStages (c : Ctl) (f : Nat) (q : FeedSt) (l : List Int) : List Int × FeedSt :=
  let p := if c.is R.FEED_NOZONE f then (l, q)
    else
      let z := c.get R.FEED_ZONE f
      let a := bqChain (c.bqSets 2 z 8) q.zbq l
      let b := c.liftStage (c.guard z) q.lift a.1
      (c.ancStage (c.guard z) b.1, { q with zbq := a.2, lift := b.2 })
  let r := bqChain (c.bqSets 0 f 16) p.2.fbq p.1
  (r.1, { p.2 with fbq := r.2 })

/-- Reports a saturation or a clip of a feed, with one event in a window (R110, R119). -/
def Ctl.feedFlag (c : Ctl) (f : Nat) (sat clip : Bool) : Ctl :=
  let c := c.when sat (fun c => (c.set R.CORR_FEED_SAT_SEEN 1 f).set R.CORR_STATUS_SAT_SEEN 1)
  let c := c.when clip (fun c => (c.set R.CORR_FEED_CLIP_SEEN 1 f).set R.CORR_STATUS_CLIP_SEEN 1)
  if (sat || clip) && !c.corr.clipped then { c with corr := { c.corr with clipped := true } }.raise Ev.YARD_FEED (feedYard f) f else c

/-- `n` signed numbers of `w` bits whose value the spec does not state. -/
def Ctl.freeSamples (c : Ctl) (w : Nat) : Nat → List Int × Ctl
  | 0 => ([], c)
  | n + 1 =>
    let p := c.free w
    let q := Ctl.freeSamples p.2 w n
    (sx w p.1 :: q.1, q.2)

/-- Stage 5 of a feed, as the output of stage 6 in turn: after a host write into one of its records the feed's output is
undefined until the next reset, and both are free values (R112). -/
def Ctl.spoiledOr (c : Ctl) (f : Nat) (l : List Int) : List Int × Ctl :=
  if c.corr.spoiled.contains f then c.freeSamples 32 l.length else (l, c)

/-- Stages 1 to 6 of a feed that made its deadline (R106). After one or more substitute windows the block is faded in
(R150). -/
def Ctl.feedRun (c : Ctl) (f : Nat) : Ctl :=
  let q := c.feedSt f
  let n := c.winSamples
  let l := if q.mix.isEmpty then List.replicate n 0 else q.mix
  let e := c.earlyStages f q l
  let p := c.corrBlock f 0 e.2.hist e.1
  let s := c.spoiledOr f p.1
  let lim := if s.2.is R.CORR_FEED_LIM_EN f then
      limitRun (s.2.geti R.CORR_FEED_THRESH f).natAbs (s.2.get R.CORR_FEED_RELEASE f) (if s.2.rate96 then 96000 else 48000) n e.2.gr s.1
    else (s.1, 0, false)
  let o := s.2.spoiledOr f lim.1
  let lim := (o.1, lim.2)
  let c := o.2
  let out := if q.subst then (lim.1.zipIdx).map (fun e => e.1 * ((e.2 + 1 : Nat) : Int) / (n : Int)) else lim.1
  let q := { e.2 with
    mix := [], hist := (e.1.reverse ++ e.2.hist).take 8191, gr := lim.2.1, last := lim.1.getLast?, subst := false, out := out }
  let c := (c.setFeed f q).feedFlag f p.2 lim.2.2
  ((c.set R.FEED_SUBST 0 f).set R.CORR_FEED_GR (lim.2.1 * 100 / 65536) f).set R.CORR_FEED_PEAK (levelDb (blockPeak lim.1)) f

/-- The defined substitute of a missed feed (R150), with its correction state advanced as for a zero input (R120). -/
def Ctl.feedMiss (c : Ctl) (f : Nat) : Ctl :=
  let q := c.feedSt f
  let n := c.winSamples
  let l := q.last.getD 0
  let out := (List.range n).map (fun j => l * ((n - 1 - j : Nat) : Int) / (n : Int))
  let q := { q with mix := [], hist := (List.replicate n 0 ++ q.hist).take 8191, last := none, subst := true, out := out }
  let y := feedYard f
  let i := 6 * y + f % 192 / 32
  let c := (c.setFeed f q).set R.FEED_SUBST 1 f
  c.set R.YARD_MISS_MAP_MAP (setBit (c.get R.YARD_MISS_MAP_MAP i) (f % 32)) i

/-! ## The guard point (R151 to R153) -/

/-- The missed objects: in FADING_IN, ACTIVE or FADING_OUT and not covered, old ones of a scene switch included (R74, R148). -/
def Ctl.missedObjs (c : Ctl) : List Nat :=
  let old := (c.tab.oldObjs.map (·.idx)).filter (fun o => !c.liveObjs.any (· == o))
  (c.liveObjs ++ old).filter (fun o => 2 ≤ c.shownState o && c.shownState o ≤ 4 && !(c.yard (o / 256)).covered.any (· == o) &&
    !(List.range 4).any (fun y => (c.yard y).covered.any (· == o)))

/-- Whether an object's snapshot mask selects a zone. -/
def Ctl.snapSelects (c : Ctl) (o z : Nat) : Bool := bit (c.sget R.OBJ_ZMASK (4 * o + z / 32)) (z % 32)

/-- Whether a word of the correction data that a feed reads is poisoned (R112, R120): the direct taps in the loft of the active bank
and, in a fade, of the outgoing one, or a chunk of their records or of the feed's FDL record in DRAM. -/
def Ctl.corrPoison (c : Ctl) (f : Nat) : Bool :=
  let banks := c.get R.CORR_FEED_ACTIVE f :: (match kget? c.corr.fades f with | some x => [x.old] | none => [])
  let taps := fun (b : Nat) => feedYard f * 0x400000 + 0x2B0000 + f % 192 * 0x200 + b * 0x100
  let bank := fun (b : Nat) => c.base64k R.CORR_BANK_BASE + (2 * f + b) * 0x10000
  let fdl := c.base64k R.CORR_FDL_BASE + f * 0x12000
  banks.any (fun b => c.is (validReg b) f && (c.fabr.loftPoison.any (fun w => taps b ≤ w && w < taps b + 0x100) ||
    c.dram.bad.any (fun k => bank b ≤ 32 * k && 32 * k < bank b + 0x10000))) ||
    c.dram.bad.any (fun k => fdl ≤ 32 * k && 32 * k < fdl + 0x12000)

/-- Whether a feed is missed (R149): `late` lists the feeds whose stage jobs have not ended. A frozen DRAM, or a yard with
no powered stable, lets no stage job end. -/
def Ctl.feedMissed (c : Ctl) (objs late : List Nat) (f : Nat) : Bool :=
  late.any (· == f) || c.corrPoison f || c.get R.DRAM_STATUS_MODE == 3 ||
    !(List.range 4).any (fun i => c.stablePowered (4 * feedYard f + i)) ||
    (!c.is R.FEED_NOZONE f && objs.any (fun o => c.snapSelects o (c.get R.FEED_ZONE f)))

/-- ZRUN of a zone. -/
def Ctl.zrun (c : Ctl) (z : Nat) : Nat := c.get R.YARD_ZRUN_RUN (z / 16) / 4 ^ (z % 16) % 4

/-- Sets ZRUN of a zone. -/
def Ctl.setZrun (c : Ctl) (z n : Nat) : Ctl :=
  let w := c.get R.YARD_ZRUN_RUN (z / 16)
  c.set R.YARD_ZRUN_RUN (w - c.zrun z * 4 ^ (z % 16) + n * 4 ^ (z % 16)) (z / 16)

/-- The consecutive misses of a zone, and its handover to the storm door at the third (R153). -/
def Ctl.zoneRun (c : Ctl) (missed : List Nat) (z : Nat) : Ctl :=
  let miss := c.carriesA z && missed.any (fun f => c.feedIn z f)
  let n := c.zrun z
  if n = 3 && c.is R.ZONE_OWNER z then c
  else
    let m := if !miss then 0 else if n = 3 then 1 else n + 1
    let c := c.setZrun z m
    if m = 3 then (c.raise Ev.YARD_ZONE_MISS (z / 32) z).takeZones 3 [z] else c

/-- The feeds and objects that the record of the window in progress declares missed (R151, R252). -/
def Ctl.declared (c : Ctl) : List Nat × List Nat :=
  match kget? c.hng.records c.winNo with
  | none => ([], [])
  | some r =>
    let mapOf := fun (l : List Nat) => l.zipIdx.flatMap (fun e => (bitsOf 32 e.1).map (32 * e.2 + ·))
    (mapOf r.feedMiss, mapOf r.objMiss)

/-- A standby's own misses that the record does not declare (R252, R256); every member keeps its missed objects. -/
def Ctl.undeclared (c : Ctl) (feeds objs : List Nat) (dec : List Nat × List Nat) : Ctl :=
  let bad := feeds.any (fun f => !dec.1.contains f) || objs.any (fun o => !dec.2.contains o)
  let miss := if bad && c.get R.HNG_STATUS_ROLE == 3 then c.cwin :: c.hng.missed.filter (· != c.cwin) else c.hng.missed
  { c with hng := { c.hng with objMiss := objs, missed := miss.take 8 } }

/-- The misses of a window (R149 to R151): substitutes, maps, counters and events. `late` as in `feedMissed`. -/
def Ctl.settle (c : Ctl) (late : List Nat) : Ctl :=
  let own := c.missedObjs
  let dec := c.declared
  let late := if c.get R.HNG_STATUS_ROLE = 3 then late ++ dec.1 else late
  let objs := if c.get R.HNG_STATUS_ROLE = 3 then own ++ dec.2.filter (fun o => !own.contains o) else own
  let c := c.undeclared (c.enabledFeeds.filter (c.feedMissed own late)) own dec
  let feeds := c.enabledFeeds
  let missed := feeds.filter (c.feedMissed objs late)
  let poisoned := feeds.any c.corrPoison
  let c := c.each (List.range 24) (fun c i => c.set R.YARD_MISS_MAP_MAP 0 i)
  let c := c.each feeds (fun c f => if missed.any (· == f) then c.feedMiss f else c.feedRun f)
  let off := c.corr.feeds.filter (fun e => !c.is R.FEED_EN e.1)
  let c := c.each off (fun c e => c.setFeed e.1 { e.2 with last := none, acc := [], mix := [], out := [] })
  let c := c.when poisoned (·.set R.CORR_STATUS_POISON_SEEN 1)
  let c := { c with corr := { c.corr with done := c.feedCountN + c.winSamples } }
  let yards := (List.range 4).filter (fun y => missed.any (fun f => feedYard f == y) || objs.any (fun o => o / 256 == y))
  let first := fun (y : Nat) => match missed.find? (fun f => feedYard f == y) with
    | some f => f
    | none => (objs.find? (fun o => o / 256 == y)).getD 0
  let c := c.each yards (fun c y => ((c.inc R.YARD_MISS_COUNT y).set R.YARD_STATUS_MISS_SEEN 1 y).raise Ev.YARD_MISS y (first y))
  let c := if missed.isEmpty then c
    else ((c.inc R.WIN_MISS_COUNT_MISSES).set R.WIN_STATUS_DEADLINE_SEEN 1).raise Ev.WIN_GUARD
  c.each (List.range 128) (fun c z => c.zoneRun missed z)

/-! ## Tap records after a miss (R93, R103, R152) -/

/-- The loft address of sparse tap `t` of object `o` (R93). -/
def tapAt (o t : Nat) : Nat := o / 256 * 0x400000 + 0x100000 + (o % 256) * 0x900 + t * 48

/-- The loft address of the dense tap of feed `f` in slot `s` (R103). -/
def denseAt (s f : Nat) : Nat := s / 64 * 0x400000 + 0x190000 + (s % 64) * 0x4800 + f * 24

/-- Copies a word of the loft. -/
def copyWord (m : Mem) (src dst : Nat) : Mem := m.wrN dst 4 (m.rdN src 4)

/-- A missed MIX order's effect on one sparse tap: AIR_Y is 0, and at the end of a tick the targets are reached. -/
def missMixTap (a p : Nat) (last : Bool) (m : Mem) : Mem :=
  let m := m.wrN (a + 0xC) 4 0
  if last then copyWord (copyWord m (a + 0x10 + 16 * p) (a + 4)) (a + 0x14 + 16 * p) (a + 8) else m

/-- A missed MIX order's effect on one dense tap. -/
def missMixDense (a p : Nat) (last : Bool) (m : Mem) : Mem :=
  if last then (copyWord m (a + 8 + 4 * p) (a + 4)).wrN a 2 (m.rdN (a + 0x10 + 2 * p) 2) else m

/-- A missed LAW order's effect on one sparse tap: it holds in the next tick; a leaving object's tap fades out. -/
def missLawTap (a p : Nat) (leaving : Bool) (m : Mem) : Mem :=
  let n := 1 - p
  let m := copyWord m (a + 0x14 + 16 * p) (a + 0x14 + 16 * n)
  if leaving then m.wrN (a + 0x10 + 16 * n) 4 0 else copyWord m (a + 0x10 + 16 * p) (a + 0x10 + 16 * n)

/-- A missed LAW or ZONE_LAW order's effect on one dense tap. -/
def missLawDense (a p : Nat) (leaving : Bool) (m : Mem) : Mem :=
  let n := 1 - p
  let m := m.wrN (a + 0x10 + 2 * n) 2 (m.rdN (a + 0x10 + 2 * p) 2)
  if leaving then m.wrN (a + 8 + 4 * n) 4 0 else copyWord m (a + 8 + 4 * p) (a + 8 + 4 * n)

/-- The dense slots of objects in a range. -/
def Ctl.slotsOf (c : Ctl) (first count : Nat) : List (Nat × Nat) :=
  (c.src.near.filter (fun e => first ≤ e.2.obj && e.2.obj < first + count)).map (fun e => (e.1, e.2.obj))

/-- Whether an object leaves: FADING_OUT or SHED. -/
def Ctl.leaving (c : Ctl) (o : Nat) : Bool := c.shownState o == 4 || c.shownState o == 5

/-- The tap records of the scope of one missed order (R152). -/
def Ctl.missOrder (c : Ctl) (m : Mem) (o : Order) : Mem :=
  let p := c.get R.WIN_TICK_COUNT % 2
  let last := c.get R.WIN_TICK_PHASE == c.get R.WIN_TICK_LEN_ACTIVE
  let objs := (List.range o.count).map (o.first + ·)
  let sparse := fun (f : Nat → Nat → Mem → Mem) (m : Mem) =>
    (objs.filter (fun i => c.get R.OBJ_LAW i == 0)).foldl (fun m i => (List.range 48).foldl (fun m t => f i (tapAt i t) m) m) m
  let dense := fun (f : Nat → Nat → Mem → Mem) (feeds : List Nat) (slots : List (Nat × Nat)) (m : Mem) =>
    slots.foldl (fun m s => feeds.foldl (fun m g => f s.2 (denseAt s.1 g) m) m) m
  if o.kind = 1 then
    dense (fun _ a => missMixDense a p last) c.enabledFeeds (c.slotsOf o.first o.count) (sparse (fun _ a => missMixTap a p last) m)
  else if o.kind = 2 then
    dense (fun i a => missLawDense a p (c.leaving i)) c.enabledFeeds (c.slotsOf o.first o.count)
      (sparse (fun i a => missLawTap a p (c.leaving i)) m)
  else if o.kind = 3 then
    let fs := c.enabledFeeds.filter (fun f => !c.is R.FEED_NOZONE f && o.first ≤ c.get R.FEED_ZONE f && c.get R.FEED_ZONE f < o.first + o.count)
    dense (fun i a => missLawDense a p (c.leaving i)) fs (c.slotsOf 0 1024) m
  else m

/-- The guard point of the yards (R138, R151, R152): orders due in the window end, and misses are settled. -/
def Mach.yardGuard (x : Mach) (late : List Nat) : Mach :=
  let x := (List.range 4).foldl Mach.yardSettle x
  let due := fun (o : Order) => o.deadline == x.c.cwin
  let c := x.c.each (List.range 4) (fun c y => ((c.dFloorCheck y).abortJobs y due).dropOrders y due)
  let missed := (List.range 4).flatMap (fun y => (c.yard y).missMix.filter due)
  let loft := missed.foldl c.missOrder x.m.loft
  { c := (c.each (List.range 4) (fun c y => c.dispatchFeeds y)).settle late, m := { x.m with loft := loft } }

end Sys2Proof.Machine
end

