-- ==== Sys2Proof/Machine/Letterbox.lean ====
section
/-! DEFINITION. Letterboxes (R390 to R394) and latches (R403 to R405), as every master uses them. -/
namespace Sys2Proof.Machine

/-- The peer of a pair: the keeper, or the sequencer that MBX_ALLOC connects (R390, R394). -/
def Ctl.pairPeer (c : Ctl) (p : Nat) : Option Master :=
  if p = 0 || p = 1 || p = 4 || p = 5 then some .keeper
  else if (p = 2 || p = 3) && c.is R.MBX_ALLOC_EN (p - 2) then some (.seq (Fin.ofNat 4 (c.get R.MBX_ALLOC_YARD (p - 2))))
  else none

/-- The host side of a pair (R390). -/
def pairHost (p : Nat) : Option Master := if p < 4 then some .fn0 else if p < 6 then some .fn1 else none

/-- The configured sender of a letterbox. -/
def Ctl.sender (c : Ctl) (n : Nat) : Option Master := if n % 2 = 0 then pairHost (n / 2) else c.pairPeer (n / 2)

/-- The configured receiver of a letterbox. -/
def Ctl.receiver (c : Ctl) (n : Nat) : Option Master := if n % 2 = 0 then c.pairPeer (n / 2) else pairHost (n / 2)

/-- MBX_STATUS.FULL_MAP, and the end of a reported standoff (R392). -/
def Ctl.showFull (c : Ctl) : Ctl :=
  let both := (List.range 8).filter (fun p => c.is R.MBX_LB_FULL (2 * p) && c.is R.MBX_LB_FULL (2 * p + 1))
  { c with mbx := { c.mbx with reported := c.mbx.reported.filter (fun p => both.any (· == p)) } }.set R.MBX_STATUS_FULL_MAP
    (both.foldl setBit 0)

/-- A sender's write while FULL = 1 (R391). -/
def Ctl.collide (c : Ctl) (n : Nat) : Ctl :=
  if c.is R.MBX_LB_FULL n then ((c.set R.MBX_LB_COLLIDE 1 n).set R.MBX_STATUS_COLLIDE_SEEN 1).raise Ev.MBX_COLLIDE (n / 2) else c

/-- A write of a data word (R391). -/
def Ctl.lbData (c : Ctl) (m : Master) (n w d : Nat) : Ctl :=
  if c.sender n != some m then (c.denied m (0x40000 + 128 * n + 4 * w)).set R.MBX_STATUS_LAST 4
  else ((c.collide n).set R.MBX_LB_DATA d (16 * n + w)).set R.MBX_STATUS_LAST 0

/-- A write of LB_GO (R391): FULL, the message count, and the pair's bell for an odd letterbox. -/
def Ctl.lbGo (c : Ctl) (m : Master) (n : Nat) : Ctl :=
  if c.sender n != some m then (c.denied m (0x40040 + 128 * n)).set R.MBX_STATUS_LAST 4
  else
    let c := (((c.collide n).set R.MBX_LB_FULL 1 n).inc R.MBX_LB_LB_GO n).set R.MBX_STATUS_LAST 0
    (c.when (n % 2 == 1) (·.raise (Ev.MBX_BELL + n / 2) (n / 2))).showFull

/-- A read of LB_GO (R391): the message count; the receiver's read clears FULL. -/
def Ctl.lbRead (c : Ctl) (m : Master) (n : Nat) : Ctl × Nat :=
  let v := c.get R.MBX_LB_LB_GO n
  if c.receiver n != some m then (c, v)
  else
    let full := c.is R.MBX_LB_FULL n
    let c := (c.set R.MBX_LB_FULL 0 n).showFull
    (c.when (full && n % 2 == 0 && n < 12) (·.raise Ev.MBX_EMPTY (n / 2)), v)

/-- The data words of a letterbox. -/
def Ctl.lbWords (c : Ctl) (n : Nat) : List Nat := (List.range 16).map (fun w => c.get R.MBX_LB_DATA (16 * n + w))

/-- A host's write of a data word. -/
def letterboxDataWrite (m : Master) (n : Fin 16) (w : Fin 16) (d : Nat) (c : Ctl) : Ctl := c.lbData m n w d

/-- A write of LB_GO. -/
def lbGoWrite (m : Master) (n : Fin 16) (c : Ctl) : Ctl := c.lbGo m n

/-- A read of LB_GO. -/
def lbGoRead (m : Master) (n : Fin 16) (c : Ctl) : Ctl := let p := c.lbRead m n; p.1.emit (.readData p.2)

/-- Both letterboxes of a pair have been FULL for STANDOFF (R392): reported once. -/
def letterboxStandoff (p : Fin 8) (c : Ctl) : Ctl :=
  if !(c.is R.MBX_LB_FULL (2 * p) && c.is R.MBX_LB_FULL (2 * p + 1)) || c.mbx.reported.any (· == p.val) then c
  else ({ c with mbx := { c.mbx with reported := p.val :: c.mbx.reported } }.set R.MBX_STATUS_STANDOFF_SEEN 1).raise Ev.MBX_STANDOFF p

/-- A write of MBX_ALLOC[k] (R394). -/
def mbxAllocWrite (k : Fin 2) (d : Nat) (c : Ctl) : Ctl :=
  let p := k.val + 2
  if c.is R.MBX_LB_FULL (2 * p) || c.is R.MBX_LB_FULL (2 * p + 1) then
    (c.set R.MBX_STATUS_LAST 1).refuse R.MBX_STATUS_ERR_STATE Ev.MBX_STATE
  else ((c.set R.MBX_ALLOC_YARD (R.MBX_ALLOC_YARD.of d) k).set R.MBX_ALLOC_EN (R.MBX_ALLOC_EN.of d) k).set R.MBX_STATUS_LAST 0

/-! ## Latches -/

/-- The owner code of a master (R404). -/
def ownerCode : Master → Nat
  | .fn1 => 4096
  | m => m.num

/-- A read of LATCH[i] (R403): 0 and ownership where it was free, else the held value. -/
def Ctl.latchTry (c : Ctl) (m : Master) (i : Nat) : Ctl × Nat :=
  let v := c.get R.LATCH i
  if v = 0 then (c.set R.LATCH (0x80000000 + ownerCode m) i, 0) else (c, v)

/-- A write of LATCH[i] (R403): the owner's frees it; any other is ignored and reported. -/
def Ctl.latchFree (c : Ctl) (m : Master) (i : Nat) : Ctl :=
  if c.get R.LATCH i = 0x80000000 + ownerCode m then c.resFreeUp 0 3 i
  else (c.set R.MBX_STATUS_LATCH_SEEN 1).raise Ev.MBX_LATCH i

/-- Frees every latch with an owner code that `p` accepts (R405). -/
def Ctl.latchRelease (c : Ctl) (p : Nat → Bool) : Ctl :=
  c.each (List.range 64) (fun c i =>
    let v := c.get R.LATCH i
    if v != 0 && p (v - 0x80000000) then c.resFreeUp 0 3 i else c)

/-- A read of a latch by a master. -/
def latchRead (m : Master) (i : Fin 64) (c : Ctl) : Ctl := let p := c.latchTry m i; p.1.emit (.readData p.2)

/-- A write of a latch by a master. -/
def latchWrite (m : Master) (i : Fin 64) (c : Ctl) : Ctl := c.latchFree m i

end Sys2Proof.Machine
end

