-- ==== Sys2Proof/Machine/Seq.lean ====
section
/-! DEFINITION. The yard sequencers (spec/08) but for their loads and stores: integer, float and vector instructions, special
registers, waiting, orders, completion records, latches, letterboxes, exceptions, and the images that they run. -/
namespace Sys2Proof.Machine

/-- What an instruction does: the sequencer goes on, or an exception of R209 with its code and captured address. -/
inductive SeqRes where
  | ok (q : SeqSt)
  | exc (code addr : Nat)

/-- Integer register `i`; s0 reads 0 (R186). -/
def SeqSt.rs (q : SeqSt) (i : Nat) : Nat := if i = 0 then 0 else cget q.s i

/-- Writes integer register `i`; a write of s0 is discarded (R186). -/
def SeqSt.ws (q : SeqSt) (i v : Nat) : SeqSt := if i = 0 then q else { q with s := cset q.s i (v % 2 ^ 32) }

/-- Float register `i`. -/
def SeqSt.rf (q : SeqSt) (i : Nat) : Nat := cget q.f i

/-- Writes float register `i`. -/
def SeqSt.wf (q : SeqSt) (i v : Nat) : SeqSt := { q with f := cset q.f i (v % 2 ^ 32) }

/-- The next instruction. -/
def SeqSt.adv (q : SeqSt) : SeqSt := { q with pc := (q.pc + 4) % 2 ^ 32 }

/-- Flags accumulate (R196). -/
def SeqSt.flag (q : SeqSt) (n : Nat) : SeqSt := { q with fflags := q.fflags ||| n }

/-- The causes that do not depend on the instruction: a field marked 0, a fetch outside the half or an uncorrectable
fetch, a parity error of a register read (R187, R189, R195, R209). -/
def preCauses (k : Issue) (q : SeqSt) : List Nat :=
  (if k.mbz then [1] else []) ++ (if 0x20000 ≤ q.pc then [3] else []) ++ (if k.fetchEcc then [5] else []) ++
    (if k.parity then [6] else [])

/-- The lowest code of those that coincide (R209). -/
def worst (l : List Nat) (r : SeqRes) : SeqRes :=
  l.foldl (fun r n => match r with | .ok _ => .exc n 0 | .exc m a => if n < m then .exc n 0 else .exc m a) r

/-- An exception (R209): the sequencer halts, the capture registers are filled, its latches are released. -/
def Ctl.seqExc (c : Ctl) (y code addr trap : Nat) : Ctl :=
  let q := c.seq y
  let c := c.setSeq y { q with wait := .none, excWin := some c.winNo }
  let c := ((c.set R.YARD_STATUS_SEQ_RUN 0 y).set R.YARD_STATUS_SEQ_EXC 1 y).set R.YARD_SEQ_CAP_CAUSE code y
  let c := ((c.set R.YARD_SEQ_CAP_TRAP (if code = 9 then trap else 0) y).set R.YARD_SEQ_EPC q.pc y).set R.YARD_SEQ_EADDR addr y
  let c := (c.set R.YARD_SEQ_EWIN c.winNo y).set R.YARD_SEQ_IMAGE ((q.active.map (·.id)).getD 0) y
  (c.latchRelease (· == 2 + y)).raise Ev.YARD_SEQ y

/-- Whether a sequencer issues instructions: it runs and does not wait. -/
def Ctl.seqReady (c : Ctl) (y : Nat) : Bool := c.is R.YARD_STATUS_SEQ_RUN y && (c.seq y).wait == .none

/-- Ends an instruction: its result, or the exception with the lowest code. -/
def Ctl.seqEnd (c : Ctl) (k : Issue) (trap : Nat) (r : SeqRes) : Ctl :=
  match worst (preCauses k (c.seq k.yard)) r with
  | .ok q => c.setSeq k.yard q
  | .exc code addr => c.seqExc k.yard code addr trap

/-- One instruction that touches the sequencer alone; a halted or waiting sequencer issues nothing. -/
def seqOp (k : Issue) (f : SeqSt → SeqRes) (c : Ctl) : Ctl :=
  if c.seqReady k.yard then c.seqEnd k 0 (f (c.seq k.yard)) else c

/-! ## Integer (R190, R191) -/

/-- rd = g of two values. -/
def SeqSt.alu (q : SeqSt) (rd v : Nat) : SeqRes := .ok (q.ws rd v).adv

/-- The signed value of a word. -/
def s32 (n : Nat) : Int := sx 32 n

/-- An integer instruction of three registers. -/
def intOp (k : Issue) (rd ra rb : Fin 32) (g : Nat → Nat → Nat) : Ctl → Ctl :=
  seqOp k (fun q => q.alu rd (g (q.rs ra) (q.rs rb)))

/-- Count of trailing zeros; 32 for 0. -/
def ctz32 (n : Nat) : Nat := ((List.range 32).find? (fun i => bit n i)).getD 32

/-- Count of leading zeros; 32 for 0. -/
def clz32 (n : Nat) : Nat := ((List.range 32).find? (fun i => bit n (31 - i))).getD 32

/-- Signed division with the results of R191's table. -/
def div32 (a b : Nat) : Nat := if b = 0 then 0xFFFFFFFF else ux 32 (Int.tdiv (s32 a) (s32 b))

/-- Signed remainder with the results of R191's table. -/
def rem32 (a b : Nat) : Nat := if b = 0 then a else ux 32 (Int.tmod (s32 a) (s32 b))

def seqAdd (k : Issue) (rd ra rb : Fin 32) : Ctl → Ctl := intOp k rd ra rb (fun a b => a + b)
def seqSub (k : Issue) (rd ra rb : Fin 32) : Ctl → Ctl := intOp k rd ra rb (fun a b => a + 2 ^ 32 - b)
def seqAnd (k : Issue) (rd ra rb : Fin 32) : Ctl → Ctl := intOp k rd ra rb (fun a b => a &&& b)
def seqOr (k : Issue) (rd ra rb : Fin 32) : Ctl → Ctl := intOp k rd ra rb (fun a b => a ||| b)
def seqXor (k : Issue) (rd ra rb : Fin 32) : Ctl → Ctl := intOp k rd ra rb (fun a b => a ^^^ b)
def seqSll (k : Issue) (rd ra rb : Fin 32) : Ctl → Ctl := intOp k rd ra rb (fun a b => a * 2 ^ (b % 32))
def seqSrl (k : Issue) (rd ra rb : Fin 32) : Ctl → Ctl := intOp k rd ra rb (fun a b => a / 2 ^ (b % 32))
def seqSra (k : Issue) (rd ra rb : Fin 32) : Ctl → Ctl := intOp k rd ra rb (fun a b => ux 32 (asr (s32 a) (b % 32)))
def seqSlt (k : Issue) (rd ra rb : Fin 32) : Ctl → Ctl := intOp k rd ra rb (fun a b => b2n (s32 a < s32 b))
def seqSltu (k : Issue) (rd ra rb : Fin 32) : Ctl → Ctl := intOp k rd ra rb (fun a b => b2n (a < b))
def seqMul (k : Issue) (rd ra rb : Fin 32) : Ctl → Ctl := intOp k rd ra rb (fun a b => a * b)
def seqMulh (k : Issue) (rd ra rb : Fin 32) : Ctl → Ctl := intOp k rd ra rb (fun a b => ux 32 (asr (s32 a * s32 b) 32))
def seqMulhu (k : Issue) (rd ra rb : Fin 32) : Ctl → Ctl := intOp k rd ra rb (fun a b => a * b / 2 ^ 32)
def seqDiv (k : Issue) (rd ra rb : Fin 32) : Ctl → Ctl := intOp k rd ra rb div32
def seqDivu (k : Issue) (rd ra rb : Fin 32) : Ctl → Ctl := intOp k rd ra rb (fun a b => if b = 0 then 0xFFFFFFFF else a / b)
def seqRem (k : Issue) (rd ra rb : Fin 32) : Ctl → Ctl := intOp k rd ra rb rem32
def seqRemu (k : Issue) (rd ra rb : Fin 32) : Ctl → Ctl := intOp k rd ra rb (fun a b => if b = 0 then a else a % b)
def seqMin (k : Issue) (rd ra rb : Fin 32) : Ctl → Ctl := intOp k rd ra rb (fun a b => if s32 b < s32 a then b else a)
def seqMax (k : Issue) (rd ra rb : Fin 32) : Ctl → Ctl := intOp k rd ra rb (fun a b => if s32 a < s32 b then b else a)
def seqMinu (k : Issue) (rd ra rb : Fin 32) : Ctl → Ctl := intOp k rd ra rb (fun a b => min a b)
def seqMaxu (k : Issue) (rd ra rb : Fin 32) : Ctl → Ctl := intOp k rd ra rb (fun a b => max a b)
def seqSlli (k : Issue) (rd ra : Fin 32) (n : Fin 32) : Ctl → Ctl := seqOp k (fun q => q.alu rd (q.rs ra * 2 ^ n.val))
def seqSrli (k : Issue) (rd ra : Fin 32) (n : Fin 32) : Ctl → Ctl := seqOp k (fun q => q.alu rd (q.rs ra / 2 ^ n.val))
def seqSrai (k : Issue) (rd ra : Fin 32) (n : Fin 32) : Ctl → Ctl := seqOp k (fun q => q.alu rd (ux 32 (asr (s32 (q.rs ra)) n)))
def seqCtz (k : Issue) (rd ra : Fin 32) : Ctl → Ctl := seqOp k (fun q => q.alu rd (ctz32 (q.rs ra)))
def seqClz (k : Issue) (rd ra : Fin 32) : Ctl → Ctl := seqOp k (fun q => q.alu rd (clz32 (q.rs ra)))
def seqAddi (k : Issue) (rd ra : Fin 32) (imm : BitVec 16) : Ctl → Ctl :=
  seqOp k (fun q => q.alu rd (ux 32 ((q.rs ra : Int) + imm.toInt)))
def seqAndi (k : Issue) (rd ra : Fin 32) (imm : BitVec 16) : Ctl → Ctl := seqOp k (fun q => q.alu rd (q.rs ra &&& imm.toNat))
def seqOri (k : Issue) (rd ra : Fin 32) (imm : BitVec 16) : Ctl → Ctl := seqOp k (fun q => q.alu rd (q.rs ra ||| imm.toNat))
def seqXori (k : Issue) (rd ra : Fin 32) (imm : BitVec 16) : Ctl → Ctl := seqOp k (fun q => q.alu rd (q.rs ra ^^^ imm.toNat))
def seqSlti (k : Issue) (rd ra : Fin 32) (imm : BitVec 16) : Ctl → Ctl :=
  seqOp k (fun q => q.alu rd (b2n (s32 (q.rs ra) < imm.toInt)))
def seqSltiu (k : Issue) (rd ra : Fin 32) (imm : BitVec 16) : Ctl → Ctl :=
  seqOp k (fun q => q.alu rd (b2n (q.rs ra < ux 32 imm.toInt)))
def seqLui (k : Issue) (rd : Fin 32) (imm : BitVec 16) : Ctl → Ctl := seqOp k (fun q => q.alu rd (imm.toNat * 65536))

/-! ## Control transfer (R195) -/

/-- A branch: taken, to PC + 4 + 4 × offset. -/
def branchOp (k : Issue) (ra rb : Fin 32) (off : BitVec 16) (p : Nat → Nat → Bool) : Ctl → Ctl :=
  seqOp k (fun q => .ok (if p (q.rs ra) (q.rs rb) then { q with pc := ux 32 ((q.pc : Int) + 4 + 4 * off.toInt) } else q.adv))

def seqBeq (k : Issue) (ra rb : Fin 32) (off : BitVec 16) : Ctl → Ctl := branchOp k ra rb off (fun a b => a == b)
def seqBne (k : Issue) (ra rb : Fin 32) (off : BitVec 16) : Ctl → Ctl := branchOp k ra rb off (fun a b => a != b)
def seqBlt (k : Issue) (ra rb : Fin 32) (off : BitVec 16) : Ctl → Ctl := branchOp k ra rb off (fun a b => s32 a < s32 b)
def seqBge (k : Issue) (ra rb : Fin 32) (off : BitVec 16) : Ctl → Ctl := branchOp k ra rb off (fun a b => s32 b ≤ s32 a)
def seqBltu (k : Issue) (ra rb : Fin 32) (off : BitVec 16) : Ctl → Ctl := branchOp k ra rb off (fun a b => a < b)
def seqBgeu (k : Issue) (ra rb : Fin 32) (off : BitVec 16) : Ctl → Ctl := branchOp k ra rb off (fun a b => b ≤ a)
def seqJal (k : Issue) (off : BitVec 26) : Ctl → Ctl :=
  seqOp k (fun q => .ok { (q.ws 31 (q.pc + 4)) with pc := ux 32 ((q.pc : Int) + 4 + 4 * off.toInt) })
def seqJalr (k : Issue) (rd ra : Fin 32) (imm : BitVec 16) : Ctl → Ctl :=
  seqOp k (fun q =>
    let t := ux 32 ((q.rs ra : Int) + imm.toInt)
    if t % 4 != 0 then .exc 2 t else .ok { (q.ws rd (q.pc + 4)) with pc := t })

/-! ## Floating point (R196 to R198) -/

/-- A float result with its flags. -/
def SeqSt.fres (q : SeqSt) (rd : Nat) (r : Nat × Nat) : SeqRes := .ok ((q.wf rd r.1).flag r.2).adv

/-- An integer result with its flags. -/
def SeqSt.ires (q : SeqSt) (rd : Nat) (r : Nat × Nat) : SeqRes := .ok ((q.ws rd r.1).flag r.2).adv

/-- A float instruction of three registers. -/
def fltOp (k : Issue) (rd ra rb : Fin 32) (g : Nat → Nat → Nat × Nat) : Ctl → Ctl :=
  seqOp k (fun q => q.fres rd (g (q.rf ra) (q.rf rb)))

def seqFadd (k : Issue) (rd ra rb : Fin 32) : Ctl → Ctl := fltOp k rd ra rb fAdd
def seqFsub (k : Issue) (rd ra rb : Fin 32) : Ctl → Ctl := fltOp k rd ra rb fSub
def seqFmul (k : Issue) (rd ra rb : Fin 32) : Ctl → Ctl := fltOp k rd ra rb fMul
def seqFdiv (k : Issue) (rd ra rb : Fin 32) : Ctl → Ctl := fltOp k rd ra rb fDiv
def seqFsqrt (k : Issue) (rd ra : Fin 32) : Ctl → Ctl := seqOp k (fun q => q.fres rd (fSqrt (q.rf ra)))
def seqFmin (k : Issue) (rd ra rb : Fin 32) : Ctl → Ctl := fltOp k rd ra rb (fPick false)
def seqFmax (k : Issue) (rd ra rb : Fin 32) : Ctl → Ctl := fltOp k rd ra rb (fPick true)
def seqFneg (k : Issue) (rd ra : Fin 32) : Ctl → Ctl :=
  seqOp k (fun q => .ok (q.wf rd (putBit (q.rf ra) 31 (!bit (q.rf ra) 31))).adv)
def seqFabs (k : Issue) (rd ra : Fin 32) : Ctl → Ctl := seqOp k (fun q => .ok (q.wf rd (clrBit (q.rf ra) 31)).adv)
def seqFmov (k : Issue) (rd ra : Fin 32) : Ctl → Ctl := seqOp k (fun q => .ok (q.wf rd (q.rf ra)).adv)
def seqFeq (k : Issue) (rd ra rb : Fin 32) : Ctl → Ctl := seqOp k (fun q => q.ires rd (fCmp 0 (q.rf ra) (q.rf rb)))
def seqFlt (k : Issue) (rd ra rb : Fin 32) : Ctl → Ctl := seqOp k (fun q => q.ires rd (fCmp 1 (q.rf ra) (q.rf rb)))
def seqFle (k : Issue) (rd ra rb : Fin 32) : Ctl → Ctl := seqOp k (fun q => q.ires rd (fCmp 2 (q.rf ra) (q.rf rb)))
def seqFtoi (k : Issue) (rd ra : Fin 32) (n : Fin 32) : Ctl → Ctl := seqOp k (fun q => q.ires rd (fToInt (q.rf ra) n))
def seqItof (k : Issue) (rd ra : Fin 32) (n : Fin 32) : Ctl → Ctl := seqOp k (fun q => q.fres rd (fOfInt (q.rs ra) n))
def seqFmvs (k : Issue) (rd ra : Fin 32) : Ctl → Ctl := seqOp k (fun q => q.alu rd (q.rf ra))
def seqFmvf (k : Issue) (rd ra : Fin 32) : Ctl → Ctl := seqOp k (fun q => .ok (q.wf rd (q.rs ra)).adv)

/-- The vector at f[a]. -/
def SeqSt.vec (q : SeqSt) (a : Nat) : List Nat := [q.rf a, q.rf (a + 1), q.rf (a + 2)]

/-- A two-operand operation on a result that carries flags. -/
def fop (g : Nat → Nat → Nat × Nat) (a b : Nat × Nat) : Nat × Nat :=
  let r := g a.1 b.1
  (r.1, a.2 ||| b.2 ||| r.2)

/-- An operand, with no flag. -/
def fop0 (a : Nat) : Nat × Nat := (a, 0)

/-- (ax × bx + ay × by) + az × bz (R198). -/
def fDot (a b : List (Nat × Nat)) : Nat × Nat :=
  let m := fun (i : Nat) => fop fMul (a.getD i (0, 0)) (b.getD i (0, 0))
  fop fAdd (fop fAdd (m 0) (m 1)) (m 2)

/-- ay × bz − az × by and its rotations. -/
def fCross (a b : List Nat) : List (Nat × Nat) :=
  let m := fun (i j : Nat) => fMul (a.getD i 0) (b.getD j 0)
  [fop fSub (m 1 2) (m 2 1), fop fSub (m 2 0) (m 0 2), fop fSub (m 0 1) (m 1 0)]

/-- Componentwise. -/
def fZip (g : Nat → Nat → Nat × Nat) (a b : List Nat) : List (Nat × Nat) := List.zipWith g a b

/-- Writes results to f[rd] on, and accumulates their flags. -/
def SeqSt.vres (q : SeqSt) (rd : Nat) (l : List (Nat × Nat)) : SeqRes :=
  .ok ((l.zipIdx).foldl (fun q e => (q.wf (rd + e.2) e.1.1).flag e.1.2) q).adv

/-- A vector instruction: `lim` bounds the operands that name vectors, the rest are scalars (R198). -/
def geoOp (k : Issue) (ok : Bool) (rd : Fin 32) (g : SeqSt → List (Nat × Nat)) : Ctl → Ctl :=
  seqOp k (fun q => if ok then q.vres rd (g q) else .exc 1 0)

def seqVadd3 (k : Issue) (rd ra rb : Fin 32) : Ctl → Ctl :=
  geoOp k (rd ≤ 29 && ra ≤ 29 && rb ≤ 29) rd (fun q => fZip fAdd (q.vec ra) (q.vec rb))
def seqVsub3 (k : Issue) (rd ra rb : Fin 32) : Ctl → Ctl :=
  geoOp k (rd ≤ 29 && ra ≤ 29 && rb ≤ 29) rd (fun q => fZip fSub (q.vec ra) (q.vec rb))
def seqVscl3 (k : Issue) (rd ra rb : Fin 32) : Ctl → Ctl :=
  geoOp k (rd ≤ 29 && ra ≤ 29) rd (fun q => (q.vec ra).map (fun a => fMul a (q.rf rb)))
def seqDot3 (k : Issue) (rd ra rb : Fin 32) : Ctl → Ctl :=
  geoOp k (ra ≤ 29 && rb ≤ 29) rd (fun q => [fDot ((q.vec ra).map fop0) ((q.vec rb).map fop0)])
def seqVdist (k : Issue) (rd ra rb : Fin 32) : Ctl → Ctl :=
  geoOp k (ra ≤ 29 && rb ≤ 29) rd (fun q =>
    let d := fZip fSub (q.vec ra) (q.vec rb)
    let s := fDot d d
    let r := fSqrt s.1
    [(r.1, s.2 ||| r.2)])
def seqCross3 (k : Issue) (rd ra rb : Fin 32) : Ctl → Ctl :=
  geoOp k (rd ≤ 29 && ra ≤ 29 && rb ≤ 29) rd (fun q => fCross (q.vec ra) (q.vec rb))
def seqMv3 (k : Issue) (rd ra rb : Fin 32) : Ctl → Ctl :=
  geoOp k (rd ≤ 29 && ra ≤ 23 && rb ≤ 29) rd (fun q =>
    [0, 3, 6].map (fun i => fDot ((q.vec (ra + i)).map fop0) ((q.vec rb).map fop0)))
def seqRsq (k : Issue) (rd ra : Fin 32) : Ctl → Ctl := seqOp k (fun q => q.fres rd (fRsq (q.rf ra)))

/-! ## Special registers (R188) -/

/-- SEQSTAT. -/
def Ctl.seqStat (c : Ctl) : Nat :=
  c.get R.WIN_CTRL_LEN + 4 * b2n c.rate96 + 8 * b2n c.lean + 16 * c.get R.WIN_TICK_LEN_ACTIVE

/-- The value of special register `n`; none where the index is reserved. -/
def Ctl.special (c : Ctl) (y n cyc : Nat) : Option Nat :=
  let q := c.seq y
  [c.seqStat, c.cwin, q.winHi, c.get R.WIN_TICK_COUNT, c.get R.WIN_TICK_PHASE, y + 256 * (c.node % 64), cyc % 2 ^ 32, q.cycHi,
    q.fflags, q.lastPost, q.cq.length, q.cqLost, q.dwin, q.wdog, q.sclass, (q.active.map (·.id)).getD 0][n]?

/-- A read of CYCLE: SEQ cycles since reset. How many have passed since the last read is a free value, never 0 (log entry 13). -/
def Ctl.cycleRead (c : Ctl) : Nat × Ctl :=
  let p := c.free 48
  let n := c.clk.seqCycles + 1 + p.1
  (n, { p.2 with clk := { p.2.clk with seqCycles := n } })

/-- MFK: a read of k1 latches k2, and a read of k6 latches k7. -/
def seqMfk (k : Issue) (rd : Fin 32) (n : Fin 64) (c : Ctl) : Ctl :=
  let p := if n.val = 6 then c.cycleRead else (0, c)
  if !c.seqReady k.yard then c
  else
    let q := c.seq k.yard
    match c.special k.yard n p.1 with
    | none => c.seqEnd k 0 (.exc 1 0)
    | some v =>
      let q := if n.val = 1 then { q with winHi := c.win.ext / 2 ^ 32 % 2 ^ 32 } else q
      let q := if n.val = 6 then { q with cycHi := p.1 / 2 ^ 32 } else q
      p.2.seqEnd k 0 (.ok (q.ws rd v).adv)

/-- MTK: the RW registers FFLAGS, DWIN, WDOG and SCLASS. -/
def seqMtk (k : Issue) (n : Fin 64) (ra : Fin 32) : Ctl → Ctl :=
  seqOp k (fun q =>
    let v := q.rs ra
    match n.val with
    | 8 => .ok ({ q with fflags := v % 32 } : SeqSt).adv
    | 12 => .ok ({ q with dwin := v } : SeqSt).adv
    | 13 => .ok ({ q with wdog := max 2 (min 255 v) } : SeqSt).adv
    | 14 => .ok ({ q with sclass := v % 4 } : SeqSt).adv
    | _ => .exc 1 0)

/-! ## Waiting (R200) -/

/-- Resuming writes WIN to rd and ends the watchdog count (R200, R209). -/
def SeqSt.resume (q : SeqSt) (win rd : Nat) : SeqSt := { (q.ws rd win).adv with wait := .none, boundaries := 0 }

def seqWaitAbs (k : Issue) (rd ra : Fin 32) (c : Ctl) : Ctl :=
  seqOp k (fun q => .ok (if c.winStarted (q.rs ra) then q.resume c.cwin rd else { q with wait := .abs (q.rs ra) rd })) c
def seqWaitNext (k : Issue) (rd : Fin 32) : Ctl → Ctl := seqOp k (fun q => .ok { q with wait := .next rd false })
def seqWaitTick (k : Issue) (rd : Fin 32) : Ctl → Ctl := seqOp k (fun q => .ok { q with wait := .tick rd false })

/-- The awaited boundary has passed, and its snapshot has been taken: the sequencer resumes with the current WIN. -/
def seqWaitResume (y : Fin 4) (c : Ctl) : Ctl :=
  let q := c.seq y
  if !c.is R.YARD_STATUS_SEQ_RUN y || c.tab.tickDue then c
  else match q.wait with
    | .abs w rd => if c.winStarted w then c.setSeq y (q.resume c.cwin rd) else c
    | .next rd true => c.setSeq y (q.resume c.cwin rd)
    | .tick rd true => c.setSeq y (q.resume c.cwin rd)
    | _ => c

/-- A window boundary, seen by a yard's sequencer: waits fall due and the watchdog counts. -/
def Ctl.seqBoundary (c : Ctl) (y : Nat) : Ctl :=
  match kget? c.seqs y with
  | none => c
  | some q =>
    let w := match q.wait with
      | .next rd _ => .next rd true
      | .tick rd d => .tick rd (d || c.tab.tickDue)
      | w => w
    c.setSeq y { q with wait := w, boundaries := q.boundaries + 1 }

/-- FENCE: every earlier store has completed (log entry 14). -/
def seqFence (k : Issue) : Ctl → Ctl := seqOp k (fun q => .ok q.adv)

/-- TRAP. -/
def seqTrap (k : Issue) (n : Fin 64) (c : Ctl) : Ctl := if c.seqReady k.yard then c.seqEnd k n (.exc 9 0) else c

/-- WDOG window boundaries have passed since the last resume (R209). A sequencer in WAIT.W does not leave it for this (R200). -/
def seqWatchdog (y : Fin 4) (c : Ctl) : Ctl :=
  if c.seqReady y && (c.seq y).wdog ≤ (c.seq y).boundaries then c.seqExc y 8 0 0 else c

/-! ## DMEM, orders and completion records (R201 to R204) -/

/-- Whether `n` bytes at a sequencer address lie in DMEM. -/
def inDmem (a n : Nat) : Bool := 0x40000 ≤ a && a + n ≤ 0x60000

/-- The place of a DMEM address in the data memories: the half in force. -/
def dmemAt (y half a : Nat) : Nat := y * 0x40000 + half * 0x20000 + (a - 0x40000)

/-- Writes 32-bit words at consecutive addresses. -/
def Mem.wrWords (m : Mem) (a : Nat) (l : List Nat) : Mem := (l.zipIdx).foldl (fun m e => m.wrN (a + 4 * e.2) 4 e.1) m

/-- The cause of an access to a buffer in DMEM. -/
def bufCause (a align n : Nat) : Option (Nat × Nat) :=
  if a % align != 0 then some (2, a) else if !inDmem a n then some (3, a) else none

/-- The order in eight words, and whether its fields marked 0 are 0 (R201). -/
def orderOf (w : Nat → Nat) : Order × Bool :=
  (⟨w 0 / 2 ^ 18 % 4, w 0 / 2 ^ 20 % 16, w 2, w 3 % 65536, w 0 / 2 ^ 24 % 4, w 4 % 65536, w 4 / 65536, w 0 % 2 ^ 18, w 1 % 2 ^ 18, 0, none⟩,
    w 0 < 2 ^ 26 && w 1 < 2 ^ 18 && w 3 < 65536 && w 5 == 0 && w 6 == 0 && w 7 == 0)

/-- The check of an order against the job-entry table (R202 step 3). -/
def Image.allows (g : Image) (o : Order) : Bool :=
  g.entries.any (fun e => e.1 == o.entry && bit e.2.2 o.cls && o.cost ≤ e.2.1)

/-- POST (R202). -/
def seqPost (k : Issue) (rd ra : Fin 32) (x : Mach) : Mach :=
  let y := k.yard.val
  if !x.c.seqReady y then x
  else
    let q := x.c.seq y
    let a := q.rs ra
    let o := orderOf (fun i => x.m.dmem.rdN (dmemAt y q.half (a + 4 * i)) 4)
    let good := o.2 && (match q.active with | some g => g.allows o.1 | none => false)
    let r := match bufCause a 32 32 with
      | some e => SeqRes.exc e.1 e.2
      | none => if k.ecc then .exc 5 a else if good then .ok q else .exc 7 a
    match worst (preCauses k q) r with
    | .exc code addr => { x with c := x.c.seqExc y code addr 0 }
    | .ok _ =>
      let n := x.c.get R.YARD_POSTS y
      let p := x.c.postOrder y o.1
      let q := p.1.seq y
      { x with c := p.1.setSeq y { (q.ws rd p.2).adv with lastPost := if p.2 = 0 then n else q.lastPost } }

/-- CPOP (R204): an empty queue leaves the buffer alone, whatever its address. A word that the check of the record finds
uncorrectable now is poison like one found before. -/
def seqCpop (k : Issue) (rd ra : Fin 32) (x : Mach) : Mach :=
  let y := k.yard.val
  if !x.c.seqReady y then x
  else
    let q := x.c.seq y
    let a := q.rs ra
    match q.cq with
    | [] => { x with c := x.c.seqEnd k 0 (.ok (q.ws rd 0).adv) }
    | r :: l =>
      let res := match bufCause a 16 16 with
        | some e => SeqRes.exc e.1 e.2
        | none => .ok { (q.ws rd (if r.poison || k.ecc then 3 else 1)).adv with cq := l }
      match worst (preCauses k q) res with
      | .exc _ _ => { x with c := x.c.seqEnd k 0 res }
      | .ok q' =>
        { c := x.c.setSeq y q',
          m := { x.m with dmem := x.m.dmem.wrWords (dmemAt y q.half a) r.words } }

/-! ## Latches and letterboxes (R205, R206) -/

/-- The latch index. -/
def SeqSt.latch (q : SeqSt) (ra imm : Nat) : Nat := (q.rs ra + imm) % 64

/-- LTRY. -/
def seqLtry (k : Issue) (rd ra : Fin 32) (n : Fin 64) (c : Ctl) : Ctl :=
  if !c.seqReady k.yard then c
  else match worst (preCauses k (c.seq k.yard)) (.ok (c.seq k.yard)) with
    | .exc code addr => c.seqExc k.yard code addr 0
    | .ok q =>
      let p := c.latchTry (.seq k.yard) (q.latch ra n)
      p.1.setSeq k.yard ((p.1.seq k.yard).ws rd p.2).adv

/-- LREL. -/
def seqLrel (k : Issue) (ra : Fin 32) (n : Fin 64) (c : Ctl) : Ctl :=
  if !c.seqReady k.yard then c
  else match worst (preCauses k (c.seq k.yard)) (.ok (c.seq k.yard)) with
    | .exc code addr => c.seqExc k.yard code addr 0
    | .ok q =>
      let c := c.latchFree (.seq k.yard) (q.latch ra n)
      c.setSeq k.yard (c.seq k.yard).adv

/-- Ends MBX with a value in rd. -/
def Ctl.mbxRd (c : Ctl) (y rd v : Nat) : Ctl := c.setSeq y ((c.seq y).ws rd v).adv

/-- The first step of MBX: the buffer's cause, if any. -/
def Ctl.mbxStart (c : Ctl) (k : Issue) (a : Option Nat) : SeqRes :=
  let q := c.seq k.yard
  worst (preCauses k q) (match a.bind (bufCause · 4 64) with
    | some e => .exc e.1 e.2
    | none => if k.ecc then .exc 5 (a.getD 0) else .ok q)

/-- LBS: the sixteen words go into the letterbox, then LB_GO. -/
def seqLbs (k : Issue) (rd ra : Fin 32) (n : Fin 16) (x : Mach) : Mach :=
  let y := k.yard.val
  if !x.c.seqReady y then x
  else
    let q := x.c.seq y
    let a := q.rs ra
    let m := Master.seq k.yard
    if n.val < 8 && x.c.sender n == some m then
      match x.c.mbxStart k (some a) with
      | .exc code addr => { x with c := x.c.seqExc y code addr 0 }
      | .ok _ =>
        let full := x.c.is R.MBX_LB_FULL n
        let c := x.c.each (List.range 16) (fun c i => c.lbData m n i (x.m.dmem.rdN (dmemAt y q.half (a + 4 * i)) 4))
        { x with c := (c.lbGo m n).mbxRd y rd (16 * b2n full) }
    else match x.c.mbxStart k none with
      | .exc code addr => { x with c := x.c.seqExc y code addr 0 }
      | .ok _ => { x with c := x.c.mbxRd y rd 4 }

/-- LBR: a full letterbox is copied to DMEM and emptied. -/
def seqLbr (k : Issue) (rd ra : Fin 32) (n : Fin 16) (x : Mach) : Mach :=
  let y := k.yard.val
  if !x.c.seqReady y then x
  else
    let q := x.c.seq y
    let a := q.rs ra
    let m := Master.seq k.yard
    let mine := n.val < 8 && x.c.receiver n == some m
    let full := x.c.is R.MBX_LB_FULL n
    match x.c.mbxStart k (if mine && full then some a else none) with
    | .exc code addr => { x with c := x.c.seqExc y code addr 0 }
    | .ok _ =>
      if !mine then { x with c := x.c.mbxRd y rd 4 }
      else if !full then { x with c := x.c.mbxRd y rd 3 }
      else
        { c := (x.c.lbRead m n).1.mbxRd y rd 0,
          m := { x.m with dmem := x.m.dmem.wrWords (dmemAt y q.half a) (x.c.lbWords n) } }

/-- LBT: FULL and COLLIDE of a letterbox that the sequencer may use. -/
def seqLbt (k : Issue) (rd : Fin 32) (n : Fin 16) (c : Ctl) : Ctl :=
  if !c.seqReady k.yard then c
  else match c.mbxStart k none with
    | .exc code addr => c.seqExc k.yard code addr 0
    | .ok _ =>
      let m := Master.seq k.yard
      let mine := n.val < 8 && (c.sender n == some m || c.receiver n == some m)
      c.mbxRd k.yard rd (if mine then b2n (c.is R.MBX_LB_FULL n) + 2 * b2n (c.is R.MBX_LB_COLLIDE n) else 4)

end Sys2Proof.Machine
end

