-- ==== Sys2Proof/Machine/Keeper.lean ====
section
/-! DEFINITION. The keeper's command service (R395 to R402): reading a command letterbox, sessions and their codes, the checks
that every command meets, the reply; and the commands that need no other chapter. -/
namespace Sys2Proof.Machine

/-! ## Sessions (R397 to R399) -/

/-- The OPEN and LOCK bits of pair 4 or 5. -/
def openReg (p : Nat) : Reg := if p = 4 then R.MBX_SESSION_OPEN4 else R.MBX_SESSION_OPEN5
def lockSess (p : Nat) : Reg := if p = 4 then R.MBX_SESSION_LOCK4 else R.MBX_SESSION_LOCK5

/-- Whether a session is open on a pair. -/
def Ctl.sessionOpen (c : Ctl) (p : Nat) : Bool := (p = 4 || p = 5) && c.is (openReg p)

/-- A pair's session. -/
def Ctl.sess (c : Ctl) (p : Nat) : Session := kgetD c.keep.sessions p {}

/-- Sets a pair's session. -/
def Ctl.setSess (c : Ctl) (p : Nat) (s : Session) : Ctl := { c with keep := { c.keep with sessions := kput c.keep.sessions p s } }

/-- Closes a pair's session (R399). -/
def Ctl.sessionClose (c : Ctl) (p : Nat) : Ctl :=
  if c.sessionOpen p then (c.set (openReg p) 0).raise Ev.MBX_SESSION p else c

/-- A wrong HT or MAC (R399): counted; the third in a row closes the session and locks the pair for 10 s. -/
def Ctl.authFail (c : Ctl) (p : Nat) : Ctl :=
  let s := c.sess p
  let c := ((c.setSess p { s with bad := s.bad + 1 }).inc R.MBX_SESSION_AUTH_FAILS).raise Ev.MBX_AUTH p
  if s.bad + 1 < 3 then c
  else ((c.setSess p { (c.sess p) with bad := 0, opening := false }).sessionClose p).set (lockSess p) 1

/-- The little-endian words of a byte string. -/
def leWords (n : Nat) (l : List Byte) : List Nat := (List.range n).map (fun i => leVal ((l.drop (4 * i)).take 4))

/-- The bytes of 32-bit words. -/
def wordBytes (l : List Nat) : List Byte := l.flatMap (leBytes 4)

/-- Words 14 and 15 of a message under a session key (R398). -/
def macOf (ks : List Byte) (p : Nat) (w : List Nat) : List Nat := leWords 2 (hmac ks (BitVec.ofNat 8 p :: wordBytes (w.take 14)))

/-- IDENT as eight bytes, least significant first (log entry 15). -/
def identBytes : List Byte := leBytes 8 Config.ident

/-! ## Commands and replies (R395, R396) -/

/-- What a command ends in: the machine, its status and results, and whether it replies later. -/
structure KRes where
  x : Mach
  status : Nat
  res : List Nat := []
  later : Bool := false

/-- The masks of the arguments that a command defines, from A1 on (R401). -/
def argMasks : List (Nat × List Nat) :=
  let f := 0xFFFFFFFF
  [(0x01, []), (0x02, []), (0x10, [1]), (0x11, []), (0x20, [f, 0xFF, f]), (0x21, [f]), (0x22, [f, 0xFF, f]),
   (0x30, [f, 0xFF, 0x3F3F]), (0x31, [f, 0xFF, f]), (0x32, [0x3F]), (0x33, [0x3F]),
   (0x40, [0x07FF07FF, 0x07FF07FF, 0xFF, 0x7FFFFFF, 0xF]), (0x41, [3, 0x7F]), (0x50, [f, 0xFF, f, 1]),
   (0x51, [f, 0xFF, 0xFFFF, f]), (0x52, [0x3F]), (0x60, [f, f, f, f]), (0x61, [f, f, f, f, f, f, f, f]), (0x62, [])]

/-- Whether a command's code and arguments are defined. -/
def argsOk (w : List Nat) : Bool :=
  match argMasks.find? (fun e => e.1 == w.getD 0 0 % 256) with
  | none => false
  | some e => (List.range 13).all (fun i => andNot 32 (w.getD (i + 1) 0) (e.2.getD i 0) == 0) &&
      (e.1 != 0x41 || (w.getD 1 0 != 3 && (w.getD 1 0 == 2 || w.getD 2 0 == 0)))

/-- The commands that need a session (R401); SCENE_LOAD decides for itself. -/
def needsSession (code : Nat) : Bool := [0x10, 0x11, 0x30, 0x31, 0x32, 0x33, 0x40, 0x50, 0x52, 0x62].contains code

/-- The commands of which only one runs at a time (R396). -/
def isLong (code : Nat) : Bool := [0x20, 0x22, 0x41, 0x50].contains code

/-- The commands that a hinge standby refuses (R248). -/
def notOnStandby (code : Nat) : Bool := [0x20, 0x21, 0x22, 0x32].contains code

/-- The key that signs a reply on a pair. -/
def Ctl.replyKey (c : Ctl) (p : Nat) : List Byte := if c.sessionOpen p then (c.sess p).ks else []

/-- Writes a reply into the odd letterbox of a pair and sends it; what the hinge journal ran (pair 8) has none. -/
def Ctl.keepReply (c : Ctl) (p head status : Nat) (res : List Nat) (key : List Byte) : Ctl :=
  if 8 ≤ p then c else
  let w := (head :: status :: res ++ List.replicate 14 0).take 14
  let w := w ++ (if key.isEmpty then [0, 0] else macOf key p w)
  let c := c.each w.zipIdx (fun c e => c.lbData .keeper (2 * p + 1) e.2 e.1)
  (c.lbGo .keeper (2 * p + 1)).emit (.reply p w)

/-- Whether a pair has a command that the keeper could read: FULL, with its reply letterbox empty (R396). -/
def Ctl.pairReady (c : Ctl) (p : Nat) : Bool :=
  c.is R.MBX_LB_FULL (2 * p) && !c.is R.MBX_LB_FULL (2 * p + 1) && !c.keep.long.any (fun l => l.pair == p)

/-- Whether the keeper may read the command letterbox of a pair (R396): pairs 4 and 5 go before 0 and 1, and the two pairs
of a set take turns. -/
def Ctl.keepMay (c : Ctl) (p : Nat) : Bool :=
  (p = 0 || p = 1 || p = 4 || p = 5) && c.pairReady p && (4 ≤ p || !(c.pairReady 4 || c.pairReady 5)) &&
    !(c.pairReady (p ^^^ 1) && c.keep.turns.contains p)

/-- A pair has had its turn. -/
def Ctl.keepTurn (c : Ctl) (p : Nat) : Ctl :=
  { c with keep := { c.keep with turns := p :: c.keep.turns.filter (fun q => q != p && q != (p ^^^ 1)) } }

/-- The session conditions of R398: the state after the check, and whether the command passes. -/
def Ctl.keepAuth (c : Ctl) (p : Nat) (w : List Nat) : Ctl × Bool :=
  let code := w.getD 0 0 % 256
  if !c.sessionOpen p || code = 0x60 || code = 0x61 then (c, true)
  else
    let s := c.sess p
    let seq := w.getD 0 0 / 65536
    if macOf s.ks p w != w.drop 14 then (c.authFail p, false)
    else if seq != (s.last + 1) % 65536 then (c, false)
    else (c.setSess p { s with last := seq, bad := 0 }, true)

/-- The commands that the boot ROM serves when neither firmware slot is valid (R439). -/
def romServes (w : List Nat) : Bool :=
  [0x01, 0x60, 0x61, 0x62].contains (w.getD 0 0 % 256) || (w.getD 0 0 % 256 == 0x50 && w.getD 4 0 == 0)

/-- The checks that come before a command's own (R395, R396, R398, R401, R402): a status code. -/
def Ctl.keepCheck (c : Ctl) (p : Nat) (w : List Nat) : Nat :=
  let code := w.getD 0 0 % 256
  if needsSession code && !c.sessionOpen p then 4
  else if !argsOk w then 2
  else if c.boot.romOnly && !romServes w then 1
  else if (c.keep.down && code != 1 && code != 2) || (c.get R.HNG_STATUS_ROLE = 3 && notOnStandby code) then 1
  else if isLong code && c.keep.long.any (fun l => isLong l.code) then 3
  else 0

/-- What a refused SCENE_LOAD or SCENE_SWITCH shows, whichever check refuses it (R71, R72). -/
def Ctl.sceneRefused (c : Ctl) (code : Nat) : Ctl :=
  if code = 0x20 then c.set R.SYS_SCENE_LOAD_FAIL 1 else if code = 0x21 then c.set R.SYS_SCENE_LAST_SW 3 else c

/-- The end of a command: a STATE refusal raises EV_KEEP_STATE (R402), with ERR_STATE for ARM, DISARM and FW_UPDATE (R450),
and the reply goes out unless it comes later. -/
def KRes.finish (r : KRes) (p head : Nat) (key : List Byte) : Mach :=
  let c := if r.status = 1 then r.x.c.raise Ev.KEEP_STATE else r.x.c
  let c := c.when (r.status = 1 && [0x10, 0x11, 0x50].contains (head % 256)) (·.set R.SYS_ARM_ERR_STATE 1)
  let c := if r.status = 0 then c else c.sceneRefused (head % 256)
  let k := c.replyKey p
  { r.x with c := if r.later then c else c.keepReply p head r.status r.res (if k.isEmpty then key else k) }

/-- The keeper reads the command letterbox of a pair and carries the command out, if it is one that `mine` accepts; an
unknown code is answered by whichever command row reads it (log entry 16). -/
def Mach.keeper (x : Mach) (p : Nat) (mine : List Nat → Bool) (h : Mach → List Nat → KRes) : Mach :=
  let w := x.c.lbWords (2 * p)
  let known := argMasks.any (fun e => e.1 == w.getD 0 0 % 256)
  if !x.c.keepMay p || (known && !mine w) then x
  else
    let head := w.getD 0 0
    let key := x.c.replyKey p
    let bad := x.c.is R.MBX_LB_COLLIDE (2 * p)
    let c := (x.c.lbRead .keeper (2 * p)).1.keepTurn p
    if bad then KRes.finish ⟨{ x with c := c.set R.MBX_LB_COLLIDE 0 (2 * p) }, 3, [], false⟩ p head key
    else
      let a := c.keepAuth p w
      if !a.2 then KRes.finish ⟨{ x with c := a.1 }, 4, [], false⟩ p head key
      else
        let s := a.1.keepCheck p w
        let c := if s != 1 then a.1
          else if a.1.get R.HNG_STATUS_ROLE = 3 && notOnStandby (head % 256) then a.1.hngRefuse 1
          else a.1.set R.MBX_STATUS_ERR_STATE 1
        if s != 0 then KRes.finish ⟨{ x with c := c }, s, [], false⟩ p head key
        else (h { x with c := c } w).finish p head key

/-- A command by its code alone. -/
def codeIs (code : Nat) (w : List Nat) : Bool := w.getD 0 0 % 256 == code

/-- The DRAM offset of A1 and A2 (R395). -/
def argOffset (w : List Nat) : Nat := w.getD 1 0 + 2 ^ 32 * (w.getD 2 0 % 256)

/-- Whether a DRAM range is aligned and within the usable size (R395). -/
def Ctl.offsetOk (c : Ctl) (off len : Nat) : Bool := off % 256 == 0 && off + len ≤ c.usable

/-- Enters a long command that replies later. -/
def Ctl.keepLong (c : Ctl) (p code head arg : Nat) : Ctl :=
  { c with keep := { c.keep with long := c.keep.long ++ [⟨p, code, head, arg⟩] } }

/-- A long command finishes: it is taken off the list and its reply is sent. -/
def Ctl.keepDone (c : Ctl) (l : LongCmd) (status : Nat) (res : List Nat) : Ctl :=
  let c := { c with keep := { c.keep with long := c.keep.long.filter (· != l) } }
  let c := if status = 1 then c.raise Ev.KEEP_STATE else c
  c.keepReply l.pair l.head status res (c.replyKey l.pair)

/-- The long command of a code, if one is in progress. -/
def Ctl.longOf (c : Ctl) (code : Nat) : Option LongCmd := c.keep.long.find? (fun l => l.code == code)

/-! ## Commands -/

/-- SYS_ID as a word (R450). -/
def Ctl.sysId (c : Ctl) : Nat := c.get R.SYS_ID_DRAM_GIB + 256 * c.get R.SYS_ID_DIE_REV + 65536 * c.get R.SYS_ID_BOARD_REV

/-- The firmware slot in force (R439). -/
def Ctl.slotInForce (c : Ctl) : SlotSt := if c.get R.SYS_BOOT_SLOT = 0 then c.boot.slot0 else c.boot.slot1

/-- VERSION. -/
def versionCmd (x : Mach) (w : List Nat) : KRes :=
  ⟨x, 0, [Config.firmwareRev x.c.slotInForce.fw % 2 ^ 32, Config.firmwareRev 2 % 2 ^ 32, Config.ident % 2 ^ 32,
    Config.ident / 2 ^ 32 % 2 ^ 32, x.c.sysId], false⟩

/-- The command VERSION, read from its letterbox. -/
def keepVersion (p : Fin 8) (x : Mach) : Mach := x.keeper p (codeIs 0x01) versionCmd

/-- The mask of plans `32 i` to `32 i + 31` that are not IDLE. -/
def Ctl.planMask (c : Ctl) (i : Nat) : Nat :=
  ((List.range 32).filter (fun b => c.get R.PLAN_STATE (32 * i + b) != 0)).foldl setBit 0

/-- STATUS. -/
def statusCmd (x : Mach) (w : List Nat) : KRes :=
  let c := x.c
  ⟨x, 0, [c.get R.SYS_ARM_ARMED + 2 * c.get R.SYS_ARM_AUTO + 4 * c.get R.FAB_STATUS_CONVERGED + 8 * c.get R.HNG_STATUS_ROLE,
    c.get R.FIRE_FAULT, c.get R.SYS_SCENE_ID, c.planMask 0, c.planMask 1], false⟩

/-- The command STATUS, read from its letterbox. -/
def keepStatus (p : Fin 8) (x : Mach) : Mach := x.keeper p (codeIs 0x02) statusCmd

/-- BUDGET_SET: each selected field group is written, or none is (R53, R401). -/
def budgetSetCmd (x : Mach) (w : List Nat) : KRes :=
  let a := fun (i : Nat) => w.getD i 0
  let parts : List (Nat × Nat × Nat) := [(0, 1, a 1), (1, 0, a 2), (2, 2, a 3), (3, 3, a 4)]
  let r := parts.foldl (fun (q : Ctl × Nat) e =>
    if q.2 != 0 || !bit (a 5) e.1 then q else ledgLimit e.2.1 e.2.2 q.1) (x.c, 0)
  if r.2 = 0 then ⟨{ x with c := r.1 }, 0, [], false⟩
  else ⟨{ x with c := if r.2 = 1 then x.c.ledgState else x.c }, r.2, [], false⟩

/-- The command BUDGET_SET, read from its letterbox. -/
def keepBudgetSet (p : Fin 8) (x : Mach) : Mach := x.keeper p (codeIs 0x40) budgetSetCmd

/-- CAL_RUN with KIND LEDGER (R44): the measured costs of the blocks, or none where the limit of 10 s passed. -/
def calLedgerCmd (costs : Option (List (Nat × Nat))) (windows : Nat) (x : Mach) (w : List Nat) : KRes :=
  if x.c.armed then ⟨{ x with c := x.c.ledgState }, 1, [], false⟩
  else match costs with
    | none => ⟨x, 7, [], false⟩
    | some l =>
      let c := x.c.each (l.take 54).zipIdx (fun c e => (c.set R.LEDG_COST_FULL e.1.1 e.2).set R.LEDG_COST_ALT e.1.2 e.2)
      ⟨{ x with c := c.ledgShow }, 0, [windows % 2 ^ 32], false⟩

/-- The command CAL_RUN, read from its letterbox. -/
def keepCalLedger (p : Fin 8) (costs : Option (List (Nat × Nat))) (windows : Nat) (x : Mach) : Mach := x.keeper p (fun w => codeIs 0x41 w && w.getD 1 0 == 0) (calLedgerCmd costs windows)

/-- CAL_RUN with KIND STALL (R157): the self-test of a retired stall. The status of a failed test is not stated. -/
def calStallCmd (pass : Bool) (windows : Nat) (x : Mach) (w : List Nat) : KRes :=
  let s := w.getD 2 0 % 128
  let y := s / 32
  let off := x.c.get R.YARD_STALL_OFF_OFF y
  if !bit off (s % 32) then ⟨{ x with c := x.c.yardState y }, 1, [], false⟩
  else if pass then ⟨{ x with c := x.c.set R.YARD_STALL_OFF_OFF (clrBit off (s % 32)) y }, 0, [windows % 2 ^ 32], false⟩
  else
    let f := x.c.free 3
    ⟨{ x with c := f.2 }, f.1, [windows % 2 ^ 32], false⟩

/-- The command CAL_RUN, read from its letterbox. -/
def keepCalStall (p : Fin 8) (pass : Bool) (windows : Nat) (x : Mach) : Mach := x.keeper p (fun w => codeIs 0x41 w && w.getD 1 0 == 2) (calStallCmd pass windows)

/-- The four words of an event record (R413). -/
def EvRec.words (e : EvRec) : List Nat :=
  [e.source % 256 + 256 * (e.info % 256) + 65536 * b2n e.safe + 2 ^ 24 * (e.seq % 256), e.detail % 2 ^ 32, e.time % 2 ^ 32,
    e.time / 2 ^ 32 % 2 ^ 32]

/-- A keeper command reads its data from DRAM (R474): the second component is false where it meets an error return. -/
def Ctl.keepReads (c : Ctl) (a n : Nat) : Ctl × Bool := if c.dramDown then (c, false) else c.dramTouch 9 0 3 false a n

/-- LOG_READ: the records from a log sequence on, 16 bytes each (log entry 17). -/
def logReadCmd (x : Mach) (w : List Nat) : KRes :=
  let log := x.c.evt.log
  let oldest := x.c.evt.logNext - log.length
  let first := max (w.getD 4 0) oldest
  let l := (log.drop (first - oldest)).take (w.getD 3 0)
  let res := fun (n : Nat) => [n, (first + n) % 2 ^ 32, oldest % 2 ^ 32]
  if !x.c.offsetOk (argOffset w) (16 * w.getD 3 0) then ⟨x, 2, [], false⟩
  else if x.c.dramDown then ⟨x, 7, res 0, false⟩
  else
    let q := x.c.dramTouch 9 0 3 true (argOffset w) (16 * l.length)
    let done := if q.2 then l else l.take ((32 * q.1.faultChunk - argOffset w) / 16)
    ⟨{ c := q.1, m := { x.m with dram := x.m.dram.wrWords (argOffset w) (done.flatMap EvRec.words) } }, if q.2 then 0 else 7,
      res done.length, false⟩

/-- The command LOG_READ, read from its letterbox. -/
def keepLogRead (p : Fin 8) (x : Mach) : Mach := x.keeper p (codeIs 0x51) logReadCmd

/-- LATCH_BREAK (R405). -/
def latchBreakCmd (x : Mach) (w : List Nat) : KRes :=
  let i := w.getD 1 0 % 64
  let v := x.c.get R.LATCH i
  if v = 0 then ⟨x, 0, [0], false⟩
  else ⟨{ x with c := (x.c.resFreeUp 0 3 i).raise Ev.MBX_BREAK i }, 0, [v - 0x80000000], false⟩

/-- The command LATCH_BREAK, read from its letterbox. -/
def keepLatchBreak (p : Fin 8) (x : Mach) : Mach := x.keeper p (codeIs 0x52) latchBreakCmd

/-- SESSION_OPEN: the keeper's NK is a free value (R397). -/
def sessionOpenCmd (p : Fin 8) (x : Mach) (w : List Nat) : KRes :=
  if p.val != 4 && p.val != 5 then ⟨x, 4, [], false⟩
  else if x.c.is (lockSess p) then ⟨x, 3, [], false⟩
  else
    let f := x.c.free 128
    let nk := leBytes 16 f.1
    let s := { (x.c.sess p) with nh := wordBytes ((w.drop 1).take 4), nk := nk, opening := true }
    ⟨{ x with c := f.2.setSess p s }, 0, leWords 2 identBytes ++ leWords 4 nk, false⟩

/-- The command SESSION_OPEN, read from its letterbox. -/
def keepSessionOpen (p : Fin 8) (x : Mach) : Mach := x.keeper p (codeIs 0x60) (sessionOpenCmd p)

/-- SESSION_AUTH (R397): a pair holds one session, so one that is open closes as the new one opens. -/
def sessionAuthCmd (p : Fin 8) (x : Mach) (w : List Nat) : KRes :=
  let s := x.c.sess p
  if p.val != 4 && p.val != 5 then ⟨x, 4, [], false⟩
  else if !s.opening then ⟨{ x with c := x.c.refuse R.MBX_STATUS_ERR_STATE Ev.MBX_STATE }, 1, [], false⟩
  else if hmac secureKey (ascii "CYGH" ++ identBytes ++ s.nk ++ s.nh) != wordBytes ((w.drop 1).take 8) then
    ⟨{ x with c := x.c.authFail p }, 4, [], false⟩
  else
    let s' := { s with opening := false, ks := hmac secureKey (ascii "CYGS" ++ s.nk ++ s.nh), last := 0, bad := 0 }
    let c := (((x.c.sessionClose p).setSess p s').set (openReg p) 1).raise Ev.MBX_SESSION p
    ⟨{ x with c := c }, 0, leWords 8 (hmac secureKey (ascii "CYGK" ++ identBytes ++ s.nh ++ s.nk)), false⟩

/-- The command SESSION_AUTH, read from its letterbox. -/
def keepSessionAuth (p : Fin 8) (x : Mach) : Mach := x.keeper p (codeIs 0x61) (sessionAuthCmd p)

/-- SESSION_CLOSE. -/
def sessionCloseCmd (p : Fin 8) (x : Mach) (w : List Nat) : KRes :=
  ⟨{ x with c := x.c.sessionClose p }, 0, [], false⟩

/-- The command SESSION_CLOSE, read from its letterbox. -/
def keepSessionClose (p : Fin 8) (x : Mach) : Mach := x.keeper p (codeIs 0x62) (sessionCloseCmd p)

/-- 60 s have passed without an accepted command (R399). -/
def sessionIdleTimeout (p : Fin 8) (c : Ctl) : Ctl := c.sessionClose p

/-- The 10 s lockout of a pair ends (R399). -/
def lockoutEnd (p : Fin 8) (c : Ctl) : Ctl := if p.val = 4 || p.val = 5 then c.set (lockSess p) 0 else c

/-- A link-down or hot reset (R389): M0's latches, both sessions; MBX_PCIE shows the link down. -/
def pcieLinkReset (down : Bool) (c : Ctl) : Ctl :=
  let c := (c.latchRelease (fun o => o == 0 || o == 4096))
  let c := (c.sessionClose 4).sessionClose 5
  let c := if down then (((c.set R.MBX_PCIE_UP 0).set R.MBX_PCIE_GEN 0).set R.MBX_PCIE_WIDTH 0).ledgShow else c
  (c.raise Ev.MBX_PCIE).raise Ev.MBX_BREAK

/-- A function-level reset (R389): the latches of that function, and for function 1 the sessions, which are its own. -/
def functionLevelReset (fn : Fin 2) (c : Ctl) : Ctl :=
  let c := c.latchRelease (fun o => o == 4096 * fn.val)
  let c := if fn.val = 1 then (c.sessionClose 4).sessionClose 5 else c
  (c.raise Ev.MBX_PCIE).raise Ev.MBX_BREAK

end Sys2Proof.Machine
end

