-- ==== Sys2Proof/Machine/Scenes.lean ====
section
/-! DEFINITION. Scene images and switches (R69 to R76, R80, R81, R98), program images (R211 to R214) and the restart of a
sequencer (R210). -/
namespace Sys2Proof.Machine

/-! ## Table records -/

/-- The fields of a table record: every RW field of `block` with its element and the value that word function `w` gives. -/
def recFields (block : List Reg) (base i : Nat) (w : Nat → Nat) : List (Reg × Nat × Nat) :=
  (block.filter (·.acc == .rw)).flatMap (fun r => (List.range r.iCount).map (fun j =>
    (r, i * r.iCount + j, r.of (w ((r.addr - base) / 4 + j * r.iStride / 4)))))

/-- A section of an image: its type, first index, offset, size and count. -/
structure Sect where
  type : Nat
  first : Nat
  off : Nat
  size : Nat
  count : Nat

/-- The section descriptors. -/
def sects (rd : Nat → Nat → Nat) : List Sect :=
  (List.range (rd 6 2)).map (fun i =>
    let a := 0x40 + 16 * i
    ⟨rd a 2, rd (a + 2) 2, rd (a + 4) 4, rd (a + 8) 4, rd (a + 12) 4⟩)

/-- The table of a section type: its fields, base and entry size. -/
def tableOf (type : Nat) : Option (List Reg × Nat × Nat) :=
  match type with
  | 1 => some (R.fieldsOBJ, 0x200000, 64)
  | 2 => some (R.fieldsSRC, 0x250000, 32)
  | 3 => some (R.fieldsFEED, 0x210000, 64)
  | 4 => some (R.fieldsZONE, 0x220000, 64)
  | 5 => some (R.fieldsPLAN, 0x230000, 64)
  | _ => none

/-- How many entries a table has (R2). -/
def Ctl.tableSize (c : Ctl) (type : Nat) : Nat :=
  match type with
  | 1 => c.objCount
  | 2 => 256
  | 3 => c.feedCount
  | 4 => 128
  | _ => 64

/-- The table fields that an image's sections give. -/
def sectFields (rd : Nat → Nat → Nat) (s : Sect) : List (Reg × Nat × Nat) :=
  match tableOf s.type with
  | none => []
  | some (block, base, size) =>
    (List.range s.count).flatMap (fun k => recFields block base (s.first + k) (fun w => rd (s.off + k * size + 4 * w) 4))

/-! ## Program images (R211 to R213) -/

/-- A byte string with a part read as zero. -/
def zeroed (l : List Byte) (at' n : Nat) : List Byte := l.take at' ++ List.replicate n 0 ++ l.drop (at' + n)

/-- Whether an image is the one in force in a yard (R214). -/
def Ctl.carriedIn (c : Ctl) (y : Nat) (g : Image) : Bool :=
  match (c.seq y).active with | some a => a.id == g.id && a.crc == g.crc | none => false

/-- The yards of a mask. -/
def yardsOf (m : Nat) : List Nat := (List.range 4).filter (fun y => bit m y)

/-- Reads a program image of `len` bytes, as R211 lays it out. -/
def progAt (rd : Nat → Nat → Nat) (bytes : Nat → Nat → List Byte) : ProgImg :=
  let n := rd 6 2
  let entries := (List.range n).map (fun i => (rd (0x80 + 16 * i) 4, rd (0x84 + 16 * i) 4 % 65536, rd (0x84 + 16 * i) 4 / 65536))
  { yards := rd 0x10 1,
    img := { id := rd 0xC 4, entries := entries, jobBase := rd 0x30 4, jobSize := rd 0x2C 4, start := rd 0x14 4, crc := rd 0x34 4,
             data := bytes (rd 0x20 4) (rd 0x24 4) },
    code := bytes (rd 0x18 4) (rd 0x1C 4), job := bytes (rd 0x28 4) (rd 0x2C 4) }

/-- An image of a scene's PROG section: scene images are built with the kit and carry its programs (R77; DESIGN CHOICE, log
entry 129). -/
def ProgImg.asKit (p : ProgImg) : ProgImg := { p with img := { p.img with kit := true } }

/-- The RANGE row of R213 for one image. -/
def Ctl.progRange (c : Ctl) (rd : Nat → Nat → Nat) (bytes : Nat → Nat → List Byte) : Bool :=
  let len := rd 8 4
  let n := rd 6 2
  let p := progAt rd bytes
  let inside := fun (o s : Nat) => o + s ≤ len
  let entryOk := fun (e : Nat × Nat × Nat) =>
    e.1 % 8 == 0 && p.img.jobBase ≤ e.1 && e.1 < p.img.jobBase + p.img.jobSize && e.2.2 < 16
  let overlaps := fun (y : Nat) => match (c.seq y).active with
    | none => false
    | some a => !c.carriedIn y p.img && p.img.jobBase < a.jobBase + a.jobSize && a.jobBase < p.img.jobBase + p.img.jobSize
  rd 0 4 == 0x51505943 && rd 4 2 == 1 && 0x80 ≤ len && crc32 (bytes 0x80 (len - 0x80)) == rd 0x34 4 && rd 0xC 4 != 0 &&
    1 ≤ n && n ≤ 64 && inside 0x80 (16 * n) && inside (rd 0x18 4) (rd 0x1C 4) && rd 0x1C 4 % 4 == 0 && rd 0x1C 4 ≤ 0x20000 &&
    inside (rd 0x20 4) (rd 0x24 4) && rd 0x24 4 ≤ 0x20000 && inside (rd 0x28 4) (rd 0x2C 4) && rd 0x2C 4 % 8 == 0 &&
    rd 0x2C 4 ≤ 0x10000 && rd 0x30 4 % 8 == 0 && rd 0x30 4 + rd 0x2C 4 ≤ 0x40000 && rd 0x14 4 < rd 0x1C 4 && rd 0x14 4 % 4 == 0 &&
    rd 0x10 1 != 0 && rd 0x10 1 < 16 && rd 0x11 1 < 4 && p.img.entries.all entryOk && !(yardsOf p.yards).any overlaps

/-- The DENIED row: SIGNED with a wrong TAG. -/
def progDenied (rd : Nat → Nat → Nat) (bytes : Nat → Nat → List Byte) : Bool :=
  bit (rd 0x11 1) 1 && hmac secureKey (zeroed (bytes 0 (rd 8 4)) 0x40 32) != bytes 0x40 32

/-- The loader writes an image into the inactive halves of a yard and the job code into its stables (R213); a carried
image loads nothing. -/
def Mach.loadYard (x : Mach) (p : ProgImg) (y : Nat) : Mach :=
  if x.c.carriedIn y p.img then x
  else
    let q := x.c.seq y
    let base := y * 0x40000 + (1 - q.half) * 0x20000
    let clean : Mem := x.m.dmem.wipe base 0x20000
    let store := (List.range 4).foldl (fun m i => m.wrs ((4 * y + i) * 0x40000 + p.img.jobBase) p.job) x.m.store
    { c := x.c.setSeq y { q with loaded := some p.img },
      m := { x.m with imem := x.m.imem.wrs base p.code, dmem := clean.wrs base p.img.data, store := store } }

/-- Loads every image into the yards that it names. -/
def Mach.loadProgs (x : Mach) (l : List ProgImg) : Mach :=
  l.foldl (fun x p => (yardsOf p.yards).foldl (fun x y => x.loadYard p y) x) x

/-- Whether a job region may be written in every yard named: 16 windows after its last image left force (R213). -/
def Ctl.regionFree (c : Ctl) (l : List ProgImg) : Bool :=
  l.all (fun p => (yardsOf p.yards).all (fun y => c.carriedIn y p.img || match (c.seq y).leftWin with
    | none => true
    | some w => 16 ≤ (c.winNo + 2 ^ 32 - w) % 2 ^ 32))

/-- The loaded image of a yard comes into force (R214): the sequencer stops, the halves are exchanged, the completion queue
is cleared, the RW special registers are reset and the program starts at START. A carried image changes nothing. -/
def Ctl.imageForce (c : Ctl) (y : Nat) : Ctl :=
  let q := c.seq y
  match q.loaded with
  | none => c.setSeq y { q with forceFrom := none }
  | some g =>
    if c.carriedIn y g then c.setSeq y { q with loaded := none, forceFrom := none }
    else
      let first := c.get R.YARD_POSTS y
      let left := q.active.map (fun _ => c.winNo)
      let q' : SeqSt :=
        { pc := g.start
          lastPost := q.lastPost
          cqLost := q.cqLost
          winHi := q.winHi
          cycHi := q.cycHi
          active := some g
          half := 1 - q.half
          leftWin := left
          firstPost := first }
      ((((c.setSeq y q').set R.YARD_STATUS_SEQ_RUN 1 y).set R.YARD_STATUS_SEQ_EXC 0 y)).bulkAgain (2 + y)

/-- The work of PROGRAM_LOAD for a pair; pair 8 stands for the hinge journal, which gets no reply. -/
def programLoadCmd (p : Nat) (x : Mach) (w : List Nat) : KRes :=
  let base := argOffset w
  let rd := fun (o n : Nat) => x.m.dram.rdN (base + o) n
  let bytes := fun (o n : Nat) => x.m.dram.rds (base + o) n
  let c := x.c
  let q := c.keepReads base (w.getD 3 0)
  if !c.offsetOk base (w.getD 3 0) then ⟨x, 2, [], false⟩
  else if !q.2 then ⟨{ x with c := q.1 }, 7, [], false⟩
  else if rd 8 4 != w.getD 3 0 || !c.progRange rd bytes then ⟨x, 2, [], false⟩
  else if progDenied rd bytes then ⟨x, 4, [], false⟩
  else if bit (rd 0x11 1) 0 != c.rate96 then ⟨{ x with c := c.each (yardsOf (rd 0x10 1)) Ctl.yardState }, 1, [], false⟩
  else
    let c := { c with tab := { c.tab with loadProg := [progAt rd bytes] } }
    ⟨{ x with c := (c.keepLong p 0x22 (w.getD 0 0) (rd 0xC 4)).jot 5 0x22 (w.getD 1 0) [w.getD 2 0, w.getD 3 0] }, 0, [], true⟩

/-- PROGRAM_LOAD (R213): the image is checked; the loader then writes the inactive halves. -/
def keepProgramLoad (p : Fin 8) (x : Mach) : Mach := x.keeper p (codeIs 0x22) (programLoadCmd p)

/-- The load completes: the image waits for the first tick boundary at least 2 windows later (R213, R214). -/
def programLoadDone (x : Mach) : Mach :=
  match x.c.longOf 0x22, x.c.tab.loadProg with
  | some l, p :: _ =>
    if !x.c.regionFree [p] then x
    else
      let x := x.loadProgs [p]
      let from' := winAdd x.c.winNo 2
      let c := x.c.each (yardsOf p.yards) (fun c y => c.setSeq y { (c.seq y) with forceFrom := some from' })
      let c := { c with tab := { c.tab with loadProg := [] } }
      { x with c := c.keepDone l 0 [p.img.id, p.yards, c.tickAt from'] }
  | _, _ => x

/-- A loaded image comes into force at its tick boundary (R214). -/
def imageIntoForce (y : Fin 4) (c : Ctl) : Ctl :=
  match (c.seq y).forceFrom with
  | some w => if c.tab.tickDue && !later w c.winNo then c.imageForce y else c
  | none => c

/-- The keeper starts the program of the image in force from its beginning: DMEM from the image, the registers cleared, the
program counter at START (R187, R210). -/
def Mach.seqStart (x : Mach) (y : Nat) : Mach :=
  let q := x.c.seq y
  match q.active with
  | none => x
  | some g =>
    let base := y * 0x40000 + q.half * 0x20000
    let clean : Mem := x.m.dmem.wipe base 0x20000
    let q' := { q with s := [], f := [], pc := g.start, wait := .none, fflags := 0, cq := [], boundaries := 0, excWin := none,
                       kitDue := false }
    { c := ((x.c.setSeq y q').set R.YARD_STATUS_SEQ_RUN 1 y).set R.YARD_STATUS_SEQ_EXC 0 y,
      m := { x.m with dmem := clean.wrs base g.data } }

/-- The keeper restarts a sequencer halted by an exception (R210): once, and not within 1,024 windows of its last restart. -/
def seqRestart (y : Fin 4) (x : Mach) : Mach :=
  let c := x.c
  let q := c.seq y
  let age := fun (w : Nat) => (c.winNo + 2 ^ 32 - w) % 2 ^ 32
  match q.excWin, q.active with
  | some w, some _ =>
    let soon := match q.restarted with
      | some r => (w + 2 ^ 32 - r) % 2 ^ 32 < 1024
      | none => false
    if !c.tab.tickDue || age w < 2 || soon then x
    else
      let x := x.seqStart y
      { x with c := (x.c.setSeq y { (x.c.seq y) with restarted := some c.winNo }).inc R.YARD_SEQ_CAP_RESTARTS y }
  | _, _ => x

/-! ## Scene checks (R71, R81, R98) -/

/-- A binary32 value in units of 2^−149; none for an infinity or a NaN. -/
def fixed (n : Nat) : Option Int :=
  match fRead n with
  | .nan _ | .inf _ => none
  | .zero _ => some 0
  | .fin s m e => some (fInt s (m * 2 ^ (e + 149).toNat))

/-- A point as three fixed values. -/
def fixed3 (x y z : Nat) : Option (List Int) := (fixed x).bind fun a => (fixed y).bind fun b => (fixed z).bind fun d => some [a, b, d]

/-- a − b. -/
def vsubI (a b : List Int) : List Int := List.zipWith (· - ·) a b

/-- The dot product. -/
def dotI (a b : List Int) : Int := (List.zipWith (· * ·) a b).foldl (· + ·) 0

/-- Whether s / √n, with s in 2^−298 and n in 2^−298, lies within 10^−3 of 0 or of 1 (R81). -/
def nearUnit (one : Bool) (s n : Int) : Bool :=
  let k := 2 ^ 298
  if one then decide (0 ≤ s ∧ 999 * 999 * n * k ≤ 1000 * 1000 * s * s ∧ 1000 * 1000 * s * s ≤ 1001 * 1001 * n * k)
  else decide (1000 * 1000 * s * s ≤ n * k)

/-- The position of a staged feed. -/
def feedPos (m : RegMap) (f : Nat) : Option (List Int) :=
  fixed3 (m.get R.FEED_POS_X f) (m.get R.FEED_POS_Y f) (m.get R.FEED_POS_Z f)

/-- Whether a staged feed is enabled and in a zone. -/
def feedOf (m : RegMap) (z f : Nat) : Bool := m.get R.FEED_EN f == 1 && m.get R.FEED_NOZONE f == 0 && m.get R.FEED_ZONE f == z

/-- One triplet of a zone (R80, R81). -/
def tripletOk (m : RegMap) (n z : Nat) (ref : List Int) (w : Nat → Nat) : Bool :=
  let fi := w 1 % 1024
  let fj := w 1 / 65536 % 1024
  let fk := w 2 % 1024
  let pair := fk == 1023
  let fs := if pair then [fi, fj] else [fi, fj, fk]
  let rows := (List.range 3).map (fun r => fixed3 (w (3 + 3 * r)) (w (4 + 3 * r)) (w (5 + 3 * r)))
  let dirs := fs.map (fun f => (feedPos m f).map (fun p => vsubI p ref))
  w 0 % 256 == 1 && fs.all (fun f => f < n && feedOf m z f) &&
    (dirs.all (fun d => match d with | some v => decide (2 ^ 298 ≤ 10000 * dotI v v) | none => false)) &&
    (rows.zipIdx).all (fun r => match r.1 with
      | none => false
      | some row => (!pair || r.2 != 2 || row == [0, 0, 0]) && (dirs.zipIdx).all (fun d => match d.1 with
        | none => false
        | some v => (pair && r.2 == 2) || nearUnit (r.2 == d.2) (dotI row v) (dotI v v)))

/-- A MESH header's fields (R80). -/
def headerOk (w : Nat → Nat) : Bool :=
  let dref := fixed (w 4)
  w 0 / 256 % 128 < 128 && w 0 / 65536 ≤ 1024 && coordOk (w 1) && coordOk (w 2) && coordOk (w 3) &&
    (match dref with | some d => decide (2 ^ 148 ≤ d ∧ d ≤ 1000 * 2 ^ 149) | none => false) && w 5 % 4 != 3 &&
    w 6 % 65536 ≤ 1000 && w 7 % 65536 ≤ 32767 && 1 ≤ w 7 / 65536 % 16 && w 7 / 65536 % 16 ≤ 8 &&
    decide (-2000 ≤ sx 16 (w 8) ∧ sx 16 (w 8) ≤ 0)

/-- The MESH records from `k` on: the zones that have headers, or none where a record is not as R81 asks. `fuel` counts
the records left. -/
def meshZones (m : RegMap) (n : Nat) (w : Nat → Nat → Nat) : Nat → Nat → Nat → Option (Nat × List Int) → Option (List Nat)
  | 0, _, tri, _ => if tri = 0 then some [] else none
  | fuel + 1, k, tri, zone =>
    let r := w k
    match tri, zone with
    | tri + 1, some (z, ref) =>
      if tripletOk m n z ref r then meshZones m n w fuel (k + 1) tri zone else none
    | _, _ =>
      let z := r 0 / 256 % 128
      if r 0 % 256 != 0 || !headerOk r then none
      else match fixed3 (r 1) (r 2) (r 3) with
        | none => none
        | some ref => (meshZones m n w fuel (k + 1) (r 0 / 65536) (some (z, ref))).map (z :: ·)

/-- Whether a / √n in units of 2^−15, with a and n in fixed units, lies within 8 of v (2^−12, R98). -/
def nearDir (v a n : Int) : Bool :=
  let ge := fun (x y : Int) => -- x / √n * 2^15 ≥ y
    if y ≤ 0 then decide (0 ≤ x ∨ x * x * 2 ^ 30 ≤ y * y * n) else decide (0 ≤ x ∧ y * y * n ≤ x * x * 2 ^ 30)
  ge a (v - 8) && ge (-a) (-(v + 8))

/-- One pair record of a grid point (R98). -/
def pairOk (m : RegMap) (p : List Int) (f : Nat) (w : Nat → Nat) : Bool :=
  match feedPos m f with
  | none => false
  | some s =>
    let d := vsubI s p
    let n := dotI d d * 1000000
    let h := dotI (d.take 2) (d.take 2)
    let mm := w 0
    let k : Int := 2 ^ 298
    w 2 % 1024 == f && decide ((((mm - 2 : Nat) : Int)) ^ 2 * k ≤ n ∧ n ≤ ((mm : Int) + 2) ^ 2 * k) &&
      (if h < k then w 1 == 0 else nearDir (sx 16 (w 1)) (d.getD 0 0) h && nearDir (sx 16 (w 1 / 65536)) (d.getD 1 0) h)

/-- The zone that owns a grid point. -/
def gridZone (m : RegMap) (p : Nat) : Option Nat :=
  (List.range 128).find? (fun z => m.get R.ZONE_EN z == 1 && m.get R.ZONE_GRID_FIRST z ≤ p &&
    p < m.get R.ZONE_GRID_FIRST z + m.get R.ZONE_GRID_COUNT z)

/-- The GRID section (R98): `n` points, then their pairs; `w` gives a record's words. -/
def gridOk (m : RegMap) (n : Nat) (w : Nat → Nat → Nat) : Bool :=
  let npair := fun (p : Nat) => w p 3 % 1024
  let start := fun (p : Nat) => n + (List.range p).foldl (fun s i => s + npair i) 0
  let total := start n - n
  n ≤ 16384 && total ≤ 262144 &&
    (List.range 128).all (fun z => m.get R.ZONE_EN z == 0 || m.get R.ZONE_GRID_COUNT z == 0 ||
      m.get R.ZONE_GRID_FIRST z + m.get R.ZONE_GRID_COUNT z ≤ n) &&
    (List.range n).all (fun p => match gridZone m p, fixed3 (w p 0) (w p 1) (w p 2) with
      | some z, some pt =>
        let fs := (List.range 768).filter (feedOf m z)
        npair p == fs.length && (fs.zipIdx).all (fun e => pairOk m pt e.1 (w (start p + e.2)))
      | none, some _ => true
      | _, none => false)

/-- Whether a list holds no value twice. -/
def noTwice : List Nat → Bool
  | [] => true
  | x :: l => !l.contains x && noTwice l

/-- The bytes that a section's records take; none for a type that is not defined. -/
def sectSize (rd : Nat → Nat → Nat) (s : Sect) : Option Nat :=
  match s.type with
  | 2 => some (32 * s.count)
  | 1 | 3 | 4 | 5 => some (64 * s.count)
  | 6 => some (16 * (s.count + (List.range s.count).foldl (fun n i => n + rd (s.off + 16 * i + 12) 4 % 1024) 0))
  | 7 => some (48 * s.count)
  | 8 => some ((List.range s.count).foldl (fun n _ => n + rd (s.off + n + 8) 4) 0)
  | _ => none

/-- The offsets of the images of a PROG section. -/
def progOffs (rd : Nat → Nat → Nat) (s : Sect) : List Nat :=
  ((List.range s.count).foldl (fun (p : Nat × List Nat) _ => (p.1 + rd (p.1 + 8) 4, p.2 ++ [p.1])) (s.off, [])).2

/-- The content that an image's table sections give, over reset values. -/
def imageMap (rd : Nat → Nat → Nat) (ss : List Sect) : RegMap :=
  (ss.flatMap (sectFields rd)).foldl (fun m e => m.set e.1 e.2.1 (storeVal e.1 e.2.2)) []

/-- One staged field in its range: R56 and the tables' own rules for SRC and PLAN. -/
def Ctl.fieldOk (c : Ctl) (e : Reg × Nat × Nat) : Bool :=
  rangeOk e.1 e.2.2 && (e.1.id != R.PLAN_OBJS.id || !c.badSlots e.2.2) &&
    (e.1.id != R.SRC_RING.id || (128 ≤ e.2.2 && e.2.2 ≤ 96068)) && (e.1.id != R.SRC_PORT.id || e.2.2 ≤ 10)

/-- The objects of a content that are to be active. -/
def wanted (m : RegMap) : List Nat := (m.filter (fun e => e.reg.id == R.OBJ_ACT_REQ.id && e.val == 1)).map (·.idx)

/-- The enabled sources of a content. -/
def srcsOn (m : RegMap) : List Nat := (m.filter (fun e => e.reg.id == R.SRC_EN.id && e.val == 1)).map (·.idx)

/-- The enabled zones of a content. -/
def zonesOn (m : RegMap) : List Nat := (m.filter (fun e => e.reg.id == R.ZONE_EN.id && e.val == 1)).map (·.idx)

/-- The sum of COST of a class among the wanted objects. -/
def costOf (m : RegMap) (l : List Nat) (k : Nat) : Nat :=
  (l.filter (fun o => m.get R.OBJ_CLASS o == k)).foldl (fun n o => n + m.get R.OBJ_COST o) 0

/-- The RANGE row of R71: false where it stands. -/
def Ctl.sceneRange (c : Ctl) (rd : Nat → Nat → Nat) (bytes : Nat → Nat → List Byte) (len : Nat) : Bool :=
  let ss := sects rd
  let m := imageMap rd ss
  let act := wanted m
  let globals := ((m.filter (fun e => e.reg.id == R.OBJ_GLOBAL.id && e.val == 1)).map (fun e => m.get R.OBJ_GID e.idx))
  let meshes := ss.filter (·.type == 7)
  let heads := meshes.map (fun s => meshZones m c.feedCount (fun k w => rd (s.off + 48 * k + 4 * w) 4) s.count 0 0 none)
  let zones := heads.flatMap (fun h => h.getD [])
  let grids := ss.filter (·.type == 6)
  let progs := (ss.filter (·.type == 8)).flatMap (progOffs rd)
  let gridSamples := grids.foldl (fun n s => n + s.size / 4) 0
  let rings := (srcsOn m).foldl (fun n i => n + ringAlloc (m.get R.SRC_RING i)) 0
  rd 0 4 == 0x4E435347 && rd 4 2 == 1 && rd 8 4 == len && 0x40 + 16 * rd 6 2 ≤ len && 1 ≤ rd 6 2 && rd 6 2 ≤ 16 &&
    rd 0xC 4 != 0 && rd 0x12 2 < 8 && crc32 (bytes 0x40 (len - 0x40)) == rd 0x1C 4 &&
    ss.all (fun s => s.off + s.size ≤ len && sectSize rd s == some s.size) &&
    ss.all (fun s => (tableOf s.type).isNone || s.first + s.count ≤ c.tableSize s.type) &&
    (List.range 4).all (fun k => rd (0x14 + 2 * k) 2 == costOf m act k) &&
    (ss.flatMap (sectFields rd)).all c.fieldOk &&
    (m.filter (fun e => e.reg.id == R.SRC_CHAN.id)).all (fun e => c.chanOk (m.get R.SRC_PORT e.idx) e.val) &&
    (m.filter (fun e => e.reg.id == R.SRC_EXPORT.id && e.val == 1)).all (fun e => m.get R.SRC_PORT e.idx != 10) && noTwice globals &&
    noTwice ((zonesOn m).map (m.get R.ZONE_GZID ·)) && (act.filter (fun o => m.get R.OBJ_LAW o == 1)).length ≤ 256 &&
    heads.all (·.isSome) && noTwice zones && (zonesOn m).all (fun z => zones.contains z) &&
    grids.all (fun s => gridOk m s.count (fun k w => rd (s.off + 16 * k + 4 * w) 4)) && rings + gridSamples ≤ c.ringRoom &&
    progs.all (fun o => c.progRange (fun a n => rd (o + a) n) (fun a n => bytes (o + a) n)) &&
    noTwice (progs.flatMap (fun o => yardsOf (rd (o + 0x10) 1)))

/-- The words of a section. -/
def sectWords (rd : Nat → Nat → Nat) (s : Sect) : List Nat := (List.range (s.size / 4)).map (fun i => rd (s.off + 4 * i) 4)

/-- Enters a checked image as the content being written. -/
def Ctl.sceneTake (c : Ctl) (rd : Nat → Nat → Nat) (bytes : Nat → Nat → List Byte) : Ctl :=
  let ss := sects rd
  let progs := (ss.filter (·.type == 8)).flatMap (progOffs rd)
  { c with tab := { c.tab with
      loadPend := true, loadImg := imageMap rd ss, loadId := rd 0xC 4, loadPlan := bit (rd 0x12 2) 1,
      loadProg := progs.map (fun o => (progAt (fun a n => rd (o + a) n) (fun a n => bytes (o + a) n)).asKit),
      loadMesh := (ss.filter (·.type == 7)).flatMap (sectWords rd), loadGrid := (ss.filter (·.type == 6)).flatMap (sectWords rd) } }

/-- A refused SCENE_LOAD: LOAD_FAIL, and for STATE the block's ERR_STATE (R71). -/
def sceneFail (x : Mach) (code : Nat) : KRes :=
  let c := x.c.set R.SYS_SCENE_LOAD_FAIL 1
  ⟨{ x with c := if code = 1 then c.set R.SYS_SCENE_ERR_STATE 1 else c }, code, [], false⟩

/-- The work of SCENE_LOAD for a pair, or for the hinge journal as pair 8. -/
def sceneLoadCmd (p : Nat) (x : Mach) (w : List Nat) : KRes :=
  let base := argOffset w
  let len := w.getD 3 0
  let rd := fun (o n : Nat) => x.m.dram.rdN (base + o) n
  let bytes := fun (o n : Nat) => x.m.dram.rds (base + o) n
  let c := x.c
  let q := c.keepReads base len
  let flags := rd 0x12 2
  let ss := sects rd
  let progs := (ss.filter (·.type == 8)).flatMap (progOffs rd)
  if !c.offsetOk base len then sceneFail x 2
  else if !q.2 then sceneFail { x with c := q.1 } 7
  else if !c.sceneRange rd bytes len then sceneFail x 2
  else if (bit flags 1 && p < 8 && !c.sessionOpen p) ||
      (bit flags 2 && hmac secureKey (zeroed (bytes 0 len) 0x20 32) != bytes 0x20 32) ||
      progs.any (fun o => progDenied (fun a n => rd (o + a) n) (fun a n => bytes (o + a) n)) then sceneFail x 4
  else if bit flags 0 != c.rate96 || (rd 0x10 2 != c.node && rd 0x10 2 != 0xFFFF) || c.switching ||
      progs.any (fun o => bit (rd (o + 0x11) 1) 0 != c.rate96) then sceneFail x 1
  else
    let c := ((c.sceneTake rd bytes).set R.SYS_SCENE_STAGE 1).keepLong p 0x20 (w.getD 0 0) (rd 0xC 4)
    ⟨{ x with c := c.jot 5 0x20 (w.getD 1 0) [w.getD 2 0, len] }, 0, [], true⟩

/-- SCENE_LOAD (R71). -/
def keepSceneLoad (p : Fin 8) (x : Mach) : Mach := x.keeper p (codeIs 0x20) (sceneLoadCmd p)

/-- The stage has been written (R71): READY, and the reply is sent. -/
def sceneLoadDone (x : Mach) : Mach :=
  match x.c.longOf 0x20 with
  | none => x
  | some l =>
    if !x.c.tab.loadPend || !x.c.regionFree x.c.tab.loadProg then x
    else
      let x := x.loadProgs x.c.tab.loadProg
      let t := x.c.tab
      let c := { x.c with tab := { t with
        stage := t.loadImg, stageHasPlan := t.loadPlan, stageProg := t.loadProg, stageMesh := t.loadMesh, stageGrid := t.loadGrid,
        loadPend := false, loadImg := [], loadProg := [], loadMesh := [], loadGrid := [] } }
      let c := ((c.set R.SYS_SCENE_STAGE 2).set R.SYS_STAGE_ID t.loadId).set R.SYS_SCENE_LOAD_FAIL 0
      { x with c := (c.bulkAgain 1).keepDone l 0 [t.loadId] }

/-! ## Switches (R72 to R76) -/

/-- The fields that an object must keep to be carried (R74). -/
def carryFields : List Reg :=
  [R.OBJ_CLASS, R.OBJ_GLOBAL, R.OBJ_GID, R.OBJ_SRC, R.OBJ_LAW, R.OBJ_COST, R.OBJ_TAP_MAX, R.OBJ_HOME]

/-- Whether an object of the bank in force is carried into a content. -/
def Ctl.carries (c : Ctl) (m : RegMap) (o : Nat) : Bool :=
  c.get R.OBJ_STATE o != 0 && m.get R.OBJ_ACT_REQ o == 1 && carryFields.all (fun r => c.get r o == m.get r o)

/-- The charge that a switch adds to a class (R72), unscaled. -/
def Ctl.switchAdds (c : Ctl) (k : Nat) : Nat :=
  let m := c.tab.stage
  costOf m ((wanted m).filter (fun o => !c.carries m o)) k

/-- A refused SCENE_SWITCH. -/
def switchFail (x : Mach) (code : Nat) : KRes :=
  let c := x.c.set R.SYS_SCENE_LAST_SW 3
  ⟨{ x with c := if code = 1 then c.set R.SYS_SCENE_ERR_STATE 1 else c }, code, [], false⟩

/-- The decision of SCENE_SWITCH on a window argument (R72). -/
def Ctl.sceneSwitch (x : Mach) (want : Nat) : KRes :=
  let c := x.c
  let now := c.winNo
  let min' := if want = 0 then winAdd now 2 else want
  let adds := (List.range 4).map c.switchAdds
  let sc := adds.map (c.scaled c.lean)
  let capOk := (List.range 4).all (fun k => sc.getD k 0 = 0 ||
    c.envelope false c.lean k + sc.getD k 0 ≤ 16 * c.get R.LEDG_CLASS_CAP_CAP k)
  if !c.is R.WIN_STATUS_RUN || c.get R.SYS_SCENE_STAGE != 2 || c.switching || (List.range 64).any (fun p => c.get R.PLAN_STATE p != 0) ||
      c.liveObjs.any (fun o => c.get R.OBJ_CLASS o == 0) then switchFail x 1
  else if want != 0 && decide (sx 32 (want + 2 ^ 32 - now) < 2) then switchFail x 2
  else if !capOk || !c.fits (sc.foldl (· + ·) 0) false then
    let c := c.each ((List.range 4).filter (fun k => adds.getD k 0 != 0)) (fun c k => c.inc R.LEDG_REFUSED_COUNT k)
    switchFail { x with c := c.raise Ev.LEDG_REFUSE } 5
  else
    let c := { c with tab := { c.tab with switchMin := some min' }, ledg := { c.ledg with switchHold := adds } }
    let c := ((c.set R.SYS_SCENE_PENDING 1).showSwitch).ledgShow
    ⟨{ x with c := c.jot 5 0x21 want }, 0, [c.get R.SYS_SCENE_WIN], false⟩

/-- SCENE_SWITCH (R72). -/
def sceneSwitchCmd (x : Mach) (w : List Nat) : KRes :=
  Ctl.sceneSwitch x (w.getD 1 0)

/-- The command SCENE_SWITCH, read from its letterbox. -/
def keepSceneSwitch (p : Fin 8) (x : Mach) : Mach := x.keeper p (codeIs 0x21) sceneSwitchCmd

/-- The blocks whose RW fields a switch exchanges. -/
def Reg.staged (plan : Bool) (r : Reg) : Bool :=
  r.acc == .rw && ((0x200000 ≤ r.addr && r.addr < 0x230000) || (0x250000 ≤ r.addr && r.addr < 0x252000) ||
    (plan && 0x230000 ≤ r.addr && r.addr < 0x231000))

/-- What becomes of one object at the exchange (R74), `carried` as decided before it. A carried object that is FADING_OUT ends its
fade in IDLE, although its new entry has ACT_REQ = 1 (DESIGN CHOICE, log entry 138). -/
def Ctl.switchObj (c : Ctl) (carried : List Nat) (o : Nat) : Ctl :=
  if carried.contains o then c
  else
    let drop := fun (x : ShedItem) => match x with | .obj _ i => i != o | _ => true
    let c := { c with tab := { c.tab with objPh := cset c.tab.objPh o 0, fadeReq := cset c.tab.fadeReq o 0,
                                          reAct := c.tab.reAct.filter (· != o) },
                      ledg := { c.ledg with shed := c.ledg.shed.filter drop, shedRamp := cset c.ledg.shedRamp o 0 } }
    let c := c.set R.OBJ_STATE 0 o
    let c := if c.shownState o != 0 && c.get R.OBJ_ACT_REQ o = 0 then c else c.set R.OBJ_TAPS 0 o
    if c.get R.OBJ_ACT_REQ o = 1 then ((c.set R.OBJ_STATE 1 o).denseSlot o 1).objWait o 2 else c

/-- The ring of one source at the exchange (R75): `was` is the bank before it. -/
def Ctl.switchRing (was : RegMap) (c : Ctl) (i : Nat) : Ctl :=
  let same := was.get R.SRC_EN i == 1 && [R.SRC_PORT, R.SRC_CHAN, R.SRC_GSRC, R.SRC_CLASS].all (fun r => was.get r i == c.get r i)
  let ring := kget? c.src.rings i
  let keep := c.is R.SRC_EN i && same && (match ring with | some r => c.get R.SRC_RING i ≤ r.alloc | none => false)
  match keep, ring with
  | true, some r => { c with src := { c.src with rings := kput c.src.rings i (r.resize (c.get R.SRC_RING i)) } }
  | _, _ =>
    let free := ((List.range 4).find? (fun n => (kget? c.src.oldRings (i + 256 * n)).isNone)).getD 0
    let key := i + 256 * free
    let old := match ring with
      | some r => kput c.src.oldRings key { r with
          left := 3, len := was.get R.SRC_RING i, port := was.get R.SRC_PORT i, chan := was.get R.SRC_CHAN i, gsrc := was.get R.SRC_GSRC i }
      | none => c.src.oldRings
    let taps := c.src.taps.map (fun (e : Nat × Tap) => (e.1, if e.2.old && e.2.src == i then { e.2 with src := 256 + key } else e.2))
    let near := c.src.near.map (fun (e : Nat × Near) => (e.1, if e.2.left != 0 && e.2.src == i then { e.2 with src := 256 + key } else e.2))
    let c := { c with src := { c.src with oldRings := old, rings := kdel c.src.rings i, taps := taps, near := near } }
    if c.is R.SRC_EN i then c.srcOpen i else c.set R.SRC_LINK 0 i

/-- BOUND and SRC_MUTE from the bank in force (R74). -/
def Ctl.showBound (c : Ctl) : Ctl :=
  let live := c.liveObjs
  let c := { c with regs := c.regs.filter (fun e => e.reg.id != R.SRC_BOUND.id && e.reg.id != R.OBJ_SRC_MUTE.id) }
  let c := c.each live (fun c o => c.inc R.SRC_BOUND (c.get R.OBJ_SRC o))
  c.each live (fun c o => c.set R.OBJ_SRC_MUTE
    (b2n (!c.is R.SRC_EN (c.get R.OBJ_SRC o) || 2 ≤ c.get R.SRC_LINK (c.get R.OBJ_SRC o))) o)

/-- The storm door's feed-to-zone map and its latched lines, as COMMIT and a switch copy them (R232). -/
def Ctl.stormMap (c : Ctl) : Ctl :=
  c.each (List.range c.feedCount) (fun c f =>
    ((c.set R.STORM_FEED_ZONE (c.get R.FEED_ZONE f) f).set R.STORM_FEED_NOZONE
      (b2n (c.is R.FEED_NOZONE f || !c.is R.FEED_EN f)) f))

/-- The stage becomes the bank in force (R74, R75). -/
def Ctl.exchange (c : Ctl) : Ctl :=
  let t := c.tab
  let was := c.regs
  let plan := t.stageHasPlan
  let carried := (wanted t.stage).filter (c.carries t.stage)
  let fading := c.liveObjs.filter (fun o => !carried.contains o && 2 ≤ c.get R.OBJ_STATE o && c.get R.OBJ_STATE o ≤ 4)
  let olds := fading.map (fun o => (⟨o, c.get R.OBJ_CLASS o, c.get R.OBJ_COST o, c.get R.OBJ_LAW o, 3, c.get R.OBJ_STATE o⟩ : OldObj))
  let gone := c.liveObjs.filter (fun o => !carried.contains o && !fading.contains o)
  let moved := (List.range c.feedCount).filter (fun f =>
    [R.FEED_ZONE, R.FEED_NOZONE, R.FEED_EN].any (fun r => t.stage.get r f != c.get r f))
  let touched := (c.liveObjs ++ wanted t.stage).foldl (fun l o => if l.contains o then l else o :: l) []
  let kept : RegMap := c.regs.filter (fun e => !e.reg.staged plan)
  let regs : RegMap := (t.stage.filter (fun e => e.reg.staged plan)).foldl RegMap.put kept
  let c := { c with regs := regs }
  let near := (c.src.near.filter (fun (e : Nat × Near) => e.2.left != 0 || !gone.contains e.2.obj)).map (fun e =>
    (e.1, if e.2.left == 0 && fading.contains e.2.obj then { e.2 with left := 3 } else e.2))
  let taps := c.src.taps.map (fun (e : Nat × Tap) => (e.1, if fading.contains (tapObj e.1) then { e.2 with old := true } else e.2))
  let c := { c with
    tab := { c.tab with oldObjs := c.tab.oldObjs ++ olds, ramps := c.tab.ramps ++ [3], switchMin := none, stage := [],
                        stageHasPlan := false, stageProg := [], mesh := t.stageMesh, grid := t.stageGrid, stageMesh := [],
                        stageGrid := [] },
    src := { c.src with near := near, taps := taps }, ledg := { c.ledg with switchHold := [0, 0, 0, 0] } }
  let c := c.each touched (Ctl.switchObj · carried ·)
  let c := c.each (List.range 256) (Ctl.switchRing was · ·)
  let c := c.each moved (fun c f => match kget? c.corr.feeds f with
    | none => c
    | some q => { c with corr := { c.corr with feeds := kput c.corr.feeds f { q with last := none } } })
  ((c.bulkAgain 0).bulkAgain 1).showBound.showFeeds.stormMap.showDirty.showStep

/-- The switch boundary (R74), in the cycle of a tick boundary and before its snapshot. The images staged with the scene
come into force in their yards (R214). -/
def sceneSwitchBoundary (c : Ctl) : Ctl :=
  match c.tab.switchMin with
  | none => c
  | some m =>
    if !c.tab.tickDue || later m c.winNo then c
    else
      let id := c.get R.SYS_STAGE_ID
      let yards := c.tab.stageProg.flatMap (fun p => yardsOf p.yards)
      let c := c.exchange
      let c := ((((c.set R.SYS_SCENE_STAGE 0).set R.SYS_STAGE_ID 0).set R.SYS_SCENE_PENDING 0).set R.SYS_SCENE_ID id).set
        R.SYS_SCENE_WIN c.winNo
      let c := { c with tab := { c.tab with lastSwitch := c.winNo } }
      (c.each yards (fun c y => c.imageForce y)).faults.ledgShow

/-- The ramp ticks of recent switches count down at a tick boundary; at the end of one the old objects release their
charges and dense slots, the old rings are freed and the switch is complete (R74 to R76). -/
def Ctl.rampTick (c : Ctl) : Ctl :=
  let ended := c.tab.ramps.filter (· ≤ 1)
  let ramps := (c.tab.ramps.filter (1 < ·)).map (· - 1)
  let was := c.tab.oldObjs
  let olds := (c.tab.oldObjs.filter (fun o => 1 < o.left)).map (fun (o : OldObj) => { o with left := o.left - 1 })
  let near := (c.src.near.filter (fun (e : Nat × Near) => e.2.left != 1)).map (fun e => (e.1, { e.2 with left := e.2.left - 1 }))
  let rings := (c.src.oldRings.filter (fun (e : Nat × Ring) => 1 < e.2.left)).map (fun e => (e.1, { e.2 with left := e.2.left - 1 }))
  let c := { c with
    tab := { c.tab with ramps := ramps, oldObjs := olds },
    src := { c.src with oldRings := rings, near := near } }
  let gone := (was.filter (fun o => o.left ≤ 1)).filter (fun o => c.shownState o.idx == 0)
  let c := c.each gone (fun c o => c.set R.OBJ_TAPS 0 o.idx)
  let c := c.each ended (fun c _ => ((c.inc R.SYS_SCENE_SWITCHES).set R.SYS_SCENE_LAST_SW 1).raise Ev.KEEP_SCENE 0 1)
  if ended.isEmpty then c else c.ledgShow

end Sys2Proof.Machine
end

