-- ==== Sys2Proof/Machine/FireStorm.lean ====
section
/-! DEFINITION. Shutters, the fire interface, the alarm plans and the storm door (spec/09). -/
namespace Sys2Proof.Machine

/-! ## Shutters (R215 to R218) -/

/-- The feeds that the bits of word `i` name. -/
def wordFeeds (i d : Nat) : List Nat := (bitsOf 32 d).map (32 * i + ·)

/-- Whether a shutter may be asked to open (R216). -/
def Ctl.mayOpen (c : Ctl) (f : Nat) : Bool :=
  f < c.feedCount && c.is R.FEED_EN f && c.get R.FEED_LINE f != 3 && c.is R.WIN_STATUS_RUN &&
    c.get R.AMP_LINK_STATE (c.feedLink f) == 2

/-- The SHUT block's status. -/
def Ctl.shutStatus (c : Ctl) (code : Nat) : Ctl := c.status R.SHUT_STATUS_LAST R.SHUT_STATUS_ERR_STATE Ev.FIRE_STATE code

/-- A write of SHUT_OPEN[i] (R216). -/
def Ctl.shutOpen (c : Ctl) (i d : Nat) : Ctl :=
  if (wordFeeds i d).all c.mayOpen then
    { c with fire := { c.fire with openReq := cset c.fire.openReq i (cget c.fire.openReq i ||| d) } }.shutStatus 0
  else c.shutStatus 1

/-- A write of SHUT_OPEN[i]: SECURE and mirrored (R8, R248). -/
def shutOpenRequest (m : Master) (i d : Nat) (c : Ctl) : Ctl :=
  c.ifSecure m (0xD0100 + 4 * i) (fun c => c.hngGate m (0xD0100 + 4 * i) d (some (R.SHUT_STATUS_LAST, 0)) (·.shutOpen i d))

/-- A write of SHUT_CLOSE[i] (R216, R217). -/
def Ctl.shutClose (c : Ctl) (i d : Nat) : Ctl :=
  { c with fire := { c.fire with closeReq := cset c.fire.closeReq i (cget c.fire.closeReq i ||| d) } }.shutStatus 0

/-- A write of SHUT_CLOSE[i]: SECURE and mirrored (R8, R248). A close is never refused (R216), so that a journal that is nearly
full takes it too; on a standby R248 refuses every host write of SHUT, since the host addresses the active (log entry 45). -/
def shutCloseRequest (m : Master) (i d : Nat) (c : Ctl) : Ctl :=
  let by' : Master := if c.hngBar m = 3 then .keeper else m
  c.ifSecure m (0xD0180 + 4 * i) (fun c => c.hngGate by' (0xD0180 + 4 * i) d (some (R.SHUT_STATUS_LAST, 0)) (·.shutClose i d))

/-- A feed whose line is found SHORT while its shutter is open closes at the next boundary (R218). -/
def Ctl.shutAuto (c : Ctl) (f : Nat) : Ctl :=
  if bit (c.get R.SHUT_OPEN (f / 32)) (f % 32) || bit (cget c.fire.openReq (f / 32)) (f % 32) then
    { c with fire := { c.fire with autoReq := cset c.fire.autoReq (f / 32) (setBit (cget c.fire.autoReq (f / 32)) (f % 32)) } }
  else c

/-- The requests of word `i` take effect: a close wins over an open (R217, R218). -/
def Ctl.shutWord (c : Ctl) (i : Nat) : Ctl :=
  let was := c.get R.SHUT_OPEN i
  let auto := cget c.fire.autoDue i
  let now := andNot 32 (was ||| cget c.fire.openDue i) (cget c.fire.closeDue i ||| auto)
  let c := c.set R.SHUT_OPEN now i
  let shut := auto &&& was
  let c := if shut = 0 then c
    else ((c.set R.SHUT_AUTO (c.get R.SHUT_AUTO i ||| shut) i).set R.SHUT_STATUS_AUTO_SEEN 1).each (wordFeeds i shut)
      (fun c f => c.raise Ev.SHUT_AUTO f)
  let c := c.each (wordFeeds i (andNot 32 now was)) (fun c f => c.set R.FEED_SHUT 1 f)
  let c := c.each (wordFeeds i (andNot 32 was now)) (fun c f => c.set R.FEED_SHUT 0 f)
  let opening := cset c.fire.opening i (andNot 32 now was)
  let closing := cset c.fire.closing i (andNot 32 was now)
  { c with fire := { c.fire with opening := opening, closing := closing } }

/-- A window boundary takes the requests accepted before it; those accepted in its own cycle wait for the next (R217). -/
def Ctl.shutLatch (c : Ctl) : Ctl :=
  let f := c.fire
  let join := fun (a b : Counts) => b.foldl (fun m e => cset m e.1 (cget m e.1 ||| e.2)) a
  { c with fire := { f with openDue := join f.openDue f.openReq, closeDue := join f.closeDue f.closeReq,
                            autoDue := join f.autoDue f.autoReq, openReq := [], closeReq := [], autoReq := [] } }

/-- The shutter requests that a window boundary took come into effect; with none nothing changes (R217, R218). -/
def shutterChange (c : Ctl) : Ctl :=
  if c.fire.openDue.isEmpty && c.fire.closeDue.isEmpty && c.fire.autoDue.isEmpty then c
  else
    let c := c.each (List.range 24) Ctl.shutWord
    let n := (List.range 24).foldl (fun n i => n + (bitsOf 32 (c.get R.SHUT_OPEN i)).length) 0
    { c with fire := { c.fire with openDue := [], closeDue := [], autoDue := [] } }.set R.SHUT_STATUS_OPEN n

/-! ## The storm door's plan side -/

/-- The KEEPER_LOST bit of FIRE_FAULT. -/
def Ctl.keeperLost (c : Ctl) : Bool := bit (c.get R.FIRE_FAULT) 1

/-- A plan in progress. -/
def Ctl.planRt (c : Ctl) (p : Nat) : PlanRt := kgetD c.storm.plans p {}

/-- Sets a plan in progress. -/
def Ctl.setPlanRt (c : Ctl) (p : Nat) (r : PlanRt) : Ctl := { c with storm := { c.storm with plans := kput c.storm.plans p r } }

/-- A plan's state changes (R222 to R226): EV_FIRE_PLAN and the journal. -/
def Ctl.planState (c : Ctl) (p v : Nat) : Ctl := ((c.set R.PLAN_STATE v p).raise Ev.FIRE_PLAN p v).jot 6 p v

/-- The zones of a plan, as the PLAN table has them. -/
def Ctl.planZones (c : Ctl) (p : Nat) : List Nat := (List.range 128).filter (c.planCovers p)

/-- The class-A objects of a plan's VALID slots (R223). -/
def Ctl.planA (c : Ctl) (p : Nat) : List Nat := (c.planObjs p).filter (fun o => c.get R.OBJ_CLASS o == 0)

/-- Zones taken for a plan: the storm door keeps which plan caused it (R226, R237). -/
def Ctl.takeFor (c : Ctl) (cause p : Nat) (zs : List Nat) : Ctl :=
  let new := zs.filter (fun z => c.get R.STORM_CAUSE_CAUSE z == 0)
  let c := c.takeZones cause zs
  let by' := (new.filter (fun z => c.get R.ZONE_OWNER z == 1)).foldl (fun m z => cset m z (p + 1)) c.storm.causedBy
  { c with storm := { c.storm with causedBy := by' } }

/-- The SAFE count `ms` milliseconds from now: 16,000 cycles each (R228). -/
def Ctl.safeIn (c : Ctl) (ms : Nat) : Nat := c.storm.safeCount + 16000 * ms

/-- A trigger that the storm door acts on alone while the keeper is lost (R227). -/
def Ctl.stormTrigger (c : Ctl) (p : Nat) : Ctl :=
  let chain := if c.inForce R.PLAN_NEXT_EN p == 1 then some (c.safeIn (c.inForce R.PLAN_STAGE_DELAY p * 1000)) else none
  let c := c.setPlanRt p { (c.planRt p) with stormOn := true, backstopAt := none, chainAt := chain }
  ((c.takeFor 7 p ((List.range 128).filter (c.stormCovers p))).raise Ev.STORM_BACKSTOP p).showProg

/-- The keeper's part of a trigger: it will carry the plan out (R223). A plan whose EN is 0 is not triggered. -/
def Ctl.keeperTrigger (c : Ctl) (p : Nat) : Ctl :=
  if c.is R.PLAN_EN p && !c.keep.down then c.setPlanRt p { (c.planRt p) with pendAct := true } else c

/-- The storm door's part of a trigger by its own copy of the plan: the backstop, or the zones at once while the keeper is lost (R227). -/
def Ctl.doorTrigger (c : Ctl) (p : Nat) : Ctl :=
  if !c.is R.STORM_STATUS_ARMED || c.inForce R.PLAN_EN p != 1 then c
  else if c.keeperLost then c.stormTrigger p
  else c.setPlanRt p { (c.planRt p) with backstopAt := some (c.safeIn (10 * c.inForce R.STORM_CFG_BACKSTOP)) }

/-- A trigger of a plan (R222, R223, R227), by the conditions that the keeper and the storm door each evaluate. A plan that is not
IDLE is not triggered; a hinge standby acts on none (R251). -/
def Ctl.trigger (c : Ctl) (p : Nat) (keeper door : Bool := true) : Ctl :=
  if c.get R.HNG_STATUS_ROLE == 3 || c.stormActive p then c
  else (c.when keeper (·.keeperTrigger p)).when door (·.doorTrigger p)

/-- The trigger condition over an input mask (R222); an empty mask never holds. -/
def Ctl.inputsHold (c : Ctl) (mask : Nat) (all : Bool) : Bool :=
  let l := bitsOf 16 mask
  let alarm := fun (i : Nat) => c.get R.FIRE_IN_STATE i == 2
  !l.isEmpty && (if all then l.all alarm else l.any alarm)

/-- The trigger condition of a plan as the PLAN table has it. -/
def Ctl.planHolds (c : Ctl) (p : Nat) : Bool := c.inputsHold (c.get R.PLAN_FI_MASK p) (c.is R.PLAN_ALL p)

/-- The trigger condition of a plan as the storm door's copy has it. -/
def Ctl.stormHolds (c : Ctl) (p : Nat) : Bool := c.inputsHold (c.inForce R.PLAN_FI_MASK p) (c.inForce R.PLAN_ALL p == 1)

/-- Triggers every plan whose condition rises between two states of the inputs (R222), as the PLAN table has it for the keeper and
as the committed copy has it for the storm door (R227). -/
def Ctl.risen (was c : Ctl) : Ctl :=
  c.each (List.range 64) (fun d p =>
    d.trigger p (c.planHolds p && !was.planHolds p) (c.stormHolds p && !was.stormHolds p))

/-- Every plan whose condition holds at promotion is triggered (R251). -/
def Ctl.triggerHeld (c : Ctl) : Ctl := c.each (List.range 64) (fun d p => d.trigger p (c.planHolds p) (c.stormHolds p))

/-! ## The fire inputs (R219, R220) -/

/-- The raw state of a loop by its resistance in ohms (R219). -/
def loopState (ohms : Nat) (shortIsAlarm : Bool) : Nat :=
  if 3500 ≤ ohms && ohms ≤ 6500 then 1
  else if 300 ≤ ohms && ohms ≤ 1200 then 2
  else if 10000 < ohms then 3
  else if ohms < 200 then (if shortIsAlarm then 2 else 4)
  else 5

/-- Whether loop `i` is enabled: FI0 to FI15, then the PTT contacts of EMIC0 and EMIC1. -/
def Ctl.loopOn (c : Ctl) (i : Nat) : Bool := if i < 16 then c.is R.FIRE_IN_EN i else c.inForce R.STORM_EMIC_PTT_EN (i - 16) == 1

/-- One measurement of a loop: how long its raw state has held, in ms. -/
def Ctl.loopMeasure (c : Ctl) (i ohms : Nat) : Ctl :=
  if !c.loopOn i then c
  else
    let raw := loopState ohms (i < 16 && c.is R.FIRE_IN_SHORT_IS_ALARM i)
    let l := kgetD c.fire.loops i {}
    let l := if l.raw = raw then { l with heldMs := l.heldMs + 1 } else ⟨raw, 0⟩
    let c := { c with fire := { c.fire with loops := kput c.fire.loops i l } }
    if i < 16 then c.set R.FIRE_IN_OHMS (min (ohms / 10) 65535) i else c

/-- The measurement of a millisecond: the resistances of FI0 to FI15, PTT0 and PTT1 in ohms (R219). -/
def fireLoopMeasure (ohms : List Nat) (c : Ctl) : Ctl :=
  c.each (ohms.take 18).zipIdx (fun c e => c.loopMeasure e.2 e.1)

/-- The reported state of a loop. -/
def Ctl.loopShown (c : Ctl) (i : Nat) : Nat := if i < 16 then c.get R.FIRE_IN_STATE i else c.get R.STORM_EMIC_PTT (i - 16)

/-- Milliseconds for which a raw state must hold (R220). -/
def Ctl.loopHold (c : Ctl) (i raw : Nat) : Nat :=
  if i < 16 then (if raw ≤ 2 then c.get R.FIRE_IN_DEBOUNCE i else 100 * c.get R.FIRE_IN_FAULT_HOLD i)
  else if raw ≤ 2 then 20 * c.inForce R.STORM_EMIC_DEBOUNCE (i - 16) else 2000

/-- The effects of a reported change of loop `i` from state `a` to state `b` (R220). -/
def Ctl.loopEffects (c : Ctl) (i a b : Nat) : Ctl :=
  let ptt := 16 ≤ i
  let c := if b != 2 then c
    else
      let c := if ptt then c.inc R.STORM_EMIC_PRESSES (i - 16) else c.inc R.FIRE_IN_ALARMS i
      (c.set R.FIRE_STATUS_ALARM_SEEN 1).raise Ev.FIRE_ALARM i
  let c := c.when (ptt && (b == 2 || (a == 2 && b == 1))) (·.raise Ev.STORM_PTT (i - 16) b)
  let c := c.when (3 ≤ b) (·.set R.FIRE_STATUS_FAULT_SEEN 1)
  (c.when (3 ≤ a || 3 ≤ b) (·.raise Ev.FIRE_FAULT i b)).faults

/-- A raw state that has held for its time becomes the reported STATE, and plans whose condition rises are triggered
(R220, R222, R231). -/
def inputStateChange (i : Nat) (c : Ctl) : Ctl :=
  match kget? c.fire.loops i with
  | none => c
  | some l =>
    let a := c.loopShown i
    if !c.loopOn i || l.raw = a || l.heldMs < c.loopHold i l.raw then c
    else
      let c' := if i < 16 then c.set R.FIRE_IN_STATE l.raw i else c.set R.STORM_EMIC_PTT l.raw (i - 16)
      let c' := c.risen (c'.loopEffects i a l.raw)
      c'.when (16 ≤ i && l.raw == 2 && c.inForce R.STORM_EMIC_PLAN_EN (i - 16) == 1)
        (·.trigger (c.inForce R.STORM_EMIC_PLAN (i - 16)))

/-- Loop `i` is disabled: its STATE is DISABLED, which is a change out of a fault state where it showed one (R219, R220). -/
def Ctl.loopOff (c : Ctl) (i : Nat) : Ctl :=
  let a := c.loopShown i
  let c := { c with fire := { c.fire with loops := kdel c.fire.loops i } }
  (if i < 16 then c.set R.FIRE_IN_STATE 0 i else c.set R.STORM_EMIC_PTT 0 (i - 16)).loopEffects i a 0

/-- The FIRE block's status (R239). -/
def Ctl.fireStatus (c : Ctl) (code : Nat) : Ctl := c.status R.FIRE_STATUS_LAST R.FIRE_STATUS_ERR_STATE Ev.FIRE_STATE code

/-- A write of the first word of FIRE_IN[i] (R239): an input that an active plan names stays enabled. -/
def Ctl.fireInStore (c : Ctl) (i d : Nat) : Ctl :=
  let fields := [R.FIRE_IN_EN, R.FIRE_IN_SHORT_IS_ALARM, R.FIRE_IN_DEBOUNCE, R.FIRE_IN_FAULT_HOLD]
  if !inRange fields d then c.fireStatus 2
  else if c.is R.FIRE_IN_EN i && d % 2 == 0 &&
      (List.range 64).any (fun p => c.get R.PLAN_STATE p != 0 && bit (c.get R.PLAN_FI_MASK p) i) then c.fireStatus 1
  else
    let c := (c.store fields i d).fireStatus 0
    if d % 2 == 1 then c else c.loopOff i

/-- A write of FIRE_IN[i] (R8, R239). -/
def fireInWrite (m : Master) (i d : Nat) (c : Ctl) : Ctl := c.ifSecure m (0xE8100 + 8 * i) (·.fireInStore i d)

/-! ## Relays (R221) -/

/-- The condition of relay K(k + 1). -/
def Ctl.relayOn (c : Ctl) (k : Nat) : Bool :=
  if k = 0 then c.get R.FIRE_FAULT &&& c.get R.FIRE_K1_MASK == 0
  else if k = 1 then (List.range 64).any (fun p => c.get R.PLAN_STATE p != 0) || !c.playing.isEmpty
  else if k = 2 then !c.drivenZones.isEmpty
  else
    let s := c.get R.FIRE_RELAY_K4_SRC
    if s = 0 then c.is R.FIRE_RELAY_K4_SET
    else if s = 1 then c.inputFault
    else if s = 2 then (List.range 2).any (fun n => c.get R.STORM_EMIC_PTT n == 2)
    else c.is R.STORM_STATUS_ALL_LINKS

/-- The storm door drives a relay to its condition (R221). -/
def relayUpdate (k : Nat) (c : Ctl) : Ctl :=
  let c := c.faults
  let r := c.get R.FIRE_STATUS_RELAYS
  let on := c.relayOn k
  if bit r k == on then c
  else
    let c := c.set R.FIRE_STATUS_RELAYS (putBit r k on)
    if k = 0 then c.raise Ev.FIRE_K1 0 (b2n on) else c.raise Ev.FIRE_RELAY (k + 1) (b2n on)

/-- 10 ms without a keeper heartbeat (R221). -/
def keeperHeartbeatLoss (c : Ctl) : Ctl := c.set R.FIRE_FAULT (setBit (c.get R.FIRE_FAULT) 1)

/-! ## Plans in the render (R222 to R226) -/

/-- A plan's confirmation count and chain begin (R223 to R225). -/
def Ctl.planTimes (c : Ctl) (p : Nat) (objs : List Nat) : Ctl :=
  let n := max (c.get R.PLAN_CONFIRM p) (2 * c.tickLen + 2)
  let chain := if c.is R.PLAN_NEXT_EN p then some (c.safeIn (c.get R.PLAN_STAGE_DELAY p * 1000)) else none
  let fin := if objs.isEmpty then none else some (winAdd c.winNo (n + 1))
  let rt : PlanRt := { actWin := c.winNo, confirmEnd := fin, chainAt := chain }
  c.setPlanRt p rt

/-- A plan state that the hinge journal states is applied as the active applied it (R249, R251): the count, the switch and the
zone flags with ACTIVE, the flags again with IDLE. -/
def Ctl.planMirror (c : Ctl) (p v : Nat) : Ctl :=
  let was := c.get R.PLAN_STATE p
  let c := (c.set R.PLAN_STATE v p).raise Ev.FIRE_PLAN p v
  if v = 0 then
    let others := (List.range 64).filter (fun q => c.get R.PLAN_STATE q != 0)
    let alone := (c.planZones p).filter (fun z => !others.any (c.planCovers · z))
    ({ (c.each alone (fun c z => c.set R.ZONE_ALARM 0 z)) with storm := { c.storm with plans := kdel c.storm.plans p } }).showProg
  else if was = 0 then
    let c := ((c.inc R.PLAN_COUNT p).set R.PLAN_LAST 0 p).cancelSwitch
    ((c.each (c.planZones p) (fun c z => c.set R.ZONE_ALARM 1 z)).planTimes p (c.planA p)).showProg
  else c.showProg

/-- The keeper writes ACT_REQ = 1 to an object of a plan (R223); the standby learns it from the journal (R251). -/
def Ctl.planRequest (c : Ctl) (o : Nat) : Ctl :=
  (c.jot 0 ((0x200000 + 64 * o) / 4) (setBit (c.wordAt (0x200000 + 64 * o)) 0)).objActivate o

/-- A source of class-A objects of active plans with STORM_ON_STALL is STALLED (R234, cause 6). -/
def Ctl.stallTake (c : Ctl) (s : Nat) : Ctl :=
  c.each ((List.range 64).filter (fun p => c.get R.PLAN_STATE p != 0 && c.is R.PLAN_STORM_ON_STALL p)) (fun c p =>
    let objs := (c.planA p).filter (fun o => c.get R.OBJ_SRC o == s)
    c.takeFor 6 p ((c.planZones p).filter (fun z => objs.any (c.objSelects · z))))

/-- The keeper carries a plan out (R223): state, count, scene switch, zone flags, objects, confirmation count, chain. -/
def Ctl.planActivate (c : Ctl) (p : Nat) : Ctl :=
  let c := (((c.planState p 1).inc R.PLAN_COUNT p).set R.PLAN_LAST 0 p).cancelSwitch
  let c := c.each (c.planZones p) (fun c z => c.set R.ZONE_ALARM 1 z)
  let objs := c.planA p
  let c := (c.each objs Ctl.planRequest).planTimes p objs
  let stalled := (objs.map (c.get R.OBJ_SRC ·)).eraseDups.filter (fun s => c.get R.SRC_LINK s == 3)
  let c := c.each stalled Ctl.stallTake
  (if objs.isEmpty then (c.planState p 3).takeFor 5 p (c.planZones p) else c).showProg

/-- PLAN_ACTIVATE: a triggered plan that is IDLE is carried out (R223). -/
def planActivate (p : Nat) (c : Ctl) : Ctl :=
  if !(c.planRt p).pendAct || c.keep.down then c
  else if c.get R.PLAN_STATE p != 0 then c.setPlanRt p { (c.planRt p) with pendAct := false }
  else c.planActivate p

/-- The keeper's repetition at a tick boundary (R61, R223). -/
def Ctl.planService (c : Ctl) : Ctl :=
  if c.keep.down || c.get R.HNG_STATUS_ROLE == 3 then c
  else
    let plans := (List.range 64).filter (fun p => c.get R.PLAN_STATE p != 0)
    c.each plans (fun c p => c.each (c.planA p) (fun c o =>
      if c.get R.OBJ_STATE o == 0 || c.get R.OBJ_STATE o == 6 then c.planRequest o else c))

/-- Whether a zone of an active plan is confirmed in the window that ends (R224). -/
def Ctl.zoneConfirmed (c : Ctl) (p z : Nat) : Bool :=
  (c.planA p).any (fun o => c.objSelects o z && (c.get R.OBJ_STATE o == 2 || c.get R.OBJ_STATE o == 3) &&
    (List.range 4).any (fun y => (c.yard y).covered.contains o)) &&
  (c.zoneFeeds z).all (fun f => !(c.feedSt f).subst)

/-- The confirmation count in a window (R224): zones confirmed join their plan's list. -/
def Ctl.confirmCount (c : Ctl) : Ctl :=
  c.each ((List.range 64).filter (fun p => c.get R.PLAN_STATE p == 1 && (c.planRt p).confirmEnd.isSome)) (fun c p =>
    let r := c.planRt p
    let new := (c.planZones p).filter (fun z => !r.confirmed.contains z && c.zoneConfirmed p z)
    c.setPlanRt p { r with confirmed := r.confirmed ++ new })

/-- CONFIRM_END: the boundary that ends the count has been reached (R224); a standby takes what follows from the journal. -/
def confirmEnd (p : Nat) (c : Ctl) : Ctl :=
  let r := c.planRt p
  match r.confirmEnd with
  | none => c
  | some w =>
    if later w c.winNo || c.get R.PLAN_STATE p != 1 then c
    else
      let c := c.setPlanRt p { r with confirmEnd := none }
      if c.get R.HNG_STATUS_ROLE = 3 then c else
      let bad := (c.planZones p).filter (fun z => !r.confirmed.contains z)
      if bad.isEmpty then c
      else
        let c := (c.takeFor 5 p bad).raise Ev.FIRE_CONFIRM p p
        let left := (c.planZones p).any (fun z => c.get R.ZONE_OWNER z != 1)
        c.planState p (if left then 2 else 3)

/-- PLAN_CHAIN: STAGE_DELAY after a plan's activation its NEXT is triggered (R225, R227). -/
def planChain (p : Nat) (c : Ctl) : Ctl :=
  let r := c.planRt p
  match r.chainAt with
  | none => c
  | some w =>
    if c.storm.safeCount < w then c else
    let next := if c.keeperLost then c.inForce R.PLAN_NEXT p else c.get R.PLAN_NEXT p
    (c.setPlanRt p { r with chainAt := none }).trigger next

/-- BACKSTOP_EXPIRY: the keeper has not set a triggered plan ACTIVE in time (R227). -/
def backstopExpiry (p : Nat) (c : Ctl) : Ctl :=
  let r := c.planRt p
  match r.backstopAt with
  | none => c
  | some w =>
    if c.storm.safeCount < w then c else
    let c := c.setPlanRt p { r with backstopAt := none }
    if c.get R.PLAN_STATE p != 0 || !c.is R.STORM_STATUS_ARMED then c else c.stormTrigger p

/-- The render die is lost: no window strobe for four windows (R234). -/
def dieStrobeLoss (c : Ctl) : Ctl :=
  if c.fire.dieLost then c
  else (({ c with fire := { c.fire with dieLost := true } }.allLinks).takeZones 2 (List.range 128)).faults

/-! ## Handback (R237) -/

/-- Whether a source of a class-A object of an active plan with STORM_ON_STALL that selects the zone is STALLED (cause 6). -/
def Ctl.stallHolds (c : Ctl) (z : Nat) : Bool :=
  (List.range 64).any (fun p => c.get R.PLAN_STATE p != 0 && c.is R.PLAN_STORM_ON_STALL p && c.planCovers p z &&
    (c.planA p).any (fun o => c.objSelects o z && c.get R.SRC_LINK (c.get R.OBJ_SRC o) == 3))

/-- Whether the plan for which the backstop took a zone is still one that the keeper has not set ACTIVE (cause 7). -/
def Ctl.backstopHolds (c : Ctl) (z : Nat) : Bool :=
  let p := cget c.storm.causedBy z
  p != 0 && (c.planRt (p - 1)).stormOn && c.get R.PLAN_STATE (p - 1) == 0

/-- Whether the cause for which a zone was taken still holds (R234, R237): three misses and an ended confirmation count are past
when the zone is taken. -/
def Ctl.causeHolds (c : Ctl) (z : Nat) : Bool :=
  let k := c.get R.STORM_CAUSE_CAUSE z
  (k == 1 && c.fire.clockLost) || (k == 2 && c.fire.dieLost) || (k == 4 && c.is R.LEDG_STATUS_FLOOR_FAIL) ||
    (k == 6 && c.stallHolds z) || (k == 7 && c.backstopHolds z) || (k == 8 && bit (c.get R.STORM_FORCE (z / 32)) (z % 32))

/-- A request to return a zone that the storm door drives (R237). -/
def Ctl.returnZone (c : Ctl) (z : Nat) : Ctl :=
  if c.get R.ZONE_OWNER z != 1 then c
  else
    match c.zonePlan z with
    | none => { c with storm := { c.storm with ready := z :: c.storm.ready.filter (· != z) } }
    | some _ => ((c.set R.ZONE_OWNER 2 z).set R.STORM_CAUSE_RETURNING 1 z).set R.STORM_CAUSE_CHECKED 0 z

/-- All-links mode ends with the last zone that a loss of clock or die took (R235). -/
def Ctl.allLinksEnd (c : Ctl) : Ctl :=
  if !c.is R.STORM_STATUS_ALL_LINKS || c.fire.clockLost || c.fire.dieLost ||
      c.drivenZones.any (fun z => c.get R.STORM_CAUSE_CAUSE z == 1 || c.get R.STORM_CAUSE_CAUSE z == 2) then c
  else ((c.set R.STORM_STATUS_ALL_LINKS 0).set R.STORM_STATUS_SAFE_CLK 0).raise Ev.STORM_ALL 0 0

/-- A zone returns to the render (R237): one that was RETURNING fades back over the window that begins. -/
def Ctl.handBack (c : Ctl) (z : Nat) : Ctl :=
  let own := clrBit (c.get R.STORM_OWNER (z / 32)) (z % 32)
  let c := (c.set R.ZONE_OWNER 0 z).set R.STORM_OWNER own (z / 32)
  let out := if c.get R.STORM_CAUSE_RETURNING z = 1 then cset c.storm.fadeOut z c.winS else c.storm.fadeOut
  let c := c.each [R.STORM_CAUSE_CAUSE, R.STORM_CAUSE_PLAN, R.STORM_CAUSE_RETURNING, R.STORM_CAUSE_NOPLAN,
    R.STORM_CAUSE_CHECKED] (fun c r => c.set r 0 z)
  let c := c.setZrun z 0
  let st := c.storm
  let c := { c with storm := { st with ready := st.ready.filter (· != z), atEnd := st.atEnd.filter (· != z),
                                       causedBy := cset st.causedBy z 0, fadeIn := cset st.fadeIn z 0, fadeOut := out } }
  let c := (c.set R.STORM_STATUS_ZONES c.drivenZones.length).raise Ev.STORM_RETURN z
  (c.allLinksEnd).faults.showProg

/-- The zones with no active plan that return at a window boundary (R237). -/
def Ctl.handBackDue (c : Ctl) : Ctl :=
  c.each (c.storm.ready.filter (fun z => c.get R.ZONE_OWNER z == 1)) Ctl.handBack

/-- The checks of RETURNING zones in a window (R237). -/
def Ctl.returnCheck (c : Ctl) : Ctl :=
  let zs := (List.range 128).filter (fun z => c.get R.ZONE_OWNER z == 2 && !c.storm.ready.contains z)
  c.each zs (fun c z =>
    let ok := (List.range 64).any (fun p => c.get R.PLAN_STATE p != 0 && c.planCovers p z && c.zoneConfirmed p z)
    if !ok then ((c.set R.ZONE_OWNER 1 z).set R.STORM_CAUSE_RETURNING 0 z).set R.STORM_CAUSE_CHECKED 0 z
    else
      let n := c.get R.STORM_CAUSE_CHECKED z + 1
      let c := c.set R.STORM_CAUSE_CHECKED (min n 1023) z
      if n < c.inForce R.STORM_CFG_RETURN_CHECK then c
      else { c with storm := { c.storm with ready := z :: c.storm.ready, atEnd := c.storm.atEnd.filter (· != z) } })

/-- HANDBACK_FADE: a zone that may return does so; `waited` says that 30 s have passed without the end of a cycle. -/
def handbackFade (z : Nat) (waited : Bool) (c : Ctl) : Ctl :=
  if !c.storm.ready.contains z then c
  else if c.get R.ZONE_OWNER z == 2 && c.inForce R.STORM_CFG_RETURN_AT_END == 1 && !waited && !c.storm.atEnd.contains z then c
  else c.handBack z

/-- A write of STORM_RETURN[i] (R237, R239). -/
def stormReturnRequest (m : Master) (i d : Nat) (c : Ctl) : Ctl :=
  c.ifSecure m (0xE0030 + 4 * i) (fun c =>
    let zs := ((bitsOf 32 d).map (32 * i + ·)).filter c.driven
    if zs.any c.causeHolds then c.stormStatus 1 else (c.each zs Ctl.returnZone).stormStatus 0)

/-- A write of STORM_FORCE[i] (R234, R237). -/
def stormForceWrite (m : Master) (i d : Nat) (c : Ctl) : Ctl :=
  c.ifSecure m (0xE0020 + 4 * i) (fun c =>
    let was := c.get R.STORM_FORCE i
    let c := c.set R.STORM_FORCE d i
    let c := c.takeZones 8 ((bitsOf 32 (andNot 32 d was)).map (32 * i + ·))
    let gone := ((bitsOf 32 (andNot 32 was d)).map (32 * i + ·)).filter (fun z => c.get R.STORM_CAUSE_CAUSE z == 8)
    (c.each gone Ctl.returnZone).stormStatus 0)

/-! ## The storm store (R228, R229) -/

/-- The size of the storm store. -/
def norSize : Nat := 0x4000000

/-- Whether the store's header and directory pass. -/
def norHeaderOk (m : Mem) : Bool :=
  m.rdN 0 4 == 0x4D525453 && m.rdN 4 4 == 1 && m.rdN 12 4 == crc32 (m.rds 0x40 0x800)

/-- Whether message `k` has a VALID entry and passes its CRC. -/
def norMsgOk (m : Mem) (k : Nat) : Bool :=
  let e := 0x40 + 32 * k
  let off := m.rdN e 4
  let len := 3 * m.rdN (e + 4) 4
  bit (m.rdN (e + 0xE) 2) 0 && off + len ≤ norSize && m.rdN (e + 8) 4 == crc32 (m.rds off len)

/-- Marks messages BAD (R228). -/
def Ctl.markBad (c : Ctl) (l : List Nat) : Ctl :=
  let new := l.filter (fun k => !bit (c.get R.STORM_MSG_BAD) k)
  if new.isEmpty then c
  else
    let c := c.set R.STORM_MSG_BAD (new.foldl setBit (c.get R.STORM_MSG_BAD))
    let c := { c with fire := { c.fire with storeBad := true } }.set R.STORM_STATUS_STORE_SEEN 1
    (c.each new (fun c k => c.raise Ev.STORM_STORE k)).faults.showProg

/-- The messages that enabled plans in force name. -/
def Ctl.planMsgs (c : Ctl) : List Nat :=
  ((List.range 64).filter (fun p => c.inForce R.PLAN_EN p == 1 && c.inForce R.PLAN_MSG_EN p == 1)).map (c.inForce R.PLAN_MSG ·)

/-- The check of the whole store: header, directory and every VALID message (R228). -/
def Mach.storeCheck (x : Mach) : Mach :=
  let m := x.m.nor
  let ok := norHeaderOk m
  let bad := (List.range 32).filter (fun k => bit (m.rdN (0x40 + 32 * k + 0xE) 2) 0 && !norMsgOk m k)
  let c := { x.c with storm := { x.c.storm with hdrOk := ok } }
  let c := if ok then c.set R.STORM_STORE_ID (m.rdN 8 4)
    else (({ c with fire := { c.fire with storeBad := true } }.set R.STORM_STATUS_STORE_SEEN 1).raise Ev.STORM_STORE 255).faults
  { x with c := c.markBad bad }

/-- STORM_STORE_CHECK (R228). -/
def stormStoreCheck (x : Mach) : Mach := x.storeCheck

/-! ## Commands (R233) -/

/-- Whether COMMIT would be refused. -/
def Ctl.commitBlocked (c : Ctl) : Bool := !c.drivenZones.isEmpty

/-- The shadow and the PLAN table come into force; a PTT contact that they disable reads DISABLED (R219). -/
def Ctl.commit (c : Ctl) : Ctl :=
  let off := [16, 17].filter c.loopOn
  let c := ({ c with storm := { c.storm with inForce := c.shadow, bqForce := c.storm.bqShadow } }.stormMap).showDirty.showProg
  c.each (off.filter (fun i => !c.loopOn i)) Ctl.loopOff

/-- STORM_CMD.COMMIT. -/
def Ctl.stormCommitCmd (c : Ctl) : Ctl := if c.commitBlocked then c.stormStatus 1 else c.commit.stormStatus 0

/-- STORM_CMD.COMMIT: SECURE (R8, R233). -/
def stormCommit (m : Master) (c : Ctl) : Ctl := c.ifSecure m 0xE0000 (·.stormCommitCmd)

/-- The conditions that stand when the storm door is armed take their zones (R234). -/
def Ctl.standing (c : Ctl) : Ctl :=
  let c := c.when (c.fire.clockLost || c.fire.dieLost) (·.allLinks)
  let c := c.when c.fire.clockLost (·.takeZones 1 (List.range 128))
  let c := c.when c.fire.dieLost (·.takeZones 2 (List.range 128))
  let c := c.when (c.is R.LEDG_STATUS_FLOOR_FAIL) (·.takeZones 4 c.floorZones)
  c.takeZones 8 ((List.range 128).filter (fun z => bit (c.get R.STORM_FORCE (z / 32)) (z % 32)))

/-- Whether the storm door would accept ARM (R233), the messages verified as arming does. -/
def Mach.stormWouldArm (x : Mach) : Bool :=
  !x.c.dirty && x.c.storm.hdrOk && !x.c.is R.MON_STATUS_SAFE_BAD &&
    x.c.planMsgs.all (fun k => !bit (x.c.get R.STORM_MSG_BAD) k && norMsgOk x.m.nor k)

/-- STORM_CMD.ARM (R228, R233): the messages that enabled plans name are verified first. -/
def Mach.stormArm (x : Mach) : Mach :=
  let c := x.c.markBad (x.c.planMsgs.filter (fun k => !norMsgOk x.m.nor k))
  let ok := !c.dirty && c.storm.hdrOk && c.planMsgs.all (fun k => !bit (c.get R.STORM_MSG_BAD) k) && !c.is R.MON_STATUS_SAFE_BAD
  let c := if !ok then c.stormStatus 1
    else if c.is R.STORM_STATUS_ARMED then c.stormStatus 0
    else (((c.set R.STORM_STATUS_ARMED 1).raise Ev.STORM_ARM 0 1).standing.stormStatus 0).ledgShow
  { x with c := c }

/-- STORM_CMD.ARM: SECURE. -/
def stormArm (m : Master) (x : Mach) : Mach := if x.c.secure m then x.stormArm else { x with c := x.c.denied m 0xE0000 }

/-- STORM_CMD.DISARM (R233). -/
def Ctl.stormDisarmCmd (c : Ctl) : Ctl :=
  if (List.range 64).any c.stormActive || !c.drivenZones.isEmpty then c.stormStatus 1
  else if !c.is R.STORM_STATUS_ARMED then c.stormStatus 0
  else
    let plans := c.storm.plans.map (fun (e : Nat × PlanRt) => (e.1, { e.2 with backstopAt := none }))
    let c := { c with storm := { c.storm with plans := plans } }
    (((c.set R.STORM_STATUS_ARMED 0).raise Ev.STORM_ARM 0 0).stormStatus 0).ledgShow

/-- STORM_CMD.DISARM: SECURE. -/
def stormDisarm (m : Master) (c : Ctl) : Ctl := c.ifSecure m 0xE0000 (·.stormDisarmCmd)

/-- The key of a zone biquad. -/
def Ctl.stormBqKey (c : Ctl) : Nat := 8 * c.get R.STORM_BQ_SEL_ZONE + c.get R.STORM_BQ_SEL_STAGE

/-- Lists a zone biquad in the shadow; the identity is not listed. -/
def Ctl.stormBqPut (c : Ctl) (k : Nat) (s : BqSet) : Ctl :=
  let m := if s = {} then kdel c.storm.bqShadow k else kput c.storm.bqShadow k s
  { c with storm := { c.storm with bqShadow := m } }

/-- STORM_BQ_CMD.WRITE: the coefficients, checked as in R118, enter the shadow. -/
def stormBqWrite (m : Master) (c : Ctl) : Ctl :=
  c.ifSecure m 0xE0068 (fun c =>
    let s := c.bqRegs R.STORM_BQ_COEF
    if !bqOk s then c.stormStatus 2 else ((c.stormBqPut c.stormBqKey s).showDirty).stormStatus 0)

/-- STORM_BQ_CMD.READ: the selected set of the shadow is read back. -/
def stormBqRead (m : Master) (c : Ctl) : Ctl :=
  c.ifSecure m 0xE0068 (fun c => (c.bqLoad R.STORM_BQ_COEF (kgetD c.storm.bqShadow c.stormBqKey {})).stormStatus 0)

/-- STORM_EVENT_DELIVER: the event controller is back, and takes the storm door's records in order (R240). -/
def stormEventDeliver (c : Ctl) : Ctl :=
  if c.fire.dieLost then c
  else
    let q := c.storm.evq
    ({ c with storm := { c.storm with evq := [], evqLost := 0 } }).each q Ctl.deliver

/-! ## Keeper commands (R401) -/

/-- ALARM_START (R222, R401): w2 is the window of activation. -/
def alarmStartCmd (x : Mach) (w : List Nat) : KRes :=
  let n := w.getD 1 0 % 64
  if !x.c.is R.PLAN_EN n || !x.c.is R.PLAN_HOST_TRIG n then
    ⟨{ x with c := (x.c.set R.PLAN_LAST 1 n).set R.PLAN_ERR_STATE 1 n }, 1, [], false⟩
  else
    let c := if x.c.get R.PLAN_STATE n != 0 then x.c else x.c.planActivate n
    ⟨{ x with c := c }, 0, [(c.planRt n).actWin], false⟩

/-- The command ALARM_START, read from its letterbox. -/
def keepAlarmStart (p : Fin 8) (x : Mach) : Mach := x.keeper p (codeIs 0x32) alarmStartCmd

/-- The stop of a plan (R226). -/
def Ctl.planStop (c : Ctl) (p : Nat) : Ctl :=
  let c := c.each (c.planObjs p) (fun c o => (c.jot 0 ((0x200000 + 64 * o) / 4) (clrBit (c.wordAt (0x200000 + 64 * o)) 0)).objDeactivate o)
  let others := (List.range 64).filter (fun q => q != p && c.get R.PLAN_STATE q != 0)
  let alone := (c.planZones p).filter (fun z => !others.any (c.planCovers · z))
  let c := c.each alone (fun c z => c.set R.ZONE_ALARM 0 z)
  let c := if c.get R.PLAN_STATE p != 0 then c.planState p 0 else c
  let c := { c with storm := { c.storm with plans := kdel c.storm.plans p } }
  let mine := c.drivenZones.filter (fun z => cget c.storm.causedBy z == p + 1 && !c.causeHolds z)
  (c.each mine Ctl.returnZone).showProg

/-- ALARM_STOP (R226): refused with STATE while the plan's trigger condition holds. -/
def alarmStopCmd (x : Mach) (w : List Nat) : KRes :=
  let n := w.getD 1 0 % 64
  if x.c.planHolds n then ⟨{ x with c := x.c.set R.PLAN_ERR_STATE 1 n }, 1, [], false⟩ else ⟨{ x with c := x.c.planStop n }, 0, [], false⟩

/-- The command ALARM_STOP, read from its letterbox. -/
def keepAlarmStop (p : Fin 8) (x : Mach) : Mach := x.keeper p (codeIs 0x33) alarmStopCmd

/-- The words of a PLAN record that are written, in order. -/
def planWords : List Nat := [0, 1, 2, 3, 4, 5, 6, 7, 8, 9, 10]

/-- Writes the PLAN records of PLAN_SET; the second component is the first status that is not OK. -/
def Ctl.planSet (c : Ctl) (first : Nat) (recs : List (List Nat)) : Ctl × Nat :=
  recs.zipIdx.foldl (fun (q : Ctl × Nat) r =>
    planWords.foldl (fun (q : Ctl × Nat) w =>
      if q.2 != 0 then q else q.1.planWrite (first + r.2) w (r.1.getD w 0)) q) (c, 0)

/-- PLAN_SET or STORM_SET refused with STATE while COMMIT would be (R233, R239). -/
def Ctl.stormRefuse (c : Ctl) : Ctl := c.refuse R.STORM_STATUS_ERR_STATE Ev.FIRE_STATE

/-- The work of PLAN_SET. -/
def planSetCmd (x : Mach) (w : List Nat) : KRes :=
  let first := w.getD 3 0 % 64
  let n := w.getD 3 0 / 256 % 64
  let off := argOffset w
  let q := x.c.keepReads off (64 * n)
  if n = 0 || 64 < first + n || !x.c.offsetOk off (64 * n) then ⟨x, 2, [], false⟩
  else if x.c.commitBlocked then ⟨{ x with c := x.c.stormRefuse }, 1, [], false⟩
  else if !q.2 then ⟨{ x with c := q.1 }, 7, [], false⟩
  else
    let recs := (List.range n).map (fun k => (List.range 16).map (fun j => x.m.dram.rdN (off + 64 * k + 4 * j) 4))
    let r := x.c.planSet first recs
    let busy := ((List.range n).map (first + ·)).filter (fun p => x.c.get R.PLAN_STATE p != 0)
    if r.2 = 1 then ⟨{ x with c := x.c.each (busy.take 1) (·.tableState R.PLAN_LAST R.PLAN_ERR_STATE) }, 1, [], false⟩
    else if r.2 != 0 then ⟨x, r.2, [], false⟩
    else ⟨{ x with c := r.1.commit.jot 5 0x30 (w.getD 1 0) [w.getD 2 0, w.getD 3 0] }, 0, [n], false⟩

/-- PLAN_SET (R70, R233, R401): all or nothing, then a COMMIT. A count of 0 is outside its range. -/
def keepPlanSet (p : Fin 8) (x : Mach) : Mach := x.keeper p (codeIs 0x30) planSetCmd

/-- The fields that a storm record's words carry: registers in their layouts, with the element index. -/
def stormRecWord (k : Nat) : List Reg × Nat :=
  if k = 0 then ([R.STORM_CFG_TONE_SPAN, R.STORM_CFG_GAP, R.STORM_CFG_BACKSTOP, R.STORM_CFG_RETURN_CHECK,
    R.STORM_CFG_RETURN_AT_END], 0)
  else if k < 129 then ([R.STORM_ZONE_GAIN, R.STORM_ZONE_EMIC0, R.STORM_ZONE_EMIC1], k - 1)
  else if k < 897 then ([R.STORM_FEED_EN, R.STORM_FEED_TRIM], k - 129)
  else ([R.STORM_EMIC_PLAN, R.STORM_EMIC_PLAN_EN, R.STORM_EMIC_PTT_EN, R.STORM_EMIC_DEBOUNCE], k - 897)

/-- The work of STORM_SET. -/
def stormSetCmd (x : Mach) (w : List Nat) : KRes :=
  let off := argOffset w
  let rd := fun (k : Nat) => x.m.dram.rdN (off + 4 * k) 4
  let set := fun (k : Nat) =>
    let v := fun (j : Nat) => rd (899 + 5 * k + j) / 256
    (⟨v 0, v 1, v 2, v 3, v 4⟩ : BqSet)
  let q := x.c.keepReads off 24076
  if w.getD 3 0 != 24076 || !x.c.offsetOk off 24076 then ⟨x, 2, [], false⟩
  else if x.c.commitBlocked then ⟨{ x with c := x.c.stormRefuse }, 1, [], false⟩
  else if !q.2 then ⟨{ x with c := q.1 }, 7, [], false⟩
  else if !((List.range 899).all (fun k => inRange (stormRecWord k).1 (rd k)) && (List.range 1024).all (fun k => bqOk (set k)))
    then ⟨x, 2, [], false⟩
  else
    let c := x.c.each (List.range 899) (fun c k => c.store (stormRecWord k).1 (stormRecWord k).2 (rd k))
    let c := c.each (List.range 1024) (fun c k => c.stormBqPut k (set k))
    ⟨{ x with c := c.commit.jot 5 0x31 (w.getD 1 0) [w.getD 2 0, w.getD 3 0] }, 0, [], false⟩

/-- STORM_SET (R233, R401): the whole shadow, checked before any of it is written, then a COMMIT. -/
def keepStormSet (p : Fin 8) (x : Mach) : Mach := x.keeper p (codeIs 0x31) stormSetCmd

end Sys2Proof.Machine
end

