-- ==== Sys2Proof/Machine/Hinge.lean ====
section
/-! DEFINITION. Hinge redundancy (spec/10): roles, frames, the standby's lag, comparison, probes, promotion, sync phases.
The bulk data and the STATE set of R263 are in Resync, and the journal is applied where register writes are known (Boundary). -/
namespace Sys2Proof.Machine

/-! ## Roles -/

/-- The role changes (R262). -/
def Ctl.setRole (c : Ctl) (r : Nat) : Ctl :=
  if c.role = r then c else (c.set R.HNG_STATUS_ROLE r).raise Ev.HNG_ROLE c.role r

/-- The sync phase changes (R263, R264). -/
def Ctl.setSync (c : Ctl) (s : Nat) : Ctl :=
  if c.get R.HNG_STATUS_SYNC = s then c else (c.set R.HNG_STATUS_SYNC s).raise Ev.HNG_SYNC (c.get R.HNG_STATUS_SYNC) s

/-- A standby goes to CONVERGE (R256, R257, R263): it waits for a new STATE set, unless it is in CONVERGE already. -/
def Ctl.toConverge (c : Ctl) : Ctl :=
  let h := if c.get R.HNG_STATUS_SYNC = 2 then c.hng else { c.hng with stateSet := none, stateDone := false }
  ({ c with hng := h }.set R.HNG_RESYNC_MATCHED 0).setSync 2

/-- The HNG block's status (R265). -/
def Ctl.hngStatus (c : Ctl) (code : Nat) : Ctl := c.status R.HNG_STATUS_LAST R.HNG_STATUS_ERR_STATE Ev.HNG_STATE code

/-- The tick phase moves by one window where the content window does (R247). -/
def Ctl.phaseStep (c : Ctl) (back : Bool) : Ctl :=
  let t := c.tickLen
  c.set R.WIN_TICK_PHASE ((c.get R.WIN_TICK_PHASE + (if back then t - 1 else 1)) % t)

/-- A module joins as a standby and begins resynchronisation (R243, R260, R262). -/
def Ctl.joinStandby (c : Ctl) : Ctl :=
  let c := { c with hng := { c.hng with bulkDone := false, stateSet := none, stateDone := false, records := [], blocks := [],
                                        missed := [], decide := none, standAt := none, counted := none,
                                        decidedAt := none } }
  (((c.phaseStep true).setRole 3).set R.HNG_RESYNC_BULK_PCT 0).setSync 1

/-! ## Frames (R245) -/

/-- The output CRCs of a content window, or zeros. -/
def Ctl.hngCrcs (c : Ctl) (w : Nat) : List Nat := ((kgetD c.hng.crcs w []) ++ List.replicate 9 0).take 9

/-- Sends a frame: header, payload and CRC. -/
def Ctl.hngSend (c : Ctl) (type dst cwin : Nat) (payload : List Nat) : Ctl :=
  if !c.is R.HNG_STATUS_H0_UP && !c.is R.HNG_STATUS_H1_UP then c
  else
    let h := [type + 16 + 256 * c.get R.HNG_CFG_RANK + 1024 * dst + 65536 * payload.length,
      c.get R.HNG_CFG_GROUP + 65536 * (c.hng.seqOut % 65536), cwin]
    let w := h ++ payload
    ({ c with hng := { c.hng with seqOut := (c.hng.seqOut + 1) % 65536 } }).emit (.hinge type (w ++ [crc32 (wordBytes w)]))

/-- The words of the journal (R250). -/
def jwordsOf (l : List JEntry) : List Nat := l.flatMap (fun e => (e.loc % 2 ^ 23 + 2 ^ 23 * b2n e.after + 2 ^ 24 * e.kind) :: e.value :: e.args)

/-- The payload of a RECORD (R252). -/
def Ctl.recordWords (c : Ctl) (promoted : Bool) : List Nat :=
  let w := (c.winNo + 2 ^ 32 - 1) % 2 ^ 32
  let owner := fun (i : Nat) => (List.range 8).foldl (fun n k => n + 16 ^ k * c.get R.STORM_CAUSE_CAUSE (8 * i + k)) 0
  let objs := fun (i : Nat) => (c.hng.objMiss.filter (fun o => o / 32 == i)).foldl (fun n o => setBit n (o % 32)) 0
  [c.role + 8 * b2n c.lean + 16 * c.get R.LEDG_STATUS_STEP + 128 * b2n c.ledg.mainsOk + 256 * b2n promoted +
     512 * b2n c.hng.overflow + 65536 * c.hng.journal.length, c.budget % 2048, (if promoted then c.hng.first else 0),
   c.get R.SYS_SCENE_ID] ++ c.hngCrcs w ++ (List.range 24).map (c.get R.YARD_MISS_MAP_MAP ·) ++ (List.range 32).map objs ++
    (List.range 16).map owner ++ jwordsOf c.hng.journal

/-- The entries of a journal (R250): `n` entries; a COMMAND takes the argument words that follow it. -/
def jparse : Nat → List Nat → List JEntry
  | 0, _ => []
  | _, [] => []
  | _, [_] => []
  | n + 1, h :: v :: l =>
    let kind := h / 2 ^ 24 % 16
    let k := if kind = 5 && h % 2 ^ 23 != 0x21 then 2 else 0
    ⟨kind, h % 2 ^ 23, v, l.take k, bit h 23⟩ :: jparse n (l.drop k)

/-- A RECORD payload (R252). -/
def recordParse (rank : Nat) (p : List Nat) : RecordFrame :=
  let g := fun (i : Nat) => p.getD i 0
  let part := fun (a n : Nat) => (List.range n).map (fun i => g (a + i))
  let owners := (List.range 128).map (fun z => g (69 + z / 8) / 16 ^ (z % 8) % 16)
  { rank := rank, role := g 0 % 8, lean := bit (g 0) 3, step := g 0 / 16 % 8, mainsOk := bit (g 0) 7, promoted := bit (g 0) 8,
    overflow := bit (g 0) 9, budget := g 1 % 2048, first := g 2, scene := g 3, crcs := part 4 9, feedMiss := part 13 24,
    objMiss := part 37 32, owners := owners, journal := jparse (g 0 / 65536) (p.drop 85) }

/-- Sends INPUT frames with the blocks listed, as many entries in each as its LEN allows (R245, R246). -/
def Ctl.sendBlocks (c : Ctl) (cwin : Nat) (l : List FwdBlock) : Ctl :=
  let k := max 1 (16384 / (c.winSamples + 1))
  c.each (List.range ((l.length + k - 1) / k)) (fun c i =>
    c.hngSend 2 3 cwin (((l.drop (i * k)).take k).flatMap (fun b => (b.src + 256 * b.link) :: b.samples.map (ux 32))))

/-- Sends a STATUS frame with the CRCs of content `w`, at a boundary or at a standby's guard point (R245, R254): the model's own
word order, since the spec lists its content only (log entry 5). -/
def Ctl.sendStatus (c : Ctl) (w : Nat) : Ctl :=
  let probes := c.hng.probes.flatMap (fun e => [e.1, b2n e.2])
  c.hngSend 3 3 w ([c.role, c.get R.HNG_STATUS_SYNC, Config.orderCode, Config.firmwareRev c.slotInForce.fw, c.get R.HNG_CFG_MODE,
    c.get R.WIN_CTRL_LEN, c.get R.WIN_CTRL_RATE96, c.get R.WIN_TICK_LEN_ACTIVE] ++ c.hngCrcs w ++ probes)

/-- Whether a received frame is used (R242, R245): a bad CRC, GROUP or VER discards it, a gap in SEQ is counted, and the
second copy of a DUPLEX frame is not used again. -/
def Ctl.hngAccept (c : Ctl) (link : Nat) (h : HngHead) : Ctl × Bool :=
  let bad := !h.crcOk || h.ver != 1 || h.group != c.get R.HNG_CFG_GROUP
  if c.role = 0 then (c, false)
  else if bad then (c.inc R.HNG_LINK_ERR_COUNT link, false)
  else
    let seen := cget c.hng.seqs (4 * link + h.src)
    let used := cget c.hng.seqs (8 + h.src)
    let c := c.when (seen != 0 && h.seq != seen % 65536) (·.inc R.HNG_LINK_ERR_COUNT link)
    let dup := used != 0 && (h.seq + 65536 - (used - 1)) % 65536 != 0 && 32768 ≤ (h.seq + 65536 - (used - 1)) % 65536 || used == h.seq + 1
    let seqs := cset c.hng.seqs (4 * link + h.src) (h.seq + 1)
    let seqs := if dup then seqs else cset seqs (8 + h.src) (h.seq + 1)
    let c := { c with hng := { c.hng with seqs := seqs } }
    (c, !dup && (h.dst == 3 || h.dst == c.get R.HNG_CFG_RANK) && h.src != c.get R.HNG_CFG_RANK)

/-- A member's last status. -/
def Ctl.peer (c : Ctl) (r : Nat) : PeerStatus := kgetD c.hng.peers r {}

/-- Notes a heartbeat of a rank for the window in progress, and that it is heard (R258). -/
def Ctl.beat (c : Ctl) (r : Nat) : Ctl :=
  { c with hng := { c.hng with beats := r :: c.hng.beats.filter (· != r), lost := c.hng.lost.filter (· != r) } }.set
    R.HNG_STATUS_HEARD (setBit (c.get R.HNG_STATUS_HEARD) r)

/-! ## Commands (R265) -/

/-- HNG_CMD.ENABLE (R243): a module that is not OFF has nothing to enter. -/
def Ctl.hngEnable (c : Ctl) : Ctl :=
  if c.get R.HNG_CFG_MODE = 0 || !c.is R.HNG_CFG_H0_EN || !c.is R.HNG_CFG_H1_EN then c.hngStatus 1
  else if c.role != 0 then c.hngStatus 0
  else ({ c with hng := { c.hng with formWait := 0, offAfter := false, standAt := none } }.setRole 1).hngStatus 0

/-- HNG_CMD.ENABLE: SECURE. -/
def hngEnable (m : Master) (c : Ctl) : Ctl := c.ifSecure m 0x80008 (·.hngEnable)

/-- HNG_CMD.DISABLE: OFF at the next boundary; an active with a SYNCED partner hands over first. -/
def Ctl.hngDisable (c : Ctl) : Ctl :=
  let hand := c.role = 2 && c.syncedPartner.isSome
  let at' := if hand then some (winAdd c.winNo 2) else none
  { c with hng := { c.hng with offAfter := true, standAt := at' } }.hngStatus 0

/-- HNG_CMD.DISABLE: SECURE. -/
def hngDisable (m : Master) (c : Ctl) : Ctl := c.ifSecure m 0x80008 (·.hngDisable)

/-- HNG_CMD.REJOIN (R260). -/
def hngRejoin (m : Master) (c : Ctl) : Ctl :=
  c.ifSecure m 0x80008 (fun c => if c.role != 5 then c.hngStatus 1 else c.joinStandby.hngStatus 0)

/-- HNG_CMD.STAND_DOWN (R260). -/
def hngStandDown (m : Master) (c : Ctl) : Ctl :=
  c.ifSecure m 0x80008 (fun c =>
    if c.role != 2 || c.syncedPartner.isNone then c.hngStatus 1
    else { c with hng := { c.hng with standAt := some (winAdd c.winNo 2) } }.hngStatus 0)

/-- Starts a probe (R255). -/
def Ctl.startProbe (c : Ctl) (why : Nat) : Ctl := { c with hng := { c.hng with probe := some c.winNo, probeWhy := why } }

/-- HNG_CMD.PROBE. -/
def hngProbe (m : Master) (c : Ctl) : Ctl := c.ifSecure m 0x80008 (fun c => (c.startProbe 0).hngStatus 0)

/-- A hinge link is UP (R244). -/
def hingeLinkUp (i : Fin 2) (c : Ctl) : Ctl :=
  let r := if i = 0 then R.HNG_STATUS_H0_UP else R.HNG_STATUS_H1_UP
  let en := if i = 0 then R.HNG_CFG_H0_EN else R.HNG_CFG_H1_EN
  if !c.is en || c.is r then c else (c.set r 1).raise Ev.HNG_LINK i.val 1

/-- A hinge link is DOWN (R244). -/
def hingeLinkDown (i : Fin 2) (c : Ctl) : Ctl :=
  let r := if i = 0 then R.HNG_STATUS_H0_UP else R.HNG_STATUS_H1_UP
  if c.is r then (c.set r 0).raise Ev.HNG_LINK i.val 0 else c

/-! ## Promotion (R258 to R262) -/

/-- The ring of a source takes the blocks listed in place of what it wrote since the first of them (R259). -/
def Ctl.ringReplay (c : Ctl) (i n : Nat) (bs : List (List Int × Nat)) : Ctl :=
  match kget? c.src.rings i with
  | none => c
  | some r =>
    let k := n * c.winSamples
    let r' := if n = 0 then r else { r with data := r.data.drop k, fill := r.fill - k, held := [] }
    let c := { c with src := { c.src with rings := kput c.src.rings i r' } }
    c.each bs (fun c b => c.ringBoundary i b.1 b.2)

/-- This module's own staged block of a source in an acquire window; zeros when it holds none (R259). -/
def Ctl.ownBlock (c : Ctl) (w i : Nat) : List Int × Nat :=
  match (kgetD c.hng.own w []).find? (fun b => b.src == i) with
  | none => (List.replicate c.winSamples 0, 2)
  | some b => (b.samples, b.link)

/-- FIRST of a promotion at the window in progress (R259). -/
def Ctl.spliceFirst (c : Ctl) : Nat :=
  let age := fun (w : Nat) => (c.winNo + 2 ^ 32 - w) % 2 ^ 32
  let old := c.hng.gaps.filter (fun w => age w ≤ c.get R.HNG_TIMING_HB_MISS + 2)
  old.foldl (fun b w => if age b < age w then w else b) ((c.winNo + 2 ^ 32 - 1) % 2 ^ 32)

/-- The module is promoted at the boundary of the window in progress (R258, R259); the blocks that it takes go to a remaining
standby too. -/
def Ctl.promote (c : Ctl) : Ctl :=
  let unsync := c.role = 3 && c.get R.HNG_STATUS_SYNC != 3
  let first := if c.role = 3 then c.spliceFirst else (c.winNo + 2 ^ 32 - 1) % 2 ^ 32
  let n := (c.winNo + 2 ^ 32 - 1 - first) % 2 ^ 32
  let live := (List.range 256).filter (fun i => c.is R.SRC_EN i)
  let blocks := fun (i : Nat) => (List.range (n + 1)).map (fun k => c.ownBlock (winAdd first k) i)
  let c' := if c.role = 3 then (c.each live (fun c i => c.ringReplay i n (blocks i))).phaseStep false else c
  let h := { c'.hng with promotedAt := some c.winNo, first := first, budget := none, blocks := [], gaps := [], journal := [],
                         jwords := 0, overflow := false, decide := none, unheard := 0, missed := [] }
  let c' := (({ c' with hng := h }.setRole 2).setSync 0).inc R.HNG_PROMOTIONS
  let c' := c'.when unsync (·.set R.HNG_STATUS_UNSYNC_PROMOTE 1)
  let c' := c'.triggerHeld
  let c' := c'.hngSend 1 3 c'.winNo (c'.recordWords true)
  c'.each (List.range (n + 1)) (fun c' k =>
    c'.sendBlocks (winAdd first (k + 1)) (live.map (fun i => let b := c.ownBlock (winAdd first k) i; ⟨i, b.2, b.1⟩)))

/-- The module leaves service (R260, R261). -/
def Ctl.leaveService (c : Ctl) (role : Nat) : Ctl :=
  let c := { c with hng := { c.hng with standAt := none, decide := none, journal := [], jwords := 0, overflow := false } }
  ((c.set R.HNG_STATUS_DUAL 0).setSync 0).setRole role

/-- STAND_DOWN_HANDOVER: the chosen boundary (R260). The former active becomes a SYNCED standby, goes OFF under DISABLE, or
FAILED after a DRAM freeze (R368); a SYNCED standby is promoted. -/
def standDownHandover (c : Ctl) : Ctl :=
  match c.role, c.hng.standAt with
  | 2, some w =>
    if later w c.winNo then c
    else
      let off := c.hng.offAfter
      let froze := c.get R.DRAM_STATUS_MODE = 3
      let c := c.leaveService (if off then 0 else if froze then 5 else 3)
      if !off && froze then c
      else if off then { c with hng := { c.hng with offAfter := false } } else (c.phaseStep true).setSync 3
  | 3, _ => if c.get R.HNG_STATUS_SYNC = 3 then c.promote else c
  | _, _ => c

/-- FORM_WAIT_EXPIRY (R243). -/
def formWaitExpiry (c : Ctl) : Ctl :=
  let lower := (List.range (c.get R.HNG_CFG_RANK)).any (fun r => bit (c.get R.HNG_STATUS_HEARD) r)
  if c.role != 1 || c.hng.formWait < c.get R.HNG_TIMING_FORM_WAIT || lower then c else c.setRole 2

/-- HEARTBEAT_LOSS: a member is lost (R258). -/
def heartbeatLoss (r : Fin 3) (c : Ctl) : Ctl :=
  if c.role = 0 || !c.hngRanks.contains r.val || c.hng.lost.contains r.val ||
      c.get R.HNG_PEER_MISSED r < c.get R.HNG_TIMING_HB_MISS then c
  else
    let c := { c with hng := { c.hng with lost := r.val :: c.hng.lost } }
    let c := ((c.set R.HNG_STATUS_HB_LOST_SEEN 1).raise Ev.HNG_HB_LOST r.val)
    let wasActive := c.get R.HNG_PEER_ROLE r = 2
    let synced := fun (q : Nat) => q != r.val && bit (c.get R.HNG_STATUS_HEARD) q && c.get R.HNG_PEER_ROLE q == 3 &&
      c.get R.HNG_PEER_SYNC q == 3
    let better := if c.get R.HNG_STATUS_SYNC = 3 then c.hngRanks.any (fun q => q < c.get R.HNG_CFG_RANK && synced q)
      else c.hngRanks.any synced
    if c.role = 3 && wasActive && !better then c.promote else c

/-- The amplifiers that follow this module's entry, another entry and none, over the links that are UP (R261). -/
def Ctl.follow (c : Ctl) : Nat × Nat × Nat :=
  ((List.range 8).filter (fun l => c.get R.AMP_LINK_STATE l == 2)).foldl (fun n l =>
    (n.1 + c.get R.HNG_FOLLOW_ME l, n.2.1 + c.get R.HNG_FOLLOW_OTHER l, n.2.2 + c.get R.HNG_FOLLOW_NONE l)) (0, 0, 0)

/-- ORPHAN_STAND_DOWN (R261). -/
def orphanStandDown (c : Ctl) : Ctl :=
  let f := c.follow
  if c.role = 2 && f.1 = 0 && 0 < f.2.1 then c.leaveService 4 else c

/-- ORPHAN_PROMOTE (R262). -/
def orphanPromote (c : Ctl) : Ctl :=
  if c.role = 4 && c.get R.HNG_TIMING_HB_MISS ≤ c.hng.unheard then c.promote else c

/-- Whether the amplifiers follow two active modules (R261). -/
def Ctl.showDual (c : Ctl) : Ctl :=
  let f := c.follow
  let dual := c.role = 2 && 0 < f.1 && 0 < f.2.1
  if dual == c.is R.HNG_STATUS_DUAL then c
  else (c.set R.HNG_STATUS_DUAL (b2n dual)).when dual (·.raise Ev.HNG_DUAL)

/-! ## Comparison and decisions (R253 to R257) -/

/-- A mismatch of content window `w` is counted and reported (R254). -/
def Ctl.countMismatch (c : Ctl) (w : Nat) : Ctl :=
  let c := (((c.inc R.HNG_MISMATCH).set R.HNG_MISMATCH_WIN w).set R.HNG_STATUS_MISMATCH_SEEN 1).raise Ev.HNG_MISMATCH 0 w
  { c with hng := { c.hng with counted := some w } }

/-- A mismatch of content window `w` (R254, R256). -/
def Ctl.hngMismatch (c : Ctl) (w : Nat) : Ctl :=
  let c := c.countMismatch w
  if c.get R.HNG_CFG_MODE = 1 && c.hng.decide.isNone then
    { c with hng := { c.hng with decide := some (winAdd w 4, false), probes := [] } }
  else c

/-- Whether a content window lies between FIRST and P + 1 of the last promotion. -/
def Ctl.notCompared (c : Ctl) (w : Nat) : Bool :=
  match c.hng.promotedAt with
  | none => false
  | some p => (w + 2 ^ 32 - c.hng.first) % 2 ^ 32 ≤ (p + 1 + 2 ^ 32 - c.hng.first) % 2 ^ 32

/-- A standby's comparison at its guard point (R254): its CRCs of content w with those in RECORD w + 1. -/
def Ctl.hngCompare (c : Ctl) : Ctl :=
  if c.role != 3 || c.get R.HNG_STATUS_SYNC < 2 then c
  else
    let w := c.cwin
    match kget? c.hng.records c.winNo with
    | none => c
    | some r =>
      let missed := c.hng.missed.contains w
      if c.notCompared w then c
      else if r.crcs == c.hngCrcs w && !missed then c.set R.HNG_RESYNC_MATCHED (min 65535 (c.get R.HNG_RESYNC_MATCHED + 1))
      else
        let c := c.set R.HNG_RESYNC_MATCHED 0
        if c.get R.HNG_STATUS_SYNC != 3 then c
        else if missed then (c.countMismatch w).toConverge
        else c.hngMismatch w

/-- What the hinge does at the guard point: a standby compares, and sends its CRCs in STATUS (R254). -/
def Ctl.hngGuard (c : Ctl) : Ctl :=
  let c := c.hngCompare
  if c.role = 3 then c.sendStatus c.cwin else c

/-- PROBE_PERIODIC (R255). -/
def probePeriodic (c : Ctl) : Ctl :=
  let n := 16 * c.get R.HNG_TIMING_PROBE_EVERY
  if c.role = 0 || n = 0 || c.hng.sinceProbe < n then c
  else { c with hng := { c.hng with sinceProbe := 0 } }.startProbe 1

/-- A decision about content window `w` begins: both members probe in w + 2 and w + 3 (R256). -/
def Ctl.decideAt (c : Ctl) (w : Nat) (triplex : Bool) : Ctl :=
  { c with hng := { c.hng with decide := some (winAdd w 4, triplex) } }

/-- PROBE_RESULT (R255): the probe of the window in progress, or one that a decision asked for. STATUS carries every result but
that of a commanded probe that failed, which decides nothing (log entry 151). -/
def probeResult (pass : Bool) (c : Ctl) : Ctl :=
  if c.hng.probe.isNone && c.hng.decide.isNone then c
  else
    let why := if c.hng.probe.isSome then c.hng.probeWhy else 2
    let kept := if pass || why != 0 then ((c.winNo, pass) :: c.hng.probes).take 8 else c.hng.probes
    let c := { c with hng := { c.hng with probe := none, probes := kept } }
    if pass then c
    else
      let c := (c.set R.HNG_STATUS_PROBE_FAIL_SEEN 1).raise Ev.HNG_PROBE
      if why != 1 then c
      else if c.role = 3 then c.leaveService 5
      else if c.role = 2 && c.hng.decide.isNone then c.decideAt c.cwin false
      else c

/-- Whether both probes of a decision at `p` passed, by the results listed. -/
def probesOk (p : Nat) (l : List (Nat × Bool)) : Bool :=
  let ok := fun (k : Nat) => l.any (fun e => e.1 == (p + 2 ^ 32 - k) % 2 ^ 32 && e.2)
  ok 2 && ok 1

/-- The members that are heard and whose configuration is this module's (R242). -/
def Ctl.hngOthers (c : Ctl) : List Nat := c.hngRanks.filter (fun r => bit (c.get R.HNG_STATUS_HEARD) r && !(c.peer r).differs)

/-- The decision of R256 at its boundary, and that of a TRIPLEX group whose CRCs all differed (R257): there a member that fails
goes to FAILED, but the active only when it alone fails. -/
def duplexDecision (c : Ctl) : Ctl :=
  match c.hng.decide with
  | none => c
  | some (p, triplex) =>
    if later p c.winNo then c
    else
      let c : Ctl := { c with hng := { c.hng with decide := none, decidedAt := some p } }
      let own := probesOk p c.hng.probes
      let ok := fun (r : Nat) => probesOk p (c.peer r).probes
      let others := c.hngOthers
      if c.role = 2 then
        if own then c
        else if triplex then
          (if others.any (fun r => c.get R.HNG_PEER_ROLE r == 3) && others.all ok then c.leaveService 5 else c.raise Ev.HNG_PROBE)
        else if others.any (fun r => ok r && c.get R.HNG_PEER_ROLE r == 3) then c.leaveService 5
        else c.raise Ev.HNG_PROBE
      else if c.role = 3 then
        let active := others.find? (fun r => c.get R.HNG_PEER_ROLE r == 2)
        let actOk : Bool := (active.map ok).getD true
        let first := !others.any (fun r => r < c.get R.HNG_CFG_RANK && c.get R.HNG_PEER_ROLE r == 3 && ok r)
        if own && actOk then c.toConverge
        else if own && triplex && !others.all (fun r => ok r || c.get R.HNG_PEER_ROLE r == 2) then c.toConverge
        else if own then (if first then c.promote else c)
        else if triplex then c.leaveService 5
        else if actOk then c.leaveService 5
        else if others.any (fun r => ok r) then c.leaveService 5
        else c.toConverge
      else c

/-- TRIPLEX_VOTE: the CRCs of content w are voted at the boundary of w + 2 (R257). -/
def triplexVote (c : Ctl) : Ctl :=
  if c.get R.HNG_CFG_MODE != 2 || (c.role != 2 && c.role != 3) then c
  else
    let w := (c.winNo + 2 ^ 32 - 2) % 2 ^ 32
    let me := (c.get R.HNG_CFG_RANK, c.role, c.hngCrcs w)
    let there := (c.hngRanks.filter (fun r => (c.peer r).cwin == w && !(c.peer r).crcs.isEmpty && !(c.peer r).differs)).map
      (fun r => (r, c.get R.HNG_PEER_ROLE r, (c.peer r).crcs))
    let all := me :: there
    match all.find? (fun e => e.2.1 == 2), all.filter (fun e => e.2.1 == 3) with
    | some a, [s, t] =>
      if a.2.2 == s.2.2 && a.2.2 == t.2.2 then c
      else
        let c := if c.role = 3 && c.hng.counted = some w then c else c.countMismatch w
        if s.2.2 == t.2.2 then
          if c.role = 2 then c.leaveService 5 else if me.1 ≤ s.1 && me.1 ≤ t.1 then c.promote else c
        else if a.2.2 == s.2.2 then (if me.1 == t.1 then c.toConverge else c)
        else if a.2.2 == t.2.2 then (if me.1 == s.1 then c.toConverge else c)
        else if c.hng.decide.isNone then c.decideAt w true
        else c
    | some a, [s] =>
      if a.2.2 == s.2.2 then c
      else
        let c := if c.role = 3 && c.hng.counted = some w then c else c.countMismatch w
        if c.hng.decide.isNone then c.decideAt w false else c
    | _, _ => c

/-! ## Frames received -/

/-- The zones that a record declares with the active's storm door follow on the standby's own (R252). -/
def Ctl.takeOwners (c : Ctl) (owners : List Nat) : Ctl :=
  if !c.is R.STORM_STATUS_ARMED then c
  else
    let want := owners.zipIdx.filter (fun e => e.1 != 0 && c.get R.ZONE_OWNER e.2 != 1)
    let c := c.each want (fun c e => c.takeAs e.1 [e.2])
    c.each (c.drivenZones.filter (fun z => owners.getD z 0 == 0)) Ctl.handBack

/-- The ring write pointers of a remaining standby go back to FIRST of a promotion (R259). -/
def Ctl.rewindAll (c : Ctl) (n : Nat) : Ctl :=
  let k := n * c.winSamples
  let back := fun (e : Nat × Ring) => (e.1, { e.2 with data := e.2.data.drop k, fill := e.2.fill - k })
  { c with src := { c.src with rings := c.src.rings.map back } }

/-- RECORD_RECEIVE (R243, R249, R252, R258, R259). -/
def recordReceive (link : Nat) (h : HngHead) (payload : List Nat) (c : Ctl) : Ctl :=
  let p := c.hngAccept link h
  let c := p.1
  if !p.2 || (c.peer h.src).differs then c
  else
    let r := recordParse h.src payload
    let c := (c.beat h.src).set R.HNG_PEER_ROLE r.role h.src
    if r.role != 2 then c
    else
      let c := if c.role = 1 || c.role = 4 then c.joinStandby else c
      if c.role != 3 then c
      else
        let recs := (kput c.hng.records h.cwin r).filter (fun (e : Nat × RecordFrame) => (h.cwin + 2 ^ 32 - e.1) % 2 ^ 32 < 4)
        let c := { c with hng := { c.hng with records := recs, budget := some r.budget } }
        let c := if r.promoted then
            let c := c.rewindAll ((h.cwin + 2 ^ 32 - 1 - r.first) % 2 ^ 32)
            { c with hng := { c.hng with promotedAt := some h.cwin, first := r.first, blocks := [] } }
          else c
        let c := c.when (r.overflow && 2 ≤ c.get R.HNG_STATUS_SYNC) (fun c =>
          { c with hng := { c.hng with stateSet := none, stateDone := false } }.toConverge)
        c.takeOwners r.owners

/-- The source blocks of an INPUT frame (R245): one word, then S words for each entry. -/
def inputParse (s : Nat) : Nat → List Nat → List FwdBlock
  | 0, _ => []
  | _, [] => []
  | n + 1, h :: l => ⟨h % 256, h / 256 % 4, (l.take s).map (sx 32 ·)⟩ :: inputParse s n (l.drop s)

/-- HINGE_INPUT_RECEIVE (R246). -/
def hingeInputReceive (link : Nat) (h : HngHead) (payload : List Nat) (c : Ctl) : Ctl :=
  let p := c.hngAccept link h
  let c := p.1
  if !p.2 || c.role != 3 || (c.peer h.src).differs then c
  else
    let got := kgetD c.hng.blocks h.cwin [] ++ inputParse c.winSamples 256 payload
    { c with hng := { c.hng with blocks := kput c.hng.blocks h.cwin got } }

/-- Whether a member's configuration equals this module's (R242). -/
def Ctl.sameConfig (c : Ctl) (i : HngInfo) : Bool :=
  i.order == Config.orderCode && i.firmware == Config.firmwareRev c.slotInForce.fw && i.mode == c.get R.HNG_CFG_MODE &&
    i.len == c.get R.WIN_CTRL_LEN && i.rate96 == c.get R.WIN_CTRL_RATE96 && i.tick == c.get R.WIN_TICK_LEN_ACTIVE

/-- STATUS_FRAME_RECEIVE (R242, R245, R254): the CRCs of a content window that come again are not compared again. An active's
failed probe that no decision has been about starts one on a standby too (R255). -/
def statusFrameReceive (link : Nat) (h : HngHead) (i : HngInfo) (c : Ctl) : Ctl :=
  let p := c.hngAccept link h
  let c := p.1
  if !p.2 then c
  else
    let same := c.sameConfig i
    let st : PeerStatus := { role := i.role, sync := i.sync, cwin := h.cwin, crcs := i.crcs, probes := i.probes, differs := !same }
    let was := (c.peer h.src).differs
    let again := (c.peer h.src).cwin == h.cwin && (c.peer h.src).crcs == i.crcs
    let c := { c with hng := { c.hng with peers := kput c.hng.peers h.src st } }
    let c := c.set R.HNG_STATUS_CFG_DIFF (b2n (c.hng.peers.any (fun e => e.2.differs)))
    if !same then c.when (!was) (·.raise Ev.HNG_LINK h.src 2)
    else
      let c := ((if i.role = 2 then c else c.beat h.src).set R.HNG_PEER_ROLE i.role h.src).set R.HNG_PEER_SYNC i.sync h.src
      let differ := !again && c.role = 2 && c.get R.HNG_CFG_MODE = 1 && i.role = 3 && i.sync = 3 && i.crcs.length == 9 &&
        i.crcs != c.hngCrcs h.cwin && (kget? c.hng.crcs h.cwin).isSome && !c.notCompared h.cwin
      let asks := i.probes.find? (fun e => !e.2 && later (winAdd e.1 4) c.winNo && c.hng.decidedAt.all (fun p => !later p e.1))
      let c := c.when differ (·.hngMismatch h.cwin)
      match asks with
      | some e => if c.role = 3 && i.role = 2 && c.hng.decide.isNone then c.decideAt e.1 false else c
      | none => c

/-- STATE_FRAME_RECEIVE (R263): the set waits for the standby's boundary C + 1. -/
def stateFrameReceive (link : Nat) (h : HngHead) (set : HngState) (c : Ctl) : Ctl :=
  let p := c.hngAccept link h
  let c := p.1
  if !p.2 || c.role != 3 || (c.peer h.src).differs then c else { c with hng := { c.hng with stateSet := some set } }

/-- SYNC_PHASE_ADVANCE (R263, R264). -/
def syncPhaseAdvance (c : Ctl) : Ctl :=
  if c.role != 3 then c
  else
    let full := ((List.range 256).filter (fun i => c.is R.SRC_EN i)).all (fun i =>
      (kgetD c.src.rings i {}).fill == c.get R.SRC_RING i)
    let s := c.get R.HNG_STATUS_SYNC
    if s = 1 && c.hng.bulkDone then c.toConverge
    else if s = 2 && c.hng.stateDone && full && c.get R.HNG_TIMING_MATCH_RUN ≤ c.get R.HNG_RESYNC_MATCHED then c.setSync 3
    else c

/-! ## The window boundary -/

/-- Heartbeats of the window that ends (R258): consecutive misses by rank, and who is heard. -/
def Ctl.countBeats (c : Ctl) : Ctl :=
  let c := c.each c.hngRanks (fun c r =>
    if c.hng.beats.contains r then c.set R.HNG_PEER_MISSED 0 r
    else
      let n := c.get R.HNG_PEER_MISSED r + 1
      let c := c.set R.HNG_PEER_MISSED (min n 15) r
      if n < c.get R.HNG_TIMING_HB_MISS then c else c.set R.HNG_STATUS_HEARD (clrBit (c.get R.HNG_STATUS_HEARD) r))
  { c with hng := { c.hng with beats := [] } }

/-- What the boundary does for the hinge: heartbeats, waiting counts, OFF under DISABLE, and the frames of the window that
begins (R243 to R258). -/
def Ctl.hngBoundary (c : Ctl) : Ctl :=
  if c.role = 0 then c
  else
    let c := c.countBeats
    let f := c.follow
    let unheard := if c.role = 4 && f.1 = 0 && f.2.1 = 0 && 0 < f.2.2 then c.hng.unheard + 1 else 0
    let form := if c.role = 1 then c.hng.formWait + 1 else 0
    let c := { c with hng := { c.hng with unheard := unheard, formWait := form, sinceProbe := c.hng.sinceProbe + 1 } }
    let c : Ctl := if c.hng.offAfter && c.hng.standAt.isNone then { (c.leaveService 0) with hng := {} } else c
    let c := c.showDual
    let c := if c.role = 2 then c.hngSend 1 3 c.winNo (c.recordWords false) else c
    let stateTo := if c.hng.overflow then [] else c.hng.stateTo
    let c : Ctl := { c with hng := { c.hng with journal := [], jwords := 0, overflow := false, stateTo := stateTo } }
    if c.role = 0 then c else c.sendStatus ((c.cwin + 2 ^ 32 - 1) % 2 ^ 32)

/-- The blocks that an active sent with `w` (R246): zeros for what has not arrived; a window with such a block is counted. -/
def Ctl.hngBlocksOf (c : Ctl) (live : List Nat) (w : Nat) : Ctl × List FwdBlock :=
  let got := kgetD c.hng.blocks w []
  let zeros := List.replicate c.winSamples (0 : Int)
  let miss := live.filter (fun i => !got.any (fun b => b.src == i && b.samples.length == c.winSamples))
  let all := got.filter (fun b => !miss.contains b.src) ++ miss.map (fun i => ⟨i, 2, zeros⟩)
  let gaps := if miss.isEmpty then c.hng.gaps else (((w + 2 ^ 32 - 1) % 2 ^ 32) :: c.hng.gaps).take 10
  let c := { c with hng := { c.hng with blocks := kdel c.hng.blocks w, gaps := gaps } }
  (c.when (!miss.isEmpty) (·.inc R.HNG_STATUS_INPUT_GAP), all)

/-- The blocks that a standby's ring writers take at the boundary of the window in progress: the active's of the window before
(R246); after a promotion those of every window from FIRST on (R259). -/
def Ctl.hngBlocks (c : Ctl) (live : List Nat) : Ctl × List FwdBlock :=
  let w := (c.winNo + 2 ^ 32 - 1) % 2 ^ 32
  let n := if c.hng.promotedAt = some w then (w + 2 ^ 32 - 1 - c.hng.first) % 2 ^ 32 else 0
  (List.range (min n 10 + 1)).foldl (fun (p : Ctl × List FwdBlock) k =>
    let q := p.1.hngBlocksOf live ((w + 2 ^ 32 - (min n 10 - k)) % 2 ^ 32)
    (q.1, p.2 ++ q.2)) (c, [])

/-- The INPUT frames of an active: the blocks that its ring writers take in the window that begins (R246). -/
def Ctl.sendInput (c : Ctl) : Ctl :=
  if c.role != 2 then c
  else
    let l := c.src.rings.filter (fun (e : Nat × Ring) => !e.2.held.isEmpty && c.is R.SRC_EN e.1)
    c.sendBlocks c.winNo (l.map (fun (e : Nat × Ring) => ⟨e.1, e.2.heldLink, e.2.held⟩))

/-- Own staged blocks are kept for promotion (R246): those of the last HB_MISS + 2 acquire windows. -/
def Ctl.keepOwn (c : Ctl) (l : List FwdBlock) : Ctl :=
  let w := (c.winNo + 2 ^ 32 - 1) % 2 ^ 32
  let own := (kput c.hng.own w l).filter (fun (e : Nat × List FwdBlock) =>
    (w + 2 ^ 32 - e.1) % 2 ^ 32 < c.get R.HNG_TIMING_HB_MISS + 2)
  { c with hng := { c.hng with own := own } }

end Sys2Proof.Machine
end

