-- ==== Sys2Proof/Machine/Fabric.lean ====
section
/-! DEFINITION. The gate fabric (spec/11): gates, cells, knocks and the root, generations, flows, control cells, windows. -/
namespace Sys2Proof.Machine

/-- The FAB block's state refusal (R289). -/
def Ctl.fabState (c : Ctl) : Ctl := c.refuse R.FAB_STATUS_ERR_STATE Ev.FAB_STATE

/-- Whether gate `g` is enabled. -/
def Ctl.gateOn (c : Ctl) (g : Nat) : Bool := c.is R.FAB_CFG_EN && bit (c.get R.FAB_CFG_GATE_EN) g

/-- A link-local cell joins its gate's queue (R270). -/
def Ctl.localPut (c : Ctl) (g kind : Nat) (words : List Nat) : Ctl :=
  c.cellPut (16 + g) ⟨{ vc := 2, cls := 3, kind := kind, mc := false, dst := 0, win8 := c.winNo % 256, words := words }, none⟩

/-! ## Membership, root and CONVERGED (R275 to R281) -/

/-- Brings CONVERGED up to date (R281). -/
def Ctl.showConv (c : Ctl) : Ctl :=
  let on := c.get R.FAB_STATUS_STATE == 2 && c.get R.FAB_GEN_GEN == c.fab.rootGen && c.get R.FAB_GEN_NEXT == 0 && c.fab.acked
  if on == c.is R.FAB_STATUS_CONVERGED then c else (c.set R.FAB_STATUS_CONVERGED (b2n on)).raise Ev.FAB_CONV 0 (b2n on)

/-- An election key (R276). -/
structure RootKey where
  run : Bool
  epoch : Nat
  prio : Nat
  ident : Nat
  deriving DecidableEq, Repr

/-- Whether a key beats another: RUN, then the earlier EPOCH, the lower PRIO, the lower IDENT. -/
def RootKey.beats (a b : RootKey) : Bool :=
  if a.run != b.run then a.run
  else if a.run && a.epoch != b.epoch then a.epoch < b.epoch
  else if a.prio != b.prio then a.prio < b.prio
  else a.ident < b.ident

/-- WIN_EPOCH as one number. -/
def Ctl.epoch (c : Ctl) : Nat := c.get R.WIN_EPOCH_LO + 2 ^ 32 * c.get R.WIN_EPOCH_HI

/-- This station's own key. -/
def Ctl.ownKey (c : Ctl) : RootKey := ⟨c.is R.WIN_STATUS_RUN, c.epoch, c.get R.FAB_CFG_PRIO, Config.ident⟩

/-- The key of the root that a neighbour forwards. -/
def Nbr.key (n : Nbr) : RootKey := ⟨n.rootRun, n.epoch, n.rootPrio, n.root⟩

/-- Whether one neighbour leads better than another to the same root: ROOT_DIST, IDENT, gate. -/
def nbrBefore (a b : Nat × Nbr) : Bool :=
  a.2.dist < b.2.dist || (a.2.dist == b.2.dist && (a.2.ident < b.2.ident || (a.2.ident == b.2.ident && a.1 < b.1)))

/-- The best of the neighbours that forward another root than this module. -/
def bestNbr (own : Nat) (l : Keyed Nbr) : Option (Nat × Nbr) :=
  (l.filter (fun (e : Nat × Nbr) => e.2.root != own)).foldl (fun b e =>
    match b with
    | none => some e
    | some x => if e.2.key.beats x.2.key || (e.2.root == x.2.root && nbrBefore e x) then some e else b) none

/-- The election (R276): the root, the distance to it, the up gate and the tree gates. A hinge standby takes no part. -/
def Ctl.elect (c : Ctl) : Ctl :=
  let was := c.fab.rootIdent
  let mine := c.get R.HNG_STATUS_ROLE == 0 || c.get R.HNG_STATUS_ROLE == 2
  let best := bestNbr Config.ident c.fab.nbrs
  let self : Ctl := { c with fab := { c.fab with
    rootIdent := Config.ident, rootPrio := c.get R.FAB_CFG_PRIO, rootRun := c.is R.WIN_STATUS_RUN, rootEpoch := c.epoch,
    rootGen := c.get R.FAB_GEN_GEN, rootTick := c.get R.WIN_TICK_LEN_ACTIVE, rootLen := c.get R.WIN_CTRL_LEN } }
  let show' := fun (c : Ctl) (up : Option Nat) => c.each (List.range 4) (fun c g =>
    let child := match kget? c.fab.nbrs g with
      | some n => n.root == c.fab.rootIdent && n.dist == c.get R.FAB_ROOT_DEPTH + 1
      | none => false
    (c.set R.FAB_GATE_UPLINK (b2n (up == some g)) g).set R.FAB_GATE_TREE (b2n (up == some g || child)) g)
  let c' := match best with
    | some (g, n) =>
      if mine && c.ownKey.beats n.key then show' (((self.set R.FAB_STATUS_ROOT 1).set R.FAB_ROOT_DEPTH 0)) none
      else
        let f : Ctl := { c with fab := { c.fab with
          rootIdent := n.root, rootPrio := n.rootPrio, rootRun := n.rootRun, rootEpoch := n.epoch, rootGen := n.gen,
          tickOrigin := n.tickOrigin, rootTick := n.tick, rootLen := n.len } }
        let f := f.when (n.ident == n.root) (·.set R.FAB_ROOT_NODE (n.station % 64))
        show' (((f.set R.FAB_STATUS_ROOT 0).set R.FAB_ROOT_DEPTH (n.dist + 1)).set R.FAB_ROOT_SEQ n.seq) (some g)
    | none => show' ((self.set R.FAB_STATUS_ROOT 1).set R.FAB_ROOT_DEPTH 0) none
  let c' := c'.when (c'.is R.FAB_STATUS_ROOT) (fun c => c.set R.FAB_ROOT_NODE c.node)
  c'.when (c'.fab.rootIdent != was) (·.raise Ev.FAB_ROOT)

/-- Whether this node differs from the root under R278, by the neighbour that forwards it. -/
def Ctl.fabDiffers (c : Ctl) : Bool :=
  match bestNbr Config.ident c.fab.nbrs with
  | none => false
  | some (_, n) =>
    !c.is R.FAB_STATUS_ROOT && (n.fabric != c.get R.FAB_FABRIC_ID_ID || n.len != c.get R.WIN_CTRL_LEN ||
      n.rate96 != c.get R.WIN_CTRL_RATE96 || n.tick != c.get R.WIN_TICK_LEN_ACTIVE ||
      (c.is R.WIN_STATUS_RUN && n.rootRun && n.epoch != c.epoch))

/-- Whether another node holds the address asked for (R277): assigned already, or claimed with a lower IDENT. -/
def Ctl.fabDup (c : Ctl) : Bool :=
  !c.is R.FAB_CFG_ANY && c.get R.FAB_STATUS_STATE != 2 && c.fab.nbrs.any (fun (e : Nat × Nbr) =>
    e.2.station % 64 == c.get R.FAB_CFG_NODE_REQ && e.2.group != c.get R.HNG_CFG_GROUP &&
      (cget c.fab.heard (e.2.station % 64) != 0 || e.2.ident < Config.ident))

/-- The lowest address that no node heard holds (R277). -/
def Ctl.freeNode (c : Ctl) : Nat := ((List.range 64).find? (fun n => cget c.fab.heard n == 0)).getD 0

/-- The state of the node after a knock or an election (R277, R278). -/
def Ctl.member (c : Ctl) : Ctl :=
  if !c.is R.FAB_CFG_EN then c
  else
    let st := c.get R.FAB_STATUS_STATE
    let c := if c.fabDiffers then
        ((c.set R.FAB_STATUS_STATE 3).set R.FAB_STATUS_CFG_DIFF 1).when (!c.is R.FAB_STATUS_CFG_DIFF) (·.raise Ev.FAB_KNOCK_CFG)
      else if c.fabDup then
        ((c.set R.FAB_STATUS_STATE 3).set R.FAB_STATUS_DUP 1).when (!c.is R.FAB_STATUS_DUP) (·.raise Ev.FAB_DUP)
      else
        let n := if st = 2 then c.get R.FAB_STATUS_NODE else if c.is R.FAB_CFG_ANY then c.freeNode else c.get R.FAB_CFG_NODE_REQ
        (((c.set R.FAB_STATUS_CFG_DIFF 0).set R.FAB_STATUS_DUP 0).set R.FAB_STATUS_STATE 2).set R.FAB_STATUS_NODE n
    let n := (c.fab.heard.filter (fun (e : Nat × Nat) => e.1 != c.node)).length + b2n (c.get R.FAB_STATUS_STATE == 2)
    (c.set R.FAB_STATUS_NODES n).showConv.announce

/-- KNOCK_SEND: the knock of a gate (R275), with what the election now gives. The root's sequence moves on with that of its
first enabled gate (R276). -/
def knockSend (g : Fin 4) (c : Ctl) : Ctl :=
  if !c.gateOn g then c
  else
    let c := if c.is R.FAB_STATUS_ROOT || !c.fab.nbrs.isEmpty then c.elect.member else c
    let first := (bitsOf 4 (c.get R.FAB_CFG_GATE_EN)).head? == some g.val
    let c := c.when (first && c.is R.FAB_STATUS_ROOT) (·.inc R.FAB_ROOT_SEQ)
    let f := c.fab
    let role := if c.get R.HNG_STATUS_ROLE = 0 then 0 else if c.get R.HNG_STATUS_ROLE = 2 then 1 else 2
    let st := if c.get R.FAB_STATUS_STATE = 2 then c.station else c.get R.FAB_CFG_NODE_REQ + 64 * c.get R.HNG_CFG_RANK
    let ep := if f.rootRun then f.rootEpoch else 0
    c.localPut g 3 [1 + 256 * st + 65536 * g.val + 2 ^ 18 * c.get R.WIN_STATUS_RUN + 2 ^ 19 * c.get R.FAB_CFG_ANY + 2 ^ 20 * role +
        2 ^ 24 * c.get R.FAB_CFG_PRIO, Config.ident % 2 ^ 32, Config.ident / 2 ^ 32 % 2 ^ 32, c.get R.FAB_FABRIC_ID_ID,
      f.rootIdent % 2 ^ 32, f.rootIdent / 2 ^ 32 % 2 ^ 32, c.get R.FAB_ROOT_DEPTH + 256 * f.rootPrio + 65536 * b2n f.rootRun,
      c.get R.FAB_ROOT_SEQ + 65536 * c.get R.FAB_GEN_GEN, ep % 2 ^ 32, ep / 2 ^ 32, f.tickOrigin,
      c.get R.WIN_CTRL_LEN + 4 * c.get R.WIN_CTRL_RATE96 + 16 * c.get R.WIN_TICK_LEN_ACTIVE + 65536 * c.get R.HNG_CFG_GROUP,
      Config.firmwareRev c.slotInForce.fw % 2 ^ 32]

/-- The knock in a cell's payload (R275). -/
def knockParse (w : List Nat) : Nbr :=
  let g := fun (i : Nat) => w.getD i 0
  { station := g 0 / 256 % 256, gate := g 0 / 65536 % 4, run := bit (g 0) 18, any := bit (g 0) 19, role := g 0 / 2 ^ 20 % 4,
    prio := g 0 / 2 ^ 24, ident := g 1 + 2 ^ 32 * g 2, fabric := g 3, root := g 4 + 2 ^ 32 * g 5, dist := g 6 % 256,
    rootPrio := g 6 / 256 % 256, rootRun := bit (g 6) 16, seq := g 7 % 65536, gen := g 7 / 65536, epoch := g 8 + 2 ^ 32 * g 9,
    tickOrigin := g 10, len := g 11 % 4, rate96 := g 11 / 4 % 2, tick := g 11 / 16 % 16, group := g 11 / 65536 }

/-! ## Cells received (R270, R271) -/

/-- A cell with a bad HEC or CRC (R270). -/
def Ctl.cellBad (c : Ctl) (g : Nat) : Ctl :=
  ((c.inc R.FAB_GATE_ERRORS g).set R.FAB_STATUS_CELL_ERR_SEEN 1).raiseOnce Ev.FAB_CELL_ERR

/-- The checks of a received cell, its credits, and the receive buffer that it takes; `false` when it is discarded. -/
def Ctl.cellIn (c : Ctl) (g : Nat) (x : Cell) : Ctl × Bool :=
  if !c.gateOn g then (c, false)
  else if !x.hecOk then (c.cellBad g, false)
  else
    let link := 3 ≤ x.kind && x.kind ≤ 5
    let k := 4 * g + x.vc % 4
    let rx := cset c.fab.rx k ((cget c.fab.rx k + 1) % 65536)
    let c := if link then c else { c with fab := { c.fab with rx := rx } }
    let held := if link then none else some (g, x.vc % 4)
    if !x.crcOk then ((c.cellBad g).cellFree held, false)
    else
      let j := 4 * g + x.crVc % 4
      let pf := cset c.fab.peerFreed j ((cget c.fab.peerFreed j + x.crCnt) % 65536)
      let c := { c with fab := { c.fab with peerFreed := pf } }.showCredits g
      if link then (c, true)
      else if x.kind = 0 || 6 ≤ x.kind then (c.cellDiscard.cellFree held, false)
      else if c.get R.FAB_STATUS_STATE != 2 then (c.cellFree held, false)
      else (c, true)

/-- KNOCK_RECEIVE (R275 to R278). -/
def knockReceive (g : Fin 4) (x : Cell) (c : Ctl) : Ctl :=
  let p := c.cellIn g x
  let n := knockParse x.words
  if !p.2 || x.kind != 3 || x.words.getD 0 0 % 256 != 1 then p.1
  else
    let c := p.1
    let heard := if n.group = c.get R.HNG_CFG_GROUP && n.station % 64 = c.node then c.fab.heard
      else cset c.fab.heard (n.station % 64) (n.group + 1)
    let c := { c with fab := { c.fab with nbrs := kput c.fab.nbrs g.val n } }
    let c := c.elect.member
    let c := { c with fab := { c.fab with heard := heard } }
    (c.set R.FAB_GATE_PEER n.station g).set R.FAB_GATE_PEER_VALID 1 g

/-- ROOT_TIMEOUT: the node drops a root whose sequence stands still, and stands as a candidate (R276). -/
def rootTimeout (c : Ctl) : Ctl :=
  if !c.is R.FAB_CFG_EN || c.is R.FAB_STATUS_ROOT then c
  else
    let nbrs := c.fab.nbrs.filter (fun (e : Nat × Nbr) => e.2.root != c.fab.rootIdent)
    ({ c with fab := { c.fab with nbrs := nbrs } }.elect).member

/-- ADDRESS_EXPIRY: a node not heard for 10 s gives its address up (R277). -/
def addressExpiry (n : Fin 64) (c : Ctl) : Ctl :=
  { c with fab := { c.fab with heard := cset c.fab.heard n.val 0 } }.member

/-! ## Gates (R267) -/

/-- TOPO to the root's alias: the peer and UP of each gate (R280, R285). -/
def Ctl.sendTopo (c : Ctl) : Ctl :=
  c.fabCtrl 3 3 (c.get R.FAB_ROOT_NODE + 192) ((List.range 4).map (fun g => c.get R.FAB_GATE_PEER g + 256 * c.get R.FAB_GATE_UP g))

/-- A gate goes DOWN: its queued cells are discarded and counted (R267). -/
def Ctl.gateDown (c : Ctl) (g : Nat) : Ctl :=
  let mine := c.fab.out.filter (fun (e : Nat × List QCell) => e.1 / 4 == g || e.1 == 16 + g)
  let cells := mine.flatMap (fun (e : Nat × List QCell) => e.2)
  let out := c.fab.out.filter (fun (e : Nat × List QCell) => !(e.1 / 4 == g || e.1 == 16 + g))
  let c := { c with fab := { c.fab with out := out, nbrs := kdel c.fab.nbrs g } }
  let c := (c.each cells (fun c q => c.cellFree q.held)).inc R.FAB_GATE_LOST g cells.length
  let c := (((c.set R.FAB_GATE_UP 0 g).set R.FAB_GATE_LOCK 0 g).set R.FAB_GATE_PEER_VALID 0 g).showCredits g
  ((c.raise Ev.FAB_LINK g 0).elect.member).sendTopo

/-- GATE_UP: lanes locked and a knock received. Credits equal the buffer sizes (R271). A gate whose pluggable is held powered
down never comes UP (R465). -/
def gateUp (l : Plug) (c : Ctl) : Ctl :=
  let g := l.port
  if plugHeld 1500 l.draws then
    if c.net.held.contains (4 + g.val) then c
    else
      let c := c.cageHold (4 + g) true
      if c.is R.FAB_GATE_UP g then c.gateDown g else c.raise Ev.FAB_LINK g.val 0
  else
  let c := c.cageHold (4 + g) false
  if !c.gateOn g || (kget? c.fab.nbrs g.val).isNone || c.is R.FAB_GATE_UP g then c
  else
    let f := c.fab
    let clear := fun (m : Counts) => m.filter (fun (e : Nat × Nat) => e.1 / 4 != g.val)
    let c : Ctl := { c with fab := { f with sent := clear f.sent, peerFreed := clear f.peerFreed, rx := clear f.rx,
                                            freed := clear f.freed, owed := clear f.owed, passed := clear f.passed } }
    (((c.set R.FAB_GATE_UP 1 g).set R.FAB_GATE_LOCK 1 g).showCredits g).raise Ev.FAB_LINK g.val 1 |>.sendTopo

/-- GATE_DOWN. -/
def gateDown (g : Fin 4) (c : Ctl) : Ctl := if c.is R.FAB_GATE_UP g then c.gateDown g else c

/-! ## Sending (R271 to R274) -/

/-- The place of the next VC3 cell: the first class-A cell, or the oldest. -/
def pick3 (l : List QCell) : Option QCell := match l.find? (fun q => q.cell.cls == 0) with | some q => some q | none => l.head?

/-- The queue that a slot serves, by R273: a channel 0 to 3, or 4 for a link-local cell. A node that is no MEMBER sends link-local
cells only (R278). -/
def Ctl.slotPick (c : Ctl) (g : Nat) : Option Nat :=
  let member := c.get R.FAB_STATUS_STATE == 2
  let ready := fun (vc : Nat) => !(kgetD c.fab.out (4 * g + vc) []).isEmpty && 0 < c.credits g vc && c.is R.FAB_GATE_UP g && member
  let loc := !(kgetD c.fab.out (16 + g) []).isEmpty
  let over' := fun (vc n : Nat) => ready vc && n ≤ cget c.fab.passed (4 * g + vc)
  if loc && cget c.fab.localHold g = 0 then some 4
  else if over' 3 15 then some 3
  else if over' 2 7 then some 2
  else if over' 1 7 then some 1
  else if ready 0 then some 0
  else if ready 2 then some 2
  else if ready 1 then some 1
  else if ready 3 then some 3
  else if loc then some 4
  else none

/-- The channel whose owed credits a cell carries: the lowest that is owed any (R271). -/
def Ctl.owedOn (c : Ctl) (g : Nat) : Nat × Nat :=
  match (List.range 4).find? (fun v => cget c.fab.owed (4 * g + v) != 0) with
  | none => (0, 0)
  | some v => (v, min 31 (cget c.fab.owed (4 * g + v)))

/-- The words of a CREDIT cell: the cumulative counts of each channel (R272). -/
def Ctl.creditWords (c : Ctl) (g : Nat) : List Nat :=
  (List.range 4).map (fun v => cget c.fab.sent (4 * g + v) + 65536 * cget c.fab.freed (4 * g + v))

/-- A cell as it leaves by a gate: a CREDIT cell carries the counts of that instant (R272). -/
def Ctl.fresh (c : Ctl) (g : Nat) (x : Cell) : Cell := if x.kind = 5 then { x with words := c.creditWords g } else x

/-- CELL_SLOT_SEND: the first qualifying cell leaves (R273). -/
def cellSlotSend (g : Fin 4) (c : Ctl) : Ctl :=
  if !c.gateOn g then c
  else
    match c.slotPick g with
    | none => { c with fab := { c.fab with localHold := cset c.fab.localHold g.val (cget c.fab.localHold g.val - 1) } }
    | some v =>
      let k := if v = 4 then 16 + g.val else 4 * g.val + v
      let l := kgetD c.fab.out k []
      match (if v = 3 then pick3 l else l.head?) with
      | none => c
      | some q =>
        let o := c.owedOn g
        let f := c.fab
        let waiting := fun (u : Nat) => u != v && !(kgetD f.out (4 * g.val + u) []).isEmpty && 0 < c.credits g u
        let passed := (List.range 4).foldl (fun m u =>
          let j := 4 * g.val + u
          if u = v then cset m j 0 else if waiting u then cset m j (cget m j + 1) else cset m j 0) f.passed
        let hold := cset f.localHold g.val (if v = 4 then 15 else cget f.localHold g.val - 1)
        let sent := if v = 4 then f.sent else cset f.sent (4 * g.val + v) ((cget f.sent (4 * g.val + v) + 1) % 65536)
        let owed := if q.cell.kind = 5 then f.owed.filter (fun (e : Nat × Nat) => e.1 / 4 != g.val)
          else cset f.owed (4 * g.val + o.1) (cget f.owed (4 * g.val + o.1) - o.2)
        let c : Ctl := { c with fab := { f with out := kput f.out k (l.erase q), passed := passed, localHold := hold,
                                                sent := sent, owed := owed } }
        let x := { c.fresh g q.cell with crVc := o.1, crCnt := o.2 }
        ((c.emit (.cell g.val x.vc (cellWire x))).cellFree q.held).showCredits g

/-- CELL_ESCAPE: the head of a queue has waited ESCAPE_WAIT (R274). A multicast copy becomes one unicast cell for each
subscribing station beyond the gate. -/
def cellEscape (g : Fin 4) (vc : Fin 3) (c : Ctl) : Ctl :=
  let k := 4 * g.val + vc.val
  match kgetD c.fab.out k [] with
  | [] => c
  | q :: l =>
    let c := { c with fab := { c.fab with out := kput c.fab.out k l } }.escaped
    let x := { q.cell with vc := 3, hops := q.cell.hops - 1, down := false }
    if x.mc then c.expand g.val x q.held else c.route3 x q.held

/-- CREDIT_SEND: the cumulative counts of each channel (R272). -/
def creditSend (g : Fin 4) (c : Ctl) : Ctl :=
  if !c.is R.FAB_GATE_UP g then c
  else
    let owed := c.fab.owed.filter (fun (e : Nat × Nat) => e.1 / 4 != g.val)
    { c with fab := { c.fab with owed := owed } }.localPut g 5 (c.creditWords g)

/-- CREDIT_CELL_RECEIVE: the peer's counts set the credits and show the cells lost on the link (R272). -/
def creditCellReceive (g : Fin 4) (x : Cell) (c : Ctl) : Ctl :=
  let p := c.cellIn g { x with crCnt := 0 }
  if !p.2 || x.kind != 5 then p.1
  else
    let c := p.1.each (List.range 4) (fun c v =>
      let k := 4 * g.val + v
      let w := x.words.getD v 0
      let lost := (w % 65536 + 65536 - cget c.fab.rx k) % 65536
      let f := c.fab
      let c : Ctl := { c with fab := { f with
        peerFreed := cset f.peerFreed k (w / 65536 % 65536), rx := cset f.rx k (w % 65536),
        freed := cset f.freed k ((cget f.freed k + lost) % 65536), owed := cset f.owed k (cget f.owed k + lost) } }
      if lost = 0 then c else (c.inc R.FAB_GATE_LOST g lost).raise Ev.FAB_CREDIT g.val lost)
    c.showCredits g

/-! ## Flows (R282 to R284) -/

/-- The SRC entries of this node that subscribe to a global source in force. -/
def Ctl.flowSubs (c : Ctl) (gs : Nat) : List Nat :=
  c.fab.subs.filter (fun i => c.is R.SRC_EN i && c.get R.SRC_PORT i == 10 && c.get R.SRC_GSRC i == gs)

/-- A part is taken into staging: the first copy, of the window in progress (R284). -/
def Ctl.takePart (c : Ctl) (gs : Nat) (x : Cell) : Ctl :=
  let l := kgetD c.fab.parts gs []
  if (c.flowSubs gs).isEmpty || x.win8 != c.winNo % 256 || l.any (fun e => e.1 == x.part) then c
  else { c with fab := { c.fab with parts := kput c.fab.parts gs ((x.part, x.words) :: l),
                                    partLink := cset c.fab.partLink gs (x.aux % 4) } }

/-- DATA_CELL_RECEIVE: checked, forwarded, taken (R270, R279, R284). Reserved kinds and operations are discarded here. -/
def dataCellReceive (g : Fin 4) (x : Cell) (c : Ctl) : Ctl :=
  let p := c.cellIn g x
  let held := some (g.val, x.vc % 4)
  if !p.2 || (3 ≤ x.kind && x.kind ≤ 5) then p.1
  else if x.kind = 2 then
    let op := x.words.getD 0 0 % 256
    if op = 0 || 8 < op then p.1.cellDiscard.cellFree held else p.1.cellFree held
  else if x.mc then
    let c := p.1.takePart x.dst x
    let outs := (bitsOf 4 (kgetD c.fab.flows x.dst ⟨0, 0, []⟩).outs).filter (· != g.val)
    c.copies x held outs
  else
    let st := x.dst % 256
    if p.1.isMe st then (p.1.takePart (x.aux / 4 % 16384) x).cellFree held else p.1.unicast x held

/-- The parts of a block at the module rate (R282). -/
def Ctl.flowParts (c : Ctl) : Nat := max 1 (c.winSamples / 16)

/-- The block of a global source whose parts have all arrived (R284). -/
def Ctl.flowWhole (c : Ctl) (gs : Nat) : Option (List Int) :=
  let l := kgetD c.fab.parts gs []
  let ks := List.range c.flowParts
  if ks.all (fun k => l.any (fun e => e.1 == k)) then
    some (((ks.flatMap (fun k => ((l.find? (fun e => e.1 == k)).map (·.2)).getD [])).take c.winSamples).map (sx 32 ·))
  else none

/-- The block of a subscribed SRC entry at a window boundary, with its LINK (R284): an incomplete block is counted once for its
flow, whichever entries subscribe. -/
def Ctl.flowStage (c : Ctl) (i : Nat) : Ctl × List Int × Nat :=
  let gs := c.get R.SRC_GSRC i
  let run := cget c.fab.runs i
  match c.flowWhole gs with
  | some s =>
    let out := if run = 0 then s else s.zipIdx.map (fun e => e.1 * ((e.2 + 1 : Nat) : Int) / ((c.winSamples : Nat) : Int))
    ({ c with fab := { c.fab with runs := cset c.fab.runs i 0 } }, out, cget c.fab.partLink gs)
  | none =>
    let subs := c.flowSubs gs
    let c := if subs.contains i && subs.head? != some i then c
      else
        let c := { c with fab := { c.fab with late := cset c.fab.late gs ((cget c.fab.late gs + 1) % 65536) } }
        ((c.inc R.FAB_LATE).set R.FAB_STATUS_LATE_SEEN 1).raise Ev.FAB_FLOW_LATE 0 gs
    let c := { c with fab := { c.fab with runs := cset c.fab.runs i (run + 1) } }
    let stall := c.get R.FAB_TIMING_FLOW_STALL ≤ run + 1
    let c := if run + 1 = c.get R.FAB_TIMING_FLOW_STALL then (c.raise Ev.FAB_FLOW_STALL 0 gs).stallTake i else c
    (c, List.replicate c.winSamples 0, if stall then 3 else 2)

/-- The cells of an exported block (R282). -/
def Ctl.flowCells (c : Ctl) (i link : Nat) (block : List Int) : List Cell :=
  let k := c.get R.SRC_CLASS i
  let gs := 256 * c.node + i
  (List.range c.flowParts).map (fun p =>
    ({ vc := if k = 0 then 0 else 1, cls := k, kind := 1, mc := true, dst := gs, part := p, win8 := c.winNo % 256,
       words := ((block.drop (16 * p)).take 16).map (ux 32), aux := link + 4 * gs } : Cell))

/-- The blocks that this node launches in the window that begins: each exported source's block being ring-written (R282). Exports
that a switch or a promotion changed are announced first. -/
def Ctl.flowLaunch (c : Ctl) : Ctl :=
  if !c.speaks then c
  else
    let c := c.announce
    let l := c.src.rings.filter (fun (e : Nat × Ring) => c.is R.SRC_EN e.1 && c.is R.SRC_EXPORT e.1 && !e.2.held.isEmpty)
    c.each l (fun c (e : Nat × Ring) =>
      let outs := bitsOf 4 (kgetD c.fab.flows (256 * c.node + e.1) ⟨0, 0, []⟩).outs
      c.each (c.flowCells e.1 e.2.heldLink e.2.held) (fun c x => c.copies x none outs))

/-- What a boundary clears for the fabric: the parts of the window that ended, and the once-a-window events. -/
def Ctl.flowClear (c : Ctl) : Ctl := { c with fab := { c.fab with parts := [], partLink := [], once := [] } }

/-! ## Control cells (R285) -/

/-- A CTRL cell of an operation: checked and forwarded; whether this node handles it. -/
def Ctl.ctrlIn (c : Ctl) (g : Nat) (x : Cell) (op : Nat) : Ctl × Bool :=
  let p := c.cellIn g x
  let held := some (g, x.vc % 4)
  if !p.2 || (3 ≤ x.kind && x.kind ≤ 5) then (p.1, false)
  else if x.kind != 2 || x.words.getD 0 0 % 256 != op then (p.1.cellFree held, false)
  else if x.mc then (p.1.copies x held (p.1.treeGates.filter (· != g)), true)
  else
    let st := x.dst % 256
    if p.1.isMe st then (p.1.cellFree held, true) else (p.1.unicast x held, false)

/-- The sending station of a CTRL cell. -/
def ctrlFrom (x : Cell) : Nat := x.words.getD 0 0 / 256 % 256

/-- One object record of a MIRROR cell (R67, R285): its mirrored fields enter the received set of the next snapshot. -/
def Ctl.mirrorTake (c : Ctl) (home : Nat) (w : List Nat) : Ctl :=
  let g := fun (i : Nat) => w.getD i 0
  let gid := g 0 % 4096
  if gid = 0xFFF then c
  else
    match (List.range 1024).find? (fun o => c.is R.OBJ_GLOBAL o && c.get R.OBJ_GID o == gid && c.get R.OBJ_HOME o == home) with
    | none => c
    | some o =>
      let v : List (Reg × Nat) := [(R.OBJ_ACT_REQ, g 0 / 2 ^ 12), (R.OBJ_ACT_AT, g 0 / 2 ^ 13), (R.OBJ_HOLD, g 0 / 2 ^ 14),
        (R.OBJ_PRIO, g 0 / 2 ^ 16), (R.OBJ_GAIN, g 1), (R.OBJ_SPREAD, g 1 / 65536), (R.OBJ_POS_X, g 2), (R.OBJ_POS_Y, g 3),
        (R.OBJ_POS_Z, g 4), (R.OBJ_ACT_WIN, g 5)]
      let m := v.foldl (fun (m : RegMap) e => m.set e.1 o e.2) c.tab.mirror
      { c with tab := { c.tab with mirror := m, mirrorGot := o :: c.tab.mirrorGot.filter (· != o) } }

/-- MIRROR_RECEIVE. -/
def mirrorReceive (g : Fin 4) (x : Cell) (c : Ctl) : Ctl :=
  let p := c.ctrlIn g x 1
  let home := ctrlFrom x % 64
  if !p.2 || home = p.1.node then p.1
  else (p.1.mirrorTake home ((x.words.drop 2).take 6)).mirrorTake home ((x.words.drop 8).take 6)

/-- REFUSE_RECEIVE: REMOTE_REFUSED on the home node (R68). -/
def refuseReceive (g : Fin 4) (x : Cell) (c : Ctl) : Ctl :=
  let p := c.ctrlIn g x 2
  let gid := x.words.getD 1 0 % 4096
  if !p.2 then p.1
  else p.1.each ((List.range 1024).filter (fun o => p.1.is R.OBJ_GLOBAL o && p.1.get R.OBJ_GID o == gid &&
    p.1.get R.OBJ_HOME o == p.1.node)) (fun c o => c.set R.OBJ_REMOTE_REFUSED 1 o)

/-- The control queue's depth as it changes (R285, R379). -/
def Ctl.ctrlDepth (c : Ctl) (q : List CtrlMsg) : Ctl :=
  let x := crossed c.fab.ctrlq.length q.length (c.get R.FAB_CTRLQ_WM_HIGH) (c.get R.FAB_CTRLQ_WM_LOW)
  let c := { c with fab := { c.fab with ctrlq := q } }.set R.FAB_CTRLQ_DEPTH q.length
  let c := (c.when x.1 (·.set R.FAB_CTRLQ_HI_SEEN 1)).when x.2 (·.set R.FAB_CTRLQ_LO_SEEN 1)
  c.when (x.1 || x.2) (·.raise Ev.FAB_CTRLQ)

/-- SWITCH of the root: broadcast, and noted by itself (R280). -/
def Ctl.sendSwitch (c : Ctl) (gen : Nat) : Ctl :=
  let w := winAdd c.winNo 8
  (((c.fabBroadcast 3 6 [gen, w]).set R.FAB_GEN_NEXT gen).set R.FAB_GEN_WIN w).showConv

/-- The keeper handles one control cell (R280, R281, R282): a ROUTE set is acknowledged with the cell that covers station 255. -/
def Ctl.ctrlHandle (c : Ctl) (m : CtrlMsg) : Ctl :=
  let w := fun (i : Nat) => m.cell.words.getD i 0
  let op := w 0 % 256
  let st := ctrlFrom m.cell
  if op = 3 then
    let peers := (List.range 4).map (fun g => if bit (w (1 + g)) 8 then some (w (1 + g) % 256) else none)
    { c with fab := { c.fab with topo := kput c.fab.topo st peers } }
  else if op = 4 then
    let routes := (List.range 13).foldl (fun r k =>
      if w 2 + k < 256 && 3 + k < m.cell.words.length then cset r (w 2 + k) (w (3 + k)) else r) c.fab.pendRoutes
    let flows := m.flows.foldl (fun f e => kput f e.1 e.2) c.fab.pendFlows
    let c := { c with fab := { c.fab with pendRoutes := routes, pendFlows := flows } }
    if w 2 + 13 < 256 then c
    else
    let c := { c with fab := { c.fab with rootGen := w 1, acked := true } }
    (c.fabCtrl 3 8 (st % 64 + 192) [4 + 65536 * (w 1 % 65536), 0]).showConv
  else if op = 5 then
    let map := (List.range 8).foldl (fun n k => n + 2 ^ (32 * k) * w (2 + k)) 0
    let ex := (List.range 256).foldl (fun e b =>
      let gs := w 1 + b
      if bit map b then kput e gs (m.classes / 4 ^ b % 4, gs / 256) else if gs / 256 = w 1 / 256 then kdel e gs else e) c.fab.exports
    let c := { c with fab := { c.fab with exports := ex } }
    if c.is R.FAB_STATUS_ROOT && !m.cell.mc then c.fabBroadcast 3 5 (m.cell.words.tail) else c
  else if op = 8 then
    if !c.is R.FAB_STATUS_ROOT || c.get R.FAB_GEN_NEXT != 0 || w 1 / 65536 != c.fab.rootGen then c
    else
      let acks := st :: c.fab.acks.filter (· != st)
      let c := { c with fab := { c.fab with acks := acks } }
      if c.fab.topo.all (fun e => e.1 == c.station || acks.contains e.1) then c.sendSwitch c.fab.rootGen else c
  else c

/-- The keeper takes what its control queue holds, unless it is down. -/
def Ctl.ctrlDrain (c : Ctl) : Ctl :=
  if c.keep.down || c.fab.ctrlq.isEmpty then c
  else
    let q := c.fab.ctrlq
    (c.ctrlDepth []).each q Ctl.ctrlHandle

/-- Whether a control message carries the end-of-packet marker: the last cell of a ROUTE covers station 255 (R378). -/
def CtrlMsg.last (m : CtrlMsg) : Bool := m.cell.words.getD 0 0 % 256 != 4 || 256 ≤ m.cell.words.getD 2 0 + 13

/-- A keeper-handled cell enters the control queue, over its oldest entry when that is full (R285); a pending drop takes it
instead (R378). -/
def Ctl.ctrlQueue (c : Ctl) (m : CtrlMsg) : Ctl :=
  let q := c.fab.ctrlq
  if c.fab.dropPend then { c with fab := { c.fab with dropPend := !m.last } } else
  let c := if q.length < 256 then c.ctrlDepth (q ++ [m])
    else (((c.inc R.FAB_CTRLQ_LOST).set R.FAB_STATUS_CTRLQ_SEEN 1).ctrlDepth (q.tail ++ [m])).raise Ev.FAB_CTRLQ
  c.ctrlDrain

/-- TOPO_RECEIVE. -/
def topoReceive (g : Fin 4) (x : Cell) (c : Ctl) : Ctl :=
  let p := c.ctrlIn g x 3
  if p.2 then p.1.ctrlQueue { cell := x } else p.1

/-- ROUTE_RECEIVE, with the flow gate sets that the keeper takes with the generation. -/
def routeReceive (g : Fin 4) (x : Cell) (flows : Keyed Flow) (c : Ctl) : Ctl :=
  let p := c.ctrlIn g x 4
  if p.2 then p.1.ctrlQueue { cell := x, flows := flows } else p.1

/-- EXPORTS_RECEIVE, with the classes of the 256 sources, two bits each. -/
def exportsReceive (g : Fin 4) (x : Cell) (classes : BitVec 512) (c : Ctl) : Ctl :=
  let p := c.ctrlIn g x 5
  if p.2 then p.1.ctrlQueue { cell := x, classes := classes.toNat } else p.1

/-- ACK_RECEIVE. -/
def ackReceive (g : Fin 4) (x : Cell) (c : Ctl) : Ctl :=
  let p := c.ctrlIn g x 8
  if p.2 then p.1.ctrlQueue { cell := x } else p.1

/-- SWITCH_RECEIVE (R280). -/
def switchReceive (g : Fin 4) (x : Cell) (c : Ctl) : Ctl :=
  let p := c.ctrlIn g x 6
  if !p.2 then p.1
  else ((((p.1.set R.FAB_GEN_NEXT (x.words.getD 1 0)).set R.FAB_GEN_WIN (x.words.getD 2 0)).set R.FAB_ROOT_NODE (ctrlFrom x))).showConv

/-- A fabric tick length is latched for the boundary of its origin window (R287). -/
def Ctl.fabTickLatch (c : Ctl) (t origin : Nat) : Ctl :=
  let c := { c with fab := { c.fab with tickOrigin := origin, rootTick := t } }
  if t = c.get R.WIN_TICK_LEN_ACTIVE then c
  else (({ c with win := { c.win with tickReq := some t, tickFrom := some origin } }.set R.WIN_TICK_PENDING 1).set
    R.WIN_CTRL_TICK t).showSwitch

/-- TICK_RECEIVE (R287). -/
def tickReceive (g : Fin 4) (x : Cell) (c : Ctl) : Ctl :=
  let p := c.ctrlIn g x 7
  if p.2 then p.1.fabTickLatch (x.words.getD 1 0 % 16) (x.words.getD 2 0) else p.1

/-! ## Generations (R279, R280) -/

/-- The peers of a station in a map. -/
def peersOf (t : Keyed (List (Option Nat))) (st : Nat) : List (Option Nat) := kgetD t st []

/-- Distances from the stations of a frontier, ring by ring. -/
def spread (t : Keyed (List (Option Nat))) : Nat → Nat → List Nat → Counts → Counts
  | 0, _, _, m => m
  | n + 1, d, front, m =>
    let next := t.filter (fun (e : Nat × List (Option Nat)) => (kget? m e.1).isNone && e.2.any (fun p => p.any front.contains))
    if next.isEmpty then m
    else spread t n (d + 1) (next.map (·.1)) (next.foldl (fun m (e : Nat × List (Option Nat)) => kput m e.1 (d + 1)) m)

/-- Hops to a station from every station that reaches it. -/
def distTo (t : Keyed (List (Option Nat))) (st : Nat) : Counts := spread t 64 0 [st] [(st, 0)]

/-- The gates of a station that lead nearer, by a table of distances. -/
def nearer (t : Keyed (List (Option Nat))) (m : Counts) (st : Nat) : List Nat :=
  match kget? m st with
  | none => []
  | some d => (List.range 4).filter (fun g => match (peersOf t st).getD g none with
    | none => false
    | some p => (kget? m p).any (fun e => e + 1 == d))

/-- The parent of a station on the tree: its up gate and the station beyond, the lower address first (R276, R280). -/
def parentOf (t : Keyed (List (Option Nat))) (root : Counts) (st : Nat) : Option (Nat × Nat) :=
  (nearer t root st).foldl (fun b g =>
    match (peersOf t st).getD g none, b with
    | none, _ => b
    | some p, none => some (g, p)
    | some p, some (_, q) => if p < q then some (g, p) else b) none

/-- Whether `st` lies on the way from `x` up to the root. -/
def below (t : Keyed (List (Option Nat))) (root : Counts) (st : Nat) : Nat → Nat → Bool
  | 0, x => x == st
  | n + 1, x => x == st || (match parentOf t root x with | none => false | some p => below t root st n p.2)

/-- The FAB_ROUTE word of station `s` toward `st` (R279). -/
def routeWord (t : Keyed (List (Option Nat))) (root : Counts) (s st : Nat) : Nat :=
  let m := distTo t st
  match kget? m s with
  | none => 0
  | some h =>
    let min' := (nearer t m s).foldl setBit 0
    let up := parentOf t root s
    let under := below t root s 64 st
    let down := ((List.range 4).filter (fun g => match (peersOf t s).getD g none with
      | none => false
      | some p => (parentOf t root p).any (fun q => q.2 == s) && below t root p 64 st)).foldl setBit 0
    min' + 16 * ((up.map (·.1)).getD 0) + 64 * b2n (up.isSome && !under) + 128 * b2n (s == st) + 256 * down + 4096 * (min h 15) + 65536

/-- The station that an alias means: the lowest rank in the map (R267). -/
def aliasOf (t : Keyed (List (Option Nat))) (n : Nat) : Nat :=
  ((List.range 3).map (fun r => n + 64 * r)).find? (fun s => (kget? t s).isSome) |>.getD n

/-- ROUTE_COMPUTE: the root computes a generation and sends it (R280). `subs` gives the subscribing nodes of each global
source, which no message of the spec carries. -/
def routeCompute (subs : List (Nat × List Nat)) (c : Ctl) : Ctl :=
  if !c.is R.FAB_STATUS_ROOT || c.get R.FAB_STATUS_STATE != 2 then c
  else
    let own := (List.range 4).map (fun g => if c.is R.FAB_GATE_UP g then some (c.get R.FAB_GATE_PEER g) else none)
    let t := kput c.fab.topo c.station own
    let root := distTo t c.station
    let gen := (c.get R.FAB_GEN_GEN + 1) % 65536
    let gen := if gen = 0 then 1 else gen
    let target := fun (st : Nat) => if st / 64 = 3 then aliasOf t (st % 64) else st
    let words := fun (s : Nat) => (List.range 256).map (fun st => routeWord t root s (target st))
    let mine := (words c.station).zipIdx.foldl (fun r e => cset r e.2 e.1) ([] : Counts)
    let flows := subs.foldl (fun (f : Keyed Flow) e =>
      let o := aliasOf t (e.1 / 256)
      let m := distTo t o
      let sts := (t.map (·.1)).filter (fun s => e.2.contains (s % 64))
      let at' := sts.filterMap (fun s => ((nearer t (distTo t s) c.station).head?).map (fun g => (g, s)))
      kput f e.1 ⟨at'.foldl (fun n p => setBit n p.1) 0, min 15 (cget m c.station), at'⟩) []
    let others := (t.map (·.1)).filter (· != c.station)
    let c : Ctl := { c with fab := { c.fab with
      topo := t, pendRoutes := mine, pendFlows := flows, acks := [], acked := true, rootGen := gen } }
    let c := c.each others (fun c s => c.each (List.range 20) (fun c k =>
      c.fabCtrl 3 4 s (gen :: (13 * k) :: ((words s).drop (13 * k)).take 13)))
    if others.isEmpty then c.sendSwitch gen else c.showConv

/-- GENERATION_SWITCH: the pending generation comes into force at its boundary (R280, R284). -/
def generationSwitch (c : Ctl) : Ctl :=
  let gen := c.get R.FAB_GEN_NEXT
  if gen = 0 || later (c.get R.FAB_GEN_WIN) c.winNo then c
  else
    let f := c.fab
    let c := c.each f.pendRoutes (fun c e => c.putWord (0x70400 + 4 * e.1) e.2)
    let c : Ctl := { c with fab := { f with flows := f.pendFlows, pendFlows := [], pendRoutes := [] } }
    let c := (((c.set R.FAB_GEN_GEN gen).set R.FAB_GEN_NEXT 0).raise Ev.FAB_GEN 0 gen).showConv
    let far := c.fab.subs.any (fun i => 8 < (kgetD c.fab.flows (c.get R.SRC_GSRC i) ⟨0, 0, []⟩).hops)
    if far then (c.set R.FAB_STATUS_HOP_SEEN 1).raise Ev.FAB_HOP else c

/-! ## Time (R288) -/

/-- TIME_CELL_SEND. -/
def timeCellSend (g : Fin 4) (c : Ctl) : Ctl :=
  if c.is R.FAB_GATE_UP g then c.localPut g 4 [c.time % 2 ^ 32, c.time / 2 ^ 32 % 2 ^ 32] else c

/-- TIME_CELL_RECEIVE: one exchange with its four stamps in ns. -/
def timeCellReceive (g : Fin 4) (t1 t2 t3 t4 : BitVec 64) (c : Ctl) : Ctl :=
  if !c.is R.FAB_GATE_UP g then c
  else
    let i := fun (t : BitVec 64) => (t.toNat : Int)
    let off := ((i t2 - i t1) - (i t4 - i t3)) / 2 - c.geti R.FAB_NBR_ASYM g
    let l := (off :: kgetD c.fab.offsets g.val []).take 16
    let big := decide (10 * c.get R.FAB_TIMING_TIME_TOL < off.natAbs)
    let n := if big then cget c.fab.overTol g.val + 1 else 0
    let c := { c with fab := { c.fab with offsets := kput c.fab.offsets g.val l, overTol := cset c.fab.overTol g.val n } }
    let c := c.set R.FAB_NBR_OFFSET (ux 32 (l.foldl (· + ·) 0 / ((l.length : Nat) : Int))) g
    if n = 16 then (c.set R.FAB_STATUS_TIME_SEEN 1).raise Ev.FAB_TIME g.val else c

/-! ## Commands (R286, R287, R289) -/

/-- The first window whose start lies at least two windows after now (R286). -/
def Ctl.joinWindow (c : Ctl) : Nat :=
  let d := c.winDur48
  let t := 48000 * c.time + 2 * d
  let e := 48000 * c.fab.rootEpoch
  if t ≤ e then 0 else (t - e + d - 1) / d

/-- FAB_CMD.JOIN (R286). -/
def fabJoin (c : Ctl) : Ctl :=
  if c.is R.WIN_STATUS_RUN || !c.fabConverged then c.fabState
  else
    let f := c.fab
    let c := (((c.set R.WIN_EPOCH_LO f.rootEpoch).set R.WIN_EPOCH_HI (f.rootEpoch / 2 ^ 32)).set R.WIN_CTRL_TICK f.rootTick).set
      R.WIN_TICK_LEN_ACTIVE f.rootTick
    let m := c.joinWindow
    c.beginWindows m ((m + 2 ^ 32 - f.tickOrigin) % 2 ^ 32 % (f.rootTick + 1))

/-- FAB_CMD.TICK (R287). -/
def fabTick (len : BitVec 4) (c : Ctl) : Ctl :=
  if !c.is R.FAB_STATUS_ROOT || !c.fabConverged then c.fabState
  else
    let origin := c.tickAt (winAdd c.winNo 16)
    (c.fabBroadcast 3 7 [len.toNat, origin]).fabTickLatch len.toNat origin

/-- A write of FAB_CFG (R289). A write whose gates do not fit the ledger changes nothing. -/
def Ctl.fabCfg (c : Ctl) (d : Nat) : Ctl :=
  let en := R.FAB_CFG_EN.of d
  let gates := R.FAB_CFG_GATE_EN.of d
  let was := c.get R.FAB_CFG_GATE_EN
  let other := c.changes [R.FAB_CFG_NODE_REQ, R.FAB_CFG_ANY, R.FAB_CFG_PRIO] 0 d
  if c.is R.FAB_CFG_EN && (other || (en = 0 && c.armed)) then c.fabState
  else
    let p := c.enableBlocks (bitsOf 4 (andNot 4 gates was)) (fun g c => c.blockSet (27 + g) true)
    if p.2 != 0 then p.1
    else
      let c := p.1.each (bitsOf 4 (andNot 4 was gates)) (fun c g =>
        (if c.is R.FAB_GATE_UP g then c.gateDown g else c).set R.FAB_CFG_GATE_EN (clrBit (c.get R.FAB_CFG_GATE_EN) g))
      let c := c.store [R.FAB_CFG_NODE_REQ, R.FAB_CFG_ANY, R.FAB_CFG_PRIO] 0 d
      let on := c.is R.FAB_CFG_EN
      if en = 1 && !on then ((c.set R.FAB_CFG_EN 1).set R.FAB_STATUS_STATE 1).ledgShow
      else if en = 0 && on then
        let c := c.each ((List.range 4).filter (c.is R.FAB_GATE_UP ·)) Ctl.gateDown
        let c : Ctl := { c with fab := { c.fab with nbrs := [], heard := [], acked := false } }
        let c := c.each [R.FAB_CFG_EN, R.FAB_STATUS_STATE, R.FAB_STATUS_ROOT, R.FAB_STATUS_NODE, R.FAB_STATUS_NODES, R.FAB_STATUS_DUP,
          R.FAB_STATUS_CFG_DIFF] (fun c r => c.set r 0)
        c.showConv.ledgShow
      else c.ledgShow

/-- FAB_CFG_WRITE. -/
def fabCfgWrite (d : BitVec 32) (c : Ctl) : Ctl := c.fabCfg d.toNat

/-- FAB_FLOW_INFO as a read returns it. -/
def Ctl.flowInfo (c : Ctl) : Nat :=
  let gs := c.get R.FAB_FLOW_SEL_GSRC
  let f := kgetD c.fab.flows gs ⟨0, 0, []⟩
  let subs := c.flowSubs gs
  let link := match subs with | [] => 0 | i :: _ => c.get R.SRC_LINK i
  f.outs + 16 * b2n (!subs.isEmpty) + 32 * b2n (kget? c.fab.exports gs).isSome +
    64 * b2n (gs / 256 == c.node && c.is R.SRC_EXPORT (gs % 256) && c.is R.SRC_EN (gs % 256)) + 128 * (f.hops % 16) + 4096 * link +
    65536 * cget c.fab.late gs

end Sys2Proof.Machine
end

