-- ==== Sys2Proof/Machine/Time.lean ====
section
/-! DEFINITION. The TIME counter, the PTP servo and the audio trim (spec/12 R300 to R306, R318, R320). -/
namespace Sys2Proof.Machine

/-- The limit of RATE and AUDIO_TRIM (R300, R306). -/
def rateMax : Int := 429496

/-- One TIME cycle adds 5 * (1 + RATE * 2^-32) ns (R300). -/
def Ctl.timeCycle (c : Ctl) : Ctl :=
  let t : Int := (c.time * 2 ^ 32 + c.clk.frac : Nat) + 5 * (2 ^ 32 + c.geti R.TIME_RATE)
  let safe := c.storm.safeSub + 2
  { c with time := ux 64 (t / 2 ^ 32), clk := { c.clk with frac := ux 32 t },
           storm := { c.storm with safeCount := c.storm.safeCount + safe / 25, safeSub := safe % 25 } }

/-- TIME with nanoseconds added at once. -/
def Ctl.timeAdd (c : Ctl) (ns : Int) : Ctl := { c with time := ux 64 (c.time + ns) }

/-- A TIME write's status (R318). -/
def Ctl.timeStatus (c : Ctl) (code : Nat) : Ctl := c.status R.TIME_STATUS_LAST R.TIME_STATUS_ERR_STATE Ev.TIME_STATE code

/-- The servo enters a state (R304). -/
def Ctl.setServo (c : Ctl) (s : Nat) : Ctl :=
  if c.get R.TIME_STATUS_SERVO = s then c
  else
    let c := (c.set R.TIME_STATUS_SERVO s).raise Ev.TIME_SERVO 0 s
    { c with clk := { c.clk with run := 0, big := 0, mayStep := s == 1 } }

/-- Whether a PTP port is in SLAVE, portState 9 of IEEE 1588. -/
def Ctl.ptpSlave (c : Ctl) : Bool := (List.range 4).any (fun p => c.get R.TIME_PTP_PORT_STATE p == 9)

/-- FREE and ACQUIRE follow SERVO_EN and the port states, and a keeper restart leaves the servo FREE (R443); the integrator starts at the RATE in force (R304, R305). -/
def Ctl.servoPorts (c : Ctl) : Ctl :=
  let slave := c.ptpSlave
  let c := c.set R.TIME_STATUS_SLAVE (b2n slave)
  if !slave || !c.is R.TIME_CTRL_SERVO_EN || c.keep.down then c.setServo 0
  else if c.get R.TIME_STATUS_SERVO = 0 then
    let c := { c with clk := { c.clk with integ := 256 * c.geti R.TIME_RATE } }
    c.setServo 1
  else c

/-- A PTP port shows a portState. -/
def Ctl.ptpState (c : Ctl) (p s : Nat) : Ctl :=
  if c.get R.TIME_PTP_PORT_STATE p = s then c else (c.set R.TIME_PTP_PORT_STATE s p).raise Ev.TIME_PORT p s

/-- logSyncInterval of a port: its override, or the profile's default (R303). -/
def Ctl.logSync (c : Ctl) (p : Nat) : Int :=
  if c.is R.TIME_PTP_PORT_OVERRIDE p then c.geti R.TIME_PTP_PORT_LOG_SYNC p
  else if c.get R.TIME_PTP_CFG_PROFILE = 0 then 0 else -3

/-- 429 times the sync interval in seconds, in whole units (R305). -/
def slewLimit (logSync : Int) : Int := if 0 ≤ logSync then 429 * 2 ^ logSync.toNat else 429 / 2 ^ (-logSync).toNat

/-- The rate law of R305 for an offset, with the change limited in LOCKED. -/
def Ctl.servoRate (c : Ctl) (o : Int) (p : Nat) : Ctl :=
  let i := clampI (-256 * rateMax) (256 * rateMax) (c.clk.integ + c.get R.TIME_SERVO_KI * o)
  let want := clampI (-rateMax) rateMax ((i + c.get R.TIME_SERVO_KP * o) / 256)
  let was := c.geti R.TIME_RATE
  let m := slewLimit (c.logSync p)
  let rate := if c.get R.TIME_STATUS_SERVO = 2 then clampI (was - m) (was + m) want else want
  let c := { c with clk := { c.clk with integ := i } }.set R.TIME_RATE (ux 32 rate)
  let hit := rate.natAbs == rateMax.natAbs
  let c := c.when hit (·.set R.TIME_STATUS_LIMIT_SEEN 1)
  c.when (hit && rate != was) (·.raise Ev.TIME_LIMIT)

/-- The state changes that an offset brings (R304). -/
def Ctl.servoState (c : Ctl) (small big : Bool) : Ctl :=
  let run := if small then c.clk.run + 1 else 0
  let n := if big then c.clk.big + 1 else 0
  let s := c.get R.TIME_STATUS_SERVO
  let c := { c with clk := { c.clk with run := run, big := n } }
  if (s = 1 || s = 3) && 16 ≤ run then c.setServo 2
  else if 4 ≤ n && (s = 2 || s = 3) && c.is R.TIME_CTRL_STEP_EN then c.setServo 1
  else if 4 ≤ n && s = 2 then c.setServo 3
  else c

/-- The servo takes an offset from the master, measured on port `p` (R304, R305). -/
def Ctl.servoUpdate (c : Ctl) (p : Nat) (o : Int) : Ctl :=
  let c := c.set R.TIME_OFFSET (ux 32 (clampI (-(2 ^ 31)) (2 ^ 31 - 1) o))
  let big := decide (1000 * c.get R.TIME_STEP_THRESH_THRESH < o.natAbs)
  let c := c.when big (·.raise Ev.TIME_OFFSET)
  if c.get R.TIME_STATUS_SERVO = 0 then c
  else if c.get R.TIME_STATUS_SERVO = 1 && big && c.clk.mayStep && c.is R.TIME_CTRL_STEP_EN then
    let c := { c with clk := { c.clk with mayStep := false, run := 0, big := 0 } }
    ((((c.timeAdd (-o)).inc R.TIME_STEPS).set R.TIME_STATUS_STEP_SEEN 1).raise Ev.TIME_STEP)
  else (c.servoRate o p).servoState (o.natAbs ≤ 1000) big

/-- The grandmaster changes or is lost (R320). -/
def Ctl.ptpMaster (c : Ctl) (gm : Nat) : Ctl :=
  if c.get R.TIME_GM_LO + 2 ^ 32 * c.get R.TIME_GM_HI = gm then c
  else (((c.set R.TIME_GM_LO gm).set R.TIME_GM_HI (gm / 2 ^ 32)).set R.TIME_STATUS_MASTER_SEEN 1).raise Ev.TIME_MASTER

/-- What a received PTP message leads to on an enabled PTP port (R303 to R305). -/
def Ctl.ptpTake (c : Ctl) (p : Nat) (o : PtpOut) : Ctl :=
  if !c.is R.TIME_PTP_PORT_EN p then c
  else
    let c := (((c.ptpState p o.state).ptpMaster o.gm).set R.TIME_PATH o.path).servoPorts
    match o.offset with
    | some x => if o.state = 9 then c.servoUpdate p x else c
    | none => c

/-- PTP_ANNOUNCE_TIMEOUT: the announce receipt timeout expires on port `p`, and the best master clock algorithm puts it in
`state` (R303). A port that was SLAVE has lost its grandmaster. -/
def ptpAnnounceTimeout (p : Fin 4) (state : Fin 10) (c : Ctl) : Ctl :=
  if !c.is R.TIME_PTP_PORT_EN p then c
  else
    let was := c.get R.TIME_PTP_PORT_STATE p
    let c := c.ptpState p state
    (c.when (was == 9) (fun c => (c.set R.TIME_STATUS_MASTER_SEEN 1).raise Ev.TIME_MASTER)).servoPorts

/-- The audio PLL's trim at a window boundary (R306). -/
def Ctl.audioTrim (c : Ctl) : Ctl :=
  let w := (-(c.geti R.WIN_PHASE_ERR_ERR) * 4295).tdiv 1000
  let want := clampI (-rateMax) rateMax (c.geti R.TIME_RATE + w)
  let was := c.geti R.TIME_AUDIO_TRIM
  let aligned := c.is R.WIN_STATUS_ALIGNED
  if aligned && c.get R.TIME_STATUS_SERVO = 2 then
    let room := c.clk.slew + 429 * c.winS
    let now := clampI (was - (room / 48000 : Nat)) (was + (room / 48000 : Nat)) want
    let c : Ctl := { c with clk := { c.clk with slew := room % 48000, noSlew := false } }
    c.set R.TIME_AUDIO_TRIM (ux 32 now)
  else
    let enter := !aligned && !c.clk.noSlew
    let c : Ctl := { c with clk := { c.clk with slew := 0, noSlew := !aligned } }
    (c.set R.TIME_AUDIO_TRIM (ux 32 want)).when enter (·.raise Ev.TIME_ALIGN)

/-- TIME_ADJ_WRITE: a write of TIME_ADJ adds signed nanoseconds to the counter (R318). -/
def timeAdjWrite (d : Nat) (c : Ctl) : Ctl :=
  if c.is R.TIME_CTRL_SERVO_EN || c.is R.WIN_STATUS_RUN then c.timeStatus 1 else (c.timeAdd (sx 32 d)).timeStatus 0

/-- TIME_NOW_READ: a read of TIME_NOW_LO latches TIME_NOW_HI (R300). -/
def timeNowRead (c : Ctl) : Ctl := (c.set R.TIME_NOW_HI (c.time / 2 ^ 32)).emit (.readData (c.time % 2 ^ 32))

/-- The permitted logSyncInterval and logAnnounceInterval of a profile (R303). -/
def ptpRange (profile : Nat) (sync ann : Int) : Bool :=
  if profile = 0 then -1 ≤ sync && sync ≤ 1 && 0 ≤ ann && ann ≤ 4
  else if profile = 1 then -4 ≤ sync && sync ≤ 1 && 0 ≤ ann && ann ≤ 4
  else -7 ≤ sync && sync ≤ -1 && -3 ≤ ann && ann ≤ 1

/-- A write of TIME_PTP_PORT (R318). -/
def Ctl.ptpPortWrite (c : Ctl) (p d : Nat) : Ctl :=
  let en := R.TIME_PTP_PORT_EN.of d
  let ranged := R.TIME_PTP_PORT_OVERRIDE.of d = 0 ||
    ptpRange (c.get R.TIME_PTP_CFG_PROFILE) (sx 4 (R.TIME_PTP_PORT_LOG_SYNC.of d)) (sx 4 (R.TIME_PTP_PORT_LOG_ANN.of d))
  if !ranged then c.timeStatus 2
  else if en = 1 && !c.is R.NET_CFG_EN p then c.timeStatus 1
  else
    let was := c.is R.TIME_PTP_PORT_EN p
    let c := c.store (wordFields R.fieldsTIME 0x50050) p d
    let c := if en = 0 then c.ptpState p 0 else if was then c else c.ptpState p 1
    c.servoPorts.timeStatus 0

/-- A write to the TIME block at offset `off` (R318). -/
def Ctl.timeWrite (c : Ctl) (off d : Nat) : Ctl :=
  let fields := wordFields R.fieldsTIME (0x50000 + off)
  if off = 0x24 then timeAdjWrite d c
  else if 0x50 ≤ off && off < 0x60 then c.ptpPortWrite ((off - 0x50) / 4) d
  else if off = 4 then c.store fields 0 d
  else if !inRange fields d then c.timeStatus 2
  else if off = 0x10 && c.is R.TIME_CTRL_SERVO_EN then c.timeStatus 1
  else if off = 0x40 && c.changes [R.TIME_PTP_CFG_PROFILE, R.TIME_PTP_CFG_DOMAIN] 0 d &&
      (List.range 4).any (c.is R.TIME_PTP_PORT_EN ·) then c.timeStatus 1
  else (c.store fields 0 d).servoPorts.timeStatus 0

end Sys2Proof.Machine
end

