-- ==== Sys2Proof/Machine/Net.lean ====
section
/-! DEFINITION. Network ports: registers, statistics, receive checks, transmit order, launch reports, PAUSE and preemption
(spec/12 R291 to R308, R317), and the AES67 streams (R309 to R316). -/
namespace Sys2Proof.Machine

/-! ## Words of the register file -/

/-- Whether every RW field of the word at an address is given a value in its range. -/
def rangeAt (a d : Nat) : Bool := (fieldsAt a).all (fun e => e.1.acc != .rw || rangeOk e.1 (e.1.of d))

/-- Writes the word at an address by the access types of its fields (R5). -/
def Ctl.storeAt (c : Ctl) (a d : Nat) : Ctl :=
  c.each (fieldsAt a) (fun c e =>
    match e.1.acc with
    | .rw => c.set e.1 (storeVal e.1 (e.1.of d)) e.2
    | .w1c => c.set e.1 (andNot e.1.width (c.get e.1 e.2) (e.1.of d)) e.2
    | _ => c)

/-- Whether a word changes an RW field at an address. -/
def Ctl.changesAt (c : Ctl) (a d : Nat) : Bool :=
  (fieldsAt a).any (fun e => e.1.acc == .rw && storeVal e.1 (e.1.of d) != c.get e.1 e.2)

/-! ## Ports -/

/-- A port's queues. -/
def Ctl.port (c : Ctl) (p : Nat) : PortSt := kgetD c.net.ports p {}

/-- Puts a port's queues. -/
def Ctl.setPort (c : Ctl) (p : Nat) (s : PortSt) : Ctl := { c with net := { c.net with ports := kput c.net.ports p s } }

/-- A NET event of a port. -/
def Ctl.netEvent (c : Ctl) (ev p : Nat) (detail : Nat := 0) : Ctl := c.raise (ev + 8 * p) 0 detail

/-- A NET write's status (R317). -/
def Ctl.netStatus (c : Ctl) (p code : Nat) : Ctl :=
  c.status R.NET_STATUS_LAST R.NET_STATUS_ERR_STATE (Ev.NET_STATE + 8 * p) code p

/-- Adds to a statistics counter; a half-range crossing sets its HALF bit (R299). -/
def Ctl.netStat (c : Ctl) (p i : Nat) (n : Nat := 1) : Ctl :=
  let k := 24 * p + i
  let was := c.get R.NET_STAT k
  let c := c.inc R.NET_STAT k n
  if bit was 31 || !bit (c.get R.NET_STAT k) 31 then c
  else (c.set R.NET_STAT_HALF (setBit (c.get R.NET_STAT_HALF p) i) p).netEvent Ev.NET_STATS p i

/-- A receive error is counted (R294). -/
def Ctl.rxError (c : Ctl) (p i : Nat) : Ctl :=
  let c := (c.netStat p i).set R.NET_STATUS_RX_ERR_SEEN 1 p
  if (c.port p).rxOnce then c else (c.setPort p { c.port p with rxOnce := true }).netEvent Ev.NET_RXERR p i

/-- Sets the launch-report queue with its DEPTH and watermark bits (R308, R379). -/
def Ctl.setReports (c : Ctl) (p : Nat) (q : List (List Nat)) : Ctl :=
  let x := crossed (c.port p).reports.length q.length (c.get R.NET_LAUNCH_HIGH p) (c.get R.NET_LAUNCH_LOW p)
  let c := (c.setPort p { c.port p with reports := q }).set R.NET_LREP_STAT_DEPTH q.length p
  let c := (c.when x.1 (·.set R.NET_LREP_STAT_HI_SEEN 1 p)).when x.2 (·.set R.NET_LREP_STAT_LO_SEEN 1 p)
  c.when (x.1 || x.2) (·.netEvent Ev.NET_LAUNCH p)

/-- Pushes a launch report (R308): status 0 SENT, 1 LATE_DROP, 2 FLUSHED. -/
def Ctl.pushReport (c : Ctl) (p tag status : Nat) (stream : Option Nat) (t : Nat) : Ctl :=
  let w0 := tag % 65536 + 2 ^ 16 * status + match stream with | none => 0 | some i => 2 ^ 20 + 2 ^ 21 * (i % 64)
  let r := [w0, 0, t % 2 ^ 32, t / 2 ^ 32 % 2 ^ 32]
  let q := (c.port p).reports
  if q.length < 64 then c.setReports p (q ++ [r])
  else ((c.setReports p (q.tail ++ [r])).inc R.NET_LREP_STAT_LOST p |>.set R.NET_STATUS_LREP_LOST_SEEN 1 p).netEvent Ev.NET_LAUNCH p

/-- NET_LREP_POP. -/
def netLrepPop (p : Fin 4) (c : Ctl) : Ctl :=
  match (c.port p).reports with
  | [] => c
  | _ :: q => c.setReports p q

/-- A frame is dropped as LATE_DROP (R307). -/
def Ctl.lateDrop (c : Ctl) (p : Nat) : Ctl :=
  ((c.netStat p 19).set R.NET_STATUS_LATE_SEEN 1 p).netEvent Ev.NET_LAUNCH p

/-- NET_STAT_CLR (R299). -/
def netStatClr (p : Fin 4) (c : Ctl) : Ctl := (c.each (List.range 24) (fun c i => c.set R.NET_STAT 0 (24 * p + i))).set R.NET_STAT_HALF 0 p

/-- PREEMPT changes (R297). -/
def Ctl.setPreempt (c : Ctl) (p v : Nat) : Ctl :=
  if c.get R.NET_STATUS_PREEMPT p = v then c else (c.set R.NET_STATUS_PREEMPT v p).netEvent Ev.NET_PREEMPT p v

/-- NET_VERIFY (R297, R317). -/
def netVerify (p : Fin 4) (c : Ctl) : Ctl :=
  if !c.is R.NET_CFG_PREEMPT_EN p || !c.is R.NET_STATUS_LINK_UP p then c.netStatus p 1
  else ((c.setPort p { c.port p with tries := 0 }).setPreempt p 1).netStatus p 0

/-- PREEMPT_VERIFY_ATTEMPT: an attempt completes, or times out (R297). -/
def preemptVerifyAttempt (p : Fin 4) (ok : Bool) (c : Ctl) : Ctl :=
  if c.get R.NET_STATUS_PREEMPT p != 1 then c
  else if ok then c.setPreempt p 2
  else if (c.port p).tries < 2 then c.setPort p { c.port p with tries := (c.port p).tries + 1 }
  else c.setPreempt p 3

/-- Length of a pause quantum in tenths of a nanosecond, by rate code (R298). -/
def quantum10 (rate : Nat) : Nat := [512, 2048, 5120, 5120, 51200].getD rate 512

/-- The pause ends. -/
def Ctl.pauseEnd (c : Ctl) (p : Nat) : Ctl :=
  (c.setPort p { c.port p with pauseEnd := 0 }).set R.NET_STATUS_PAUSED 0 p |>.set R.NET_PAUSE_QUANTA 0 p

/-- PAUSE_EXPIRY. -/
def pauseExpiry (p : Fin 4) (c : Ctl) : Ctl := if c.is R.NET_STATUS_PAUSED p then c.pauseEnd p else c

/-- NET_PAUSE.QUANTA as a read returns it: the time left, in whole quanta. -/
def Ctl.pauseLeft (c : Ctl) (p : Nat) : Nat :=
  let q := quantum10 (c.get R.NET_STATUS_RATE_UP p)
  min 65535 (((c.port p).pauseEnd - 10 * c.time + q - 1) / q)

/-- A valid PAUSE frame with its quanta (R298). -/
def Ctl.pauseTake (c : Ctl) (p quanta : Nat) : Ctl :=
  if !c.is R.NET_CFG_PAUSE_EN p then c
  else if quanta = 0 then c.pauseEnd p
  else
    let begins := !c.is R.NET_STATUS_PAUSED p
    let stop := 10 * c.time + quanta * quantum10 (c.get R.NET_STATUS_RATE_UP p)
    let c := ((c.setPort p { c.port p with pauseEnd := stop }).set R.NET_STATUS_PAUSED 1 p).set R.NET_PAUSE_QUANTA quanta p
    if begins then ((c.set R.NET_STATUS_PAUSE_SEEN 1 p).netStat p 21).netEvent Ev.NET_PAUSE p else c

/-! ## Host rings (R295) -/

/-- BAR2 offset of descriptor `i` of ring `k` of a port: `k` is 0 receive, 1 transmit. -/
def Ctl.descAt (c : Ctl) (p k i : Nat) : Nat := c.get R.NET_RING_BASE_LO (2 * p + k) + 2 ^ 32 * c.get R.NET_RING_BASE_HI (2 * p + k) + 32 * i

/-- HEAD moves on. -/
def Ctl.headNext (c : Ctl) (p k : Nat) : Ctl :=
  c.set R.NET_RING_HEAD ((c.get R.NET_RING_HEAD (2 * p + k) + 1) % 2 ^ c.get R.NET_RING_SIZE (2 * p + k)) (2 * p + k)

/-- The descriptors from HEAD up to TAIL. -/
def Ctl.ringCount (c : Ctl) (p k : Nat) : Nat :=
  let n := 2 ^ c.get R.NET_RING_SIZE (2 * p + k)
  (c.get R.NET_RING_TAIL (2 * p + k) + n - c.get R.NET_RING_HEAD (2 * p + k)) % n

/-- Whether the network DMA may access a DRAM range: the controller runs, and the range is usable. -/
def Ctl.dmaOk (c : Ctl) (a n : Nat) : Bool := !c.dramDown && a + n ≤ c.usable

/-- A network DMA access that ends with an error: beyond the usable size it is a DECERR of M6 (R374). -/
def Ctl.dmaFail (c : Ctl) (a n : Nat) (write : Bool) : Ctl :=
  if c.usable < a + n then c.mtxFault 2 (.agent 0) a write 6 else c

/-- A network DMA access to DRAM, in class D. -/
def Ctl.dmaTouch (c : Ctl) (write : Bool) (a n : Nat) : Ctl × Bool := c.dramTouch 4 6 3 write a n

/-- The host descriptor at HEAD of the transmit ring. -/
def Mach.hostHead (x : Mach) (p : Nat) : Nat := x.c.descAt p 1 (x.c.get R.NET_RING_HEAD (2 * p + 1))

/-- Ends the transmit descriptor at HEAD: DONE, the status code, and the time where it changes (R295). -/
def Mach.descDone (x : Mach) (p status : Nat) (time : Option Nat) : Mach :=
  let a := x.hostHead p
  let w := setBit (x.m.dram.rdN (a + 8) 4) 16
  let w := w % 2 ^ 20 + status * 2 ^ 20 + w / 2 ^ 24 * 2 ^ 24
  let d := x.m.dram.wrN (a + 8) 4 w
  let d := match time with | none => d | some t => d.wrN (a + 16) 8 t
  { c := x.c.headNext p 1, m := { x.m with dram := d } }

/-- Flushes the transmit queues of a port (R293). -/
def Mach.flushRing (p : Nat) : Nat → Mach → Mach
  | 0, x => x
  | n + 1, x =>
    let a := x.hostHead p
    let timed := bit (x.m.dram.rdN (a + 8) 4) 17
    let q := x.c.dmaTouch false a 32
    let x' := x.descDone p 7 none
    let x' := if timed then { x' with c := x'.c.pushReport p (x.m.dram.rdN (a + 6) 2) 2 none (x.m.dram.rdN (a + 16) 8) } else x'
    if q.2 then Mach.flushRing p n x' else { x with c := q.1 }

/-- The link of a port goes down (R293, R297). -/
def Mach.portDown (x : Mach) (p : Nat) : Mach :=
  let x := if x.c.dmaOk (x.c.descAt p 1 0) (32 * 2 ^ x.c.get R.NET_RING_SIZE (2 * p + 1)) then Mach.flushRing p (x.c.ringCount p 1) x else x
  let c := x.c
  let n := (c.port p).pkts.length
  let c := c.when (n != 0) (·.netStat p 20 n)
  let c := c.setPort p { c.port p with pkts := [], ptp := [] }
  let c := ((c.pauseEnd p).set R.NET_STATUS_LINK_UP 0 p).setPreempt p 0
  { x with c := (c.set R.NET_STATUS_LINK_SEEN 1 p).netEvent Ev.NET_LINK p 0 }

/-- The link of a port comes up at a rate (R297). -/
def Ctl.portUp (c : Ctl) (p rate : Nat) : Ctl :=
  let c := (((c.set R.NET_STATUS_LINK_UP 1 p).set R.NET_STATUS_RATE_UP rate p).set R.NET_STATUS_LINK_SEEN 1 p).netEvent Ev.NET_LINK p 1
  if !c.is R.NET_CFG_PREEMPT_EN p then c
  else (c.setPort p { c.port p with tries := 0 }).setPreempt p (if c.is R.NET_CFG_VERIFY_DIS p then 2 else 1)

/-- NET_LINK_CHANGE (R293). A pluggable of P0 or P1 that is held powered down never comes UP (R465); P2 and P3 have no cage. -/
def netLinkChange (l : Plug) (up : Bool) (x : Mach) : Mach :=
  let p := l.port
  if p.val < 2 && plugHeld 1000 l.draws then
    if x.c.net.held.contains p.val then x
    else
      let x := { x with c := x.c.cageHold p true }
      if x.c.is R.NET_STATUS_LINK_UP p then x.portDown p else { x with c := x.c.netEvent Ev.NET_LINK p 0 }
  else
  let x := { x with c := x.c.cageHold p false }
  if up then
    if x.c.is R.NET_CFG_EN p && !x.c.is R.NET_STATUS_LINK_UP p then { x with c := x.c.portUp p (x.c.get R.NET_CFG_RATE p) } else x
  else if x.c.is R.NET_STATUS_LINK_UP p then x.portDown p else x

/-- Whether a port supports a rate code (R291). -/
def rateOk (p rate : Nat) : Bool := if p < 2 then rate ≤ 2 else rate == 3 || rate == 4

/-- The fields of NET_CFG that may not change while EN = 1 (R292). -/
def netLocked : List Reg := [R.NET_CFG_RATE, R.NET_CFG_AN_EN, R.NET_CFG_PREEMPT_EN, R.NET_CFG_ADD_FRAG, R.NET_CFG_MAXLEN]

/-- The fields of NET_CFG. -/
def netCfgFields : List Reg := wordFields R.fieldsNET 0x60000

/-- NET_CFG_WRITE (R292, R317): RANGE, then STATE, then the ledger. -/
def netCfgWrite (p : Fin 4) (d : Nat) (x : Mach) : Mach :=
  let c := x.c
  let en := R.NET_CFG_EN.of d = 1
  let was := c.is R.NET_CFG_EN p
  if !inRange netCfgFields d || !rateOk p (R.NET_CFG_RATE.of d) || (2 ≤ p.val && R.NET_CFG_PREEMPT_EN.of d = 1) then
    { x with c := c.netStatus p 2 }
  else if was && c.changes netLocked p d then { x with c := c.netStatus p 1 }
  else if en && !was then
    let q := c.enableBlock (·.store netCfgFields p d)
    { x with c := q.1.netStatus p q.2 }
  else
    let x := { x with c := c.store netCfgFields p d }
    let x := if !en && x.c.is R.NET_STATUS_LINK_UP p then x.portDown p else x
    { x with c := x.c.ledgShow.netStatus p 0 }

/-! ## Media counts (R311) -/

/-- Samples per second of the module. -/
def Ctl.fs (c : Ctl) : Nat := if c.rate96 then 96000 else 48000

/-- The media count at a time: the last sample instant at or before it. -/
def Ctl.mediaAt (c : Ctl) (t : Nat) : Nat := ((t + 1) * c.fs - 1) / 10 ^ 9

/-- The media count now. -/
def Ctl.mediaNow (c : Ctl) : Nat := c.mediaAt c.time

/-- Samples per packet of a packet-time code (R309). -/
def Ctl.perPacket (c : Ctl) (ptime : Nat) : Nat := [6, 12, 48].getD ptime 48 * (if c.rate96 then 2 else 1)

/-- The minimum link offset of a packet-time code (R27, R310). -/
def Ctl.minOffset (c : Ctl) (ptime : Nat) : Nat := [14, 20, 56].getD ptime 56 * (if c.rate96 then 2 else 1)

/-- Octets of a sample. -/
def sampleBytes (l24 : Nat) : Nat := if l24 = 1 then 3 else 2

/-! ## Receive streams (R310 to R314) -/

/-- A receive stream's state. -/
def Ctl.rx (c : Ctl) (n : Nat) : RxSt := kgetD c.net.rx n {}

/-- Puts a receive stream's state. -/
def Ctl.setRx (c : Ctl) (n : Nat) (s : RxSt) : Ctl := { c with net := { c.net with rx := kput c.net.rx n s } }

/-- A receive stream changes state (R312). -/
def Ctl.rxState (c : Ctl) (n v : Nat) : Ctl :=
  if c.get R.NET_RXS_STAT_STATE n = v then c
  else (c.set R.NET_RXS_STAT_STATE v n).netEvent Ev.NET_STREAM (c.get R.NET_RXS_PORT n) n

/-- Whether an IPv4 address is multicast. -/
def isMcast (ip : Nat) : Bool := ip / 2 ^ 28 % 16 == 14

/-- Membership reports of a port's enabled receive streams (R309). -/
def Ctl.igmpReports (c : Ctl) (p : Nat) (l : List Nat) : Ctl :=
  c.each (l.filter (fun n => c.is R.NET_RXS_EN n && c.get R.NET_RXS_PORT n == p && isMcast (c.get R.NET_RXS_DST_IP n)))
    (fun c n => c.emit (.netFrame p 7 [c.get R.NET_RXS_DST_IP n]))

/-- The word of NET_RXS word 0 with the fields of a stream, `EN = 1`, checked by R310: 0 or the code of its refusal. -/
def Ctl.rxCheck (c : Ctl) (n d : Nat) : Nat :=
  let chans := R.NET_RXS_CHANS.of d
  let pool := R.NET_RXS_POOL.of d
  let s := c.perPacket (R.NET_RXS_PTIME.of d)
  let port := R.NET_RXS_PORT.of d
  let l := c.get R.NET_RXS_LINK_OFFSET n
  let others := (List.range 64).filter (fun m => m != n && c.is R.NET_RXS_EN m)
  if 256 < pool + chans || 3 ≤ R.NET_RXS_PTIME.of d || 1440 < chans * s * sampleBytes (R.NET_RXS_L24.of d) ||
      l < c.minOffset (R.NET_RXS_PTIME.of d) || 8192 - s < l then 2
  else if !c.is R.NET_CFG_EN port then 1
  else if others.any (fun m =>
      let p2 := c.get R.NET_RXS_POOL m
      p2 < pool + chans && pool < p2 + c.get R.NET_RXS_CHANS m) then 1
  else if others.any (fun m => c.get R.NET_RXS_PORT m == port && c.get R.NET_RXS_DST_IP m == c.get R.NET_RXS_DST_IP n &&
      c.get R.NET_RXS_UDP_PORT m == c.get R.NET_RXS_UDP_PORT n && R.NET_RXS_SSRC_FILT.of d == 0 && !c.is R.NET_RXS_SSRC_FILT m)
    then 1
  else 0

/-- Address of NET_RXS[n]. -/
def rxsAt (n : Nat) : Nat := 0x61400 + 32 * n

/-- RX_STREAM_ENABLE: a write of word 0 of NET_RXS[n] (R310, R314). Whatever PTIME is written, LINK_OFFSET keeps its value: the
defaults 36 and 96 of R27 are left to software, since the register has one reset value (DESIGN CHOICE, log entry 138). -/
def rxStreamEnable (n : Fin 64) (d : Nat) (c : Ctl) : Ctl :=
  let a := rxsAt n
  let was := c.is R.NET_RXS_EN n
  let en := R.NET_RXS_EN.of d = 1
  let port := if was then c.get R.NET_RXS_PORT n else R.NET_RXS_PORT.of d
  if !rangeAt a d then c.netStatus port 2
  else if was && c.changesAt a (if en then d else d + 1) then c.netStatus port 1
  else if en && !was then
    let k := c.rxCheck n d
    if k != 0 then c.netStatus port k
    else
      let c := (c.storeAt a d).setRx n { since := c.time }
      (((c.set R.NET_RXS_STAT_REBASE 0 n).rxState n 1).igmpReports port [n.val]).netStatus port 0
  else if was && !en then
    let c := ((c.rxState n 0).storeAt a d).set R.NET_RXS_STAT_REBASE 0 n
    { c with net := { c.net with rx := kdel c.net.rx n } }.netStatus port 0
  else (c.storeAt a d).netStatus port 0

/-- A write to another word of a NET_RXS entry (R310). -/
def Ctl.rxsWrite (c : Ctl) (n w d : Nat) : Ctl :=
  let port := c.get R.NET_RXS_PORT n
  if c.is R.NET_RXS_EN n && c.changesAt (rxsAt n + 4 * w) d then c.netStatus port 1
  else (c.storeAt (rxsAt n + 4 * w) d).netStatus port 0

/-- A packet's samples by instant, one list of channel samples each: big-endian L16 or L24 as Q1.31. -/
def packetSamples (bytes chans : Nat) : Nat → List Byte → List (List Int)
  | 0, _ => []
  | k + 1, l =>
    let one := fun (ch : Nat) => sx 32 (((l.drop (ch * bytes)).take bytes).foldl (fun n b => 256 * n + b.toNat) 0 * 2 ^ (32 - 8 * bytes))
    (List.range chans).map one :: packetSamples bytes chans k (l.drop (chans * bytes))

/-- Places samples from a media count on (R311). -/
def placeAll : Keyed (List Int) → Nat → List (List Int) → Keyed (List Int)
  | b, _, [] => b
  | b, m, x :: xs => placeAll (kput b m x) (m + 1) xs

/-- A packet restarts the stream (R314). -/
def Ctl.rxRestart (c : Ctl) (n ts s : Nat) (samples : List (List Int)) : Ctl :=
  let q := c.rx n
  let m := c.mediaNow - s
  let delta := (ts + 2 ^ 33 - c.get R.NET_RXS_RTP_OFFSET n - m % 2 ^ 32) % 2 ^ 32
  let q := { q with buf := placeAll [] m samples, delta := delta, jumps := 0, zeroTo := m, gap := 0, phase := m,
                    fade := some (0, c.winSamples) }
  (((c.setRx n q).inc R.NET_RXS_STAT_FLUSHES n).set R.NET_RXS_STAT_REBASE delta n).rxState n 2

/-- An RTP packet that matches stream `n` and is well formed (R311, R314). -/
def Ctl.rxPacket (c : Ctl) (n ts : Nat) (samples : List (List Int)) : Ctl :=
  let s := samples.length
  let l := c.get R.NET_RXS_LINK_OFFSET n
  let q := c.rx n
  let now := c.mediaNow
  let t := (ts + 2 ^ 33 - c.get R.NET_RXS_RTP_OFFSET n - q.delta) % 2 ^ 32
  let m := (now : Int) + sx 32 (t + 2 ^ 32 - now % 2 ^ 32)
  let p := (now : Int) - l
  if (m + l) * 10 ^ 9 < c.fs * c.time + 4 * 10 ^ 9 || m < p || m < 0 then (c.inc R.NET_RXS_STAT_LATE n).setRx n { q with jumps := 0 }
  else if p + 8192 ≤ m + s - 1 then
    if c.get R.NET_RXS_STAT_STATE n != 2 || q.jumps = 3 then c.rxRestart n ts s samples
    else (c.inc R.NET_RXS_STAT_JUMP n).setRx n { q with jumps := q.jumps + 1 }
  else if (List.range s).any (fun k => (kget? q.buf (m.toNat + k)).isSome) then
    (c.inc R.NET_RXS_STAT_DUP n).setRx n { q with jumps := 0 }
  else (c.setRx n { q with buf := placeAll q.buf m.toNat samples, jumps := 0, phase := m.toNat }).rxState n 2

/-- What one sample instant stages: the slot of media count `m` (R312 to R314). -/
def rxSample (run : Bool) (chans s m : Nat) (q : RxSt) : List Int × RxSt × Bool :=
  match kget? q.buf m with
  | some x =>
    let q := { q with buf := kdel q.buf m }
    let q := if q.gap != 0 then { q with gap := 0, fade := some (0, 16) } else q
    let y := match q.fade with
      | some (k, len) => x.map (fun v => v * (k + 1) / (len : Int))
      | none => x
    let fade := match q.fade with
      | some (k, len) => if k + 1 < len then some (k + 1, len) else none
      | none => none
    (y, { q with last := y, fade := fade }, false)
  | none =>
    if !run || m < q.zeroTo then (List.replicate chans 0, { q with last := [], gap := if run then q.gap else max 16 q.gap }, false)
    else
      let j := q.gap
      let y := if j < 16 then ((q.last ++ List.replicate chans 0).take chans).map (fun v => v * (15 - j) / 16) else List.replicate chans 0
      (y, { q with gap := j + 1 }, (m + s * 2 ^ 64 - q.phase) % s == 0)

/-- The time at which a play slot or acquire slot, counted from window 0, begins (R19). -/
def Ctl.slotTime (c : Ctl) (k : Nat) : Nat := c.get R.WIN_EPOCH_LO + 2 ^ 32 * c.get R.WIN_EPOCH_HI + k * 10 ^ 9 / c.fs

/-- An enabled stream stages slot `k` of the acquire window (R313). -/
def Ctl.rxSlot (k : Nat) (c : Ctl) (n : Nat) : Ctl :=
  let m := c.mediaAt (c.slotTime (c.win.ext * c.winSamples + k)) - c.get R.NET_RXS_LINK_OFFSET n
  let r := rxSample (c.get R.NET_RXS_STAT_STATE n == 2) (c.get R.NET_RXS_CHANS n) (c.perPacket (c.get R.NET_RXS_PTIME n)) m (c.rx n)
  (c.setRx n { r.2.1 with cur := r.2.1.cur ++ [r.1] }).when r.2.2 (·.inc R.NET_RXS_STAT_MISSING n)

/-- Every enabled stream stages a slot. -/
def Ctl.rxSlots (c : Ctl) (k : Nat) : Ctl := c.each ((List.range 64).filter (c.is R.NET_RXS_EN ·)) (Ctl.rxSlot k)

/-- A block by channel from samples by slot. -/
def byChannel (chans s : Nat) (l : List (List Int)) : List (List Int) :=
  (List.range chans).map (fun k => ((l.map (fun (x : List Int) => x.getD k 0)) ++ List.replicate s 0).take s)

/-- At a boundary a stream's block is complete; the next block carries the LINK of its state now (R312). -/
def Ctl.rxBoundary (c : Ctl) : Ctl :=
  c.each ((List.range 64).filter (c.is R.NET_RXS_EN ·)) (fun c n =>
    let q := c.rx n
    c.setRx n { q with
      block := byChannel (c.get R.NET_RXS_CHANS n) c.winSamples q.cur
      cur := []
      blockLink := q.link
      link := [0, 2, 1, 3].getD (c.get R.NET_RXS_STAT_STATE n) 0 })

/-- The enabled stream that holds a pool channel. -/
def Ctl.poolStream (c : Ctl) (ch : Nat) : Option Nat :=
  (List.range 64).find? (fun n =>
    c.is R.NET_RXS_EN n && c.get R.NET_RXS_POOL n ≤ ch && ch < c.get R.NET_RXS_POOL n + c.get R.NET_RXS_CHANS n)

/-- The block that a pool channel staged in the last window, and its LINK. -/
def Ctl.streamBlock (c : Ctl) (ch : Nat) : List Int × Nat :=
  match c.poolStream ch with
  | none => (List.replicate c.winSamples 0, 0)
  | some n =>
    let q := c.rx n
    (q.block.getD (ch - c.get R.NET_RXS_POOL n) (List.replicate c.winSamples 0), q.blockLink)

/-- STREAM_STALL: STALL_TIME has passed with no packet placed (R312). -/
def streamStall (n : Fin 64) (c : Ctl) : Ctl :=
  let st := c.get R.NET_RXS_STAT_STATE n
  let q := c.rx n
  if st = 1 || (st = 2 && q.gap != 0) then
    let c := (c.rxState n 3).setRx n { q with link := 3 }
    let lo := c.get R.NET_RXS_POOL n
    c.each ((List.range 256).filter (fun i => c.is R.SRC_EN i && c.get R.SRC_PORT i == 9 && lo ≤ c.get R.SRC_CHAN i &&
      c.get R.SRC_CHAN i < lo + c.get R.NET_RXS_CHANS n)) Ctl.stallTake
  else c

/-! ## Frames received (R294) -/

/-- A big-endian number of octets `a` to `a + n - 1`. -/
def be (f : List Byte) (a n : Nat) : Nat := ((f.drop a).take n).foldl (fun v b => 256 * v + b.toNat) 0

/-- Whether a frame carries a VLAN tag. -/
def tagged (f : List Byte) : Bool := be f 12 2 == 0x8100

/-- Offset of the EtherType. -/
def etAt (f : List Byte) : Nat := if tagged f then 16 else 12

/-- Whether a frame is IPv4 with a protocol. -/
def isIp (f : List Byte) (proto : Nat) : Bool := be f (etAt f) 2 == 0x0800 && be f (etAt f + 11) 1 == proto

/-- Offset of the payload of the IPv4 packet. -/
def ipBody (f : List Byte) : Nat := etAt f + 2 + 4 * (be f (etAt f + 2) 1 % 16)

/-- Adds the carries of a ones' complement sum. -/
def onesFold (n : Nat) : Nat := let k := n % 65536 + n / 65536; k % 65536 + k / 65536

/-- Whether the IPv4 header checksum is good. -/
def ipSumOk (f : List Byte) : Bool :=
  let h := etAt f + 2
  onesFold ((List.range (2 * (be f h 1 % 16))).foldl (fun n k => n + be f (h + 2 * k) 2) 0) == 0xFFFF

/-- The MAC address of an IPv4 multicast group. -/
def groupMac (ip : Nat) : Nat := 0x01005E000000 + ip % 2 ^ 23

/-- The PTP multicast addresses, and those of its UDP/IPv4 groups. -/
def ptpMacs : List Nat := [0x011B19000000, 0x0180C200000E, 0x01005E000181, 0x01005E00006B]

/-- Whether step 7 of R294 accepts a destination. -/
def Ctl.destOk (c : Ctl) (p da : Nat) : Bool :=
  da == c.get R.NET_MAC_LO p + 2 ^ 32 * c.get R.NET_MAC_HI p || da == 2 ^ 48 - 1 || c.is R.NET_CFG_PROMISC p || ptpMacs.contains da ||
  (List.range 16).any (fun i => c.is R.NET_MCAST_VALID (16 * p + i) &&
    da == c.get R.NET_MCAST_ADDR_LO (16 * p + i) + 2 ^ 32 * c.get R.NET_MCAST_ADDR_HI (16 * p + i)) ||
  (List.range 64).any (fun n => c.is R.NET_RXS_EN n && c.get R.NET_RXS_PORT n == p && isMcast (c.get R.NET_RXS_DST_IP n) &&
    da == groupMac (c.get R.NET_RXS_DST_IP n))

/-- The enabled stream of a port that a UDP/IPv4 packet matches (R310). -/
def Ctl.streamOf (c : Ctl) (p : Nat) (f : List Byte) : Option Nat :=
  let h := etAt f + 2
  let u := ipBody f
  (List.range 64).find? (fun n => c.is R.NET_RXS_EN n && c.get R.NET_RXS_PORT n == p &&
    c.get R.NET_RXS_DST_IP n == be f (h + 16) 4 && c.get R.NET_RXS_UDP_PORT n == be f (u + 2) 2 &&
    (!c.is R.NET_RXS_SRC_FILT n || c.get R.NET_RXS_SRC_IP n == be f (h + 12) 4) &&
    (!c.is R.NET_RXS_SSRC_FILT n || c.get R.NET_RXS_SSRC n == be f (u + 16) 4))

/-- STREAM_PACKET_RECEIVE: a packet that matches stream `n` (R310). -/
def Ctl.rxRtp (c : Ctl) (n : Nat) (f : List Byte) : Ctl :=
  let u := ipBody f
  let r := u + 8
  let b0 := be f r 1
  let head := 12 + 4 * (b0 % 16)
  let ext := if bit b0 4 then 4 + 4 * be f (r + head + 2) 2 else 0
  let len := be f (u + 4) 2 - 8 - head - ext
  let chans := c.get R.NET_RXS_CHANS n
  let s := c.perPacket (c.get R.NET_RXS_PTIME n)
  let bytes := sampleBytes (c.get R.NET_RXS_L24 n)
  if b0 / 64 != 2 || be f (r + 1) 1 % 128 != c.get R.NET_RXS_PT n || len != chans * s * bytes then c.inc R.NET_RXS_STAT_BADPKT n
  else
    let ssrc := be f (r + 8) 4
    let c := c.when ((c.rx n).ssrc.any (· != ssrc)) (·.inc R.NET_RXS_STAT_SSRC_CHANGE n)
    let c := c.setRx n { c.rx n with ssrc := some ssrc }
    c.rxPacket n (be f (r + 4) 4) (packetSamples bytes chans s (f.drop (r + head + ext)))

/-- The host receive ring takes a frame (R295). -/
def Mach.hostRx (x : Mach) (p : Nat) (f : List Byte) (stamp : Nat) : Mach :=
  let c := x.c
  if c.ringCount p 0 = 0 then { x with c := c.netStat p 8 }
  else
    let a := c.descAt p 0 (c.get R.NET_RING_HEAD (2 * p))
    let buf := x.m.dram.rdN a 5
    if !c.dmaOk a 32 then { x with c := c.dmaFail a 32 false }
    else if !c.dmaOk buf f.length then { x with c := c.dmaFail buf f.length true } else
    let q := c.dmaTouch false a 32
    let q := if q.2 then q.1.dmaTouch true buf f.length else q
    let c := q.1
    if !q.2 then { x with c := c } else
    let d := (x.m.dram.wrs buf f).wrN (a + 8) 4 (f.length % 2048 + 2 ^ 16 + 2 ^ 18 * b2n (tagged f))
    { c := (c.headNext p 0).netStat p 0, m := { x.m with dram := d.wrN (a + 16) 8 stamp } }

/-- Steps 6 to 13 of R294 for a good frame. -/
def Mach.rxGood (x : Mach) (p : Nat) (f : List Byte) (i : RxInfo) : Mach :=
  let c := x.c
  let et := be f (etAt f) 2
  let stamp := ux 64 ((c.time : Int) - i.sfdAgo + c.geti R.NET_TS_ADJ_RX p)
  if be f 12 2 = 0x8808 then
    if be f 14 2 = 1 then { x with c := (c.netStat p 9).pauseTake p (be f 16 2) } else { x with c := c.netStat p 12 }
  else if !c.destOk p (be f 0 6) then { x with c := c.netStat p 12 }
  else if tagged f && be f 14 2 % 4096 != 0 && be f 14 2 % 4096 != c.get R.NET_VLAN_VID p then { x with c := c.netStat p 12 }
  else if et = 0x88F7 || (isIp f 17 && (be f (ipBody f + 2) 2 == 319 || be f (ipBody f + 2) 2 == 320)) then
    let c := c.netStat p 10
    { x with c := match i.ptp with | none => c | some o => c.ptpTake p o }
  else if et = 0x0800 && !ipSumOk f then { x with c := c.netStat p 12 }
  else match if isIp f 17 then c.streamOf p f else none with
  | some n => { x with c := (c.netStat p 11).rxRtp n f }
  | none =>
    if isIp f 2 && be f (ipBody f) 1 = 0x11 then { x with c := c.igmpReports p (List.range 64) } else x.hostRx p f stamp

/-- FRAME_RECEIVE: a frame from destination address to the octet before its FCS passes the checks of R294 in order. -/
def frameReceive (p : Fin 4) (f : List Byte) (i : RxInfo) (x : Mach) : Mach :=
  let c := x.c
  let n := f.length + 4
  if !c.is R.NET_CFG_EN p || !c.is R.NET_STATUS_LINK_UP p then x
  else if i.verify && p.val < 2 then { x with c := c.netStat p 7 }
  else if n < 64 && i.fcsOk && 8 ≤ n then { x with c := c.rxError p 2 }
  else if n < 64 then { x with c := c.rxError p 3 }
  else if c.get R.NET_CFG_MAXLEN p < n then { x with c := c.rxError p 4 }
  else if !i.fcsOk then { x with c := c.rxError p 5 }
  else if !i.asmOk && p.val < 2 then { x with c := c.rxError p 6 }
  else
    let c := c.when (i.frags != 0 && p.val < 2) (·.netStat p 14 i.frags)
    Mach.rxGood { x with c := (c.netStat p 1 n).netStat p 13 } p f i

/-! ## Transmit streams (R315, R316) -/

/-- The S samples that a feed's stage 7 puts out in the window in play (R106, R217). -/
def Ctl.feedPlay (c : Ctl) (f : Nat) : List Int :=
  let s := c.winSamples
  let l := ((c.feedSt f).ready ++ List.replicate s 0).take s
  let b := f % 32
  if bit (cget c.fire.opening (f / 32)) b then l.zipIdx.map (fun e => e.1 * (e.2 + 1) / (s : Int))
  else if bit (cget c.fire.closing (f / 32)) b then l.zipIdx.map (fun e => e.1 * ((s : Int) - 1 - e.2) / s)
  else if bit (c.get R.SHUT_OPEN (f / 32)) b then l
  else List.replicate s 0

/-- Silence and fade-in after a promotion (R259): windows P and P + 1 are silent, and P + 2 fades in. -/
def Ctl.promoFade (c : Ctl) (l : List Int) : List Int :=
  match c.hng.promotedAt with
  | none => l
  | some p =>
    let d := (c.winNo + 2 ^ 32 - p) % 2 ^ 32
    if c.get R.HNG_STATUS_ROLE != 2 || 3 ≤ d then l
    else if d = 2 then l.zipIdx.map (fun e => e.1 * (e.2 + 1) / (c.winSamples : Int))
    else l.map (fun _ => 0)

/-- A feed's output in the window in play. -/
def Ctl.feedOut (c : Ctl) (f : Nat) : List Int := c.promoFade (c.feedPlay f)

/-- What a map entry of a kind and index plays in the window in play (R315, R332). -/
def Ctl.mapPlay (c : Ctl) (kind idx : Nat) : List Int :=
  if kind = 1 then c.feedOut idx
  else if kind = 2 then (kgetD c.net.hist idx []).getD 2 (List.replicate c.winSamples 0)
  else List.replicate c.winSamples 0

/-- What transmit channel `ch` sends in the window in play (R315). -/
def Ctl.txPlay (c : Ctl) (ch : Nat) : List Int := c.mapPlay (c.get R.NET_TXMAP_KIND ch) (c.get R.NET_TXMAP_INDEX ch)

/-- A transmit stream's samples of the window in play, one list of channels for each sample. -/
def Ctl.txBlock (c : Ctl) (n : Nat) : List (List Int) :=
  let cols := (List.range (c.get R.NET_TXS_CHANS n)).map (fun k => c.txPlay (c.get R.NET_TXS_MAP n + k))
  (List.range c.winSamples).map (fun j => cols.map (fun l => l.getD j 0))

/-- A transmit stream's state. -/
def Ctl.tx (c : Ctl) (n : Nat) : TxSt := kgetD c.net.tx n {}

/-- Puts a transmit stream's state. -/
def Ctl.setTx (c : Ctl) (n : Nat) (s : TxSt) : Ctl := { c with net := { c.net with tx := kput c.net.tx n s } }

/-- At the end of a window, its unused samples stay for the packets that span the boundary. The boundary of the first window ends
none. -/
def Ctl.txKeep (c : Ctl) : Ctl :=
  if c.win.awaiting then c else c.each ((List.range 64).filter (c.is R.NET_TXS_EN ·)) (fun c n =>
    let q := c.tx n
    c.setTx n { q with pend := q.pend ++ (c.txBlock n).drop q.skip, skip := 0 })

/-- At a boundary, the block acquired for a SRC entry joins the last ones. -/
def Ctl.histPut (c : Ctl) (i : Nat) (block : List Int) : Ctl :=
  { c with net := { c.net with hist := kput c.net.hist i ((block :: kgetD c.net.hist i []).take 3) } }

/-- Line rate in bits per second of a rate code. -/
def lineRate (rate : Nat) : Nat := [10 ^ 10, 25 * 10 ^ 8, 10 ^ 9, 10 ^ 9, 10 ^ 8].getD rate 0

/-- Packets per second of a packet-time code. -/
def packetRate (ptime : Nat) : Nat := [8000, 4000, 1000].getD ptime 1000

/-- The bits per second that a transmit stream counts for (R315). -/
def txBits (payload vlan ptime : Nat) : Nat := (payload + if vlan = 1 then 82 else 78) * 8 * packetRate ptime

/-- Payload octets of an entry. -/
def Ctl.txPayload (c : Ctl) (n : Nat) : Nat :=
  c.get R.NET_TXS_CHANS n * c.perPacket (c.get R.NET_TXS_PTIME n) * sampleBytes (c.get R.NET_TXS_L24 n)

/-- The check of R315 of a write of word 0 with EN = 1: 0 or the code of its refusal. -/
def Ctl.txCheck (c : Ctl) (n d : Nat) : Nat :=
  let chans := R.NET_TXS_CHANS.of d
  let map := R.NET_TXS_MAP.of d
  let port := R.NET_TXS_PORT.of d
  let ptime := R.NET_TXS_PTIME.of d
  let payload := chans * c.perPacket ptime * sampleBytes (R.NET_TXS_L24.of d)
  let others := (List.range 64).filter (fun m => m != n && c.is R.NET_TXS_EN m)
  let load := (others.filter (fun m => c.get R.NET_TXS_PORT m == port)).foldl (fun t m =>
    t + txBits (c.txPayload m) (c.get R.NET_TXS_VLAN_EN m) (c.get R.NET_TXS_PTIME m)) (txBits payload (c.get R.NET_TXS_VLAN_EN n) ptime)
  if 128 < map + chans || 1440 < payload || 3 ≤ ptime then 2
  else if !c.is R.NET_CFG_EN port then 1
  else if others.any (fun m => c.get R.NET_TXS_MAP m < map + chans && map < c.get R.NET_TXS_MAP m + c.get R.NET_TXS_CHANS m) then 1
  else if 3 * lineRate (c.get R.NET_CFG_RATE port) < 4 * load then 1
  else 0

/-- Address of NET_TXS[n]. -/
def txsAt (n : Nat) : Nat := 0x62400 + 32 * n

/-- TX_STREAM_ENABLE: a write of word 0 of NET_TXS[n] (R315). An accepted stream begins with the next window; its first RTP
sequence number is free. -/
def txStreamEnable (n : Fin 64) (d : Nat) (c : Ctl) : Ctl :=
  let a := txsAt n
  let was := c.is R.NET_TXS_EN n
  let en := R.NET_TXS_EN.of d = 1
  let port := if was then c.get R.NET_TXS_PORT n else R.NET_TXS_PORT.of d
  if !rangeAt a d then c.netStatus port 2
  else if was && c.changesAt a (if en then d else d + 1) then c.netStatus port 1
  else if en && !was then
    let k := c.txCheck n d
    if k != 0 then c.netStatus port k
    else
      let q := c.free 16
      let c := q.2.storeAt a d
      (c.setTx n { skip := c.winSamples, slot := (c.win.ext + 1) * c.winSamples, seq := q.1 }).netStatus port 0
  else if was && !en then
    let c := c.storeAt a d
    { c with net := { c.net with tx := kdel c.net.tx n } }.netStatus port 0
  else (c.storeAt a d).netStatus port 0

/-- A write to another word of a NET_TXS entry: refused while the entry is enabled, whatever it writes (R315). -/
def Ctl.txsWrite (c : Ctl) (n w d : Nat) : Ctl :=
  let port := c.get R.NET_TXS_PORT n
  if c.is R.NET_TXS_EN n then c.netStatus port 1
  else (c.storeAt (txsAt n + 4 * w) d).netStatus port 0

/-- A write of NET_TXMAP (R315): KIND and INDEX in range, and no enabled stream uses the channel. -/
def Ctl.txmapWrite (c : Ctl) (ch d : Nat) : Ctl :=
  let k := R.NET_TXMAP_KIND.of d
  let i := R.NET_TXMAP_INDEX.of d
  let user := (List.range 64).find? (fun n => c.is R.NET_TXS_EN n && c.get R.NET_TXS_MAP n ≤ ch &&
    ch < c.get R.NET_TXS_MAP n + c.get R.NET_TXS_CHANS n)
  if k = 3 || (k = 1 && c.feedCount ≤ i) || (k = 2 && 256 ≤ i) then c.netStatus 0 2
  else match user with
  | some n => c.netStatus (c.get R.NET_TXS_PORT n) 1
  | none =>
    ((c.set R.NET_TXMAP_KIND k ch).set R.NET_TXMAP_INDEX i ch).netStatus 0 0

/-- A sample as L16 or L24. -/
def pcm (bytes : Nat) (x : Int) : Nat := ux (8 * bytes) (x / 2 ^ (32 - 8 * bytes))

/-- The fields of a transmit packet that R316 and the entry give, then its samples. -/
def Ctl.txWords (c : Ctl) (n ts seq : Nat) (samples : List (List Int)) : List Nat :=
  let ip := c.get R.NET_TXS_DST_IP n
  let mac := if isMcast ip then groupMac ip else c.get R.NET_TXS_DST_MAC_LO n + 2 ^ 32 * c.get R.NET_TXS_DST_MAC_HI n
  [mac, ip, c.get R.NET_TXS_DST_PORT n, c.get R.NET_TXS_SRC_PORT n, c.get R.NET_TXS_DSCP n, c.get R.NET_TXS_TTL n,
    c.get R.NET_TXS_VLAN_EN n, c.get R.NET_TXS_VID n, c.get R.NET_TXS_PCP n, c.get R.NET_TXS_PT n, seq, ts, c.get R.NET_TXS_SSRC n] ++
    samples.flatMap (fun x => x.map (pcm (sampleBytes (c.get R.NET_TXS_L24 n))))

/-- TX_PACKETIZE: a packet time of play slots has ended, and a packet is queued with its launch target (R316); a hinge
standby sends none. -/
def txPacketize (n : Fin 64) (c : Ctl) : Ctl :=
  let q := c.tx n
  let s := c.perPacket (c.get R.NET_TXS_PTIME n)
  let cur := (c.txBlock n).drop q.skip
  if !c.is R.NET_TXS_EN n || !c.is R.WIN_STATUS_RUN || c.win.awaiting || q.pend.length + cur.length < s then c
  else
    let samples := (q.pend ++ cur).take s
    let used := s - q.pend.length
    let ts := (c.mediaAt (c.slotTime q.slot) + c.get R.NET_TXS_RTP_OFFSET n) % 2 ^ 32
    let port := c.get R.NET_TXS_PORT n
    let pkt : TxPkt :=
      { cls := c.get R.NET_TXS_CLASS n
        target := c.slotTime (q.slot + s)
        idx := n
        len := c.txPayload n + (if c.is R.NET_TXS_VLAN_EN n then 62 else 58)
        words := c.txWords n ts q.seq samples }
    let c := c.setTx n { pend := q.pend.drop s, skip := q.skip + used, slot := q.slot + s, seq := (q.seq + 1) % 65536 }
    if c.get R.HNG_STATUS_ROLE = 3 || !c.is R.NET_STATUS_LINK_UP port then c
    else c.setPort port { c.port port with pkts := (c.port port).pkts ++ [pkt] }

/-! ## Transmit order (R296, R302, R307) -/

/-- The signed difference of a launch target and the current time, over their low 48 bits. -/
def Ctl.launchIn (c : Ctl) (target : Nat) : Int := sx 48 (target % 2 ^ 48 + 2 ^ 48 - c.time % 2 ^ 48)

/-- LAUNCH_CHECK: 0 wait, 1 send, 2 drop as late. -/
def Ctl.launchCheck (c : Ctl) (p target : Nat) : Nat :=
  let d := c.launchIn target
  if 0 < d then 0 else if d < -(1000 * c.get R.NET_LAUNCH_LATE_TOL p : Nat) then 2 else 1

/-- The first packet of a class: by launch time, then by stream index. -/
def Ctl.firstPkt (c : Ctl) (l : List TxPkt) : Option TxPkt :=
  l.foldl (fun b k =>
    match b with
    | none => some k
    | some a => if c.launchIn k.target < c.launchIn a.target || (c.launchIn k.target == c.launchIn a.target && k.idx < a.idx)
      then some k else some a) none

/-- Takes a packet off a port's queue. -/
def Ctl.dropPkt (c : Ctl) (p : Nat) (k : TxPkt) : Ctl := c.setPort p { c.port p with pkts := (c.port p).pkts.erase k }

/-- A frame is counted as sent; `frags` is how many fragments preemption left it in beyond the first. -/
def Ctl.txCount (c : Ctl) (p len frags : Nat) (express : Bool) : Ctl :=
  let c := (c.netStat p 15).netStat p 16 len
  if frags = 0 || express || c.get R.NET_STATUS_PREEMPT p != 2 then c else (c.netStat p 17).netStat p 18 frags

/-- The due stream packets of class `k`: late ones are dropped and reported, and the first due one is sent. -/
def Ctl.txClass (p frags k : Nat) : Nat → Ctl → Ctl × Bool
  | 0, c => (c, false)
  | n + 1, c =>
    match c.firstPkt ((c.port p).pkts.filter (·.cls == k)) with
    | none => (c, false)
    | some t =>
      match c.launchCheck p t.target with
      | 0 => (c, false)
      | 1 =>
        let c := (c.dropPkt p t).emit (.netFrame p (k + 2) t.words)
        ((c.netStat p 22).txCount p t.len frags (k == 0 || (k == 1 && c.is R.NET_CFG_EXPRESS_B p)), true)
      | _ => Ctl.txClass p frags k n (((c.dropPkt p t).lateDrop p).pushReport p 0 1 (some t.idx) t.target)

/-- Classes A to D in order. -/
def Ctl.txStreams (c : Ctl) (p frags : Nat) : List Nat → Ctl × Bool
  | [] => (c, false)
  | k :: ks =>
    let r := Ctl.txClass p frags k ((c.port p).pkts.length + 1) c
    if r.2 then r else Ctl.txStreams r.1 p frags ks

/-- The words of a PTP message as it leaves: its kind and what the port writes into it, the sub-nanosecond part for
correctionField in units of 2^−16 ns (R302). -/
def Ctl.ptpWords (c : Ctl) (p : Nat) (m : PtpMsg) : List Nat :=
  let t := ux 64 ((c.time : Int) + c.geti R.NET_TS_ADJ_TX p)
  match m with
  | .sync => [0, t / 10 ^ 9, t % 10 ^ 9, c.clk.frac / 65536]
  | .delayReq => [1]
  | .pdelayReq => [2]
  | .pdelayResp rx => [3, ux 64 ((t : Int) - rx), c.clk.frac / 65536]
  | .delayResp => [9]
  | .announce => [11, c.get R.TIME_PTP_CFG_PRIO1, c.get R.TIME_PTP_CFG_PRIO2, c.get R.TIME_PTP_CFG_DOMAIN,
      if c.is R.TIME_STATUS_SLAVE then 0 else 248]

/-- Octets of a PTP message's frame (IEEE 1588-2019), from destination address to FCS. -/
def Ctl.ptpLen (c : Ctl) (p : Nat) (m : PtpMsg) : Nat :=
  let body := match m with
    | .sync | .delayReq => 44
    | .announce => 64
    | _ => 54
  max 64 (body + 18 + if c.is R.TIME_PTP_PORT_UDP p then 28 else 0)

/-- The host frames from HEAD: late ones are dropped and reported, and a due one is sent (R295, R307). -/
def Mach.txHost (p frags : Nat) : Nat → Mach → Mach
  | 0, x => x
  | n + 1, x =>
    let a := x.hostHead p
    let w := x.m.dram.rdN (a + 8) 4
    let timed := bit w 17
    let target := x.m.dram.rdN (a + 16) 8
    let tag := x.m.dram.rdN (a + 6) 2
    let buf := x.m.dram.rdN a 5
    let q := x.c.dmaTouch false a 32
    if !q.2 then { x with c := q.1 } else
    match if timed then x.c.launchCheck p target else 1 with
    | 0 => x
    | 1 =>
      let t := x.c.time
      let f := x.m.dram.rds buf (w % 2048)
      let q := x.c.dmaTouch false buf (w % 2048)
      if !q.2 then { x with c := q.1 } else
      let x := Mach.descDone { x with c := x.c.dmaFail buf (w % 2048) false } p 0 (some t)
      let c := x.c.emit (.netFrame p 6 (f.map (·.toNat)))
      let c := c.txCount p (w % 2048 + 4) frags false
      { x with c := if timed then c.pushReport p tag 0 none t else c }
    | _ =>
      let x := x.descDone p 7 none
      Mach.txHost p frags n { x with c := (x.c.lateDrop p).pushReport p tag 1 none target }

/-- FRAME_TX_OPPORTUNITY: a port is free to start a frame and takes the first due frame in the order of R296. -/
def frameTxOpportunity (p : Fin 4) (frags : Nat) (x : Mach) : Mach :=
  let c := x.c
  if !c.is R.NET_STATUS_LINK_UP p || c.is R.NET_STATUS_PAUSED p then x
  else match (c.port p).ptp with
  | m :: ms =>
    let c := (c.setPort p { c.port p with ptp := ms }).emit (.netFrame p 1 (c.ptpWords p m))
    { x with c := (c.netStat p 23).txCount p (c.ptpLen p m) 0 true }
  | [] =>
    let r := c.txStreams p frags [0, 1, 2, 3]
    if r.2 || !r.1.dmaOk (r.1.descAt p 1 0) (32 * 2 ^ r.1.get R.NET_RING_SIZE (2 * p.val + 1)) then { x with c := r.1 }
    else Mach.txHost p frags (r.1.ringCount p 1) { x with c := r.1 }

/-- PTP_MESSAGE_SEND: a message of an enabled PTP port is issued (R302). -/
def ptpMessageSend (p : Fin 4) (m : PtpMsg) (c : Ctl) : Ctl :=
  if !c.is R.TIME_PTP_PORT_EN p || !c.is R.NET_STATUS_LINK_UP p then c
  else c.setPort p { c.port p with ptp := (c.port p).ptp ++ [m] }

/-! ## Other writes of the NET block (R317) -/

/-- A write of a NET_RING word: STATE while the port is enabled, but for TAIL, which the host advances then. -/
def Ctl.netRing (c : Ctl) (p k w d : Nat) : Ctl :=
  let a := 0x60100 + 0x4000 * p + 16 * k + 4 * w
  let i := 2 * p + k
  if w = 3 then
    if 2 ^ c.get R.NET_RING_SIZE i ≤ R.NET_RING_TAIL.of d then c.netStatus p 2 else (c.storeAt a d).netStatus p 0
  else if w = 2 then c
  else if !rangeAt a d || (w = 0 && d % 32 != 0) then c.netStatus p 2
  else if c.is R.NET_CFG_EN p then c.netStatus p 1
  else (c.storeAt a d).netStatus p 0

/-- A write to a word of a port's own registers, NET_CFG and NET_CMD apart. -/
def Ctl.netPortWrite (c : Ctl) (p off d : Nat) : Ctl :=
  let a := 0x60000 + 0x4000 * p + off
  if 0x100 ≤ off && off < 0x120 then c.netRing p ((off - 0x100) / 16) (off / 4 % 4) d
  else if !rangeAt a d then c.netStatus p 2
  else
    let c' := c.storeAt a d
    if off = 4 || off = 0x150 || off = 0x480 then c' else c'.netStatus p 0

/-- NET_LREP_HEAD as a read returns it (R308). -/
def Ctl.lrepWord (c : Ctl) (p i : Nat) : Nat := ((c.port p).reports.headD []).getD i 0

end Sys2Proof.Machine
end

