-- ==== Sys2Proof/Machine/Audio.lean ====
section
/-! DEFINITION. Audio ports: staging, loss and relock, AES3, MADI, TDM16 and analogue inputs, outputs and the output map
(spec/13 R321 to R332, R347). -/
namespace Sys2Proof.Machine

/-- An audio input port: AES3 pairs 0 to 7, MADI 8 and 9, TDM 10 to 13, analogue 14. -/
def Ctl.audIn (c : Ctl) (p : Nat) : AudIn := kgetD c.aud.ins p {}

/-- Puts an input port's state. -/
def Ctl.setIn (c : Ctl) (p : Nat) (a : AudIn) : Ctl := { c with aud := { c.aud with ins := kput c.aud.ins p a } }

/-- Whether a port is enabled (AUD_CTRL); port 14 is the analogue port. -/
def Ctl.audOn (c : Ctl) (p : Nat) : Bool :=
  if p < 8 then c.is R.AUD_CTRL_AES_EN
  else if p < 10 then c.is R.AUD_CTRL_MADI_EN
  else if p < 14 then bit (c.get R.AUD_CTRL_TDM_EN) (p - 10)
  else c.is R.AUD_CTRL_ANA_EN

/-- A per-port field of the three input arrays, with its index. -/
def inReg (p : Nat) (aes madi tdm : Reg) : Reg × Nat := if p < 8 then (aes, p) else if p < 10 then (madi, p - 8) else (tdm, p - 10)

/-- LINK of a digital input. -/
def linkReg (p : Nat) : Reg × Nat := inReg p R.AUD_AES_IN_LINK R.AUD_MADI_IN_LINK R.AUD_TDM_LINK

/-- Channels of an input or output port. -/
def Ctl.audChans (c : Ctl) (p : Nat) : Nat := if p < 8 then 2 else if p < 14 then (if c.rate96 then 32 else 64) else if p = 14 then 4 else 2

/-- Raises an AUD event once per window. -/
def Ctl.audOnce (c : Ctl) (ev info : Nat) : Ctl :=
  if c.aud.once.contains ev then c else { c with aud := { c.aud with once := ev :: c.aud.once } }.raise ev info

/-- Whether an input is an AES3 pair with its rate converter engaged (R326). -/
def Ctl.srcMode (c : Ctl) (p : Nat) : Bool := p < 8 && c.is R.AUD_AES_IN_SRC p

/-- An input's LINK changes between OK and LOST (R323). -/
def Ctl.inLink (c : Ctl) (p v : Nat) : Ctl :=
  ((c.set (linkReg p).1 v (linkReg p).2).set R.AUD_STATUS_LINK_SEEN 1).raise Ev.AUD_LINK p v

/-- A slip (R321). -/
def Ctl.slip (c : Ctl) (p : Nat) : Ctl :=
  let r := inReg p R.AUD_AES_IN_SLIPS R.AUD_MADI_IN_SLIPS R.AUD_TDM_SLIPS
  ((c.inc r.1 r.2).set R.AUD_STATUS_SLIP_SEEN 1).audOnce Ev.AUD_SLIP p

/-- A bad frame (R323): counted, and INPUT_LOSS at the first one. -/
def Ctl.badFrame (c : Ctl) (p : Nat) : Ctl :=
  let b := inReg p R.AUD_AES_IN_BAD R.AUD_MADI_IN_BAD R.AUD_TDM_BAD
  let l := inReg p R.AUD_AES_IN_LOSSES R.AUD_MADI_IN_LOSSES R.AUD_TDM_LOSSES
  let c := ((c.inc b.1 b.2).set R.AUD_STATUS_BAD_SEEN 1).audOnce Ev.AUD_BAD p
  let c := c.setIn p { c.audIn p with good := 0 }
  let c := if c.srcMode p && c.is R.AUD_AES_IN_SRC_LOCK p then (c.set R.AUD_AES_IN_SRC_LOCK 0 p).raise Ev.AUD_SRC p 0 else c
  if c.get (linkReg p).1 (linkReg p).2 = 1 then
    let c := (c.inLink p 2).inc l.1 l.2
    c.setIn p { c.audIn p with gap := 0, frames := 0, fade := 16 }
  else c

/-- INPUT_RELOCK (R323): after 48 good frames, and with the converter locked in SRC mode. -/
def Ctl.tryRelock (c : Ctl) (p : Nat) : Ctl :=
  if c.get (linkReg p).1 (linkReg p).2 = 1 || (c.audIn p).good < 48 || (c.srcMode p && !c.is R.AUD_AES_IN_SRC_LOCK p) then c
  else (c.setIn p { c.audIn p with fade := 0, gap := 0 }).inLink p 1

/-- What an AES3 frame says beside its samples: RATE, channel status and validity (R325). -/
def Ctl.aesInfo (c : Ctl) (p : Nat) (f : AudFrame) : Ctl :=
  let c := if c.get R.AUD_AES_IN_RATE p = f.rate then c else (c.set R.AUD_AES_IN_RATE f.rate p).raise Ev.AUD_RATE p f.rate
  let c := c.each f.cs.zipIdx (fun c e =>
    let k := 2 * p + e.2
    if kget? c.aud.cs k = some e.1 then c else { c with aud := { c.aud with cs := kput c.aud.cs k e.1 } }.raise Ev.AUD_CS k)
  c.each f.valid (fun c ch =>
    let k := 2 * p + ch
    let n := cget c.aud.valid k
    { c with aud := { c.aud with valid := cset c.aud.valid k (n + 1) } }.when (n == 0) (·.raise Ev.AUD_VALID k))

/-- A good frame completes in the slot in progress (R321). -/
def Ctl.goodFrame (c : Ctl) (p : Nat) (f : AudFrame) : Ctl :=
  let c := if p < 8 then c.aesInfo p f
    else if p < 10 && c.get R.AUD_MADI_IN_RATE (p - 8) != f.rate then
      (c.set R.AUD_MADI_IN_RATE f.rate (p - 8)).raise Ev.AUD_MADI_MODE p f.rate
    else if 10 ≤ p && (c.audIn p).clkLost then (c.setIn p { c.audIn p with clkLost := false }).raise Ev.AUD_TDM_CLK p 1
    else c
  let c := c.tryRelock p
  let a := c.audIn p
  let locked := c.get (linkReg p).1 (linkReg p).2 == 1
  let c := c.when (locked && a.frames != 0 && !c.srcMode p) (·.slip p)
  let now := f.samples.map (fun x => sx 32 (x * 256))
  c.setIn p { c.audIn p with frames := a.frames + 1, now := if locked then now else a.now }

/-- AUDIO_FRAME_RECEIVE: a frame ends at a digital input (R321, R323). In master mode no TDM frame is ever bad (R328). -/
def audioFrameReceive (p : Fin 14) (f : AudFrame) (c : Ctl) : Ctl :=
  let master := 10 ≤ p.val && !c.is R.AUD_TDM_SLAVE (p - 10)
  if !c.audOn p then c
  else if !f.good && !master then c.badFrame p
  else
    let a := c.audIn p
    (c.setIn p { a with good := min 48 (a.good + 1) }).goodFrame p f

/-- SRC_CONVERTER_LOCK: 2,400 module samples have passed since the 48th good frame (R326). -/
def srcConverterLock (i : Fin 8) (c : Ctl) : Ctl :=
  if !c.audOn i || !c.srcMode i || c.is R.AUD_AES_IN_SRC_LOCK i || (c.audIn i).good < 48 then c
  else ((c.set R.AUD_AES_IN_SRC_LOCK 1 i).raise Ev.AUD_SRC i 1).tryRelock i

/-- TDM_FSYNC_LOSS: a slave port has seen no FSYNC edge for two frame periods (R328). -/
def tdmFsyncLoss (i : Fin 4) (c : Ctl) : Ctl :=
  let p := i.val + 10
  if !c.audOn p || !c.is R.AUD_TDM_SLAVE i then c
  else
    let c := c.badFrame p
    if (c.audIn p).clkLost then c else (c.setIn p { c.audIn p with clkLost := true }).raise Ev.AUD_TDM_CLK i 0

/-- A digital input stages its sample of the slot that ends (R321, R323). A converter's output samples are free. -/
def Ctl.slotIn (c : Ctl) (p : Nat) : Ctl :=
  let a := c.audIn p
  let n := c.audChans p
  let locked := c.get (linkReg p).1 (linkReg p).2 == 1
  if !locked then
    let x := (a.now ++ List.replicate n 0).take n
    let y := if a.gap < 16 then x.map (fun v => v * (15 - a.gap) / 16) else List.replicate n 0
    c.setIn p { a with frames := 0, gap := min 16 (a.gap + 1), cur := a.cur ++ [y] }
  else
    let c := c.when (a.frames == 0 && !c.srcMode p) (·.slip p)
    let q : List Int × Ctl := if c.srcMode p then
        let u := c.free 24
        let v := u.2.free 24
        ([sx 24 u.1 * 256, sx 24 v.1 * 256], v.2)
      else ((a.now ++ List.replicate n 0).take n, c)
    let y : List Int := if a.fade < 16 then q.1.map (fun (v : Int) => v * (a.fade + 1) / 16) else q.1
    q.2.setIn p { a with frames := 0, fade := min 16 (a.fade + 1), cur := a.cur ++ [y], now := q.1 }

/-- Counts full-scale samples in a row; four of them are an overload (R330). -/
def Ctl.overload (c : Ctl) (k entry : Nat) (x : Int) : Ctl :=
  let full := x == 2 ^ 31 - 256 || x == -(2 ^ 31)
  let n := if full then cget c.aud.fs k + 1 else 0
  let c := { c with aud := { c.aud with fs := cset c.aud.fs k (n % 4) } }
  if n = 4 then ((c.inc R.AUD_ANA_OVL entry).set R.AUD_STATUS_OVL_SEEN 1).audOnce Ev.AUD_OVL entry else c

/-- The analogue inputs stage their converters' 24-bit samples (R329, R330). -/
def Ctl.slotAna (c : Ctl) (samples : List Nat) : Ctl :=
  let x := (List.range 4).map (fun k => sx 32 (samples.getD k 0 % 2 ^ 24 * 256))
  let c := c.each x.zipIdx (fun c e => c.overload e.2 e.2 e.1)
  let a := c.audIn 14
  c.setIn 14 { a with cur := a.cur ++ [x] }

/-- STAGING_SLOT: a sample period of the acquire window ends, and every input stages its sample of it (R313, R321). -/
def stagingSlot (samples : List (BitVec 24)) (c : Ctl) : Ctl :=
  if !c.is R.WIN_STATUS_RUN then c
  else
    let k := c.aud.slot
    let c := c.each ((List.range 14).filter c.audOn) Ctl.slotIn
    let c := c.when (c.audOn 14) (·.slotAna (samples.map (·.toNat)))
    let c := c.rxSlots k
    { c with aud := { c.aud with slot := k + 1 } }

/-- What an output channel plays in the window in play, by the map in force; a hinge standby sends zeros (R247). -/
def Ctl.outPlay (c : Ctl) (ch : Nat) : List Int :=
  let m := kgetD c.aud.map ch (0, 0)
  if c.get R.HNG_STATUS_ROLE = 3 then List.replicate c.winSamples 0 else c.mapPlay m.1 m.2

/-- At a boundary every input's block is complete and carries its LINK; the peaks of the analogue inputs and of the
cue pair are shown. -/
def Ctl.audBoundary (c : Ctl) : Ctl :=
  let s := c.winSamples
  let c := c.each (List.range 15) (fun c p =>
    let a := c.audIn p
    let on := c.audOn p
    let link := if p = 14 then 1 else c.get (linkReg p).1 (linkReg p).2
    let blk := byChannel (c.audChans p) s a.cur
    let c := if p = 14 || c.get (linkReg p).1 (linkReg p).2 != 0 || !on then c else c.set (linkReg p).1 2 (linkReg p).2
    let c := if !on && p != 14 then c.set (linkReg p).1 0 (linkReg p).2 else c
    c.setIn p (if on then { a with block := blk, cur := [], blockLink := if link = 1 then 1 else 2 } else {}))
  let c := if c.audOn 14 then
      let c := c.set R.AUD_ANA_PEAK (levelDb (max (blockPeak (c.outPlay 400)) (blockPeak (c.outPlay 401)))) 4
      c.each (List.range 4) (fun c k => c.set R.AUD_ANA_PEAK (levelDb (blockPeak ((c.audIn 14).block.getD k []))) k)
    else c
  { c with aud := { c.aud with slot := 0, once := [], sent := [] } }

/-- The block staged for a port channel in the last window, and its LINK (R59, R60). -/
def Ctl.portBlock (c : Ctl) (port chan : Nat) : List Int × Nat :=
  let zero := List.replicate c.winSamples (0 : Int)
  let p := if port = 1 then (chan / 2, chan % 2) else if port < 4 then (port + 6, chan) else if port < 8 then (port + 6, chan) else (14, chan)
  if port = 0 then (zero, 0)
  else if port = 9 then c.streamBlock chan
  else
    let a := c.audIn p.1
    if c.audOn p.1 then (a.block.getD p.2 zero, a.blockLink) else (zero, 2)

/-! ## Outputs (R322, R332) -/

/-- The port of an output channel's first channel. -/
def outFirst (p : Nat) : Nat := if p < 8 then 2 * p else if p < 10 then 16 + 64 * (p - 8) else if p < 14 then 144 + 64 * (p - 10) else 400

/-- AUDIO_FRAME_SEND: an output sends the frame of the next play slot: AES3 pairs 0 to 7, MADI 8 and 9, TDM 10 to 13 and the
cue outputs at 14 (R322, R324). -/
def audioFrameSend (p : Fin 15) (c : Ctl) : Ctl :=
  let k := cget c.aud.sent p
  if !c.audOn p || !c.is R.WIN_STATUS_RUN || c.winSamples ≤ k then c
  else
    let n := if p.val = 14 then 2 else c.audChans p
    let x := (List.range n).map (fun ch => (c.outPlay (outFirst p + ch)).getD k 0)
    let c := { c with aud := { c.aud with sent := cset c.aud.sent p (k + 1) } }
    let c := if p.val = 14 then c.each x.zipIdx (fun c e => c.overload (4 + e.2) 4 (e.1 / 256 * 256)) else c
    c.emit (.audio (outFirst p) (x.map (fun (v : Int) => v / 256)))

/-- OUTMAP_APPLY: output-map writes take effect at a window boundary (R332). -/
def outmapApply (c : Ctl) : Ctl :=
  match c.aud.mapPend with
  | [] => c
  | l =>
    let m := l.foldl (fun m ch => kput m ch (c.get R.AUD_OUTMAP_KIND ch, c.get R.AUD_OUTMAP_INDEX ch)) c.aud.map
    { c with aud := { c.aud with map := m, mapPend := [] } }.raise Ev.AUD_MAP

/-- EMIC_SUPERVISION_MEASURE: the DC resistance of an emergency microphone line, in ohms, measured every 10 ms (R331). -/
def emicSupervisionMeasure (i : Fin 2) (ohms : Nat) (c : Ctl) : Ctl :=
  if !c.is R.AUD_ANA_SUP_EN i then c
  else
    let raw := if ohms < 20 then 3 else if ohms ≤ 5000 then 1 else 2
    let s := kgetD c.aud.sup i {}
    let held := if s.raw = raw then s.heldMs + 10 else 0
    let c := { c with aud := { c.aud with sup := kput c.aud.sup i ⟨raw, min 500 held⟩ } }
    if held < 500 || c.get R.AUD_ANA_SUP i = raw then c
    else ((c.set R.AUD_ANA_SUP raw i).set R.AUD_STATUS_EMIC_SEEN 1).raise Ev.AUD_EMIC i raw

/-! ## Register writes (R347) -/

/-- An AUD write's status. -/
def Ctl.audStatus (c : Ctl) (code : Nat) : Ctl := c.status R.AUD_STATUS_LAST R.AUD_STATUS_ERR_STATE Ev.AUD_STATE code

/-- The enables of AUD_CTRL in ledger order, 42 to 48. -/
def audEnables (d : Nat) : Nat :=
  R.AUD_CTRL_AES_EN.of d + 2 * R.AUD_CTRL_MADI_EN.of d + 4 * R.AUD_CTRL_TDM_EN.of d + 64 * R.AUD_CTRL_ANA_EN.of d

/-- Whether an enabled SRC entry names the port behind enable bit `k`. -/
def Ctl.audNamed (c : Ctl) (k : Nat) : Bool :=
  (List.range 256).any (fun i => c.is R.SRC_EN i &&
    (let p := c.get R.SRC_PORT i
     if k = 0 then p == 1 else if k = 1 then p == 2 || p == 3 else if k < 6 then p == k + 2 else p == 8))

/-- A write of AUD_CTRL (R38, R347). A write whose ports do not fit the ledger changes nothing. -/
def Ctl.audCtrl (c : Ctl) (d : Nat) : Ctl :=
  let was := audEnables (c.wordAt 0xB0000)
  let new := audEnables d
  if (bitsOf 7 (andNot 7 was new)).any c.audNamed then c.audStatus 1
  else
    let p := c.enableBlocks (bitsOf 7 (andNot 7 new was)) (fun k c => c.blockSet (42 + k) true)
    if p.2 != 0 then p.1.audStatus 5
    else
      let c := (p.1.putWord 0xB0000 d).each (List.range 14) (fun c p =>
        let r := linkReg p
        if !c.audOn p then (c.set r.1 0 r.2).setIn p {}
        else if c.get r.1 r.2 = 0 then c.set r.1 2 r.2 else c)
      let c := if c.audOn 0 then c else c.each (List.range 8) (fun c i => c.set R.AUD_AES_IN_SRC_LOCK 0 i)
      c.ledgShow.audStatus 0

/-- A write of AUD_OUTMAP (R332). -/
def Ctl.outmapWrite (c : Ctl) (ch d : Nat) : Ctl :=
  let k := R.AUD_OUTMAP_KIND.of d
  let i := R.AUD_OUTMAP_INDEX.of d
  if k = 3 || (k = 1 && c.feedCount ≤ i) || (k = 2 && 256 ≤ i) then c.audStatus 2
  else
    let c := (c.set R.AUD_OUTMAP_KIND k ch).set R.AUD_OUTMAP_INDEX i ch
    { c with aud := { c.aud with mapPend := ch :: c.aud.mapPend.filter (· != ch) } }.audStatus 0

/-- A write to the AUD block at offset `off`. -/
def Ctl.audWrite (c : Ctl) (off d : Nat) : Ctl :=
  let a := 0xB0000 + off
  if off = 0 then c.audCtrl d
  else if off = 4 then c.storeAt a d
  else if 0x1000 ≤ off then c.outmapWrite ((off - 0x1000) / 4) d
  else if !rangeAt a d then c.audStatus 2
  else if off < 0x140 && c.changesAt a d && c.audOn 0 then c.audStatus 1
  else if 0x1A0 ≤ off && off < 0x1C0 && c.changesAt a d && c.audOn (10 + (off - 0x1A0) / 8) then c.audStatus 1
  else
    let c := c.storeAt a d
    let i := (off - 0x200) / 8
    let c := if 0x200 ≤ off && off < 0x210 && !c.is R.AUD_ANA_SUP_EN i then
        { c with aud := { c.aud with sup := kdel c.aud.sup i } }.set R.AUD_ANA_SUP 0 i
      else c
    c.audStatus 0

/-- AUD_CS[w] as a read returns it (R325). -/
def Ctl.audCs (c : Ctl) (w : Nat) : Nat :=
  let b := kgetD c.aud.cs (c.get R.AUD_CS_SEL_INPUT) []
  (List.range 4).foldl (fun n k => n + b.getD (4 * w + k) 0 % 256 * 2 ^ (8 * k)) 0

end Sys2Proof.Machine
end

