-- ==== Sys2Proof/Machine/StormAudio.lean ====
section
/-! DEFINITION. What the storm door plays (R229 to R232, R235, R237): tones and messages from its store, the emergency
microphones, the zone biquads and gains, its fades, and how far each programme has come. Samples are signed Q1.31 at 48 kHz. -/
namespace Sys2Proof.Machine

/-! ## Tones (R229) -/

/-- A segment of a tone pattern: it sweeps from `f0` to `f1` Hz over `dur` ms; `wave` is 0 sine, 1 square, 2 silence, 3 end. -/
structure ToneSeg where
  f0 : Nat := 0
  f1 : Nat := 0
  dur : Nat := 0
  atten : Nat := 0
  wave : Nat := 2
  deriving DecidableEq, Repr

/-- A segment of one frequency. -/
def toneOn (f dur wave : Nat) : ToneSeg := { f0 := f, f1 := f, dur := dur, wave := wave }

/-- A silent segment. -/
def toneOff (dur : Nat) : ToneSeg := { dur := dur }

/-- Three bursts of half a second with half a second between them, then one second off (ISO 8201). -/
def temporalThree (f wave : Nat) : List ToneSeg :=
  [toneOn f 500 wave, toneOff 500, toneOn f 500 wave, toneOff 500, toneOn f 500 wave, toneOff 1500]

/-- The factory patterns. -/
def factoryTone (code : Nat) : List ToneSeg :=
  match code with
  | 0 => [toneOn 1000 1000 0]
  | 1 => temporalThree 970 0
  | 2 => temporalThree 520 1
  | 3 => [{ f0 := 500, f1 := 1200, dur := 3500, wave := 0 }, toneOff 500]
  | 4 => [toneOn 800 250 0, toneOn 970 250 0]
  | 5 => [toneOn 970 1000 0, toneOff 1000]
  | _ => []

/-- The pattern that the tone table holds for a code; one that was never written is the factory's (log entry 149). -/
def tonePattern (nor : Mem) (code : Nat) : List ToneSeg :=
  let a := 0x440 + 64 * code
  let w := (List.range 16).map (fun k => nor.rdN (a + 4 * k) 4)
  if w.all (· == 0) then factoryTone code
  else
    ((List.range 8).map (fun i =>
      let x := w.getD (2 * i) 0
      let y := w.getD (2 * i + 1) 0
      (⟨x % 65536, x / 65536, y % 65536, y / 65536 % 256, y / 2 ^ 24 % 4⟩ : ToneSeg))).takeWhile (fun s => s.wave != 3)

/-- The samples of a pattern before it repeats. -/
def toneLength (l : List ToneSeg) : Nat := l.foldl (fun n s => n + 48 * s.dur) 0

/-- Terms of the sine series from `t` on, `z2` the square of the angle; all with 40 fraction bits. -/
def sineTerms (z2 : Int) : Nat → Nat → Int → Int
  | 0, _, _ => 0
  | n + 1, k, t => t + sineTerms z2 n (k + 2) (-(t * z2 / 2 ^ 40) / ((k * (k + 1) : Nat) : Int))

/-- The sine of a phase in units of 2^-32 of a cycle, as Q1.31 (log entry 149). -/
def sineQ31 (phase : Nat) : Int :=
  let q := phase / 2 ^ 30 % 4
  let r := phase % 2 ^ 30
  let x : Int := ((if q % 2 = 0 then r else 2 ^ 30 - r : Nat) : Int)
  let z := x * 1727108826179 / 2 ^ 30
  let s := sat31 (sineTerms (z * z / 2 ^ 40) 9 2 z / 2 ^ 9)
  if q < 2 then s else -s

/-- Sample `n` of a segment of `len` samples: a linear sweep whose phase starts at 0. -/
def segSample (s : ToneSeg) (n len : Nat) : Int :=
  let num : Int := 2 * (len : Int) * s.f0 * n + ((s.f1 : Int) - s.f0) * n * n
  let phase := (num * 2 ^ 32 / (2 * (len : Int) * 48000) % 2 ^ 32).toNat
  if s.wave = 0 then sineQ31 phase
  else if s.wave = 1 then (if phase < 2 ^ 31 then 2147483647 else -2147483647)
  else 0

/-- The gain of `h` hundredths of a dB, as Q4.20. -/
def dbGain (h : Int) : Nat := if h ≤ 0 then gainDown (h.natAbs * 65536 / 100) else gainUp (h.toNat * 65536 / 100)

/-- A sample times a Q4.20 gain, truncated toward minus infinity and saturated. -/
def byGain (g : Nat) (x : Int) : Int := sat31 (asr ((g : Int) * x) 20)

/-- Sample `n` of a pattern, with the attenuation of its segment. -/
def toneSample (nor : Mem) (code n : Nat) : Int :=
  let l := tonePattern nor code
  let len := toneLength l
  let find := l.foldl (fun (p : Nat × Option (ToneSeg × Nat)) s =>
    match p.2 with
    | some _ => p
    | none => if p.1 < 48 * s.dur then (p.1, some (s, p.1)) else (p.1 - 48 * s.dur, none)) (if len = 0 then 0 else n % len, none)
  match find.2 with
  | none => 0
  | some (s, k) => byGain (dbGain (-(50 * (s.atten : Int)))) (segSample s k (48 * s.dur))

/-! ## Programmes (R230) -/

/-- The directory entry of a message. -/
def msgEntry (k : Nat) : Nat := 0x40 + 32 * k

/-- Sample `n` of message `k` with its LEVEL; silence past its end (R229, R232). -/
def msgSample (nor : Mem) (k n : Nat) : Int :=
  let e := msgEntry k
  if nor.rdN (e + 4) 4 ≤ n then 0
  else byGain (dbGain (sx 16 (nor.rdN (e + 0xC) 2))) (sx 24 (nor.rdN (nor.rdN e 4 + 3 * n) 3) * 256)

/-- The tone of a plan: its own, or pattern 1 (R228, R230). -/
def Ctl.planTone (c : Ctl) (p : Nat) : Nat := if c.inForce R.PLAN_TONE_EN p = 1 then c.inForce R.PLAN_TONE p else 1

/-- The sample of a plan's programme. -/
def Ctl.progSample (c : Ctl) (nor : Mem) (p : Nat) (g : Prog) : Int :=
  if g.phase = 0 then (if g.tone then toneSample nor (c.planTone p) g.pos else 0)
  else if g.phase = 1 then msgSample nor (c.inForce R.PLAN_MSG p) g.pos
  else 0

/-- The samples of the phase that a programme is in: the tone's span or pattern, the message, the gap. -/
def Ctl.progLength (c : Ctl) (nor : Mem) (p : Nat) (g : Prog) : Nat :=
  if g.phase = 0 then (if g.msg then 48000 * c.inForce R.STORM_CFG_TONE_SPAN else toneLength (tonePattern nor (c.planTone p)))
  else if g.phase = 1 then nor.rdN (msgEntry (c.inForce R.PLAN_MSG p) + 4) 4
  else 48000 * c.inForce R.STORM_CFG_GAP

/-- STORM_PROGRAMME_STEP: the programme of a plan, at the end of its tone, message or gap, moves on (R230). A message or tone cycle
ends with it. -/
def stormProgrammeStep (p : Nat) (x : Mach) : Mach :=
  let c := x.c
  match kget? c.storm.progs p with
  | none => x
  | some g =>
    if g.pos < c.progLength x.m.nor p g then x
    else
      let tone := c.inForce R.PLAN_TONE_EN p == 1
      let next := if !g.msg then 0 else if !tone then 1 else (g.phase + 1) % 3
      let zs := c.drivenZones.filter (fun z => c.get R.STORM_CAUSE_PLAN z == p && !c.is R.STORM_CAUSE_NOPLAN z)
      let st := c.storm
      { x with c := { c with storm := { st with progs := kput st.progs p { g with phase := next, pos := 0 },
                                                atEnd := st.atEnd.filter (fun z => !zs.contains z) ++ zs } } }

/-! ## Zone signals (R231, R232) -/

/-- The microphone that a zone plays in place of its programme: EMIC0 wins (R231). -/
def Ctl.micOfZone (c : Ctl) (z : Nat) : Option Nat :=
  let on := fun (r : Reg) (n : Nat) => c.inForce r z == 1 && c.get R.STORM_EMIC_PTT n == 2
  if on R.STORM_ZONE_EMIC0 0 then some 0 else if on R.STORM_ZONE_EMIC1 1 then some 1 else none

/-- The zones for which the storm door forms a signal: those it drives and those it is fading out of. -/
def Ctl.stormZones (c : Ctl) : List Nat :=
  (List.range 128).filter (fun z => c.driven z || cget c.storm.fadeOut z != 0)

/-- The signal of one zone at a sample, through its biquads and gain; `mics` are the two microphones' samples. -/
def Ctl.zoneSample (c : Ctl) (nor : Mem) (mics : List Int) (z : Nat) : Int × List BqMem :=
  let x := match c.micOfZone z with
    | some n => mics.getD n 0
    | none => match c.zonePlan z with
      | none => 0
      | some p => c.progSample nor p (kgetD c.storm.progs p {})
  let sets := (List.range 8).map (fun i => kgetD c.storm.bqForce (8 * z + i) {})
  let q := bqChain sets (kgetD c.storm.zmem z []) [x]
  (byGain (dbGain (sx 16 (c.inForce R.STORM_ZONE_GAIN z))) (q.1.headD 0), q.2)

/-- Whether some zone plays a plan's programme: one that plays a microphone in its place does not (R231). -/
def Ctl.heard (c : Ctl) (p : Nat) : Bool := c.stormZones.any (fun z => (c.micOfZone z).isNone && c.zonePlan z == some p)

/-- The next storm sample (R230 to R232): the signal of every zone, and every programme that a zone plays one sample further. What a
converter gives for a microphone comes from outside: a free value. -/
def Ctl.stormNext (c : Ctl) (nor : Mem) : Ctl :=
  let m0 := c.free 24
  let m1 := m0.2.free 24
  let mics := [sx 24 m0.1 * 256, sx 24 m1.1 * 256]
  let c := if c.stormZones.any (fun z => (c.micOfZone z).isSome) then m1.2 else c
  let zs := c.stormZones.map (fun z => (z, c.zoneSample nor mics z))
  let less := fun (m : Counts) => m.filterMap (fun e => if e.2 ≤ 1 then none else some (e.1, e.2 - 1))
  let st := c.storm
  { c with storm := { st with
      sigPrev := st.sig, sig := zs.map (fun e => (e.1, e.2.1)), fadeNow := st.fadeIn, outNow := st.fadeOut
      zmem := zs.map (fun e => (e.1, e.2.2)), fadeIn := less st.fadeIn, fadeOut := less st.fadeOut
      progs := st.progs.map (fun e => (e.1, if c.heard e.1 then { e.2 with pos := e.2.pos + 1 } else e.2)) } }

/-- The storm door's part of a frame of link `l`: a link that has sent the storm sample at hand begins the next one. At 96 kHz a
sample serves two frames (R232). -/
def Ctl.stormFrame (c : Ctl) (nor : Mem) (l : Nat) : Ctl :=
  if c.stormZones.isEmpty then
    { c with storm := { c.storm with linkSent := [], half := false, sig := [], sigPrev := [], fadeNow := [], outNow := [] } }
  else
    let fresh := c.storm.linkSent.isEmpty || c.storm.linkSent.contains l
    let step := fresh && (!c.rate96 || !c.storm.half)
    let c := if step then c.stormNext nor else c
    { c with storm := { c.storm with linkSent := if fresh then [l] else l :: c.storm.linkSent,
                                     half := if fresh then c.rate96 && !c.storm.half else c.storm.half } }

/-- The storm sample of a feed of zone `z` (R232, R235): the zone's signal, faded in over 48 samples, times STORM_FEED.TRIM; zero on a
line that is SHORT. At 96 kHz the first of two frames lies half-way between two samples. -/
def Ctl.stormSample (c : Ctl) (f z : Nat) : Int :=
  if c.get R.STORM_FEED_LINE f = 3 then 0
  else
    let st := c.storm
    let now := kgetD st.sig z 0
    let x := if c.rate96 && st.half then (kgetD st.sigPrev z 0 + now) / 2 else now
    let left := cget st.fadeNow z
    let x := if left = 0 then x else x * ((49 - left : Nat) : Int) / 48
    byGain (dbGain (50 * sx 8 (c.inForce R.STORM_FEED_TRIM f))) x

/-- What a feed carries while its zone fades back to the render (R237): both linearly per sample over one window. -/
def Ctl.fadeBack (c : Ctl) (f z : Nat) (render : Int) : Int :=
  let s := c.winS
  let j := s - cget c.storm.outNow z
  (c.stormSample f z * ((s - 1 - j : Nat) : Int)) / s + render * ((j + 1 : Nat) : Int) / s

end Sys2Proof.Machine
end

