-- ==== Sys2Proof/Machine/Amp.lean ====
section
/-! DEFINITION. Amplifier links: the downlink frame, the back-channel, reports and bring-up (spec/13 R333 to R348), and line
watch (spec/16 R420 to R425, R435). -/
namespace Sys2Proof.Machine

/-- Raises an AMP or LINE event once per window. -/
def Ctl.ampOnce (c : Ctl) (ev info detail : Nat) : Ctl :=
  if c.amp.once.contains ev then c else { c with amp := { c.amp with once := ev :: c.amp.once } }.raise ev info detail

/-- Channels of an amplifier link. -/
def Ctl.linkChans (c : Ctl) : Nat := if c.rate96 then 48 else 96

/-- A link changes state (R344). -/
def Ctl.ampState (c : Ctl) (l v : Nat) : Ctl :=
  let c := { c with amp := { c.amp with good := cset c.amp.good l 0, bad := cset c.amp.bad l 0 } }
  if c.get R.AMP_LINK_STATE l = v then c
  else ((c.set R.AMP_LINK_STATE v l).set R.AMP_STATUS_LINK_SEEN 1).raise Ev.AMP_LINK l v

/-! ## The downlink frame (R334 to R337) -/

/-- Whether the storm door's copies in force let it drive a feed (R232). -/
def Ctl.stormFeed (c : Ctl) (f : Nat) : Bool := c.inForce R.STORM_FEED_EN f == 1 && !c.is R.STORM_FEED_NOZONE f

/-- What channel `ch` of a link sends in slot `k`: sample, shutter bit, and whether it is a storm sample (R235 to R237). -/
def Ctl.linkSample (c : Ctl) (l k ch : Nat) : Nat × Bool × Bool :=
  let f := l * c.linkChans + ch
  let all := c.is R.STORM_STATUS_ALL_LINKS
  let role := c.get R.HNG_STATUS_ROLE
  let runs := !all && (role = 2 || (role = 0 && c.is R.WIN_STATUS_RUN))
  let render := if runs then (c.feedOut f).getD k 0 else 0
  let code := fun (x : Int) => ux 32 x / 256
  let z := c.get R.STORM_FEED_ZONE f
  if c.stormFeed f && (all || runs) && c.driven z then (code (c.stormSample f z), true, true)
  else if c.stormFeed f && runs && cget c.storm.outNow z != 0 then (code (c.fadeBack f z render), true, true)
  else if !runs then (0, false, false)
  else (code render, bit (c.get R.SHUT_OPEN (f / 32)) (f % 32) || bit (cget c.fire.closing (f / 32)) (f % 32), false)

/-- The channels of a link in slot `k`: samples, shutter bits, storm marks. -/
def Ctl.linkSamples (c : Ctl) (l k : Nat) : List (Nat × Bool × Bool) := (List.range c.linkChans).map (c.linkSample l k)

/-- `n` octets of a value, least significant first. -/
def octets (n v : Nat) : List Nat := (leBytes n v).map (·.toNat)

/-- Shutter bits as octets. -/
def bitOctets (n : Nat) (l : List Bool) : List Nat :=
  (List.range n).map (fun k => (List.range 8).foldl (fun v b => v + b2n (l.getD (8 * k + b) false) * 2 ^ b) 0)

/-- The header octets 1 to 15 (R335). -/
def Ctl.linkHeader (c : Ctl) (l k : Nat) (storm : Bool) : List Nat :=
  let all := c.is R.STORM_STATUS_ALL_LINKS
  let role := c.get R.HNG_STATUS_ROLE
  let solo := !c.is R.HNG_CFG_MODE
  let active := if all then solo else role == 2 || (role == 0 && c.is R.WIN_STATUS_RUN)
  let run := !all && c.is R.WIN_STATUS_RUN
  [(if solo then 0 else c.get R.HNG_CFG_RANK) + 4 * b2n active + 8 * b2n (storm || all) + 16 * b2n c.rate96 + 32 * b2n run + 64,
    l, c.node % 64] ++ octets 2 (cget c.amp.seqs l) ++ octets 4 (if all then 0 else c.winNo) ++
    [k % 64 + 64 * c.get R.WIN_CTRL_LEN] ++ octets 2 (c.get R.HNG_CFG_GROUP) ++ [0, 0, 0]

/-- The control block (R336). -/
def Ctl.linkControl (c : Ctl) (l : Nat) : List Nat :=
  let msg := c.is R.AMP_MSG_TX_BUSY l
  [c.get R.AMP_PILOT_EN + 2 * c.get R.AMP_PILOT_LVL + 16 * c.get R.AMP_PILOT_FREQ,
    if msg then c.get R.AMP_MSG_TX_ADDR l + 32 else 0] ++ octets 2 (if msg then c.get R.AMP_MSG_TX_DATA l else 0) ++ List.replicate 12 0

/-- DOWNLINK_FRAME_SEND: a link sends the frame of one sample period (R334 to R337). -/
def downlinkFrameSend (l : Fin 8) (x : Mach) : Mach :=
  if x.c.get R.AMP_LINK_STATE l = 0 then x
  else
    let c := x.c.stormFrame x.m.nor l
    let k := cget c.amp.sent l % c.winSamples
    let r := c.linkSamples l k
    let body := c.linkHeader l k (r.any (·.2.2)) ++ r.flatMap (fun e => octets 3 e.1) ++ bitOctets 12 (r.map (·.2.1)) ++
      c.linkControl l
    let body := body ++ List.replicate ((if c.rate96 then 251 else 507) - body.length) 0
    let crc := crc32 (body.map (BitVec.ofNat 8))
    let c := (c.emit (.downlink l (0xBC :: body ++ octets 4 crc))).set R.AMP_MSG_TX_BUSY 0 l
    { x with c := { c with amp := { c.amp with seqs := cset c.amp.seqs l ((cget c.amp.seqs l + 1) % 65536), sent := cset c.amp.sent l (k + 1) } } }

/-! ## Line watch (R420 to R425) -/

/-- The zones that have an enabled feed whose LINE is not OK, as LINE_ZONE words (R423). -/
def Ctl.lineMap (c : Ctl) : List Nat :=
  let zs := (c.enabledFeeds.filter (fun f => !c.is R.FEED_NOZONE f && c.get R.FEED_LINE f != 1)).map (c.get R.FEED_ZONE ·)
  (List.range 4).map (fun i => (zs.filter (fun z => z / 32 == i)).foldl (fun w z => setBit w (z % 32)) 0)

/-- Brings LINE_ZONE, LINE_STATUS.FAULTS and FIRE_FAULT.LINE up to date. -/
def Ctl.lineShow (c : Ctl) : Ctl :=
  let m := c.lineMap
  let c := c.each (List.range 4) (fun c i =>
    let was := c.get R.LINE_ZONE_MAP i
    let now := m.getD i 0
    (c.set R.LINE_ZONE_MAP now i).each (bitsOf 32 (Nat.xor was now)) (fun c b => c.raise Ev.LINE_ZONE 0 (32 * i + b)))
  (c.set R.LINE_STATUS_FAULTS (c.enabledFeeds.filter (fun f => 2 ≤ c.get R.FEED_LINE f)).length).faults

/-- A feed's LINE takes a new state (R421); a SHORT closes its shutter, but on a standby (R218, R425). -/
def Ctl.lineSet (c : Ctl) (f v : Nat) : Ctl :=
  let c := ((c.set R.FEED_LINE v f).set R.LINE_FEED_STATE v f).set R.STORM_FEED_LINE v f
  let c := if v = 1 then c.raise Ev.LINE_OK 0 f
    else if v = 2 then (c.set R.LINE_STATUS_OPEN_SEEN 1).raise Ev.LINE_OPEN 0 f
    else (c.set R.LINE_STATUS_SHORT_SEEN 1).raise Ev.LINE_SHORT 0 f
  let c := if v = 3 && c.get R.HNG_STATUS_ROLE != 3 then
      (if bit (c.get R.SHUT_OPEN (f / 32)) (f % 32) then c.jot 0 ((0xD0180 + 4 * (f / 32)) / 4) (2 ^ (f % 32)) else c).shutAuto f
    else c
  c.lineShow

/-- The class of a measurement (R421): 1 OK, 2 OPEN, 3 SHORT, 0 UNKNOWN. -/
def Ctl.lineClass (c : Ctl) (f z i : Nat) : Nat :=
  let z0 := c.get R.LINE_FEED_BASE_Z f
  let base := c.is R.LINE_FEED_BASE_VALID f
  if z < 20 || (base && 16 * z < z0 * c.get R.LINE_CFG_SHORT_FRAC) then 3
  else if i < 5 || (base && z0 * c.get R.LINE_CFG_OPEN_MUL < z) then 2
  else if base then 1 else 0

/-- LINE_MEASUREMENT: one pilot measurement of an enabled feed (R420, R421, R424). -/
def Ctl.lineMeasure (c : Ctl) (f v i ph : Nat) : Ctl :=
  let z := if i = 0 then 2 ^ 32 else 1000 * v / i
  let k := c.lineClass f z i
  let z0 := c.get R.LINE_FEED_BASE_Z f
  let drift := k == 1 && (z0 * c.get R.LINE_CFG_TOL < 100 * ((z : Int) - z0).natAbs ||
    32 < (sx 8 (ph + 256 - c.get R.LINE_FEED_BASE_PH f)).natAbs)
  let q := kgetD c.amp.line f {}
  let run := if q.cls = k then min 7 (q.run + 1) else 1
  let add := c.amp.cal && q.n < 16
  let q := { q with cls := k, run := run }
  let q := if add then { q with n := q.n + 1, sumZ := q.sumZ + min 65535 z, sumPh := q.sumPh + sx 8 ph } else q
  let c := { c with amp := { c.amp with line := kput c.amp.line f q } }
  let newly := drift && !c.is R.LINE_FEED_DRIFT f
  let c := (((c.set R.LINE_FEED_Z (min 65535 z) f).set R.LINE_FEED_PH ph f).set R.LINE_FEED_NOMEAS 0 f).set R.LINE_FEED_DRIFT (b2n drift) f
  let c := if newly then (c.set R.LINE_STATUS_DRIFT_SEEN 1).raise Ev.LINE_DRIFT 0 f else c
  if k != 0 && k != c.get R.FEED_LINE f && c.get R.LINE_CFG_CONFIRM ≤ run then c.lineSet f k else c

/-! ## The back-channel (R338, R339, R344, R345) -/

/-- One step of CRC-16 with its highest bit first. -/
def crc16Step (r : Nat) : Nat := if 32768 ≤ r then Nat.xor (2 * r % 65536) 0x1021 else 2 * r

/-- A byte into a CRC-16 register. -/
def crc16Byte (r : Nat) (b : Byte) : Nat :=
  let s := crc16Step
  s (s (s (s (s (s (s (s (Nat.xor r (256 * b.toNat)))))))))

/-- CRC-16 of the back-channel frame (R338). -/
def crc16 (l : List Byte) : Nat := l.foldl crc16Byte 0xFFFF

/-- Octet `k` of the last valid report of entry `i` (R339). -/
def Ctl.rptOctet (c : Ctl) (i k : Nat) : Nat :=
  if k < 12 then c.get R.AMP_RPT_OCTETS (3 * i + k / 4) / 2 ^ (8 * (k % 4)) % 256
  else c.get R.AMP_RPT_OCTETS12 i / 2 ^ (8 * (k - 12)) % 256

/-- Whether an address of a link is present. -/
def Ctl.ampPresent (c : Ctl) (l a : Nat) : Bool := bit (c.get R.AMP_LINK_PRESENT l) a

/-- Presence of an address changes (R345). -/
def Ctl.setPresent (c : Ctl) (l a : Nat) (on : Bool) : Ctl :=
  if c.ampPresent l a = on then c
  else
    let m := putBit (c.get R.AMP_LINK_PRESENT l) a on
    (((c.set R.AMP_LINK_PRESENT m l).set R.AMP_LINK_AMPS (bitsOf 32 m).length l).set R.AMP_STATUS_PRESENT_SEEN 1).raise
      Ev.AMP_PRESENT l (a + 256 * b2n on)

/-- Whether the channel ranges of two reports overlap. -/
def Ctl.rptOverlap (c : Ctl) (i j : Nat) : Bool :=
  c.rptOctet i 2 < c.rptOctet j 2 + c.rptOctet j 3 && c.rptOctet j 2 < c.rptOctet i 2 + c.rptOctet i 3

/-- The present amplifiers of a link whose range overlaps that of address `a`. -/
def Ctl.overlaps (c : Ctl) (l a : Nat) : List Nat :=
  (bitsOf 32 (c.get R.AMP_LINK_PRESENT l)).filter (fun b => b != a && c.rptOverlap (32 * l + a) (32 * l + b))

/-- The lowest-addressed present amplifier of a link that plays a channel (R420). -/
def Ctl.ampOf (c : Ctl) (l ch : Nat) : Option Nat :=
  (bitsOf 32 (c.get R.AMP_LINK_PRESENT l)).find? (fun a =>
    c.rptOctet (32 * l + a) 2 ≤ ch && ch < c.rptOctet (32 * l + a) 2 + c.rptOctet (32 * l + a) 3)

/-- What a report changes beside its octets: FOLLOW, faults, errors and wiring (R345). -/
def Ctl.reportEffects (c : Ctl) (l a : Nat) (known : Bool) (was now : Nat → Nat) : Ctl :=
  let info := 32 * l + a
  let follow := now 0 / 64
  let c := c.when (known && was 0 / 64 != follow) (·.raise Ev.AMP_FOLLOW l (a + 256 * follow))
  let bad := now 1 &&& 0x98
  let fresh := andNot 8 bad (if known then was 1 else 0)
  let c := if fresh = 0 then c else (c.set R.AMP_STATUS_FAULT_SEEN 1).raise Ev.AMP_FAULT l (a + 256 * fresh)
  let c := c.when (known && was 4 != now 4) (·.ampOnce Ev.AMP_DLERR l a)
  let c := c.when (known && (was 12 != now 12 || was 13 != now 13)) (·.raise Ev.AMP_MSG l a)
  let c := c.when (bit (now 1) 6 && !(known && bit (was 1) 6)) (·.raise Ev.AMP_MUTED l a)
  let c := c.when (bit (now 1) 5) (·.ampOnce Ev.AMP_CLIP l a)
  let rank := c.get R.HNG_CFG_RANK
  let wiring := now 1 % 8 == 2 ^ rank && follow != rank && follow != 3
  let entry := wiring && !c.is R.HNG_STATUS_WIRING_SEEN
  let c := c.when wiring (·.set R.HNG_STATUS_WIRING_SEEN 1)
  c.when entry (·.raise Ev.HNG_LINK 0 info)

/-- AMP_REPORT_RECEIVE: a valid report of address `a` (R339, R345). -/
def Ctl.ampReport (c : Ctl) (l a : Nat) (b : List Byte) : Ctl :=
  let i := 32 * l + a
  let now := fun (k : Nat) => (b.getD k 0).toNat
  let known := c.ampPresent l a
  let was := c.rptOctet i
  let clash := known && !(c.overlaps l a).isEmpty
  let c := c.reportEffects l a known was now
  let c := c.each [0, 1, 2] (fun c w => c.set R.AMP_RPT_OCTETS (leVal ((b.drop (4 * w)).take 4)) (3 * i + w))
  let c := (c.set R.AMP_RPT_OCTETS12 (leVal ((b.drop 12).take 2)) i).set R.AMP_RPT_AGE 0 i
  let c := c.setPresent l a true
  let c := if clash || (c.overlaps l a).isEmpty then c else (c.set R.AMP_STATUS_CHAN_SEEN 1).raise Ev.AMP_CHAN l a
  let ch := now 6
  let f := l * c.linkChans + ch
  if ch < c.linkChans && c.is R.FEED_EN f && c.ampOf l ch = some a then
    c.lineMeasure f (now 7 + 256 * now 8) (now 9 + 256 * now 10) (now 11)
  else c

/-- HNG_FOLLOW of a link, from the present reports (R345). -/
def Ctl.followShow (c : Ctl) (l : Nat) : Ctl :=
  let fs := (bitsOf 32 (c.get R.AMP_LINK_PRESENT l)).map (fun a => c.rptOctet (32 * l + a) 0 / 64)
  let rank := c.get R.HNG_CFG_RANK
  let me := (fs.filter (· == rank)).length
  let none_ := (fs.filter (· == 3)).length
  (((c.set R.HNG_FOLLOW_ME me l).set R.HNG_FOLLOW_OTHER (fs.length - me - none_) l).set R.HNG_FOLLOW_NONE none_ l).showDual

/-- The end of a superframe: the ages of every address that has reported, and HNG_FOLLOW (R345). -/
def Ctl.superframe (c : Ctl) (l : Nat) : Ctl :=
  let c := c.each ((List.range 32).filter (fun a => bit (c.rptOctet (32 * l + a) 0) 5)) (fun c a =>
    c.set R.AMP_RPT_AGE (min 65535 (c.get R.AMP_RPT_AGE (32 * l + a) + 1)) (32 * l + a))
  c.followShow l

/-- A report slot of 15 octets (R338, R339). -/
def Ctl.reportSlot (c : Ctl) (l a : Nat) (b : List Byte) : Ctl :=
  if crc8 0x07 (b.take 14) != (b.getD 14 0).toNat then
    ((c.inc R.AMP_LINK_RPT_BAD l).set R.AMP_STATUS_BCH_ERR_SEEN 1).ampOnce Ev.AMP_BCH_ERR l a
  else if (b.getD 0 0).toNat % 64 != a + 32 then c
  else c.ampReport l a b

/-- BACKCHANNEL_FRAME_RECEIVE: the 63 octets after the comma of a back-channel frame, and whether a code violation fell in it
(R338, R344). -/
def backchannelFrameReceive (l : Fin 8) (violation : Bool) (b : List Byte) (c : Ctl) : Ctl :=
  let st := c.get R.AMP_LINK_STATE l
  if st = 0 then c
  else if violation || b.length != 63 || crc16 (b.take 61) != leVal (b.drop 61) then
    let c := ((c.inc R.AMP_LINK_BCH_BAD l).set R.AMP_STATUS_BCH_ERR_SEEN 1).ampOnce Ev.AMP_BCH_ERR l 0
    let n := cget c.amp.bad l + 1
    let c := { c with amp := { c.amp with bad := cset c.amp.bad l n, good := cset c.amp.good l 0 } }
    if st = 2 && 8 ≤ n then c.ampState l 3 else c
  else
    let n := min 48 (cget c.amp.good l + 1)
    let c := { c with amp := { c.amp with good := cset c.amp.good l n, bad := cset c.amp.bad l 0 } }
    let c := if st != 2 && n = 48 then c.ampState l 2 else c
    let phase := (b.getD 0 0).toNat % 8
    let c := c.each [0, 1, 2, 3] (fun c r => c.reportSlot l (4 * phase + r) ((b.drop (1 + 15 * r)).take 15))
    if phase = 7 then c.superframe l else c

/-- BACKCHANNEL_COMMA_LOSS (R344). -/
def backchannelCommaLoss (l : Fin 8) (c : Ctl) : Ctl := if c.get R.AMP_LINK_STATE l = 2 then c.ampState l 3 else c

/-- AMP_ADDRESS_ABSENT: 8 superframes have passed without a valid report (R345). -/
def ampAddressAbsent (l : Fin 8) (a : Fin 32) (c : Ctl) : Ctl :=
  if c.ampPresent l a then (c.setPresent l a false).followShow l else c

/-! ## Register writes (R348, R435) -/

/-- An AMP write's status. -/
def Ctl.ampStatus (c : Ctl) (code : Nat) : Ctl := c.status R.AMP_STATUS_LAST R.AMP_STATUS_ERR_STATE Ev.AMP_STATE code

/-- Whether any shutter of a link is open. -/
def Ctl.linkOpen (c : Ctl) (l : Nat) : Bool :=
  (List.range c.linkChans).any (fun ch => let f := l * c.linkChans + ch; bit (c.get R.SHUT_OPEN (f / 32)) (f % 32))

/-- AMP_CTRL_WRITE: links come on under the ledger, all or none, and go off only with every shutter closed (R38, R348). -/
def ampCtrlWrite (d : Nat) (c : Ctl) : Ctl :=
  let new := R.AMP_CTRL_EN.of d
  let was := c.get R.AMP_CTRL_EN
  if (bitsOf 8 (andNot 8 was new)).any c.linkOpen then c.ampStatus 1
  else
    let p := c.enableBlocks (bitsOf 8 (andNot 8 new was)) (fun l c => c.blockSet (33 + l) true)
    if p.2 != 0 then p.1.ampStatus 5
    else
      let c := (p.1.set R.AMP_CTRL_EN new).each (bitsOf 8 (andNot 8 was new)) (fun c l => c.ampState l 0)
      let c := c.each (bitsOf 8 (andNot 8 new was)) (fun c l => c.ampState l 1)
      c.ledgShow.ampStatus 0

/-- A write of AMP_PILOT: the keeper's alone (R348). -/
def Ctl.ampPilot (c : Ctl) (m : Master) (d : Nat) : Ctl :=
  if m != .keeper then (c.denied m 0xC0008).ampStatus 4
  else if !rangeAt 0xC0008 d then c.ampStatus 2
  else (c.storeAt 0xC0008 d).ampStatus 0

/-- AMP_MSG_SEND: a write of AMP_MSG_TX[l] with SEND = 1 (R336, R348). -/
def ampMsgSend (l : Fin 8) (addr : Fin 32) (data : Nat) (c : Ctl) : Ctl :=
  if c.is R.AMP_MSG_TX_BUSY l then c.ampStatus 3
  else (((c.set R.AMP_MSG_TX_ADDR addr l).set R.AMP_MSG_TX_DATA data l).set R.AMP_MSG_TX_BUSY 1 l).ampStatus 0

/-- A write to the AMP block at offset `off`. -/
def Ctl.ampWrite (c : Ctl) (m : Master) (off d : Nat) : Ctl :=
  let a := 0xC0000 + off
  if off = 0 then ampCtrlWrite d c
  else if off = 8 then c.ampPilot m d
  else if 0xC0 ≤ off && off < 0xE0 then
    let l := (off - 0xC0) / 4
    if R.AMP_MSG_TX_SEND.of d = 1 then
      ampMsgSend (Fin.ofNat 8 l) (Fin.ofNat 32 (R.AMP_MSG_TX_ADDR.of d)) (R.AMP_MSG_TX_DATA.of d) c
    else (c.storeAt a d).ampStatus 0
  else c.storeAt a d

/-- A write to the LINE block at offset `off` (R435). -/
def Ctl.lineWrite (c : Ctl) (off d : Nat) : Ctl :=
  let a := 0xC8000 + off
  let st := fun (c : Ctl) (k : Nat) => c.status R.LINE_STATUS_LAST R.LINE_STATUS_ERR_STATE Ev.LINE_STATE k
  if off != 0 then c.storeAt a d
  else if !rangeAt a d then st c 2
  else if (List.range 64).any (fun p => c.is R.PLAN_STATE p) then st c 1
  else st (c.storeAt a d) 0

end Sys2Proof.Machine
end

