-- ==== Sys2Proof/Machine/Dram.lean ====
section
/-! DEFINITION. The DRAM controller, the bus matrix and the common queues (R351 to R383): queues and watermarks, the
pick at a command slot, self-refresh, THAW, matrix grants and timeouts, queue resets and DROP_PKT. -/
namespace Sys2Proof.Machine

/-! ## Queues (R355, R356, R379) -/

/-- The requests of a channel. -/
def Ctl.dramQ (c : Ctl) (ch : Nat) : List DramReq := if ch = 0 then c.dram.q0 else c.dram.q1

/-- Whether a requester shares the bank queues (R355). -/
def DramReq.priv (r : DramReq) : Bool := 5 ≤ r.req && r.req < 10

/-- Sets a channel's requests, with DEPTH, PRIV and the watermarks. -/
def Ctl.setDramQ (c : Ctl) (ch : Nat) (q : List DramReq) : Ctl :=
  let x := crossed (c.dramQ ch).length q.length (c.get R.DRAM_QWM_HIGH) (c.get R.DRAM_QWM_LOW)
  let c := { c with dram := if ch = 0 then { c.dram with q0 := q } else { c.dram with q1 := q } }
  let c := (c.set R.DRAM_Q_DEPTH q.length ch).set R.DRAM_Q_PRIV (q.filter DramReq.priv).length ch
  let c := (c.when x.1 (·.set R.DRAM_Q_HI_SEEN 1 ch)).when x.2 (·.set R.DRAM_Q_LO_SEEN 1 ch)
  if x.1 || x.2 then
    ((c.inc R.DRAM_Q_CROSS ch (b2n x.1 + b2n x.2)).set R.DRAM_STATUS_WM_SEEN 1).raise Ev.DRAM_WM
  else c

/-- Whether a channel has room for a request: 64 general ones, or 4 in the bank queue of its bank (R356). -/
def Ctl.dramRoom (c : Ctl) (r : DramReq) : Bool :=
  let q := c.dramQ (dramChan r.addr)
  if r.priv then (q.filter (fun s => s.priv && dramBank s.addr == dramBank r.addr)).length < 4
  else (q.filter (fun s => !s.priv)).length < 64

/-- The class that a request carries (R355, R371): that of the matrix master, D for the scrubber, that of the keeper's work,
otherwise as presented. -/
def Ctl.dramClass (c : Ctl) (req : Nat) (m : Master) (cls : Nat) : Nat :=
  if req = 10 then 3
  else if req = 9 then (if c.keeperBusy || c.keep.down then 0 else 3)
  else if req = 4 then
    match m with
    | .seq y => (kgetD c.seqs y {}).sclass
    | .agent i => if i.val = 3 then c.masterClass m else cls
    | _ => c.masterClass m
  else cls

/-- DRAM_REQUEST_ACCEPT: a request for bytes of one line, with what it stores if it is a write. It waits at its requester
while there is no room, and before DRAM is trained. -/
def dramRequestAccept (req : Fin 11) (m : Master) (cls : Fin 4) (addr : BitVec 40) (len : Fin 65) (data : Option (List Byte))
    (c : Ctl) : Ctl :=
  let a := addr.toNat
  let n := min (max len.val 1) (64 - a % 64)
  let r : DramReq :=
    { num := c.dram.accepted, req := req.val, master := m.num, cls := c.dramClass req.val m cls.val,
      addr := a, len := n, isWrite := data.isSome, write := data.getD [] }
  let mode := c.get R.DRAM_STATUS_MODE
  if mode = 3 then c.emit (.busResult 16)
  else if c.usable < a + n then
    if req.val = 4 then (c.mtxFault 2 m a data.isSome 6).emit (.busResult 6) else c.emit (.busResult 6)
  else if mode = 0 || !c.dramRoom r then c
  else
    let ch := dramChan a
    let c := { c with dram := { c.dram with accepted := c.dram.accepted + 1 } }
    c.setDramQ ch (c.dramQ ch ++ [r])

/-! ## The pick at a command slot (R357, R359) -/

/-- Whether an earlier request of the queue is for the same line. -/
def DramReq.blocked (q : List DramReq) (r : DramReq) : Bool := q.any (fun s => s.addr / 64 == r.addr / 64 && s.num < r.num)

/-- The precedence of a request: 0 is the highest (R358). -/
def DramReq.prec (r : DramReq) : Nat := if r.aged then 0 else r.cls

/-- Whether a request hits an open row. -/
def Ctl.dramHit (c : Ctl) (r : DramReq) : Bool :=
  cget c.dram.rows (16 * dramChan r.addr + dramBank r.addr) == dramRow r.addr + 1

/-- Row hits before the others, then the oldest. -/
def Ctl.dramOldest (c : Ctl) (l : List DramReq) : Option DramReq :=
  let hits := l.filter c.dramHit
  (if hits.isEmpty then l else hits).head?

/-- The request that a channel serves, when the activate timing permits the banks listed. -/
def Ctl.dramPick (c : Ctl) (ch banks : Nat) : Option DramReq :=
  let q := c.dramQ ch
  let ready := q.filter (fun r => !r.blocked q)
  let top := ready.foldl (fun n r => min n r.prec) 4
  let l := ready.filter (fun r => r.prec == top)
  let order := (List.range 16).map (fun k => (cget c.dram.lastBank ch + 1 + k) % 16)
  let now := order.filter (fun b => bit banks b && l.any (fun r => r.priv && dramBank r.addr == b))
  match now with
  | b :: _ => c.dramOldest (l.filter (fun r => r.priv && dramBank r.addr == b))
  | [] => c.dramOldest (l.filter (fun r => !r.priv))

/-! ## Serving a request (R352, R354, R361) -/

/-- The chunks that a request touches. -/
def DramReq.chunks (r : DramReq) : List Nat := (List.range 3).map (r.addr / 32 + ·) |>.filter (fun k => 32 * k < r.addr + r.len)

/-- Whether a request covers a whole chunk. -/
def DramReq.covers (r : DramReq) (k : Nat) : Bool := r.addr ≤ 32 * k && 32 * k + 32 ≤ r.addr + r.len

/-- The chunks that a request reads and checks: all of a read's, and those that a write covers in part. -/
def DramReq.checked (r : DramReq) : List Nat := r.chunks.filter (fun k => !r.isWrite || !r.covers k)

/-- An activate: the row opens, and the neighbours are refreshed with probability 2^-K (R361). -/
def Ctl.dramActivate (c : Ctl) (r : DramReq) : Ctl :=
  if c.dramHit r then c
  else
    let k := 16 * dramChan r.addr + dramBank r.addr
    let c := { c with dram := { c.dram with rows := cset c.dram.rows k (dramRow r.addr + 1) } }
    let p := c.free (c.get R.DRAM_PARA_K)
    if p.1 = 0 then p.2.inc R.DRAM_PARA_COUNT else p.2

/-- A corrected chunk (R352, R381). -/
def Ctl.dramCorrected (c : Ctl) : Ctl :=
  let c := (c.inc R.DRAM_CORR).set R.DRAM_STATUS_CORR_SEEN 1
  if c.dram.once.contains Ev.DRAM_CORR then c
  else { c with dram := { c.dram with once := Ev.DRAM_CORR :: c.dram.once } }.raise Ev.DRAM_CORR

/-- A request served within another command: a read, or a write that covers a chunk in part, freezes the controller on a
chunk that is known to be uncorrectable. The second component says whether it was served. -/
def Ctl.dramWithin (c : Ctl) (r : DramReq) : Ctl × Bool :=
  let p := c.dramTouch r.req r.master r.cls r.isWrite r.addr r.len
  if !p.2 then p
  else
    let c := p.1.dramActivate r
    ({ c with dram := { c.dram with lines := cset c.dram.lines r.cls (cget c.dram.lines r.cls + 1) } }, true)

/-- A request is served: checked, carried out and counted. -/
def Mach.dramServe (x : Mach) (ch : Nat) (r : DramReq) (ecc : EccOut) : Mach :=
  let c := x.c.dramActivate r
  let c := if r.priv then { c with dram := { c.dram with lastBank := cset c.dram.lastBank ch (dramBank r.addr) } } else c
  let found := match ecc with
    | .bad _ => r.checked.head?
    | _ => r.checked.find? (fun k => c.dram.bad.contains k)
  match found with
  | some k => { x with c := c.dramFreeze r k (ecc == .bad true) }
  | none =>
    let c := if ecc == .corrected && !r.checked.isEmpty then c.dramCorrected else c
    let c := c.setDramQ ch ((c.dramQ ch).filter (fun s => s.num != r.num))
    let c := { c with dram := { c.dram with lines := cset c.dram.lines r.cls (cget c.dram.lines r.cls + 1) } }
    if r.isWrite then
      let bad := c.dram.bad.filter (fun k => !(r.chunks.contains k && r.covers k))
      let c := if r.req = 4 && r.master = 0 then c.spoil r.addr r.len else c
      { c := { c with dram := { c.dram with bad := bad } },
        m := { x.m with dram := x.m.dram.wrs r.addr ((r.write ++ List.replicate r.len 0).take r.len) } }
    else
      let p := c.dramOut x.m.dram r.addr r.len
      { x with c := p.2.emit (.readData (leVal p.1)) }

/-- DRAM_COMMAND_SLOT: a refresh that can no longer be postponed comes first; a frozen, untrained or self-refreshing
controller serves nothing. -/
def dramCommandSlot (ch : Fin 2) (refresh : Bool) (banks : BitVec 16) (ecc : EccOut) (x : Mach) : Mach :=
  if refresh || x.c.get R.DRAM_STATUS_MODE != 1 then x
  else match x.c.dramPick ch banks.toNat with
    | none => x
    | some r => x.dramServe ch r ecc

/-- DRAM_AGE_PROMOTE: request `i` of a channel's queue, oldest first. -/
def dramAgePromote (ch : Fin 2) (i : Fin 128) (c : Ctl) : Ctl :=
  match (c.dramQ ch)[i.val]? with
  | none => c
  | some r =>
    if r.aged || c.get R.DRAM_STATUS_MODE = 3 then c
    else
      let c := c.setDramQ ch ((c.dramQ ch).map (fun s => if s.num == r.num then { s with aged := true } else s))
      let c := (c.inc R.DRAM_PROMOTED).set R.DRAM_STATUS_AGE_SEEN 1
      if c.dram.once.contains Ev.DRAM_PROMOTE then c
      else { c with dram := { c.dram with once := Ev.DRAM_PROMOTE :: c.dram.once } }.raise Ev.DRAM_PROMOTE

/-- DRAM_TEMP_READ (R360). -/
def dramTempRead (code : Fin 8) (c : Ctl) : Ctl :=
  if c.get R.DRAM_STATUS_TEMP = code.val then c else (c.set R.DRAM_STATUS_TEMP code.val).raise Ev.DRAM_TEMP

/-! ## Self-refresh (R363, R364) -/

/-- Whether self-refresh is permitted. -/
def Ctl.srPermitted (c : Ctl) : Bool := c.is R.DRAM_CTRL_SR_EN && c.lean

/-- SELF_REFRESH_ENTRY: a request that has arrived aborts it. -/
def selfRefreshEntry (c : Ctl) : Ctl :=
  if c.get R.DRAM_STATUS_MODE != 1 || !c.srPermitted then c
  else if !(c.dram.q0.isEmpty && c.dram.q1.isEmpty) then c.inc R.DRAM_SR_STAT_ABORTS
  else ((c.set R.DRAM_STATUS_MODE 2).raise Ev.DRAM_SR).ledgShow

/-- SELF_REFRESH_EXIT: a waiting request, or the clearing of SR_EN, ends self-refresh; a request waits 0.39 to 0.42 us. -/
def selfRefreshExit (added : Fin 4) (c : Ctl) : Ctl :=
  let woken := !(c.dram.q0.isEmpty && c.dram.q1.isEmpty)
  if c.get R.DRAM_STATUS_MODE != 2 || !(woken || !c.is R.DRAM_CTRL_SR_EN) then c
  else
    let c := c.when woken (fun c => (c.inc R.DRAM_SR_STAT_WAKES).inc R.DRAM_SR_WAIT 0 (39 + added.val))
    ((c.set R.DRAM_STATUS_MODE 1).raise Ev.DRAM_SR).ledgShow

/-! ## THAW (R367) -/

/-- The DRAM block's status (R380). -/
def Ctl.dramStatus (c : Ctl) (code : Nat) : Ctl := c.status R.DRAM_STATUS_LAST R.DRAM_STATUS_ERR_STATE Ev.DRAM_STATE code

/-- THAW in the frozen state, with CLEAR_FAULT as it stands. -/
def Mach.thaw (x : Mach) : Mach :=
  if x.c.get R.DRAM_STATUS_MODE != 3 then { x with c := x.c.dramStatus 1 }
  else
    let k := x.c.faultChunk
    let clear := x.c.is R.DRAM_CTRL_CLEAR_FAULT
    let c := (x.c.setDramQ 0 []).setDramQ 1 []
    let c := { c with dram := { c.dram with frozeAt := none, lastThaw := some c.time, bad := if clear then c.dram.bad.filter (· != k) else c.dram.bad } }
    { c := (((c.set R.DRAM_STATUS_MODE 1).set R.SYS_ARM_FREEZE_HOLD 0).dramStatus 0 |>.raise Ev.DRAM_THAW).ledgShow,
      m := if clear then { x.m with dram := x.m.dram.wipe (32 * k) 32 } else x.m }

/-- A write of DRAM_CTRL: SR_EN, CLEAR_FAULT and SR_IDLE, then THAW (R363, R367, R380). -/
def Mach.dramCtrl (x : Mach) (m : Master) (d : Nat) : Mach :=
  let f := wordFields R.fieldsDRAM 0x90000
  if bit d 0 && !x.c.secure m then { x with c := (x.c.denied m 0x90000).set R.DRAM_STATUS_LAST 4 }
  else if !inRange f d then { x with c := x.c.dramStatus 2 }
  else if bit d 0 && x.c.get R.DRAM_STATUS_MODE != 3 then { x with c := x.c.dramStatus 1 }
  else
    let x := { x with c := (x.c.store f 0 d).dramStatus 0 }
    if bit d 0 then x.thaw else x

/-- THAW: a write of DRAM_CTRL with THAW set. -/
def thawWrite (m : Master) (d : BitVec 32) (x : Mach) : Mach := x.dramCtrl m (setBit d.toNat 0)

/-! ## The bus matrix (R371 to R374) -/

/-- The precedence of a request at a target: promoted ones are class A. -/
def Ctl.mtxPrec (c : Ctl) (t : Nat) (r : Fin 10 × Fin 4) : Nat := if c.mtx.aged.contains (t, r.1.val) then 0 else r.2.val

/-- MATRIX_GRANT: the masters that request a target, each with its class. -/
def matrixGrant (t : Fin 16) (reqs : List (Fin 10 × Fin 4)) (c : Ctl) : Ctl :=
  let top := reqs.foldl (fun n r => min n (c.mtxPrec t r)) 4
  let l := (reqs.filter (fun r => c.mtxPrec t r == top)).map (fun r => r.1.val)
  let order := (List.range 10).map (fun k => (cget c.mtx.last t + k) % 10)
  match order.find? (fun m => l.contains m) with
  | none => c
  | some m =>
    { c with mtx := { last := cset c.mtx.last t (m + 1), aged := c.mtx.aged.filter (· != (t.val, m)) } }.emit (.note 1 m)

/-- MATRIX_AGE_PROMOTE. -/
def matrixAgePromote (t : Fin 16) (m : Fin 10) (c : Ctl) : Ctl :=
  { c with mtx := { c.mtx with aged := (t.val, m.val) :: c.mtx.aged.filter (· != (t.val, m.val)) } }

/-- MATRIX_TIMEOUT (R374): the access ends with an error return. -/
def matrixTimeout (t : Fin 16) (m : Master) (a : BitVec 32) (write : Bool) (c : Ctl) : Ctl :=
  (c.mtxFault 3 m a.toNat write t).emit (.busResult 16)

/-! ## Common queues (R376, R378) -/

/-- The control queue's items up to and including the next end-of-packet marker go; without one, all go and the drop is
pending. -/
def dropPkt (c : Ctl) : Ctl :=
  let q := c.fab.ctrlq
  if q.any CtrlMsg.last then c.ctrlDepth ((q.dropWhile (fun m => !m.last)).tail)
  else
    let c := c.ctrlDepth []
    { c with fab := { c.fab with dropPend := true } }

/-- The monitor queue's contents, with DEPTH and watermarks (R434, R379). -/
def Ctl.setMonQ (c : Ctl) (q : List (List Nat)) : Ctl :=
  let x := crossed c.mon.queue.length q.length (c.get R.MON_QWM_HIGH) (c.get R.MON_QWM_LOW)
  let c := { c with mon := { c.mon with queue := q } }.set R.MON_Q_DEPTH q.length
  let c := (c.when x.1 (·.set R.MON_Q_HI_SEEN 1)).when x.2 (·.set R.MON_Q_LO_SEEN 1)
  if x.1 || x.2 then c.raise Ev.MON_WM else c

/-- QUEUE_POINTER_MISMATCH (R376): the queue resets to empty, and the discarded depth is added to LOST. -/
def queuePointerMismatch (q : SmallQueue) (c : Ctl) : Ctl :=
  match q with
  | .work n => c.queueReset n
  | .launch p =>
    let k := (c.port p).reports.length
    (((c.setReports p []).inc R.NET_LREP_STAT_LOST p k).set R.NET_STATUS_LREP_LOST_SEEN 1 p).netEvent Ev.NET_LAUNCH p
  | .storm => { c with storm := { c.storm with evq := [], evqLost := c.storm.evqLost + c.storm.evq.length } }
  | .monitor =>
    let k := c.mon.queue.length
    (((c.setMonQ []).inc R.MON_Q_LOST 0 k).set R.MON_STATUS_LOST_SEEN 1).raise Ev.MON_LOST

end Sys2Proof.Machine
end

