-- ==== Sys2Proof/Machine/Host.lean ====
section
/-! DEFINITION. The event hierarchy as the host works it, MSI-X and the PCIe link (R384 to R386, R411 to R414). -/
namespace Sys2Proof.Machine

/-- Whether a source holds its condition as a level (R411). -/
def Ctl.levelHolds (c : Ctl) (s : Nat) : Bool :=
  if s == Ev.LEDG_BATT_LOW then c.is R.LEDG_STATUS_BATT_LOW
  else if s == Ev.LEDG_FLOOR_FAIL then c.is R.LEDG_STATUS_FLOOR_FAIL
  else if s == Ev.DRAM_FREEZE then c.get R.DRAM_STATUS_MODE == 3
  else if s == Ev.HNG_DUAL then c.is R.HNG_STATUS_DUAL
  else if s == Ev.STORM_ALL then c.is R.STORM_STATUS_ALL_LINKS
  else false

/-- EVT_PEND_CLEAR: the bits written 1 clear, except where a level condition holds. -/
def evtPendClear (g : Fin 24) (d : BitVec 32) (c : Ctl) : Ctl :=
  let clear := (bitsOf 8 d.toNat).filter (fun i => !c.levelHolds (8 * g.val + i))
  (c.set R.EVT_SRC_PEND (clear.foldl clrBit (c.get R.EVT_SRC_PEND g)) g).evtUpdate

/-- EVT_EOI: each class written 1 that is still pending is signalled again. -/
def evtEoi (d : BitVec 32) (c : Ctl) : Ctl :=
  c.each ((bitsOf 4 d.toNat).filter (bit (c.get R.EVT_CLASS_PEND))) Ctl.signalClass

/-- EVT_POP: the oldest record leaves the queue; a crossing raises EV_MBX_EVTQ. -/
def evtPop (c : Ctl) : Ctl :=
  match c.evt.queue with
  | [] => c
  | _ :: q =>
    let p := c.evtQueue q
    if p.2 then p.1.raise Ev.MBX_EVTQ else p.1

/-- Word `w` of the oldest record, 0 while the queue is empty (EVT_REC). -/
def Ctl.evtRecWord (c : Ctl) (w : Nat) : Nat :=
  match c.evt.queue with
  | [] => 0
  | e :: _ => e.words.getD w 0

/-! ## MSI-X (R386) -/

/-- The MSI-X controls of a function. -/
def Ctl.msixFn (c : Ctl) (fn : Nat) : MsixFn := if fn = 0 then c.evt.fn0 else c.evt.fn1

/-- Sets the MSI-X controls of a function. -/
def Ctl.setMsixFn (c : Ctl) (fn : Nat) (f : MsixFn) : Ctl :=
  { c with evt := if fn = 0 then { c.evt with fn0 := f } else { c.evt with fn1 := f } }

/-- The pending messages of a function that nothing masks any longer are sent. -/
def Ctl.msixFlush (c : Ctl) (fn : Nat) : Ctl :=
  c.each (List.range 8) (fun c v =>
    let f := c.msixFn fn
    let e := kgetD f.vecs v {}
    if f.enable && !f.fmask && e.pending && !e.mask then
      (c.setMsixFn fn { f with vecs := kput f.vecs v { e with pending := false } }).emit (.msix fn v)
    else c)

/-- MSIX_UNMASK: the vector's own mask is cleared, or the Function Mask with no vector named. -/
def msixUnmask (fn : Fin 2) (v : Option (Fin 8)) (c : Ctl) : Ctl :=
  let f := c.msixFn fn
  let f := match v with
    | none => { f with fmask := false }
    | some i => { f with vecs := kput f.vecs i { kgetD f.vecs i {} with mask := false } }
  (c.setMsixFn fn f).msixFlush fn

/-- A write of a function's own MSI-X table, word `w` of it; the pending-bit array is read only. -/
def Ctl.msixWrite (c : Ctl) (fn w d : Nat) : Ctl :=
  if 32 ≤ w then c
  else
    let f := c.msixFn fn
    let e := kgetD f.vecs (w / 4) {}
    let e := if w % 4 = 0 then { e with addr := e.addr / 2 ^ 32 * 2 ^ 32 + d / 4 * 4 }
      else if w % 4 = 1 then { e with addr := e.addr % 2 ^ 32 + 2 ^ 32 * d }
      else if w % 4 = 2 then { e with data := d }
      else { e with mask := bit d 0 }
    (c.setMsixFn fn { f with vecs := kput f.vecs (w / 4) e }).msixFlush fn

/-- A read of a function's own MSI-X table or, from word 512 on, of its pending-bit array. -/
def Ctl.msixRead (c : Ctl) (fn w : Nat) : Nat :=
  let f := c.msixFn fn
  let e := kgetD f.vecs (w / 4) {}
  if w = 512 then (List.range 8).foldl (fun n v => putBit n v (kgetD f.vecs v {}).pending) 0
  else if 32 ≤ w then 0
  else if w % 4 = 0 then e.addr % 2 ^ 32
  else if w % 4 = 1 then e.addr / 2 ^ 32
  else if w % 4 = 2 then e.data
  else b2n e.mask

/-! ## The link (R384) -/

/-- PCIE_LINK_UP: generation minus one, lanes as a power of two, and the MSI-X Enable bits that the host has set. -/
def pcieLinkUp (gen : Fin 4) (width : Fin 3) (en0 en1 : Bool) (c : Ctl) : Ctl :=
  let c := ((c.set R.MBX_PCIE_UP 1).set R.MBX_PCIE_GEN (gen.val + 1)).set R.MBX_PCIE_WIDTH (2 ^ width.val)
  let c := (c.setMsixFn 0 { c.msixFn 0 with enable := en0 }).setMsixFn 1 { c.msixFn 1 with enable := en1 }
  (c.raise Ev.MBX_PCIE).ledgShow

end Sys2Proof.Machine
end

