-- ==== Sys2Proof/Machine/Boot.lean ====
section
/-! DEFINITION. Resets, boot, arming, recovery, updates and thermal protection (R437 to R450, R470). -/
namespace Sys2Proof.Machine

/-! ## Arming (R440, R441) -/

/-- The current drawn by entry 1 while the storm door is armed, in place of what it draws now (R35, R440). -/
def Ctl.armedF (c : Ctl) : Nat :=
  c.fixedF c.lean - c.entryCost c.lean 1 + (if c.drivenZones.isEmpty then c.costLo 1 else c.costHi 1)

/-- The enabled feeds of enabled zones. -/
def Ctl.servedFeeds (c : Ctl) : List Nat :=
  (List.range c.feedCount).filter (fun f => c.is R.FEED_EN f && !c.is R.FEED_NOZONE f && c.is R.ZONE_EN (c.get R.FEED_ZONE f))

/-- The arming checks in order: whether each passes. -/
def Mach.armChecks (x : Mach) : List Bool :=
  let c := x.c
  [ !c.is R.LEDG_STATUS_FLOOR_FAIL && c.armedF + 16 * c.get R.LEDG_FLOOR_FLOOR ≤ 16 * c.budget,
    c.is R.WIN_CLK_STATUS_ROOT_OK && c.is R.WIN_CLK_STATUS_AUDIO_LOCK &&
      (c.is R.WIN_CLK_STATUS_NET_LOCK || !(List.range 4).any (c.is R.NET_CFG_EN ·)) &&
      (c.is R.WIN_CLK_STATUS_FAB_LOCK || !c.is R.FAB_CFG_EN) && !c.is R.MON_STATUS_SAFE_BAD,
    c.get R.DRAM_STATUS_MODE == 1 && !c.is R.MON_STATUS_DRAM_CAL_BAD,
    !(List.range 4).any (c.is R.TIME_PTP_PORT_EN ·) || c.get R.TIME_STATUS_SERVO == 2,
    c.is R.WIN_STATUS_RUN && 64 ≤ c.win.alignedRun,
    !c.is R.FAB_CFG_EN || c.fabConverged,
    c.get R.HNG_CFG_MODE == 0 || c.role == 2 || (c.role == 3 && c.get R.HNG_STATUS_SYNC == 3),
    c.is R.SYS_SCENE_ID && c.tab.switchMin.isNone &&
      (List.range 4).all (fun y => !c.is R.YARD_CTRL_EN y || c.is R.YARD_STATUS_SEQ_RUN y),
    c.servedFeeds.all (fun f => c.get R.AMP_LINK_STATE (c.feedLink f) == 2),
    x.stormWouldArm ]

/-- The code of the first check that fails, 0 where all pass. -/
def Mach.armCheck (x : Mach) : Nat :=
  match x.armChecks.findIdx? (fun ok => !ok) with
  | none => 0
  | some i => i + 1

/-- The ERR_STATE of ARM, DISARM and FW_UPDATE (R450). -/
def Ctl.armErr (c : Ctl) : Ctl := c.set R.SYS_ARM_ERR_STATE 1

/-- ARM. -/
def armCmd (p : Fin 8) (x : Mach) (w : List Nat) : KRes :=
  let k := x.armCheck
  if k != 0 then ⟨{ x with c := x.c.armErr.set R.SYS_ARM_FAIL_CHECK k }, 1, [], false⟩
  else
    ⟨{ x with c := { x.c with boot := { x.c.boot with armPend := some (p.val, w.getD 0 0, bit (w.getD 1 0) 0) } } }, 0, [], true⟩

/-- The command ARM, read from its letterbox. -/
def keepArm (p : Fin 8) (x : Mach) : Mach := x.keeper p (codeIs 0x10) (armCmd p)

/-- The program image in force in a yard, with its code and job code as they stand in memory. -/
def Mach.imageNow (x : Mach) (y : Nat) : Option ProgImg :=
  let q := x.c.seq y
  q.active.map (fun g =>
    { yards := 2 ^ y, img := g, code := x.m.imem.rds (y * 0x40000 + q.half * 0x20000) 0x20000,
      job := x.m.store.rds (4 * y * 0x40000 + g.jobBase) g.jobSize })

/-- The valid correction banks, with what a load of each supplies (R112, R113). -/
def Mach.validBanks (x : Mach) : List BankLoad :=
  x.c.corr.banks.filterMap (fun (e : Nat × List Nat) =>
    let f := e.1 / 2
    let b := e.1 % 2
    let a := x.c.base64k R.CORR_BANK_BASE + e.1 * 0x10000
    if x.c.is (validReg b) f then
      some { feed := f, bank := b, id := x.m.dram.rdN a 4, crc := x.m.dram.rdN (a + 0xC) 4, taps := e.2, start := 0 }
    else none)

/-- The auto-arm profile of the present configuration (R442). -/
def Mach.profileNow (x : Mach) : Profile :=
  let c := x.c
  { regs := c.regs.filter (fun e => e.reg.acc == .rw), scene := c.get R.SYS_SCENE_ID, mesh := c.tab.mesh, grid := c.tab.grid,
    progs := (List.range 4).filterMap x.imageNow, banks := x.validBanks,
    active := (List.range 768).filter (fun f => c.is R.CORR_FEED_ACTIVE f), bq := c.storm.bqShadow, ident := Config.ident,
    major := Config.firmwareMajor c.slotInForce.fw }

/-- The keeper opens the shutters of the served feeds whose line is not SHORT (R441). -/
def Ctl.armOpen (c : Ctl) : Ctl :=
  let l := c.servedFeeds.filter (fun f => c.get R.FEED_LINE f != 3)
  c.each (List.range 24) (fun c i =>
    let d := (l.filter (fun f => f / 32 == i)).foldl (fun n f => setBit n (f % 32)) 0
    if d = 0 then c else c.hngGate .keeper (0xD0100 + 4 * i) d (some (R.SHUT_STATUS_LAST, 0)) (·.shutOpen i d))

/-- The keeper asks the storm door to return the zones of the causes it owes (R444). -/
def Ctl.requestBack (c : Ctl) : Ctl :=
  let zs := c.drivenZones.filter (fun z => c.boot.handBack.contains (c.get R.STORM_CAUSE_CAUSE z) && !c.causeHolds z)
  let c := { c with boot := { c.boot with handBack := [] } }
  c.each zs Ctl.returnZone

/-- The fused rollback floor is raised when the firmware in force first arms the module (R448). -/
def Ctl.fuse (c : Ctl) : Ctl :=
  { c with boot := { c.boot with fused := max c.boot.fused c.slotInForce.rollback } }

/-- ARM_EXECUTE: the window boundary after the checks have passed (R441). -/
def armExecute (x : Mach) : Mach :=
  match x.c.boot.armPend with
  | none => x
  | some (p, head, save) =>
    if !x.c.boot.armDue then x else
    let x := if x.c.is R.STORM_STATUS_ARMED && !x.c.dirty then x else x.stormArm
    let c := if x.c.role = 3 then x.c else x.c.armOpen
    let c := { c with boot := { c.boot with armPend := none, armDue := false, autoFrom := none } }
    let c := (c.set R.SYS_ARM_ARMED 1).inc R.SYS_ARM_ARMS
    let c := c.set R.FIRE_FAULT (clrBit (c.get R.FIRE_FAULT) 0)
    let c := if p = 8 then (c.set R.SYS_ARM_AUTO 1).set R.SYS_ARM_AUTO_FAIL 0 else c.set R.SYS_ARM_AUTO 0
    let c := (c.raise Ev.KEEP_ARM 0 1).fuse.requestBack
    let c := if p = 8 then c else c.keepReply p head 0 [c.winNo] (c.replyKey p)
    let x := { x with c := c }
    if save then { x with c := { x.c with boot := { x.c.boot with profile := some x.profileNow } } } else x

/-- DISARM. -/
def disarmCmd (x : Mach) (w : List Nat) : KRes :=
  let c := x.c
  if (List.range 64).any (fun q => c.get R.PLAN_STATE q != 0) || !c.drivenZones.isEmpty then ⟨{ x with c := c.armErr }, 1, [], false⟩
  else
    let c := { c with boot := { c.boot with armPend := none, armDue := false, autoFrom := none } }
    let c := ((c.set R.SYS_ARM_ARMED 0).set R.SYS_ARM_AUTO 0).set R.FIRE_FAULT (setBit (c.get R.FIRE_FAULT) 0)
    ⟨{ x with c := c.stormDisarmCmd.raise Ev.KEEP_ARM 0 0 }, 0, [], false⟩

/-- The command DISARM, read from its letterbox. -/
def keepDisarm (p : Fin 8) (x : Mach) : Mach := x.keeper p (codeIs 0x11) disarmCmd

/-! ## Resets (R437) -/

/-- Fields that live in flash: line baselines (R424) and the state of the NAND (R428). -/
def Reg.inFlash (r : Reg) : Bool :=
  [R.LINE_FEED_BASE_Z, R.LINE_FEED_BASE_PH, R.LINE_FEED_BASE_VALID, R.MON_FLASH_SPARE, R.MON_FLASH_SPARE_LOW,
    R.MON_FLASH_RETIRED].any (fun f => f.id == r.id)

/-- Fields that the storm door holds: the STORM and FIRE blocks, and who drives each zone (R437). -/
def Reg.inStorm (r : Reg) : Bool := (R.fieldsSTORM ++ R.fieldsFIRE ++ [R.ZONE_OWNER]).any (fun f => f.id == r.id)

/-- The control state after a reset: what flash, the supply and the temperatures keep; `die` keeps the storm door's part and
BATT_LOW, which only a POWER or PIN reset and the last row of R34 clear. -/
def Ctl.afterReset (c : Ctl) (die : Bool) (cause : Nat) : Ctl :=
  let b := c.boot
  let boot : BootSt :=
    { slot0 := b.slot0, slot1 := b.slot1, fused := b.fused, profile := b.profile, dieHot := b.dieHot, psuHot := b.psuHot,
      kresets := if die then b.kresets else [], halted := die && b.halted, handBack := if die then [1, 2] else [] }
  let f := { c.fire with openReq := [], closeReq := [], autoReq := [], openDue := [], closeDue := [], autoDue := [] }
  let fire : FireSt := if die then { f with opening := [], closing := [] } else {}
  let n : Ctl :=
    { regs := c.regs.filter (fun e => e.reg.inFlash || (die && (e.reg.inStorm || e.reg.id == R.LEDG_STATUS_BATT_LOW.id)))
      evt := { log := c.evt.log, logNext := c.evt.logNext }
      ledg := { mainsOk := c.ledg.mainsOk, battPresent := c.ledg.battPresent, battOpen := c.ledg.battOpen }
      fire := fire
      storm := if die then c.storm else { freeCtr := c.storm.freeCtr }
      keep := { down := die && b.halted }
      boot := boot }
  (n.set R.SYS_BOOT_CAUSE cause).showSupply

/-- A POWER or PIN reset (R437, R438): everything but flash and the storm store; the storm door then checks its store. -/
def Mach.hardReset (x : Mach) (cause : Nat) : Mach :=
  Mach.storeCheck { c := x.c.afterReset false cause, m := { nor := x.m.nor } }

/-- With MAINS_OK = 0 and the battery absent (R470) or its path open (R34) the module loses power: it stands as its next power-up
finds it, since a POWER reset follows (R437, log entry 136). -/
def Mach.powerCheck (x : Mach) : Mach :=
  if !x.c.ledg.mainsOk && (x.c.ledg.battOpen || !x.c.ledg.battPresent) then x.hardReset 0 else x

/-- BATT_CUTOFF. -/
def battCutoffAct (x : Mach) : Mach := Mach.powerCheck { x with c := battCutoff x.c }

/-- BATT_PRESENCE_CHANGE. -/
def battPresenceAct (present : Bool) (x : Mach) : Mach := Mach.powerCheck { x with c := battPresence present x.c }

/-- MAINS_OK_CHANGE. -/
def mainsOkAct (ok : Bool) (x : Mach) : Mach := Mach.powerCheck { x with c := mainsChange ok x.c }

/-- POWER_RESET. -/
def powerReset (x : Mach) : Mach := x.hardReset 0

/-- PIN_RESET. -/
def pinReset (x : Mach) : Mach := x.hardReset 1

/-- A DIE reset (R437, R444): the render die, the keeper and DRAM. The module is not armed until the keeper arms it anew, and
the die counts as lost until windows run again. -/
def Mach.dieReset (x : Mach) : Mach :=
  let c := x.c.afterReset true 2
  let c := { c with fire := { c.fire with dieLost := true, clockLost := false } }
  { c := (c.set R.FIRE_FAULT (setBit (c.get R.FIRE_FAULT) 0)).faults, m := { nor := x.m.nor } }

/-- DIE_RESET. -/
def dieReset (x : Mach) : Mach := x.dieReset

/-- ROOT_RETURN_HOLD: root edges have been present for 100 ms after a loss that took the links (R444). -/
def rootReturnHold (x : Mach) : Mach :=
  if x.c.is R.WIN_CLK_STATUS_ROOT_OK && x.c.fire.clockLost then x.dieReset else x

/-- DIE_STROBE_ABSENT: the strobe has been absent for 1 s (R444). -/
def dieStrobeAbsent (x : Mach) : Mach := if x.c.fire.dieLost && !x.c.boot.dieHot then x.dieReset else x

/-! ## Boot (R438, R439) -/

/-- BOOT_FIRMWARE_START: whether the pages of each slot are readable. -/
def bootFirmwareStart (ok0 ok1 : Bool) (c : Ctl) : Ctl :=
  if c.boot.dieHot then c else
  let usable := fun (s : SlotSt) (ok : Bool) => s.valid && ok && c.boot.fused ≤ s.rollback
  let v0 := usable c.boot.slot0 ok0
  let v1 := usable c.boot.slot1 ok1
  if !v0 && !v1 then { c with boot := { c.boot with romOnly := true } }.set R.SYS_BOOT_SLOT_BAD 1
  else
    let one := v1 && (!v0 || c.boot.slot0.gen < c.boot.slot1.gen)
    let c := { c with boot := { c.boot with romOnly := false } }
    let c := (c.set R.SYS_BOOT_SLOT (b2n one)).set R.SYS_BOOT_SLOT_BAD (b2n (!(v0 && v1)))
    (c.set R.SYS_BOOT_NEW_SLOT 0).set R.SYS_BOOT_STAGE 1

/-- DRAM_INIT_COMPLETE: every chunk holds zeros, and the correction region is reserved (R112, R438). -/
def dramInitComplete (x : Mach) : Mach :=
  if x.c.get R.DRAM_STATUS_MODE != 0 || x.c.boot.romOnly then x
  else
    let mib := 0x100000
    let u := x.c.usable
    let c := { x.c with dram := {} }
    let c := (c.set R.DRAM_STATUS_MODE 1).set R.DRAM_STATUS_TRAINED 1
    let c := ((c.set R.CORR_BANK_BASE ((u - 151 * mib) / 65536)).set R.CORR_FDL_BASE ((u - 55 * mib) / 65536)).set
      R.CORR_STAGE_BASE ((u - mib) / 65536)
    { c := (c.set R.SYS_BOOT_STAGE 3).ledgShow, m := { x.m with dram := [] } }

/-- AUTO_ARM_ATTEMPT: the retry interval has passed (R442). -/
def autoArmAttempt (x : Mach) : Mach :=
  match x.c.boot.autoFrom with
  | none => x
  | some t =>
    if x.c.armed || x.c.boot.armPend.isSome then x
    else
      let k := x.armCheck
      let c := if t + 30 * 10 ^ 9 ≤ x.c.time then x.c.set R.SYS_ARM_AUTO_FAIL 1 else x.c
      if k != 0 then { x with c := c.set R.SYS_ARM_FAIL_CHECK k }
      else { x with c := { c with boot := { c.boot with armPend := some (8, 0, false) } } }

/-! ## Keeper restart (R443) -/

/-- KEEPER_RESET: the cores restart; a third reset within 600 s leaves them halted. -/
def keeperReset (c : Ctl) : Ctl :=
  let recent := c.boot.kresets.filter (fun t => c.time < t + 600 * 10 ^ 9)
  let halted := c.boot.halted || 2 ≤ recent.length
  let c := (c.sessionClose 4).sessionClose 5
  let c := { c with keep := { c.keep with down := true, long := [] },
                    boot := { c.boot with kresets := c.time :: recent, halted := halted, armPend := none, armDue := false, update := [] } }
  let c := c.setServo 0
  if halted then keeperHeartbeatLoss c else c

/-- Plans that the storm door triggered while the keeper was away are set ACTIVE (R443). -/
def Ctl.adoptPlans (c : Ctl) : Ctl :=
  c.each ((List.range 64).filter (fun p => (c.planRt p).stormOn && c.get R.PLAN_STATE p == 0)) Ctl.planActivate

/-- KEEPER_RESTART_COMPLETE: within 400 ms the keeper is back, unless it is halted. -/
def keeperRestartComplete (c : Ctl) : Ctl :=
  if !c.keep.down || c.boot.halted then c
  else
    let c := { c with keep := { c.keep with down := false } }
    let c := (c.set R.FIRE_FAULT (clrBit (c.get R.FIRE_FAULT) 1)).inc R.SYS_BOOT_KRESTARTS
    ((c.raise Ev.KEEP_ARM 0 2).adoptPlans.ctrlDrain).servoPorts

/-! ## Recovery (R444, R446) -/

/-- Every ring's fill count is 0 (R444, R446). -/
def Ctl.ringsClear (c : Ctl) : Ctl :=
  { c with src := { c.src with rings := c.src.rings.map (fun (e : Nat × Ring) => (e.1, { e.2 with fill := 0, data := [] })) } }

/-- Windows start as R442 has it: by JOIN when the fabric has a running root, otherwise at an epoch 1 s ahead. -/
def Ctl.restartWindows (c : Ctl) : Ctl :=
  if c.is R.FAB_CFG_EN && c.fabConverged && c.fab.rootRun then fabJoin c
  else
    let t := c.time + 10 ^ 9
    winStart ((c.set R.WIN_EPOCH_LO t).set R.WIN_EPOCH_HI (t / 2 ^ 32))

/-- AUDIO_LOCK_HOLD: the audio PLL has held lock for 100 ms with the root present. -/
def audioLockHold (c : Ctl) : Ctl :=
  if !c.is R.WIN_CLK_STATUS_ROOT_OK || !c.is R.WIN_CLK_STATUS_AUDIO_LOCK || c.is R.WIN_STATUS_RUN || c.keep.down ||
      !(c.boot.clockDue || c.drivenZones.any (fun z => c.get R.STORM_CAUSE_CAUSE z == 1)) then c
  else
    let c := { c with fire := { c.fire with clockLost := false } }.faults
    let c := c.restartWindows.ringsClear
    { c with boot := { c.boot with seqDue := true, handBack := [1], clockDue := false } }.requestBack

/-- Where the captured chunk lies: the bank at its feed and letter, or whether the scene must be reloaded (R446). -/
def Ctl.faultBank (c : Ctl) : Option (Nat × Nat) :=
  let u := 32 * c.faultChunk
  let base := c.base64k R.CORR_BANK_BASE
  if base ≤ u && u < base + 96 * 0x100000 then some ((u - base) / 0x20000, (u - base) / 0x10000 % 2) else none

/-- Whether a usable offset lies in the FDL region or in a ring (R446): the rings lie right below the correction region,
as allocated; stream buffers have no place in DRAM of their own. -/
def Ctl.faultBenign (c : Ctl) : Bool :=
  let u := 32 * c.faultChunk
  let fdl := c.base64k R.CORR_FDL_BASE
  let bank := c.base64k R.CORR_BANK_BASE
  let rings := 4 * ((c.src.rings ++ c.src.oldRings).foldl (fun n (e : Nat × Ring) => n + e.2.alloc) 0)
  (fdl ≤ u && u < fdl + 54 * 0x100000) || (bank - rings ≤ u && u < bank)

/-- KEEPER_THAW: 16 windows after the freeze; a second freeze within 600 s of a THAW is left (R446). -/
def keeperThaw (x : Mach) : Mach :=
  let c := x.c
  let due : Bool := match c.dram.frozeAt with | some w => w + 17 ≤ c.win.ext | none => false
  let again : Bool := match c.dram.lastThaw with | some t => c.dram.frozeTime < t + 600 * 10 ^ 9 | none => false
  if c.get R.DRAM_STATUS_MODE != 3 || !due || c.keep.down then x
  else if again then { x with c := c.set R.SYS_ARM_FREEZE_HOLD 1 }
  else
    let x := Mach.thaw { x with c := c.set R.DRAM_CTRL_CLEAR_FAULT 1 }
    let c := x.c.ringsClear
    match c.faultBank with
    | some (f, b) => { x with c := (c.set (validReg b) 0 f).raise Ev.YARD_CORR (f / 192) f }
    | none => { x with c := if c.faultBenign then c else c.set R.SYS_ARM_DEGRADED 1 }

/-! ## Updates (R447 to R449) -/

/-- A package's bytes and a reader of its header. -/
def Mach.package (x : Mach) (w : List Nat) : List Byte := x.m.dram.rds (argOffset w) (w.getD 3 0)

/-- A little-endian field of a package. -/
def pkgField (b : List Byte) (off n : Nat) : Nat := leVal ((b.drop off).take n)

/-- The RANGE row common to both targets. -/
def pkgRange (b : List Byte) (target most : Nat) : Bool :=
  pkgField b 0 4 == 0x50555943 && pkgField b 4 2 == 1 && pkgField b 6 2 == target && pkgField b 8 4 == b.length &&
    128 ≤ b.length && b.length ≤ most + 128 && pkgField b 0x10 4 == crc32 (b.drop 0x80)

/-- The slot not in force. -/
def Ctl.otherSlot (c : Ctl) : SlotSt := if c.get R.SYS_BOOT_SLOT = 0 then c.boot.slot1 else c.boot.slot0

/-- Sets the slot not in force, and SLOT_BAD. -/
def Ctl.setOther (c : Ctl) (s : SlotSt) : Ctl :=
  let c := { c with boot := if c.get R.SYS_BOOT_SLOT = 0 then { c.boot with slot1 := s } else { c.boot with slot0 := s } }
  c.set R.SYS_BOOT_SLOT_BAD (b2n (!s.valid))

/-- FW_UPDATE with TARGET 0: the checks of R448; the slot not in force is then written. -/
def fwUpdateKeeperCmd (p : Fin 8) (x : Mach) (w : List Nat) : KRes :=
  let b := x.package w
  let q := x.c.keepReads (argOffset w) (w.getD 3 0)
  if !x.c.offsetOk (argOffset w) (w.getD 3 0) then ⟨x, 2, [], false⟩
  else if !q.2 then ⟨{ x with c := q.1 }, 7, [], false⟩
  else if !pkgRange b 0 0x2000000 then ⟨x, 2, [], false⟩
  else if !Config.ed25519 (zeroed b 0x40 64) ((b.drop 0x40).take 64) || pkgField b 0xC 4 < x.c.boot.fused then ⟨x, 4, [], false⟩
  else
    let c := x.c.setOther { x.c.otherSlot with valid := false }
    let c := { c with boot := { c.boot with update := b } }
    ⟨{ x with c := c.keepLong p 0x50 (w.getD 0 0) 0 }, 0, [], true⟩

/-- The command FW_UPDATE, read from its letterbox. -/
def fwUpdateKeeper (p : Fin 8) (x : Mach) : Mach := x.keeper p (fun w => codeIs 0x50 w && !bit (w.getD 4 0) 0) (fwUpdateKeeperCmd p)

/-- The store image of a package. -/
def pkgStore (b : List Byte) : Mem := Mem.wrs [] 0 (b.drop 0x80)

/-- FW_UPDATE with TARGET 1: the checks of R449; the store's header is invalid until the update is done. -/
def fwUpdateStormCmd (p : Fin 8) (x : Mach) (w : List Nat) : KRes :=
  let b := x.package w
  let s := pkgStore b
  let firmware := s.rds 0x10000 0x1F0000
  let n := firmware.length - 64
  let q := x.c.keepReads (argOffset w) (w.getD 3 0)
  if x.c.is R.STORM_STATUS_ARMED then ⟨{ x with c := x.c.armErr }, 1, [], false⟩
  else if !x.c.offsetOk (argOffset w) (w.getD 3 0) then ⟨x, 2, [], false⟩
  else if !q.2 then ⟨{ x with c := q.1 }, 7, [], false⟩
  else if !pkgRange b 1 0x4000000 || !norHeaderOk s then ⟨x, 2, [], false⟩
  else if hmac secureKey (zeroed (zeroed b 0x20 32) 0x40 64) != (b.drop 0x20).take 32 ||
      !Config.ed25519 (firmware.take n) (firmware.drop n) then ⟨x, 4, [], false⟩
  else
    let c := { x.c with boot := { x.c.boot with update := b }, storm := { x.c.storm with hdrOk := false } }
    ⟨{ c := c.keepLong p 0x50 (w.getD 0 0) 1, m := { x.m with nor := x.m.nor.wipe 0 64 } }, 0, [], true⟩

/-- The command FW_UPDATE, read from its letterbox. -/
def fwUpdateStorm (p : Fin 8) (x : Mach) : Mach := x.keeper p (fun w => codeIs 0x50 w && bit (w.getD 4 0) 0) (fwUpdateStormCmd p)

/-- FW_UPDATE_DONE: the package is written and verified, and the reply goes out. -/
def fwUpdateDone (x : Mach) : Mach :=
  match x.c.longOf 0x50 with
  | none => x
  | some l =>
    let b := x.c.boot.update
    let c := { x.c with boot := { x.c.boot with update := [] } }
    if l.arg = 0 then
      let c := c.setOther { gen := (c.slotInForce.gen + 1) % 2 ^ 32, rollback := pkgField b 0xC 4, valid := true,
                            fw := 3 + pkgField b 0x10 4 }
      { x with c := (c.set R.SYS_BOOT_NEW_SLOT 1).keepDone l 0 [] }
    else
      let c := { c.set R.STORM_MSG_BAD 0 with fire := { c.fire with storeBad := false } }.faults
      let x := Mach.storeCheck { c := c, m := { x.m with nor := x.m.nor.wipe 0 norSize |>.wrs 0 (b.drop 0x80) } }
      { x with c := x.c.keepDone l 0 [] }

/-! ## Thermal protection (R470) -/

/-- DIE_OVERTEMP: the render die is held in reset, and the storm door takes every zone. -/
def dieOvertemp (x : Mach) : Mach :=
  if x.c.boot.dieHot then x
  else
    let c := dieStrobeLoss { x.c with boot := { x.c.boot with dieHot := true } }
    Mach.dieReset { x with c := c }

/-- DIE_TEMP_RECOVER: the hold ends, and the die recovers as after its loss. -/
def dieTempRecover (x : Mach) : Mach :=
  if !x.c.boot.dieHot then x else Mach.dieReset { x with c := { x.c with boot := { x.c.boot with dieHot := false } } }

/-- PSU_OVERTEMP: the PSU stops, and MAINS_OK falls. -/
def psuOvertemp (x : Mach) : Mach := mainsOkAct false { x with c := { x.c with boot := { x.c.boot with psuHot := true } } }

/-- PSU_TEMP_RECOVER: the PSU restarts, and MAINS_OK follows its input. -/
def psuTempRecover (ok : Bool) (x : Mach) : Mach :=
  if !x.c.boot.psuHot then x else mainsOkAct ok { x with c := { x.c with boot := { x.c.boot with psuHot := false } } }

end Sys2Proof.Machine
end

