-- ==== Sys2Proof/Machine/Monitor.lean ====
section
/-! DEFINITION. Background work and the monitor chain (R417 to R436), CAL_RUN LINE and the limits of long keeper commands. -/
namespace Sys2Proof.Machine

/-! ## Events at most once per window -/

/-- Raises a MON event at most once per window. -/
def Ctl.monOnce (c : Ctl) (ev : Nat) (info : Nat := 0) : Ctl :=
  if c.mon.once.contains ev then c else { c with mon := { c.mon with once := ev :: c.mon.once } }.raise ev info

/-- The scrubber has found an error (R418, R419). -/
def Ctl.scrubSeen (c : Ctl) : Ctl := (c.set R.MON_STATUS_SCRUB_SEEN 1).monOnce Ev.MON_SCRUB

/-! ## Patrol scrubbing (R418, R419) -/

/-- PATROL_SCRUB_STEP: the next line of usable DRAM, with what its check finds. -/
def patrolScrubStep (ecc : EccOut) (c : Ctl) : Ctl :=
  if !c.is R.MON_CTRL_SCRUB_EN || c.dramDown || c.srPermitted then c
  else
    let c := c.dramWake
    let a := 64 * c.mon.scrub
    let r : DramReq := { num := 0, req := 10, master := 0, cls := 3, addr := a, len := 64, isWrite := false, write := [] }
    let found := match ecc with
      | .bad _ => r.chunks.head?
      | _ => r.chunks.find? (fun k => c.dram.bad.contains k)
    match found with
    | some k => (c.dramFreeze r k (ecc == .bad true)).scrubSeen
    | none =>
      let c := if ecc == .corrected then c.dramCorrected.scrubSeen else c
      let c := { c with dram := { c.dram with lines := cset c.dram.lines 3 (cget c.dram.lines 3 + 1) } }
      let wrap : Bool := c.usable ≤ a + 64
      let next := if wrap then 0 else c.mon.scrub + 1
      let c := { c with mon := { c.mon with scrub := next } }.set R.MON_SCRUB_POS (next / 4)
      if wrap then (c.inc R.MON_SCRUB_PASS).raise Ev.MON_SCRUB else c

/-- Whether a scrub reaches a word: a powered stable's store, or the loft of a powered yard. -/
def Ctl.scrubs (c : Ctl) (y : Nat) (h : ScrubHit) : Bool :=
  c.is R.YARD_CTRL_EN y &&
    (if h.loft then h.addr < 0x400000 else h.addr < 0x100000 && bit (c.get R.YARD_CTRL_STABLE_EN y) (h.addr / 0x40000))

/-- One word in error that a scrub finds (R156, R419). -/
def Ctl.scrubHit (c : Ctl) (y : Nat) (h : ScrubHit) : Ctl := if h.bad then (c.eccHit y h).scrubSeen else c.eccHit y h

/-- The words of a yard that are known to be poisoned. -/
def Ctl.poisoned (c : Ctl) (y : Nat) : List ScrubHit :=
  (c.fabr.loftPoison.filter (fun w => w / 0x400000 == y)).map (fun w => ⟨true, w % 0x400000, true⟩) ++
    (c.fabr.storePoison.filter (fun w => w / 0x100000 == y)).map (fun w => ⟨false, w % 0x100000, true⟩)

/-- STORE_SCRUB: one pass over a yard's loft and stores, with the words it finds in error; poisoned words are found again. -/
def storeScrub (y : Fin 4) (hits : List ScrubHit) (c : Ctl) : Ctl :=
  c.each ((c.poisoned y ++ hits).filter (c.scrubs y)) (fun c h => c.scrubHit y h)

/-! ## Line watch (R422, R424) -/

/-- LINE_NOMEAS_TIMEOUT. -/
def lineNomeasTimeout (f : Fin 768) (c : Ctl) : Ctl :=
  if !c.is R.FEED_EN f || c.is R.LINE_FEED_NOMEAS f then c
  else ((c.set R.LINE_FEED_NOMEAS 1 f).set R.LINE_STATUS_NOMEAS_SEEN 1).raise Ev.LINE_NOMEAS 0 f

/-- The feeds that a baseline run measures: enabled, on an UP link. -/
def Ctl.baseFeeds (c : Ctl) : List Nat :=
  (List.range c.feedCount).filter (fun f => c.is R.FEED_EN f && c.get R.AMP_LINK_STATE (c.feedLink f) == 2)

/-- CAL_RUN with KIND LINE. -/
def calRunLineCmd (p : Fin 8) (x : Mach) (w : List Nat) : KRes :=
  let c := x.c
  if !c.is R.AMP_PILOT_EN || !(List.range 8).any (fun l => c.get R.AMP_LINK_STATE l == 2) then ⟨{ x with c := c.refuse R.LINE_STATUS_ERR_STATE Ev.LINE_STATE }, 1, [], false⟩
  else
    let line := c.amp.line.map (fun (e : Nat × LineSt) => (e.1, { e.2 with n := 0, sumZ := 0, sumPh := 0 }))
    let c := { c with amp := { c.amp with cal := true, calFrom := c.winNo, line := line } }
    ⟨{ x with c := c.keepLong p 0x41 (w.getD 0 0) 1 }, 0, [], true⟩

/-- The command CAL_RUN, read from its letterbox. -/
def calRunLine (p : Fin 8) (x : Mach) : Mach := x.keeper p (fun w => codeIs 0x41 w && w.getD 1 0 == 1) (calRunLineCmd p)

/-- Stores a feed's baseline: the means of its 16 measurements. -/
def Ctl.baseStore (c : Ctl) (f : Nat) : Ctl :=
  let q := kgetD c.amp.line f {}
  ((c.set R.LINE_FEED_BASE_Z (q.sumZ / 16) f).set R.LINE_FEED_BASE_PH (ux 8 (Int.tdiv q.sumPh 16)) f).set R.LINE_FEED_BASE_VALID 1 f

/-- LINE_BASELINE_DONE: every feed has its 16 measurements. -/
def lineBaselineDone (c : Ctl) : Ctl :=
  match c.longOf 0x41 with
  | none => c
  | some l =>
    let fs := c.baseFeeds
    if !c.amp.cal || !fs.all (fun f => 16 ≤ (kgetD c.amp.line f {}).n) then c
    else
      let used := (c.winNo + 2 ^ 32 - c.amp.calFrom) % 2 ^ 32
      let c := { c with amp := { c.amp with cal := false } }
      ((c.each fs Ctl.baseStore).raise Ev.LINE_BASE).keepDone l 0 [used]

/-! ## Limits of long commands (R401, R474) -/

/-- What a long command leaves behind at its limit. -/
def Ctl.longEnd (c : Ctl) (l : LongCmd) : Ctl :=
  if l.code = 0x20 then
    let t := { c.tab with
      loadPend := false, loadImg := [], loadProg := [], loadMesh := [], loadGrid := []
      stage := [], stageHasPlan := false, stageProg := [], stageMesh := [], stageGrid := [] }
    (({ c with tab := t }.set R.SYS_SCENE_STAGE 3).set R.SYS_STAGE_ID 0).set R.SYS_SCENE_LOAD_FAIL 1
  else if l.code = 0x22 then { c with tab := { c.tab with loadProg := [] } }
  else if l.code = 0x41 then { c with amp := { c.amp with cal := false } }
  else { c with boot := { c.boot with update := [] } }

/-- KEEPER_COMMAND_TIMEOUT: the long command of a code reaches its limit. -/
def keeperCommandTimeout (code : BitVec 8) (c : Ctl) : Ctl :=
  match c.longOf code.toNat with
  | none => c
  | some l => (c.longEnd l).keepDone l 7 []

/-! ## Calibration and sensing (R426, R427) -/

/-- DRAM_CAL_BAD follows both DRAM measurements; a change of outcome raises EV_MON_CAL, and a failure sets CAL_SEEN. -/
def Ctl.dramCal (c : Ctl) (ok was : Bool) : Ctl :=
  let c := c.set R.MON_STATUS_DRAM_CAL_BAD (b2n (c.mon.zqBad || c.mon.strobeBad))
  let c := c.when (!ok) (·.set R.MON_STATUS_CAL_SEEN 1)
  if ok == was then c else c.raise Ev.MON_CAL

/-- ZQ_CALIBRATION. -/
def zqCalibration (ok : Bool) (c : Ctl) : Ctl :=
  if c.get R.DRAM_STATUS_MODE = 0 then c
  else { c with mon := { c.mon with zqBad := !ok } }.dramCal ok (!c.mon.zqBad)

/-- STROBE_TRACKING. -/
def strobeTracking (ok : Bool) (c : Ctl) : Ctl :=
  if c.get R.DRAM_STATUS_MODE = 0 then c
  else { c with mon := { c.mon with strobeBad := !ok } }.dramCal ok (!c.mon.strobeBad)

/-- SAFE_CHECK: the SAFE cycles counted over 10^9 ns of TIME. -/
def safeCheck (cycles : Nat) (c : Ctl) : Ctl :=
  let bad : Bool := 32000 < ((cycles : Int) - 16000000).natAbs
  let c := (c.set R.MON_STATUS_SAFE_BAD (b2n bad)).when bad (·.set R.MON_STATUS_CAL_SEEN 1)
  c.raise Ev.MON_CAL

/-- SENSOR_READ: the eight sensors, every 10 ms. -/
def sensorRead (v : Vector (BitVec 32) 8) (c : Ctl) : Ctl :=
  if c.keep.down then c else c.each (List.range 8) (fun c i => c.set R.MON_SENSE_VALUE (v.toList.getD i 0).toNat i)

/-! ## Flash (R428) -/

/-- One block is retired. -/
def Ctl.flashRetire (c : Ctl) : Ctl :=
  let n := c.get R.MON_FLASH_SPARE - 1
  let c := ((c.set R.MON_FLASH_SPARE n).inc R.MON_FLASH_RETIRED).set R.MON_FLASH_SPARE_LOW (b2n (n < 32))
  (c.set R.MON_STATUS_FLASH_SEEN 1).raise Ev.MON_FLASH

/-- Whether the class-D allowance is below the line watch and the scrubber at its rate (R417). -/
def Ctl.backgroundCut (c : Ctl) : Bool :=
  c.get R.LEDG_JOB_ALLOW_ALLOW 3 < 1 + (c.get R.MON_CTRL_SCRUB_RATE + 31) / 32

/-- FLASH_PATROL: pages moved, blocks retired and uncorrectable pages found. It pauses while class D is cut (R417). -/
def flashPatrol (moved retired bad : Fin 65536) (c : Ctl) : Ctl :=
  if c.keep.down || c.backgroundCut then c
  else
    let c := c.inc R.MON_FLASH_ECC 0 moved.val
    let c := c.each (List.range (min retired.val (c.get R.MON_FLASH_SPARE))) (fun c _ => c.flashRetire)
    if bad.val = 0 then c else (c.set R.MON_STATUS_FLASH_SEEN 1).raise Ev.MON_FLASH

/-! ## The monitor chain (R429 to R434) -/

/-- A channel's length (R431). -/
def Ctl.monLen (c : Ctl) (ch : Nat) : Nat :=
  match c.get R.MON_CH_PRESET ch with
  | 0 => c.get R.MON_CH_L ch
  | 1 => 16 | 2 => 48 | 3 => 480 | _ => 4800

/-- The 24-bit input of a value under a mode (R429): from a sample where `audio`, else from a measured value. -/
def monValue (audio : Bool) (mode : Nat) (s : Int) : Int :=
  let most : Int := 2 ^ 23 - 1
  let v : Int := if audio then s / 256 else clampI (-2 ^ 23) most s
  if mode = 0 then v
  else if mode = 1 then clampI 0 most (if audio then (v.natAbs : Int) else (s.natAbs : Int))
  else if audio then (s / 2 ^ 20) * (s / 2 ^ 20)
  else clampI 0 most (s * s)

/-- One input of a channel (R430, R431): the integrators, and the combs where an output is due. -/
def MonCh.input (m : MonCh) (len phase sidx : Nat) (v : Int) : MonCh :=
  let w : Nat := 2 ^ 64
  let i1 := (m.i1 + ux 64 v) % w
  let i2 := (m.i2 + i1) % w
  let i3 := (m.i3 + i2) % w
  let m' := { m with i1 := i1, i2 := i2, i3 := i3, n := m.n + 1 }
  if len = 0 || m.n + 1 < phase || (m.n + 1 - phase) % len != 0 then m'
  else
    let d1 := (i3 + w - m.z1) % w
    let d2 := (d1 + w - m.z2) % w
    let y := (d2 + w - m.z3) % w
    { m' with z1 := i3, z2 := d1, z3 := d2, due := m.due ++ [(y, sidx, decide (m.n + 1 ≤ 3 * len))] }

/-- The inputs of a channel in the window that ends, by sample: whether they are audio, and their values. -/
def Ctl.monInputs (c : Ctl) (ch : Nat) (staged : Nat → List Int) : Ctl × Bool × List Int :=
  let s := c.winSamples
  let i := c.get R.MON_CH_INDEX ch
  match c.get R.MON_CH_TAP ch with
  | 1 => (c, true, c.feedOut i)
  | 2 => (c, true, staged i)
  | 3 =>
    let r := (List.range s).foldl (fun (q : Ctl × List Int) _ =>
      let f := q.1.free 24
      (f.2, q.2 ++ [sx 24 f.1])) (c, [])
    (r.1, false, r.2)
  | _ => (c, false, List.replicate s (sx 32 (c.get R.MON_SENSE_VALUE (i % 8))))

/-- A channel takes in the window that ends. -/
def Ctl.monWindow (c : Ctl) (staged : Nat → List Int) (ch : Nat) : Ctl :=
  let p := c.monInputs ch staged
  let c := p.1
  let base := c.winNo * c.winSamples
  let len := c.monLen ch
  let m := (p.2.2.zipIdx).foldl (fun (m : MonCh) e =>
    m.input len (c.get R.MON_CH_PHASE ch) ((base + e.2) % 2 ^ 32) (monValue p.2.1 (c.get R.MON_CH_MODE ch) e.1))
    (kgetD c.mon.chs ch {})
  { c with mon := { c.mon with chs := kput c.mon.chs ch m } }

/-- Every enabled channel of a powered chain takes in the window that ends. -/
def Ctl.monChain (c : Ctl) (staged : Nat → List Int) : Ctl :=
  if !c.is R.MON_CTRL_EN then c
  else c.each ((List.range 64).filter (fun ch => c.is R.MON_CH_EN ch && c.is R.MON_CH_TAP ch)) (fun c ch => c.monWindow staged ch)

/-- The threshold comparison of an output (R433). -/
def Ctl.monCompare (c : Ctl) (ch y : Nat) : Ctl :=
  let t := sx 64 y / 2 ^ c.get R.MON_CH_TSHIFT ch
  let above := c.is R.MON_CH_ABOVE ch
  let now : Bool := if above then !(t < c.geti R.MON_CH_LO ch) else c.geti R.MON_CH_HI ch < t
  if above == now then c
  else ((c.set R.MON_CH_ABOVE (b2n now) ch).set R.MON_STATUS_THRESH_SEEN 1).raise Ev.MON_THRESH 0 ch

/-- A record enters the on-die queue, over its oldest one when that is full (R434). -/
def Ctl.monPush (c : Ctl) (r : List Nat) : Ctl :=
  let q := c.mon.queue
  if q.length < 64 then c.setMonQ (q ++ [r])
  else (((c.setMonQ (q.tail ++ [r])).inc R.MON_Q_LOST).set R.MON_STATUS_LOST_SEEN 1).raise Ev.MON_LOST

/-- MONITOR_OUTPUT: a channel's next output is compared and recorded. -/
def monitorOutput (ch : Fin 64) (c : Ctl) : Ctl :=
  let m := kgetD c.mon.chs ch {}
  match m.due with
  | [] => c
  | (y, sidx, settling) :: due =>
    let c := { c with mon := { c.mon with chs := kput c.mon.chs ch { m with due := due, seq := (m.seq + 1) % 256 } } }
    let c := c.set R.MON_CH_SETTLING (b2n settling) ch
    let c := if settling then c else c.monCompare ch y
    let w0 := ch.val + 64 * b2n settling + 128 * c.get R.MON_CH_ABOVE ch + 256 * m.seq
    c.monPush [w0, sidx, y % 2 ^ 32, y / 2 ^ 32]

/-- MONITOR_RECORD_MOVE: M9 writes the oldest record at HEAD, if the module owns a slot. -/
def monitorRecordMove (x : Mach) : Mach :=
  let c := x.c
  match c.mon.queue with
  | [] => x
  | r :: q =>
    let size := 2 ^ c.get R.MON_RING_SIZE
    let head := c.get R.MON_RING_HEAD
    let a := c.get R.MON_RING_BASE_LO + 2 ^ 32 * c.get R.MON_RING_BASE_HI + 16 * (head % size)
    if head % size = c.get R.MON_RING_TAIL % size || c.dramDown then x
    else
      let moved := fun (c : Ctl) => (c.setMonQ q).set R.MON_RING_HEAD ((head + 1) % size)
      if c.usable < a + 16 then { x with c := ((moved c).mtxFault 2 (.agent 3) a true 6).emit (.busResult 6) }
      else
        let p := c.dramTouch 4 9 (c.masterClass (.agent 3)) true a 16
        if !p.2 then { x with c := p.1 } else { c := moved p.1, m := { x.m with dram := x.m.dram.wrs a (r.flatMap (leBytes 4)) } }

/-- The MON block's status (R436). -/
def Ctl.monStatus (c : Ctl) (code : Nat) : Ctl := c.status R.MON_STATUS_LAST R.MON_STATUS_ERR_STATE Ev.MON_STATE code

/-- MON_SYNC: the groups wait for the next boundary. -/
def monSync (groups : BitVec 4) (c : Ctl) : Ctl :=
  (c.set R.MON_STATUS_SYNC_PEND (c.get R.MON_STATUS_SYNC_PEND ||| groups.toNat)).monStatus 0

/-- The channels that a reset boundary resets. -/
def Ctl.monDue (c : Ctl) : List Nat :=
  (List.range 64).filter (fun ch => c.is R.MON_CH_EN ch &&
    (c.mon.reset.contains ch || bit (c.get R.MON_STATUS_SYNC_PEND) (c.get R.MON_CH_GROUP ch)))

/-- MON_SYNC_RESET: the reset of the boundary in progress. -/
def monSyncReset (c : Ctl) : Ctl :=
  if c.mon.dueChs.isEmpty then c
  else
    let chs := c.mon.dueChs.foldl (fun (l : Keyed MonCh) ch =>
      let m := kgetD l ch {}
      kput l ch { m with i1 := 0, i2 := 0, i3 := 0, z1 := 0, z2 := 0, z3 := 0, n := 0 }) c.mon.chs
    let c := { c with mon := { c.mon with chs := chs, dueChs := [] } }
    c.raise Ev.MON_SYNC

/-- A boundary takes the requests that wait for it: its reset channels, while the chain is powered (R432). -/
def Ctl.monBoundary (c : Ctl) : Ctl :=
  if !c.is R.MON_CTRL_EN then { c with mon := { c.mon with dueChs := [], once := [] } }
  else { c with mon := { c.mon with dueChs := c.monDue, reset := [], once := [] } }.set R.MON_STATUS_SYNC_PEND 0

/-- The fields of word `w` of a monitor channel. -/
def monChWord (w : Nat) : List Reg := wordFields R.fieldsMON (0xF0400 + 4 * w)

/-- Whether the ranges that join several fields of a channel hold (R436). -/
def Ctl.monChOk (c : Ctl) (ch : Nat) : Bool :=
  let tap := c.get R.MON_CH_TAP ch
  let i := c.get R.MON_CH_INDEX ch
  let len := c.monLen ch
  (tap != 1 || i < c.feedCount) && (tap != 2 || i < 256) && (tap != 3 || i == 0) && (tap != 4 || i < 8) &&
    c.get R.MON_CH_PHASE ch < len

/-- MON_CH_WRITE (R432, R436). -/
def monChWrite (ch : Fin 64) (w : Fin 4) (d : BitVec 32) (c : Ctl) : Ctl :=
  let f := monChWord w
  let fixed := [R.MON_CH_TAP, R.MON_CH_INDEX, R.MON_CH_MODE, R.MON_CH_PRESET, R.MON_CH_GROUP, R.MON_CH_L, R.MON_CH_PHASE]
  let c' := c.store f ch d.toNat
  if c.is R.MON_CH_EN ch && c.changes (f.filter (fun r => fixed.any (fun q => q.id == r.id))) ch d.toNat then c.monStatus 1
  else if !inRange f d.toNat || !c'.monChOk ch then c.monStatus 2
  else
    let c := c'.monStatus 0
    if w.val != 0 then c
    else if c.is R.MON_CH_EN ch then { c with mon := { c.mon with reset := ch.val :: c.mon.reset.filter (· != ch.val) } }
    else c.set R.MON_CH_ABOVE 0 ch

end Sys2Proof.Machine
end

