-- ==== Sys2Proof/Machine/RegRead.lean ====
section
/-! DEFINITION. Reads of BAR0 (R5, R7, R386, R451 to R453): registers, tables, the MSI-X range, latches, and the loft and
sequencer memory windows. -/
namespace Sys2Proof.Machine

/-- An access result: the machine after it, the data, and the bus result (R7, R387): 0 for OK. -/
structure Access where
  x : Mach
  data : Nat
  result : Nat

/-- Whether a BAR0 address lies in a sequencer memory window. -/
def inSeqWindow (a : Nat) : Bool := 0x400000 ≤ a && a < 0x800000

/-- Whether a BAR0 address lies in a loft window. -/
def inLoftWindow (a : Nat) : Bool := 0x1000000 ≤ a && a < 0x2000000

/-- Whether an access form is accepted at an address (R7): naturally aligned, and bytes and halfwords only in the windows. -/
def formOk (a : Nat) (n : AccSize) : Bool :=
  a % n.bytes == 0 && (4 ≤ n.bytes || inSeqWindow a || inLoftWindow a)

/-- Where an offset of a sequencer memory window lies: none in the unused upper half (R452); the half in force comes first. -/
def Ctl.seqCell (c : Ctl) (y o : Nat) : Option (Bool × Nat) :=
  if 0x80000 ≤ o then none
  else
    let half := (o % 0x40000 / 0x20000 + (c.seq y).half) % 2
    some (o < 0x40000, y * 0x40000 + half * 0x20000 + o % 0x20000)

/-- A register or table word as a read finds it. -/
def Ctl.regWord (c : Ctl) (m : Master) (a : Nat) : Nat :=
  let port := (a - 0x60000) / 0x4000
  let off := (a - 0x60000) % 0x4000
  if 0x30140 ≤ a && a < 0x30150 then c.evtRecWord ((a - 0x30140) / 4)
  else if 0x40400 ≤ a && a < 0x40800 && m == .fn0 then 0
  else if a = 0x20010 || (0x20040 ≤ a && a < 0x20050) then c.ledgShow.wordAt a
  else if 0x200000 ≤ a && a < 0x210000 && a % 64 = 4 then
    let o := (a - 0x200000) / 64
    (c.set R.OBJ_STATE (c.shownState o) o).wordAt a
  else if 0x250000 ≤ a && a < 0x252000 && a % 32 = 16 then
    let i := (a - 0x250000) / 32
    let old := c.shownOld.filter (fun o => c.get R.OBJ_SRC o == i)
    (c.set R.SRC_BOUND (c.get R.SRC_BOUND i + old.length) i).wordAt a
  else if a = 0x5C then c.lawInfo
  else if a = 0x70104 then c.flowInfo
  else if 0x60000 ≤ a && a < 0x70000 && 0x140 ≤ off && off < 0x150 then c.lrepWord port ((off - 0x140) / 4)
  else if 0x60000 ≤ a && a < 0x70000 && off = 0xC8 then c.pauseLeft port
  else if 0xB01C4 ≤ a && a < 0xB01D4 then c.audCs ((a - 0xB01C4) / 4)
  else if 0xC0040 ≤ a && a < 0xC00C0 && a % 16 = 0 then
    (c.set R.AMP_LINK_ALL_LINKS (c.get R.STORM_STATUS_ALL_LINKS) ((a - 0xC0040) / 16)).wordAt a
  else c.wordAt a

/-- A read of one register word with what it does (R5, R29, R300, R391, R403). -/
def Ctl.readReg (c : Ctl) (m : Master) (a : Nat) : Ctl × Nat :=
  if a = 0x1000C then (c.set R.WIN_COUNT_HI (c.win.ext / 2 ^ 32), c.get R.WIN_COUNT)
  else if a = 0x50008 then (c.set R.TIME_NOW_HI (c.time / 2 ^ 32), c.time % 2 ^ 32)
  else if 0x40000 ≤ a && a < 0x40800 && a % 128 = 0x40 then
    if m == .fn0 && 0x40400 ≤ a then (c, 0) else c.lbRead m ((a - 0x40000) / 128)
  else if 0x48000 ≤ a && a < 0x48100 then c.latchTry m ((a - 0x48000) / 4)
  else if 0x48100 ≤ a && a < 0x48200 then (c, c.get R.LATCH ((a - 0x48100) / 4))
  else (c, c.regWord m a)

/-- The MSI-X function of a master, if it is one. -/
def msixOf : Master → Option Nat
  | .fn0 => some 0 | .fn1 => some 1 | _ => none

/-- A failed access: captured by the matrix, with data 0. -/
def Mach.decerr (x : Mach) (m : Master) (a : Nat) (write : Bool) : Access := ⟨{ x with c := x.c.mtxFault 2 m a write (targetOf a) }, 0, 6⟩

/-- A read of `n` bytes, at most a word, at an accepted form. -/
def Mach.read (x : Mach) (m : Master) (a n : Nat) : Access :=
  if inLoftWindow a then
    let o := a - 0x1000000
    ⟨x, x.m.loft.rdN o n, if x.c.fabr.loftPoison.contains (o / 4 * 4) then 17 else 0⟩
  else if inSeqWindow a then
    match x.c.seqCell ((a - 0x400000) / 0x100000) ((a - 0x400000) % 0x100000) with
    | none => ⟨x, 0, 0⟩
    | some (imem, o) => ⟨x, (if imem then x.m.imem else x.m.dmem).rdN o n, 0⟩
  else if unmapped a then x.decerr m a false
  else if 0x3F000 ≤ a && a < 0x40000 then
    match msixOf m with
    | none => x.decerr m a false
    | some fn => ⟨x, x.c.msixRead fn ((a - 0x3F000) / 4), 0⟩
  else
    let p := x.c.readReg m a
    ⟨{ x with c := p.1 }, p.2, 0⟩

/-- Whether an access of `n` bytes is decided as two words (R7): registers and tables. -/
def splits (n : AccSize) : Bool := n == .double

/-- A whole access of one of the forms, as its bus result and data. -/
def Mach.readAll (x : Mach) (m : Master) (a : Nat) (n : AccSize) : Access :=
  if !formOk a n then x.decerr m a false
  else if splits n then
    let lo := x.read m a 4
    let hi := lo.x.read m (a + 4) 4
    ⟨hi.x, lo.data + 2 ^ 32 * hi.data, if lo.result = 0 then hi.result else lo.result⟩
  else x.read m a n.bytes

/-- Ends an access: a bus result other than OK is reported, and a read returns its data. -/
def Access.finish (r : Access) (read : Bool) : Mach :=
  let c := if r.result = 0 then r.x.c else r.x.c.emit (.busResult r.result)
  { r.x with c := if read then c.emit (.readData r.data) else c }

end Sys2Proof.Machine
end

