-- ==== Sys2Proof/Machine/RegWrite.lean ====
section
/-! DEFINITION. Writes of BAR0 (R5 to R11, R451 to R454): each word goes to the write of its block. -/
namespace Sys2Proof.Machine

/-! ## Blocks whose words have no write of their own elsewhere -/

/-- A plain word: refused with RANGE, by `st`, where a field is out of its range, and stored otherwise. -/
def Ctl.plain (c : Ctl) (st : Ctl → Nat → Ctl) (a d : Nat) : Ctl := if rangeAt a d then st (c.storeAt a d) 0 else st c 2

/-- The status of a block that has none. -/
def noStatus (c : Ctl) (_ : Nat) : Ctl := c

/-- SYS: SYS_LAW is mirrored; the other words are plain. -/
def Ctl.sysWrite (c : Ctl) (m : Master) (off d : Nat) : Ctl :=
  if off = 0x50 then sysLawWrite m d c else if off = 0x58 then c.lawSelWrite d else c.plain noStatus off d

/-- WIN (R29). A write with both START and STOP is refused with RANGE. -/
def Ctl.winWrite (c : Ctl) (m : Master) (off d : Nat) : Ctl :=
  if off = 0 then winCtrlWrite m d c
  else if off = 4 then
    if d % 4 = 1 then winStart c else if d % 4 = 2 then winStop c else c
  else if off = 0x14 then c.epochWrite R.WIN_EPOCH_LO d
  else if off = 0x18 then c.epochWrite R.WIN_EPOCH_HI d
  else c.plain noStatus (0x10000 + off) d

/-- LEDG (R38, R53). -/
def Ctl.ledgWrite (c : Ctl) (m : Master) (off d : Nat) : Ctl :=
  if 0x50 ≤ off && off < 0x60 then jobAllowWrite ((off - 0x50) / 4) d c
  else if 0x100 ≤ off && off < 0x110 then ledgLimitWrite m ((off - 0x100) / 4) d c
  else if 0x200 ≤ off && off < 0x2D8 then ledgCostWrite m ((off - 0x200) / 4) d c
  else (c.plain noStatus (0x20000 + off) d).ledgShow

/-- EVT (R411 to R414). -/
def Ctl.evtWrite (c : Ctl) (off d : Nat) : Ctl :=
  if off < 0x60 then evtPendClear (Fin.ofNat 24 (off / 4)) (BitVec.ofNat 32 d) c
  else if off = 0x134 then evtEoi (BitVec.ofNat 32 d) c
  else if off = 0x154 then if bit d 0 then evtPop c else c
  else if off = 0x150 || off = 0x158 then c.plain noStatus (0x30000 + off) d
  else if off = 0x114 then (c.plain noStatus 0x30114 (d % 65536)).evtUpdate
  else (c.plain noStatus (0x30000 + off) d).evtUpdate

/-- MBX and LATCH (R391, R394, R403). COLLIDE is cleared by the receiver alone; the sender's write of that
word changes nothing, and another master's is DENIED. -/
def Ctl.mbxWrite (c : Ctl) (m : Master) (off d : Nat) : Ctl :=
  let n := Fin.ofNat 16 (off / 128)
  let w := off % 128
  if off < 0x800 then
    if w < 64 then letterboxDataWrite m n (Fin.ofNat 16 (w / 4)) d c
    else if w = 0x40 then lbGoWrite m n c
    else if w = 0x44 then
      if c.receiver n == some m then (c.storeAt (0x40000 + off) d).set R.MBX_STATUS_LAST 0
      else if c.sender n == some m then c.set R.MBX_STATUS_LAST 0
      else (c.denied m (0x40000 + off)).set R.MBX_STATUS_LAST 4
    else c
  else if off = 0x1004 || off = 0x1008 then mbxAllocWrite (Fin.ofNat 2 ((off - 0x1004) / 4)) d c
  else if off = 0x1000 then c.plain (fun c k => c.set R.MBX_STATUS_LAST k) 0x41000 d
  else if 0x8000 ≤ off && off < 0x8100 then latchWrite m (Fin.ofNat 64 ((off - 0x8000) / 4)) c
  else c.storeAt (0x40000 + off) d

/-- NET_CMD, its commands in the order of their bits (R299, R308, R317). -/
def Ctl.netCmd (c : Ctl) (p : Fin 4) (d : Nat) : Ctl :=
  ((c.when (bit d 0) (netStatClr p)).when (bit d 1) (netLrepPop p)).when (bit d 2) (netVerify p)

/-- NET, but for NET_CFG (R317). The common registers lie in the region of P0. -/
def Ctl.netWrite (c : Ctl) (off d : Nat) : Ctl :=
  let p := Fin.ofNat 4 (off / 0x4000)
  let o := off % 0x4000
  if o = 8 then c.netCmd p d
  else if o < 0x1000 then c.netPortWrite p o d
  else if p.val != 0 then c
  else if o = 0x1000 then c.netPortWrite 0 o d
  else if 0x1400 ≤ o && o < 0x1C00 then
    if o % 32 = 0 then rxStreamEnable (Fin.ofNat 64 ((o - 0x1400) / 32)) d c else c.rxsWrite ((o - 0x1400) / 32) (o % 32 / 4) d
  else if 0x2400 ≤ o && o < 0x2C00 then
    if o % 32 = 0 then txStreamEnable (Fin.ofNat 64 ((o - 0x2400) / 32)) d c else c.txsWrite ((o - 0x2400) / 32) (o % 32 / 4) d
  else if 0x2C00 ≤ o && o < 0x2E00 then c.txmapWrite ((o - 0x2C00) / 4) d
  else c

/-- FAB (R286, R287, R289). -/
def Ctl.fabWrite (c : Ctl) (off d : Nat) : Ctl :=
  if off = 0 then c.fabCfg d
  else if off = 8 then
    (c.when (bit d 0) fabJoin).when (bit d 1) (fabTick (BitVec.ofNat 4 (R.FAB_CMD_TICK_LEN.of d)))
  else c.plain noStatus (0x70000 + off) d

/-- HNG_CFG (R38, R265): refused while the role is not OFF; a link enable is a ledger request. -/
def Ctl.hngCfg (c : Ctl) (d : Nat) : Ctl :=
  if R.HNG_CFG_MODE.of d = 3 || R.HNG_CFG_MODE.of d < R.HNG_CFG_RANK.of d then c.hngStatus 2
  else if c.role != 0 then c.hngStatus 1
  else
    let p := c.enableBlock (·.storeAt 0x80000 d)
    if p.2 != 0 then p.1.hngStatus p.2
    else
      let c := p.1.when (R.HNG_CFG_H0_EN.of d = 0) (hingeLinkDown 0)
      (c.when (R.HNG_CFG_H1_EN.of d = 0) (hingeLinkDown 1)).hngStatus 0

/-- HNG (R265), its commands in the order of their bits. -/
def Ctl.hngWrite (c : Ctl) (m : Master) (off d : Nat) : Ctl :=
  if off = 0 then c.hngCfg d
  else if off = 4 then c.plain Ctl.hngStatus 0x80004 d
  else if off = 8 then
    ((((c.when (bit d 0) (Machine.hngEnable m)).when (bit d 1) (Machine.hngDisable m)).when (bit d 2) (Machine.hngRejoin m)).when (bit d 3)
      (Machine.hngStandDown m)).when (bit d 4) (Machine.hngProbe m)
  else c.storeAt (0x80000 + off) d

/-- DRAM, but for DRAM_CTRL (R380). -/
def Ctl.dramWrite (c : Ctl) (off d : Nat) : Ctl :=
  if 0xC ≤ off && off < 0x18 then c.plain Ctl.dramStatus (0x90000 + off) d else c.storeAt (0x90000 + off) d

/-- The MTX block's status (R382). -/
def Ctl.mtxStatus (c : Ctl) (code : Nat) : Ctl := c.status R.MTX_STATUS_LAST R.MTX_STATUS_ERR_STATE Ev.MTX_STATE code

/-- MTX (R382). -/
def Ctl.mtxWrite (c : Ctl) (off d : Nat) : Ctl :=
  if off = 0xC && c.armed then c.mtxStatus 1
  else if 0xC ≤ off && off < 0x18 then c.plain Ctl.mtxStatus (0xA0000 + off) d
  else c.storeAt (0xA0000 + off) d

/-- SHUT (R216 to R218). -/
def Ctl.shutWrite (c : Ctl) (m : Master) (off d : Nat) : Ctl :=
  if 0x100 ≤ off && off < 0x160 then shutOpenRequest m ((off - 0x100) / 4) d c
  else if 0x180 ≤ off && off < 0x1E0 then shutCloseRequest m ((off - 0x180) / 4) d c
  else c.hngGate m (0xD0000 + off) d none (·.storeAt (0xD0000 + off) d)

/-- STORM, but for STORM_CMD (R233, R239): the configuration is a shadow until COMMIT. -/
def Ctl.stormWrite (c : Ctl) (m : Master) (off d : Nat) : Ctl :=
  let a := 0xE0000 + off
  if 0x20 ≤ off && off < 0x30 then stormForceWrite m ((off - 0x20) / 4) d c
  else if 0x30 ≤ off && off < 0x40 then stormReturnRequest m ((off - 0x30) / 4) d c
  else if off = 0x68 then (c.when (bit d 0) (Machine.stormBqWrite m)).when (bit d 1) (Machine.stormBqRead m)
  else if off = 4 then c.storeAt a d
  else if 0x1000 + 4 * c.feedCount ≤ off && off < 0x1C00 then c.stormStatus 2
  else (c.plain Ctl.stormStatus a d).showDirty

/-- FIRE (R221, R239). -/
def Ctl.fireWrite (c : Ctl) (m : Master) (off d : Nat) : Ctl :=
  if 0x100 ≤ off && off < 0x180 then if off % 8 = 0 then fireInWrite m ((off - 0x100) / 8) d c else c
  else if off = 8 || off = 0xC then (c.plain Ctl.fireStatus (0xE8000 + off) d).faults
  else c.storeAt (0xE8000 + off) d

/-- MON_CTRL (R38, R432): the monitor chain's power is a ledger request; it starts with a reset of every enabled channel. -/
def Ctl.monCtrl (c : Ctl) (d : Nat) : Ctl :=
  if !rangeAt 0xF0000 d then c.monStatus 2
  else
    let rise := R.MON_CTRL_EN.of d = 1 && !c.is R.MON_CTRL_EN
    let p := c.enableBlock (·.storeAt 0xF0000 d)
    if p.2 != 0 then p.1.monStatus p.2
    else
      let c := p.1.monStatus 0
      if rise then { c with mon := { c.mon with reset := (List.range 64).filter (c.is R.MON_CH_EN ·) } } else c

/-- MON (R432, R434, R436). -/
def Ctl.monWrite (c : Ctl) (off d : Nat) : Ctl :=
  let a := 0xF0000 + off
  if off = 0 then c.monCtrl d
  else if off = 4 then if bit d 0 then monSync (BitVec.ofNat 4 (R.MON_CMD_GROUPS.of d)) c else c
  else if off = 0x10 || off = 0x14 then if c.is R.MON_CTRL_EN then c.monStatus 1 else c.plain Ctl.monStatus a d
  else if off = 0x1C || off = 0x24 then c.plain Ctl.monStatus a d
  else if 0x400 ≤ off && off < 0x800 then
    monChWrite (Fin.ofNat 64 ((off - 0x400) / 16)) (Fin.ofNat 4 (off % 16 / 4)) (BitVec.ofNat 32 d) c
  else c.storeAt a d

/-- YARD[y] (R136, R158): the configuration words are mirrored, the status words are not. -/
def Ctl.yardWrite (c : Ctl) (m : Master) (y off d : Nat) : Ctl :=
  let a := 0x100000 + 0x40000 * y + off
  if off = 0 then yardCtrlWrite m (Fin.ofNat 4 y) d c
  else if 8 ≤ off && off < 0x14 then c.hngGate m a d none (·.yardCfgWrite y ((off - 8) / 4) d)
  else if off = 0x14 then c.hngGate m a d none (·.plain noStatus a d)
  else if off = 0x9C && m != .keeper then c.denied m a
  else c.storeAt a d

/-- A write of CORR_FEED[f] without a swap, or of the words beside it. -/
def Ctl.corrFeedWrite (c : Ctl) (f w d : Nat) : Ctl :=
  let a := 0x241000 + 16 * f + 4 * w
  if w = 3 then c
  else if c.feedCount ≤ f || !rangeAt a d then c.set R.CORR_FEED_LAST 2 f
  else if w = 2 then c.storeAt a d
  else (c.storeAt a d).set R.CORR_FEED_LAST 0 f

/-- CORR, but for CORR_LOAD.GO (R114, R118, R130): a mirrored block. -/
def Ctl.corrWrite (c : Ctl) (m : Master) (off d : Nat) : Ctl :=
  let a := 0x240000 + off
  if off = 0x38 then (c.when (bit d 0) (corrBqWrite m)).when (bit d 1) corrBqRead
  else if 0x1000 ≤ off && off < 0x4000 then
    let f := (off - 0x1000) / 16
    let w := off % 16 / 4
    if w = 0 && R.CORR_FEED_SWAP.of d = 1 then corrSwap m f (R.CORR_FEED_TARGET.of d) (R.CORR_FEED_FADE.of d) c
    else c.hngGate m a d (if w < 2 then some (R.CORR_FEED_LAST, f) else none) (·.corrFeedWrite f w d)
  else c.hngGate m a d none (fun c => let c := c.plain noStatus a d; if off = 0x20 then c.bqPending else c)

/-! ## The routing of a word (R451) -/

/-- A word write that the control state alone takes, its address named by a register and its master accepted. -/
def Ctl.writeReg (c : Ctl) (m : Master) (a d : Nat) : Ctl :=
  if a < 0x10000 then c.sysWrite m a d
  else if a < 0x20000 then c.winWrite m (a - 0x10000) d
  else if a < 0x30000 then c.ledgWrite m (a - 0x20000) d
  else if a < 0x40000 then c.evtWrite (a - 0x30000) d
  else if a < 0x50000 then c.mbxWrite m (a - 0x40000) d
  else if a < 0x60000 then c.timeWrite (a - 0x50000) d
  else if a < 0x70000 then c.netWrite (a - 0x60000) d
  else if a < 0x80000 then c.fabWrite (a - 0x70000) d
  else if a < 0x90000 then c.hngWrite m (a - 0x80000) d
  else if a < 0xA0000 then c.dramWrite (a - 0x90000) d
  else if a < 0xB0000 then c.mtxWrite (a - 0xA0000) d
  else if a < 0xC0000 then c.audWrite (a - 0xB0000) d
  else if a < 0xC8000 then c.ampWrite m (a - 0xC0000) d
  else if a < 0xD0000 then c.lineWrite (a - 0xC8000) d
  else if a < 0xE0000 then c.shutWrite m (a - 0xD0000) d
  else if a < 0xE8000 then c.stormWrite m (a - 0xE0000) d
  else if a < 0xF0000 then c.fireWrite m (a - 0xE8000) d
  else if a < 0x100000 then c.monWrite (a - 0xF0000) d
  else if a < 0x200000 then c.yardWrite m ((a - 0x100000) / 0x40000) (a % 0x40000) d
  else if a < 0x210000 then objEntryWrite m ((a - 0x200000) / 64) (a % 64 / 4) d c
  else if a < 0x220000 then feedEntryWrite m ((a - 0x210000) / 64) (a % 64 / 4) d c
  else if a < 0x230000 then zoneEntryWrite m ((a - 0x220000) / 64) (a % 64 / 4) d c
  else if a < 0x240000 then planEntryWrite m ((a - 0x230000) / 64) (a % 64 / 4) d c
  else if a < 0x250000 then c.corrWrite m (a - 0x240000) d
  else srcEntryWrite m ((a - 0x250000) / 32) (a % 32 / 4) d c

/-- Whether a BAR0 address names a register or table word (R452). EVT_CMD alone has no readable field. -/
def named (a : Nat) : Bool := a == 0x30154 || !(fieldsAt a).isEmpty

/-- The object whose tap record holds a loft byte, `o` counted over the four lofts: a sparse record (R93) or a dense one (R103). -/
def Ctl.recordObj (c : Ctl) (o : Nat) : Option Nat :=
  let y := o / 0x400000
  let a := o % 0x400000
  if 0x100000 ≤ a && a < 0x190000 then some (256 * y + (a - 0x100000) / 0x900)
  else if 0x190000 ≤ a && a < 0x2B0000 then (kget? c.src.near (64 * y + (a - 0x190000) / 0x4800)).map (·.obj)
  else none

/-- A write to loft byte `o` by `m`: one by the host to a tap record of an object that is not IDLE leaves the object's output
undefined until its next activation (R93). -/
def Ctl.spoilObj (c : Ctl) (m : Master) (o : Nat) : Ctl :=
  match (if m == .fn0 || m == .fn1 then c.recordObj o else none) with
  | none => c
  | some i => if c.shownState i = 0 then c else { c with src := { c.src with spoiled := i :: c.src.spoiled.filter (· != i) } }

/-- A byte, halfword or word written to a loft. A poisoned word takes whole words only (R370): the part write of a
sequencer ends with an error. -/
def Mach.loftWrite (x : Mach) (m : Master) (a n d : Nat) : Mach :=
  let o := a - 0x1000000
  let w := o / 4 * 4
  let c := x.c.spoilObj m o
  if c.fabr.loftPoison.contains w then
    if n = 4 then
      { c := { c with fabr := { c.fabr with loftPoison := c.fabr.loftPoison.filter (· != w) } },
        m := { x.m with loft := x.m.loft.wrN o 4 d } }
    else
      let c := (x.c.set R.YARD_STATUS_ECC_SEEN 1 (o / 0x400000)).raise Ev.YARD_ECC (o / 0x400000)
      match m with
      | .seq _ => { x with c := c.emit (.busResult 17) }
      | _ => { x with c := c }
  else { c := c, m := { x.m with loft := x.m.loft.wrN o n d } }

/-- A write whose block enables may use the floor: the keeper's own, while it arms the module or carries out a plan (R38). -/
def Ctl.mayUseFloor (c : Ctl) (m : Master) : Bool :=
  m == .keeper && c.keeperBusy

/-- Notes for a write whether its block enables may use the floor. -/
def Ctl.floorUse (c : Ctl) (on : Bool) : Ctl := { c with ledg := { c.ledg with mayUseFloor := on } }

/-- A write of at most a word, at an accepted form (R7, R8, R451 to R453). -/
def Mach.write (x : Mach) (m : Master) (a n d : Nat) : Mach :=
  let lift := fun (f : Ctl → Ctl) => ({ x with c := f x.c } : Mach)
  if inLoftWindow a then x.loftWrite m a n d
  else if inSeqWindow a || unmapped a then lift (·.decerr m a true)
  else if 0x3F000 ≤ a && a < 0x40000 then
    match msixOf m with
    | none => lift (·.decerr m a true)
    | some fn => lift (·.msixWrite fn ((a - 0x3F000) / 4) d)
  else if writeClass a == .secure && !x.c.secure m then lift (·.denied m a)
  else if !named a then x
  else if 0x60000 ≤ a && a < 0x70000 && a % 0x4000 = 0 then
    let y := netCfgWrite (Fin.ofNat 4 ((a - 0x60000) / 0x4000)) d { x with c := x.c.floorUse (x.c.mayUseFloor m) }
    { y with c := y.c.floorUse false }
  else if a = 0x90000 then x.dramCtrl m d
  else if a = 0xE0000 then
    let y := if bit d 0 then Machine.stormArm m x else x
    { y with c := (y.c.when (bit d 1) (Machine.stormDisarm m)).when (bit d 2) (Machine.stormCommit m) }
  else if a = 0x240008 && R.CORR_LOAD_GO.of d = 1 then
    corrLoadGo m (R.CORR_LOAD_FEED.of d) (R.CORR_LOAD_BANK.of d) (R.CORR_LOAD_SLOT.of d) x
  else lift (fun c => ((c.floorUse (c.mayUseFloor m)).writeReg m a d).floorUse false)

/-- Whether an output is a bus result. -/
def Output.isBus : Output → Bool
  | .busResult _ => true
  | _ => false

/-- A list of outputs with its first bus result only: an access has one (R7). -/
def oneBus : List Output → List Output
  | [] => []
  | o :: l => if o.isBus then o :: l.filter (fun p => !p.isBus) else o :: oneBus l

/-- A whole write of one of the forms: a doubleword is two words, the lower first, and its bus result is the first that is
not OK (R7). -/
def Mach.writeAll (x : Mach) (m : Master) (a : Nat) (n : AccSize) (d : Nat) : Mach :=
  if !formOk a n then { x with c := x.c.decerr m a true }
  else if splits n then
    let was := x.c.out
    let y := (({ x with c := { x.c with out := [] } } : Mach).write m a 4 (d % 2 ^ 32)).write m (a + 4) 4 (d / 2 ^ 32)
    { y with c := { y.c with out := was ++ oneBus y.c.out } }
  else x.write m a n.bytes (d % 2 ^ (8 * n.bytes))

/-- REGISTER_WRITE. -/
def registerWrite (m : Master) (a : BitVec 32) (n : AccSize) (d : BitVec 64) (x : Mach) : Mach := x.writeAll m a.toNat n d.toNat

end Sys2Proof.Machine
end

