-- ==== Sys2Proof/Syntax.lean ====
section
/-! DEFINITION. The commands of the block: one constructor per row of spec/opcode_table.json, in the table's order. What a
command carries is data from outside the block (who sends it, what it names, what was received or measured); what it does
depends on the state (Machine/Dispatch.lean). -/
namespace Sys2Proof

/-- A command. -/
inductive Instr where
  /-- R5: A write to a register or table field that has no row of its own takes effect according to its access type.
  Master, byte address in BAR0, access width and the written value. -/
  | registerWrite (m : Master) (a : BitVec 32) (n : AccSize) (d : BitVec 64)
  /-- R7: A host PCIe memory request to the BAR2 DRAM window acts on exactly the bytes it names, with a read-modify-write
  for a partial chunk. PCIe function, byte address, length in bytes (at most 512) and, for a write, each byte or `none`
  where its enable is off. -/
  | bar2Access (fn : Fin 2) (addr : BitVec 40) (len : Fin 513) (data : Option (List (Option Byte)))
  /-- R15: 64 SAFE cycles pass without a root edge; the module declares the root lost, stops windows, clears the lock bits
  and hands the links to the storm door. -/
  | rootLost
  /-- R15: A PLL loses lock; its lock bit clears and its LOST bit sets, and loss of the audio PLL stops windows and
  engages the storm door. `p` is a PLL. -/
  | pllLockLoss (p : Fin 4)
  /-- R15: A PLL relocks after the root has returned, and its lock bit returns to 1. `p` is a PLL. -/
  | pllRelock (p : Fin 4)
  /-- R19: A window begins at its network time; the window count advances, the phase error is measured and the per-window
  engines run. The words that the kit's jobs of the window that ends found in error, by yard (R156); the supply's mean and
  peak of that window, and the battery and bus voltages. -/
  | windowBoundary (ecc : List (Fin 4 × ScrubHit)) (mean peak battMv busMv : BitVec 16)
  /-- R21: The tick phase counter returns to 0, and a new control tick begins. -/
  | tickBoundary
  /-- R21: A write of WIN_CTRL changes LEN or RATE96 when windows are stopped, and latches or cancels a new tick length.
  The master and the written word. -/
  | winCtrlWrite (m : Master) (d : BitVec 32)
  /-- R21: A latched tick length takes effect at the next tick boundary, which becomes phase 0. -/
  | tickLengthChange
  /-- R29: WIN_CMD.START is checked and, when accepted, starts windows at WIN_EPOCH. -/
  | winStart
  /-- R29: WIN_CMD.STOP stops windows at the next boundary, and is refused while the module is armed. -/
  | winStop
  /-- R29: A read of WIN_COUNT returns the low count and latches the high half for the next read. -/
  | winCountRead
  /-- R23: The guard point of the render window is reached, and the output engines take the output buffers. `late`: the
  feeds whose mix was not complete. -/
  | guardPoint (late : List (Fin 768))
  /-- R33: MAINS_OK changes; the ledger selects the budget, updates SUPPLY and raises EV_LEDG_SUPPLY. The new level of
  MAINS_OK. -/
  | mainsOkChange (ok : Bool)
  /-- R33: The battery voltage crosses 12.0 V, and the battery becomes present or absent. Whether the battery is present.
  -/
  | battPresenceChange (present : Bool)
  /-- R34: The battery has been below UV + 1.0 V on no mains for 1 s; BATT_LOW is set and K1 is de-energised. -/
  | battLowSet
  /-- R34: The battery has been below UV for 50 ms, and the battery path opens. -/
  | battCutoff
  /-- R34: The battery has been at or above UV + 1.0 V for 1 s after a cut-off, and the path closes. -/
  | battPathClose
  /-- R34: The battery has been at or above UV + 1.5 V for 10 s, and BATT_LOW clears. -/
  | battLowClear
  /-- R39: A write of LEDG_JOB_ALLOW is admitted, refused or latched as a restore value. Class and word; the keeper's own
  write. -/
  | jobAllowWrite (k : Fin 4) (d : BitVec 32)
  /-- R53: A write to the floor, budget, UV or BATT_OFF registers is checked against the armed-state rules. `w` is the
  word of LEDG_LIMIT. -/
  | ledgerLimitWrite (m : Master) (w : Fin 4) (d : BitVec 32)
  /-- R53: A write of LEDG_COST is accepted from the keeper only and is refused with STATE from any other master. `i` is
  the entry. -/
  | ledgCostWrite (m : Master) (ix : Fin 54) (d : BitVec 32)
  /-- R56: A write to an OBJ entry other than ACT_REQ is checked against the locks and stored, and LAST is set. Object,
  word of its entry, written word. -/
  | objEntryWrite (m : Master) (o : Fin 1024) (w : Fin 16) (d : BitVec 32)
  /-- R61: A write of ACT_REQ = 1 is checked and admitted to PENDING, scheduled, or refused. -/
  | objActivate (m : Master) (o : Fin 1024)
  /-- R63: A write of ACT_REQ = 0 returns the object to IDLE or starts its fade-out. -/
  | objDeactivate (m : Master) (o : Fin 1024)
  /-- R62: A SCHEDULED object's ACT_WIN is reached, and its activation is decided at the tick boundary. -/
  | scheduledActivation
  /-- R56: A write to SRC fields other than EN and RING is checked against the locks and the class rule. Source, word of
  its entry, written word. -/
  | srcEntryWrite (m : Master) (ix : Fin 256) (w : Fin 8) (d : BitVec 32)
  /-- R94: A write of SRC.EN = 1 allocates the ring, or is refused, and a FABRIC source subscribes. -/
  | srcEnable (m : Master) (ix : Fin 256)
  /-- R65: A write of SRC.EN = 0 releases the ring, and the bound objects show SRC_MUTE. -/
  | srcDisable (m : Master) (ix : Fin 256)
  /-- R96: A write of SRC.RING while EN = 1 is checked and latched. -/
  | ringLengthWrite (m : Master) (ix : Fin 256) (d : BitVec 32)
  /-- R96: A latched ring length takes effect at the window boundary and adjusts the fill count. -/
  | ringLengthChange (ix : Fin 256)
  /-- R56: A write to a FEED entry is checked against the locks and stored. Feed, word of its entry, written word. -/
  | feedEntryWrite (m : Master) (f : Fin 768) (w : Fin 16) (d : BitVec 32)
  /-- R58: A write to a ZONE entry is checked, stored and held while HOLD = 1. Zone, word of its entry, written word. -/
  | zoneEntryWrite (m : Master) (z : Fin 128) (w : Fin 16) (d : BitVec 32)
  /-- R70: A write to a PLAN entry is refused unless the plan is IDLE. Plan, word of its entry, written word. -/
  | planEntryWrite (m : Master) (p : Fin 64) (w : Fin 16) (d : BitVec 32)
  /-- R71: The keeper command SCENE_LOAD reads and checks a scene image, then begins writing it into the stage. -/
  | sceneLoad (p : Fin 8)
  /-- R71: The stage has been written; STAGE reads READY and the reply is sent. -/
  | sceneLoadDone
  /-- R72: The keeper command SCENE_SWITCH is checked, its charge is admitted and the switch window is fixed. -/
  | sceneSwitch (p : Fin 8)
  /-- R74: At the switch boundary the stage becomes the bank in force, with carry, fade and ring rules applied. -/
  | sceneSwitchBoundary
  /-- R104: A write of SYS_LAW is range-checked and stored for the next snapshot. -/
  | sysLawWrite (m : Master) (d : BitVec 32)
  /-- R113: CORR_LOAD.GO checks a staging image and starts a bank load. FEED, BANK and SLOT of the load. -/
  | corrLoadGo (m : Master) (f : Fin 1024) (b : Fin 2) (slot : Fin 16)
  /-- R113: A bank load completes, sets VALID and writes OK into LAST. -/
  | bankLoadComplete
  /-- R113: A bank load has not completed after 64 windows, and it ends with TIMEOUT and VALID = 0. -/
  | bankLoadTimeout
  /-- R114: A SWAP write to CORR_FEED starts a bank fade, holds it pending, or is refused. Feed, target bank and fade
  length. -/
  | corrSwap (m : Master) (f : Fin 768) (target : Fin 2) (fade : Fin 256)
  /-- R114: The last window of a bank fade ends, CORR_SWAPS increments and FADING clears. -/
  | bankFadeEnd (f : Fin 768)
  /-- R115: A pending or held swap request starts when its fade or the fading limit allows. -/
  | pendingSwapStart (f : Fin 768)
  /-- R118: CORR_BQ_CMD.WRITE checks a coefficient set and stages it for the selected stage. -/
  | corrBqWrite (m : Master)
  /-- R118: CORR_BQ_CMD.READ loads the staged set, or the set in force, into the coefficient registers. -/
  | corrBqRead
  /-- R122: Each second the guard of a zone produces a new STI estimate with its confidence. The zone, and for each
  microphone what the corrections of IEC 60268-16 make of m in its cells, in binary32, 15 to a band (R123). -/
  | stiUpdate (z : Fin 128) (m0 m1 : List (BitVec 32))
  /-- R126: A 10 ms ambient frame is measured and classed quiet or not, and AMB is updated. The yard and which of
  its zones, and the microphone. -/
  | ambientFrame (y : Fin 4) (k : Fin 32) (mic : Fin 2)
  /-- R129: A zone stops carrying class-A audio, and its countermeasures are withdrawn across the next tick. -/
  | guardRelax (z : Fin 128)
  /-- R202: The sequencer instruction POST checks a work order and submits it to the stable queues. The issue of the
  instruction; `ra` names the first of the order's registers, `rd` takes the result. -/
  | post (k : Issue) (rd ra : Fin 32)
  /-- R137: A free stall picks the next eligible order by the precedence rules and starts it as a job. The stall that
  asks. -/
  | jobDispatch (st : Fin 128)
  /-- R139: A class-B or class-C order has been eligible for AGE cycles and becomes aged. Stable and post number of the
  order. -/
  | orderAged (n : Fin 16) (post : Nat)
  /-- R140: A job reaches JOB_LIMIT cycles and is aborted with FAULT LIMIT. The stall. -/
  | jobLimitAbort (st : Fin 128)
  /-- R376: The duplicated pointers of a small queue disagree, and the queue resets to empty. -/
  | queuePointerMismatch (q : SmallQueue)
  /-- R147: At the mix cut-off, MIX orders due in the window are discarded or aborted, and feed dispatch starts. -/
  | mixCutoff (y : Fin 4)
  /-- R147: Once every MIX order of the window has ended, the feed dispatchers post the stage 1-6 jobs. -/
  | feedDispatch (y : Fin 4)
  /-- R143: A crossbar transfer has waited XBAR_AGE and takes class-A precedence. -/
  | xbarAgePromote (y : Fin 4) (ch : Fin 16)
  /-- R158: A write of YARD_CTRL powers or gates the yard and its stables, subject to the ledger and state checks. -/
  | yardCtrlWrite (m : Master) (y : Fin 4) (d : BitVec 32)
  /-- R136: Latched writes of YARD_RESERVE, YARD_ARB and YARD_LIMITS take effect at the window boundary. -/
  | yardConfigApply (y : Fin 4)
  /-- R160: A stall issues the all-zero NOP bundle, which advances the fetch address and counts toward every latency and
  toward JOB_LIMIT. -/
  | nopBundle (k : Slot)
  /-- R169: Stall operation: coefficient-broadcast multiply-accumulate into four accumulators. -/
  | vmacC (k : Slot) (d : Fin 2) (b src : Fin 64)
  /-- R169: Stall operation: coefficient-broadcast multiply-subtract. -/
  | vmsuC (k : Slot) (d : Fin 2) (b src : Fin 64)
  /-- R169: Stall operation: coefficient-broadcast multiply that overwrites the accumulators. -/
  | vmulC (k : Slot) (d : Fin 2) (b src : Fin 64)
  /-- R169: Stall operation: sample-broadcast multiply-accumulate. -/
  | vmacS (k : Slot) (d : Fin 2) (b src : Fin 64)
  /-- R169: Stall operation: sample-broadcast multiply that overwrites the accumulators. -/
  | vmulS (k : Slot) (d : Fin 2) (b src : Fin 64)
  /-- R169: Stall operation: scalar multiply-accumulate into one accumulator. -/
  | smac (k : Slot) (d cf : Fin 8) (y : Fin 64)
  /-- R169: Stall operation: scalar multiply-subtract. -/
  | smsu (k : Slot) (d cf : Fin 8) (y : Fin 64)
  /-- R169: Stall operation: scalar multiply that overwrites one accumulator. -/
  | smul (k : Slot) (d cf : Fin 8) (y : Fin 64)
  /-- R169: Stall operation: clear the masked accumulators. -/
  | aclr (k : Slot) (mask : Fin 256)
  /-- R169: Stall operation: add one accumulator into another. -/
  | aadd (k : Slot) (d src : Fin 8)
  /-- R169: Stall operation: subtract one accumulator from another. -/
  | asub (k : Slot) (d src : Fin 8)
  /-- R170: Stall operation: add an immediate word offset to a pointer, with modulo. -/
  | paddi (k : Slot) (d : Fin 16) (imm : BitVec 8)
  /-- R170: Stall operation: add a pointer to a pointer, with modulo. -/
  | padd (k : Slot) (d src : Fin 16)
  /-- R170: Stall operation: subtract a pointer from a pointer, with modulo. -/
  | psub (k : Slot) (d src : Fin 16)
  /-- R170: Stall operation: copy a pointer. -/
  | pmov (k : Slot) (d src : Fin 16)
  /-- R170: Stall operation: load a sign-extended immediate into a pointer. -/
  | pli (k : Slot) (d : Fin 16) (imm : BitVec 8)
  /-- R170: Stall operation: shift a pointer left. -/
  | pshl (k : Slot) (d : Fin 16) (n : Fin 32)
  /-- R170: Stall operation: shift a pointer right arithmetically. -/
  | pshr (k : Slot) (d : Fin 16) (n : Fin 32)
  /-- R170: Stall operation: bitwise AND of two pointers. -/
  | pand (k : Slot) (d src : Fin 16)
  /-- R170: Stall operation: set a loop counter from a pointer. -/
  | setc (k : Slot) (n : Fin 4) (src : Fin 16)
  /-- R170: Stall operation: set a loop counter from an immediate. -/
  | setci (k : Slot) (n : Fin 4) (imm : BitVec 8)
  /-- R170: Stall operation: set a modulo ring register. -/
  | mset (k : Slot) (n : Fin 4) (src : Fin 16)
  /-- R170: Stall operation: copy the status register into a pointer. -/
  | pst (k : Slot) (d : Fin 16)
  /-- R172: Stall operation: load one store word into a v register. -/
  | ld1 (k : Slot) (d : Fin 64) (p : Fin 16) (post : Fin 4)
  /-- R172: Stall operation: store one v register into the store. -/
  | st1 (k : Slot) (src : Fin 64) (p : Fin 16) (post : Fin 4)
  /-- R172: Stall operation: load four words, optionally reversed. -/
  | ld4 (k : Slot) (g p : Fin 16) (post : Fin 4) (rev : Bool)
  /-- R172: Stall operation: store four words, optionally reversed. -/
  | st4 (k : Slot) (g p : Fin 16) (post : Fin 4) (rev : Bool)
  /-- R165: Stall operation: convert one accumulator into a v register with shift and saturation. -/
  | mova (k : Slot) (d : Fin 64) (src sh : Fin 8)
  /-- R165: Stall operation: convert four accumulators into v registers. -/
  | mova4 (k : Slot) (g : Fin 16) (h : Fin 2) (sh : Fin 8)
  /-- R165: Stall operation: convert an accumulator and store it. -/
  | sta (k : Slot) (p : Fin 16) (src sh : Fin 8) (post : Fin 4)
  /-- R174: Stall operation: send accumulators down the accumulate path to the feed accumulators. -/
  | acc (k : Slot) (p : Fin 16) (src : Fin 8) (four rev : Bool) (post : Fin 4)
  /-- R172: Stall operation: load a pointer from the store. -/
  | ldp (k : Slot) (d src : Fin 16) (post : Fin 4)
  /-- R172: Stall operation: copy a v register. -/
  | movv (k : Slot) (d src : Fin 64)
  /-- R172: Stall operation: copy a pointer into a v register. -/
  | movp (k : Slot) (d : Fin 64) (src : Fin 16)
  /-- R172: Stall operation: copy a v register into a pointer. -/
  | movpv (k : Slot) (d : Fin 16) (src : Fin 64)
  /-- R176: Stall operation: start a hardware loop on a counter, optionally rotating. -/
  | loop (k : Slot) (n rot : Fin 4) (len : Fin 256)
  /-- R178: Stall operation: unconditional branch. -/
  | br (k : Slot) (off : BitVec 8)
  /-- R178: Stall operation: branch when a pointer is zero. -/
  | bz (k : Slot) (p : Fin 16) (off : BitVec 8)
  /-- R178: Stall operation: branch when a pointer is non-zero. -/
  | bnz (k : Slot) (p : Fin 16) (off : BitVec 8)
  /-- R179: Stall operation: acquire a bank lock, stream channel or latch in order, or freeze until it is free. -/
  | acq (k : Slot) (level : Fin 4) (index : Fin 64)
  /-- R179: Stall operation: release the most recently acquired resource. -/
  | rel (k : Slot) (level : Fin 4) (index : Fin 64)
  /-- R180: Stall operation: start a stream transfer on a held channel. -/
  | strm (k : Slot) (ch p : Fin 16)
  /-- R180: Stall operation: wait for the channel's last transfer to end. -/
  | swait (k : Slot) (ch : Fin 16)
  /-- R180: A stream transfer ends with every word written, and a waiting SWAIT resumes. Yard, stream channel, and how
  the transfer ended. -/
  | streamTransferEnd (y : Fin 4) (ch : Fin 16) (fin : XferEnd)
  /-- R177: Stall operation: set the rotating register base. -/
  | setrrb (k : Slot) (v : Fin 32)
  /-- R183: Stall operation: end the job once its sends and transfers are complete. -/
  | halt (k : Slot) (user : BitVec 8)
  /-- R174: The loft acknowledges an accumulate send. The stall. -/
  | accAck (st : Fin 128)
  /-- R183: A halting job's outstanding work ends; its resources are released, its completion record is written and its
  stall is freed. The stall. -/
  | haltComplete (st : Fin 128)
  /-- R191: Sequencer integer add. -/
  | add (k : Issue) (rd ra rb : Fin 32)
  /-- R191: Sequencer integer subtract. -/
  | sub (k : Issue) (rd ra rb : Fin 32)
  /-- R191: Sequencer bitwise AND. -/
  | and (k : Issue) (rd ra rb : Fin 32)
  /-- R191: Sequencer bitwise OR. -/
  | or (k : Issue) (rd ra rb : Fin 32)
  /-- R191: Sequencer bitwise XOR. -/
  | xor (k : Issue) (rd ra rb : Fin 32)
  /-- R191: Sequencer shift left by register. -/
  | sll (k : Issue) (rd ra rb : Fin 32)
  /-- R191: Sequencer logical shift right by register. -/
  | srl (k : Issue) (rd ra rb : Fin 32)
  /-- R191: Sequencer arithmetic shift right by register. -/
  | sra (k : Issue) (rd ra rb : Fin 32)
  /-- R191: Sequencer signed set-less-than. -/
  | slt (k : Issue) (rd ra rb : Fin 32)
  /-- R191: Sequencer unsigned set-less-than. -/
  | sltu (k : Issue) (rd ra rb : Fin 32)
  /-- R191: Sequencer multiply, low 32 bits. -/
  | mul (k : Issue) (rd ra rb : Fin 32)
  /-- R191: Sequencer signed multiply, high 32 bits. -/
  | mulh (k : Issue) (rd ra rb : Fin 32)
  /-- R191: Sequencer unsigned multiply, high 32 bits. -/
  | mulhu (k : Issue) (rd ra rb : Fin 32)
  /-- R191: Sequencer signed divide. -/
  | div (k : Issue) (rd ra rb : Fin 32)
  /-- R191: Sequencer unsigned divide. -/
  | divu (k : Issue) (rd ra rb : Fin 32)
  /-- R191: Sequencer signed remainder. -/
  | rem (k : Issue) (rd ra rb : Fin 32)
  /-- R191: Sequencer unsigned remainder. -/
  | remu (k : Issue) (rd ra rb : Fin 32)
  /-- R191: Sequencer signed minimum. -/
  | min (k : Issue) (rd ra rb : Fin 32)
  /-- R191: Sequencer signed maximum. -/
  | max (k : Issue) (rd ra rb : Fin 32)
  /-- R191: Sequencer unsigned minimum. -/
  | minu (k : Issue) (rd ra rb : Fin 32)
  /-- R191: Sequencer unsigned maximum. -/
  | maxu (k : Issue) (rd ra rb : Fin 32)
  /-- R191: Sequencer shift left by immediate. -/
  | slli (k : Issue) (rd ra n : Fin 32)
  /-- R191: Sequencer logical shift right by immediate. -/
  | srli (k : Issue) (rd ra n : Fin 32)
  /-- R191: Sequencer arithmetic shift right by immediate. -/
  | srai (k : Issue) (rd ra n : Fin 32)
  /-- R191: Sequencer count trailing zeros. -/
  | ctz (k : Issue) (rd ra : Fin 32)
  /-- R191: Sequencer count leading zeros. -/
  | clz (k : Issue) (rd ra : Fin 32)
  /-- R190: Sequencer add immediate. -/
  | addi (k : Issue) (rd ra : Fin 32) (imm : BitVec 16)
  /-- R190: Sequencer AND with zero-extended immediate. -/
  | andi (k : Issue) (rd ra : Fin 32) (imm : BitVec 16)
  /-- R190: Sequencer OR with zero-extended immediate. -/
  | ori (k : Issue) (rd ra : Fin 32) (imm : BitVec 16)
  /-- R190: Sequencer XOR with zero-extended immediate. -/
  | xori (k : Issue) (rd ra : Fin 32) (imm : BitVec 16)
  /-- R190: Sequencer signed compare with immediate. -/
  | slti (k : Issue) (rd ra : Fin 32) (imm : BitVec 16)
  /-- R190: Sequencer unsigned compare with immediate. -/
  | sltiu (k : Issue) (rd ra : Fin 32) (imm : BitVec 16)
  /-- R190: Sequencer load upper immediate. -/
  | lui (k : Issue) (rd : Fin 32) (imm : BitVec 16)
  /-- R190: Sequencer load word. -/
  | lw (k : Issue) (rd ra : Fin 32) (imm : BitVec 16)
  /-- R190: Sequencer load signed halfword. -/
  | lh (k : Issue) (rd ra : Fin 32) (imm : BitVec 16)
  /-- R190: Sequencer load unsigned halfword. -/
  | lhu (k : Issue) (rd ra : Fin 32) (imm : BitVec 16)
  /-- R190: Sequencer load signed byte. -/
  | lb (k : Issue) (rd ra : Fin 32) (imm : BitVec 16)
  /-- R190: Sequencer load unsigned byte. -/
  | lbu (k : Issue) (rd ra : Fin 32) (imm : BitVec 16)
  /-- R190: Sequencer store word. -/
  | sw (k : Issue) (rd ra : Fin 32) (imm : BitVec 16)
  /-- R190: Sequencer store halfword. -/
  | sh (k : Issue) (rd ra : Fin 32) (imm : BitVec 16)
  /-- R190: Sequencer store byte. -/
  | sb (k : Issue) (rd ra : Fin 32) (imm : BitVec 16)
  /-- R190: Sequencer load a binary32 register. -/
  | flw (k : Issue) (fd ra : Fin 32) (imm : BitVec 16)
  /-- R190: Sequencer store a binary32 register. -/
  | fsw (k : Issue) (fd ra : Fin 32) (imm : BitVec 16)
  /-- R195: Sequencer branch if equal. -/
  | beq (k : Issue) (ra rb : Fin 32) (off : BitVec 16)
  /-- R195: Sequencer branch if not equal. -/
  | bne (k : Issue) (ra rb : Fin 32) (off : BitVec 16)
  /-- R195: Sequencer branch if signed less. -/
  | blt (k : Issue) (ra rb : Fin 32) (off : BitVec 16)
  /-- R195: Sequencer branch if signed greater or equal. -/
  | bge (k : Issue) (ra rb : Fin 32) (off : BitVec 16)
  /-- R195: Sequencer branch if unsigned less. -/
  | bltu (k : Issue) (ra rb : Fin 32) (off : BitVec 16)
  /-- R195: Sequencer branch if unsigned greater or equal. -/
  | bgeu (k : Issue) (ra rb : Fin 32) (off : BitVec 16)
  /-- R195: Sequencer jump and link into s31. -/
  | jal (k : Issue) (off : BitVec 26)
  /-- R195: Sequencer jump to a register plus offset and link. -/
  | jalr (k : Issue) (rd ra : Fin 32) (imm : BitVec 16)
  /-- R197: Sequencer binary32 add. -/
  | fadd (k : Issue) (rd ra rb : Fin 32)
  /-- R197: Sequencer binary32 subtract. -/
  | fsub (k : Issue) (rd ra rb : Fin 32)
  /-- R197: Sequencer binary32 multiply. -/
  | fmul (k : Issue) (rd ra rb : Fin 32)
  /-- R197: Sequencer binary32 divide. -/
  | fdiv (k : Issue) (rd ra rb : Fin 32)
  /-- R197: Sequencer binary32 square root. -/
  | fsqrt (k : Issue) (rd ra : Fin 32)
  /-- R197: Sequencer binary32 minimum. -/
  | fmin (k : Issue) (rd ra rb : Fin 32)
  /-- R197: Sequencer binary32 maximum. -/
  | fmax (k : Issue) (rd ra rb : Fin 32)
  /-- R197: Sequencer sign flip. -/
  | fneg (k : Issue) (rd ra : Fin 32)
  /-- R197: Sequencer sign clear. -/
  | fabs (k : Issue) (rd ra : Fin 32)
  /-- R197: Sequencer float register copy. -/
  | fmov (k : Issue) (rd ra : Fin 32)
  /-- R197: Sequencer float equal compare. -/
  | feq (k : Issue) (rd ra rb : Fin 32)
  /-- R197: Sequencer float less-than compare. -/
  | flt (k : Issue) (rd ra rb : Fin 32)
  /-- R197: Sequencer float less-or-equal compare. -/
  | fle (k : Issue) (rd ra rb : Fin 32)
  /-- R197: Sequencer float to scaled integer with floor and saturation. -/
  | ftoi (k : Issue) (rd ra n : Fin 32)
  /-- R197: Sequencer scaled integer to float. -/
  | itof (k : Issue) (rd ra n : Fin 32)
  /-- R197: Sequencer move float bits to an integer register. -/
  | fmvs (k : Issue) (rd ra : Fin 32)
  /-- R197: Sequencer move integer bits to a float register. -/
  | fmvf (k : Issue) (rd ra : Fin 32)
  /-- R198: Sequencer three-vector add. -/
  | vadd3 (k : Issue) (rd ra rb : Fin 32)
  /-- R198: Sequencer three-vector subtract. -/
  | vsub3 (k : Issue) (rd ra rb : Fin 32)
  /-- R198: Sequencer three-vector scale. -/
  | vscl3 (k : Issue) (rd ra rb : Fin 32)
  /-- R198: Sequencer three-vector dot product. -/
  | dot3 (k : Issue) (rd ra rb : Fin 32)
  /-- R198: Sequencer distance between two three-vectors. -/
  | vdist (k : Issue) (rd ra rb : Fin 32)
  /-- R198: Sequencer three-vector cross product. -/
  | cross3 (k : Issue) (rd ra rb : Fin 32)
  /-- R198: Sequencer 3x3 matrix times vector. -/
  | mv3 (k : Issue) (rd ra rb : Fin 32)
  /-- R198: Sequencer correctly rounded reciprocal square root. -/
  | rsq (k : Issue) (rd ra : Fin 32)
  /-- R188: Sequencer read of a special register, with latching of the high halves. -/
  | mfk (k : Issue) (rd : Fin 32) (n : Fin 64)
  /-- R188: Sequencer write of a special register. -/
  | mtk (k : Issue) (n : Fin 64) (ra : Fin 32)
  /-- R200: Sequencer waits until a named window has started. -/
  | waitWAbs (k : Issue) (rd ra : Fin 32)
  /-- R200: Sequencer waits for the next window boundary. -/
  | waitWNext (k : Issue) (rd : Fin 32)
  /-- R200: Sequencer waits for the next tick boundary. -/
  | waitWTick (k : Issue) (rd : Fin 32)
  /-- R200: The awaited boundary has passed, and a waiting sequencer resumes with the current WIN. -/
  | waitWResume (y : Fin 4)
  /-- R193: Sequencer waits until all of its earlier stores have completed. -/
  | fence (k : Issue)
  /-- R209: Sequencer raises exception TRAP with a code. -/
  | trap (k : Issue) (n : Fin 64)
  /-- R204: Sequencer pops a completion record into DMEM. -/
  | cpop (k : Issue) (rd ra : Fin 32)
  /-- R205: Sequencer tries to acquire a latch. -/
  | ltry (k : Issue) (rd ra : Fin 32) (n : Fin 64)
  /-- R205: Sequencer releases a latch after its earlier stores have completed. -/
  | lrel (k : Issue) (ra : Fin 32) (n : Fin 64)
  /-- R206: Sequencer sends a message into its letterbox. -/
  | lbs (k : Issue) (rd ra : Fin 32) (n : Fin 16)
  /-- R206: Sequencer receives a message from its letterbox. -/
  | lbr (k : Issue) (rd ra : Fin 32) (n : Fin 16)
  /-- R206: Sequencer tests FULL and COLLIDE of a letterbox. -/
  | lbt (k : Issue) (rd : Fin 32) (n : Fin 16)
  /-- R209: WDOG boundaries pass without a resume from WAIT.W, and exception WDOG is raised. -/
  | seqWatchdog (y : Fin 4)
  /-- R210: The keeper restarts a halted sequencer at the first tick boundary at least 2 windows later. -/
  | seqRestart (y : Fin 4)
  /-- R213: The keeper command PROGRAM_LOAD checks a program image and loads it into the inactive halves. -/
  | programLoad (p : Fin 8)
  /-- R213: A program image load completes, and its reply is sent. -/
  | programLoadDone
  /-- R214: At its tick boundary an image comes into force: the sequencer stops, the halves swap and the program starts.
  -/
  | imageIntoForce (y : Fin 4)
  /-- R216: A write of SHUT_OPEN requests opening of 32 shutters, or is refused with STATE. -/
  | shutOpenRequest (m : Master) (ix : Fin 24) (d : BitVec 32)
  /-- R217: A write of SHUT_CLOSE requests closing of shutters. -/
  | shutCloseRequest (m : Master) (ix : Fin 24) (d : BitVec 32)
  /-- R217: Accepted shutter requests take effect at the window boundary, with fades. -/
  | shutterChange
  /-- R219: Each millisecond the storm door measures each enabled loop and PTP contact and classes its raw state. The
  measured resistance of the 18 loops, in ohms. -/
  | fireLoopMeasure (ohms : List Nat)
  /-- R220: A raw loop state has held for its debounce or fault hold and becomes the reported STATE. Fire input 0 to 15,
  or 16 and 17 for the push-to-talk loops. -/
  | inputStateChange (ix : Fin 18)
  /-- R221: A relay's condition changes, and the storm door drives the relay within 10 ms. -/
  | relayUpdate (k : Fin 4)
  /-- R221: 10 ms pass without a keeper heartbeat, and KEEPER_LOST is set. -/
  | keeperHeartbeatLoss
  /-- R223: The keeper carries out a triggered plan: ACTIVE, K2, zone flags, object activations and the confirmation
  count. -/
  | planActivate (p : Fin 64)
  /-- R224: The confirmation count of a plan ends, and unconfirmed zones go to the storm door. -/
  | confirmEnd (p : Fin 64)
  /-- R225: STAGE_DELAY after activation, the plan triggers its NEXT plan. -/
  | planChain (p : Fin 64)
  /-- R222: The secure keeper command ALARM_START triggers a plan. -/
  | alarmStart (p : Fin 8)
  /-- R226: The secure keeper command ALARM_STOP stops a plan and returns its zones. -/
  | alarmStop (p : Fin 8)
  /-- R227: A triggered plan is not ACTIVE within BACKSTOP, and the storm door takes its zones. -/
  | backstopExpiry (p : Fin 64)
  /-- R234: No window strobe arrives for 4 windows, and the storm door takes all zones in all-links mode, cause DIE. -/
  | dieStrobeLoss
  /-- R228: The periodic CRC re-read of the storm store marks BAD messages. -/
  | stormStoreCheck
  /-- R230: The storm door advances a zone's programme between tone, message and gap. -/
  | stormProgrammeStep (p : Fin 64)
  /-- R233: STORM_CMD.COMMIT puts the shadow and the PLAN table in force. -/
  | stormCommit (m : Master)
  /-- R233: STORM_CMD.ARM arms the storm door. -/
  | stormArm (m : Master)
  /-- R233: STORM_CMD.DISARM disarms the storm door. -/
  | stormDisarm (m : Master)
  /-- R234: A write of STORM_FORCE takes zones with cause FORCE, or requests their handback. -/
  | stormForceWrite (m : Master) (ix : Fin 4) (d : BitVec 32)
  /-- R237: A write of STORM_RETURN requests handback of zones. -/
  | stormReturnRequest (m : Master) (ix : Fin 4) (d : BitVec 32)
  /-- R237: A returning zone that has passed its checks fades back to the render, and OWNER becomes RENDER. Zone, and
  whether 30 s have passed without the end of a cycle. -/
  | handbackFade (z : Fin 128) (waited : Bool)
  /-- R118: STORM_BQ_CMD.WRITE writes checked coefficients into the shadow. -/
  | stormBqWrite (m : Master)
  /-- R118: STORM_BQ_CMD.READ reads the selected coefficient set back. -/
  | stormBqRead (m : Master)
  /-- R239: A write of FIRE_IN is checked against active plans and stored. -/
  | fireInWrite (m : Master) (ix : Fin 16) (d : BitVec 32)
  /-- R240: The storm door delivers its queued event records when the event controller returns. -/
  | stormEventDeliver
  /-- R243: HNG_CMD.ENABLE puts the module in FORMING. -/
  | hngEnable (m : Master)
  /-- R260: HNG_CMD.DISABLE enters OFF at the next boundary, handing over first when needed. -/
  | hngDisable (m : Master)
  /-- R260: HNG_CMD.REJOIN leaves FAILED and resynchronises. -/
  | hngRejoin (m : Master)
  /-- R260: HNG_CMD.STAND_DOWN requests a handover to a SYNCED partner. -/
  | hngStandDown (m : Master)
  /-- R260: At the chosen boundary the active hands service over, and the partner is promoted. -/
  | standDownHandover
  /-- R255: HNG_CMD.PROBE runs one probe. -/
  | hngProbe (m : Master)
  /-- R243: A FORMING module hears no active member for FORM_WAIT windows and may become active. -/
  | formWaitExpiry
  /-- R244: Both lanes of a hinge link hold lock for 1 ms, and the link is UP. -/
  | hingeLinkUp (ix : Fin 2)
  /-- R244: 64 invalid blocks arrive on a lane, and the hinge link is DOWN. -/
  | hingeLinkDown (ix : Fin 2)
  /-- R252: A RECORD frame is received, giving the heartbeat, miss maps, storm ownership and journal. Link, frame header
  and payload words. -/
  | recordReceive (link : Fin 2) (h : HngHead) (payload : List Nat)
  /-- R246: An INPUT frame delivers forwarded source blocks to the standby. Link, frame header and payload words. -/
  | hingeInputReceive (link : Fin 2) (h : HngHead) (payload : List Nat)
  /-- R245: A STATUS frame delivers a member's role, configuration, CRCs and probe result. Link, frame header and what the
  frame says. -/
  | statusFrameReceive (link : Fin 2) (h : HngHead) (info : HngInfo)
  /-- R263: A BULK frame delivers resynchronisation data to a joining standby. Link, frame header, the part
  carried and how much has been sent, in percent. -/
  | bulkFrameReceive (link : Fin 2) (h : HngHead) (part : Machine.HngBulk) (pct : Nat)
  /-- R263: A STATE frame set delivers the running state for CONVERGE. Link, frame header and the state set. -/
  | stateFrameReceive (link : Fin 2) (h : HngHead) (set : Machine.HngState)
  /-- R249: At its boundary w + 1 the standby applies the journal of record w before its snapshot. -/
  | journalApply
  /-- R255: The periodic probe interval expires, and a probe starts. -/
  | probePeriodic
  /-- R255: A probe completes and passes or fails. Whether the probe agreed. -/
  | probeResult (pass : Bool)
  /-- R256: At P = w + 4 the duplex probe results decide the roles. -/
  | duplexDecision
  /-- R257: At P = w + 2 the triplex CRCs are voted. -/
  | triplexVote
  /-- R258: HB_MISS heartbeats are missed, and the member is lost. The rank that is silent. -/
  | heartbeatLoss (r : Fin 3)
  /-- R261: An active that no amplifier follows stands down to ORPHAN. -/
  | orphanStandDown
  /-- R262: An ORPHAN whose amplifiers follow no active entry for HB_MISS windows is promoted. -/
  | orphanPromote
  /-- R264: A standby moves from BULK to CONVERGE, or reaches SYNCED. -/
  | syncPhaseAdvance
  /-- R267: The lanes of a gate are locked and a KNOCK is received, and the gate is UP. The gate with its
  pluggable. -/
  | gateUp (g : Plug)
  /-- R267: A gate meets invalid blocks or misses its knocks, goes DOWN and discards its queued cells. -/
  | gateDown (g : Fin 4)
  /-- R273: At each cell slot the gate sends the first qualifying cell. -/
  | cellSlotSend (g : Fin 4)
  /-- R274: A cell has waited ESCAPE_WAIT and moves to VC3. Gate and virtual channel. -/
  | cellEscape (g : Fin 4) (vc : Fin 3)
  /-- R271: Credits are owed and due, and a CREDIT cell is sent. -/
  | creditSend (g : Fin 4)
  /-- R272: A CREDIT cell resets the credits and frees lost cells. -/
  | creditCellReceive (g : Fin 4) (cell : Cell)
  /-- R275: The knock interval expires, and a KNOCK cell is sent. -/
  | knockSend (g : Fin 4)
  /-- R276: A KNOCK cell updates the root election, the node address and the peer. -/
  | knockReceive (g : Fin 4) (cell : Cell)
  /-- R276: ROOT_SEQ does not increase for ROOT_WAIT, and the node drops the root. -/
  | rootTimeout
  /-- R277: A node has not been heard for 10 s, and its address becomes free. The node. -/
  | addressExpiry (n : Fin 64)
  /-- R284: A DATA cell is checked, and then forwarded or taken into staging. -/
  | dataCellReceive (g : Fin 4) (cell : Cell)
  /-- R285: A MIRROR cell delivers mirrored global object records. -/
  | mirrorReceive (g : Fin 4) (cell : Cell)
  /-- R68: A REFUSE cell sets REMOTE_REFUSED on the home node. -/
  | refuseReceive (g : Fin 4) (cell : Cell)
  /-- R280: The root's keeper receives a topology report. -/
  | topoReceive (g : Fin 4) (cell : Cell)
  /-- R280: A station receives route entries of a new generation and acknowledges them. Gate, cell, and the flows that its
  words define (R282). -/
  | routeReceive (g : Fin 4) (cell : Cell) (flows : List (Nat × Machine.Flow))
  /-- R282: An EXPORTS cell updates the export directory. Gate, cell, and the class of each exported source, two bits
  each. -/
  | exportsReceive (g : Fin 4) (cell : Cell) (classes : BitVec 512)
  /-- R280: A SWITCH cell names the window of a new generation. -/
  | switchReceive (g : Fin 4) (cell : Cell)
  /-- R287: A TICK cell latches a new fabric tick length and origin. -/
  | tickReceive (g : Fin 4) (cell : Cell)
  /-- R281: The root records a station's acknowledgement. -/
  | ackReceive (g : Fin 4) (cell : Cell)
  /-- R280: TOPO has been quiet for 2 ms, and the root computes and sends a generation. `subs`: for each flow its
  subscribing nodes. -/
  | routeCompute (subs : List (Nat × List Nat))
  /-- R280: A new routing generation comes into force at its window. -/
  | generationSwitch
  /-- R288: Each millisecond a gate sends a TIME cell. -/
  | timeCellSend (g : Fin 4)
  /-- R288: A TIME exchange updates the neighbour offset and its tolerance check. Gate and the four timestamps of the
  exchange. -/
  | timeCellReceive (g : Fin 4) (t1 t2 t3 t4 : BitVec 64)
  /-- R286: FAB_CMD.JOIN starts windows on the fabric epoch and tick phase. -/
  | fabJoin
  /-- R287: FAB_CMD.TICK on the root changes the fabric tick length. The tick length written. -/
  | fabTick (len : BitVec 4)
  /-- R289: A write of FAB_CFG is checked and enables gates or fabric membership. -/
  | fabCfgWrite (d : BitVec 32)
  /-- R293: A port link goes up or down, and on down the transmit queues are flushed. The port with its
  pluggable, and whether the link is up. -/
  | netLinkChange (p : Plug) (up : Bool)
  /-- R292: A write of NET_CFG enables a port under the ledger or changes its options. -/
  | netCfgWrite (p : Fin 4) (d : BitVec 32)
  /-- R294: A received Ethernet frame passes the ordered checks and reaches its engine. Port, the frame's octets without
  FCS, and what the MAC saw of it. -/
  | frameReceive (p : Fin 4) (f : List Byte) (info : RxInfo)
  /-- R302: A PTP message interval expires, and the message is sent one-step. -/
  | ptpMessageSend (p : Fin 4) (msg : PtpMsg)
  /-- R303: The announce receipt timeout expires on a PTP port. Port and the port state that the keeper's engine selects.
  -/
  | ptpAnnounceTimeout (p : Fin 4) (state : Fin 10)
  /-- R298: The pause quanta run out, and transmission resumes. -/
  | pauseExpiry (p : Fin 4)
  /-- R296: A port is free to start a frame and takes the first due frame in order. Port, and in how many fragments a
  preemptable frame goes out. -/
  | frameTxOpportunity (p : Fin 4) (frags : Nat)
  /-- R297: A preemption verification attempt completes or times out. Port, and whether the partner answered. -/
  | preemptVerifyAttempt (p : Fin 4) (ok : Bool)
  /-- R297: NET_CMD.VERIFY restarts preemption verification. -/
  | netVerify (p : Fin 4)
  /-- R299: NET_CMD.STAT_CLR zeroes the port's counters. -/
  | netStatClr (p : Fin 4)
  /-- R308: NET_CMD.LREP_POP removes the oldest launch report. -/
  | netLrepPop (p : Fin 4)
  /-- R312: STALL_TIME passes with no packet placed, and the stream becomes STALLED at the boundary. -/
  | streamStall (n : Fin 64)
  /-- R310: A write of receive stream EN is checked and starts or stops the stream. -/
  | rxStreamEnable (n : Fin 64) (d : BitVec 32)
  /-- R315: A write of transmit stream EN is checked and starts or stops the stream. -/
  | txStreamEnable (n : Fin 64) (d : BitVec 32)
  /-- R316: A packet time of play slots ends, and a transmit packet is queued with its launch target. -/
  | txPacketize (n : Fin 64)
  /-- R318: A write of TIME_ADJ adds signed nanoseconds to the TIME counter. -/
  | timeAdjWrite (d : BitVec 32)
  /-- R300: A read of TIME_NOW_LO latches TIME_NOW_HI. -/
  | timeNowRead
  /-- R321: A digital input frame is staged, or counted as a slip or a bad frame. Digital input 0 to 13 and the frame. -/
  | audioFrameReceive (p : Fin 14) (f : AudFrame)
  /-- R326: An AES3 rate converter locks 2,400 samples after the 48th good frame. -/
  | srcConverterLock (ix : Fin 8)
  /-- R328: A slave TDM port sees no FSYNC edge for 2 frames, and counts a bad frame. -/
  | tdmFsyncLoss (ix : Fin 4)
  /-- R322: A digital output sends the frame of one play slot. -/
  | audioFrameSend (p : Fin 15)
  /-- R331: The DC resistance of an emergency microphone line is measured every 10 ms, and the state changes after 500 ms.
  Emergency microphone and measured loop resistance. -/
  | emicSupervisionMeasure (ix : Fin 2) (ohms : Nat)
  /-- R332: An output-map write takes effect at the next window boundary. -/
  | outmapApply
  /-- R334: An amplifier-link downlink frame of one sample period is sent. -/
  | downlinkFrameSend (l : Fin 8)
  /-- R338: A back-channel frame is received, counted and updates the link state. Link, whether a coding violation was
  seen, and the frame's octets. -/
  | backchannelFrameReceive (l : Fin 8) (violation : Bool) (b : List Byte)
  /-- R344: 2 frame periods pass without a comma, and the link goes DOWN. -/
  | backchannelCommaLoss (l : Fin 8)
  /-- R345: 8 superframes pass without a valid report, and the address becomes absent. Link and amplifier address. -/
  | ampAddressAbsent (l : Fin 8) (a : Fin 32)
  /-- R348: A write of AMP_CTRL enables links under the ledger, or is refused while shutters are open. -/
  | ampCtrlWrite (d : BitVec 32)
  /-- R348: AMP_MSG_TX.SEND queues a message for the next downlink frame. Link, amplifier address and message word. -/
  | ampMsgSend (l : Fin 8) (addr : Fin 32) (data : BitVec 16)
  /-- R356: A requester's DRAM request enters its channel's queue when there is room. Requester, master, class, byte
  address, length and, for a write, the bytes. -/
  | dramRequestAccept (req : Fin 11) (m : Master) (cls : Fin 4) (addr : BitVec 40) (len : Fin 65) (data : Option (List Byte))
  /-- R357: At each command slot a channel picks refresh or a request to serve. Channel, whether a refresh can no longer
  be postponed, the banks that permit a command, and what the check of the chunk finds. -/
  | dramCommandSlot (ch : Fin 2) (refresh : Bool) (banks : BitVec 16) (ecc : EccOut)
  /-- R358: A request has waited longer than LIMIT and takes class-A precedence. Channel and position in its queue. -/
  | dramAgePromote (ch : Fin 2) (ix : Fin 128)
  /-- R360: Every 32 ms the controller reads the device temperature and sets the refresh rate. The devices' temperature
  code. -/
  | dramTempRead (code : Fin 8)
  /-- R363: The idle time passes in lean mode, and the controller enters self-refresh. -/
  | selfRefreshEntry
  /-- R364: A request or the clearing of SR_EN takes the controller out of self-refresh. The wait beyond the shortest, in
  steps of 10 ns. -/
  | selfRefreshExit (added : Fin 4)
  /-- R367: DRAM_CTRL.THAW leaves the frozen state and optionally clears the captured chunk. -/
  | thaw (m : Master) (d : BitVec 32)
  /-- R372: A matrix target grants the highest-precedence master by round robin. Target, and the masters that request it,
  each with its class. -/
  | matrixGrant (t : Fin 16) (reqs : List (Fin 10 × Fin 4))
  /-- R372: A matrix transfer has waited MTX_AGE and takes class-A precedence. -/
  | matrixAgePromote (t : Fin 16) (m : Fin 10)
  /-- R374: A target does not complete within MTX_TIMEOUT, and the access ends with an error return. Target, master,
  address and direction of the access. -/
  | matrixTimeout (t : Fin 16) (m : Master) (a : BitVec 32) (write : Bool)
  /-- R378: The consumer discards queue items up to the next end-of-packet marker. -/
  | dropPkt
  /-- R389: A PCIe link-down or hot reset releases M0 latches and closes the secure sessions. Whether the link goes down.
  -/
  | pcieLinkReset (down : Bool)
  /-- R389: A function-level reset releases that function's latches and session. -/
  | functionLevelReset (fn : Fin 2)
  /-- R391: A sender writes a letterbox data word, and COLLIDE is set when the letterbox is FULL. -/
  | letterboxDataWrite (m : Master) (n w : Fin 16) (d : BitVec 32)
  /-- R391: A sender's write of LB_GO sets FULL and rings the bell. -/
  | lbGoWrite (m : Master) (n : Fin 16)
  /-- R391: The receiver's read of LB_GO returns the count and clears FULL. -/
  | lbGoRead (m : Master) (n : Fin 16)
  /-- R392: Both letterboxes of a pair have been FULL for STANDOFF, and EV_MBX_STANDOFF is raised. The letterbox pair. -/
  | letterboxStandoff (p : Fin 8)
  /-- R394: A write of MBX_ALLOC connects a pair to a sequencer. -/
  | mbxAllocWrite (k : Fin 2) (d : BitVec 32)
  /-- R401: Keeper command returning firmware revisions, IDENT and SYS_ID. -/
  | version (p : Fin 8)
  /-- R401: Keeper command returning the armed state, faults, scene and active plans. -/
  | status (p : Fin 8)
  /-- R440: Keeper command ARM makes the arming checks in order. -/
  | arm (p : Fin 8)
  /-- R441: At the next boundary after the checks pass, the storm door is armed, shutters open and ARMED is set. -/
  | armExecute
  /-- R441: Keeper command DISARM sets NOT_ARMED and disarms the storm door. -/
  | disarm (p : Fin 8)
  /-- R401: Keeper command writing PLAN records all or nothing, then committing the storm door. -/
  | planSet (p : Fin 8)
  /-- R401: Keeper command writing the storm shadow, then committing it. -/
  | stormSet (p : Fin 8)
  /-- R401: Keeper command setting the ledger budgets, floor, UV and BATT_OFF, all or nothing. -/
  | budgetSet (p : Fin 8)
  /-- R44: Keeper command measuring each block and writing LEDG_COST. Letterbox pair, the measured FULL and ALT costs
  (none: the run failed), and its length in windows. -/
  | calRunLedger (p : Fin 8) (costs : Option (List (Nat × Nat))) (windows : Nat)
  /-- R424: Keeper command starting a line-watch baseline measurement. -/
  | calRunLine (p : Fin 8)
  /-- R424: Every feed has 16 measurements, and the baselines are written together. -/
  | lineBaselineDone
  /-- R401: Keeper command self-testing a retired stall. Letterbox pair, whether the self-test passes, and its length in
  windows. -/
  | calRunStall (p : Fin 8) (pass : Bool) (windows : Nat)
  /-- R448: Keeper command writing a signed firmware package into the slot not in force. -/
  | fwUpdateKeeper (p : Fin 8)
  /-- R449: Keeper command programming a storm-store image while the storm door is disarmed. -/
  | fwUpdateStorm (p : Fin 8)
  /-- R448: A firmware or store update finishes writing and verifying, and the reply is sent. -/
  | fwUpdateDone
  /-- R401: Keeper command copying flash event-log records into DRAM. -/
  | logRead (p : Fin 8)
  /-- R405: Keeper command freeing a latch whatever its owner. -/
  | latchBreak (p : Fin 8)
  /-- R397: Keeper command starting a secure session with the host nonce. -/
  | sessionOpen (p : Fin 8)
  /-- R397: Keeper command checking HT and opening the session. -/
  | sessionAuth (p : Fin 8)
  /-- R399: Keeper command closing the secure session. -/
  | sessionClose (p : Fin 8)
  /-- R399: 60 s pass without an accepted command, and the session closes. -/
  | sessionIdleTimeout (p : Fin 8)
  /-- R399: The 10 s lockout after repeated authentication failures ends. -/
  | lockoutEnd (p : Fin 8)
  /-- R401: A long keeper command reaches its limit and replies TIMEOUT. The code of the long command. -/
  | keeperCommandTimeout (code : BitVec 8)
  /-- R403: A read of LATCH returns its state and acquires a free latch. -/
  | latchRead (m : Master) (ix : Fin 64)
  /-- R403: A write of LATCH by its owner releases it, and any other write is ignored with an event. -/
  | latchWrite (m : Master) (ix : Fin 64)
  /-- R411: A W1C write clears pending event bits, except where a level condition holds. -/
  | evtPendClear (g : Fin 24) (d : BitVec 32)
  /-- R412: A write of EVT_EOI re-signals classes that are still pending. -/
  | evtEoi (d : BitVec 32)
  /-- R414: EVT_CMD.POP removes the oldest event record. -/
  | evtPop
  /-- R386: A vector is unmasked while its pending bit is set, and its message is sent. Function, and the vector that is
  unmasked (none: the function). -/
  | msixUnmask (fn : Fin 2) (v : Option (Fin 8))
  /-- R418: The scrubber reads the next DRAM line and corrects it, or freezes the controller. What the check of the chunk
  finds. -/
  | patrolScrubStep (ecc : EccOut)
  /-- R419: A yard scrubs its loft and stable stores once per second. Yard and the words found in error. -/
  | storeScrub (y : Fin 4) (hits : List ScrubHit)
  /-- R422: A feed has no measurement for NOMEAS, and its NOMEAS bit is set. -/
  | lineNomeasTimeout (f : Fin 768)
  /-- R426: The 128 ms LP5 ZQ calibration runs. Whether it succeeds. -/
  | zqCalibration (ok : Bool)
  /-- R426: The 16 ms read-strobe drift tracking runs. Whether it stays within its range. -/
  | strobeTracking (ok : Bool)
  /-- R426: Each second the SAFE oscillator is checked against TIME, and SAFE_BAD is updated. The SAFE cycles counted over
  10^9 ns of TIME. -/
  | safeCheck (cycles : Nat)
  /-- R427: Every 10 ms the keeper reads the sensors into MON_SENSE. The eight sensor values. -/
  | sensorRead (v : Vector (BitVec 32) 8)
  /-- R428: The keeper reads written flash pages and moves or retires them. Pages moved, blocks retired and uncorrectable
  pages found. -/
  | flashPatrol (moved retired bad : Fin 65536)
  /-- R431: A monitor channel's output is due; the comb output is formed and a record is queued. -/
  | monitorOutput (ch : Fin 64)
  /-- R434: M9 moves a queued monitor record into the host ring when there is room. -/
  | monitorRecordMove
  /-- R432: MON_CMD.SYNC requests a synchronising reset of groups. The groups. -/
  | monSync (groups : BitVec 4)
  /-- R432: At the boundary the requested channels are zeroed and restarted. -/
  | monSyncReset
  /-- R436: A write of MON_CH is checked, and EN = 1 requests a reset. -/
  | monChWrite (ch : Fin 64) (w : Fin 4) (d : BitVec 32)
  /-- R437: First power or a low bus resets everything. -/
  | powerReset
  /-- R437: RESET_N held low resets everything. -/
  | pinReset
  /-- R437: The storm door resets the render die, the keeper and DRAM. -/
  | dieReset
  /-- R443: A lockstep mismatch, watchdog or exception restarts the keeper cores. -/
  | keeperReset
  /-- R443: The restarted keeper reads its state back, and KEEPER_LOST clears. -/
  | keeperRestartComplete
  /-- R439: The boot ROM verifies the slots and starts the chosen firmware. Whether the pages of each keeper slot are
  readable. -/
  | bootFirmwareStart (ok0 ok1 : Bool)
  /-- R438: DRAM training and zeroing finish, and MODE becomes RUN. -/
  | dramInitComplete
  /-- R442: A valid auto-arm profile is applied in order at boot. -/
  | profileApply
  /-- R442: The retry interval expires, and the keeper attempts ARM from the profile. -/
  | autoArmAttempt
  /-- R444: The audio PLL has held lock for 100 ms, and windows restart. -/
  | audioLockHold
  /-- R444: Root edges have been present for 100 ms, and the storm door issues a DIE reset. -/
  | rootReturnHold
  /-- R444: The window strobe has been absent for 1 s, and the storm door issues a DIE reset. -/
  | dieStrobeAbsent
  /-- R446: 16 windows after a freeze the keeper thaws DRAM and acts on the faulted region. -/
  | keeperThaw
  /-- R470: The die junction reaches 125 C, the die is held in reset and the storm door takes all zones. -/
  | dieOvertemp
  /-- R470: The die junction falls to 110 C, and recovery begins. -/
  | dieTempRecover
  /-- R470: The PSU reaches 110 C and stops, and MAINS_OK falls. -/
  | psuOvertemp
  /-- R470: The PSU falls to 95 C and restarts. The level that MAINS_OK follows. -/
  | psuTempRecover (ok : Bool)
  /-- R321: A sample period (slot) of the acquire window ends. Each input stages its sample for that slot: a slip repeats
  the previous sample when no frame completed, an AES67 slot that is still empty when P reaches it is staged as missing,
  and the analogue converters deliver a sample and check it for overload. The samples of the analogue inputs in the slot
  that ends. -/
  | stagingSlot (samples : List (BitVec 24))
  /-- R15: Root edges reappear after a loss, ROOT_OK returns to 1, and the PLLs can begin to relock. -/
  | rootReturn
  /-- R384: The PCIe link trains up, or retrains after a link-down, and MBX_PCIE shows its generation and width, and
  EV_MBX_PCIE is raised. Generation minus one, lanes as a power of two, and the MSI-X Enable bits of the two functions. -/
  | pcieLinkUp (gen : Fin 4) (width : Fin 3) (en0 en1 : Bool)
  deriving DecidableEq, Repr

end Sys2Proof
end

