-- ==== Sys2Proof/Machine/State.lean ====
section
/-! DEFINITION. The state of the block: the commands that wait, and the module (its registers, queues and modes in `Ctl`, its
byte memories in `Rams`). -/
namespace Sys2Proof.Machine

/-- The reasons for a fault: there are none. The spec gives every command an effect, and an error is one too: a status, an
event or an error return. Safe: no run ends early. -/
inductive Fault where
  deriving DecidableEq, Repr

/-- The reasons for a refusal. -/
inductive Refusal where
  /-- Raised by a dispatch arm that has no meaning yet; no arm raises it now. Safe: the run stops. -/
  | notModelled (mnemonic : String)
  deriving DecidableEq, Repr

/-- The state. -/
structure State where
  pending : List Instr             -- the commands that wait, first in, first out
  m : Mach
  deriving DecidableEq, Repr

/-- The state right after a POWER reset, on mains and before the storm door has read its store (log entries 2 and 6): an
unlisted register element holds the reset value of its field (R455), a memory lists nothing. -/
def State.reset : State :=
  { pending := [], m := { c := { regs := [⟨R.LEDG_STATUS_SUPPLY, 0, 1⟩] }, m := {} } }

end Sys2Proof.Machine
end

