-- ==== Sys2Proof/Machine/Run.lean ====
section
/-! DEFINITION. How a meaning becomes an outcome: a command starts with nothing sent out, acts on the module, and leaves the
waiting commands alone. -/
namespace Sys2Proof.Machine

/-- The module as a command finds it: what the command before sent out has gone. -/
def Mach.fresh (x : Mach) : Mach := { x with c := { x.c with out := [] } }

/-- Runs a meaning that acts on the whole module. -/
def State.mach (f : Mach → Mach) (s : State) : Host.Outcome State Fault Refusal :=
  .next { s with m := f s.m.fresh }

/-- Runs a meaning that leaves every byte memory alone. -/
def State.ctl (f : Ctl → Ctl) (s : State) : Host.Outcome State Fault Refusal :=
  .next { s with m := { s.m with c := f { s.m.c with out := [] } } }

/-- What the block does while no command waits: 5 ns of TIME pass (R300, log entry 1). -/
def State.idle (s : State) : Host.Outcome State Fault Refusal := s.ctl Ctl.timeCycle

end Sys2Proof.Machine
end

