-- ==== Sys2Proof/Machine/SeqMem.lean ====
section
/-! DEFINITION. The BAR2 window of the host (R7, R366, R384, R387), and the loads and stores of the yard sequencers (R190,
R192, R194). -/
namespace Sys2Proof.Machine

/-! ## BAR2 -/

/-- A host request for DRAM at usable offset `a`, within one chunk, as requester MATRIX. -/
def hostReq (c : Ctl) (a n : Nat) (write : List Byte) (isWrite : Bool) : DramReq :=
  { num := 0, req := 4, master := 0, cls := c.masterClass .fn0, addr := a, len := n, isWrite := isWrite, write := write }

/-- The pieces of a request: runs of named bytes within one chunk, each with its offset. Unnamed bytes are not touched. -/
def bar2Pieces (a : Nat) : List (Option Byte) → List (Nat × List Byte)
  | [] => []
  | none :: l => bar2Pieces (a + 1) l
  | some b :: l =>
    match bar2Pieces (a + 1) l with
    | (o, bs) :: t => if o == a + 1 && o % 32 != 0 then (a, b :: bs) :: t else (a, [b]) :: (o, bs) :: t
    | [] => [(a, [b])]

/-- A write's pieces, in order; the first that meets an error discards itself and the rest. -/
def Mach.bar2Write (x : Mach) : List (Nat × List Byte) → Mach
  | [] => x
  | (a, bs) :: l =>
    let p := x.c.dramWithin (hostReq x.c a bs.length bs true)
    if p.2 then Mach.bar2Write { c := p.1.spoil a bs.length, m := { x.m with dram := x.m.dram.wrs a bs } } l
    else { x with c := p.1.emit (.busResult 16) }

/-- The chunks of a read, each a request. -/
def Ctl.bar2Check (c : Ctl) : List Nat → Ctl × Bool
  | [] => (c, true)
  | k :: l =>
    let p := c.dramWithin (hostReq c (32 * k) 32 [] false)
    if p.2 then Ctl.bar2Check p.1 l else p

/-- BAR2_ACCESS: a read of the bytes named, or a write of those that are given. Beyond the usable DRAM the access goes to
DEFAULT; while DRAM is frozen or not yet initialised it ends with an error return. -/
def bar2Access (fn : Fin 2) (addr : BitVec 40) (len : Fin 513) (data : Option (List (Option Byte))) (x : Mach) : Mach :=
  let m : Master := if fn = 0 then .fn0 else .fn1
  let a := addr.toNat
  let n := match data with | some l => l.length | none => len.val
  let mode := x.c.get R.DRAM_STATUS_MODE
  if x.c.usable < a + n then
    let c := (x.c.mtxFault 2 m a data.isSome 15).emit (.busResult 6)
    { x with c := if data.isSome then c else c.emit (.readData 0) }
  else if mode = 0 || mode = 3 then { x with c := x.c.emit (.busResult 16) }
  else match data with
    | some l => x.bar2Write (bar2Pieces a l)
    | none =>
      let p := x.c.bar2Check ((List.range ((a + n + 31) / 32 - a / 32)).map (a / 32 + ·))
      let q := p.1.dramOut x.m.dram a n
      { x with c := if p.2 then q.2.emit (.readData (leVal q.1)) else p.1.emit (.busResult 16) }

/-! ## The sequencer's memory map (R192) -/

/-- Where a sequencer address leads. -/
inductive SeqPlace where
  | imem (o : Nat)
  | dmem (o : Nat)
  | store (i o : Nat)
  | broadcast (o : Nat)
  | loft (o : Nat)
  | snap (o : Nat)
  | bar0 (o : Nat)
  | dram (o : Nat)
  | none
  deriving DecidableEq, Repr

/-- The map of R192. -/
def seqPlace (a : Nat) : SeqPlace :=
  if a < 0x20000 then .imem a
  else if 0x40000 ≤ a && a < 0x60000 then .dmem (a - 0x40000)
  else if 0x100000 ≤ a && a < 0x200000 then .store ((a - 0x100000) / 0x40000) (a % 0x40000)
  else if 0x200000 ≤ a && a < 0x240000 then .broadcast (a - 0x200000)
  else if 0x400000 ≤ a && a < 0x800000 then .loft (a - 0x400000)
  else if 0x800000 ≤ a && a < 0x821000 then .snap (a - 0x800000)
  else if 0x20000000 ≤ a && a < 0x22000000 then .bar0 (a - 0x20000000)
  else if 0x80000000 ≤ a && a < 0x90000000 then .dram (a - 0x80000000)
  else .none

/-- The BAR0 address of a register that the tick snapshot presents at an offset (R194). -/
def snapAddr (o : Nat) : Nat :=
  if o < 0x10000 then 0x200000 + o
  else if o < 0x1C000 then 0x210000 + (o - 0x10000)
  else if o < 0x1E000 then 0x220000 + (o - 0x1C000)
  else if o < 0x20000 then 0x250000 + (o - 0x1E000)
  else if o < 0x20004 then 0x50
  else 0x260000

/-- A word of the tick snapshot. -/
def Ctl.snapWord (c : Ctl) (o : Nat) : Nat := (fieldsAt (snapAddr o)).foldl (fun n e => n + c.sget e.1 e.2 * 2 ^ e.1.lo) 0

/-- The offset of a sequencer's half in force in the model's memories. -/
def Ctl.seqHalf (c : Ctl) (y : Nat) : Nat := y * 0x40000 + (c.seq y).half * 0x20000

/-- The usable offset of a DRAM address of a sequencer. -/
def Ctl.dwinAt (c : Ctl) (y o : Nat) : Nat := (c.seq y).dwin * 0x100000 + o

/-- A sequencer's request for DRAM. -/
def Ctl.seqReq (c : Ctl) (y a n : Nat) (write : List Byte) (isWrite : Bool) : DramReq :=
  { num := 0, req := 4, master := 2 + y, cls := (c.seq y).sclass, addr := a, len := n, isWrite := isWrite, write := write }

/-- Whether a byte or halfword is written to a poisoned word of a loft or store (R370). -/
def Ctl.partPoison (c : Ctl) (y n : Nat) : SeqPlace → Bool
  | .loft o => n != 4 && c.fabr.loftPoison.contains (y * 0x400000 + o / 4 * 4)
  | .store i o => n != 4 && c.fabr.storePoison.contains ((4 * y + i) * 0x40000 + o / 4 * 4)
  | .broadcast o => n != 4 && (List.range 4).any (fun i => c.stablePowered (4 * y + i) &&
      c.fabr.storePoison.contains ((4 * y + i) * 0x40000 + o / 4 * 4))
  | _ => false

/-- The causes that a load or store meets before its target answers, with the answer that the target is given (R192, R209). -/
def Ctl.seqCauses (c : Ctl) (k : Issue) (a n : Nat) (write : Bool) : List Nat :=
  let y := k.yard.val
  let p := seqPlace a
  let access := match p with
    | .none => true
    | .imem _ | .snap _ => write
    | .broadcast _ => !write
    | _ => false
  let bus := match p with
    | .store i _ => !c.stablePowered (4 * y + i)
    | .dram o => c.usable < c.dwinAt y o + n || c.get R.DRAM_STATUS_MODE = 0 || c.get R.DRAM_STATUS_MODE = 3
    | _ => false
  let ecc := match p with
    | .loft o => c.fabr.loftPoison.contains (y * 0x400000 + o / 4 * 4)
    | .store i o => c.fabr.storePoison.contains ((4 * y + i) * 0x40000 + o / 4 * 4)
    | _ => false
  preCauses k (c.seq y) ++ (if a % n != 0 then [2] else []) ++ (if access then [3] else []) ++
    (if bus || k.bus then [4] else []) ++ (if !write && (ecc || k.ecc) then [5] else [])

/-- Takes the exception with the lowest code of a list (R209); the first two parts of the model's answer are unchanged. -/
def Ctl.seqFail (c : Ctl) (k : Issue) (a : Nat) (l : List Nat) : Ctl :=
  let code := l.foldl min 9
  c.seqExc k.yard code (if (preCauses k (c.seq k.yard)).contains code && code != 3 then 0 else a) 0

/-- A partial write to a poisoned word is discarded and raises EV_YARD_ECC (R370). -/
def Ctl.partEcc (c : Ctl) (y : Nat) : Ctl := (c.set R.YARD_STATUS_ECC_SEEN 1 y).raise Ev.YARD_ECC y

/-- What a load reads, once no cause stands: the machine, the value, and the exception that the target answers with. -/
def Mach.seqRead (x : Mach) (y a n : Nat) : Mach × Nat × Option Nat :=
  match seqPlace a with
  | .imem o => (x, x.m.imem.rdN (x.c.seqHalf y + o) n, none)
  | .dmem o => (x, x.m.dmem.rdN (x.c.seqHalf y + o) n, none)
  | .store i o => (x, x.m.store.rdN ((4 * y + i) * 0x40000 + o) n, none)
  | .loft o => (x, x.m.loft.rdN (y * 0x400000 + o) n, none)
  | .snap o => (x, x.c.snapWord (o / 4 * 4) / 2 ^ (8 * (o % 4)) % 2 ^ (8 * n), none)
  | .bar0 o =>
    let r := x.readAll (.seq (Fin.ofNat 4 y)) o (if n = 1 then .byte else if n = 2 then .half else .word)
    (r.x, r.data, if r.result = 0 then none else if r.result = 17 then some 5 else some 4)
  | .dram o =>
    let a := x.c.dwinAt y o
    let p := x.c.dramWithin (x.c.seqReq y a n [] false)
    let q := p.1.dramOut x.m.dram a n
    ({ x with c := q.2 }, leVal q.1, if p.2 then none else some 4)
  | _ => (x, 0, none)

/-- A word or part of a word put into a store; a whole word clears its POISON. -/
def Mach.storePut (x : Mach) (b o n v : Nat) : Mach :=
  let f := x.c.fabr
  let w := b * 0x40000 + o / 4 * 4
  { c := if n = 4 then { x.c with fabr := { f with storePoison := f.storePoison.filter (· != w) } } else x.c,
    m := { x.m with store := x.m.store.wrN (b * 0x40000 + o) n v } }

/-- What a store through the BAR0 view tells the module of the laws, beside the write. -/
def Mach.lawStored (x : Mach) (y o n v : Nat) : Mach :=
  if inLoftWindow o then x.lawNote (o - 0x1000000) n
  else if n = 4 then { x with c := x.c.lawReport y o v } else x

/-- What a store writes, once no cause stands, and the exception that the target answers with. A write that R8 discards is
none. -/
def Mach.seqWrite (x : Mach) (y a n v : Nat) : Mach × Option Nat :=
  if x.c.partPoison y n (seqPlace a) then ({ x with c := x.c.partEcc y }, some 4)
  else match seqPlace a with
  | .dmem o => ({ x with m := { x.m with dmem := x.m.dmem.wrN (x.c.seqHalf y + o) n v } }, none)
  | .store i o => (x.storePut (4 * y + i) o n v, none)
  | .broadcast o =>
    (((List.range 4).filter (fun i => x.c.stablePowered (4 * y + i))).foldl (fun (x : Mach) i => x.storePut (4 * y + i) o n v) x,
      none)
  | .loft o => ((x.loftWrite (.seq (Fin.ofNat 4 y)) (0x1000000 + y * 0x400000 + o) n v).lawNote (y * 0x400000 + o) n, none)
  | .bar0 o =>
    let z := ({ x with c := { x.c with out := [] } } : Mach).writeAll (.seq (Fin.ofNat 4 y)) o
      (if n = 1 then .byte else if n = 2 then .half else .word) v
    let bad := z.c.out.any (fun r => r == .busResult 6 || r == .busResult 16 || r == .busResult 17)
    let z : Mach := { z with c := { z.c with out := x.c.out ++ z.c.out } }
    if bad then (z, some 4) else (z.lawStored y o n v, none)
  | .dram o =>
    let a := x.c.dwinAt y o
    let p := x.c.dramWithin (x.c.seqReq y a n (leBytes n v) true)
    if p.2 then ({ c := p.1, m := { x.m with dram := x.m.dram.wrN a n v } }, none) else ({ x with c := p.1 }, some 4)
  | _ => (x, none)

/-- The address of a load or store: ra plus the signed immediate. -/
def SeqSt.addr (q : SeqSt) (ra : Fin 32) (imm : BitVec 16) : Nat := ux 32 ((q.rs ra : Int) + imm.toInt)

/-- A load of `n` bytes: `put` takes the value into the register. -/
def seqLoad (k : Issue) (ra : Fin 32) (imm : BitVec 16) (n : Nat) (put : SeqSt → Nat → SeqSt) (x : Mach) : Mach :=
  if !x.c.seqReady k.yard then x
  else
    let a := (x.c.seq k.yard).addr ra imm
    let l := x.c.seqCauses k a n false
    if !l.isEmpty then { x with c := x.c.seqFail k a l }
    else
      let r := x.seqRead k.yard a n
      match r.2.2 with
      | some code => { r.1 with c := r.1.c.seqExc k.yard code a 0 }
      | none => { r.1 with c := r.1.c.setSeq k.yard (put (r.1.c.seq k.yard) r.2.1).adv }

/-- A store of the low `n` bytes of a value. -/
def seqStore (k : Issue) (ra : Fin 32) (imm : BitVec 16) (n : Nat) (val : SeqSt → Nat) (x : Mach) : Mach :=
  if !x.c.seqReady k.yard then x
  else
    let q := x.c.seq k.yard
    let a := q.addr ra imm
    let l := x.c.seqCauses k a n true
    if !l.isEmpty then { x with c := x.c.seqFail k a l }
    else
      let r := x.seqWrite k.yard a n (val q % 2 ^ (8 * n))
      match r.2 with
      | some code => { r.1 with c := r.1.c.seqExc k.yard code a 0 }
      | none => { r.1 with c := r.1.c.setSeq k.yard (r.1.c.seq k.yard).adv }

def seqLw (k : Issue) (rd ra : Fin 32) (imm : BitVec 16) : Mach → Mach := seqLoad k ra imm 4 (fun q v => q.ws rd v)
def seqLh (k : Issue) (rd ra : Fin 32) (imm : BitVec 16) : Mach → Mach := seqLoad k ra imm 2 (fun q v => q.ws rd (ux 32 (sx 16 v)))
def seqLhu (k : Issue) (rd ra : Fin 32) (imm : BitVec 16) : Mach → Mach := seqLoad k ra imm 2 (fun q v => q.ws rd v)
def seqLb (k : Issue) (rd ra : Fin 32) (imm : BitVec 16) : Mach → Mach := seqLoad k ra imm 1 (fun q v => q.ws rd (ux 32 (sx 8 v)))
def seqLbu (k : Issue) (rd ra : Fin 32) (imm : BitVec 16) : Mach → Mach := seqLoad k ra imm 1 (fun q v => q.ws rd v)
def seqSw (k : Issue) (rd ra : Fin 32) (imm : BitVec 16) : Mach → Mach := seqStore k ra imm 4 (fun q => q.rs rd)
def seqSh (k : Issue) (rd ra : Fin 32) (imm : BitVec 16) : Mach → Mach := seqStore k ra imm 2 (fun q => q.rs rd)
def seqSb (k : Issue) (rd ra : Fin 32) (imm : BitVec 16) : Mach → Mach := seqStore k ra imm 1 (fun q => q.rs rd)
def seqFlw (k : Issue) (fd ra : Fin 32) (imm : BitVec 16) : Mach → Mach := seqLoad k ra imm 4 (fun q v => q.wf fd v)
def seqFsw (k : Issue) (fd ra : Fin 32) (imm : BitVec 16) : Mach → Mach := seqStore k ra imm 4 (fun q => q.rf fd)

end Sys2Proof.Machine
end

