-- ==== Sys2Proof/Machine/CmdAccess.lean ====
section
/-! DEFINITION. Meanings of commands. Accesses that have no row of their own: BAR0 writes and BAR2 requests (chapters 00 and 18). Each is the command's effect under the rule named, over the operations of
the files imported. -/
namespace Sys2Proof.Machine

/-- REGISTER_WRITE (R5). -/
def execRegisterWrite (m : Master) (a : BitVec 32) (n : AccSize) (d : BitVec 64) (s : State) : Host.Outcome State Fault Refusal :=
  s.mach (registerWrite m a n d)

/-- BAR2_ACCESS (R7). -/
def execBar2Access (fn : Fin 2) (addr : BitVec 40) (len : Fin 513) (data : Option (List (Option Byte))) (s : State) : Host.Outcome State Fault Refusal :=
  s.mach (bar2Access fn addr len data)

end Sys2Proof.Machine
end

