-- ==== Sys2Proof/Machine/CmdBackground.lean ====
section
/-! DEFINITION. Meanings of commands. Background work and the monitor (chapter 16). Each is the command's effect under the rule named, over the operations of
the files imported. -/
namespace Sys2Proof.Machine

/-- CAL_RUN_LINE (R424). -/
def execCalRunLine (p : Fin 8) (s : State) : Host.Outcome State Fault Refusal := s.mach (calRunLine p)

/-- LINE_BASELINE_DONE (R424). -/
def execLineBaselineDone (s : State) : Host.Outcome State Fault Refusal := s.ctl lineBaselineDone

/-- PATROL_SCRUB_STEP (R418). -/
def execPatrolScrubStep (ecc : EccOut) (s : State) : Host.Outcome State Fault Refusal := s.ctl (patrolScrubStep ecc)

/-- STORE_SCRUB (R419). -/
def execStoreScrub (y : Fin 4) (hits : List ScrubHit) (s : State) : Host.Outcome State Fault Refusal :=
  s.ctl (storeScrub y hits)

/-- LINE_NOMEAS_TIMEOUT (R422). -/
def execLineNomeasTimeout (f : Fin 768) (s : State) : Host.Outcome State Fault Refusal := s.ctl (lineNomeasTimeout f)

/-- ZQ_CALIBRATION (R426). -/
def execZqCalibration (ok : Bool) (s : State) : Host.Outcome State Fault Refusal := s.ctl (zqCalibration ok)

/-- STROBE_TRACKING (R426). -/
def execStrobeTracking (ok : Bool) (s : State) : Host.Outcome State Fault Refusal := s.ctl (strobeTracking ok)

/-- SAFE_CHECK (R426). -/
def execSafeCheck (cycles : Nat) (s : State) : Host.Outcome State Fault Refusal := s.ctl (safeCheck cycles)

/-- SENSOR_READ (R427). -/
def execSensorRead (v : Vector (BitVec 32) 8) (s : State) : Host.Outcome State Fault Refusal := s.ctl (sensorRead v)

/-- FLASH_PATROL (R428). -/
def execFlashPatrol (moved retired bad : Fin 65536) (s : State) : Host.Outcome State Fault Refusal :=
  s.ctl (flashPatrol moved retired bad)

/-- MONITOR_OUTPUT (R431). -/
def execMonitorOutput (ch : Fin 64) (s : State) : Host.Outcome State Fault Refusal := s.ctl (monitorOutput ch)

/-- MONITOR_RECORD_MOVE (R434). -/
def execMonitorRecordMove (s : State) : Host.Outcome State Fault Refusal := s.mach monitorRecordMove

/-- MON_SYNC (R432). -/
def execMonSync (groups : BitVec 4) (s : State) : Host.Outcome State Fault Refusal := s.ctl (monSync groups)

/-- MON_SYNC_RESET (R432). -/
def execMonSyncReset (s : State) : Host.Outcome State Fault Refusal := s.ctl monSyncReset

/-- MON_CH_WRITE (R436). -/
def execMonChWrite (ch : Fin 64) (w : Fin 4) (d : BitVec 32) (s : State) : Host.Outcome State Fault Refusal :=
  s.ctl (monChWrite ch w d)

end Sys2Proof.Machine
end

