-- ==== Sys2Proof/Machine/Law.lean ====
section
/-! DEFINITION. The sparse law of the kit's programs (spec/04 R78 to R87, R92): what the taps of an object are to become, from the
tick snapshot, in binary32 as R196 rounds it. Numbers named f are binary32 bits; a vector is the list of its three coordinates. -/
namespace Sys2Proof.Machine

/-! ## Binary32 helpers -/

def fOne : Nat := 0x3F800000

/-- The nearest binary32 of n / d. -/
def fOfRat (n d : Nat) : Nat :=
  let k := 64 + bitLen d
  (fRound false (n * 2 ^ k / d) (-(k : Int)) (n * 2 ^ k % d != 0)).1

/-- The nearest binary32 of a number in units of 2^−96. -/
def fOfFix (z : Int) : Nat := (fRound (decide (z < 0)) z.natAbs (-96) false).1

/-- Negation. -/
def fNeg (a : Nat) : Nat := if bit a 31 then a - 2 ^ 31 else a + 2 ^ 31

/-- Whether a is below b. -/
def fLt (a b : Nat) : Bool := (fCmp 1 a b).1 == 1

def vSub (a b : List Nat) : List Nat := List.zipWith (fun x y => (fSub x y).1) a b
def vAdd (a b : List Nat) : List Nat := List.zipWith (fun x y => (fAdd x y).1) a b
def vScale (s : Nat) (a : List Nat) : List Nat := a.map (fun x => (fMul s x).1)
def vDot (a b : List Nat) : Nat := (fDot (a.map fop0) (b.map fop0)).1
def vLen (a : List Nat) : Nat := (fSqrt (vDot a a)).1
def vCross (a b : List Nat) : List Nat := (fCross a b).map (·.1)

/-! ## Functions that the sequencer has no instruction for: formed exactly, then rounded (DESIGN CHOICE, log entry 130) -/

/-- π × 2^96, truncated. -/
def fixPi : Int := 248902613312231085230521944622

/-- An alternating series in units of 2^−96 from the term `t` on: each term is the one before times −x² / ((k + 1)(k + 2)). -/
def waveSeries (x : Int) : Nat → Nat → Int → Int
  | 0, _, _ => 0
  | n + 1, k, t => t + waveSeries x n (k + 2) (-(t * x * x / 2 ^ 192 / (((k + 1) * (k + 2) : Nat) : Int)))

/-- The exponential series from the term `t` on: each term is the one before times x / (k + 1). -/
def expSeries (x : Int) : Nat → Nat → Int → Int
  | 0, _, _ => 0
  | n + 1, k, t => t + expSeries x n (k + 1) (t * x / 2 ^ 96 / ((k + 1 : Nat) : Int))

def fCos (x : Int) : Nat := fOfFix (waveSeries x 24 0 (2 ^ 96))
def fSin (x : Int) : Nat := fOfFix (waveSeries x 24 1 x)

/-- A binary32 number in units of 2^−96. -/
def fixOf (a : Nat) : Int :=
  match fRead a with
  | .fin s m e => if 0 ≤ e + 96 then fInt s m * 2 ^ (e + 96).toNat else fInt s m / 2 ^ (-(e + 96)).toNat
  | _ => 0

/-! ## Gain (R78, R79) -/

/-- 10^q, rounded to nearest. -/
def tenInt (q : Int) : Nat := if 0 ≤ q then fOfRat (10 ^ q.toNat) 1 else fOfRat 1 (10 ^ (-q).toNat)

/-- 10^(r / 2,000) for r below 2,000, rounded to nearest. -/
def tenFrac (r : Nat) : Nat :=
  (fRound false (searchMax (fun n => n ^ 2000 ≤ 10 ^ r * 2 ^ 60000) 34 0 (2 ^ 34)) (-30) (r != 0)).1

/-- 10^(G / 2,000) as the product of the two table constants. -/
def dbToLin (g : Int) : Nat := (fMul (tenInt (g / 2000)) (tenFrac (g % 2000).toNat)).1

/-- A linear gain as Q4.20: truncated toward minus infinity and saturated. -/
def gainCode (a : Nat) : Int := clampI (-8388608) 8388607 (sx 32 (fToInt a 20).1)

/-- The gains of a sum, none where one of those listed first is off (R4, R78). -/
def gainSum (offs rest : List Nat) : Option Int :=
  if offs.any (· == 0x8000) then none else some (min 1800 ((offs ++ rest).foldl (fun n g => n + sx 16 g) 0))

/-! ## Speaker triplets (R80, R82, R83) -/

/-- What the MESH section gives a zone: its header's fields, and its triplet records as words. -/
structure ZoneMesh where
  ref : List Nat := [0, 0, 0]
  distRef : Nat := fOne
  mode : Nat := 0
  prop : Bool := false
  lead : Nat := 100
  spreadMax : Nat := 0
  cosMax : Nat := 28377
  passes : Nat := 4
  lagGain : Int := -300
  tris : List (List Nat) := []
  deriving DecidableEq, Repr

/-- The records of a MESH section. -/
def meshRecs (ws : List Nat) : List (List Nat) := (List.range (ws.length / 12)).map (fun i => (ws.drop (12 * i)).take 12)

/-- The header and the triplets of a zone; the defaults of R82 where no header is in force. -/
def zoneMesh (ws : List Nat) (z : Nat) : ZoneMesh :=
  match (meshRecs ws).dropWhile (fun r => !(r.headD 1 % 256 == 0 && r.headD 0 / 256 % 128 == z)) with
  | [] => {}
  | r :: l =>
    let w := fun (i : Nat) => r.getD i 0
    { ref := [w 1, w 2, w 3], distRef := w 4, mode := w 5 % 4, prop := bit (w 5) 2, lead := w 6 % 65536, spreadMax := w 6 / 65536,
      cosMax := w 7 % 65536, passes := w 7 / 65536 % 16, lagGain := sx 16 (w 8), tris := l.take (w 0 / 65536) }

/-- The feeds of a triplet with the gains that its matrix gives a direction; a pair has two. -/
def triGains (t d : List Nat) : List (Nat × Nat) :=
  let w := fun (i : Nat) => t.getD i 0
  let row := fun (r : Nat) => vDot ((t.drop (3 + 3 * r)).take 3) d
  let fs := [w 1 % 1024, w 1 / 65536 % 1024, w 2 % 1024]
  ((if w 2 % 1024 = 1023 then fs.take 2 else fs).zipIdx).map (fun e => (e.1, row e.2))

/-- The smallest gain of a triplet. -/
def lowest (l : List (Nat × Nat)) : Nat := l.foldl (fun m e => if fLt e.2 m then e.2 else m) 0x7F800000

/-- Amplitudes scaled to unit power: the squares summed in the order given, then the reciprocal root of the sum (R82). -/
def unitPower (l : List (Nat × Nat)) : List (Nat × Nat) :=
  let p := l.foldl (fun s e => (fAdd s (fMul e.2 e.2).1).1) 0
  if p = 0 then l.map (fun e => (e.1, 0)) else l.map (fun e => (e.1, (fMul e.2 (fRsq p).1).1))

/-- The triple of one direction (R82): the first whose gains are all at least −2^−12, else the one whose smallest gain is
largest; negative gains become 0. -/
def triple (tris : List (List Nat)) (d : List Nat) : List (Nat × Nat) :=
  let all := tris.map (triGains · d)
  let best := all.foldl (fun (b : Option (List (Nat × Nat))) g =>
    match b with
    | none => some g
    | some h => if fLt (lowest h) (lowest g) then some g else b) none
  let g := match all.find? (fun g => !fLt (lowest g) 0xB9800000) with
    | some g => g
    | none => best.getD []
  unitPower (g.map (fun e => (e.1, if bit e.2 31 then 0 else e.2)))

/-- cos and sin of 60° × m. -/
def sixths : List (Nat × Nat) :=
  [(fOne, 0), (0x3F000000, 0x3F5DB3D7), (0xBF000000, 0x3F5DB3D7), (0xBF800000, 0), (0xBF000000, 0xBF5DB3D7), (0x3F000000, 0xBF5DB3D7)]

/-- The direction û with the virtual directions that a spread of `s` hundredths of a degree adds (R83). -/
def spreadDirs (u : List Nat) (s : Nat) : List (List Nat) :=
  let rings := if s = 0 then 0 else if s ≤ 6000 then 1 else 2
  let e0 := vCross u [0, 0, fOne]
  let e1 := if fLt (vLen e0) 0x3C23D70B then vCross u [fOne, 0, 0] else e0
  let e1 := e1.map (fun x => (fDiv x (vLen e1)).1)
  let e2 := vCross u e1
  u :: (List.range rings).flatMap (fun k =>
    let t := fixPi * ((s * (k + 1) : Nat) : Int) / ((36000 * rings : Nat) : Int)
    sixths.map (fun p => vAdd (vScale (fCos t) u) (vScale (fSin t) (vAdd (vScale p.1 e1) (vScale p.2 e2)))))

/-- Adds an amplitude to a feed's. -/
def ampAdd (m : Keyed Nat) (e : Nat × Nat) : Keyed Nat := kput m e.1 (fAdd (kgetD m e.1 0) e.2).1

/-- The panning gains of a direction and a spread among a zone's feeds: those that are not 0, by feed (R82, R83). -/
def panGains (m : ZoneMesh) (feeds : List Nat) (u : List Nat) (s : Nat) : Keyed Nat :=
  if m.tris.isEmpty then feeds.map (fun f => (f, (fRsq (fOfRat feeds.length 1)).1))
  else
    let sum := (spreadDirs u s).foldl (fun a d => (triple m.tris d).foldl ampAdd a) []
    (unitPower sum).filter (fun e => e.2 != 0)

/-- u = POS − REF, with its length r (R82). -/
def fromRef (m : ZoneMesh) (pos : List Nat) : List Nat × Nat :=
  let u := vSub pos m.ref
  (u, vLen u)

/-- The direction of an offset; (0, 0, 1) where it is shorter than 0.01 m (R82). -/
def direction (u : List Nat) (r : Nat) : List Nat := if fLt r 0x3C23D70B then [0, 0, fOne] else vScale (fRsq (vDot u u)).1 u

/-! ## Tap selection (R84) -/

/-- Whether an amplitude comes before another: the larger, then the lower feed; amplitudes are positive. -/
def ampBefore (a b : Nat × Nat) : Bool := b.2 < a.2 || (a.2 == b.2 && a.1 ≤ b.1)

/-- The feeds kept of the candidates of each zone, in ascending zone order. -/
def keptFeeds (max : Nat) (cand : List (Keyed Nat)) : List Nat :=
  let one := ((cand.filterMap (fun c => (sortBy ampBefore c).head?)).map (·.1)).take max
  let rest := sortBy ampBefore (cand.flatten.filter (fun e => !one.contains e.1))
  one ++ (rest.take (max - one.length)).map (·.1)

/-- The candidates of each zone, cut to TAP_MAX taps, each zone's scaled again to unit power. -/
def selectTaps (max : Nat) (cand : List (Keyed Nat)) : List (Keyed Nat) :=
  if (cand.map (·.length)).foldl (· + ·) 0 ≤ max then cand
  else
    let kept := keptFeeds max cand
    cand.map (fun m => unitPower (m.filter (fun e => kept.contains e.1)))

/-! ## Distance, delay and air (R85 to R87) -/

/-- The distance gain; 1 for class A. -/
def distGain (m : ZoneMesh) (cls r : Nat) : Nat :=
  let q := (fDiv m.distRef (fPick true r m.distRef).1).1
  if cls = 0 || m.mode = 0 then fOne else if m.mode = 2 then (fSqrt q).1 else q

/-- fs / c in samples per metre: one division (R86). -/
def perMetre (rate cs : Nat) : Nat := (fDiv (fOfRat (rate * 100) 1) (fOfRat cs 1)).1

/-- The air coefficient A, and whether the filter is on (R87). -/
def airCoef (rate airF r : Nat) : Nat × Nat :=
  let fc := (fDiv (fOfRat (airF * 1000) 1) (fPick true r fOne).1).1
  if airF = 0 || !fLt fc (fOfRat rate 2) then (0, 0)
  else
    let x := (fDiv (fMul (fOfFix (2 * fixPi)) fc).1 (fOfRat rate 1)).1
    let a := (fSub fOne (fOfFix (expSeries (-(fixOf x)) 60 0 (2 ^ 96)))).1
    ((fToInt a 23).1 % 2 ^ 24, 1)

/-- What the law wants of a tap: gain, delay in Q17.15, air coefficient, AIR_EN, and whether the delay was clamped. -/
structure TapGoal where
  g : Int
  d : Nat
  a : Nat := 0
  air : Nat := 0
  clamp : Bool := false
  deriving DecidableEq, Repr

/-- The module rate in Hz. -/
def Ctl.rateHz (c : Ctl) : Nat := if c.rate96 then 96000 else 48000

/-- The enabled feeds of a zone in a snapshot. -/
def snapFeeds (t : RegMap) (n z : Nat) : List Nat :=
  (List.range n).filter (fun f => t.get R.FEED_EN f == 1 && t.get R.FEED_NOZONE f == 0 && t.get R.FEED_ZONE f == z)

/-- The zones that an object selects: enabled, with their bit of ZMASK set (R84). -/
def snapZones (t : RegMap) (o : Nat) : List Nat :=
  (List.range 128).filter (fun z => bit (t.get R.OBJ_ZMASK (4 * o + z / 32)) (z % 32) && t.get R.ZONE_EN z == 1)

/-- The position of a feed. -/
def snapPos (t : RegMap) (f : Nat) : List Nat := [t.get R.FEED_POS_X f, t.get R.FEED_POS_Y f, t.get R.FEED_POS_Z f]

/-- The zone gain register of a class. -/
def zoneGain (k : Nat) : Reg := if k = 0 then R.ZONE_GAIN_A else if k = 1 then R.ZONE_GAIN_B else if k = 2 then R.ZONE_GAIN_C else R.ZONE_GAIN_D

/-- The linear gain of R78 before the law's own factors: from SRC.TRIM, OBJ.GAIN, ZONE.GAIN and FEED.TRIM, with an extra in
hundredths of a dB; 0 where one is off, negated with SRC.INVERT. -/
def commonGain (t : RegMap) (o z f : Nat) (extra : Int) : Nat :=
  let k := t.get R.OBJ_CLASS o
  let i := t.get R.OBJ_SRC o
  let zg := t.get (zoneGain k) z
  let offs := [t.get R.SRC_TRIM i, t.get R.OBJ_GAIN o, t.get R.FEED_TRIM f]
  match (if k = 0 then gainSum offs [zg, ux 16 extra] else gainSum (zg :: offs) [ux 16 extra]) with
  | none => 0
  | some g =>
    let x := dbToLin g
    if t.get R.SRC_INVERT i = 1 then fNeg x else x

/-- The largest usable delay of a ring, in samples (R95). -/
def Ctl.dMax (c : Ctl) (ring : Nat) : Nat := ring - c.winSamples - 4

/-- The law's tap goals of one zone: `amps` are the panning gains kept (R78 to R87). -/
def Ctl.zoneGoals (c : Ctl) (t : RegMap) (o z : Nat) (amps : Keyed Nat) : Keyed TapGoal :=
  let m := zoneMesh c.tab.mesh z
  let r := (fromRef m [t.get R.OBJ_POS_X o, t.get R.OBJ_POS_Y o, t.get R.OBJ_POS_Z o]).2
  let k := perMetre c.rateHz (t.get R.SYS_LAW_C_SOUND 0)
  let rho := fun (f : Nat) => vLen (vSub (snapPos t f) m.ref)
  let far := (snapFeeds t c.feedCount z).foldl (fun a f => (fPick true a (rho f)).1) 0
  let base := (fAdd (fMul r k).1 (fMul far k).1).1
  let air := airCoef c.rateHz (t.get R.SYS_LAW_AIR_F 0) r
  let gd := distGain m (t.get R.OBJ_CLASS o) r
  let top := c.dMax (t.get R.SRC_RING (t.get R.OBJ_SRC o)) * 2 ^ 15
  amps.map (fun e =>
    let d := if m.prop then (fToInt (fPick true (fSub base (fMul (rho e.1) k).1).1 0).1 15).1 else 0
    let d := d + t.get R.FEED_ALIGN e.1 * 2 ^ 15
    (e.1, { g := gainCode (fMul e.2 (fMul (commonGain t o z e.1 0) gd).1).1, d := min d top, a := air.1, air := air.2,
            clamp := top < d }))

/-- The sparse law of an object on a snapshot: its tap goals by feed, and whether a selected zone is left without a tap. -/
def Ctl.sparseLaw (c : Ctl) (t : RegMap) (o : Nat) : Keyed TapGoal × Bool :=
  let pos := [t.get R.OBJ_POS_X o, t.get R.OBJ_POS_Y o, t.get R.OBJ_POS_Z o]
  let zones := snapZones t o
  let cand := zones.map (fun z =>
    let m := zoneMesh c.tab.mesh z
    let u := fromRef m pos
    panGains m (snapFeeds t c.feedCount z) (direction u.1 u.2) (if fLt u.2 0x3C23D70B then 18000 else t.get R.OBJ_SPREAD o))
  let kept := zones.zip (selectTaps (t.get R.OBJ_TAP_MAX o) cand)
  (kept.foldl (fun l e => (c.zoneGoals t o e.1 e.2).foldl (fun l g => kput l g.1 g.2) l) [], kept.any (fun e => e.2.isEmpty))

/-! ## Tap slots and records (R91 to R93) -/

/-- A sparse tap record: header, G_CUR, D_CUR, AIR_Y. -/
def Mem.tapHead (m : Mem) (a feed : Nat) (d : Nat) : Mem := (((m.wrN a 4 (feed + 1024)).wrN (a + 4) 4 0).wrN (a + 8) 4 d).wrN (a + 12) 4 0

/-- Target set `p` of a sparse tap record. -/
def Mem.tapSet (m : Mem) (a p : Nat) (g : Int) (d air en : Nat) : Mem :=
  let b := a + 0x10 + 16 * p
  (((m.wrN b 4 (ux 32 g)).wrN (b + 4) 4 d).wrN (b + 8) 4 air).wrN (b + 12) 4 en

/-- Puts a live sparse tap on the list, or takes it off. -/
def Ctl.setTap (c : Ctl) (a : Nat) (t : Option Tap) : Ctl :=
  { c with src := { c.src with taps := match t with | some t => kput c.src.taps a t | none => kdel c.src.taps a } }

/-- The live sparse taps in an object's record block. -/
def Ctl.tapsOf (c : Ctl) (o : Nat) : List (Nat × Tap) := c.src.taps.filter (fun e => tapObj e.1 == o)

/-- OBJ.TAPS shows the live slots (R92). -/
def Ctl.showTaps (c : Ctl) (o : Nat) : Ctl := c.set R.OBJ_TAPS (c.tapsOf o).length o

/-- A tap's life ends. -/
def Mach.tapFree (x : Mach) (a : Nat) : Mach := { c := x.c.setTap a none, m := { x.m with loft := x.m.loft.wrN a 4 0 } }

/-- A tap leaves (R91): in the tick of target set `q` it ramps to 0 at the delay it then starts from, and `left` boundaries
later it ends. -/
def Mach.tapLeave (x : Mach) (q left from' : Nat) (e : Nat × Tap) : Mach :=
  if e.2.left != 0 then x
  else
    let l := x.m.loft
    let l := (l.wrN (e.1 + 0x10 + 16 * q) 4 0).wrN (e.1 + 0x14 + 16 * q) 4 (l.rdN from' 4)
    { c := x.c.setTap e.1 (some { e.2 with left := left }), m := { x.m with loft := l } }

/-- A clamp at the tap record at loft byte `a`, whose CLAMP is bit `b` (R95). -/
def Mach.tapClamp (x : Mach) (a b : Nat) (on : Bool) : Mach :=
  if !on then x else { c := x.c.clampTap a, m := { x.m with loft := x.m.loft.wrN a 4 (setBit (x.m.loft.rdN a 4) b) } }

/-- The targets of a tap enter set `q`; a tap that is created starts from 0 at its delay (R91). -/
def Mach.tapPut (x : Mach) (a src q : Nat) (new : Bool) (g : Nat × TapGoal) : Mach :=
  let l := x.m.loft
  let l := if new then (l.tapHead a g.1 g.2.d).tapSet a (1 - q) 0 g.2.d 0 0 else l
  let x : Mach := { c := x.c.setTap a (some { feed := g.1, src := src }),
                    m := { x.m with loft := l.tapSet a q g.2.g g.2.d g.2.a g.2.air } }
  x.tapClamp a 11 g.2.clamp

/-- The law has named the feeds of `goals` for an object (R92): a feed keeps its slot, others leave, new ones take free slots,
the largest first, and those that find none wait. `q` is the target set, `fresh` says that the object sounds anew. -/
def Mach.assignTaps (x : Mach) (t : RegMap) (o q : Nat) (fresh : Bool) (goals : Keyed TapGoal) : Mach :=
  let held := (x.c.tapsOf o).filter (fun e => !e.2.old)
  let src := t.get R.OBJ_SRC o
  let slot := fun (f : Nat) => (held.find? (fun e => e.2.feed == f)).map (·.1)
  let x := goals.foldl (fun x g => match slot g.1 with | some a => x.tapPut a src q fresh g | none => x) x
  let gone := (x.c.tapsOf o).filter (fun e => e.2.old || (kget? goals e.2.feed).isNone)
  let x := gone.foldl (fun (x : Mach) e => x.tapLeave q 2 (e.1 + 0x14 + 16 * (1 - q)) e) x
  let free := ((List.range 48).map (tapAt o)).filter (fun a => (kget? x.c.src.taps a).isNone)
  let new := sortBy (fun a b => b.2.g.natAbs < a.2.g.natAbs || (a.2.g.natAbs == b.2.g.natAbs && a.1 ≤ b.1))
    (goals.filter (fun g => (slot g.1).isNone))
  let x := (new.zip free).foldl (fun x e => x.tapPut e.2 src q true e.1) x
  let c := if free.length < new.length then (x.c.set R.SYS_LAW_STATUS_DEFER_SEEN 1).raise Ev.YARD_LAW (o / 256) o else x.c
  { x with c := c.showTaps o }

/-- The law of one sparse object on a snapshot, for target set `q`. -/
def Mach.lawObj (x : Mach) (t : RegMap) (q : Nat) (o : Nat) : Mach :=
  let p := x.c.sparseLaw t o
  let x := if p.2 then { x with c := (x.c.set R.SYS_LAW_STATUS_NOTAP_SEEN 1).raise Ev.YARD_LAW (o / 256) o } else x
  x.assignTaps t o q (t.get R.OBJ_STATE o == 1 || t.get R.OBJ_STATE o == 5) p.1

/-- Whether the law renders an object of a snapshot: asked for, and PENDING, FADING_IN or ACTIVE (R63). -/
def lawOn (t : RegMap) (o : Nat) : Bool :=
  let st := t.get R.OBJ_STATE o
  t.get R.OBJ_ACT_REQ o == 1 && 1 ≤ st && st ≤ 3

end Sys2Proof.Machine
end

