-- ==== Sys2Proof/Machine/Sti.lean ====
section
/-! DEFINITION. What the intelligibility guard measures (spec/05 R121 to R126): the envelopes of the signals, the estimate of a
zone in binary32, and the ambient noise. The filters' outputs are open values (log entry 133). -/
namespace Sys2Proof.Machine

/-! ## Signals (R122, R126) -/

/-- A sample of a signal: `last` says that it ends a 10 ms frame. -/
def StiSig.step (g : StiSig) (last : Bool) (x : Int) : StiSig :=
  let banks := (List.range 7).map (fun k => Config.bandStep k (g.banks.getD k 0) x)
  let outs := banks.zipIdx.map (fun e => Config.bandOut e.2 e.1)
  let lows := (outs ++ [x]).zipIdx.map (fun e => Config.envStep (g.lows.getD e.2 0) (e.1.natAbs ^ 2))
  let power := g.power + ((outs.drop 2).take 4).foldl (fun n y => n + y.natAbs ^ 2) 0
  if last then { banks := banks, lows := lows, env := (lows.map Config.envOut :: g.env).take 1700, power := 0, frame := power }
  else { g with banks := banks, lows := lows, power := power }

/-- The power of one sample of a zone's outputs. -/
def GuardSt.powerStep (g : GuardSt) (last : Bool) (p : Nat) : GuardSt :=
  if last then { g with power := ((g.powerNow + p) :: g.power).take 301, powerNow := 0 } else { g with powerNow := g.powerNow + p }

/-- Samples of a 10 ms frame. -/
def Ctl.framePer (c : Ctl) : Nat := if c.rate96 then 960 else 480

/-- Whether sample `j` of this window ends a 10 ms frame. -/
def Ctl.frameEnd (c : Ctl) (j : Nat) : Bool := (c.feedCountN + j + 1) % c.framePer == 0

/-- The zones whose microphones the guard reads. -/
def Ctl.guardZones (c : Ctl) : List Nat :=
  (List.range 128).filter (fun z => c.is R.ZONE_REF0_EN z || c.is R.ZONE_REF1_EN z)

/-- Whether the guard of a zone runs (R121). -/
def Ctl.guardRuns (c : Ctl) (z : Nat) : Bool := c.carriesA z && (c.is R.ZONE_REF0_EN z || c.is R.ZONE_REF1_EN z)

/-- The newest block of a ring, oldest sample first; past the fill it reads zero (R94). -/
def Ring.newest (r : Ring) (n : Nat) : List Int := ((r.data ++ List.replicate n 0).take n).reverse

/-- The power of a zone's stage-6 outputs in the window (R126). -/
def Ctl.zonePower (c : Ctl) (z : Nat) (g : GuardSt) : GuardSt :=
  let outs := (c.enabledFeeds.filter (c.feedIn z ·)).map (fun f => (kgetD c.corr.feeds f {}).out)
  (List.range c.winSamples).foldl (fun g j =>
    g.powerStep (c.frameEnd j) (outs.foldl (fun n l => n + (l.getD j 0).natAbs ^ 2) 0)) g

/-- A zone whose guard does not run: its confidence is NONE, and its seconds count anew (R121, R125). -/
def Ctl.guardStopped (c : Ctl) (z : Nat) : Ctl :=
  ((c.setGuard z { (c.guard z) with run := 0, second := 0 }).set R.CORR_ZONE_CONF 0 z).set R.ZONE_STI 0 z

/-- What the guard takes of a window: the signals of the sources, the outputs of the zones, and how long it has run. -/
def Ctl.guardSample (c : Ctl) : Ctl :=
  let zones := c.guardZones
  let block := fun (g : StiSig) (r : Ring) =>
    (r.newest c.winSamples).zipIdx.foldl (fun g e => g.step (c.frameEnd e.2) e.1) g
  let sigs : Keyed StiSig := if zones.isEmpty then [] else c.src.rings.map (fun e => (e.1, block (kgetD c.corr.sigs e.1 {}) e.2))
  let c := { c with corr := { c.corr with sigs := sigs } }
  let c := c.each zones (fun c z => c.setGuard z (c.zonePower z (c.guard z)))
  let runs := zones.filter c.guardRuns
  let c := c.each runs (fun c z => c.setGuard z { (c.guard z) with run := (c.guard z).run + c.winSamples })
  c.each ((c.corr.zones.map (·.1)).filter (fun z => !runs.contains z)) Ctl.guardStopped

/-! ## Logarithms, formed exactly and rounded (DESIGN CHOICE, log entry 130) -/

/-- The series of artanh y in units of 2^−96, from y^k on. -/
def atanhSeries (y : Int) : Nat → Nat → Int → Int
  | 0, _, _ => 0
  | n + 1, k, t => t / (k : Int) + atanhSeries y n (k + 2) (t * y * y / 2 ^ 192)

/-- ln of (n / d), for a ratio from 1 to 2, in units of 2^−96. -/
def lnRatio (n d : Nat) : Int :=
  let y : Int := ((n - d) * 2 ^ 96 / (n + d) : Nat)
  2 * atanhSeries y 32 1 y

/-- The decimal logarithm of a binary32 number. -/
def fLog10 (a : Nat) : Nat :=
  match fRead a with
  | .fin false m e => fOfFix (((e + 23) * lnRatio 2 1 + lnRatio m (2 ^ 23)) * 2 ^ 96 / (3 * lnRatio 2 1 + lnRatio 10 8))
  | .zero _ => fInf true
  | .inf false => fInf false
  | _ => fNaN

/-! ## The estimate (R122 to R125) -/

/-- What the estimator finds at one microphone: valid cells of the full method by band, whether all STIPA cells are valid, the
band indices in binary32, and the acoustic delay in ms. -/
structure StiMic where
  cells : List Nat
  stipa : Bool
  mti : List Nat
  delay : Nat
  deriving DecidableEq, Repr

/-- The modulation frequencies in hundredths of a Hz: the fourteen of the full method, then the one that only STIPA uses. -/
def modFreqs : List Nat := [63, 80, 100, 125, 160, 200, 250, 315, 400, 500, 630, 800, 1000, 1250, 625]

/-- The STIPA cells of each band, as places in `modFreqs`. -/
def stipaCells : List (List Nat) := [[4, 11], [2, 9], [0, 7], [5, 12], [3, 14], [1, 8], [6, 13]]

/-- A whole number in binary32. -/
def fOfNum (n : Nat) : Nat := (fRound false n 0 false).1

/-- A sum in binary32, in order. -/
def fSum (l : List Nat) : Nat := l.foldl (fun a x => (fAdd a x).1) 0

/-- A number held to the range 0 to 1; a NaN becomes 0 as FMAX gives it (R197). -/
def fUnit (a : Nat) : Nat := (fPick false (fPick true a 0).1 fOne).1

/-- cos and sin of 2π fm n / 100 for the 400 samples of a segment. -/
def waveTable (fm : Nat) : List (Nat × Nat) :=
  (List.range 400).map (fun n => let x := 2 * fixPi * ((fm * n % 10000 : Nat) : Int) / 10000; (fCos x, fSin x))

/-- S or R of a segment (R123): its real and imaginary part. -/
def segWave (w : List (Nat × Nat)) (xs : List Nat) : Nat × Nat :=
  (w.zip xs).foldl (fun p e => ((fAdd p.1 (fMul e.2 e.1.1).1).1, (fSub p.2 (fMul e.2 e.1.2).1).1)) (0, 0)

/-- The squared magnitude of a complex number. -/
def cNorm (p : Nat × Nat) : Nat := (fAdd (fMul p.1 p.1).1 (fMul p.2 p.2).1).1

/-- The product of `p` and the conjugate of `q`. -/
def cConj (p q : Nat × Nat) : Nat × Nat :=
  ((fAdd (fMul p.1 q.1).1 (fMul p.2 q.2).1).1, (fSub (fMul p.2 q.1).1 (fMul p.1 q.2).1).1)

/-- The segments of a span: 4 s long, 2 s apart. -/
def segments (xs : List Nat) : List (List Nat) := (List.range (xs.length / 200 - 1)).map (fun i => (xs.drop (200 * i)).take 400)

/-- The envelope of a signal at place `k` over a span of `n` samples that ends `back` samples ago, oldest first; zero before the
signal began. -/
def StiSig.span (g : StiSig) (k back n : Nat) : List Nat :=
  let l := ((g.env.drop back).take n).map (fun (e : List Nat) => e.getD k 0)
  ((l ++ List.replicate n 0).take n).reverse

/-- The acoustic delay in steps of 10 ms (R122): where the broadband envelopes correlate most, the least on a tie. -/
def stiDelay (src mic : StiSig) (n : Nat) : Nat :=
  let y := mic.span 7 0 n
  let at' := fun (d : Nat) => ((src.span 7 d n).zip y).foldl (fun s e => s + e.1 * e.2) 0
  ((List.range 101).foldl (fun (b : Nat × Nat) d => let v := at' d; if b.2 < v then (d, v) else b) (0, at' 0)).1

/-- TI of one cell, none where it is not valid (R123, R124). `xs` and `ys` are the envelopes of source and microphone in one band,
`fix` corrects m. -/
def cellTi (w : List (Nat × Nat)) (modMin : Nat) (fix : Nat → Nat) (xs ys : List Nat) : Option Nat :=
  let ps := (segments xs).map (fun l => (segWave w l, l))
  let rs := (segments ys).map (segWave w)
  let index := fun (p : (Nat × Nat) × List Nat) => (fDiv (fMul (fOfNum 2) (fSqrt (cNorm p.1)).1).1 (fSum p.2)).1
  let depth := (fDiv (fSum (ps.map index)) (fOfNum ps.length)).1
  if (fCmp 2 (fOfRat modMin 100) depth).1 = 0 then none
  else
    let cross := (rs.zip ps).map (fun e => cConj e.1 e.2.1)
    let num := (fSqrt (cNorm (fSum (cross.map (·.1)), fSum (cross.map (·.2))))).1
    let ratio := (fDiv (fSum xs) (fSum ys)).1
    let m := fUnit (fMul (fDiv num (fSum (ps.map (fun p => cNorm p.1)))).1 ratio).1
    let m := fUnit (fix m)
    let snr := (fMul (fOfNum 10) (fLog10 (fDiv m (fSub fOne m).1).1)).1
    let snr := (fPick true (fPick false snr (fOfNum 15)).1 (fNeg (fOfNum 15))).1
    some (fDiv (fAdd snr (fOfNum 15)).1 (fOfNum 30)).1

/-- The mean in binary32. -/
def fMean (l : List Nat) : Nat := (fDiv (fSum l) (fOfNum l.length)).1

/-- CONF of a microphone (R125). -/
def micConf (m : StiMic) : Nat :=
  if 84 ≤ m.cells.foldl (· + ·) 0 && m.cells.length == 7 && m.cells.all (10 ≤ ·) then 2 else if m.stipa then 1 else 0

/-- The microphone's result from the TI of its cells by band (R124, R125). -/
def micOf (ti : List (List (Option Nat))) (delay : Nat) : StiMic :=
  let cells := ti.map (fun l => (l.take 14).countP Option.isSome)
  let sub := (ti.zip stipaCells).map (fun e => e.2.map (fun i => e.1.getD i none))
  let m : StiMic := { cells := cells, stipa := sub.all (·.all Option.isSome), mti := [], delay := 10 * delay }
  { m with mti := if micConf m = 2 then ti.map (fun l => fMean ((l.take 14).filterMap id)) else sub.map (fun l => fMean (l.filterMap id)) }

/-- What the estimator finds at the microphone with signal `mic` against the source `src` (R122 to R125). With MIC_CAL, `iec` holds
m as IEC 60268-16 corrects it, 15 cells to a band. -/
def Ctl.stiMic (c : Ctl) (z : Nat) (iec : List (BitVec 32)) (src mic : StiSig) : StiMic :=
  let n := 100 * c.get R.CORR_STI_CTRL_SPAN
  let d := stiDelay src mic n
  let ys := (List.range 7).map (fun k => (mic.span k 0 n).map fOfNum)
  let xs := (List.range 7).map (fun k => (src.span k d n).map fOfNum)
  let fix := fun (i m : Nat) => if c.get R.CORR_ZONE_MIC_CAL z = 0 then m else (iec.map (·.toNat)).getD i m
  let waves := modFreqs.map waveTable
  micOf ((List.range 7).map (fun k => (waves.take (if k = 4 then 15 else 14)).zipIdx.map (fun w =>
    cellTi w.1 (c.get R.CORR_STI_CTRL_MOD_MIN) (fix (15 * k + w.2)) (xs.getD k []) (ys.getD k [])))) d

/-- The STI of seven band indices in hundredths, truncated (R124). -/
def stiOf (mti : List Nat) : Nat :=
  let at' := fun (k : Nat) => mti.getD k 0
  let al := [85, 127, 230, 233, 309, 224, 173].zipIdx.map (fun e => (fMul (fOfRat e.1 1000) (at' e.2)).1)
  let be := [85, 78, 65, 11, 47, 95].zipIdx.map (fun e =>
    (fMul (fOfRat e.1 1000) (fSqrt (fMul (at' e.2) (at' (e.2 + 1))).1).1).1)
  (clampI 0 255 (sx 32 (fToInt (fMul (fSub (fSum al) (fSum be)).1 (fOfNum 100)).1 0).1)).toNat

/-- A band index in hundredths. -/
def mtiCode (a : Nat) : Nat := min 255 (fToInt (fMul a (fOfNum 100)).1 0).1

/-! ## Updates (R121 to R129) -/

/-- The microphones with the results that the estimator finds at them; none without a reference source (R121). -/
def Ctl.stiMics (c : Ctl) (z : Nat) (m0 m1 : List (BitVec 32)) : List (Nat × StiMic) :=
  match c.refSource z with
  | none => []
  | some s =>
    let sig := fun (i : Nat) => kgetD c.corr.sigs i {}
    ([(0, c.get R.ZONE_REF0 z), (1, c.get R.ZONE_REF1 z)].filter (fun e => c.micOk z e.1)).map (fun e =>
      (e.1, c.stiMic z (if e.1 = 0 then m0 else m1) (sig s) (sig e.2)))

/-- The registers of one microphone: its delay, and its estimate where its confidence is not NONE. -/
def Ctl.micShow (c : Ctl) (z : Nat) (e : Nat × StiMic) : Ctl :=
  let c := c.set (if e.1 = 0 then R.CORR_ZONE_DELAY0 else R.CORR_ZONE_DELAY1) e.2.delay z
  if micConf e.2 = 0 then c
  else c.set (if e.1 = 0 then R.CORR_ZONE_STI_MIC0 else R.CORR_ZONE_STI_MIC1) (stiOf e.2.mti) z

/-- CELLS and the band indices. -/
def Ctl.cellsShow (c : Ctl) (z : Nat) (m : StiMic) : Ctl :=
  let h := fun (k : Nat) => mtiCode (m.mti.getD k 0)
  ((c.set R.CORR_ZONE_CELLS (m.cells.foldl (· + ·) 0) z).set R.CORR_ZONE_MTI0_3
    (h 0 + 256 * h 1 + 65536 * h 2 + 16777216 * h 3) z).set R.CORR_ZONE_MTI4_6 (h 4 + 256 * h 5 + 65536 * h 6) z

/-- One estimate of a zone from what was found at its microphones (R124 to R129). -/
def Ctl.stiApply (c : Ctl) (z : Nat) (mics : List (Nat × StiMic)) : Ctl :=
  let c := ((c.inc R.CORR_ZONE_UPDATES z).set R.CORR_ZONE_NOREF (b2n mics.isEmpty) z).set R.CORR_ZONE_NOCAL
    (b2n (c.get R.CORR_ZONE_MIC_CAL z == 0)) z
  let c := c.each mics (fun c e => c.micShow z e)
  match sortBy (fun a b => stiOf a.2.mti ≤ stiOf b.2.mti) (mics.filter (fun e => micConf e.2 != 0)) with
  | [] =>
    let n := match mics with | [] => 0 | e :: _ => e.2.cells.foldl (· + ·) 0
    let c := (((c.set R.CORR_ZONE_CELLS n z).set R.CORR_ZONE_CONF 0 z).set R.ZONE_STI 0 z).set R.CORR_ZONE_CONF_LOST_SEEN 1 z
    (c.raise Ev.YARD_STI (z / 32) z).guardGains z (c.get R.CORR_ZONE_LIFT_DB z)
  | e :: _ =>
    let sti := stiOf e.2.mti
    let c := ((c.set R.CORR_ZONE_CONF (micConf e.2) z).set R.ZONE_STI sti z).cellsShow z e.2
    let p := c.countermeasure z sti
    p.1.guardGains z p.2

/-- STI_UPDATE: an estimate each second in which the guard of zone `z` runs, the first after one span (R122). -/
def stiUpdate (z : Nat) (m0 m1 : List (BitVec 32)) (c : Ctl) : Ctl :=
  let g := c.guard z
  let sec := g.run / c.rateHz
  if !c.guardRuns z || sec < max (c.get R.CORR_STI_CTRL_SPAN) (g.second + 1) then c
  else (c.setGuard z { g with second := sec }).stiApply z (c.stiMics z m0 m1)

/-! ## Ambient noise (R126) -/

/-- Whether the frame `d` steps back is quiet: its power is zero, or 25 dB below the mean of the 200 frames before it. -/
def GuardSt.isQuiet (g : GuardSt) (d : Nat) : Bool :=
  let p := g.power.getD d 0
  let sum := ((g.power.drop (d + 1)).take 200).foldl (· + ·) 0
  p == 0 || decide ((200 * p) ^ 2 * 10 ^ 5 ≤ sum ^ 2)

/-- Whether the last frame is quiet at microphone `i` of a zone, which is enabled. -/
def Ctl.ambQuiet (c : Ctl) (z i : Nat) : Bool :=
  c.is (if i = 0 then R.ZONE_REF0_EN else R.ZONE_REF1_EN) z &&
    (c.guard z).isQuiet (c.get (if i = 0 then R.CORR_ZONE_DELAY0 else R.CORR_ZONE_DELAY1) z / 10)

/-- The level of microphone `i` of a zone in the last frame; none for a silent one. -/
def Ctl.ambLevel (c : Ctl) (z i : Nat) : Option Int :=
  let src := c.get (if i = 0 then R.ZONE_REF0 else R.ZONE_REF1) z
  let rms := isqrt ((kgetD c.corr.sigs src {}).frame / c.framePer)
  if rms = 0 then none else some (sx 16 (levelDb rms))

/-- Whether the 10 ms frame that ended last is still to be measured at microphone `i` of a zone (R126). -/
def Ctl.ambDue (c : Ctl) (z i : Nat) : Bool :=
  let now := c.corr.done / c.framePer
  c.is (if i = 0 then R.ZONE_REF0_EN else R.ZONE_REF1_EN) z && now != 0 && !((c.guard z).seen == now && (c.guard z).heard.contains i)

/-- AMBIENT_FRAME: the 10 ms frame that ended last is measured at microphone `i` of zone `z`, once. -/
def ambientFrame (z i : Nat) (c : Ctl) : Ctl :=
  let g := c.guard z
  let now := c.corr.done / c.framePer
  if !c.ambDue z i then c
  else
    let same := g.seen == now
    let n := if same then g.frames else g.frames + 1
    let quiet := c.ambQuiet z i
    let level := if quiet then (c.ambLevel z i).toList else []
    let q := (g.quiet ++ level.map (fun v => (n, v))).filter (fun e => n < e.1 + 1000)
    let g := { g with frames := n, seen := now, heard := if same then i :: g.heard else [i], quiet := q,
                      lastQuiet := if quiet then n else g.lastQuiet }
    let c := c.setGuard z g
    if q.isEmpty then c.set R.CORR_ZONE_AMB_STALE (b2n (3000 ≤ n - g.lastQuiet)) z
    else
      let mean := (q.foldl (fun s e => s + e.2) (0 : Int)).tdiv q.length
      (c.set R.CORR_ZONE_AMB (ux 16 mean) z).set R.CORR_ZONE_AMB_STALE 0 z

end Sys2Proof.Machine
end

