-- ==== Sys2Proof/Machine/CmdCorrection.lean ====
section
/-! DEFINITION. Meanings of commands. Correction banks, biquads and the intelligibility guard (chapter 05). Each is the command's effect under the rule named, over the operations of
the files imported. -/
namespace Sys2Proof.Machine

/-- CORR_LOAD_GO (R113). -/
def execCorrLoadGo (m : Master) (f : Fin 1024) (b : Fin 2) (slot : Fin 16) (s : State) : Host.Outcome State Fault Refusal :=
  s.mach (corrLoadGo m f.val b.val slot.val)

/-- BANK_LOAD_COMPLETE (R113). -/
def execBankLoadComplete (s : State) : Host.Outcome State Fault Refusal := s.mach bankLoadComplete

/-- BANK_LOAD_TIMEOUT (R113). -/
def execBankLoadTimeout (s : State) : Host.Outcome State Fault Refusal := s.ctl bankLoadTimeout

/-- CORR_SWAP (R114). -/
def execCorrSwap (m : Master) (f : Fin 768) (target : Fin 2) (fade : Fin 256) (s : State) : Host.Outcome State Fault Refusal :=
  s.ctl (corrSwap m f.val target.val fade.val)

/-- BANK_FADE_END (R114). -/
def execBankFadeEnd (f : Fin 768) (s : State) : Host.Outcome State Fault Refusal := s.ctl (bankFadeEnd f.val)

/-- PENDING_SWAP_START (R115). -/
def execPendingSwapStart (f : Fin 768) (s : State) : Host.Outcome State Fault Refusal := s.ctl (pendingSwapStart f.val)

/-- CORR_BQ_WRITE (R118). -/
def execCorrBqWrite (m : Master) (s : State) : Host.Outcome State Fault Refusal := s.ctl (corrBqWrite m)

/-- CORR_BQ_READ (R118). -/
def execCorrBqRead (s : State) : Host.Outcome State Fault Refusal := s.ctl corrBqRead

/-- STI_UPDATE (R122). -/
def execStiUpdate (z : Fin 128) (m0 m1 : List (BitVec 32)) (s : State) : Host.Outcome State Fault Refusal :=
  s.ctl (stiUpdate z.val m0 m1)

/-- AMBIENT_FRAME (R126). -/
def execAmbientFrame (y : Fin 4) (k : Fin 32) (mic : Fin 2) (s : State) : Host.Outcome State Fault Refusal :=
  s.ctl (ambientFrame (32 * y.val + k.val) mic.val)

/-- GUARD_RELAX (R129). -/
def execGuardRelax (z : Fin 128) (s : State) : Host.Outcome State Fault Refusal := s.ctl (guardRelax z.val)

/-- STORM_BQ_WRITE (R118). -/
def execStormBqWrite (m : Master) (s : State) : Host.Outcome State Fault Refusal := s.ctl (stormBqWrite m)

/-- STORM_BQ_READ (R118). -/
def execStormBqRead (m : Master) (s : State) : Host.Outcome State Fault Refusal := s.ctl (stormBqRead m)

end Sys2Proof.Machine
end

