-- ==== Sys2Proof/Machine/CmdFabric.lean ====
section
/-! DEFINITION. Meanings of commands. The fabric (chapter 11). Each is the command's effect under the rule named, over the operations of
the files imported. -/
namespace Sys2Proof.Machine

/-- GATE_UP (R267). -/
def execGateUp (g : Plug) (s : State) : Host.Outcome State Fault Refusal := s.ctl (gateUp g)

/-- GATE_DOWN (R267). -/
def execGateDown (g : Fin 4) (s : State) : Host.Outcome State Fault Refusal := s.ctl (gateDown g)

/-- CELL_SLOT_SEND (R273). -/
def execCellSlotSend (g : Fin 4) (s : State) : Host.Outcome State Fault Refusal := s.ctl (cellSlotSend g)

/-- CELL_ESCAPE (R274). -/
def execCellEscape (g : Fin 4) (vc : Fin 3) (s : State) : Host.Outcome State Fault Refusal := s.ctl (cellEscape g vc)

/-- CREDIT_SEND (R271). -/
def execCreditSend (g : Fin 4) (s : State) : Host.Outcome State Fault Refusal := s.ctl (creditSend g)

/-- CREDIT_CELL_RECEIVE (R272). -/
def execCreditCellReceive (g : Fin 4) (cell : Cell) (s : State) : Host.Outcome State Fault Refusal :=
  s.ctl (creditCellReceive g cell)

/-- KNOCK_SEND (R275). -/
def execKnockSend (g : Fin 4) (s : State) : Host.Outcome State Fault Refusal := s.ctl (knockSend g)

/-- KNOCK_RECEIVE (R276). -/
def execKnockReceive (g : Fin 4) (cell : Cell) (s : State) : Host.Outcome State Fault Refusal := s.ctl (knockReceive g cell)

/-- ROOT_TIMEOUT (R276). -/
def execRootTimeout (s : State) : Host.Outcome State Fault Refusal := s.ctl rootTimeout

/-- ADDRESS_EXPIRY (R277). -/
def execAddressExpiry (n : Fin 64) (s : State) : Host.Outcome State Fault Refusal := s.ctl (addressExpiry n)

/-- DATA_CELL_RECEIVE (R284). -/
def execDataCellReceive (g : Fin 4) (cell : Cell) (s : State) : Host.Outcome State Fault Refusal :=
  s.ctl (dataCellReceive g cell)

/-- MIRROR_RECEIVE (R285). -/
def execMirrorReceive (g : Fin 4) (cell : Cell) (s : State) : Host.Outcome State Fault Refusal :=
  s.ctl (mirrorReceive g cell)

/-- TOPO_RECEIVE (R280). -/
def execTopoReceive (g : Fin 4) (cell : Cell) (s : State) : Host.Outcome State Fault Refusal := s.ctl (topoReceive g cell)

/-- ROUTE_RECEIVE (R280). -/
def execRouteReceive (g : Fin 4) (cell : Cell) (flows : List (Nat × Flow)) (s : State) : Host.Outcome State Fault Refusal :=
  s.ctl (routeReceive g cell flows)

/-- EXPORTS_RECEIVE (R282). -/
def execExportsReceive (g : Fin 4) (cell : Cell) (classes : BitVec 512) (s : State) : Host.Outcome State Fault Refusal :=
  s.ctl (exportsReceive g cell classes)

/-- SWITCH_RECEIVE (R280). -/
def execSwitchReceive (g : Fin 4) (cell : Cell) (s : State) : Host.Outcome State Fault Refusal :=
  s.ctl (switchReceive g cell)

/-- TICK_RECEIVE (R287). -/
def execTickReceive (g : Fin 4) (cell : Cell) (s : State) : Host.Outcome State Fault Refusal := s.ctl (tickReceive g cell)

/-- ACK_RECEIVE (R281). -/
def execAckReceive (g : Fin 4) (cell : Cell) (s : State) : Host.Outcome State Fault Refusal := s.ctl (ackReceive g cell)

/-- ROUTE_COMPUTE (R280). -/
def execRouteCompute (subs : List (Nat × List Nat)) (s : State) : Host.Outcome State Fault Refusal :=
  s.ctl (routeCompute subs)

/-- GENERATION_SWITCH (R280). -/
def execGenerationSwitch (s : State) : Host.Outcome State Fault Refusal := s.ctl generationSwitch

/-- TIME_CELL_SEND (R288). -/
def execTimeCellSend (g : Fin 4) (s : State) : Host.Outcome State Fault Refusal := s.ctl (timeCellSend g)

/-- TIME_CELL_RECEIVE (R288). -/
def execTimeCellReceive (g : Fin 4) (t1 t2 t3 t4 : BitVec 64) (s : State) : Host.Outcome State Fault Refusal :=
  s.ctl (timeCellReceive g t1 t2 t3 t4)

/-- FAB_JOIN (R286). -/
def execFabJoin (s : State) : Host.Outcome State Fault Refusal := s.ctl fabJoin

/-- FAB_TICK (R287). -/
def execFabTick (len : BitVec 4) (s : State) : Host.Outcome State Fault Refusal := s.ctl (fabTick len)

/-- FAB_CFG_WRITE (R289). -/
def execFabCfgWrite (d : BitVec 32) (s : State) : Host.Outcome State Fault Refusal := s.ctl (fabCfgWrite d)

end Sys2Proof.Machine
end

