-- ==== Sys2Proof/Machine/Solve.lean ====
section
/-! DEFINITION. The exit-pull law of the kit's programs (spec/04 R98 to R103): the solve of a zone over its grid, and the expansion
of its solution into the dense tap records. An arrival is held exactly, in units of 2^−24 samples. -/
namespace Sys2Proof.Machine

/-- A pair record: feed, DIST_MM and the horizontal direction in Q1.15. -/
structure Pair where
  feed : Nat
  dist : Nat
  vx : Int
  vy : Int
  deriving DecidableEq, Repr

/-- A grid point that is not skipped: the horizontal direction from it to the exit in Q1.15, and its pairs in feed order. -/
structure Point where
  ex : Int
  ey : Int
  pairs : List Pair
  deriving DecidableEq, Repr

/-- How many points a grid holds: as far as the enabled zones' ranges go (R98). -/
def gridPoints (t : RegMap) : Nat :=
  (List.range 128).foldl (fun n z => if t.get R.ZONE_EN z = 1 then max n (t.get R.ZONE_GRID_FIRST z + t.get R.ZONE_GRID_COUNT z) else n) 0

/-- One coordinate of a unit vector in Q1.15. -/
def unitQ15 (a : Nat) : Int := clampI (-32768) 32767 (sx 32 (fToInt a 15).1)

/-- Grid point `p` of a zone with its exit, none where it is skipped: nearer than 0.5 m to the exit horizontally (R99). -/
def gridPoint (ws : List Nat) (n : Nat) (exit' : List Nat) (p : Nat) : Option Point :=
  let w := fun (r i : Nat) => ws.getD (4 * r + i) 0
  let start := n + (List.range p).foldl (fun s i => s + w i 3 % 1024) 0
  let d := vSub (exit'.take 2) [w p 0, w p 1]
  let h := (fAdd (fMul (d.getD 0 0) (d.getD 0 0)).1 (fMul (d.getD 1 0) (d.getD 1 0)).1).1
  if fLt (fSqrt h).1 0x3F000000 then none
  else
    let u := vScale (fRsq h).1 d
    some { ex := unitQ15 (u.getD 0 0), ey := unitQ15 (u.getD 1 0),
           pairs := (List.range (w p 3 % 1024)).map (fun i =>
             let r := start + i
             ⟨w r 2 % 1024, w r 0, sx 16 (w r 1), sx 16 (w r 1 / 65536)⟩) }

/-- Whether a feed lies toward the exit as seen from a point (R100). -/
def Point.aligned (p : Point) (cosMax : Nat) (e : Pair) : Bool :=
  (e.vx == 0 && e.vy == 0) || decide (((cosMax * 2 ^ 15 : Nat) : Int) ≤ e.vx * p.ex + e.vy * p.ey)

/-- A feed's delay τ in the solve, and whether it was demoted. -/
abbrev Delays := Keyed (Nat × Bool)

/-- When a feed's sound arrives at a point, in units of 2^−24 samples (R99). -/
def arrival (k : Nat) (ts : Delays) (e : Pair) : Nat := (kgetD ts e.feed (0, false)).1 * 2 ^ 24 + e.dist * k

/-- The pair that arrives first, the lower feed on a tie. -/
def firstArrival (k : Nat) (ts : Delays) (l : List Pair) : Option Pair :=
  l.foldl (fun b e => match b with
    | none => some e
    | some f => if arrival k ts e < arrival k ts f then some e else b) none

/-- What a solve is made with: K, the limit, COS_MAX and LEAD × fs. -/
structure SolveCfg where
  k : Nat
  limit : Nat
  cosMax : Nat
  lead : Nat
  deriving DecidableEq, Repr

/-- The delays after one point of a pass, and whether they changed (R100). -/
def SolveCfg.point (q : SolveCfg) (s : Delays × Bool) (p : Point) : Delays × Bool :=
  match firstArrival q.k s.1 p.pairs, firstArrival q.k s.1 (p.pairs.filter (p.aligned q.cosMax)) with
  | some l, some g =>
    if p.aligned q.cosMax l then s
    else
      let unit := 100000 * 2 ^ 24
      let push := ((arrival q.k s.1 g - arrival q.k s.1 l) * 100000 + q.lead * 2 ^ 24 + unit - 1) / unit
      let t := kgetD s.1 l.feed (0, false)
      (kput s.1 l.feed (if q.limit < t.1 + push then (q.limit, true) else (t.1 + push, t.2)), true)
  | _, _ => s

/-- The passes (R100): the delays and how many passes were made. -/
def SolveCfg.run (q : SolveCfg) (ps : List Point) : Nat → Delays → Delays × Nat
  | 0, ts => (ts, 0)
  | n + 1, ts =>
    let s := ps.foldl q.point (ts, false)
    if s.2 then
      let r := SolveCfg.run q ps n s.1
      (r.1, r.2 + 1)
    else (s.1, 1)

/-- The largest delay of a near window, in samples (R97). -/
def Ctl.nearLimit (c : Ctl) : Nat := 4096 - c.winSamples - 4

/-- The start delays of a zone's feeds (R99): the excess of each distance from the exit over the least, in binary32. -/
def Ctl.startDelays (c : Ctl) (t : RegMap) (z : Nat) : Keyed Nat :=
  let e := [t.get R.ZONE_EXIT_X z, t.get R.ZONE_EXIT_Y z, t.get R.ZONE_EXIT_Z z]
  let ds := (snapFeeds t c.feedCount z).map (fun f => (f, vLen (vSub (snapPos t f) e)))
  let least := ds.foldl (fun m d => if fLt d.2 m then d.2 else m) 0x7F800000
  let k := perMetre c.rateHz (t.get R.SYS_LAW_C_SOUND 0)
  ds.map (fun d => (d.1, (fToInt (fMul (fSub d.2 least).1 k).1 0).1))

/-- The solve of a zone (R99 to R102): its solution, the passes used and the unresolved points. A grid with no points gives the
start delays alone. A demoted feed has the demoted lag gain even where it leads (DESIGN CHOICE, log entry 131). -/
def Ctl.solveZone (c : Ctl) (t : RegMap) (z : Nat) : SolveInfo :=
  let was := kgetD c.src.solves z {}
  let start := c.startDelays t z
  if t.get R.ZONE_GRID_COUNT z = 0 then
    { was with unresolved := 0, passes := 0, sol := start.map (fun e => (e.1, e.2, 0)) }
  else
    let m := zoneMesh c.tab.mesh z
    let limit := if m.spreadMax = 0 then c.nearLimit else min m.spreadMax c.nearLimit
    let q : SolveCfg := ⟨c.rateHz * 2 ^ 24 / (t.get R.SYS_LAW_C_SOUND 0 * 10), limit, m.cosMax, m.lead * c.rateHz⟩
    let exit' := [t.get R.ZONE_EXIT_X z, t.get R.ZONE_EXIT_Y z]
    let ps := ((List.range (t.get R.ZONE_GRID_COUNT z)).map (t.get R.ZONE_GRID_FIRST z + ·)).filterMap
      (gridPoint c.tab.grid (gridPoints t) exit')
    let r := q.run ps m.passes (start.map (fun e => (e.1, if limit < e.2 then (limit, true) else (e.2, false))))
    let firsts := ps.filterMap (fun p => (firstArrival q.k r.1 p.pairs).map (fun l => (l.feed, p.aligned q.cosMax l)))
    let lag := fun (f : Nat) (dem : Bool) => if dem then m.lagGain - 1000 else if firsts.any (·.1 == f) then 0 else m.lagGain
    { was with
      unresolved := (firsts.filter (!·.2)).length
      passes := r.2
      sol := r.1.map (fun e => (e.1, e.2.1, lag e.1 e.2.2)) }

/-- The solve of a zone is carried out and reported (R100). -/
def Ctl.solve (c : Ctl) (t : RegMap) (z : Nat) : Ctl :=
  let s := c.solveZone t z
  let c := { c with src := { c.src with solves := kput c.src.solves z s } }
  if s.unresolved = 0 then c else (c.set R.SYS_LAW_STATUS_EXIT_SEEN 1).raise Ev.YARD_EXIT (z / 32) z

/-! ## Dense taps (R101 to R103) -/

/-- The tap goals of a dense object in one zone: the zone's solution, or the sparse fallback (R78, R101, R102). -/
def Ctl.denseZone (c : Ctl) (t : RegMap) (o z : Nat) : Keyed TapGoal :=
  let s := kgetD c.src.solves z {}
  let goal := fun (f d : Nat) (pan : Nat) (gz : Int) =>
    let d := d + t.get R.FEED_ALIGN f
    (f, ({ g := gainCode (fMul pan (commonGain t o z f gz)).1, d := min d c.nearLimit, clamp := c.nearLimit < d } : TapGoal))
  if s.fallback then
    let m := zoneMesh c.tab.mesh z
    let u := fromRef m [t.get R.ZONE_EXIT_X z, t.get R.ZONE_EXIT_Y z, t.get R.ZONE_EXIT_Z z]
    let fs := snapFeeds t c.feedCount z
    let pan := panGains m fs (direction u.1 u.2) 0
    fs.map (fun f => goal f 0 (kgetD pan f 0) 0)
  else s.sol.map (fun e => goal e.1 e.2.1 fOne e.2.2)

/-- The tap goals of a dense object in the zones that it selects. -/
def Ctl.denseLaw (c : Ctl) (t : RegMap) (o : Nat) : Keyed TapGoal :=
  (snapZones t o).foldl (fun l z => (c.denseZone t o z).foldl (fun l g => kput l g.1 g.2) l) []

/-- Target set `p` of the dense tap record at `a`. -/
def Mem.denseSet (m : Mem) (a p : Nat) (g : Int) (d : Nat) : Mem := (m.wrN (a + 8 + 4 * p) 4 (ux 32 g)).wrN (a + 0x10 + 2 * p) 2 d

/-- Sets what a slot keeps of its taps. -/
def Ctl.setDense (c : Ctl) (s f : Nat) (left : Option Nat) : Ctl :=
  let n := kgetD c.src.near s {}
  let taps := match left with | some k => kput n.taps f k | none => kdel n.taps f
  { c with src := { c.src with near := kput c.src.near s { n with taps := taps } } }

/-- The targets of a dense tap enter set `q`; a tap that is created starts from 0 at its delay (R91). -/
def Mach.densePut (x : Mach) (s q : Nat) (new : Bool) (g : Nat × TapGoal) : Mach :=
  let a := denseAt s g.1
  let l := x.m.loft
  let l := if new then ((l.wrN a 4 g.2.d).wrN (a + 4) 4 0).denseSet a (1 - q) 0 g.2.d else l
  let x : Mach := { c := x.c.setDense s g.1 (some 0), m := { x.m with loft := l.denseSet a q g.2.g g.2.d } }
  x.tapClamp a 16 g.2.clamp

/-- A dense tap leaves (R91), as `Mach.tapLeave` for a sparse one. -/
def Mach.denseLeave (x : Mach) (s q left off : Nat) (e : Nat × Nat) : Mach :=
  if e.2 != 0 then x
  else
    let a := denseAt s e.1
    let l := x.m.loft
    { c := x.c.setDense s e.1 (some left), m := { x.m with loft := l.denseSet a q 0 (l.rdN (a + off) 2) } }

/-- The expansion of a slot for target set `q` (R101): feeds that the object does not reach any more leave. -/
def Mach.expand (x : Mach) (t : RegMap) (q s : Nat) (fresh : Bool) (goals : Keyed TapGoal) : Mach :=
  let had := (kgetD x.c.src.near s {}).taps
  let x := goals.foldl (fun x g => x.densePut s q (fresh || (kget? had g.1).isNone) g) x
  (had.filter (fun e => (kget? goals e.1).isNone)).foldl (fun x e => x.denseLeave s q 2 (0x10 + 2 * (1 - q)) e) x

end Sys2Proof.Machine
end

