-- ==== Sys2Proof/Machine/Mix.lean ====
section
/-! DEFINITION. The mix of the kit's programs (spec/04 R88 to R92, R94, R95) and what they do at a tick boundary: the lives of the
taps, the laws, and the records that a yard without its program leaves (R47, R77, R152). -/
namespace Sys2Proof.Machine

/-! ## Reading a ring (R88, R89, R94) -/

/-- The point that a ring gives output sample `j` of `s` at delay `d`: 0 past the fill. -/
def Ring.point (r : Ring) (s j d : Nat) : Int := if r.fill ≤ d + s - 1 - j then 0 else r.data.getD (d + s - 1 - j) 0

/-- The Lagrange coefficients of fraction m / 1,024 in Q2.22, truncated (R88). -/
def lagrange (m : Nat) : List Int :=
  let u : Int := m
  let a := u + 1024
  let b := u - 1024
  let e := u - 2048
  [-(u * b * e) / 1536, a * b * e / 512, -(a * u * e) / 512, a * u * b / 1536]

/-- The interpolated sample at a delay in Q17.15 (R88, R89). -/
def Ring.interp (r : Ring) (s j d : Nat) : Int :=
  let n := d / 2 ^ 15
  let h := lagrange (if n = 0 then 0 else d / 32 % 1024)
  sat31 (asr (wrap72 ((h.zipIdx).foldl (fun z e => if e.1 = 0 then z else z + e.1 * r.point s j (n + e.2 - 1)) 0)) 22)

/-- A sparse tap record at its start of a window: current values and the tick's targets. -/
structure TapRec where
  gCur : Int
  dCur : Nat
  airY : Int
  g : Int
  d : Nat
  a : Nat
  air : Bool
  deriving DecidableEq, Repr

/-- Reads a sparse tap record with target set `p` (R93). -/
def tapRec (m : Mem) (a p : Nat) : TapRec :=
  let l := m.rds a 48
  let w := fun (o : Nat) => leVal ((l.drop o).take 4)
  let b := 0x10 + 16 * p
  ⟨sx 24 (w 4), w 8, sx 32 (w 12), sx 24 (w b), w (b + 4), w (b + 8) % 2 ^ 24, w (b + 12) % 2 == 1⟩

/-- The delay of a sparse tap at sample `q` of the `m` of its tick, none while it jumps (R90, R91). -/
def TapRec.delay (t : TapRec) (q m : Nat) : Option Nat :=
  if m * 2 ^ 13 < (max t.d t.dCur - min t.d t.dCur) then none else some (rampAt t.dCur t.d q m).toNat

/-- The sample of a sparse tap before its air filter; `top` is the largest usable delay in Q17.15 (R89, R95). -/
def TapRec.sample (t : TapRec) (r : Ring) (top s j q m : Nat) : Int :=
  match t.delay q m with
  | some d => r.interp s j (min d top)
  | none => crossFade (r.interp s j (min t.dCur top)) (r.interp s j (min t.d top)) q m

/-- The products of a sparse tap for the samples of a window from sample `j` on, with the air filter's state (R89, R90). -/
def TapRec.run (t : TapRec) (r : Ring) (top s j0 m : Nat) : List Nat → Int → List Int × Int
  | [], y => ([], y)
  | j :: l, y =>
    let q := j0 + j
    let x := t.sample r top s j q m
    let o := if t.air then sat31 (asr ((t.a : Int) * x + (8388608 - t.a) * y) 23) else x
    let k := TapRec.run t r top s j0 m l (if t.air then o else y)
    (rampAt t.gCur t.g q m * o :: k.1, k.2)

/-- Whether a delay of the tick's ramp lies above the largest usable one (R95). -/
def TapRec.clamps (t : TapRec) (top s j0 m : Nat) : Bool :=
  (List.range s).any (fun j => match t.delay (j0 + j) m with
    | some d => top < d
    | none => top < t.dCur || top < t.d)

/-- Adds a block into a feed's accumulators, modulo 2^72 (R89); a feed that is off takes none. -/
def Ctl.accBlock (c : Ctl) (f : Nat) (zs : List Int) : Ctl :=
  if !c.is R.FEED_EN f then c
  else
    let q := kgetD c.corr.feeds f {}
    let acc := if q.acc.isEmpty then zs.map wrap72 else List.zipWith (fun a z => wrap72 (a + z)) q.acc zs
    { c with corr := { c.corr with feeds := kput c.corr.feeds f { q with acc := acc } } }

/-- The targets of a sparse tap are reached at the end of its tick (R90). -/
def tapReached (a p : Nat) (m : Mem) : Mem := copyWord (copyWord m (a + 0x10 + 16 * p) (a + 4)) (a + 0x14 + 16 * p) (a + 8)

/-- RING in force of the ring that a tap reads. -/
def Ctl.ringLen (c : Ctl) (k : Nat) (r : Ring) : Nat := if k < 256 then c.get R.SRC_RING k else r.len

/-- What an object adds to a feed in the window: free values from a host write into a record of it on (R93). -/
def Ctl.objBlock (c : Ctl) (o f : Nat) (zs : List Int) : Ctl :=
  if c.src.spoiled.contains o then let p := c.freeSamples 72 zs.length; p.2.accBlock f p.1 else c.accBlock f zs

/-- The mix of one sparse tap in the window in progress (R89 to R91). A source whose ring is gone renders silence (R60). -/
def Mach.mixTap (x : Mach) (e : Nat × Tap) : Mach :=
  let c := x.c
  let p := c.get R.WIN_TICK_COUNT % 2
  let pos := c.tickPos 0
  let s := c.winSamples
  let t := tapRec x.m.loft e.1 p
  let ring := c.ringOf e.2.src
  let r := ring.getD {}
  let top := match ring with | some r => c.dMax (c.ringLen e.2.src r) * 2 ^ 15 | none => 2 ^ 32
  let o := t.run r top s pos.1 pos.2 (List.range s) t.airY
  let l := if t.air then x.m.loft.wrN (e.1 + 12) 4 (ux 32 o.2) else x.m.loft
  let l := if c.get R.WIN_TICK_PHASE == c.get R.WIN_TICK_LEN_ACTIVE then tapReached e.1 p l else l
  Mach.tapClamp { c := c.objBlock (tapObj e.1) e.2.feed o.1, m := { x.m with loft := l } } e.1 11 (t.clamps top s pos.1 pos.2)

/-- The sample of a near window at delay `d` for output sample `j` of `s` (R94, R97). -/
def Near.point (n : Near) (slot : Nat) (m : Mem) (s j d : Nat) : Int :=
  let k := d + s - 1 - j
  if n.fill ≤ k || 4096 ≤ k then 0
  else sx 32 (m.rdN (slot / 64 * 0x400000 + slot % 64 * 0x4000 + 4 * ((n.next + 4095 - k) % 4096)) 4)

/-- The mix of one dense tap in the window in progress (R89 to R91): a changed delay jumps. -/
def Mach.mixDense (x : Mach) (slot f : Nat) : Mach :=
  let c := x.c
  let p := c.get R.WIN_TICK_COUNT % 2
  let pos := c.tickPos 0
  let s := c.winSamples
  let n := kgetD c.src.near slot {}
  let l := x.m.loft
  let a := denseAt slot f
  let g0 := sx 24 (l.rdN (a + 4) 4)
  let g1 := sx 24 (l.rdN (a + 8 + 4 * p) 4)
  let d0 := l.rdN a 2
  let d1 := l.rdN (a + 0x10 + 2 * p) 2
  let base := slot / 64 * 0x400000 + slot % 64 * 0x4000
  let w := l.filter (fun e => base ≤ e.1 && e.1 < base + 0x4000)
  let zs := (List.range s).map (fun j =>
    let q := pos.1 + j
    let new := n.point slot w s j d1
    rampAt g0 g1 q pos.2 * (if d0 = d1 then new else crossFade (n.point slot w s j d0) new q pos.2))
  let l := if c.get R.WIN_TICK_PHASE == c.get R.WIN_TICK_LEN_ACTIVE then missMixDense a p true l else l
  { c := c.objBlock n.obj f zs, m := { x.m with loft := l } }

/-! ## Where the kit's programs run (R77, R147) -/

/-- Whether the kit's program of a yard can run: in force, not halted, with a powered stable. -/
def Ctl.kitOn (c : Ctl) (y : Nat) : Bool :=
  (match (c.seq y).active with | some g => g.kit | none => false) && c.is R.YARD_STATUS_SEQ_RUN y &&
    (List.range 4).any (fun i => c.stablePowered (4 * y + i))

/-- Whether a yard's image is the kit's, running or not. -/
def Ctl.kitImage (c : Ctl) (y : Nat) : Bool := match (c.seq y).active with | some g => g.kit | none => false

/-- Whether an object of the bank in force sounds: FADING_IN, ACTIVE, FADING_OUT, or SHED until its ramp ends (R47). -/
def Ctl.sounds (c : Ctl) (o : Nat) : Bool :=
  let st := c.get R.OBJ_STATE o
  (2 ≤ st && st ≤ 4) || cget c.ledg.shedRamp o != 0

/-- A word of the loft is poisoned within a range (R156). -/
def Ctl.loftBad (c : Ctl) (a n : Nat) : Bool := c.fabr.loftPoison.any (fun w => a ≤ w && w < a + n)

/-- The sparse taps that the mix jobs of a yard render. -/
def Ctl.tapsToMix (c : Ctl) (y : Nat) : List (Nat × Tap) :=
  c.src.taps.filter (fun e => e.1 / 0x400000 == y && (e.2.old || c.sounds (tapObj e.1)))

/-- The dense slots that the mix jobs of a yard render. -/
def Ctl.slotsToMix (c : Ctl) (y : Nat) : List (Nat × Near) :=
  c.src.near.filter (fun e => e.1 / 64 == y && (e.2.left != 0 || c.sounds e.2.obj))

/-- The objects of a yard whose mix the kit completes in this window: all that sound, but for those whose records read poisoned. -/
def Ctl.kitCovers (c : Ctl) (y : Nat) : List Nat :=
  let old := c.tab.oldObjs.map (·.idx)
  let objs := (c.liveObjs.filter c.sounds) ++ old
  let bad := ((c.tapsToMix y).filter (fun e => c.loftBad e.1 48)).map (fun e => tapObj e.1) ++
    ((c.slotsToMix y).filter (fun e => c.loftBad (denseAt e.1 0) 0x4800)).map (·.2.obj)
  objs.filter (fun o => (o / 256 == y || (c.slotsToMix y).any (·.2.obj == o)) && !bad.contains o)

/-- The mix of a yard in the window that begins (R77, R147, R148; DESIGN CHOICE, log entry 129: at once). With no program running,
or a frozen DRAM, its orders are missed (R152). -/
def Mach.kitMix (x : Mach) (y : Nat) : Mach :=
  let c := x.c
  let p := c.get R.WIN_TICK_COUNT % 2
  let last := c.get R.WIN_TICK_PHASE == c.get R.WIN_TICK_LEN_ACTIVE
  let taps := c.tapsToMix y
  let slots := (c.slotsToMix y).flatMap (fun e => e.2.taps.map (fun f => (e.1, e.2.obj, f.1)))
  if !c.kitImage y then x
  else
    let ok := if (c.seq y).kitRun && c.get R.DRAM_STATUS_MODE != 3 then c.kitCovers y else []
    let x := taps.foldl (fun (x : Mach) e => if ok.contains (tapObj e.1) then x.mixTap e
      else { x with m := { x.m with loft := missMixTap e.1 p last x.m.loft } }) x
    let x := slots.foldl (fun (x : Mach) e => if ok.contains e.2.1 then x.mixDense e.1 e.2.2
      else { x with m := { x.m with loft := missMixDense (denseAt e.1 e.2.2) p last x.m.loft } }) x
    let t := x.c.yard y
    { x with c := if ok.isEmpty then x.c else x.c.setYard y { t with covered := ok ++ t.covered } }

/-- The mix of every yard. -/
def Mach.kitMixAll (x : Mach) : Mach := (List.range 4).foldl Mach.kitMix x

/-! ## The tick boundary (R47, R91, R92, R152) -/

/-- Every tap whose last tick has ended, and every one of an object that sounds no more, ends; the others come nearer to it. -/
def Mach.tapsAge (x : Mach) : Mach :=
  let c := x.c
  let keep := fun (e : Nat × Tap) => e.2.left != 1 && (e.2.old || c.sounds (tapObj e.1) || c.get R.OBJ_STATE (tapObj e.1) == 1)
  let gone := c.src.taps.filter (fun e => !keep e)
  let near := c.src.near.map (fun (e : Nat × Near) =>
    (e.1, { e.2 with taps := (e.2.taps.filter (fun t => t.2 != 1)).map (fun t => (t.1, t.2 - 1)) }))
  let taps := (c.src.taps.filter keep).map (fun e => (e.1, { e.2 with left := e.2.left - 1 }))
  let c := { c with src := { c.src with taps := taps, near := near } }
  let c := c.each (gone.map (fun e => tapObj e.1)).dedup Ctl.showTaps
  { c := c, m := { x.m with loft := gone.foldl (fun m e => m.wrN e.1 4 0) x.m.loft } }

/-- Whether an object's shedding ramp runs across the tick that begins (R47). -/
def Ctl.shedNow (c : Ctl) (o : Nat) : Bool := cget c.ledg.shedRamp o == 1

/-- G_T = 0 and D_T = D_CUR in set `p` of the live sparse record at loft byte `a`. -/
def shedTap (p a : Nat) (m : Mem) : Mem :=
  if bit (m.rdN a 4) 10 then copyWord (m.wrN (a + 0x10 + 16 * p) 4 0) (a + 8) (a + 0x14 + 16 * p) else m

/-- G_T = 0 and D_T = D_CUR in set `p` of the dense record at loft byte `a`. -/
def shedDense (p a : Nat) (m : Mem) : Mem := (m.wrN (a + 8 + 4 * p) 4 0).wrN (a + 0x10 + 2 * p) 2 (m.rdN a 2)

/-- The objects shed at a decision ramp to silence in the tick that begins, whatever the laws have computed (R47): the yard
writes G_T = 0 and D_T = D_CUR into set `p` of every tap record they have. -/
def Ctl.shedRecords (c : Ctl) (p : Nat) (m : Mem) : Mem :=
  let objs := ((c.ledg.shedRamp.map (·.1)).filter c.shedNow)
  let m := (objs.filter (fun o => c.get R.OBJ_LAW o == 0)).foldl (fun m o =>
    (List.range 48).foldl (fun m t => shedTap p (tapAt o t) m) m) m
  (c.src.near.filter (fun e => e.2.left == 0 && c.shedNow e.2.obj)).foldl (fun m e =>
    c.enabledFeeds.foldl (fun m f => shedDense p (denseAt e.1 f) m) m) m

/-- The same for the records that the kit's programs keep, which leave with that tick. -/
def Mach.shedTargets (x : Mach) (p : Nat) : Mach :=
  let shed := x.c.shedNow
  let x1 := (x.c.src.taps.filter (fun e => !e.2.old && shed (tapObj e.1))).foldl (fun x e => x.tapLeave p 1 (e.1 + 8) e) x
  (x.c.src.near.filter (fun e => e.2.left == 0 && shed e.2.obj)).foldl (fun x e =>
    e.2.taps.foldl (fun x t => x.denseLeave e.1 p 1 0 t) x) x1

/-- The laws of a yard's sparse objects for target set `q` (R77): those of `on` get targets, the taps of others leave. -/
def Mach.yardLaws (x : Mach) (t : RegMap) (q y : Nat) : Mach :=
  let live := (t.filter (fun e => e.reg.id == R.OBJ_STATE.id && e.val != 0)).map (·.idx)
  let objs := ((live ++ x.c.src.taps.map (fun e => tapObj e.1)).dedup).filter (fun o => o / 256 == y)
  let x := objs.foldl (fun (x : Mach) o =>
    if lawOn t o && t.get R.OBJ_LAW o == 0 then x.lawObj t q o else x.assignTaps t o q false []) x
  let slots := x.c.src.near.filter (fun e => e.1 / 64 == y)
  slots.foldl (fun (x : Mach) e =>
    let on := e.2.left == 0 && lawOn t e.2.obj
    x.expand t q e.1 (t.get R.OBJ_STATE e.2.obj == 1) (if on then x.c.denseLaw t e.2.obj else [])) x

/-- The records of a yard whose sequencer computes no law (R152): taps hold, and those of leaving objects go to 0. -/
def Mach.yardHold (x : Mach) (q y : Nat) : Mach :=
  let p := 1 - q
  let x := (x.c.src.taps.filter (fun e => e.1 / 0x400000 == y)).foldl (fun (x : Mach) e =>
    if e.2.old || x.c.leaving (tapObj e.1) then x.tapLeave q 2 (e.1 + 0x14 + 16 * p) e
    else { x with m := { x.m with loft := missLawTap e.1 p false x.m.loft } }) x
  (x.c.src.near.filter (fun e => e.1 / 64 == y)).foldl (fun (x : Mach) s =>
    s.2.taps.foldl (fun (x : Mach) f =>
      if s.2.left != 0 || x.c.leaving s.2.obj then x.denseLeave s.1 q 2 (0x10 + 2 * p) f
      else { x with m := { x.m with loft := missLawDense (denseAt s.1 f.1) p false x.m.loft } }) x) x

/-- An object restored inside the last tick fades in across the one that begins (R49): its targets, from the snapshot that it was
restored under, enter set `p`. -/
def Mach.restoredLaws (x : Mach) (old : RegMap) (p : Nat) : Mach :=
  let objs := x.c.liveObjs.filter (fun o => x.c.get R.OBJ_STATE o == 2 && old.get R.OBJ_STATE o == 5)
  objs.foldl (fun (x : Mach) o =>
    if old.get R.OBJ_LAW o = 0 then if x.c.kitOn (o / 256) && (x.c.seq (o / 256)).kitDue then x.lawObj old p o else x
    else match x.c.src.near.find? (fun e => e.2.obj == o && e.2.left == 0) with
      | some e => if x.c.kitOn (e.1 / 64) && (x.c.seq (e.1 / 64)).kitDue then x.expand old p e.1 true (x.c.denseLaw old o) else x
      | none => x) x

/-- The zones that a solve is due for (R77): selected by an EXIT_PULL object that is not IDLE. -/
def Ctl.solveZones (t : RegMap) : List Nat :=
  let objs := (t.filter (fun e => e.reg.id == R.OBJ_STATE.id && e.val != 0 && t.get R.OBJ_LAW e.idx == 1)).map (·.idx)
  (List.range 128).filter (fun z => objs.any (fun o => (snapZones t o).contains z))

/-- What the kit's programs do at a tick boundary, after its snapshot; `old` is the snapshot before it. They then wait for the
next tick boundary (R200), which their watchdog does not outlast. -/
def Mach.kitTick (old : RegMap) (x : Mach) : Mach :=
  if !(List.range 4).any x.c.kitImage then x
  else
    let p := x.c.get R.WIN_TICK_COUNT % 2
    let t := x.c.tab.snap
    let runs := (List.range 4).filter (fun y => x.c.kitOn y && (x.c.seq y).kitDue)
    let x := (x.tapsAge.restoredLaws old p).shedTargets p
    let x := { x with c := x.c.each ((Ctl.solveZones t).filter (fun z => runs.contains (z / 32))) (Ctl.solve · t ·) }
    let x := (List.range 4).foldl (fun (x : Mach) y =>
      if !x.c.kitImage y then x else if runs.contains y then x.yardLaws t (1 - p) y else x.yardHold (1 - p) y) x
    { x with c := x.c.each ((List.range 4).filter x.c.kitImage) (fun c y =>
        c.setSeq y { (c.seq y) with kitDue := c.kitOn y, kitRun := runs.contains y, boundaries := 0 }) }

end Sys2Proof.Machine
end

