-- ==== Sys2Proof/Machine/Resync.lean ====
section
/-! DEFINITION. Resynchronisation of a joining standby (spec/10 R263): the bulk data and the STATE set that an active sends, and what
a standby does with them. -/
namespace Sys2Proof.Machine

/-! ## Words of a register map -/

/-- The addresses of the words that a register map lists, each once. -/
def mapAddrs (m : RegMap) : List Nat :=
  m.foldl (fun l (e : Ent) => if l.contains (e.reg.addrAt e.idx) then l else e.reg.addrAt e.idx :: l) []

/-- The words of a register map that hold a field which a test picks, those fields alone. -/
def mapWords (m : RegMap) (pick : Reg → Bool) : List (Nat × Nat) :=
  (mapAddrs (m.filter (fun e => pick e.reg))).map (fun a =>
    (a, (fieldsAt a).foldl (fun n e => if pick e.1 then n + m.get e.1 e.2 * 2 ^ e.1.lo else n) 0))

/-- A register map whose picked fields are those of the words listed; its other fields stay. A field that no word holds has its
reset value. -/
def takeWords (m : RegMap) (pick : Reg → Bool) (l : List (Nat × Nat)) : RegMap :=
  l.foldl (fun m w => ((fieldsAt w.1).filter (fun e => pick e.1)).foldl (fun m e => m.set e.1 e.2 (e.1.of w.2)) m)
    (m.filter (fun e => !pick e.reg))

/-! ## What bulk data covers -/

/-- The read-only fields that go with the tables in force: bank validity and activity, fades, pending swaps, open shutters and the
flags of zones with a plan (R263; which of them is DEDUCED, log entry 19). -/
def bulkShown : List Reg :=
  [R.CORR_FEED_VALID_A, R.CORR_FEED_VALID_B, R.CORR_FEED_ACTIVE, R.CORR_FEED_FADING, R.CORR_FEED_FADE_LEFT,
   R.CORR_FEED_PENDING, R.CORR_FEED_PEND_TARGET, R.SHUT_OPEN, R.ZONE_ALARM]

/-- Whether a field is part of the bulk data: the RW fields of the mirrored blocks, what the OBJ and SRC tables show, and
`bulkShown` (R248, R263). -/
def Reg.bulk (r : Reg) : Bool :=
  mirroredBlock r.addr &&
    (r.acc == .rw || (0x200000 ≤ r.addr && r.addr < 0x210000) || (0x250000 ≤ r.addr && r.addr < 0x260000) ||
      bulkShown.any (fun q => q.id == r.id))

/-- Whether a field is one of the guard's readings, which the STATE set carries. -/
def Reg.guard (r : Reg) : Bool := r.addr / 0x1000 == 0x244 && r.acc != .rw

/-! ## The active's side -/

/-- The tables part. -/
def Ctl.bulkTables (c : Ctl) : HngTables :=
  { scene := c.get R.SYS_SCENE_ID, words := mapWords c.regs Reg.bulk, snap := mapWords c.tab.snap (fun _ => true),
    slots := c.src.near.map (fun (e : Nat × Near) => (e.1, e.2.obj)),
    plans := ((List.range 64).map (fun p => (p, c.get R.PLAN_STATE p))).filter (fun e => e.2 != 0),
    objPh := c.tab.objPh, fadeReq := c.tab.fadeReq, reAct := c.tab.reAct, ramps := c.tab.ramps, oldObjs := c.tab.oldObjs,
    mesh := c.tab.mesh, grid := c.tab.grid, fades := c.corr.fades, starts := c.corr.starts, pend := c.corr.pend,
    bqStaged := c.corr.bqStaged, bqForce := c.corr.bqForce }

/-- The stage part. -/
def Ctl.bulkStage (c : Ctl) : HngStage :=
  { stage := c.get R.SYS_SCENE_STAGE, id := c.get R.SYS_STAGE_ID, words := mapWords c.tab.stage (fun _ => true),
    hasPlan := c.tab.stageHasPlan, progs := c.tab.stageProg, mesh := c.tab.stageMesh, grid := c.tab.stageGrid,
    switchMin := c.tab.switchMin }

/-- The bulk data as parts with their numbers. -/
def Mach.bulkParts (x : Mach) : List (Nat × HngBulk) :=
  [(0, .tables x.c.bulkTables), (1, .stage x.c.bulkStage)] ++
    (List.range 4).filterMap (fun y => (x.imageNow y).map (fun p => (2 + y, .image p))) ++
    x.validBanks.map (fun l => (8 + 2 * l.feed + l.bank, .bank l (x.c.get R.CORR_FEED_ACTIVE l.feed == l.bank)))

/-- The words that a part fills: two for each register word and entry of a list, a quarter of a byte count. -/
def HngBulk.size : HngBulk → Nat
  | .tables t => 2 * (t.words.length + t.snap.length + t.slots.length + t.plans.length + t.objPh.length + t.fadeReq.length +
      t.oldObjs.length) + t.mesh.length + t.grid.length + 4 * (t.fades.length + t.starts.length + t.pend.length) +
      6 * (t.bqStaged.length + t.bqForce.length)
  | .stage s => 2 * s.words.length + s.mesh.length + s.grid.length +
      s.progs.foldl (fun n p => n + (p.code.length + p.job.length + p.img.data.length) / 4) 0
  | .image p => (p.code.length + p.job.length + p.img.data.length) / 4
  | .bank l _ => l.taps.length + 16

/-- A message of `n` words takes as many frames as they fill, at most 16,384 words each, and SEQ numbers every frame (R245). -/
def Ctl.hngFrames (c : Ctl) (n : Nat) : Ctl :=
  { c with hng := { c.hng with seqOut := (c.hng.seqOut + max 1 ((n + 16383) / 16384)) % 65536 } }

/-- The words of a STATE set, a quarter of a byte count and at least one for each value. -/
def HngState.size (s : HngState) : Nat :=
  (s.loft.length + s.dmem.length) / 4 + 2 * s.zones.length + s.env.length + 4 * s.src.length +
    s.feeds.foldl (fun n e => n + 4 * (e.2.zbq.length + e.2.fbq.length + 1) + 1) 0 + 16 * s.guards.length + s.sigs.foldl (fun n e => n + 8 * e.2.env.length + 32) 0

/-- The words that BULK_RATE allows in a window: a window lasts winS / 48,000 s. -/
def Ctl.bulkWords (c : Ctl) : Nat := c.get R.HNG_TIMING_BULK_RATE * 10 ^ 9 * c.winS / (48000 * 32)

/-- A standby of the group in a sync phase, as its last status said. -/
def Ctl.inPhase (c : Ctl) (s r : Nat) : Bool :=
  bit (c.get R.HNG_STATUS_HEARD) r && c.get R.HNG_PEER_ROLE r == 3 && c.get R.HNG_PEER_SYNC r == s

/-- Sends the parts that fit, in order; `total` counts all parts. -/
def Ctl.bulkRun (dst total : Nat) : List (Nat × HngBulk) → Ctl → Ctl
  | [], c => { c with hng := { c.hng with bulkCredit := 0 } }
  | (k, p) :: l, c =>
    if c.hng.bulkCredit < p.size then c
    else
      let h := { c.hng with bulkCredit := c.hng.bulkCredit - p.size, bulkSent := k :: c.hng.bulkSent }
      let pct := 100 * h.bulkSent.length / total
      Ctl.bulkRun dst total l ((({ c with hng := h }.hngFrames p.size).emit (.hingeBulk dst pct p)).set R.HNG_RESYNC_BULK_PCT pct)

/-- An active sends bulk data to the joining standby of the lowest rank, at up to BULK_RATE (R263). -/
def Mach.bulkSend (x : Mach) : Mach :=
  let c := x.c
  match c.hngRanks.find? (c.inPhase 1) with
  | none => { x with c := { c with hng := { c.hng with bulkTo := none, bulkSent := [], bulkCredit := 0 } } }
  | some r =>
    let h := if c.hng.bulkTo = some r then c.hng else { c.hng with bulkTo := some r, bulkSent := [], bulkCredit := 0 }
    let parts := x.bulkParts
    let keys := parts.map (·.1)
    let h := { h with bulkSent := h.bulkSent.filter keys.contains, bulkCredit := h.bulkCredit + c.bulkWords }
    let todo := parts.filter (fun p => !h.bulkSent.contains p.1)
    { x with c := Ctl.bulkRun r parts.length todo { c with hng := h } }

/-- The STATE set at the boundary of content window C (R263). -/
def Mach.stateSet (x : Mach) : HngState :=
  let c := x.c
  let record := fun (e : Nat × Byte) => 0x100000 ≤ e.1 % 0x400000 && e.1 % 0x400000 < 0x2B0000
  let dmem := (List.range 4).flatMap (fun y =>
    (x.m.dmem.filter (fun e => c.seqHalf y ≤ e.1 && e.1 < c.seqHalf y + 0x20000)).map (fun e => (y * 0x20000 + (e.1 - c.seqHalf y), e.2)))
  { cwin := c.winNo, feeds := c.corr.feeds, guards := c.corr.zones, zones := mapWords c.regs Reg.guard, src := c.src.bq, sigs := c.corr.sigs,
    loft := x.m.loft.filter record, taps := c.src.taps, dense := c.src.near.map (fun (e : Nat × Near) => (e.1, e.2.taps)), dmem := dmem, env := (List.range 4).map (c.get R.LEDG_ENV_ENV ·) }

/-- An active sends one STATE set to each standby that has come into CONVERGE (R263). -/
def Mach.stateSend (x : Mach) : Mach :=
  let c := x.c
  let there := c.hngRanks.filter (c.inPhase 2)
  let new := there.filter (fun r => !c.hng.stateTo.contains r)
  let c := { c with hng := { c.hng with stateTo := there } }
  { x with c := c.each new (fun c r => (c.hngFrames x.stateSet.size).emit (.hingeState r x.stateSet)) }

/-- What an active sends for resynchronisation at a window boundary, over a link that is UP (R244, R263). -/
def Mach.resync (x : Mach) : Mach :=
  if x.c.role != 2 || (!x.c.is R.HNG_STATUS_H0_UP && !x.c.is R.HNG_STATUS_H1_UP) then x else x.bulkSend.stateSend

/-! ## The standby's side -/

/-- The rings of a standby follow its SRC table: one for each enabled entry, empty where its allocation differs. -/
def Ctl.ringsFollow (c : Ctl) : Ctl :=
  c.each (List.range 256) (fun c i =>
    let n := ringAlloc (c.get R.SRC_RING i)
    let rings := if !c.is R.SRC_EN i then kdel c.src.rings i
      else match kget? c.src.rings i with
        | some r => if r.alloc = n then c.src.rings else kput c.src.rings i { alloc := n }
        | none => kput c.src.rings i { alloc := n }
    { c with src := { c.src with rings := rings } })

/-- The tables part is written (R263). -/
def Ctl.tablesTake (c : Ctl) (t : HngTables) : Ctl :=
  let regs := takeWords c.regs Reg.bulk t.words
  let near := t.slots.foldl (fun (m : Keyed Near) e =>
    match kget? c.src.near e.1 with
    | some n => kput m e.1 (if n.obj = e.2 then n else { obj := e.2, src := regs.get R.OBJ_SRC e.2 })
    | none => kput m e.1 { obj := e.2, src := regs.get R.OBJ_SRC e.2 }) []
  let c := { c with
    regs := regs
    src := { c.src with near := near }
    tab := { c.tab with snap := takeWords [] (fun _ => true) t.snap, objPh := t.objPh, fadeReq := t.fadeReq, reAct := t.reAct,
                        ramps := t.ramps, oldObjs := t.oldObjs, mesh := t.mesh, grid := t.grid }
    corr := { c.corr with fades := t.fades, starts := t.starts, pend := t.pend, bqStaged := t.bqStaged, bqForce := t.bqForce } }
  let c := (c.set R.SYS_SCENE_ID t.scene).ringsFollow
  ((c.each t.plans (fun c e => c.planMirror e.1 e.2)).showFades).ledgShow

/-- The stage part is written. -/
def Mach.stageTake (x : Mach) (s : HngStage) : Mach :=
  let x := x.loadProgs s.progs
  let c := { x.c with tab := { x.c.tab with
    stage := takeWords [] (fun _ => true) s.words, stageHasPlan := s.hasPlan, stageProg := s.progs, stageMesh := s.mesh,
    stageGrid := s.grid, switchMin := s.switchMin.map (winAdd · 1) } }
  { x with c := ((c.set R.SYS_SCENE_STAGE s.stage).set R.SYS_STAGE_ID s.id).set R.SYS_SCENE_PENDING (b2n s.switchMin.isSome) }

/-- A standby writes a part of the bulk data (R263). -/
def Mach.bulkTake (x : Mach) : HngBulk → Mach
  | .tables t => { x with c := x.c.tablesTake t }
  | .stage s => x.stageTake s
  | .image p =>
    let x := x.loadProgs [p]
    { x with c := x.c.each (yardsOf p.yards) Ctl.imageForce }
  | .bank l active =>
    let x := x.bankPut l
    if active then { x with c := x.c.set R.CORR_FEED_ACTIVE l.bank l.feed } else x

/-- BULK_FRAME_RECEIVE (R263): a part of the bulk data, and how much has been sent. -/
def bulkFrameReceive (link : Nat) (h : HngHead) (part : HngBulk) (pct : Nat) (x : Mach) : Mach :=
  let p := x.c.hngAccept link h
  let c := p.1
  if !p.2 || c.role != 3 || (c.peer h.src).differs || c.get R.HNG_STATUS_SYNC != 1 then { x with c := c }
  else
    let y := { x with c := c }.bulkTake part
    { y with c := { y.c with hng := { y.c.hng with bulkDone := decide (100 ≤ pct) } }.set R.HNG_RESYNC_BULK_PCT (min pct 100) }

/-- A feed's biquad and limiter states are those of a STATE set, the rest is the standby's own. -/
def FeedSt.take (own set : FeedSt) : FeedSt := { own with zbq := set.zbq, fbq := set.fbq, lift := set.lift, gr := set.gr }

/-- The STATE set of content window C is loaded at the standby's boundary C + 1 (R263). -/
def Mach.stateApply (x : Mach) : Mach :=
  match x.c.hng.stateSet with
  | none => x
  | some s =>
    if x.c.role != 3 || x.c.winNo != winAdd s.cwin 1 then x
    else
      let c := x.c
      let keys := (c.corr.feeds.map (·.1) ++ s.feeds.map (·.1)).dedup
      let near := c.src.near.map (fun (e : Nat × Near) => (e.1, { e.2 with taps := kgetD s.dense e.1 [] }))
      let feeds := keys.foldl (fun (m : Keyed FeedSt) f => kput m f ((kgetD c.corr.feeds f {}).take (kgetD s.feeds f {}))) []
      let c := { c with corr := { c.corr with feeds := feeds, zones := s.guards, sigs := s.sigs }, src := { c.src with bq := s.src, taps := s.taps, near := near },
                        regs := takeWords c.regs Reg.guard s.zones,
                        hng := { c.hng with stateSet := none, stateDone := true } }
      let c := c.each (s.env.take 4).zipIdx (fun c e => c.set R.LEDG_ENV_ENV e.1 e.2)
      let loft := (List.range 4).foldl (fun (m : Mem) y => m.wipe (y * 0x400000 + 0x100000) 0x1B0000) x.m.loft
      let dmem := (List.range 4).foldl (fun (m : Mem) y => m.wipe (c.seqHalf y) 0x20000) x.m.dmem
      let put := fun (m : Mem) (e : Nat × Byte) => m.wr e.1 e.2
      { x with c := c, m := { x.m with
        loft := s.loft.foldl put loft
        dmem := s.dmem.foldl (fun (m : Mem) e => m.wr (c.seqHalf (e.1 / 0x20000) + e.1 % 0x20000) e.2) dmem } }

end Sys2Proof.Machine
end

