-- ==== Sys2Proof/Machine/Boundary.lean ====
section
/-! DEFINITION. The instants at which many engines act together: the window boundary, the tick boundary and the guard point
(R19 to R25), and the two commands that replay register writes: the hinge journal (R249) and the auto-arm profile (R442). -/
namespace Sys2Proof.Machine

/-! ## The window boundary -/

/-- The block staged in the window that ends for a SRC entry: from its port, or from the fabric's parts (R59, R284). -/
def Ctl.stageOne (p : Ctl × List FwdBlock) (i : Nat) : Ctl × List FwdBlock :=
  let c := p.1
  let q := if c.get R.SRC_PORT i = 10 then c.flowStage i
    else
      let b := c.portBlock (c.get R.SRC_PORT i) (c.get R.SRC_CHAN i)
      (c, b.1, b.2)
  (q.1, p.2 ++ [⟨i, q.2.2, q.2.1⟩])

/-- The blocks staged for every enabled source. -/
def Ctl.stageAll (c : Ctl) : Ctl × List FwdBlock :=
  ((List.range 256).filter (fun i => c.is R.SRC_EN i)).foldl Ctl.stageOne (c, [])

/-- A staged block by source, zeros where none is. -/
def blockOf (s : Nat) (l : List FwdBlock) (i : Nat) : List Int :=
  ((l.find? (fun b => b.src == i)).map (·.samples)).getD (List.replicate s 0)

/-- The block staged in the last window for an old ring of a switch, from the port channel or the global source that its entry
had (R75). -/
def Ctl.oldBlock (c : Ctl) (r : Ring) : List Int :=
  if r.port = 10 then (c.flowWhole r.gsrc).getD (List.replicate c.winSamples 0) else (c.portBlock r.port r.chan).1

/-- The ring writers (R94): this module's own blocks, or on a standby those of the active (R246); what the outputs play of
sources follows the same blocks. -/
def Ctl.ringWriters (c : Ctl) (own : List FwdBlock) : Ctl :=
  let p := if c.role = 3 then c.hngBlocks ((List.range 256).filter (fun i => c.is R.SRC_EN i)) else (c, own)
  let c := p.1.oldRingsBoundary p.1.oldBlock
  let c := c.each p.2 (fun c b => (c.histPut b.src b.samples).ringBoundary b.src b.samples b.link)
  c.keepOwn own

/-- What the guard point took plays from this boundary on. -/
def Ctl.playOut (c : Ctl) : Ctl :=
  { c with corr := { c.corr with feeds := c.corr.feeds.map (fun (e : Nat × FeedSt) => (e.1, { e.2 with ready := e.2.out, out := [] })) } }

/-- The per-window flags, counts and once-a-window events of the engines begin anew; the counts of DRAM lines are shown. -/
def Ctl.newWindow (c : Ctl) : Ctl :=
  let c := c.each (List.range 4) (fun c k => c.set R.DRAM_CLASS_LINES_LINES (cget c.dram.lines k) k)
  { c with
    dram := { c.dram with lines := [], once := [] }
    amp := { c.amp with sent := [], once := [] }
    corr := { c.corr with clipped := false }
    fire := { c.shutLatch.fire with opening := [], closing := [] }
    net := { c.net with ports := c.net.ports.map (fun (e : Nat × PortSt) => (e.1, { e.2 with rxOnce := false })) } }

/-- What the ledger has shed or restored of the blocks follows their enables: ports and links stop with their power. -/
def Mach.shedSync (x : Mach) : Mach :=
  let x := (List.range 4).foldl (fun (x : Mach) p =>
    if !x.c.is R.NET_CFG_EN p && x.c.is R.NET_STATUS_LINK_UP p then x.portDown p else x) x
  let c := x.c.each (List.range 8) (fun c l =>
    let on := bit (c.get R.AMP_CTRL_EN) l
    if on == c.is R.AMP_LINK_STATE l then c else c.ampState l (if on then 1 else 0))
  { x with c := c.each (List.range 4) (fun c g =>
      if c.is R.FAB_GATE_UP g && !bit (c.get R.FAB_CFG_GATE_EN) g then c.gateDown g else c) }

/-- An accepted ARM waits for this boundary (R441). -/
def Ctl.armBoundary (c : Ctl) : Ctl := { c with boot := { c.boot with armDue := c.boot.armPend.isSome } }

/-- The render die's strobe is back after a loss, once the die is not held hot (R234). -/
def Ctl.dieBack (c : Ctl) : Ctl :=
  if c.fire.dieLost && !c.boot.dieHot then { c with fire := { c.fire with dieLost := false } }.faults else c

/-- The window that begins: its number and tick phase, the phase error and the audio trim, and the ledger (R19 to R21, R43,
R45, R306, R417). -/
def Ctl.openWindow (c : Ctl) (mean peak battMv busMv : Nat) : Ctl :=
  let c := if c.win.awaiting then c else c.measure mean peak battMv busMv
  let c := ((c.countWindow.phaseWindow.raise Ev.WIN_START).phaseError).audioTrim
  c.evaluate.background c.winNo

/-- What the engines of the module do at the boundary, in the window that has begun. -/
def Ctl.engines (c : Ctl) (own : List FwdBlock) : Ctl :=
  let c := ((c.ringWriters own).sendInput.flowLaunch).flowClear.ctrlDrain
  let c := c.fadesBoundary.each (List.range 4) (fun c y => (c.yardBoundary y).seqBoundary y)
  (if c.role = 3 then c else c.handBackDue).newWindow.hngBoundary

/-- WINDOW_BOUNDARY, with what the window that ends has found in error and measured. While windows do not run there is no boundary; a STOP takes
effect here. -/
def windowBoundary (ecc : List (Fin 4 × ScrubHit)) (mean peak battMv busMv : BitVec 16) (x : Mach) : Mach :=
  let c := x.c
  if !c.is R.WIN_STATUS_RUN then x
  else if c.win.stopPending then { x with c := c.stopWindows }
  else
    let c := (c.each ecc (fun c e => c.eccHit e.1 e.2)).txKeep.rxBoundary.audBoundary
    let p := c.stageAll
    let c := if p.1.win.awaiting then p.1 else p.1.monChain (blockOf p.1.winSamples p.2)
    let c := c.openWindow mean.toNat peak.toNat battMv.toNat busMv.toNat
    let c := (c.engines p.2).playOut.monBoundary.armBoundary.dieBack.lineShow
    let x := Mach.shedSync (Mach.resync (Mach.stateApply (Mach.nearPut { x with c := c })))
    if x.c.tab.tickDue then x else x.kitMixAll

/-! ## The tick boundary -/

/-- The tick boundary in progress, on the control state: the ramps, the updates of global objects and the lifecycle, then
the snapshot, the guard's gains, the mirror and the plans (R22, R63, R67, R68, R74, R118, R128, R223). -/
def Ctl.tick (c : Ctl) : Ctl :=
  let c := (c.raise Ev.WIN_TICK).rampTick
  let c := c.mirrorUpdate
  let c := c.each c.liveObjs Ctl.objTick
  let c := c.snapshot.bqSnapshot.guardTick.mirrorSend.planService
  let solves := c.src.solves.map (fun (e : Nat × SolveInfo) => (e.1, { e.2 with fallback := e.2.want }))
  ({ c with src := { c.src with clamped := [], solves := solves } }).ledgShow

/-- The sequencers of the yards that have an image, started again after a clock or die loss (R444). -/
def Mach.seqAgain (x : Mach) : Mach :=
  if !x.c.boot.seqDue then x
  else
    let x := (List.range 4).foldl Mach.seqStart x
    { x with c := { x.c with boot := { x.c.boot with seqDue := false } } }

/-- TICK_BOUNDARY: what a window boundary at tick phase 0 does once; the kit's laws compute the next tick's targets, and its mix
jobs take the window that begins. -/
def tickBoundary (x : Mach) : Mach :=
  if !x.c.tab.tickDue then x
  else
    let c := x.c.tick
    let c := { c with tab := { c.tab with tickDue := false } }
    let m := { x.m with loft := c.shedRecords (c.get R.WIN_TICK_COUNT % 2) x.m.loft }
    ((Mach.seqAgain { x with c := c, m := m }).kitTick x.c.tab.snap).kitMixAll

/-! ## The guard point -/

/-- The control state as the outputs will read it in the next window: each feed's block is the one just taken (R253). -/
def Ctl.outView (c : Ctl) : Ctl :=
  { (c.playOut.set R.HNG_STATUS_ROLE 0) with fire := { c.fire with opening := [], closing := [] } }

/-- The CRC of an amplifier link's samples and shutter bits (R253). -/
def Ctl.linkCrc (v : Ctl) (l : Nat) : Nat :=
  let fs := (List.range v.linkChans).map (l * v.linkChans + ·)
  let cols := fs.map v.feedPlay
  let samples := (List.range v.winSamples).flatMap (fun j => cols.flatMap (fun b => leBytes 3 (ux 32 (b.getD j 0) / 256)))
  let bits := bitOctets 12 (fs.map (fun f => bit (v.get R.SHUT_OPEN (f / 32)) (f % 32)))
  crc32 (samples ++ bits.map (BitVec.ofNat 8))

/-- The CRC of the other outputs: the output channels in order, then the AES67 transmit channels (R253). -/
def Ctl.otherCrc (v : Ctl) : Nat :=
  crc32 (((List.range 402).map v.outPlay ++ (List.range 128).map v.txPlay).flatMap (fun b => b.flatMap (fun z => leBytes 4 (ux 32 z))))

/-- The nine CRCs of the content window just rendered, kept for eight windows (R253). -/
def Ctl.crcTake (c : Ctl) : Ctl :=
  if c.role = 0 then c
  else
    let v := c.outView
    let crcs := (List.range 8).map v.linkCrc ++ [v.otherCrc]
    let kept := (kput c.hng.crcs c.cwin crcs).filter (fun (e : Nat × List Nat) => (c.cwin + 2 ^ 32 - e.1) % 2 ^ 32 < 8)
    { c with hng := { c.hng with crcs := kept } }

/-- GUARD_POINT: `late` lists the feeds whose stage jobs have not ended (R23, R149). -/
def guardPoint (late : List (Fin 768)) (x : Mach) : Mach :=
  if !x.c.is R.WIN_STATUS_RUN || x.c.win.awaiting then x
  else
    let x := x.yardGuard (late.map (·.val))
    let c := x.c.guardSample.crcTake.hngGuard
    { x with c := if c.role = 3 then c else c.confirmCount.returnCheck }

/-! ## The hinge journal (R249 to R252) -/

/-- The first word of an OBJ entry as the journal gives it: the admission is not decided again (R42). -/
def Ctl.objJournal (c : Ctl) (o d : Nat) : Ctl :=
  let v := R.OBJ_ACT_REQ.of d
  let was := c.get R.OBJ_ACT_REQ o
  let c := c.store ((objWord 0).filter (fun r => r.id != R.OBJ_ACT_REQ.id)) o d
  if v = was then c
  else if v = 0 then c.objDeactivate o
  else
    let st := c.get R.OBJ_STATE o
    let c := c.set R.OBJ_ACT_REQ 1 o
    if c.is R.OBJ_ACT_AT o && (st = 0 || st = 6) then c.objState o 7
    else if st = 4 then { c with tab := { c.tab with reAct := o :: c.tab.reAct.filter (· != o) } }
    else if st = 2 || st = 3 then c.objFade o 0
    else c

/-- A shedding or a restore as the active journalled it (R42, R252): a block of step 0 by its LEDG_COST index, the class-D
allowance that step 1 leaves, or an object (log entry 139). -/
def Ctl.journalShed (c : Ctl) (shed : Bool) (step i : Nat) : Ctl :=
  if step = 0 then c.blockSet i !shed
  else if step = 1 then c.set R.LEDG_JOB_ALLOW_ALLOW i 3
  else if shed then c.shedObj step i else c.backObj i

/-- One entry of a journal. -/
def Mach.journalOne (x : Mach) (e : JEntry) : Mach :=
  let lift := fun (f : Ctl → Ctl) => ({ x with c := f x.c } : Mach)
  let o := e.loc % 1024
  match e.kind with
  | 0 =>
    let a := 4 * e.loc
    if 0x241000 ≤ a && a < 0x244000 && a % 16 = 0 && bit e.value 30 then lift (·.pendStart ((a - 0x241000) / 16))
    else if 0x200000 ≤ a && a < 0x210000 && a % 64 = 0 then lift (·.objJournal ((a - 0x200000) / 64) e.value) else x.write .keeper a 4 e.value
  | 1 => lift (·.objAdmit o)
  | 2 => lift (fun c => ((c.set R.OBJ_ACT_REQ 0 o).objState o (if c.get R.OBJ_CLASS o = 0 then 6 else 0)).set R.OBJ_LAST 5 o)
  | 3 => lift (·.journalShed true e.value o)
  | 4 => lift (·.journalShed false e.value o)
  | 5 =>
    let w := 0 :: e.value :: e.args
    if e.loc = 0x20 then (sceneLoadCmd 8 x w).x
    else if e.loc = 0x21 then (Ctl.sceneSwitch x (if e.value = 0 then 0 else winAdd e.value 1)).x
    else if e.loc = 0x22 then (programLoadCmd 8 x w).x
    else if e.loc = 0x30 then (planSetCmd x w).x
    else if e.loc = 0x31 then (stormSetCmd x w).x
    else x
  | 6 => lift (·.planMirror o e.value)
  | _ => x

/-- JOURNAL_APPLY: the journal of record w at the standby's boundary w + 1, once; a cut one is not applied (R249). The step
and lean state are the record's (R252). -/
def journalApply (x : Mach) : Mach :=
  let w := (x.c.winNo + 2 ^ 32 - 1) % 2 ^ 32
  match kget? x.c.hng.records w with
  | none => x
  | some r =>
    if x.c.role != 3 || r.overflow then x
    else
      let c := { x.c with hng := { x.c.hng with records := kput x.c.hng.records w { r with journal := [] } },
                          win := { x.c.win with leanWanted := r.lean } }
      let x := r.journal.foldl Mach.journalOne { x with c := c }
      { x with c := (x.c.set R.LEDG_STATUS_STEP r.step).ledgShow }

/-! ## The auto-arm profile (R442) -/

/-- A word of a register map, its RW fields alone. -/
def mapWord (m : RegMap) (a : Nat) : Nat :=
  (fieldsAt a).foldl (fun n e => if e.1.acc == .rw then n + m.get e.1 e.2 * 2 ^ e.1.lo else n) 0

/-- A number put into a rising list. -/
def insNat (a : Nat) : List Nat → List Nat
  | [] => [a]
  | b :: l => if a ≤ b then a :: b :: l else b :: insNat a l

/-- A list in rising order. -/
def sortNat (l : List Nat) : List Nat := l.foldr insNat []

/-- The words that enable what the words before them configure. -/
def enableWord (a : Nat) : Bool :=
  (0x60000 ≤ a && a < 0x70000 && a % 0x4000 = 0) ||
    (0x61400 ≤ a && a < 0x61C00 && a % 32 = 0) || (0x62400 ≤ a && a < 0x62C00 && a % 32 = 0) ||
    (0x50050 ≤ a && a < 0x50060) || a == 0x50000 || a == 0xB0000 || a == 0xF0000 || a == 0x70000 ||
    (0x100000 ≤ a && a < 0x200000 && a % 0x40000 = 0)

/-- Writes the words of a map that a test picks: those that configure, then those that enable, each in rising order but for
the clock settings that need their port. -/
def Mach.profWords (x : Mach) (m : RegMap) (pick : Nat → Bool) : Mach :=
  let l := sortNat ((mapAddrs m).filter pick)
  let isTime := fun (a : Nat) => 0x50000 ≤ a && a < 0x60000
  let late := l.filter enableWord
  (l.filter (!enableWord ·) ++ late.filter (!isTime ·) ++ late.filter isTime).foldl (fun (x : Mach) a => x.write .keeper a 4 (mapWord m a)) x

/-- The blocks of step 1 of R442: those that no later step names. -/
def profFirst (a : Nat) : Bool :=
  a < 0x70000 || (0x90000 ≤ a && a < 0xC0000) || (0xC8000 ≤ a && a < 0xD0000) || (0xE8000 ≤ a && a < 0x200000)

/-- Whether a field belongs to the tables that a scene gives. -/
def Reg.isTable (r : Reg) : Bool := (0x200000 ≤ r.addr && r.addr < 0x230000) || (0x250000 ≤ r.addr && r.addr < 0x260000)

/-- Step 5: the scene and its images are staged as a load leaves them, and the switch is requested. -/
def Mach.profScene (x : Mach) (p : Profile) : Mach :=
  if p.scene = 0 then x
  else
    let x := x.loadProgs p.progs
    let c := { x.c with tab := { x.c.tab with
      stage := p.regs.filter (fun e => e.reg.isTable), stageHasPlan := false, stageProg := p.progs, stageMesh := p.mesh, stageGrid := p.grid } }
    let c := ((c.set R.SYS_SCENE_STAGE 2).set R.SYS_STAGE_ID p.scene).set R.SYS_SCENE_LOAD_FAIL 0
    (Ctl.sceneSwitch { x with c := c } 0).x

/-- Step 6: the correction banks and the active ones. -/
def Mach.profBanks (x : Mach) (p : Profile) : Mach :=
  let x := p.banks.foldl (fun (x : Mach) b => bankLoadComplete { x with c := { x.c with corr := { x.c.corr with load := some b } } }) x
  { x with c := x.c.each p.active (fun c f => c.set R.CORR_FEED_ACTIVE 1 f) }

/-- Step 8: the PLAN table, the storm shadow and COMMIT. -/
def Mach.profStorm (x : Mach) (p : Profile) : Mach :=
  let x := x.profWords p.regs (fun a => (0xE0000 ≤ a && a < 0xE8000) || (0x230000 ≤ a && a < 0x240000))
  { x with c := ({ x.c with storm := { x.c.storm with bqShadow := p.bq } }.showDirty).stormCommitCmd }

/-- The steps of R442 in order. -/
def Mach.profApply (x : Mach) (p : Profile) : Mach :=
  let x := x.profWords p.regs profFirst
  let x := { x with c := x.c.restartWindows }
  let x := x.profWords p.regs (fun a => 0x70000 ≤ a && a < 0x80000)
  let x := x.profWords p.regs (fun a => 0x80000 ≤ a && a < 0x90000)
  let x := { x with c := if x.c.is R.HNG_CFG_MODE then x.c.hngEnable else x.c }
  let x := (x.profScene p).profBanks p
  let x := x.profWords p.regs (fun a => (0xC0000 ≤ a && a < 0xC8000) || (0x240000 ≤ a && a < 0x250000))
  x.profStorm p

/-- PROFILE_APPLY: at boot, with DRAM ready. A profile that does not match is REJECTED; otherwise it is applied and the
keeper begins to attempt ARM. -/
def profileApply (x : Mach) : Mach :=
  match x.c.boot.profile with
  | none => x
  | some p =>
    if x.c.boot.romOnly || x.c.keep.down || x.c.get R.DRAM_STATUS_MODE != 1 || x.c.is R.SYS_BOOT_PROFILE then x
    else if !p.tagOk || p.ident != Config.ident || p.major != Config.firmwareMajor x.c.slotInForce.fw then
      { x with c := (x.c.set R.SYS_BOOT_PROFILE 2).raise Ev.KEEP_STATE }
    else
      let c := { x.c with boot := { x.c.boot with autoFrom := some x.c.time } }
      Mach.profApply { x with c := c.set R.SYS_BOOT_PROFILE 1 } p

end Sys2Proof.Machine
end

