-- ==== Sys2Proof/Machine/CmdHinge.lean ====
section
/-! DEFINITION. Meanings of commands. The hinge (chapter 10). Each is the command's effect under the rule named, over the operations of
the files imported. -/
namespace Sys2Proof.Machine

/-- HNG_ENABLE (R243). -/
def execHngEnable (m : Master) (s : State) : Host.Outcome State Fault Refusal := s.ctl (hngEnable m)

/-- HNG_DISABLE (R260). -/
def execHngDisable (m : Master) (s : State) : Host.Outcome State Fault Refusal := s.ctl (hngDisable m)

/-- HNG_REJOIN (R260). -/
def execHngRejoin (m : Master) (s : State) : Host.Outcome State Fault Refusal := s.ctl (hngRejoin m)

/-- HNG_STAND_DOWN (R260). -/
def execHngStandDown (m : Master) (s : State) : Host.Outcome State Fault Refusal := s.ctl (hngStandDown m)

/-- STAND_DOWN_HANDOVER (R260). -/
def execStandDownHandover (s : State) : Host.Outcome State Fault Refusal := s.ctl standDownHandover

/-- HNG_PROBE (R255). -/
def execHngProbe (m : Master) (s : State) : Host.Outcome State Fault Refusal := s.ctl (hngProbe m)

/-- FORM_WAIT_EXPIRY (R243). -/
def execFormWaitExpiry (s : State) : Host.Outcome State Fault Refusal := s.ctl formWaitExpiry

/-- HINGE_LINK_UP (R244). -/
def execHingeLinkUp (ix : Fin 2) (s : State) : Host.Outcome State Fault Refusal := s.ctl (hingeLinkUp ix)

/-- HINGE_LINK_DOWN (R244). -/
def execHingeLinkDown (ix : Fin 2) (s : State) : Host.Outcome State Fault Refusal := s.ctl (hingeLinkDown ix)

/-- RECORD_RECEIVE (R252). -/
def execRecordReceive (link : Fin 2) (h : HngHead) (payload : List Nat) (s : State) : Host.Outcome State Fault Refusal :=
  s.ctl (recordReceive link.val h payload)

/-- HINGE_INPUT_RECEIVE (R246). -/
def execHingeInputReceive (link : Fin 2) (h : HngHead) (payload : List Nat) (s : State) : Host.Outcome State Fault Refusal :=
  s.ctl (hingeInputReceive link.val h payload)

/-- STATUS_FRAME_RECEIVE (R245). -/
def execStatusFrameReceive (link : Fin 2) (h : HngHead) (info : HngInfo) (s : State) : Host.Outcome State Fault Refusal :=
  s.ctl (statusFrameReceive link.val h info)

/-- BULK_FRAME_RECEIVE (R263). -/
def execBulkFrameReceive (link : Fin 2) (h : HngHead) (part : HngBulk) (pct : Nat) (s : State) : Host.Outcome State Fault Refusal :=
  s.mach (bulkFrameReceive link.val h part pct)

/-- STATE_FRAME_RECEIVE (R263). -/
def execStateFrameReceive (link : Fin 2) (h : HngHead) (set : HngState) (s : State) : Host.Outcome State Fault Refusal :=
  s.ctl (stateFrameReceive link.val h set)

/-- JOURNAL_APPLY (R249). -/
def execJournalApply (s : State) : Host.Outcome State Fault Refusal := s.mach journalApply

/-- PROBE_PERIODIC (R255). -/
def execProbePeriodic (s : State) : Host.Outcome State Fault Refusal := s.ctl probePeriodic

/-- PROBE_RESULT (R255). -/
def execProbeResult (pass : Bool) (s : State) : Host.Outcome State Fault Refusal := s.ctl (probeResult pass)

/-- DUPLEX_DECISION (R256). -/
def execDuplexDecision (s : State) : Host.Outcome State Fault Refusal := s.ctl duplexDecision

/-- TRIPLEX_VOTE (R257). -/
def execTriplexVote (s : State) : Host.Outcome State Fault Refusal := s.ctl triplexVote

/-- HEARTBEAT_LOSS (R258). -/
def execHeartbeatLoss (r : Fin 3) (s : State) : Host.Outcome State Fault Refusal := s.ctl (heartbeatLoss r)

/-- ORPHAN_STAND_DOWN (R261). -/
def execOrphanStandDown (s : State) : Host.Outcome State Fault Refusal := s.ctl orphanStandDown

/-- ORPHAN_PROMOTE (R262). -/
def execOrphanPromote (s : State) : Host.Outcome State Fault Refusal := s.ctl orphanPromote

/-- SYNC_PHASE_ADVANCE (R264). -/
def execSyncPhaseAdvance (s : State) : Host.Outcome State Fault Refusal := s.ctl syncPhaseAdvance

end Sys2Proof.Machine
end

