-- ==== Sys2Proof/Machine/CmdHost.lean ====
section
/-! DEFINITION. Meanings of commands. PCIe, letterboxes, keeper commands and events (chapter 15). Each is the command's effect under the rule named, over the operations of
the files imported. -/
namespace Sys2Proof.Machine

/-- PCIE_LINK_RESET (R389). -/
def execPcieLinkReset (down : Bool) (s : State) : Host.Outcome State Fault Refusal := s.ctl (pcieLinkReset down)

/-- FUNCTION_LEVEL_RESET (R389). -/
def execFunctionLevelReset (fn : Fin 2) (s : State) : Host.Outcome State Fault Refusal := s.ctl (functionLevelReset fn)

/-- LETTERBOX_DATA_WRITE (R391). -/
def execLetterboxDataWrite (m : Master) (n w : Fin 16) (d : BitVec 32) (s : State) : Host.Outcome State Fault Refusal :=
  s.ctl (letterboxDataWrite m n w d.toNat)

/-- LB_GO_WRITE (R391). -/
def execLbGoWrite (m : Master) (n : Fin 16) (s : State) : Host.Outcome State Fault Refusal := s.ctl (lbGoWrite m n)

/-- LB_GO_READ (R391). -/
def execLbGoRead (m : Master) (n : Fin 16) (s : State) : Host.Outcome State Fault Refusal := s.ctl (lbGoRead m n)

/-- LETTERBOX_STANDOFF (R392). -/
def execLetterboxStandoff (p : Fin 8) (s : State) : Host.Outcome State Fault Refusal := s.ctl (letterboxStandoff p)

/-- MBX_ALLOC_WRITE (R394). -/
def execMbxAllocWrite (k : Fin 2) (d : BitVec 32) (s : State) : Host.Outcome State Fault Refusal :=
  s.ctl (mbxAllocWrite k d.toNat)

/-- VERSION (R401). -/
def execVersion (p : Fin 8) (s : State) : Host.Outcome State Fault Refusal := s.mach (keepVersion p)

/-- STATUS (R401). -/
def execStatus (p : Fin 8) (s : State) : Host.Outcome State Fault Refusal := s.mach (keepStatus p)

/-- PLAN_SET (R401). -/
def execPlanSet (p : Fin 8) (s : State) : Host.Outcome State Fault Refusal := s.mach (keepPlanSet p)

/-- STORM_SET (R401). -/
def execStormSet (p : Fin 8) (s : State) : Host.Outcome State Fault Refusal := s.mach (keepStormSet p)

/-- BUDGET_SET (R401). -/
def execBudgetSet (p : Fin 8) (s : State) : Host.Outcome State Fault Refusal := s.mach (keepBudgetSet p)

/-- CAL_RUN_STALL (R401). -/
def execCalRunStall (p : Fin 8) (pass : Bool) (windows : Nat) (s : State) : Host.Outcome State Fault Refusal :=
  s.mach (keepCalStall p pass windows)

/-- LOG_READ (R401). -/
def execLogRead (p : Fin 8) (s : State) : Host.Outcome State Fault Refusal := s.mach (keepLogRead p)

/-- LATCH_BREAK (R405). -/
def execLatchBreak (p : Fin 8) (s : State) : Host.Outcome State Fault Refusal := s.mach (keepLatchBreak p)

/-- SESSION_OPEN (R397). -/
def execSessionOpen (p : Fin 8) (s : State) : Host.Outcome State Fault Refusal := s.mach (keepSessionOpen p)

/-- SESSION_AUTH (R397). -/
def execSessionAuth (p : Fin 8) (s : State) : Host.Outcome State Fault Refusal := s.mach (keepSessionAuth p)

/-- SESSION_CLOSE (R399). -/
def execSessionClose (p : Fin 8) (s : State) : Host.Outcome State Fault Refusal := s.mach (keepSessionClose p)

/-- SESSION_IDLE_TIMEOUT (R399). -/
def execSessionIdleTimeout (p : Fin 8) (s : State) : Host.Outcome State Fault Refusal := s.ctl (sessionIdleTimeout p)

/-- LOCKOUT_END (R399). -/
def execLockoutEnd (p : Fin 8) (s : State) : Host.Outcome State Fault Refusal := s.ctl (lockoutEnd p)

/-- KEEPER_COMMAND_TIMEOUT (R401). -/
def execKeeperCommandTimeout (code : BitVec 8) (s : State) : Host.Outcome State Fault Refusal :=
  s.ctl (keeperCommandTimeout code)

/-- LATCH_READ (R403). -/
def execLatchRead (m : Master) (ix : Fin 64) (s : State) : Host.Outcome State Fault Refusal := s.ctl (latchRead m ix)

/-- LATCH_WRITE (R403). -/
def execLatchWrite (m : Master) (ix : Fin 64) (s : State) : Host.Outcome State Fault Refusal := s.ctl (latchWrite m ix)

/-- EVT_PEND_CLEAR (R411). -/
def execEvtPendClear (g : Fin 24) (d : BitVec 32) (s : State) : Host.Outcome State Fault Refusal := s.ctl (evtPendClear g d)

/-- EVT_EOI (R412). -/
def execEvtEoi (d : BitVec 32) (s : State) : Host.Outcome State Fault Refusal := s.ctl (evtEoi d)

/-- EVT_POP (R414). -/
def execEvtPop (s : State) : Host.Outcome State Fault Refusal := s.ctl evtPop

/-- MSIX_UNMASK (R386). -/
def execMsixUnmask (fn : Fin 2) (v : Option (Fin 8)) (s : State) : Host.Outcome State Fault Refusal :=
  s.ctl (msixUnmask fn v)

/-- PCIE_LINK_UP (R384). -/
def execPcieLinkUp (gen : Fin 4) (width : Fin 3) (en0 en1 : Bool) (s : State) : Host.Outcome State Fault Refusal :=
  s.ctl (pcieLinkUp gen width en0 en1)

end Sys2Proof.Machine
end

