-- ==== Sys2Proof/Machine/CmdLedger.lean ====
section
/-! DEFINITION. Meanings of commands. The power ledger (chapter 02). Each is the command's effect under the rule named, over the operations of
the files imported. -/
namespace Sys2Proof.Machine

/-- MAINS_OK_CHANGE (R33). -/
def execMainsOkChange (ok : Bool) (s : State) : Host.Outcome State Fault Refusal := s.mach (mainsOkAct ok)

/-- BATT_PRESENCE_CHANGE (R33, R470). -/
def execBattPresenceChange (present : Bool) (s : State) : Host.Outcome State Fault Refusal := s.mach (battPresenceAct present)

/-- BATT_LOW_SET (R34). -/
def execBattLowSet (s : State) : Host.Outcome State Fault Refusal := s.ctl battLowSet

/-- BATT_CUTOFF (R34). -/
def execBattCutoff (s : State) : Host.Outcome State Fault Refusal := s.mach battCutoffAct

/-- BATT_PATH_CLOSE (R34). -/
def execBattPathClose (s : State) : Host.Outcome State Fault Refusal := s.ctl battClose

/-- BATT_LOW_CLEAR (R34). -/
def execBattLowClear (s : State) : Host.Outcome State Fault Refusal := s.ctl battLowClear

/-- JOB_ALLOW_WRITE (R39). -/
def execJobAllowWrite (k : Fin 4) (d : BitVec 32) (s : State) : Host.Outcome State Fault Refusal :=
  s.ctl (jobAllowWrite k.val d.toNat)

/-- LEDGER_LIMIT_WRITE (R53). -/
def execLedgerLimitWrite (m : Master) (w : Fin 4) (d : BitVec 32) (s : State) : Host.Outcome State Fault Refusal :=
  s.ctl (ledgLimitWrite m w.val d.toNat)

/-- LEDG_COST_WRITE (R53). -/
def execLedgCostWrite (m : Master) (ix : Fin 54) (d : BitVec 32) (s : State) : Host.Outcome State Fault Refusal :=
  s.ctl (ledgCostWrite m ix.val d.toNat)

/-- CAL_RUN_LEDGER (R44). -/
def execCalRunLedger (p : Fin 8) (costs : Option (List (Nat × Nat))) (windows : Nat) (s : State) : Host.Outcome State Fault Refusal :=
  s.mach (keepCalLedger p costs windows)

end Sys2Proof.Machine
end

