-- ==== Sys2Proof/Machine/CmdMemory.lean ====
section
/-! DEFINITION. Meanings of commands. DRAM and the matrix (chapter 14). Each is the command's effect under the rule named, over the operations of
the files imported. -/
namespace Sys2Proof.Machine

/-- QUEUE_POINTER_MISMATCH (R376). -/
def execQueuePointerMismatch (q : SmallQueue) (s : State) : Host.Outcome State Fault Refusal :=
  s.ctl (queuePointerMismatch q)

/-- DRAM_REQUEST_ACCEPT (R356). -/
def execDramRequestAccept (req : Fin 11) (m : Master) (cls : Fin 4) (addr : BitVec 40) (len : Fin 65) (data : Option (List Byte)) (s : State) : Host.Outcome State Fault Refusal :=
  s.ctl (dramRequestAccept req m cls addr len data)

/-- DRAM_COMMAND_SLOT (R357). -/
def execDramCommandSlot (ch : Fin 2) (refresh : Bool) (banks : BitVec 16) (ecc : EccOut) (s : State) : Host.Outcome State Fault Refusal :=
  s.mach (dramCommandSlot ch refresh banks ecc)

/-- DRAM_AGE_PROMOTE (R358). -/
def execDramAgePromote (ch : Fin 2) (ix : Fin 128) (s : State) : Host.Outcome State Fault Refusal :=
  s.ctl (dramAgePromote ch ix)

/-- DRAM_TEMP_READ (R360). -/
def execDramTempRead (code : Fin 8) (s : State) : Host.Outcome State Fault Refusal := s.ctl (dramTempRead code)

/-- SELF_REFRESH_ENTRY (R363). -/
def execSelfRefreshEntry (s : State) : Host.Outcome State Fault Refusal := s.ctl selfRefreshEntry

/-- SELF_REFRESH_EXIT (R364). -/
def execSelfRefreshExit (added : Fin 4) (s : State) : Host.Outcome State Fault Refusal := s.ctl (selfRefreshExit added)

/-- THAW (R367). -/
def execThaw (m : Master) (d : BitVec 32) (s : State) : Host.Outcome State Fault Refusal := s.mach (thawWrite m d)

/-- MATRIX_GRANT (R372). -/
def execMatrixGrant (t : Fin 16) (reqs : List (Fin 10 × Fin 4)) (s : State) : Host.Outcome State Fault Refusal :=
  s.ctl (matrixGrant t reqs)

/-- MATRIX_AGE_PROMOTE (R372). -/
def execMatrixAgePromote (t : Fin 16) (m : Fin 10) (s : State) : Host.Outcome State Fault Refusal :=
  s.ctl (matrixAgePromote t m)

/-- MATRIX_TIMEOUT (R374). -/
def execMatrixTimeout (t : Fin 16) (m : Master) (a : BitVec 32) (write : Bool) (s : State) : Host.Outcome State Fault Refusal :=
  s.ctl (matrixTimeout t m a write)

/-- DROP_PKT (R378). -/
def execDropPkt (s : State) : Host.Outcome State Fault Refusal := s.ctl dropPkt

end Sys2Proof.Machine
end

