-- ==== Sys2Proof/Machine/CmdNet.lean ====
section
/-! DEFINITION. Meanings of commands. The network ports and time (chapter 12). Each is the command's effect under the rule named, over the operations of
the files imported. -/
namespace Sys2Proof.Machine

/-- NET_LINK_CHANGE (R293). -/
def execNetLinkChange (p : Plug) (up : Bool) (s : State) : Host.Outcome State Fault Refusal := s.mach (netLinkChange p up)

/-- NET_CFG_WRITE (R292). -/
def execNetCfgWrite (p : Fin 4) (d : BitVec 32) (s : State) : Host.Outcome State Fault Refusal :=
  s.mach (netCfgWrite p d.toNat)

/-- FRAME_RECEIVE (R294). -/
def execFrameReceive (p : Fin 4) (f : List Byte) (info : RxInfo) (s : State) : Host.Outcome State Fault Refusal :=
  s.mach (frameReceive p f info)

/-- PTP_MESSAGE_SEND (R302). -/
def execPtpMessageSend (p : Fin 4) (msg : PtpMsg) (s : State) : Host.Outcome State Fault Refusal :=
  s.ctl (ptpMessageSend p msg)

/-- PTP_ANNOUNCE_TIMEOUT (R303). -/
def execPtpAnnounceTimeout (p : Fin 4) (state : Fin 10) (s : State) : Host.Outcome State Fault Refusal :=
  s.ctl (ptpAnnounceTimeout p state)

/-- PAUSE_EXPIRY (R298). -/
def execPauseExpiry (p : Fin 4) (s : State) : Host.Outcome State Fault Refusal := s.ctl (pauseExpiry p)

/-- FRAME_TX_OPPORTUNITY (R296). -/
def execFrameTxOpportunity (p : Fin 4) (frags : Nat) (s : State) : Host.Outcome State Fault Refusal :=
  s.mach (frameTxOpportunity p frags)

/-- PREEMPT_VERIFY_ATTEMPT (R297). -/
def execPreemptVerifyAttempt (p : Fin 4) (ok : Bool) (s : State) : Host.Outcome State Fault Refusal :=
  s.ctl (preemptVerifyAttempt p ok)

/-- NET_VERIFY (R297). -/
def execNetVerify (p : Fin 4) (s : State) : Host.Outcome State Fault Refusal := s.ctl (netVerify p)

/-- NET_STAT_CLR (R299). -/
def execNetStatClr (p : Fin 4) (s : State) : Host.Outcome State Fault Refusal := s.ctl (netStatClr p)

/-- NET_LREP_POP (R308). -/
def execNetLrepPop (p : Fin 4) (s : State) : Host.Outcome State Fault Refusal := s.ctl (netLrepPop p)

/-- STREAM_STALL (R312). -/
def execStreamStall (n : Fin 64) (s : State) : Host.Outcome State Fault Refusal := s.ctl (streamStall n)

/-- RX_STREAM_ENABLE (R310). -/
def execRxStreamEnable (n : Fin 64) (d : BitVec 32) (s : State) : Host.Outcome State Fault Refusal :=
  s.ctl (rxStreamEnable n d.toNat)

/-- TX_STREAM_ENABLE (R315). -/
def execTxStreamEnable (n : Fin 64) (d : BitVec 32) (s : State) : Host.Outcome State Fault Refusal :=
  s.ctl (txStreamEnable n d.toNat)

/-- TX_PACKETIZE (R316). -/
def execTxPacketize (n : Fin 64) (s : State) : Host.Outcome State Fault Refusal := s.ctl (txPacketize n)

/-- TIME_ADJ_WRITE (R318). -/
def execTimeAdjWrite (d : BitVec 32) (s : State) : Host.Outcome State Fault Refusal := s.ctl (timeAdjWrite d.toNat)

/-- TIME_NOW_READ (R300). -/
def execTimeNowRead (s : State) : Host.Outcome State Fault Refusal := s.ctl timeNowRead

end Sys2Proof.Machine
end

