-- ==== Sys2Proof/Machine/CmdPort.lean ====
section
/-! DEFINITION. Meanings of commands. Audio ports and amplifier links (chapter 13). Each is the command's effect under the rule named, over the operations of
the files imported. -/
namespace Sys2Proof.Machine

/-- AUDIO_FRAME_RECEIVE (R321). -/
def execAudioFrameReceive (p : Fin 14) (f : AudFrame) (s : State) : Host.Outcome State Fault Refusal :=
  s.ctl (audioFrameReceive p f)

/-- SRC_CONVERTER_LOCK (R326). -/
def execSrcConverterLock (ix : Fin 8) (s : State) : Host.Outcome State Fault Refusal := s.ctl (srcConverterLock ix)

/-- TDM_FSYNC_LOSS (R328). -/
def execTdmFsyncLoss (ix : Fin 4) (s : State) : Host.Outcome State Fault Refusal := s.ctl (tdmFsyncLoss ix)

/-- AUDIO_FRAME_SEND (R322). -/
def execAudioFrameSend (p : Fin 15) (s : State) : Host.Outcome State Fault Refusal := s.ctl (audioFrameSend p)

/-- EMIC_SUPERVISION_MEASURE (R331). -/
def execEmicSupervisionMeasure (ix : Fin 2) (ohms : Nat) (s : State) : Host.Outcome State Fault Refusal :=
  s.ctl (emicSupervisionMeasure ix ohms)

/-- OUTMAP_APPLY (R332). -/
def execOutmapApply (s : State) : Host.Outcome State Fault Refusal := s.ctl outmapApply

/-- DOWNLINK_FRAME_SEND (R334). -/
def execDownlinkFrameSend (l : Fin 8) (s : State) : Host.Outcome State Fault Refusal := s.mach (downlinkFrameSend l)

/-- BACKCHANNEL_FRAME_RECEIVE (R338). -/
def execBackchannelFrameReceive (l : Fin 8) (violation : Bool) (b : List Byte) (s : State) : Host.Outcome State Fault Refusal :=
  s.ctl (backchannelFrameReceive l violation b)

/-- BACKCHANNEL_COMMA_LOSS (R344). -/
def execBackchannelCommaLoss (l : Fin 8) (s : State) : Host.Outcome State Fault Refusal := s.ctl (backchannelCommaLoss l)

/-- AMP_ADDRESS_ABSENT (R345). -/
def execAmpAddressAbsent (l : Fin 8) (a : Fin 32) (s : State) : Host.Outcome State Fault Refusal :=
  s.ctl (ampAddressAbsent l a)

/-- AMP_CTRL_WRITE (R348). -/
def execAmpCtrlWrite (d : BitVec 32) (s : State) : Host.Outcome State Fault Refusal := s.ctl (ampCtrlWrite d.toNat)

/-- AMP_MSG_SEND (R348). -/
def execAmpMsgSend (l : Fin 8) (addr : Fin 32) (data : BitVec 16) (s : State) : Host.Outcome State Fault Refusal :=
  s.ctl (ampMsgSend l addr data.toNat)

/-- STAGING_SLOT (R321). -/
def execStagingSlot (samples : List (BitVec 24)) (s : State) : Host.Outcome State Fault Refusal :=
  s.ctl (stagingSlot samples)

end Sys2Proof.Machine
end

