-- ==== Sys2Proof/Machine/CmdScalar.lean ====
section
/-! DEFINITION. Meanings of commands. The yard sequencers (chapter 08). Each is the command's effect under the rule named, over the operations of
the files imported. -/
namespace Sys2Proof.Machine

/-- POST (R202). -/
def execPost (k : Issue) (rd ra : Fin 32) (s : State) : Host.Outcome State Fault Refusal := s.mach (seqPost k rd ra)

/-- ADD (R191). -/
def execAdd (k : Issue) (rd ra rb : Fin 32) (s : State) : Host.Outcome State Fault Refusal := s.ctl (seqAdd k rd ra rb)

/-- SUB (R191). -/
def execSub (k : Issue) (rd ra rb : Fin 32) (s : State) : Host.Outcome State Fault Refusal := s.ctl (seqSub k rd ra rb)

/-- AND (R191). -/
def execAnd (k : Issue) (rd ra rb : Fin 32) (s : State) : Host.Outcome State Fault Refusal := s.ctl (seqAnd k rd ra rb)

/-- OR (R191). -/
def execOr (k : Issue) (rd ra rb : Fin 32) (s : State) : Host.Outcome State Fault Refusal := s.ctl (seqOr k rd ra rb)

/-- XOR (R191). -/
def execXor (k : Issue) (rd ra rb : Fin 32) (s : State) : Host.Outcome State Fault Refusal := s.ctl (seqXor k rd ra rb)

/-- SLL (R191). -/
def execSll (k : Issue) (rd ra rb : Fin 32) (s : State) : Host.Outcome State Fault Refusal := s.ctl (seqSll k rd ra rb)

/-- SRL (R191). -/
def execSrl (k : Issue) (rd ra rb : Fin 32) (s : State) : Host.Outcome State Fault Refusal := s.ctl (seqSrl k rd ra rb)

/-- SRA (R191). -/
def execSra (k : Issue) (rd ra rb : Fin 32) (s : State) : Host.Outcome State Fault Refusal := s.ctl (seqSra k rd ra rb)

/-- SLT (R191). -/
def execSlt (k : Issue) (rd ra rb : Fin 32) (s : State) : Host.Outcome State Fault Refusal := s.ctl (seqSlt k rd ra rb)

/-- SLTU (R191). -/
def execSltu (k : Issue) (rd ra rb : Fin 32) (s : State) : Host.Outcome State Fault Refusal := s.ctl (seqSltu k rd ra rb)

/-- MUL (R191). -/
def execMul (k : Issue) (rd ra rb : Fin 32) (s : State) : Host.Outcome State Fault Refusal := s.ctl (seqMul k rd ra rb)

/-- MULH (R191). -/
def execMulh (k : Issue) (rd ra rb : Fin 32) (s : State) : Host.Outcome State Fault Refusal := s.ctl (seqMulh k rd ra rb)

/-- MULHU (R191). -/
def execMulhu (k : Issue) (rd ra rb : Fin 32) (s : State) : Host.Outcome State Fault Refusal := s.ctl (seqMulhu k rd ra rb)

/-- DIV (R191). -/
def execDiv (k : Issue) (rd ra rb : Fin 32) (s : State) : Host.Outcome State Fault Refusal := s.ctl (seqDiv k rd ra rb)

/-- DIVU (R191). -/
def execDivu (k : Issue) (rd ra rb : Fin 32) (s : State) : Host.Outcome State Fault Refusal := s.ctl (seqDivu k rd ra rb)

/-- REM (R191). -/
def execRem (k : Issue) (rd ra rb : Fin 32) (s : State) : Host.Outcome State Fault Refusal := s.ctl (seqRem k rd ra rb)

/-- REMU (R191). -/
def execRemu (k : Issue) (rd ra rb : Fin 32) (s : State) : Host.Outcome State Fault Refusal := s.ctl (seqRemu k rd ra rb)

/-- MIN (R191). -/
def execMin (k : Issue) (rd ra rb : Fin 32) (s : State) : Host.Outcome State Fault Refusal := s.ctl (seqMin k rd ra rb)

/-- MAX (R191). -/
def execMax (k : Issue) (rd ra rb : Fin 32) (s : State) : Host.Outcome State Fault Refusal := s.ctl (seqMax k rd ra rb)

/-- MINU (R191). -/
def execMinu (k : Issue) (rd ra rb : Fin 32) (s : State) : Host.Outcome State Fault Refusal := s.ctl (seqMinu k rd ra rb)

/-- MAXU (R191). -/
def execMaxu (k : Issue) (rd ra rb : Fin 32) (s : State) : Host.Outcome State Fault Refusal := s.ctl (seqMaxu k rd ra rb)

/-- SLLI (R191). -/
def execSlli (k : Issue) (rd ra n : Fin 32) (s : State) : Host.Outcome State Fault Refusal := s.ctl (seqSlli k rd ra n)

/-- SRLI (R191). -/
def execSrli (k : Issue) (rd ra n : Fin 32) (s : State) : Host.Outcome State Fault Refusal := s.ctl (seqSrli k rd ra n)

/-- SRAI (R191). -/
def execSrai (k : Issue) (rd ra n : Fin 32) (s : State) : Host.Outcome State Fault Refusal := s.ctl (seqSrai k rd ra n)

/-- CTZ (R191). -/
def execCtz (k : Issue) (rd ra : Fin 32) (s : State) : Host.Outcome State Fault Refusal := s.ctl (seqCtz k rd ra)

/-- CLZ (R191). -/
def execClz (k : Issue) (rd ra : Fin 32) (s : State) : Host.Outcome State Fault Refusal := s.ctl (seqClz k rd ra)

/-- ADDI (R190). -/
def execAddi (k : Issue) (rd ra : Fin 32) (imm : BitVec 16) (s : State) : Host.Outcome State Fault Refusal :=
  s.ctl (seqAddi k rd ra imm)

/-- ANDI (R190). -/
def execAndi (k : Issue) (rd ra : Fin 32) (imm : BitVec 16) (s : State) : Host.Outcome State Fault Refusal :=
  s.ctl (seqAndi k rd ra imm)

/-- ORI (R190). -/
def execOri (k : Issue) (rd ra : Fin 32) (imm : BitVec 16) (s : State) : Host.Outcome State Fault Refusal :=
  s.ctl (seqOri k rd ra imm)

/-- XORI (R190). -/
def execXori (k : Issue) (rd ra : Fin 32) (imm : BitVec 16) (s : State) : Host.Outcome State Fault Refusal :=
  s.ctl (seqXori k rd ra imm)

/-- SLTI (R190). -/
def execSlti (k : Issue) (rd ra : Fin 32) (imm : BitVec 16) (s : State) : Host.Outcome State Fault Refusal :=
  s.ctl (seqSlti k rd ra imm)

/-- SLTIU (R190). -/
def execSltiu (k : Issue) (rd ra : Fin 32) (imm : BitVec 16) (s : State) : Host.Outcome State Fault Refusal :=
  s.ctl (seqSltiu k rd ra imm)

/-- LUI (R190). -/
def execLui (k : Issue) (rd : Fin 32) (imm : BitVec 16) (s : State) : Host.Outcome State Fault Refusal :=
  s.ctl (seqLui k rd imm)

/-- LW (R190). -/
def execLw (k : Issue) (rd ra : Fin 32) (imm : BitVec 16) (s : State) : Host.Outcome State Fault Refusal :=
  s.mach (seqLw k rd ra imm)

/-- LH (R190). -/
def execLh (k : Issue) (rd ra : Fin 32) (imm : BitVec 16) (s : State) : Host.Outcome State Fault Refusal :=
  s.mach (seqLh k rd ra imm)

/-- LHU (R190). -/
def execLhu (k : Issue) (rd ra : Fin 32) (imm : BitVec 16) (s : State) : Host.Outcome State Fault Refusal :=
  s.mach (seqLhu k rd ra imm)

/-- LB (R190). -/
def execLb (k : Issue) (rd ra : Fin 32) (imm : BitVec 16) (s : State) : Host.Outcome State Fault Refusal :=
  s.mach (seqLb k rd ra imm)

/-- LBU (R190). -/
def execLbu (k : Issue) (rd ra : Fin 32) (imm : BitVec 16) (s : State) : Host.Outcome State Fault Refusal :=
  s.mach (seqLbu k rd ra imm)

/-- SW (R190). -/
def execSw (k : Issue) (rd ra : Fin 32) (imm : BitVec 16) (s : State) : Host.Outcome State Fault Refusal :=
  s.mach (seqSw k rd ra imm)

/-- SH (R190). -/
def execSh (k : Issue) (rd ra : Fin 32) (imm : BitVec 16) (s : State) : Host.Outcome State Fault Refusal :=
  s.mach (seqSh k rd ra imm)

/-- SB (R190). -/
def execSb (k : Issue) (rd ra : Fin 32) (imm : BitVec 16) (s : State) : Host.Outcome State Fault Refusal :=
  s.mach (seqSb k rd ra imm)

/-- FLW (R190). -/
def execFlw (k : Issue) (fd ra : Fin 32) (imm : BitVec 16) (s : State) : Host.Outcome State Fault Refusal :=
  s.mach (seqFlw k fd ra imm)

/-- FSW (R190). -/
def execFsw (k : Issue) (fd ra : Fin 32) (imm : BitVec 16) (s : State) : Host.Outcome State Fault Refusal :=
  s.mach (seqFsw k fd ra imm)

/-- BEQ (R195). -/
def execBeq (k : Issue) (ra rb : Fin 32) (off : BitVec 16) (s : State) : Host.Outcome State Fault Refusal :=
  s.ctl (seqBeq k ra rb off)

/-- BNE (R195). -/
def execBne (k : Issue) (ra rb : Fin 32) (off : BitVec 16) (s : State) : Host.Outcome State Fault Refusal :=
  s.ctl (seqBne k ra rb off)

/-- BLT (R195). -/
def execBlt (k : Issue) (ra rb : Fin 32) (off : BitVec 16) (s : State) : Host.Outcome State Fault Refusal :=
  s.ctl (seqBlt k ra rb off)

/-- BGE (R195). -/
def execBge (k : Issue) (ra rb : Fin 32) (off : BitVec 16) (s : State) : Host.Outcome State Fault Refusal :=
  s.ctl (seqBge k ra rb off)

/-- BLTU (R195). -/
def execBltu (k : Issue) (ra rb : Fin 32) (off : BitVec 16) (s : State) : Host.Outcome State Fault Refusal :=
  s.ctl (seqBltu k ra rb off)

/-- BGEU (R195). -/
def execBgeu (k : Issue) (ra rb : Fin 32) (off : BitVec 16) (s : State) : Host.Outcome State Fault Refusal :=
  s.ctl (seqBgeu k ra rb off)

/-- JAL (R195). -/
def execJal (k : Issue) (off : BitVec 26) (s : State) : Host.Outcome State Fault Refusal := s.ctl (seqJal k off)

/-- JALR (R195). -/
def execJalr (k : Issue) (rd ra : Fin 32) (imm : BitVec 16) (s : State) : Host.Outcome State Fault Refusal :=
  s.ctl (seqJalr k rd ra imm)

/-- FADD (R197). -/
def execFadd (k : Issue) (rd ra rb : Fin 32) (s : State) : Host.Outcome State Fault Refusal := s.ctl (seqFadd k rd ra rb)

/-- FSUB (R197). -/
def execFsub (k : Issue) (rd ra rb : Fin 32) (s : State) : Host.Outcome State Fault Refusal := s.ctl (seqFsub k rd ra rb)

/-- FMUL (R197). -/
def execFmul (k : Issue) (rd ra rb : Fin 32) (s : State) : Host.Outcome State Fault Refusal := s.ctl (seqFmul k rd ra rb)

/-- FDIV (R197). -/
def execFdiv (k : Issue) (rd ra rb : Fin 32) (s : State) : Host.Outcome State Fault Refusal := s.ctl (seqFdiv k rd ra rb)

/-- FSQRT (R197). -/
def execFsqrt (k : Issue) (rd ra : Fin 32) (s : State) : Host.Outcome State Fault Refusal := s.ctl (seqFsqrt k rd ra)

/-- FMIN (R197). -/
def execFmin (k : Issue) (rd ra rb : Fin 32) (s : State) : Host.Outcome State Fault Refusal := s.ctl (seqFmin k rd ra rb)

/-- FMAX (R197). -/
def execFmax (k : Issue) (rd ra rb : Fin 32) (s : State) : Host.Outcome State Fault Refusal := s.ctl (seqFmax k rd ra rb)

/-- FNEG (R197). -/
def execFneg (k : Issue) (rd ra : Fin 32) (s : State) : Host.Outcome State Fault Refusal := s.ctl (seqFneg k rd ra)

/-- FABS (R197). -/
def execFabs (k : Issue) (rd ra : Fin 32) (s : State) : Host.Outcome State Fault Refusal := s.ctl (seqFabs k rd ra)

/-- FMOV (R197). -/
def execFmov (k : Issue) (rd ra : Fin 32) (s : State) : Host.Outcome State Fault Refusal := s.ctl (seqFmov k rd ra)

/-- FEQ (R197). -/
def execFeq (k : Issue) (rd ra rb : Fin 32) (s : State) : Host.Outcome State Fault Refusal := s.ctl (seqFeq k rd ra rb)

/-- FLT (R197). -/
def execFlt (k : Issue) (rd ra rb : Fin 32) (s : State) : Host.Outcome State Fault Refusal := s.ctl (seqFlt k rd ra rb)

/-- FLE (R197). -/
def execFle (k : Issue) (rd ra rb : Fin 32) (s : State) : Host.Outcome State Fault Refusal := s.ctl (seqFle k rd ra rb)

/-- FTOI (R197). -/
def execFtoi (k : Issue) (rd ra n : Fin 32) (s : State) : Host.Outcome State Fault Refusal := s.ctl (seqFtoi k rd ra n)

/-- ITOF (R197). -/
def execItof (k : Issue) (rd ra n : Fin 32) (s : State) : Host.Outcome State Fault Refusal := s.ctl (seqItof k rd ra n)

/-- FMVS (R197). -/
def execFmvs (k : Issue) (rd ra : Fin 32) (s : State) : Host.Outcome State Fault Refusal := s.ctl (seqFmvs k rd ra)

/-- FMVF (R197). -/
def execFmvf (k : Issue) (rd ra : Fin 32) (s : State) : Host.Outcome State Fault Refusal := s.ctl (seqFmvf k rd ra)

/-- VADD3 (R198). -/
def execVadd3 (k : Issue) (rd ra rb : Fin 32) (s : State) : Host.Outcome State Fault Refusal := s.ctl (seqVadd3 k rd ra rb)

/-- VSUB3 (R198). -/
def execVsub3 (k : Issue) (rd ra rb : Fin 32) (s : State) : Host.Outcome State Fault Refusal := s.ctl (seqVsub3 k rd ra rb)

/-- VSCL3 (R198). -/
def execVscl3 (k : Issue) (rd ra rb : Fin 32) (s : State) : Host.Outcome State Fault Refusal := s.ctl (seqVscl3 k rd ra rb)

/-- DOT3 (R198). -/
def execDot3 (k : Issue) (rd ra rb : Fin 32) (s : State) : Host.Outcome State Fault Refusal := s.ctl (seqDot3 k rd ra rb)

/-- VDIST (R198). -/
def execVdist (k : Issue) (rd ra rb : Fin 32) (s : State) : Host.Outcome State Fault Refusal := s.ctl (seqVdist k rd ra rb)

/-- CROSS3 (R198). -/
def execCross3 (k : Issue) (rd ra rb : Fin 32) (s : State) : Host.Outcome State Fault Refusal := s.ctl (seqCross3 k rd ra rb)

/-- MV3 (R198). -/
def execMv3 (k : Issue) (rd ra rb : Fin 32) (s : State) : Host.Outcome State Fault Refusal := s.ctl (seqMv3 k rd ra rb)

/-- RSQ (R198). -/
def execRsq (k : Issue) (rd ra : Fin 32) (s : State) : Host.Outcome State Fault Refusal := s.ctl (seqRsq k rd ra)

/-- MFK (R188). -/
def execMfk (k : Issue) (rd : Fin 32) (n : Fin 64) (s : State) : Host.Outcome State Fault Refusal := s.ctl (seqMfk k rd n)

/-- MTK (R188). -/
def execMtk (k : Issue) (n : Fin 64) (ra : Fin 32) (s : State) : Host.Outcome State Fault Refusal := s.ctl (seqMtk k n ra)

/-- WAIT_W_ABS (R200). -/
def execWaitWAbs (k : Issue) (rd ra : Fin 32) (s : State) : Host.Outcome State Fault Refusal := s.ctl (seqWaitAbs k rd ra)

/-- WAIT_W_NEXT (R200). -/
def execWaitWNext (k : Issue) (rd : Fin 32) (s : State) : Host.Outcome State Fault Refusal := s.ctl (seqWaitNext k rd)

/-- WAIT_W_TICK (R200). -/
def execWaitWTick (k : Issue) (rd : Fin 32) (s : State) : Host.Outcome State Fault Refusal := s.ctl (seqWaitTick k rd)

/-- WAIT_W_RESUME (R200). -/
def execWaitWResume (y : Fin 4) (s : State) : Host.Outcome State Fault Refusal := s.ctl (seqWaitResume y)

/-- FENCE (R193). -/
def execFence (k : Issue) (s : State) : Host.Outcome State Fault Refusal := s.ctl (seqFence k)

/-- TRAP (R209). -/
def execTrap (k : Issue) (n : Fin 64) (s : State) : Host.Outcome State Fault Refusal := s.ctl (seqTrap k n)

/-- CPOP (R204). -/
def execCpop (k : Issue) (rd ra : Fin 32) (s : State) : Host.Outcome State Fault Refusal := s.mach (seqCpop k rd ra)

/-- LTRY (R205). -/
def execLtry (k : Issue) (rd ra : Fin 32) (n : Fin 64) (s : State) : Host.Outcome State Fault Refusal :=
  s.ctl (seqLtry k rd ra n)

/-- LREL (R205). -/
def execLrel (k : Issue) (ra : Fin 32) (n : Fin 64) (s : State) : Host.Outcome State Fault Refusal := s.ctl (seqLrel k ra n)

/-- LBS (R206). -/
def execLbs (k : Issue) (rd ra : Fin 32) (n : Fin 16) (s : State) : Host.Outcome State Fault Refusal :=
  s.mach (seqLbs k rd ra n)

/-- LBR (R206). -/
def execLbr (k : Issue) (rd ra : Fin 32) (n : Fin 16) (s : State) : Host.Outcome State Fault Refusal :=
  s.mach (seqLbr k rd ra n)

/-- LBT (R206). -/
def execLbt (k : Issue) (rd : Fin 32) (n : Fin 16) (s : State) : Host.Outcome State Fault Refusal := s.ctl (seqLbt k rd n)

/-- SEQ_WATCHDOG (R209). -/
def execSeqWatchdog (y : Fin 4) (s : State) : Host.Outcome State Fault Refusal := s.ctl (seqWatchdog y)

/-- SEQ_RESTART (R210). -/
def execSeqRestart (y : Fin 4) (s : State) : Host.Outcome State Fault Refusal := s.mach (seqRestart y)

/-- PROGRAM_LOAD (R213). -/
def execProgramLoad (p : Fin 8) (s : State) : Host.Outcome State Fault Refusal := s.mach (keepProgramLoad p)

/-- PROGRAM_LOAD_DONE (R213). -/
def execProgramLoadDone (s : State) : Host.Outcome State Fault Refusal := s.mach programLoadDone

/-- IMAGE_INTO_FORCE (R214). -/
def execImageIntoForce (y : Fin 4) (s : State) : Host.Outcome State Fault Refusal := s.ctl (imageIntoForce y)

end Sys2Proof.Machine
end

