-- ==== Sys2Proof/Machine/CmdScene.lean ====
section
/-! DEFINITION. Meanings of commands. Objects, sources, feeds, zones, plans and scenes (chapters 03 and 04). Each is the command's effect under the rule named, over the operations of
the files imported. -/
namespace Sys2Proof.Machine

/-- OBJ_ENTRY_WRITE (R56). -/
def execObjEntryWrite (m : Master) (o : Fin 1024) (w : Fin 16) (d : BitVec 32) (s : State) : Host.Outcome State Fault Refusal :=
  s.ctl (objEntryWrite m o.val w.val d.toNat)

/-- OBJ_ACTIVATE (R61). -/
def execObjActivate (m : Master) (o : Fin 1024) (s : State) : Host.Outcome State Fault Refusal :=
  s.ctl (objActReq m o.val true)

/-- OBJ_DEACTIVATE (R63). -/
def execObjDeactivate (m : Master) (o : Fin 1024) (s : State) : Host.Outcome State Fault Refusal :=
  s.ctl (objActReq m o.val false)

/-- SCHEDULED_ACTIVATION (R62). -/
def execScheduledActivation (s : State) : Host.Outcome State Fault Refusal := s.ctl scheduledActivation

/-- SRC_ENTRY_WRITE (R56). -/
def execSrcEntryWrite (m : Master) (ix : Fin 256) (w : Fin 8) (d : BitVec 32) (s : State) : Host.Outcome State Fault Refusal :=
  s.ctl (srcEntryWrite m ix.val w.val d.toNat)

/-- SRC_ENABLE (R94). -/
def execSrcEnable (m : Master) (ix : Fin 256) (s : State) : Host.Outcome State Fault Refusal := s.ctl (srcEnable m ix.val)

/-- SRC_DISABLE (R65). -/
def execSrcDisable (m : Master) (ix : Fin 256) (s : State) : Host.Outcome State Fault Refusal := s.ctl (srcDisable m ix.val)

/-- RING_LENGTH_WRITE (R96). -/
def execRingLengthWrite (m : Master) (ix : Fin 256) (d : BitVec 32) (s : State) : Host.Outcome State Fault Refusal :=
  s.ctl (ringLengthWrite m ix.val d.toNat)

/-- RING_LENGTH_CHANGE (R96). -/
def execRingLengthChange (ix : Fin 256) (s : State) : Host.Outcome State Fault Refusal := s.ctl (ringLengthChange ix.val)

/-- FEED_ENTRY_WRITE (R56). -/
def execFeedEntryWrite (m : Master) (f : Fin 768) (w : Fin 16) (d : BitVec 32) (s : State) : Host.Outcome State Fault Refusal :=
  s.ctl (feedEntryWrite m f.val w.val d.toNat)

/-- ZONE_ENTRY_WRITE (R58). -/
def execZoneEntryWrite (m : Master) (z : Fin 128) (w : Fin 16) (d : BitVec 32) (s : State) : Host.Outcome State Fault Refusal :=
  s.ctl (zoneEntryWrite m z.val w.val d.toNat)

/-- PLAN_ENTRY_WRITE (R70). -/
def execPlanEntryWrite (m : Master) (p : Fin 64) (w : Fin 16) (d : BitVec 32) (s : State) : Host.Outcome State Fault Refusal :=
  s.ctl (planEntryWrite m p.val w.val d.toNat)

/-- SCENE_LOAD (R71). -/
def execSceneLoad (p : Fin 8) (s : State) : Host.Outcome State Fault Refusal := s.mach (keepSceneLoad p)

/-- SCENE_LOAD_DONE (R71). -/
def execSceneLoadDone (s : State) : Host.Outcome State Fault Refusal := s.mach sceneLoadDone

/-- SCENE_SWITCH (R72). -/
def execSceneSwitch (p : Fin 8) (s : State) : Host.Outcome State Fault Refusal := s.mach (keepSceneSwitch p)

/-- SCENE_SWITCH_BOUNDARY (R74). -/
def execSceneSwitchBoundary (s : State) : Host.Outcome State Fault Refusal := s.ctl sceneSwitchBoundary

/-- SYS_LAW_WRITE (R104). -/
def execSysLawWrite (m : Master) (d : BitVec 32) (s : State) : Host.Outcome State Fault Refusal :=
  s.ctl (sysLawWrite m d.toNat)

/-- REFUSE_RECEIVE (R68). -/
def execRefuseReceive (g : Fin 4) (cell : Cell) (s : State) : Host.Outcome State Fault Refusal :=
  s.ctl (refuseReceive g cell)

end Sys2Proof.Machine
end

