-- ==== Sys2Proof/Machine/CmdStartup.lean ====
section
/-! DEFINITION. Meanings of commands. Resets, start-up, arming and recovery (chapters 17 and 19). Each is the command's effect under the rule named, over the operations of
the files imported. -/
namespace Sys2Proof.Machine

/-- ARM (R440). -/
def execArm (p : Fin 8) (s : State) : Host.Outcome State Fault Refusal := s.mach (keepArm p)

/-- ARM_EXECUTE (R441). -/
def execArmExecute (s : State) : Host.Outcome State Fault Refusal := s.mach armExecute

/-- DISARM (R441). -/
def execDisarm (p : Fin 8) (s : State) : Host.Outcome State Fault Refusal := s.mach (keepDisarm p)

/-- FW_UPDATE_KEEPER (R448). -/
def execFwUpdateKeeper (p : Fin 8) (s : State) : Host.Outcome State Fault Refusal := s.mach (fwUpdateKeeper p)

/-- FW_UPDATE_STORM (R449). -/
def execFwUpdateStorm (p : Fin 8) (s : State) : Host.Outcome State Fault Refusal := s.mach (fwUpdateStorm p)

/-- FW_UPDATE_DONE (R448). -/
def execFwUpdateDone (s : State) : Host.Outcome State Fault Refusal := s.mach fwUpdateDone

/-- POWER_RESET (R437). -/
def execPowerReset (s : State) : Host.Outcome State Fault Refusal := s.mach powerReset

/-- PIN_RESET (R437). -/
def execPinReset (s : State) : Host.Outcome State Fault Refusal := s.mach pinReset

/-- DIE_RESET (R437). -/
def execDieReset (s : State) : Host.Outcome State Fault Refusal := s.mach dieReset

/-- KEEPER_RESET (R443). -/
def execKeeperReset (s : State) : Host.Outcome State Fault Refusal := s.ctl keeperReset

/-- KEEPER_RESTART_COMPLETE (R443). -/
def execKeeperRestartComplete (s : State) : Host.Outcome State Fault Refusal := s.ctl keeperRestartComplete

/-- BOOT_FIRMWARE_START (R439). -/
def execBootFirmwareStart (ok0 ok1 : Bool) (s : State) : Host.Outcome State Fault Refusal :=
  s.ctl (bootFirmwareStart ok0 ok1)

/-- DRAM_INIT_COMPLETE (R438). -/
def execDramInitComplete (s : State) : Host.Outcome State Fault Refusal := s.mach dramInitComplete

/-- PROFILE_APPLY (R442). -/
def execProfileApply (s : State) : Host.Outcome State Fault Refusal := s.mach profileApply

/-- AUTO_ARM_ATTEMPT (R442). -/
def execAutoArmAttempt (s : State) : Host.Outcome State Fault Refusal := s.mach autoArmAttempt

/-- AUDIO_LOCK_HOLD (R444). -/
def execAudioLockHold (s : State) : Host.Outcome State Fault Refusal := s.ctl audioLockHold

/-- ROOT_RETURN_HOLD (R444). -/
def execRootReturnHold (s : State) : Host.Outcome State Fault Refusal := s.mach rootReturnHold

/-- DIE_STROBE_ABSENT (R444). -/
def execDieStrobeAbsent (s : State) : Host.Outcome State Fault Refusal := s.mach dieStrobeAbsent

/-- KEEPER_THAW (R446). -/
def execKeeperThaw (s : State) : Host.Outcome State Fault Refusal := s.mach keeperThaw

/-- DIE_OVERTEMP (R470). -/
def execDieOvertemp (s : State) : Host.Outcome State Fault Refusal := s.mach dieOvertemp

/-- DIE_TEMP_RECOVER (R470). -/
def execDieTempRecover (s : State) : Host.Outcome State Fault Refusal := s.mach dieTempRecover

/-- PSU_OVERTEMP (R470). -/
def execPsuOvertemp (s : State) : Host.Outcome State Fault Refusal := s.mach psuOvertemp

/-- PSU_TEMP_RECOVER (R470). -/
def execPsuTempRecover (ok : Bool) (s : State) : Host.Outcome State Fault Refusal := s.mach (psuTempRecover ok)

end Sys2Proof.Machine
end

