-- ==== Sys2Proof/Machine/CmdStorm.lean ====
section
/-! DEFINITION. Meanings of commands. Shutters, fire inputs, plans in action and the storm door (chapter 09). Each is the command's effect under the rule named, over the operations of
the files imported. -/
namespace Sys2Proof.Machine

/-- SHUT_OPEN_REQUEST (R216). -/
def execShutOpenRequest (m : Master) (ix : Fin 24) (d : BitVec 32) (s : State) : Host.Outcome State Fault Refusal :=
  s.ctl (shutOpenRequest m ix.val d.toNat)

/-- SHUT_CLOSE_REQUEST (R217). -/
def execShutCloseRequest (m : Master) (ix : Fin 24) (d : BitVec 32) (s : State) : Host.Outcome State Fault Refusal :=
  s.ctl (shutCloseRequest m ix.val d.toNat)

/-- SHUTTER_CHANGE (R217). -/
def execShutterChange (s : State) : Host.Outcome State Fault Refusal := s.ctl shutterChange

/-- FIRE_LOOP_MEASURE (R219). -/
def execFireLoopMeasure (ohms : List Nat) (s : State) : Host.Outcome State Fault Refusal := s.ctl (fireLoopMeasure ohms)

/-- INPUT_STATE_CHANGE (R220). -/
def execInputStateChange (ix : Fin 18) (s : State) : Host.Outcome State Fault Refusal := s.ctl (inputStateChange ix.val)

/-- RELAY_UPDATE (R221). -/
def execRelayUpdate (k : Fin 4) (s : State) : Host.Outcome State Fault Refusal := s.ctl (relayUpdate k.val)

/-- KEEPER_HEARTBEAT_LOSS (R221). -/
def execKeeperHeartbeatLoss (s : State) : Host.Outcome State Fault Refusal := s.ctl keeperHeartbeatLoss

/-- PLAN_ACTIVATE (R223). -/
def execPlanActivate (p : Fin 64) (s : State) : Host.Outcome State Fault Refusal := s.ctl (planActivate p.val)

/-- CONFIRM_END (R224). -/
def execConfirmEnd (p : Fin 64) (s : State) : Host.Outcome State Fault Refusal := s.ctl (confirmEnd p.val)

/-- PLAN_CHAIN (R225). -/
def execPlanChain (p : Fin 64) (s : State) : Host.Outcome State Fault Refusal := s.ctl (planChain p.val)

/-- ALARM_START (R222). -/
def execAlarmStart (p : Fin 8) (s : State) : Host.Outcome State Fault Refusal := s.mach (keepAlarmStart p)

/-- ALARM_STOP (R226). -/
def execAlarmStop (p : Fin 8) (s : State) : Host.Outcome State Fault Refusal := s.mach (keepAlarmStop p)

/-- BACKSTOP_EXPIRY (R227). -/
def execBackstopExpiry (p : Fin 64) (s : State) : Host.Outcome State Fault Refusal := s.ctl (backstopExpiry p.val)

/-- DIE_STROBE_LOSS (R234). -/
def execDieStrobeLoss (s : State) : Host.Outcome State Fault Refusal := s.ctl dieStrobeLoss

/-- STORM_STORE_CHECK (R228). -/
def execStormStoreCheck (s : State) : Host.Outcome State Fault Refusal := s.mach stormStoreCheck

/-- STORM_PROGRAMME_STEP (R230). -/
def execStormProgrammeStep (p : Fin 64) (s : State) : Host.Outcome State Fault Refusal := s.mach (stormProgrammeStep p.val)

/-- STORM_COMMIT (R233). -/
def execStormCommit (m : Master) (s : State) : Host.Outcome State Fault Refusal := s.ctl (stormCommit m)

/-- STORM_ARM (R233). -/
def execStormArm (m : Master) (s : State) : Host.Outcome State Fault Refusal := s.mach (stormArm m)

/-- STORM_DISARM (R233). -/
def execStormDisarm (m : Master) (s : State) : Host.Outcome State Fault Refusal := s.ctl (stormDisarm m)

/-- STORM_FORCE_WRITE (R234). -/
def execStormForceWrite (m : Master) (ix : Fin 4) (d : BitVec 32) (s : State) : Host.Outcome State Fault Refusal :=
  s.ctl (stormForceWrite m ix.val d.toNat)

/-- STORM_RETURN_REQUEST (R237). -/
def execStormReturnRequest (m : Master) (ix : Fin 4) (d : BitVec 32) (s : State) : Host.Outcome State Fault Refusal :=
  s.ctl (stormReturnRequest m ix.val d.toNat)

/-- HANDBACK_FADE (R237). -/
def execHandbackFade (z : Fin 128) (waited : Bool) (s : State) : Host.Outcome State Fault Refusal :=
  s.ctl (handbackFade z.val waited)

/-- FIRE_IN_WRITE (R239). -/
def execFireInWrite (m : Master) (ix : Fin 16) (d : BitVec 32) (s : State) : Host.Outcome State Fault Refusal :=
  s.ctl (fireInWrite m ix.val d.toNat)

/-- STORM_EVENT_DELIVER (R240). -/
def execStormEventDeliver (s : State) : Host.Outcome State Fault Refusal := s.ctl stormEventDeliver

end Sys2Proof.Machine
end

