-- ==== Sys2Proof/Machine/CmdVector.lean ====
section
/-! DEFINITION. Meanings of commands. The stalls: slot operations and their completions (chapter 07). Each is the command's effect under the rule named, over the operations of
the files imported. -/
namespace Sys2Proof.Machine

/-- VMAC_C (R169). -/
def execVmacC (k : Slot) (d : Fin 2) (b src : Fin 64) (s : State) : Host.Outcome State Fault Refusal :=
  s.mach (vmacC k d b src)

/-- VMSU_C (R169). -/
def execVmsuC (k : Slot) (d : Fin 2) (b src : Fin 64) (s : State) : Host.Outcome State Fault Refusal :=
  s.mach (vmsuC k d b src)

/-- VMUL_C (R169). -/
def execVmulC (k : Slot) (d : Fin 2) (b src : Fin 64) (s : State) : Host.Outcome State Fault Refusal :=
  s.mach (vmulC k d b src)

/-- VMAC_S (R169). -/
def execVmacS (k : Slot) (d : Fin 2) (b src : Fin 64) (s : State) : Host.Outcome State Fault Refusal :=
  s.mach (vmacS k d b src)

/-- VMUL_S (R169). -/
def execVmulS (k : Slot) (d : Fin 2) (b src : Fin 64) (s : State) : Host.Outcome State Fault Refusal :=
  s.mach (vmulS k d b src)

/-- SMAC (R169). -/
def execSmac (k : Slot) (d cf : Fin 8) (y : Fin 64) (s : State) : Host.Outcome State Fault Refusal := s.mach (smac k d cf y)

/-- SMSU (R169). -/
def execSmsu (k : Slot) (d cf : Fin 8) (y : Fin 64) (s : State) : Host.Outcome State Fault Refusal := s.mach (smsu k d cf y)

/-- SMUL (R169). -/
def execSmul (k : Slot) (d cf : Fin 8) (y : Fin 64) (s : State) : Host.Outcome State Fault Refusal := s.mach (smul k d cf y)

/-- ACLR (R169). -/
def execAclr (k : Slot) (mask : Fin 256) (s : State) : Host.Outcome State Fault Refusal := s.mach (aclr k mask.val)

/-- AADD (R169). -/
def execAadd (k : Slot) (d src : Fin 8) (s : State) : Host.Outcome State Fault Refusal := s.mach (aadd k d src)

/-- ASUB (R169). -/
def execAsub (k : Slot) (d src : Fin 8) (s : State) : Host.Outcome State Fault Refusal := s.mach (asub k d src)

/-- PADDI (R170). -/
def execPaddi (k : Slot) (d : Fin 16) (imm : BitVec 8) (s : State) : Host.Outcome State Fault Refusal :=
  s.mach (paddi k d imm)

/-- PADD (R170). -/
def execPadd (k : Slot) (d src : Fin 16) (s : State) : Host.Outcome State Fault Refusal := s.mach (padd k d src)

/-- PSUB (R170). -/
def execPsub (k : Slot) (d src : Fin 16) (s : State) : Host.Outcome State Fault Refusal := s.mach (psub k d src)

/-- PMOV (R170). -/
def execPmov (k : Slot) (d src : Fin 16) (s : State) : Host.Outcome State Fault Refusal := s.mach (pmov k d src)

/-- PLI (R170). -/
def execPli (k : Slot) (d : Fin 16) (imm : BitVec 8) (s : State) : Host.Outcome State Fault Refusal := s.mach (pli k d imm)

/-- PSHL (R170). -/
def execPshl (k : Slot) (d : Fin 16) (n : Fin 32) (s : State) : Host.Outcome State Fault Refusal := s.mach (pshl k d n)

/-- PSHR (R170). -/
def execPshr (k : Slot) (d : Fin 16) (n : Fin 32) (s : State) : Host.Outcome State Fault Refusal := s.mach (pshr k d n)

/-- PAND (R170). -/
def execPand (k : Slot) (d src : Fin 16) (s : State) : Host.Outcome State Fault Refusal := s.mach (pand k d src)

/-- SETC (R170). -/
def execSetc (k : Slot) (n : Fin 4) (src : Fin 16) (s : State) : Host.Outcome State Fault Refusal := s.mach (setc k n src)

/-- SETCI (R170). -/
def execSetci (k : Slot) (n : Fin 4) (imm : BitVec 8) (s : State) : Host.Outcome State Fault Refusal :=
  s.mach (setci k n imm)

/-- MSET (R170). -/
def execMset (k : Slot) (n : Fin 4) (src : Fin 16) (s : State) : Host.Outcome State Fault Refusal := s.mach (mset k n src)

/-- PST (R170). -/
def execPst (k : Slot) (d : Fin 16) (s : State) : Host.Outcome State Fault Refusal := s.mach (pst k d)

/-- LD1 (R172). -/
def execLd1 (k : Slot) (d : Fin 64) (p : Fin 16) (post : Fin 4) (s : State) : Host.Outcome State Fault Refusal :=
  s.mach (ld1 k d p post)

/-- ST1 (R172). -/
def execSt1 (k : Slot) (src : Fin 64) (p : Fin 16) (post : Fin 4) (s : State) : Host.Outcome State Fault Refusal :=
  s.mach (st1 k src p post)

/-- LD4 (R172). -/
def execLd4 (k : Slot) (g p : Fin 16) (post : Fin 4) (rev : Bool) (s : State) : Host.Outcome State Fault Refusal :=
  s.mach (ld4 k g p post rev)

/-- ST4 (R172). -/
def execSt4 (k : Slot) (g p : Fin 16) (post : Fin 4) (rev : Bool) (s : State) : Host.Outcome State Fault Refusal :=
  s.mach (st4 k g p post rev)

/-- MOVA (R165). -/
def execMova (k : Slot) (d : Fin 64) (src sh : Fin 8) (s : State) : Host.Outcome State Fault Refusal :=
  s.mach (mova k d src sh)

/-- MOVA4 (R165). -/
def execMova4 (k : Slot) (g : Fin 16) (h : Fin 2) (sh : Fin 8) (s : State) : Host.Outcome State Fault Refusal :=
  s.mach (mova4 k g h sh)

/-- STA (R165). -/
def execSta (k : Slot) (p : Fin 16) (src sh : Fin 8) (post : Fin 4) (s : State) : Host.Outcome State Fault Refusal :=
  s.mach (sta k p src sh post)

/-- ACC (R174). -/
def execAcc (k : Slot) (p : Fin 16) (src : Fin 8) (four rev : Bool) (post : Fin 4) (s : State) : Host.Outcome State Fault Refusal :=
  s.mach (acc k p src four rev post)

/-- LDP (R172). -/
def execLdp (k : Slot) (d src : Fin 16) (post : Fin 4) (s : State) : Host.Outcome State Fault Refusal :=
  s.mach (ldp k d src post)

/-- MOVV (R172). -/
def execMovv (k : Slot) (d src : Fin 64) (s : State) : Host.Outcome State Fault Refusal := s.mach (movv k d src)

/-- MOVP (R172). -/
def execMovp (k : Slot) (d : Fin 64) (src : Fin 16) (s : State) : Host.Outcome State Fault Refusal := s.mach (movp k d src)

/-- MOVPV (R172). -/
def execMovpv (k : Slot) (d : Fin 16) (src : Fin 64) (s : State) : Host.Outcome State Fault Refusal := s.mach (movpv k d src)

/-- LOOP (R176). -/
def execLoop (k : Slot) (n rot : Fin 4) (len : Fin 256) (s : State) : Host.Outcome State Fault Refusal :=
  s.mach (loop k n rot len)

/-- BR (R178). -/
def execBr (k : Slot) (off : BitVec 8) (s : State) : Host.Outcome State Fault Refusal := s.mach (br k off)

/-- BZ (R178). -/
def execBz (k : Slot) (p : Fin 16) (off : BitVec 8) (s : State) : Host.Outcome State Fault Refusal := s.mach (bz k p off)

/-- BNZ (R178). -/
def execBnz (k : Slot) (p : Fin 16) (off : BitVec 8) (s : State) : Host.Outcome State Fault Refusal := s.mach (bnz k p off)

/-- ACQ (R179). -/
def execAcq (k : Slot) (level : Fin 4) (index : Fin 64) (s : State) : Host.Outcome State Fault Refusal :=
  s.mach (acq k level index)

/-- REL (R179). -/
def execRel (k : Slot) (level : Fin 4) (index : Fin 64) (s : State) : Host.Outcome State Fault Refusal :=
  s.mach (rel k level index)

/-- STRM (R180). -/
def execStrm (k : Slot) (ch p : Fin 16) (s : State) : Host.Outcome State Fault Refusal := s.mach (strm k ch p)

/-- SWAIT (R180). -/
def execSwait (k : Slot) (ch : Fin 16) (s : State) : Host.Outcome State Fault Refusal := s.mach (swait k ch)

/-- STREAM_TRANSFER_END (R180). -/
def execStreamTransferEnd (y : Fin 4) (ch : Fin 16) (fin : XferEnd) (s : State) : Host.Outcome State Fault Refusal :=
  s.mach (streamTransferEnd y ch fin)

/-- SETRRB (R177). -/
def execSetrrb (k : Slot) (v : Fin 32) (s : State) : Host.Outcome State Fault Refusal := s.mach (setrrb k v)

/-- HALT (R183). -/
def execHalt (k : Slot) (user : BitVec 8) (s : State) : Host.Outcome State Fault Refusal := s.mach (halt k user)

/-- ACC_ACK (R174). -/
def execAccAck (st : Fin 128) (s : State) : Host.Outcome State Fault Refusal := s.ctl (accAck st)

/-- HALT_COMPLETE (R183). -/
def execHaltComplete (st : Fin 128) (s : State) : Host.Outcome State Fault Refusal := s.ctl (haltComplete st)

/-- NOP_BUNDLE (R160). -/
def execNopBundle (k : Slot) (s : State) : Host.Outcome State Fault Refusal := s.mach (nopBundle k)

end Sys2Proof.Machine
end

