-- ==== Sys2Proof/Machine/CmdWindow.lean ====
section
/-! DEFINITION. Meanings of commands. Clocks, windows and ticks (chapter 01). Each is the command's effect under the rule named, over the operations of
the files imported. -/
namespace Sys2Proof.Machine

/-- ROOT_LOST (R15). -/
def execRootLost (s : State) : Host.Outcome State Fault Refusal := s.ctl rootLost

/-- PLL_LOCK_LOSS (R15). -/
def execPllLockLoss (p : Fin 4) (s : State) : Host.Outcome State Fault Refusal := s.ctl (pllLockLoss p)

/-- PLL_RELOCK (R15). -/
def execPllRelock (p : Fin 4) (s : State) : Host.Outcome State Fault Refusal := s.ctl (pllRelock p)

/-- WINDOW_BOUNDARY (R19). -/
def execWindowBoundary (ecc : List (Fin 4 × ScrubHit)) (mean peak battMv busMv : BitVec 16) (s : State) :
    Host.Outcome State Fault Refusal :=
  s.mach (windowBoundary ecc mean peak battMv busMv)

/-- TICK_BOUNDARY (R21). -/
def execTickBoundary (s : State) : Host.Outcome State Fault Refusal := s.mach tickBoundary

/-- WIN_CTRL_WRITE (R21). -/
def execWinCtrlWrite (m : Master) (d : BitVec 32) (s : State) : Host.Outcome State Fault Refusal :=
  s.ctl (winCtrlWrite m d.toNat)

/-- TICK_LENGTH_CHANGE (R21). -/
def execTickLengthChange (s : State) : Host.Outcome State Fault Refusal := s.ctl tickLengthChange

/-- WIN_START (R29). -/
def execWinStart (s : State) : Host.Outcome State Fault Refusal := s.ctl winStart

/-- WIN_STOP (R29). -/
def execWinStop (s : State) : Host.Outcome State Fault Refusal := s.ctl winStop

/-- WIN_COUNT_READ (R29). -/
def execWinCountRead (s : State) : Host.Outcome State Fault Refusal := s.ctl winCountRead

/-- GUARD_POINT (R23). -/
def execGuardPoint (late : List (Fin 768)) (s : State) : Host.Outcome State Fault Refusal := s.mach (guardPoint late)

/-- ROOT_RETURN (R15). -/
def execRootReturn (s : State) : Host.Outcome State Fault Refusal := s.ctl rootReturn

end Sys2Proof.Machine
end

