-- ==== Sys2Proof/Machine/CmdYard.lean ====
section
/-! DEFINITION. Meanings of commands. Stables, work orders and yards (chapter 06). Each is the command's effect under the rule named, over the operations of
the files imported. -/
namespace Sys2Proof.Machine

/-- JOB_DISPATCH (R137). -/
def execJobDispatch (st : Fin 128) (s : State) : Host.Outcome State Fault Refusal := s.ctl (jobDispatch st)

/-- ORDER_AGED (R139). -/
def execOrderAged (n : Fin 16) (post : Nat) (s : State) : Host.Outcome State Fault Refusal := s.ctl (orderAged n post)

/-- JOB_LIMIT_ABORT (R140). -/
def execJobLimitAbort (st : Fin 128) (s : State) : Host.Outcome State Fault Refusal := s.mach (jobLimitAbort st)

/-- MIX_CUTOFF (R147). -/
def execMixCutoff (y : Fin 4) (s : State) : Host.Outcome State Fault Refusal := s.mach (mixCutoff y)

/-- FEED_DISPATCH (R147). -/
def execFeedDispatch (y : Fin 4) (s : State) : Host.Outcome State Fault Refusal := s.ctl (feedDispatch y)

/-- XBAR_AGE_PROMOTE (R143). -/
def execXbarAgePromote (y : Fin 4) (ch : Fin 16) (s : State) : Host.Outcome State Fault Refusal :=
  s.ctl (xbarAgePromote y ch)

/-- YARD_CTRL_WRITE (R158). -/
def execYardCtrlWrite (m : Master) (y : Fin 4) (d : BitVec 32) (s : State) : Host.Outcome State Fault Refusal :=
  s.ctl (yardCtrlWrite m y d.toNat)

/-- YARD_CONFIG_APPLY (R136). -/
def execYardConfigApply (y : Fin 4) (s : State) : Host.Outcome State Fault Refusal := s.ctl (yardConfigApply y)

end Sys2Proof.Machine
end

