-- ==== Sys2Proof/Machine/Dispatch.lean ====
section
/-! DEFINITION. The dispatch: one arm per command, each a direct call of its meaning. -/
namespace Sys2Proof.Machine

def exec (i : Instr) (s : State) : Host.Outcome State Fault Refusal :=
  match i with
  | .registerWrite m a n d => Sys2Proof.Machine.execRegisterWrite m a n d s
  | .bar2Access fn addr len data => Sys2Proof.Machine.execBar2Access fn addr len data s
  | .rootLost => Sys2Proof.Machine.execRootLost s
  | .pllLockLoss p => Sys2Proof.Machine.execPllLockLoss p s
  | .pllRelock p => Sys2Proof.Machine.execPllRelock p s
  | .windowBoundary ecc mean peak battMv busMv => Sys2Proof.Machine.execWindowBoundary ecc mean peak battMv busMv s
  | .tickBoundary => Sys2Proof.Machine.execTickBoundary s
  | .winCtrlWrite m d => Sys2Proof.Machine.execWinCtrlWrite m d s
  | .tickLengthChange => Sys2Proof.Machine.execTickLengthChange s
  | .winStart => Sys2Proof.Machine.execWinStart s
  | .winStop => Sys2Proof.Machine.execWinStop s
  | .winCountRead => Sys2Proof.Machine.execWinCountRead s
  | .guardPoint late => Sys2Proof.Machine.execGuardPoint late s
  | .mainsOkChange ok => Sys2Proof.Machine.execMainsOkChange ok s
  | .battPresenceChange present => Sys2Proof.Machine.execBattPresenceChange present s
  | .battLowSet => Sys2Proof.Machine.execBattLowSet s
  | .battCutoff => Sys2Proof.Machine.execBattCutoff s
  | .battPathClose => Sys2Proof.Machine.execBattPathClose s
  | .battLowClear => Sys2Proof.Machine.execBattLowClear s
  | .jobAllowWrite k d => Sys2Proof.Machine.execJobAllowWrite k d s
  | .ledgerLimitWrite m w d => Sys2Proof.Machine.execLedgerLimitWrite m w d s
  | .ledgCostWrite m ix d => Sys2Proof.Machine.execLedgCostWrite m ix d s
  | .objEntryWrite m o w d => Sys2Proof.Machine.execObjEntryWrite m o w d s
  | .objActivate m o => Sys2Proof.Machine.execObjActivate m o s
  | .objDeactivate m o => Sys2Proof.Machine.execObjDeactivate m o s
  | .scheduledActivation => Sys2Proof.Machine.execScheduledActivation s
  | .srcEntryWrite m ix w d => Sys2Proof.Machine.execSrcEntryWrite m ix w d s
  | .srcEnable m ix => Sys2Proof.Machine.execSrcEnable m ix s
  | .srcDisable m ix => Sys2Proof.Machine.execSrcDisable m ix s
  | .ringLengthWrite m ix d => Sys2Proof.Machine.execRingLengthWrite m ix d s
  | .ringLengthChange ix => Sys2Proof.Machine.execRingLengthChange ix s
  | .feedEntryWrite m f w d => Sys2Proof.Machine.execFeedEntryWrite m f w d s
  | .zoneEntryWrite m z w d => Sys2Proof.Machine.execZoneEntryWrite m z w d s
  | .planEntryWrite m p w d => Sys2Proof.Machine.execPlanEntryWrite m p w d s
  | .sceneLoad p => Sys2Proof.Machine.execSceneLoad p s
  | .sceneLoadDone => Sys2Proof.Machine.execSceneLoadDone s
  | .sceneSwitch p => Sys2Proof.Machine.execSceneSwitch p s
  | .sceneSwitchBoundary => Sys2Proof.Machine.execSceneSwitchBoundary s
  | .sysLawWrite m d => Sys2Proof.Machine.execSysLawWrite m d s
  | .corrLoadGo m f b slot => Sys2Proof.Machine.execCorrLoadGo m f b slot s
  | .bankLoadComplete => Sys2Proof.Machine.execBankLoadComplete s
  | .bankLoadTimeout => Sys2Proof.Machine.execBankLoadTimeout s
  | .corrSwap m f target fade => Sys2Proof.Machine.execCorrSwap m f target fade s
  | .bankFadeEnd f => Sys2Proof.Machine.execBankFadeEnd f s
  | .pendingSwapStart f => Sys2Proof.Machine.execPendingSwapStart f s
  | .corrBqWrite m => Sys2Proof.Machine.execCorrBqWrite m s
  | .corrBqRead => Sys2Proof.Machine.execCorrBqRead s
  | .stiUpdate z m0 m1 => Sys2Proof.Machine.execStiUpdate z m0 m1 s
  | .ambientFrame y k mic => Sys2Proof.Machine.execAmbientFrame y k mic s
  | .guardRelax z => Sys2Proof.Machine.execGuardRelax z s
  | .post k rd ra => Sys2Proof.Machine.execPost k rd ra s
  | .jobDispatch st => Sys2Proof.Machine.execJobDispatch st s
  | .orderAged n post => Sys2Proof.Machine.execOrderAged n post s
  | .jobLimitAbort st => Sys2Proof.Machine.execJobLimitAbort st s
  | .queuePointerMismatch q => Sys2Proof.Machine.execQueuePointerMismatch q s
  | .mixCutoff y => Sys2Proof.Machine.execMixCutoff y s
  | .feedDispatch y => Sys2Proof.Machine.execFeedDispatch y s
  | .xbarAgePromote y ch => Sys2Proof.Machine.execXbarAgePromote y ch s
  | .yardCtrlWrite m y d => Sys2Proof.Machine.execYardCtrlWrite m y d s
  | .yardConfigApply y => Sys2Proof.Machine.execYardConfigApply y s
  | .vmacC k d b src => Sys2Proof.Machine.execVmacC k d b src s
  | .vmsuC k d b src => Sys2Proof.Machine.execVmsuC k d b src s
  | .vmulC k d b src => Sys2Proof.Machine.execVmulC k d b src s
  | .vmacS k d b src => Sys2Proof.Machine.execVmacS k d b src s
  | .vmulS k d b src => Sys2Proof.Machine.execVmulS k d b src s
  | .smac k d cf y => Sys2Proof.Machine.execSmac k d cf y s
  | .smsu k d cf y => Sys2Proof.Machine.execSmsu k d cf y s
  | .smul k d cf y => Sys2Proof.Machine.execSmul k d cf y s
  | .aclr k mask => Sys2Proof.Machine.execAclr k mask s
  | .aadd k d src => Sys2Proof.Machine.execAadd k d src s
  | .asub k d src => Sys2Proof.Machine.execAsub k d src s
  | .paddi k d imm => Sys2Proof.Machine.execPaddi k d imm s
  | .padd k d src => Sys2Proof.Machine.execPadd k d src s
  | .psub k d src => Sys2Proof.Machine.execPsub k d src s
  | .pmov k d src => Sys2Proof.Machine.execPmov k d src s
  | .pli k d imm => Sys2Proof.Machine.execPli k d imm s
  | .pshl k d n => Sys2Proof.Machine.execPshl k d n s
  | .pshr k d n => Sys2Proof.Machine.execPshr k d n s
  | .pand k d src => Sys2Proof.Machine.execPand k d src s
  | .setc k n src => Sys2Proof.Machine.execSetc k n src s
  | .setci k n imm => Sys2Proof.Machine.execSetci k n imm s
  | .mset k n src => Sys2Proof.Machine.execMset k n src s
  | .pst k d => Sys2Proof.Machine.execPst k d s
  | .ld1 k d p post => Sys2Proof.Machine.execLd1 k d p post s
  | .st1 k src p post => Sys2Proof.Machine.execSt1 k src p post s
  | .ld4 k g p post rev => Sys2Proof.Machine.execLd4 k g p post rev s
  | .st4 k g p post rev => Sys2Proof.Machine.execSt4 k g p post rev s
  | .mova k d src sh => Sys2Proof.Machine.execMova k d src sh s
  | .mova4 k g h sh => Sys2Proof.Machine.execMova4 k g h sh s
  | .sta k p src sh post => Sys2Proof.Machine.execSta k p src sh post s
  | .acc k p src four rev post => Sys2Proof.Machine.execAcc k p src four rev post s
  | .ldp k d src post => Sys2Proof.Machine.execLdp k d src post s
  | .movv k d src => Sys2Proof.Machine.execMovv k d src s
  | .movp k d src => Sys2Proof.Machine.execMovp k d src s
  | .movpv k d src => Sys2Proof.Machine.execMovpv k d src s
  | .loop k n rot len => Sys2Proof.Machine.execLoop k n rot len s
  | .br k off => Sys2Proof.Machine.execBr k off s
  | .bz k p off => Sys2Proof.Machine.execBz k p off s
  | .bnz k p off => Sys2Proof.Machine.execBnz k p off s
  | .acq k level index => Sys2Proof.Machine.execAcq k level index s
  | .rel k level index => Sys2Proof.Machine.execRel k level index s
  | .strm k ch p => Sys2Proof.Machine.execStrm k ch p s
  | .swait k ch => Sys2Proof.Machine.execSwait k ch s
  | .streamTransferEnd y ch fin => Sys2Proof.Machine.execStreamTransferEnd y ch fin s
  | .setrrb k v => Sys2Proof.Machine.execSetrrb k v s
  | .halt k user => Sys2Proof.Machine.execHalt k user s
  | .accAck st => Sys2Proof.Machine.execAccAck st s
  | .haltComplete st => Sys2Proof.Machine.execHaltComplete st s
  | .add k rd ra rb => Sys2Proof.Machine.execAdd k rd ra rb s
  | .sub k rd ra rb => Sys2Proof.Machine.execSub k rd ra rb s
  | .and k rd ra rb => Sys2Proof.Machine.execAnd k rd ra rb s
  | .or k rd ra rb => Sys2Proof.Machine.execOr k rd ra rb s
  | .xor k rd ra rb => Sys2Proof.Machine.execXor k rd ra rb s
  | .sll k rd ra rb => Sys2Proof.Machine.execSll k rd ra rb s
  | .srl k rd ra rb => Sys2Proof.Machine.execSrl k rd ra rb s
  | .sra k rd ra rb => Sys2Proof.Machine.execSra k rd ra rb s
  | .slt k rd ra rb => Sys2Proof.Machine.execSlt k rd ra rb s
  | .sltu k rd ra rb => Sys2Proof.Machine.execSltu k rd ra rb s
  | .mul k rd ra rb => Sys2Proof.Machine.execMul k rd ra rb s
  | .mulh k rd ra rb => Sys2Proof.Machine.execMulh k rd ra rb s
  | .mulhu k rd ra rb => Sys2Proof.Machine.execMulhu k rd ra rb s
  | .div k rd ra rb => Sys2Proof.Machine.execDiv k rd ra rb s
  | .divu k rd ra rb => Sys2Proof.Machine.execDivu k rd ra rb s
  | .rem k rd ra rb => Sys2Proof.Machine.execRem k rd ra rb s
  | .remu k rd ra rb => Sys2Proof.Machine.execRemu k rd ra rb s
  | .min k rd ra rb => Sys2Proof.Machine.execMin k rd ra rb s
  | .max k rd ra rb => Sys2Proof.Machine.execMax k rd ra rb s
  | .minu k rd ra rb => Sys2Proof.Machine.execMinu k rd ra rb s
  | .maxu k rd ra rb => Sys2Proof.Machine.execMaxu k rd ra rb s
  | .slli k rd ra n => Sys2Proof.Machine.execSlli k rd ra n s
  | .srli k rd ra n => Sys2Proof.Machine.execSrli k rd ra n s
  | .srai k rd ra n => Sys2Proof.Machine.execSrai k rd ra n s
  | .ctz k rd ra => Sys2Proof.Machine.execCtz k rd ra s
  | .clz k rd ra => Sys2Proof.Machine.execClz k rd ra s
  | .addi k rd ra imm => Sys2Proof.Machine.execAddi k rd ra imm s
  | .andi k rd ra imm => Sys2Proof.Machine.execAndi k rd ra imm s
  | .ori k rd ra imm => Sys2Proof.Machine.execOri k rd ra imm s
  | .xori k rd ra imm => Sys2Proof.Machine.execXori k rd ra imm s
  | .slti k rd ra imm => Sys2Proof.Machine.execSlti k rd ra imm s
  | .sltiu k rd ra imm => Sys2Proof.Machine.execSltiu k rd ra imm s
  | .lui k rd imm => Sys2Proof.Machine.execLui k rd imm s
  | .lw k rd ra imm => Sys2Proof.Machine.execLw k rd ra imm s
  | .lh k rd ra imm => Sys2Proof.Machine.execLh k rd ra imm s
  | .lhu k rd ra imm => Sys2Proof.Machine.execLhu k rd ra imm s
  | .lb k rd ra imm => Sys2Proof.Machine.execLb k rd ra imm s
  | .lbu k rd ra imm => Sys2Proof.Machine.execLbu k rd ra imm s
  | .sw k rd ra imm => Sys2Proof.Machine.execSw k rd ra imm s
  | .sh k rd ra imm => Sys2Proof.Machine.execSh k rd ra imm s
  | .sb k rd ra imm => Sys2Proof.Machine.execSb k rd ra imm s
  | .flw k fd ra imm => Sys2Proof.Machine.execFlw k fd ra imm s
  | .fsw k fd ra imm => Sys2Proof.Machine.execFsw k fd ra imm s
  | .beq k ra rb off => Sys2Proof.Machine.execBeq k ra rb off s
  | .bne k ra rb off => Sys2Proof.Machine.execBne k ra rb off s
  | .blt k ra rb off => Sys2Proof.Machine.execBlt k ra rb off s
  | .bge k ra rb off => Sys2Proof.Machine.execBge k ra rb off s
  | .bltu k ra rb off => Sys2Proof.Machine.execBltu k ra rb off s
  | .bgeu k ra rb off => Sys2Proof.Machine.execBgeu k ra rb off s
  | .jal k off => Sys2Proof.Machine.execJal k off s
  | .jalr k rd ra imm => Sys2Proof.Machine.execJalr k rd ra imm s
  | .fadd k rd ra rb => Sys2Proof.Machine.execFadd k rd ra rb s
  | .fsub k rd ra rb => Sys2Proof.Machine.execFsub k rd ra rb s
  | .fmul k rd ra rb => Sys2Proof.Machine.execFmul k rd ra rb s
  | .fdiv k rd ra rb => Sys2Proof.Machine.execFdiv k rd ra rb s
  | .fsqrt k rd ra => Sys2Proof.Machine.execFsqrt k rd ra s
  | .fmin k rd ra rb => Sys2Proof.Machine.execFmin k rd ra rb s
  | .fmax k rd ra rb => Sys2Proof.Machine.execFmax k rd ra rb s
  | .fneg k rd ra => Sys2Proof.Machine.execFneg k rd ra s
  | .fabs k rd ra => Sys2Proof.Machine.execFabs k rd ra s
  | .fmov k rd ra => Sys2Proof.Machine.execFmov k rd ra s
  | .feq k rd ra rb => Sys2Proof.Machine.execFeq k rd ra rb s
  | .flt k rd ra rb => Sys2Proof.Machine.execFlt k rd ra rb s
  | .fle k rd ra rb => Sys2Proof.Machine.execFle k rd ra rb s
  | .ftoi k rd ra n => Sys2Proof.Machine.execFtoi k rd ra n s
  | .itof k rd ra n => Sys2Proof.Machine.execItof k rd ra n s
  | .fmvs k rd ra => Sys2Proof.Machine.execFmvs k rd ra s
  | .fmvf k rd ra => Sys2Proof.Machine.execFmvf k rd ra s
  | .vadd3 k rd ra rb => Sys2Proof.Machine.execVadd3 k rd ra rb s
  | .vsub3 k rd ra rb => Sys2Proof.Machine.execVsub3 k rd ra rb s
  | .vscl3 k rd ra rb => Sys2Proof.Machine.execVscl3 k rd ra rb s
  | .dot3 k rd ra rb => Sys2Proof.Machine.execDot3 k rd ra rb s
  | .vdist k rd ra rb => Sys2Proof.Machine.execVdist k rd ra rb s
  | .cross3 k rd ra rb => Sys2Proof.Machine.execCross3 k rd ra rb s
  | .mv3 k rd ra rb => Sys2Proof.Machine.execMv3 k rd ra rb s
  | .rsq k rd ra => Sys2Proof.Machine.execRsq k rd ra s
  | .mfk k rd n => Sys2Proof.Machine.execMfk k rd n s
  | .mtk k n ra => Sys2Proof.Machine.execMtk k n ra s
  | .waitWAbs k rd ra => Sys2Proof.Machine.execWaitWAbs k rd ra s
  | .waitWNext k rd => Sys2Proof.Machine.execWaitWNext k rd s
  | .waitWTick k rd => Sys2Proof.Machine.execWaitWTick k rd s
  | .waitWResume y => Sys2Proof.Machine.execWaitWResume y s
  | .fence k => Sys2Proof.Machine.execFence k s
  | .trap k n => Sys2Proof.Machine.execTrap k n s
  | .cpop k rd ra => Sys2Proof.Machine.execCpop k rd ra s
  | .ltry k rd ra n => Sys2Proof.Machine.execLtry k rd ra n s
  | .lrel k ra n => Sys2Proof.Machine.execLrel k ra n s
  | .lbs k rd ra n => Sys2Proof.Machine.execLbs k rd ra n s
  | .lbr k rd ra n => Sys2Proof.Machine.execLbr k rd ra n s
  | .lbt k rd n => Sys2Proof.Machine.execLbt k rd n s
  | .seqWatchdog y => Sys2Proof.Machine.execSeqWatchdog y s
  | .seqRestart y => Sys2Proof.Machine.execSeqRestart y s
  | .programLoad p => Sys2Proof.Machine.execProgramLoad p s
  | .programLoadDone => Sys2Proof.Machine.execProgramLoadDone s
  | .imageIntoForce y => Sys2Proof.Machine.execImageIntoForce y s
  | .shutOpenRequest m ix d => Sys2Proof.Machine.execShutOpenRequest m ix d s
  | .shutCloseRequest m ix d => Sys2Proof.Machine.execShutCloseRequest m ix d s
  | .shutterChange => Sys2Proof.Machine.execShutterChange s
  | .fireLoopMeasure ohms => Sys2Proof.Machine.execFireLoopMeasure ohms s
  | .inputStateChange ix => Sys2Proof.Machine.execInputStateChange ix s
  | .relayUpdate k => Sys2Proof.Machine.execRelayUpdate k s
  | .keeperHeartbeatLoss => Sys2Proof.Machine.execKeeperHeartbeatLoss s
  | .planActivate p => Sys2Proof.Machine.execPlanActivate p s
  | .confirmEnd p => Sys2Proof.Machine.execConfirmEnd p s
  | .planChain p => Sys2Proof.Machine.execPlanChain p s
  | .alarmStart p => Sys2Proof.Machine.execAlarmStart p s
  | .alarmStop p => Sys2Proof.Machine.execAlarmStop p s
  | .backstopExpiry p => Sys2Proof.Machine.execBackstopExpiry p s
  | .dieStrobeLoss => Sys2Proof.Machine.execDieStrobeLoss s
  | .stormStoreCheck => Sys2Proof.Machine.execStormStoreCheck s
  | .stormProgrammeStep p => Sys2Proof.Machine.execStormProgrammeStep p s
  | .stormCommit m => Sys2Proof.Machine.execStormCommit m s
  | .stormArm m => Sys2Proof.Machine.execStormArm m s
  | .stormDisarm m => Sys2Proof.Machine.execStormDisarm m s
  | .stormForceWrite m ix d => Sys2Proof.Machine.execStormForceWrite m ix d s
  | .stormReturnRequest m ix d => Sys2Proof.Machine.execStormReturnRequest m ix d s
  | .handbackFade z waited => Sys2Proof.Machine.execHandbackFade z waited s
  | .stormBqWrite m => Sys2Proof.Machine.execStormBqWrite m s
  | .stormBqRead m => Sys2Proof.Machine.execStormBqRead m s
  | .fireInWrite m ix d => Sys2Proof.Machine.execFireInWrite m ix d s
  | .stormEventDeliver => Sys2Proof.Machine.execStormEventDeliver s
  | .hngEnable m => Sys2Proof.Machine.execHngEnable m s
  | .hngDisable m => Sys2Proof.Machine.execHngDisable m s
  | .hngRejoin m => Sys2Proof.Machine.execHngRejoin m s
  | .hngStandDown m => Sys2Proof.Machine.execHngStandDown m s
  | .standDownHandover => Sys2Proof.Machine.execStandDownHandover s
  | .hngProbe m => Sys2Proof.Machine.execHngProbe m s
  | .formWaitExpiry => Sys2Proof.Machine.execFormWaitExpiry s
  | .hingeLinkUp ix => Sys2Proof.Machine.execHingeLinkUp ix s
  | .hingeLinkDown ix => Sys2Proof.Machine.execHingeLinkDown ix s
  | .recordReceive link h payload => Sys2Proof.Machine.execRecordReceive link h payload s
  | .hingeInputReceive link h payload => Sys2Proof.Machine.execHingeInputReceive link h payload s
  | .statusFrameReceive link h info => Sys2Proof.Machine.execStatusFrameReceive link h info s
  | .bulkFrameReceive link h part pct => Sys2Proof.Machine.execBulkFrameReceive link h part pct s
  | .stateFrameReceive link h set => Sys2Proof.Machine.execStateFrameReceive link h set s
  | .journalApply => Sys2Proof.Machine.execJournalApply s
  | .probePeriodic => Sys2Proof.Machine.execProbePeriodic s
  | .probeResult pass => Sys2Proof.Machine.execProbeResult pass s
  | .duplexDecision => Sys2Proof.Machine.execDuplexDecision s
  | .triplexVote => Sys2Proof.Machine.execTriplexVote s
  | .heartbeatLoss r => Sys2Proof.Machine.execHeartbeatLoss r s
  | .orphanStandDown => Sys2Proof.Machine.execOrphanStandDown s
  | .orphanPromote => Sys2Proof.Machine.execOrphanPromote s
  | .syncPhaseAdvance => Sys2Proof.Machine.execSyncPhaseAdvance s
  | .gateUp g => Sys2Proof.Machine.execGateUp g s
  | .gateDown g => Sys2Proof.Machine.execGateDown g s
  | .cellSlotSend g => Sys2Proof.Machine.execCellSlotSend g s
  | .cellEscape g vc => Sys2Proof.Machine.execCellEscape g vc s
  | .creditSend g => Sys2Proof.Machine.execCreditSend g s
  | .creditCellReceive g cell => Sys2Proof.Machine.execCreditCellReceive g cell s
  | .knockSend g => Sys2Proof.Machine.execKnockSend g s
  | .knockReceive g cell => Sys2Proof.Machine.execKnockReceive g cell s
  | .rootTimeout => Sys2Proof.Machine.execRootTimeout s
  | .addressExpiry n => Sys2Proof.Machine.execAddressExpiry n s
  | .dataCellReceive g cell => Sys2Proof.Machine.execDataCellReceive g cell s
  | .mirrorReceive g cell => Sys2Proof.Machine.execMirrorReceive g cell s
  | .refuseReceive g cell => Sys2Proof.Machine.execRefuseReceive g cell s
  | .topoReceive g cell => Sys2Proof.Machine.execTopoReceive g cell s
  | .routeReceive g cell flows => Sys2Proof.Machine.execRouteReceive g cell flows s
  | .exportsReceive g cell classes => Sys2Proof.Machine.execExportsReceive g cell classes s
  | .switchReceive g cell => Sys2Proof.Machine.execSwitchReceive g cell s
  | .tickReceive g cell => Sys2Proof.Machine.execTickReceive g cell s
  | .ackReceive g cell => Sys2Proof.Machine.execAckReceive g cell s
  | .routeCompute subs => Sys2Proof.Machine.execRouteCompute subs s
  | .generationSwitch => Sys2Proof.Machine.execGenerationSwitch s
  | .timeCellSend g => Sys2Proof.Machine.execTimeCellSend g s
  | .timeCellReceive g t1 t2 t3 t4 => Sys2Proof.Machine.execTimeCellReceive g t1 t2 t3 t4 s
  | .fabJoin => Sys2Proof.Machine.execFabJoin s
  | .fabTick len => Sys2Proof.Machine.execFabTick len s
  | .fabCfgWrite d => Sys2Proof.Machine.execFabCfgWrite d s
  | .netLinkChange p up => Sys2Proof.Machine.execNetLinkChange p up s
  | .netCfgWrite p d => Sys2Proof.Machine.execNetCfgWrite p d s
  | .frameReceive p f info => Sys2Proof.Machine.execFrameReceive p f info s
  | .ptpMessageSend p msg => Sys2Proof.Machine.execPtpMessageSend p msg s
  | .ptpAnnounceTimeout p state => Sys2Proof.Machine.execPtpAnnounceTimeout p state s
  | .pauseExpiry p => Sys2Proof.Machine.execPauseExpiry p s
  | .frameTxOpportunity p frags => Sys2Proof.Machine.execFrameTxOpportunity p frags s
  | .preemptVerifyAttempt p ok => Sys2Proof.Machine.execPreemptVerifyAttempt p ok s
  | .netVerify p => Sys2Proof.Machine.execNetVerify p s
  | .netStatClr p => Sys2Proof.Machine.execNetStatClr p s
  | .netLrepPop p => Sys2Proof.Machine.execNetLrepPop p s
  | .streamStall n => Sys2Proof.Machine.execStreamStall n s
  | .rxStreamEnable n d => Sys2Proof.Machine.execRxStreamEnable n d s
  | .txStreamEnable n d => Sys2Proof.Machine.execTxStreamEnable n d s
  | .txPacketize n => Sys2Proof.Machine.execTxPacketize n s
  | .timeAdjWrite d => Sys2Proof.Machine.execTimeAdjWrite d s
  | .timeNowRead => Sys2Proof.Machine.execTimeNowRead s
  | .audioFrameReceive p f => Sys2Proof.Machine.execAudioFrameReceive p f s
  | .srcConverterLock ix => Sys2Proof.Machine.execSrcConverterLock ix s
  | .tdmFsyncLoss ix => Sys2Proof.Machine.execTdmFsyncLoss ix s
  | .audioFrameSend p => Sys2Proof.Machine.execAudioFrameSend p s
  | .emicSupervisionMeasure ix ohms => Sys2Proof.Machine.execEmicSupervisionMeasure ix ohms s
  | .outmapApply => Sys2Proof.Machine.execOutmapApply s
  | .downlinkFrameSend l => Sys2Proof.Machine.execDownlinkFrameSend l s
  | .backchannelFrameReceive l violation b => Sys2Proof.Machine.execBackchannelFrameReceive l violation b s
  | .backchannelCommaLoss l => Sys2Proof.Machine.execBackchannelCommaLoss l s
  | .ampAddressAbsent l a => Sys2Proof.Machine.execAmpAddressAbsent l a s
  | .ampCtrlWrite d => Sys2Proof.Machine.execAmpCtrlWrite d s
  | .ampMsgSend l addr data => Sys2Proof.Machine.execAmpMsgSend l addr data s
  | .dramRequestAccept req m cls addr len data => Sys2Proof.Machine.execDramRequestAccept req m cls addr len data s
  | .dramCommandSlot ch refresh banks ecc => Sys2Proof.Machine.execDramCommandSlot ch refresh banks ecc s
  | .dramAgePromote ch ix => Sys2Proof.Machine.execDramAgePromote ch ix s
  | .dramTempRead code => Sys2Proof.Machine.execDramTempRead code s
  | .selfRefreshEntry => Sys2Proof.Machine.execSelfRefreshEntry s
  | .selfRefreshExit added => Sys2Proof.Machine.execSelfRefreshExit added s
  | .thaw m d => Sys2Proof.Machine.execThaw m d s
  | .matrixGrant t reqs => Sys2Proof.Machine.execMatrixGrant t reqs s
  | .matrixAgePromote t m => Sys2Proof.Machine.execMatrixAgePromote t m s
  | .matrixTimeout t m a write => Sys2Proof.Machine.execMatrixTimeout t m a write s
  | .dropPkt => Sys2Proof.Machine.execDropPkt s
  | .pcieLinkReset down => Sys2Proof.Machine.execPcieLinkReset down s
  | .functionLevelReset fn => Sys2Proof.Machine.execFunctionLevelReset fn s
  | .letterboxDataWrite m n w d => Sys2Proof.Machine.execLetterboxDataWrite m n w d s
  | .lbGoWrite m n => Sys2Proof.Machine.execLbGoWrite m n s
  | .lbGoRead m n => Sys2Proof.Machine.execLbGoRead m n s
  | .letterboxStandoff p => Sys2Proof.Machine.execLetterboxStandoff p s
  | .mbxAllocWrite k d => Sys2Proof.Machine.execMbxAllocWrite k d s
  | .version p => Sys2Proof.Machine.execVersion p s
  | .status p => Sys2Proof.Machine.execStatus p s
  | .arm p => Sys2Proof.Machine.execArm p s
  | .armExecute => Sys2Proof.Machine.execArmExecute s
  | .disarm p => Sys2Proof.Machine.execDisarm p s
  | .planSet p => Sys2Proof.Machine.execPlanSet p s
  | .stormSet p => Sys2Proof.Machine.execStormSet p s
  | .budgetSet p => Sys2Proof.Machine.execBudgetSet p s
  | .calRunLedger p costs windows => Sys2Proof.Machine.execCalRunLedger p costs windows s
  | .calRunLine p => Sys2Proof.Machine.execCalRunLine p s
  | .lineBaselineDone => Sys2Proof.Machine.execLineBaselineDone s
  | .calRunStall p pass windows => Sys2Proof.Machine.execCalRunStall p pass windows s
  | .fwUpdateKeeper p => Sys2Proof.Machine.execFwUpdateKeeper p s
  | .fwUpdateStorm p => Sys2Proof.Machine.execFwUpdateStorm p s
  | .fwUpdateDone => Sys2Proof.Machine.execFwUpdateDone s
  | .logRead p => Sys2Proof.Machine.execLogRead p s
  | .latchBreak p => Sys2Proof.Machine.execLatchBreak p s
  | .sessionOpen p => Sys2Proof.Machine.execSessionOpen p s
  | .sessionAuth p => Sys2Proof.Machine.execSessionAuth p s
  | .sessionClose p => Sys2Proof.Machine.execSessionClose p s
  | .sessionIdleTimeout p => Sys2Proof.Machine.execSessionIdleTimeout p s
  | .lockoutEnd p => Sys2Proof.Machine.execLockoutEnd p s
  | .keeperCommandTimeout code => Sys2Proof.Machine.execKeeperCommandTimeout code s
  | .latchRead m ix => Sys2Proof.Machine.execLatchRead m ix s
  | .latchWrite m ix => Sys2Proof.Machine.execLatchWrite m ix s
  | .evtPendClear g d => Sys2Proof.Machine.execEvtPendClear g d s
  | .evtEoi d => Sys2Proof.Machine.execEvtEoi d s
  | .evtPop => Sys2Proof.Machine.execEvtPop s
  | .msixUnmask fn v => Sys2Proof.Machine.execMsixUnmask fn v s
  | .patrolScrubStep ecc => Sys2Proof.Machine.execPatrolScrubStep ecc s
  | .storeScrub y hits => Sys2Proof.Machine.execStoreScrub y hits s
  | .lineNomeasTimeout f => Sys2Proof.Machine.execLineNomeasTimeout f s
  | .zqCalibration ok => Sys2Proof.Machine.execZqCalibration ok s
  | .strobeTracking ok => Sys2Proof.Machine.execStrobeTracking ok s
  | .safeCheck cycles => Sys2Proof.Machine.execSafeCheck cycles s
  | .sensorRead v => Sys2Proof.Machine.execSensorRead v s
  | .flashPatrol moved retired bad => Sys2Proof.Machine.execFlashPatrol moved retired bad s
  | .monitorOutput ch => Sys2Proof.Machine.execMonitorOutput ch s
  | .monitorRecordMove => Sys2Proof.Machine.execMonitorRecordMove s
  | .monSync groups => Sys2Proof.Machine.execMonSync groups s
  | .monSyncReset => Sys2Proof.Machine.execMonSyncReset s
  | .monChWrite ch w d => Sys2Proof.Machine.execMonChWrite ch w d s
  | .powerReset => Sys2Proof.Machine.execPowerReset s
  | .pinReset => Sys2Proof.Machine.execPinReset s
  | .dieReset => Sys2Proof.Machine.execDieReset s
  | .keeperReset => Sys2Proof.Machine.execKeeperReset s
  | .keeperRestartComplete => Sys2Proof.Machine.execKeeperRestartComplete s
  | .bootFirmwareStart ok0 ok1 => Sys2Proof.Machine.execBootFirmwareStart ok0 ok1 s
  | .dramInitComplete => Sys2Proof.Machine.execDramInitComplete s
  | .profileApply => Sys2Proof.Machine.execProfileApply s
  | .autoArmAttempt => Sys2Proof.Machine.execAutoArmAttempt s
  | .audioLockHold => Sys2Proof.Machine.execAudioLockHold s
  | .rootReturnHold => Sys2Proof.Machine.execRootReturnHold s
  | .dieStrobeAbsent => Sys2Proof.Machine.execDieStrobeAbsent s
  | .keeperThaw => Sys2Proof.Machine.execKeeperThaw s
  | .dieOvertemp => Sys2Proof.Machine.execDieOvertemp s
  | .dieTempRecover => Sys2Proof.Machine.execDieTempRecover s
  | .psuOvertemp => Sys2Proof.Machine.execPsuOvertemp s
  | .psuTempRecover ok => Sys2Proof.Machine.execPsuTempRecover ok s
  | .stagingSlot samples => Sys2Proof.Machine.execStagingSlot samples s
  | .rootReturn => Sys2Proof.Machine.execRootReturn s
  | .pcieLinkUp gen width en0 en1 => Sys2Proof.Machine.execPcieLinkUp gen width en0 en1 s
  | .nopBundle k => Sys2Proof.Machine.execNopBundle k s

end Sys2Proof.Machine
end

