-- ==== Sys2Proof/Decode.lean ====
section
/-! DEFINITION. Words that spell commands. spec/opcode_table.json gives no row any bits; chapters 07 and 08 give the words of the
stalls' bundles (R160) and of the sequencers' instructions (R189), which are decoded here by those tables. -/
namespace Sys2Proof

/-- The command that a word spells by the bits of the opcode table: none, because no row of the table has any. -/
def decodeTableWord (_nbits _w : Nat) : Option Instr := none

/-! ## Fields -/

/-- Bits [hi:lo] of a word. -/
def fieldOf (w hi lo : Nat) : Nat := w / 2 ^ lo % 2 ^ (hi - lo + 1)

/-- The field as a number of a range. -/
def finOf (w hi lo : Nat) (n : Nat) [NeZero n] : Fin n := Fin.ofNat n (fieldOf w hi lo)

/-- Notes that a word has a field marked 0 that is not 0, or a reserved opcode. -/
def Slot.check (k : Slot) (bad : Bool) : Slot := { k with mbz := k.mbz || bad }

/-- The same for an instruction word. -/
def Issue.check (k : Issue) (bad : Bool) : Issue := { k with mbz := k.mbz || bad }

/-! ## Bundles (R160, R169, R170, R172, R175) -/

/-- The operation that 16 bits of the M slot spell; they are not all 0. -/
def mSlot (k : Slot) (w : Nat) : Instr :=
  let d := finOf w 12 12 2
  let b := finOf w 11 6 64
  let s := finOf w 5 0 64
  let r := finOf w 12 10 8
  let c := finOf w 8 6 8
  match fieldOf w 15 13 with
  | 1 => .vmacC k d b s
  | 2 => .vmsuC k d b s
  | 3 => .vmulC k d b s
  | 4 => .vmacS k d b s
  | 5 => .vmulS k d b s
  | 6 => if fieldOf w 9 9 = 0 then .smac k r c s else .smsu k r c s
  | 7 => .smul (k.check (fieldOf w 9 9 != 0)) r c s
  | _ =>
    let z := k.check (fieldOf w 9 9 != 0 || fieldOf w 2 0 != 0)
    match fieldOf w 12 10 with
    | 1 => .aclr (k.check (fieldOf w 9 8 != 0)) (finOf w 7 0 256)
    | 2 => .aadd z c (finOf w 5 3 8)
    | 3 => .asub z c (finOf w 5 3 8)
    | _ => .nopBundle (k.check true)

/-- The operation that 16 bits of the A slot spell; they are not all 0. -/
def aSlot (k : Slot) (w : Nat) : Instr :=
  let d := finOf w 11 8 16
  let s := finOf w 3 0 16
  let imm := BitVec.ofNat 8 w
  let n := finOf w 11 10 4
  let z := k.check (fieldOf w 7 4 != 0)
  let sh := k.check (fieldOf w 7 5 != 0)
  let mid := k.check (fieldOf w 9 4 != 0)
  match fieldOf w 15 12 with
  | 1 => .paddi k d imm
  | 2 => .padd z d s
  | 3 => .psub z d s
  | 4 => .pmov z d s
  | 5 => .pli k d imm
  | 6 => .pshl sh d (finOf w 4 0 32)
  | 7 => .pshr sh d (finOf w 4 0 32)
  | 8 => .pand z d s
  | 9 => .setc mid n s
  | 10 => .setci (k.check (fieldOf w 9 8 != 0)) n imm
  | 11 => .mset mid n s
  | 12 => .pst (k.check (fieldOf w 7 0 != 0)) d
  | _ => .nopBundle (k.check true)

/-- The operation that 16 bits of the L slot spell; they are not all 0. -/
def lSlot (k : Slot) (w : Nat) : Instr :=
  let d := finOf w 11 6 64
  let g := finOf w 11 8 16
  let p := finOf w 5 2 16
  let q := finOf w 7 4 16
  let post := finOf w 1 0 4
  let hi := finOf w 3 2 4
  let src := finOf w 7 5 8
  match fieldOf w 15 12 with
  | 1 => .ld1 k d p post
  | 2 => .st1 k d p post
  | 3 => .ld4 (k.check (fieldOf w 0 0 != 0)) g q hi (fieldOf w 1 1 == 1)
  | 4 => .st4 (k.check (fieldOf w 0 0 != 0)) g q hi (fieldOf w 1 1 == 1)
  | 5 => .mova k d (finOf w 5 3 8) (finOf w 2 0 8)
  | 6 => .mova4 (k.check (fieldOf w 3 0 != 0)) g (finOf w 7 7 2) (finOf w 6 4 8)
  | 7 => .sta k g src (finOf w 4 2 8) post
  | 8 => .acc (k.check (fieldOf w 0 0 != 0)) g src (fieldOf w 4 4 == 1) (fieldOf w 3 3 == 1) (finOf w 2 1 4)
  | 9 => .ldp (k.check (fieldOf w 1 0 != 0)) g q hi
  | 10 => .movv k d (finOf w 5 0 64)
  | 11 => .movp (k.check (fieldOf w 1 0 != 0)) d p
  | 12 => .movpv (k.check (fieldOf w 1 0 != 0)) g (finOf w 7 2 64)
  | _ => .nopBundle (k.check true)

/-- The operation that 16 bits of the C slot spell; they are not all 0. -/
def cSlot (k : Slot) (w : Nat) : Instr :=
  let p := finOf w 11 8 16
  let off := BitVec.ofNat 8 w
  let top := k.check (fieldOf w 11 8 != 0)
  let mid := k.check (fieldOf w 9 6 != 0)
  match fieldOf w 15 12 with
  | 1 => .loop k (finOf w 11 10 4) (finOf w 9 8 4) (finOf w 7 0 256)
  | 2 => .br top off
  | 3 => .bz k p off
  | 4 => .bnz k p off
  | 5 => .acq mid (finOf w 11 10 4) (finOf w 5 0 64)
  | 6 => .rel mid (finOf w 11 10 4) (finOf w 5 0 64)
  | 7 => .strm (k.check (fieldOf w 3 0 != 0)) p (finOf w 7 4 16)
  | 8 => .swait (k.check (fieldOf w 7 0 != 0)) p
  | 9 => .setrrb (k.check (fieldOf w 11 5 != 0)) (finOf w 4 0 32)
  | 10 => .halt top off
  | _ => .nopBundle (k.check true)

/-- The operations of a bundle's slots that are not NOP, by their decoders. -/
def slotOps (w : Nat) : List (Slot → Instr) :=
  ([(mSlot, 0), (aSlot, 16), (lSlot, 32), (cSlot, 48)].filter (fun e => w / 2 ^ e.2 % 65536 != 0)).map
    (fun e k => e.1 k (w / 2 ^ e.2 % 65536))

/-- The commands that a 64-bit bundle spells, `k` for all of them: the cycles for which the stall is frozen lie before the first,
and the last one ends the bundle. A slot of 16 zero bits is NOP, and so is the all-zero bundle (R160). -/
def decodeBundle (k : Slot) (w : Nat) : List Instr :=
  match slotOps w with
  | [] => [.nopBundle { k with last := true }]
  | l => l.zipIdx.map (fun e => e.1 { k with last := e.2 + 1 == l.length, frozen := if e.2 = 0 then k.frozen else 0 })

/-! ## Instruction words (R189 to R191, R197, R198, R205, R206) -/

/-- Format R, opcode 0x00: the integer functions (R191). -/
def intWord (k : Issue) (w : Nat) : Instr :=
  let rd := finOf w 25 21 32
  let ra := finOf w 20 16 32
  let rb := finOf w 15 11 32
  let z := k.check (fieldOf w 15 11 != 0)
  match fieldOf w 10 0 with
  | 0 => .add k rd ra rb | 1 => .sub k rd ra rb | 2 => .and k rd ra rb | 3 => .or k rd ra rb | 4 => .xor k rd ra rb
  | 5 => .sll k rd ra rb | 6 => .srl k rd ra rb | 7 => .sra k rd ra rb | 8 => .slt k rd ra rb | 9 => .sltu k rd ra rb
  | 10 => .mul k rd ra rb | 11 => .mulh k rd ra rb | 12 => .mulhu k rd ra rb | 13 => .div k rd ra rb | 14 => .divu k rd ra rb
  | 15 => .rem k rd ra rb | 16 => .remu k rd ra rb | 17 => .min k rd ra rb | 18 => .max k rd ra rb | 19 => .minu k rd ra rb
  | 20 => .maxu k rd ra rb | 21 => .slli k rd ra rb | 22 => .srli k rd ra rb | 23 => .srai k rd ra rb
  | 24 => .ctz z rd ra | 25 => .clz z rd ra
  | _ => .add (k.check true) rd ra rb

/-- Format R, opcode 0x1A: the FPU functions (R197). -/
def fpuWord (k : Issue) (w : Nat) : Instr :=
  let rd := finOf w 25 21 32
  let ra := finOf w 20 16 32
  let rb := finOf w 15 11 32
  let z := k.check (fieldOf w 15 11 != 0)
  match fieldOf w 10 0 with
  | 0 => .fadd k rd ra rb | 1 => .fsub k rd ra rb | 2 => .fmul k rd ra rb | 3 => .fdiv k rd ra rb | 4 => .fsqrt z rd ra
  | 5 => .fmin k rd ra rb | 6 => .fmax k rd ra rb | 7 => .fneg z rd ra | 8 => .fabs z rd ra | 9 => .fmov z rd ra
  | 10 => .feq k rd ra rb | 11 => .flt k rd ra rb | 12 => .fle k rd ra rb | 13 => .ftoi k rd ra rb | 14 => .itof k rd ra rb
  | 15 => .fmvs z rd ra | 16 => .fmvf z rd ra
  | _ => .fadd (k.check true) rd ra rb

/-- Format R, opcode 0x1B: the geometry functions (R198). -/
def geoWord (k : Issue) (w : Nat) : Instr :=
  let rd := finOf w 25 21 32
  let ra := finOf w 20 16 32
  let rb := finOf w 15 11 32
  match fieldOf w 10 0 with
  | 0 => .vadd3 k rd ra rb | 1 => .vsub3 k rd ra rb | 2 => .vscl3 k rd ra rb | 3 => .dot3 k rd ra rb | 4 => .vdist k rd ra rb
  | 5 => .cross3 k rd ra rb | 6 => .mv3 k rd ra rb | 7 => .rsq k rd ra
  | _ => .vadd3 (k.check true) rd ra rb

/-- Format S, opcode 0x1C (R190). -/
def sysWord (k : Issue) (w : Nat) : Instr :=
  let rd := finOf w 25 21 32
  let ra := finOf w 20 16 32
  let n := finOf w 15 10 64
  let k := k.check (fieldOf w 9 6 != 0)
  let z := k.check (fieldOf w 15 10 != 0)
  let none' := fieldOf w 25 16 != 0
  match fieldOf w 5 0 with
  | 1 => .mfk k rd n
  | 2 => .mtk k n ra
  | 3 => .waitWAbs z rd ra
  | 4 => .waitWNext z rd
  | 5 => .waitWTick z rd
  | 6 => .fence (z.check none')
  | 7 => .trap (k.check none') n
  | 8 => .cpop z rd ra
  | _ => .fence (k.check true)

/-- Format I, opcode 0x1E: the latches (R205). -/
def latchWord (k : Issue) (w : Nat) : Instr :=
  let rd := finOf w 25 21 32
  let ra := finOf w 20 16 32
  let k := k.check (fieldOf w 14 6 != 0)
  if fieldOf w 15 15 = 0 then .ltry k rd ra (finOf w 5 0 64) else .lrel (k.check (fieldOf w 25 21 != 0)) ra (finOf w 5 0 64)

/-- Format I, opcode 0x1F: the letterboxes (R206). -/
def mbxWord (k : Issue) (w : Nat) : Instr :=
  let rd := finOf w 25 21 32
  let ra := finOf w 20 16 32
  let n := finOf w 15 12 16
  let k := k.check (fieldOf w 11 2 != 0)
  match fieldOf w 1 0 with
  | 0 => .lbs k rd ra n
  | 1 => .lbr k rd ra n
  | 2 => .lbt (k.check (fieldOf w 20 16 != 0)) rd n
  | _ => .lbt (k.check true) rd n

/-- The command that a 32-bit instruction word spells. A reserved opcode or function, or a field marked 0 that is not, is ILLEGAL
whatever command carries it (R189). -/
def decodeScalar (k : Issue) (w : Nat) : Instr :=
  let rd := finOf w 25 21 32
  let ra := finOf w 20 16 32
  let imm := BitVec.ofNat 16 w
  match fieldOf w 31 26 with
  | 0x00 => intWord k w
  | 0x01 => .addi k rd ra imm | 0x02 => .andi k rd ra imm | 0x03 => .ori k rd ra imm | 0x04 => .xori k rd ra imm
  | 0x05 => .slti k rd ra imm | 0x06 => .sltiu k rd ra imm | 0x07 => .lui (k.check (fieldOf w 20 16 != 0)) rd imm
  | 0x08 => .lw k rd ra imm | 0x09 => .lh k rd ra imm | 0x0A => .lhu k rd ra imm | 0x0B => .lb k rd ra imm
  | 0x0C => .lbu k rd ra imm | 0x0D => .sw k rd ra imm | 0x0E => .sh k rd ra imm | 0x0F => .sb k rd ra imm
  | 0x10 => .flw k rd ra imm | 0x11 => .fsw k rd ra imm
  | 0x12 => .beq k rd ra imm | 0x13 => .bne k rd ra imm | 0x14 => .blt k rd ra imm | 0x15 => .bge k rd ra imm
  | 0x16 => .bltu k rd ra imm | 0x17 => .bgeu k rd ra imm
  | 0x18 => .jal k (BitVec.ofNat 26 w) | 0x19 => .jalr k rd ra imm
  | 0x1A => fpuWord k w | 0x1B => geoWord k w | 0x1C => sysWord k w
  | 0x1D => .post (k.check (fieldOf w 15 0 != 0)) rd ra
  | 0x1E => latchWord k w | 0x1F => mbxWord k w
  | _ => .add (k.check true) rd ra 0

end Sys2Proof
end

