-- ==== Sys2Proof/Machine/Fetch.lean ====
section
/-! DEFINITION. What the engines fetch: the commands that the words at a stall's or a sequencer's pc spell (R160, R181, R189). -/
namespace Sys2Proof.Machine

/-- The commands of the bundle that a stall's job fetches next; `k` says how it issues (R160). -/
def Mach.bundleCmds (x : Mach) (k : Slot) : List Instr :=
  match x.c.stall? k.stall with
  | none => []
  | some st => decodeBundle k (x.m.store.rdN (storeAt k.stall st.pc) 8)

/-- The command of the word that a yard's sequencer fetches next (R189). -/
def Mach.seqCmd (x : Mach) (k : Issue) : Instr :=
  decodeScalar k (x.m.imem.rdN (x.c.seqHalf k.yard + (x.c.seq k.yard).pc) 4)

/-- A stall's next bundle, put at the front of the queue. -/
def State.fetchBundle (s : State) (k : Slot) : State := { s with pending := s.m.bundleCmds k ++ s.pending }

/-- A sequencer's next instruction, put at the front of the queue. -/
def State.fetchSeq (s : State) (k : Issue) : State := { s with pending := s.m.seqCmd k :: s.pending }

end Sys2Proof.Machine
end

