-- ==== Sys2Proof/WellFormed.lean ====
section
/-! DEFINITION. Which commands are well formed: what a command carries has the shape that the spec gives it (field widths, frame
and list lengths). A check of what comes from outside; the meanings themselves are total. -/
namespace Sys2Proof

/-- A cell's fields fit their bits, and it has sixteen payload words (R268, R269). -/
def Cell.wf (x : Cell) : Bool :=
  decide (x.vc < 4 ∧ x.cls < 4 ∧ x.kind < 8 ∧ x.dst < 2 ^ 14 ∧ x.hops < 16 ∧ x.part < 8 ∧ x.win8 < 256 ∧ x.crCnt < 32 ∧
    x.crVc < 4 ∧ x.aux < 2 ^ 32) && x.words.length == 16 && x.words.all (· < 2 ^ 32)

/-- A flow's gates and hops fit (R282). -/
def Machine.Flow.wf (f : Machine.Flow) : Bool :=
  decide (f.outs < 16 ∧ f.hops < 16) && f.stations.all (fun e => e.1 < 4 && e.2 < 256)

/-- A hinge frame's header fields fit their bits (R245). -/
def HngHead.wf (h : HngHead) : Bool :=
  decide (h.ver < 16 ∧ h.src < 4 ∧ h.dst < 4 ∧ h.group < 2 ^ 16 ∧ h.seq < 2 ^ 16 ∧ h.cwin < 2 ^ 32)

/-- A hinge payload has at most 16,384 words (R245). -/
def payloadWf (l : List Nat) : Bool := decide (l.length ≤ 16384) && l.all (· < 2 ^ 32)

/-- A STATUS frame carries a legal role and sync phase, and nine output CRCs or none (R245, R253). -/
def HngInfo.wf (i : HngInfo) : Bool :=
  decide (i.role < 8 ∧ i.sync < 4) && (i.crcs.isEmpty || i.crcs.length == 9) && i.crcs.all (· < 2 ^ 32)

/-- Register words have BAR0 word addresses and 32 bits. -/
def wordsWf (l : List (Nat × Nat)) : Bool := l.all (fun w => w.1 < 2 ^ 25 && w.1 % 4 == 0 && w.2 < 2 ^ 32)

/-- A STATE set names loft and DMEM bytes that exist, and guard words (R263). -/
def Machine.HngState.wf (s : Machine.HngState) : Bool :=
  decide (s.cwin < 2 ^ 32) && s.loft.all (fun e => e.1 < 4 * 2 ^ 22) && s.dmem.all (fun e => e.1 < 4 * 2 ^ 17) && wordsWf s.zones

/-- A part of the bulk data names words, dense slots, plans, yards and feeds that exist (R263). -/
def Machine.HngBulk.wf : Machine.HngBulk → Bool
  | .tables t => wordsWf t.words && wordsWf t.snap && t.slots.all (fun e => e.1 < 256 && e.2 < 1024) &&
      t.plans.all (fun e => e.1 < 64 && e.2 < 4)
  | .stage s => decide (s.stage < 4) && wordsWf s.words && s.progs.all (·.yards < 16)
  | .image p => decide (p.yards < 16)
  | .bank l _ => decide (l.feed < 768 ∧ l.bank < 2 ∧ 1 ≤ l.taps.length ∧ l.taps.length ≤ 8192)

/-- A PTP engine's result has one of the ten port states (R303). -/
def PtpOut.wf (o : PtpOut) : Bool := decide (o.state < 10)

/-- What the MAC saw has a well-formed PTP result, if any. -/
def RxInfo.wf (i : RxInfo) : Bool := i.ptp.elim true PtpOut.wf

/-- A receive timestamp has 64 bits. -/
def PtpMsg.wf : PtpMsg → Bool
  | .pdelayResp rx => decide (rx < 2 ^ 64)
  | .sync => true
  | .delayReq => true
  | .delayResp => true
  | .pdelayReq => true
  | .announce => true

/-- An audio frame has 24-bit samples, at most 64 of them, and 24 channel-status bytes per subframe (R325 to R328). -/
def AudFrame.wf (f : AudFrame) : Bool :=
  decide (f.samples.length ≤ 64) && f.samples.all (· < 2 ^ 24) && f.cs.all (·.length == 24) && f.valid.all (· < 64)

/-- A scrubbed word lies in the yard's loft or stores (R419). -/
def ScrubHit.wf (h : ScrubHit) : Bool := decide (h.addr < if h.loft then 2 ^ 22 else 4 * 2 ^ 18)

/-- Whether a command is well formed. -/
def Instr.wf : Instr → Bool
  | .registerWrite _ _ n d => decide (d.toNat < 2 ^ (8 * n.bytes))
  | .bar2Access _ addr len data =>
    decide (1 ≤ len.val ∧ addr.toNat % 4096 + len.val ≤ 4096) && (data.elim true (·.length == len.val))
  | .rootLost => true
  | .pllLockLoss _ => true
  | .pllRelock _ => true
  | .windowBoundary _ _ _ _ _ => true
  | .tickBoundary => true
  | .winCtrlWrite _ _ => true
  | .tickLengthChange => true
  | .winStart => true
  | .winStop => true
  | .winCountRead => true
  | .guardPoint late => decide late.Nodup
  | .mainsOkChange _ => true
  | .battPresenceChange _ => true
  | .battLowSet => true
  | .battCutoff => true
  | .battPathClose => true
  | .battLowClear => true
  | .jobAllowWrite _ _ => true
  | .ledgerLimitWrite _ _ _ => true
  | .ledgCostWrite _ _ _ => true
  | .objEntryWrite _ _ _ _ => true
  | .objActivate _ _ => true
  | .objDeactivate _ _ => true
  | .scheduledActivation => true
  | .srcEntryWrite _ _ _ _ => true
  | .srcEnable _ _ => true
  | .srcDisable _ _ => true
  | .ringLengthWrite _ _ _ => true
  | .ringLengthChange _ => true
  | .feedEntryWrite _ _ _ _ => true
  | .zoneEntryWrite _ _ _ _ => true
  | .planEntryWrite _ _ _ _ => true
  | .sceneLoad _ => true
  | .sceneLoadDone => true
  | .sceneSwitch _ => true
  | .sceneSwitchBoundary => true
  | .sysLawWrite _ _ => true
  | .corrLoadGo _ _ _ _ => true
  | .bankLoadComplete => true
  | .bankLoadTimeout => true
  | .corrSwap _ _ _ _ => true
  | .bankFadeEnd _ => true
  | .pendingSwapStart _ => true
  | .corrBqWrite _ => true
  | .corrBqRead => true
  | .stiUpdate _ _ _ => true
  | .ambientFrame _ _ _ => true
  | .guardRelax _ => true
  | .post _ _ _ => true
  | .jobDispatch _ => true
  | .orderAged _ _ => true
  | .jobLimitAbort _ => true
  | .queuePointerMismatch _ => true
  | .mixCutoff _ => true
  | .feedDispatch _ => true
  | .xbarAgePromote _ _ => true
  | .yardCtrlWrite _ _ _ => true
  | .yardConfigApply _ => true
  | .vmacC _ _ _ _ => true
  | .vmsuC _ _ _ _ => true
  | .vmulC _ _ _ _ => true
  | .vmacS _ _ _ _ => true
  | .vmulS _ _ _ _ => true
  | .smac _ _ _ _ => true
  | .smsu _ _ _ _ => true
  | .smul _ _ _ _ => true
  | .aclr _ _ => true
  | .aadd _ _ _ => true
  | .asub _ _ _ => true
  | .paddi _ _ _ => true
  | .padd _ _ _ => true
  | .psub _ _ _ => true
  | .pmov _ _ _ => true
  | .pli _ _ _ => true
  | .pshl _ _ _ => true
  | .pshr _ _ _ => true
  | .pand _ _ _ => true
  | .setc _ _ _ => true
  | .setci _ _ _ => true
  | .mset _ _ _ => true
  | .pst _ _ => true
  | .ld1 _ _ _ _ => true
  | .st1 _ _ _ _ => true
  | .ld4 _ _ _ _ _ => true
  | .st4 _ _ _ _ _ => true
  | .mova _ _ _ _ => true
  | .mova4 _ _ _ _ => true
  | .sta _ _ _ _ _ => true
  | .acc _ _ _ _ _ _ => true
  | .ldp _ _ _ _ => true
  | .movv _ _ _ => true
  | .movp _ _ _ => true
  | .movpv _ _ _ => true
  | .loop _ _ _ _ => true
  | .br _ _ => true
  | .bz _ _ _ => true
  | .bnz _ _ _ => true
  | .acq _ _ _ => true
  | .rel _ _ _ => true
  | .strm _ _ _ => true
  | .swait _ _ => true
  | .streamTransferEnd _ _ _ => true
  | .setrrb _ _ => true
  | .halt _ _ => true
  | .accAck _ => true
  | .haltComplete _ => true
  | .add _ _ _ _ => true
  | .sub _ _ _ _ => true
  | .and _ _ _ _ => true
  | .or _ _ _ _ => true
  | .xor _ _ _ _ => true
  | .sll _ _ _ _ => true
  | .srl _ _ _ _ => true
  | .sra _ _ _ _ => true
  | .slt _ _ _ _ => true
  | .sltu _ _ _ _ => true
  | .mul _ _ _ _ => true
  | .mulh _ _ _ _ => true
  | .mulhu _ _ _ _ => true
  | .div _ _ _ _ => true
  | .divu _ _ _ _ => true
  | .rem _ _ _ _ => true
  | .remu _ _ _ _ => true
  | .min _ _ _ _ => true
  | .max _ _ _ _ => true
  | .minu _ _ _ _ => true
  | .maxu _ _ _ _ => true
  | .slli _ _ _ _ => true
  | .srli _ _ _ _ => true
  | .srai _ _ _ _ => true
  | .ctz _ _ _ => true
  | .clz _ _ _ => true
  | .addi _ _ _ _ => true
  | .andi _ _ _ _ => true
  | .ori _ _ _ _ => true
  | .xori _ _ _ _ => true
  | .slti _ _ _ _ => true
  | .sltiu _ _ _ _ => true
  | .lui _ _ _ => true
  | .lw _ _ _ _ => true
  | .lh _ _ _ _ => true
  | .lhu _ _ _ _ => true
  | .lb _ _ _ _ => true
  | .lbu _ _ _ _ => true
  | .sw _ _ _ _ => true
  | .sh _ _ _ _ => true
  | .sb _ _ _ _ => true
  | .flw _ _ _ _ => true
  | .fsw _ _ _ _ => true
  | .beq _ _ _ _ => true
  | .bne _ _ _ _ => true
  | .blt _ _ _ _ => true
  | .bge _ _ _ _ => true
  | .bltu _ _ _ _ => true
  | .bgeu _ _ _ _ => true
  | .jal _ _ => true
  | .jalr _ _ _ _ => true
  | .fadd _ _ _ _ => true
  | .fsub _ _ _ _ => true
  | .fmul _ _ _ _ => true
  | .fdiv _ _ _ _ => true
  | .fsqrt _ _ _ => true
  | .fmin _ _ _ _ => true
  | .fmax _ _ _ _ => true
  | .fneg _ _ _ => true
  | .fabs _ _ _ => true
  | .fmov _ _ _ => true
  | .feq _ _ _ _ => true
  | .flt _ _ _ _ => true
  | .fle _ _ _ _ => true
  | .ftoi _ _ _ _ => true
  | .itof _ _ _ _ => true
  | .fmvs _ _ _ => true
  | .fmvf _ _ _ => true
  | .vadd3 _ _ _ _ => true
  | .vsub3 _ _ _ _ => true
  | .vscl3 _ _ _ _ => true
  | .dot3 _ _ _ _ => true
  | .vdist _ _ _ _ => true
  | .cross3 _ _ _ _ => true
  | .mv3 _ _ _ _ => true
  | .rsq _ _ _ => true
  | .mfk _ _ _ => true
  | .mtk _ _ _ => true
  | .waitWAbs _ _ _ => true
  | .waitWNext _ _ => true
  | .waitWTick _ _ => true
  | .waitWResume _ => true
  | .fence _ => true
  | .trap _ _ => true
  | .cpop _ _ _ => true
  | .ltry _ _ _ _ => true
  | .lrel _ _ _ => true
  | .lbs _ _ _ _ => true
  | .lbr _ _ _ _ => true
  | .lbt _ _ _ => true
  | .seqWatchdog _ => true
  | .seqRestart _ => true
  | .programLoad _ => true
  | .programLoadDone => true
  | .imageIntoForce _ => true
  | .shutOpenRequest _ _ _ => true
  | .shutCloseRequest _ _ _ => true
  | .shutterChange => true
  | .fireLoopMeasure ohms => ohms.length == 18
  | .inputStateChange _ => true
  | .relayUpdate _ => true
  | .keeperHeartbeatLoss => true
  | .planActivate _ => true
  | .confirmEnd _ => true
  | .planChain _ => true
  | .alarmStart _ => true
  | .alarmStop _ => true
  | .backstopExpiry _ => true
  | .dieStrobeLoss => true
  | .stormStoreCheck => true
  | .stormProgrammeStep _ => true
  | .stormCommit _ => true
  | .stormArm _ => true
  | .stormDisarm _ => true
  | .stormForceWrite _ _ _ => true
  | .stormReturnRequest _ _ _ => true
  | .handbackFade _ _ => true
  | .stormBqWrite _ => true
  | .stormBqRead _ => true
  | .fireInWrite _ _ _ => true
  | .stormEventDeliver => true
  | .hngEnable _ => true
  | .hngDisable _ => true
  | .hngRejoin _ => true
  | .hngStandDown _ => true
  | .standDownHandover => true
  | .hngProbe _ => true
  | .formWaitExpiry => true
  | .hingeLinkUp _ => true
  | .hingeLinkDown _ => true
  | .recordReceive _ h payload => h.wf && payloadWf payload
  | .hingeInputReceive _ h payload => h.wf && payloadWf payload
  | .statusFrameReceive _ h info => h.wf && info.wf
  | .bulkFrameReceive _ h part pct => h.wf && part.wf && decide (pct ≤ 100)
  | .stateFrameReceive _ h set => h.wf && set.wf
  | .journalApply => true
  | .probePeriodic => true
  | .probeResult _ => true
  | .duplexDecision => true
  | .triplexVote => true
  | .heartbeatLoss _ => true
  | .orphanStandDown => true
  | .orphanPromote => true
  | .syncPhaseAdvance => true
  | .gateUp _ => true
  | .gateDown _ => true
  | .cellSlotSend _ => true
  | .cellEscape _ _ => true
  | .creditSend _ => true
  | .creditCellReceive _ cell => cell.wf && cell.kind == 5
  | .knockSend _ => true
  | .knockReceive _ cell => cell.wf && cell.kind == 3
  | .rootTimeout => true
  | .addressExpiry _ => true
  | .dataCellReceive _ cell => cell.wf && cell.kind == 1
  | .mirrorReceive _ cell => cell.wf && cell.kind == 2
  | .refuseReceive _ cell => cell.wf && cell.kind == 2
  | .topoReceive _ cell => cell.wf && cell.kind == 2
  | .routeReceive _ cell flows => cell.wf && cell.kind == 2 && flows.all (fun e => e.1 < 2 ^ 14 && e.2.wf)
  | .exportsReceive _ cell _ => cell.wf && cell.kind == 2
  | .switchReceive _ cell => cell.wf && cell.kind == 2
  | .tickReceive _ cell => cell.wf && cell.kind == 2
  | .ackReceive _ cell => cell.wf && cell.kind == 2
  | .routeCompute subs => subs.all (fun e => e.1 < 2 ^ 14 && e.2.all (· < 64))
  | .generationSwitch => true
  | .timeCellSend _ => true
  | .timeCellReceive _ _ _ _ _ => true
  | .fabJoin => true
  | .fabTick _ => true
  | .fabCfgWrite _ => true
  | .netLinkChange _ _ => true
  | .netCfgWrite _ _ => true
  | .frameReceive _ f info => decide (f.length ≤ 2000) && info.wf
  | .ptpMessageSend _ msg => msg.wf
  | .ptpAnnounceTimeout _ _ => true
  | .pauseExpiry _ => true
  | .frameTxOpportunity _ frags => decide (frags ≤ 64)
  | .preemptVerifyAttempt _ _ => true
  | .netVerify _ => true
  | .netStatClr _ => true
  | .netLrepPop _ => true
  | .streamStall _ => true
  | .rxStreamEnable _ _ => true
  | .txStreamEnable _ _ => true
  | .txPacketize _ => true
  | .timeAdjWrite _ => true
  | .timeNowRead => true
  | .audioFrameReceive _ f => f.wf
  | .srcConverterLock _ => true
  | .tdmFsyncLoss _ => true
  | .audioFrameSend _ => true
  | .emicSupervisionMeasure _ _ => true
  | .outmapApply => true
  | .downlinkFrameSend _ => true
  | .backchannelFrameReceive _ violation b => violation || b.length == 63
  | .backchannelCommaLoss _ => true
  | .ampAddressAbsent _ _ => true
  | .ampCtrlWrite _ => true
  | .ampMsgSend _ _ _ => true
  | .dramRequestAccept _ _ _ addr len data =>
    decide (1 ≤ len.val ∧ addr.toNat % 64 + len.val ≤ 64) && data.elim true (·.length == len.val)
  | .dramCommandSlot _ _ _ _ => true
  | .dramAgePromote _ _ => true
  | .dramTempRead _ => true
  | .selfRefreshEntry => true
  | .selfRefreshExit _ => true
  | .thaw _ _ => true
  | .matrixGrant _ reqs => decide (reqs.map (·.1)).Nodup
  | .matrixAgePromote _ _ => true
  | .matrixTimeout _ _ _ _ => true
  | .dropPkt => true
  | .pcieLinkReset _ => true
  | .functionLevelReset _ => true
  | .letterboxDataWrite _ _ _ _ => true
  | .lbGoWrite _ _ => true
  | .lbGoRead _ _ => true
  | .letterboxStandoff _ => true
  | .mbxAllocWrite _ _ => true
  | .version _ => true
  | .status _ => true
  | .arm _ => true
  | .armExecute => true
  | .disarm _ => true
  | .planSet _ => true
  | .stormSet _ => true
  | .budgetSet _ => true
  | .calRunLedger _ costs windows =>
    decide (windows < 2 ^ 32) && costs.elim true (fun l => l.length == 54 && l.all (fun e => e.1 < 4096 && e.2 < 4096))
  | .calRunLine _ => true
  | .lineBaselineDone => true
  | .calRunStall _ _ windows => decide (windows < 2 ^ 32)
  | .fwUpdateKeeper _ => true
  | .fwUpdateStorm _ => true
  | .fwUpdateDone => true
  | .logRead _ => true
  | .latchBreak _ => true
  | .sessionOpen _ => true
  | .sessionAuth _ => true
  | .sessionClose _ => true
  | .sessionIdleTimeout _ => true
  | .lockoutEnd _ => true
  | .keeperCommandTimeout _ => true
  | .latchRead _ _ => true
  | .latchWrite _ _ => true
  | .evtPendClear _ _ => true
  | .evtEoi _ => true
  | .evtPop => true
  | .msixUnmask _ _ => true
  | .patrolScrubStep _ => true
  | .storeScrub _ hits => hits.all ScrubHit.wf
  | .lineNomeasTimeout _ => true
  | .zqCalibration _ => true
  | .strobeTracking _ => true
  | .safeCheck _ => true
  | .sensorRead _ => true
  | .flashPatrol _ _ _ => true
  | .monitorOutput _ => true
  | .monitorRecordMove => true
  | .monSync _ => true
  | .monSyncReset => true
  | .monChWrite _ _ _ => true
  | .powerReset => true
  | .pinReset => true
  | .dieReset => true
  | .keeperReset => true
  | .keeperRestartComplete => true
  | .bootFirmwareStart _ _ => true
  | .dramInitComplete => true
  | .profileApply => true
  | .autoArmAttempt => true
  | .audioLockHold => true
  | .rootReturnHold => true
  | .dieStrobeAbsent => true
  | .keeperThaw => true
  | .dieOvertemp => true
  | .dieTempRecover => true
  | .psuOvertemp => true
  | .psuTempRecover _ => true
  | .stagingSlot samples => samples.length == 4
  | .rootReturn => true
  | .pcieLinkUp _ _ _ _ => true
  | .nopBundle _ => true

/-- A well-formed command. -/
abbrev WellFormed (i : Instr) : Prop := i.wf = true

end Sys2Proof
end

