-- ==== Sys2Proof/Safety.lean ====
section
/-! DEFINITION. What counts as a sound state, in the terms that statements use: canonical memories, a canonical register map, and
well-formed commands in the queue. -/
namespace Sys2Proof.Machine

/-- The fields that an event may change (R411 to R414), FIRE_FAULT.HOST included (R412). -/
def evtFields : List Reg :=
  [R.EVT_SRC_PEND, R.EVT_GRP_PEND, R.EVT_CLASS_PEND, R.EVT_REC_STAT_DEPTH, R.EVT_REC_STAT_HI_SEEN, R.EVT_REC_STAT_LO_SEEN,
    R.EVT_REC_STAT_LOST, R.FIRE_FAULT]

/-- Every register field outside `l` reads in `c'` as in `c`. -/
def Ctl.sameRegsBut (c c' : Ctl) (l : List Reg) : Prop :=
  ∀ (r : Reg) (i : Nat), (∀ f ∈ l, f.id ≠ r.id) → c'.get r i = c.get r i

/-- Whether a sequencer carries out the instruction that `k` issues: it runs and does not wait, its PC lies in the half in
force, and the issue brings no cause of an exception (R187, R189, R195, R209). -/
def Ctl.issues (c : Ctl) (k : Issue) : Prop :=
  c.is R.YARD_STATUS_SEQ_RUN k.yard = true ∧ (c.seq k.yard).wait = .none ∧ (c.seq k.yard).pc < 0x20000 ∧
    k.mbz = false ∧ k.fetchEcc = false ∧ k.parity = false

/-- The state with one yard's sequencer replaced and nothing sent out. -/
def State.withSeq (s : State) (y : Nat) (q : SeqSt) : State :=
  { s with m := { s.m with c := { s.m.c with out := [] }.setSeq y q } }

/-- The state after an effect on the control state alone, with nothing else sent out. -/
def State.withCtl (s : State) (f : Ctl → Ctl) : State := { s with m := { s.m with c := f { s.m.c with out := [] } } }

/-- The state after an effect on the module, with nothing else sent out. -/
def State.withMach (s : State) (f : Mach → Mach) : State := { s with m := f s.m.fresh }

/-- Every byte memory is in its canonical form. -/
def Rams.wf (m : Rams) : Bool := m.dram.wf && m.loft.wf && m.store.wf && m.imem.wf && m.dmem.wf && m.nor.wf

/-- Every byte memory of a state is in its canonical form, so that equal contents are equal data. -/
def State.memWf (s : State) : Bool := s.m.m.wf

/-- Every command that waits is well formed. -/
def State.queueWf (s : State) : Bool := s.pending.all Instr.wf

/-- A run from a state that goes on for `k` steps reaches `t`. -/
def State.reaches : State → Nat → State → Prop
  | s, 0, t => s = t
  | s, k + 1, t => ∃ u, step s = .next u ∧ State.reaches u k t

/-- Whether a stall carries out the slot operation of `k`: it runs the job `st`, is not frozen, fetches inside its store, and the
issue brings no cause of its own (R161, R181, R184, R185). -/
def Ctl.slotReady (c : Ctl) (k : Slot) (st : StallSt) : Prop :=
  c.stall? k.stall = some st ∧ st.wait = .none ∧ st.pc < 0x40000 ∧ k.parity = false ∧ k.mbz = false ∧ k.ecc = .clean ∧
    c.storeBad k.stall st.pc 8 = false

/-- The state after a slot operation with the effects `fx`: they join those of the bundle in issue, frozen cycles count, and the
last operation of a bundle ends it (R161, R167). -/
def State.issued (s : State) (k : Slot) (st : StallSt) (fx : List Fx) : State :=
  s.withMach fun x =>
    let c := x.c.setStall k.stall { st with fx := st.fx ++ fx, cycles := st.cycles + k.frozen, froze := false }
    let x := { x with c := c.useCycles k.stall st k.frozen }
    if k.last then x.bundleEnd k.stall else x

/-- Steps the counter of free values (R173, R180). -/
def State.freed (s : State) (n : Nat) : State :=
  { s with m := { s.m with c := { s.m.c with storm := { s.m.c.storm with freeCtr := s.m.c.storm.freeCtr + n } } } }

/-- That `e` is one of the keeper's commands at pair `p`: its row, the words it answers and what it does (R401). A ledger or stall calibration has its
measured result as operands. -/
def KeeperRow (p : Fin 8) (costs : Option (List (Nat × Nat))) (pass : Bool) (windows : Nat)
    (e : Instr × (List Nat → Bool) × (Mach → List Nat → KRes)) : Prop :=
  e ∈ [((.version p, codeIs 0x01, versionCmd) : Instr × (List Nat → Bool) × (Mach → List Nat → KRes)), (.status p, codeIs 0x02, statusCmd), (.arm p, codeIs 0x10, armCmd p),
    (.disarm p, codeIs 0x11, disarmCmd), (.sceneLoad p, codeIs 0x20, sceneLoadCmd p), (.sceneSwitch p, codeIs 0x21, sceneSwitchCmd),
    (.programLoad p, codeIs 0x22, programLoadCmd p), (.planSet p, codeIs 0x30, planSetCmd), (.stormSet p, codeIs 0x31, stormSetCmd),
    (.alarmStart p, codeIs 0x32, alarmStartCmd), (.alarmStop p, codeIs 0x33, alarmStopCmd), (.budgetSet p, codeIs 0x40, budgetSetCmd),
    (.calRunLedger p costs windows, fun w => codeIs 0x41 w && w.getD 1 0 == 0, calLedgerCmd costs windows),
    (.calRunLine p, fun w => codeIs 0x41 w && w.getD 1 0 == 1, calRunLineCmd p),
    (.calRunStall p pass windows, fun w => codeIs 0x41 w && w.getD 1 0 == 2, calStallCmd pass windows),
    (.fwUpdateKeeper p, fun w => codeIs 0x50 w && !bit (w.getD 4 0) 0, fwUpdateKeeperCmd p),
    (.fwUpdateStorm p, fun w => codeIs 0x50 w && bit (w.getD 4 0) 0, fwUpdateStormCmd p), (.logRead p, codeIs 0x51, logReadCmd),
    (.latchBreak p, codeIs 0x52, latchBreakCmd), (.sessionOpen p, codeIs 0x60, sessionOpenCmd p),
    (.sessionAuth p, codeIs 0x61, sessionAuthCmd p), (.sessionClose p, codeIs 0x62, sessionCloseCmd p)]

/-- The control state as the keeper leaves it when it takes the command that waits at pair `p` (R391, R397, R401). -/
def Ctl.keepTaken (c : Ctl) (p : Nat) : Ctl × Bool := ((c.lbRead .keeper (2 * p)).1.keepTurn p).keepAuth p (c.lbWords (2 * p))

/-! ## Tables that the statements quantify over -/

/-- The fields that share word `w` of an entry of the FEED, ZONE or PLAN table. -/
def feedFields (w : Nat) : List Reg := wordFields R.fieldsFEED (0x210000 + 4 * w)
/-- As `feedFields`, for the ZONE table. -/
def zoneFields (w : Nat) : List Reg := wordFields R.fieldsZONE (0x220000 + 4 * w)
/-- As `feedFields`, for the PLAN table. -/
def planFields (w : Nat) : List Reg := wordFields R.fieldsPLAN (0x230000 + 4 * w)

/-- The four-lane multiplies: whether they accumulate, and the value of lane i (R169). -/
def laneTable : List ((Slot → Fin 2 → Fin 64 → Fin 64 → Instr) × Bool × (StallSt → Nat → Nat → Int)) :=
  [(.vmacC, true, fun st b v => st.samp b * st.coef v), (.vmsuC, true, fun st b v => -(st.samp b * st.coef v)),
    (.vmulC, false, fun st b v => st.samp b * st.coef v), (.vmacS, true, fun st b v => st.samp v * st.coef b),
    (.vmulS, false, fun st b v => st.samp v * st.coef b)]

/-- An M-slot write of an accumulator: added onto it, or in its place (R164). -/
def accFx (add : Bool) (d : Nat) (z : Int) : Fx := if add then .aadd d z else .aset d z

/-- The integer instructions of two registers with their results (R191). -/
def intTable : List ((Issue → Fin 32 → Fin 32 → Fin 32 → Instr) × (BitVec 32 → BitVec 32 → BitVec 32)) :=
  [(.add, fun a b => a + b), (.sub, fun a b => a - b), (.and, fun a b => a &&& b), (.or, fun a b => a ||| b),
    (.xor, fun a b => a ^^^ b), (.sll, fun a b => a <<< (b.toNat % 32)), (.srl, fun a b => a >>> (b.toNat % 32)),
    (.sra, fun a b => a.sshiftRight (b.toNat % 32)), (.slt, fun a b => if a.slt b then 1 else 0),
    (.sltu, fun a b => if a.ult b then 1 else 0), (.mul, fun a b => a * b),
    (.mulh, fun a b => BitVec.ofInt 32 (a.toInt * b.toInt / 2 ^ 32)),
    (.mulhu, fun a b => BitVec.ofNat 32 (a.toNat * b.toNat / 2 ^ 32)),
    (.div, fun a b => if b = 0 then BitVec.allOnes 32 else a.sdiv b),
    (.divu, fun a b => if b = 0 then BitVec.allOnes 32 else a.udiv b),
    (.rem, fun a b => if b = 0 then a else a.srem b), (.remu, fun a b => if b = 0 then a else a.umod b),
    (.min, fun a b => if b.slt a then b else a), (.max, fun a b => if a.slt b then b else a),
    (.minu, fun a b => if b.ult a then b else a), (.maxu, fun a b => if a.ult b then b else a)]

/-- Shifts by a constant (R191). -/
def shiftTable : List ((Issue → Fin 32 → Fin 32 → Fin 32 → Instr) × (BitVec 32 → Nat → BitVec 32)) :=
  [(.slli, fun a n => a <<< n), (.srli, fun a n => a >>> n), (.srai, fun a n => a.sshiftRight n)]

/-- The word of an instruction of format R (R189). -/
def rWord (op rd ra rb func : Nat) : Nat := op * 2 ^ 26 + rd * 2 ^ 21 + ra * 2 ^ 16 + rb * 2 ^ 11 + func

/-- `n` is how many zero bits a word has below its lowest one (CTZ) or above its highest one (CLZ); 32 for 0 (R191). -/
def trailing (a : BitVec 32) (n : Nat) : Prop := n ≤ 32 ∧ (∀ i < n, a.getLsbD i = false) ∧ (n < 32 → a.getLsbD n = true)
/-- As `trailing`, from the top bit down. -/
def leading (a : BitVec 32) (n : Nat) : Prop := n ≤ 32 ∧ (∀ i < n, a.getMsbD i = false) ∧ (n < 32 → a.getMsbD n = true)

/-- The integer instructions with an immediate (R190). -/
def immTable : List ((Issue → Fin 32 → Fin 32 → BitVec 16 → Instr) × (BitVec 32 → BitVec 16 → BitVec 32)) :=
  [(.addi, fun a i => a + i.signExtend 32), (.andi, fun a i => a &&& i.zeroExtend 32),
    (.ori, fun a i => a ||| i.zeroExtend 32), (.xori, fun a i => a ^^^ i.zeroExtend 32),
    (.slti, fun a i => if a.slt (i.signExtend 32) then 1 else 0),
    (.sltiu, fun a i => if a.ult (i.signExtend 32) then 1 else 0)]

/-- The branches with their conditions (R190, R195). -/
def branchTable : List ((Issue → Fin 32 → Fin 32 → BitVec 16 → Instr) × (BitVec 32 → BitVec 32 → Bool)) :=
  [(.beq, fun a b => a == b), (.bne, fun a b => a != b), (.blt, fun a b => a.slt b), (.bge, fun a b => b.sle a),
    (.bltu, fun a b => a.ult b), (.bgeu, fun a b => b.ule a)]

/-- The loads: bytes and what the register takes (R190). -/
def loadTable : List ((Issue → Fin 32 → Fin 32 → BitVec 16 → Instr) × Nat × (SeqSt → Nat → Nat → SeqSt)) :=
  [(.lw, 4, fun q rd v => q.ws rd v), (.lh, 2, fun q rd v => q.ws rd ((BitVec.ofNat 16 v).signExtend 32).toNat),
    (.lhu, 2, fun q rd v => q.ws rd v), (.lb, 1, fun q rd v => q.ws rd ((BitVec.ofNat 8 v).signExtend 32).toNat),
    (.lbu, 1, fun q rd v => q.ws rd v), (.flw, 4, fun q rd v => q.wf rd v)]

/-- The stores: bytes and the register that is stored (R190). -/
def storeTable : List ((Issue → Fin 32 → Fin 32 → BitVec 16 → Instr) × Nat × (SeqSt → Nat → Nat)) :=
  [(.sw, 4, fun q rd => q.rs rd), (.sh, 2, fun q rd => q.rs rd), (.sb, 1, fun q rd => q.rs rd), (.fsw, 4, fun q rd => q.rf rd)]

/-- The float instructions of two registers (R197), each with the result and flags of its operation. -/
def floatTable : List ((Issue → Fin 32 → Fin 32 → Fin 32 → Instr) × (Nat → Nat → Nat × Nat)) :=
  [(.fadd, fAdd), (.fsub, fSub), (.fmul, fMul), (.fdiv, fDiv), (.fmin, fPick false), (.fmax, fPick true)]

/-- The float compares (R197). -/
def compareTable : List ((Issue → Fin 32 → Fin 32 → Fin 32 → Instr) × (Nat → Nat → Nat × Nat)) :=
  [(.feq, fCmp 0), (.flt, fCmp 1), (.fle, fCmp 2)]

/-- The vector instructions with their results (R198); `none` where a base is out of range. -/
def geoTable : List ((Issue → Fin 32 → Fin 32 → Fin 32 → Instr) × (SeqSt → Fin 32 → Fin 32 → Fin 32 → Option (List (Nat × Nat)))) :=
  [(.vadd3, fun q d a b => if d ≤ 29 ∧ a ≤ 29 ∧ b ≤ 29 then some (List.zipWith fAdd (q.vec a) (q.vec b)) else none),
    (.vsub3, fun q d a b => if d ≤ 29 ∧ a ≤ 29 ∧ b ≤ 29 then some (List.zipWith fSub (q.vec a) (q.vec b)) else none),
    (.vscl3, fun q d a b => if d ≤ 29 ∧ a ≤ 29 then some ((q.vec a).map (fMul · (q.rf b))) else none),
    (.dot3, fun q _ a b => if a ≤ 29 ∧ b ≤ 29 then some [fDot ((q.vec a).map fop0) ((q.vec b).map fop0)] else none),
    (.vdist, fun q _ a b => if a ≤ 29 ∧ b ≤ 29 then
      let d := List.zipWith fSub (q.vec a) (q.vec b)
      some [((fSqrt (fDot d d).1).1, (fDot d d).2 ||| (fSqrt (fDot d d).1).2)] else none),
    (.cross3, fun q d a b => if d ≤ 29 ∧ a ≤ 29 ∧ b ≤ 29 then some (fCross (q.vec a) (q.vec b)) else none),
    (.mv3, fun q d a b => if d ≤ 29 ∧ a ≤ 23 ∧ b ≤ 29 then
      some ([0, 3, 6].map (fun i => fDot ((q.vec (a + i)).map fop0) ((q.vec b).map fop0))) else none)]

end Sys2Proof.Machine
end

