-- ==== Sys2Proof/Certificates/Slice0/Obligations.lean ====
section
/-! DEFINITION. The statements for the provers. -/
open Sys2Proof Sys2Proof.Machine

/-- Commands run in the order of the queue: a step runs the first one with the rest left waiting, and with none waiting one TIME
cycle passes (the model's choice of an idle step, log entry 1). -/
def Obligations.QueueStep : Prop :=
  ∀ (s : State) (c : Instr) (rest : List Instr),
    step { s with pending := c :: rest } = exec c { s with pending := rest } ∧
    step { s with pending := [] } = .next ({ s with pending := [] }.withCtl Ctl.timeCycle) ∧
    (Ctl.timeCycle s.m.c).regs = s.m.c.regs ∧
    (s.m.c.time + 5 < 2 ^ 64 → s.m.c.get R.TIME_RATE = 0 → s.m.c.clk.frac < 2 ^ 32 → (Ctl.timeCycle s.m.c).time = s.m.c.time + 5)

/-- Every command completes: from every state it answers a next state, and leaves the commands that wait behind it as they are. -/
def Obligations.EveryCommandCompletes : Prop :=
  ∀ (c : Instr) (s : State), ∃ t, exec c s = .next t ∧ t.pending = s.pending

/-- What reset leaves (R437): no command waits, every memory is in its canonical form and empty, and every register field reads
its reset value, but LEDG_STATUS.SUPPLY, which shows the mains. -/
def Obligations.ResetState : Prop :=
  State.reset.pending = [] ∧ State.reset.memWf = true ∧ State.reset.m.m = {} ∧
    (∀ (r : Reg) (i : Nat), r.id ≠ R.LEDG_STATUS_SUPPLY.id → State.reset.m.c.get r i = r.resetAt i) ∧
    State.reset.m.c.get R.LEDG_STATUS_SUPPLY = 1 ∧ State.reset.m.c.get R.SYS_ARM_ARMED = 0 ∧
    State.reset.m.c.get R.HNG_STATUS_ROLE = 0 ∧ State.reset.m.c.get R.DRAM_STATUS_MODE = 0 ∧
    State.reset.m.c.get R.WIN_STATUS_RUN = 0 ∧ State.reset.m.c.time = 0

/-- Every step keeps the memories in their canonical form: addresses rise strictly and no byte is listed that reads as an
unlisted one, so equal contents are equal data. -/
def Obligations.StepKeepsMemoryForm : Prop :=
  ∀ s t : State, s.memWf = true → step s = .next t → t.memWf = true

/-- Only a storm-store update writes the flash of the storm door (R228, R449): every other command, and an idle step, leave all
of it as it was. -/
def Obligations.FlashIsolation : Prop :=
  ∀ (s t : State) (l : List Instr), s.pending = l → (∀ p rest, l ≠ .fwUpdateStorm p :: rest) → (∀ rest, l ≠ .fwUpdateDone :: rest) →
    step s = .next t → t.m.m.nor = s.m.m.nor

/-- The record of an event (R409 to R413). An enabled source sets its pending bit and adds one record with its own next sequence
number, the time and the given information behind those that wait, when the queue has room; a source that is not enabled does
nothing. -/
def Obligations.EventRecords : Prop :=
  ∀ (c : Ctl) (src info detail : Nat), src < 192 →
    (c.srcOn src = false → c.raise src info detail = c) ∧
    (c.srcOn src = true → c.fire.dieLost = false → c.evt.queue.length < 255 → src ≠ Ev.MBX_EVTQ →
      ∃ e q, (c.raise src info detail).evt.queue = c.evt.queue ++ e :: q ∧ e.source = src ∧ e.info = info % 256 ∧
        e.detail = detail % 2 ^ 32 ∧ e.time = c.time ∧ e.seq = cget c.evt.seqs src ∧ e.safe = false ∧
        cget (c.raise src info detail).evt.seqs src = (e.seq + 1) % 256 ∧
        bit ((c.raise src info detail).get R.EVT_SRC_PEND (src / 8)) (src % 8) = true ∧
        c.sameRegsBut (c.raise src info detail) evtFields) ∧
    (c.evt.queue.length ≤ 256 → (c.raise src info detail).evt.queue.length ≤ 256)

/-- Register and window writes (R5, R7, R8, R451 to R453). A wrong form or an address outside the map is a decode error; a
secure block turns away a master that R8 bars; a doubleword is two words, the lower first; an address that names no field
changes nothing; a loft takes bytes; a read-write field takes its bits, and a field that clears by ones is cleared by them.
Under conditions on the state and the operands alone it gives the next state of: registerWrite. -/
def Obligations.RegisterWrites : Prop :=
  ∀ (s : State) (m : Master) (a : BitVec 32) (n : AccSize) (d : BitVec 64),
    (∃ t, exec (.registerWrite m a n d) s = .next t) ∧
    (formOk a.toNat n = false → ∃ t, exec (.registerWrite m a n d) s = .next t ∧ .busResult 6 ∈ t.m.c.out ∧ t.m.m = s.m.m ∧
      t.m.c.get R.MTX_STATUS_DECERR_SEEN = 1 ∧ t.m.c.get R.MTX_DECERR_COUNT = (s.m.c.get R.MTX_DECERR_COUNT + 1) % 2 ^ 32 ∧
      s.m.c.sameRegsBut t.m.c (R.fieldsMTX ++ evtFields)) ∧
    (n = .word → formOk a.toNat n = true → inLoftWindow a.toNat = false → inSeqWindow a.toNat = false → unmapped a.toNat = false →
      ¬(0x3F000 ≤ a.toNat ∧ a.toNat < 0x40000) →
      (writeClass a.toNat = .secure → s.m.c.secure m = false →
        exec (.registerWrite m a n d) s = .next (s.withCtl (·.denied m a.toNat))) ∧
      (writeClass a.toNat ≠ .secure → named a.toNat = false → exec (.registerWrite m a n d) s = .next (s.withMach id))) ∧
    (n = .word → formOk a.toNat n = true → inSeqWindow a.toNat = true ∨ unmapped a.toNat = true →
      exec (.registerWrite m a n d) s = .next (s.withCtl (·.decerr m a.toNat true))) ∧
    (n = .double → formOk a.toNat n = true → ∃ t y, exec (.registerWrite m a n d) s = .next t ∧
      y = (s.m.fresh.write m a.toNat 4 (d.toNat % 2 ^ 32)).write m (a.toNat + 4) 4 (d.toNat / 2 ^ 32) ∧
      t.m.m = y.m ∧ t.m.c.regs = y.c.regs) ∧
    (n ≠ .double → formOk a.toNat n = true → inLoftWindow a.toNat = true → s.m.c.fabr.loftPoison = [] →
      ∃ t, exec (.registerWrite m a n d) s = .next t ∧ t.m.c.regs = s.m.c.regs ∧
        t.m.m = { s.m.m with loft := s.m.m.loft.wrN (a.toNat - 0x1000000) n.bytes (d.toNat % 2 ^ (8 * n.bytes)) }) ∧
    (∀ g : Fin 24, a.toNat = 0x30080 + 4 * (g : Nat) → n = .word → ∃ t, exec (.registerWrite m a n d) s = .next t ∧
      t.m.c.get R.EVT_SRC_EN g = d.toNat % 2 ^ 8 ∧ (∀ j, j ≠ g.val → t.m.c.get R.EVT_SRC_EN j = s.m.c.get R.EVT_SRC_EN j) ∧
      t.m.m = s.m.m ∧ s.m.c.sameRegsBut t.m.c (R.EVT_SRC_EN :: evtFields)) ∧
    (a.toNat = 0xA0000 → n = .word → ∃ t, exec (.registerWrite m a n d) s = .next t ∧
      t.m.c.is R.MTX_STATUS_DENIED_SEEN = (s.m.c.get R.MTX_STATUS_DENIED_SEEN % 2 == 1 && !d.toNat.testBit 14) ∧
      t.m.m = s.m.m ∧ s.m.c.sameRegsBut t.m.c R.fieldsMTX)

/-- The host's DRAM window (R7, R352). Beyond the usable size an access is a decode error and reads 0; in INIT and in the freeze
it ends with an error and changes nothing; otherwise a read gives the named bytes and a write stores exactly the bytes it
enables. Under conditions on the state and the operands alone it gives the next state of: bar2Access. -/
def Obligations.HostDramAccess : Prop :=
  ∀ (s : State) (fn : Fin 2) (addr : BitVec 40) (len : Fin 513) (l : List (Option Byte)),
    (∀ data, s.m.c.usable < addr.toNat + (match data with | some (l : List (Option Byte)) => l.length | none => len.val) →
      ∃ t, exec (.bar2Access fn addr len data) s = .next t ∧ .busResult 6 ∈ t.m.c.out ∧
        (data = none → .readData 0 ∈ t.m.c.out) ∧ t.m.m = s.m.m ∧ s.m.c.sameRegsBut t.m.c (R.fieldsMTX ++ evtFields)) ∧
    (addr.toNat + l.length ≤ s.m.c.usable →
      (s.m.c.get R.DRAM_STATUS_MODE = 0 ∨ s.m.c.get R.DRAM_STATUS_MODE = 3 →
        ∃ t, exec (.bar2Access fn addr len (some l)) s = .next t ∧ t.m.c.out = [.busResult 16] ∧ t.m.c.regs = s.m.c.regs ∧
          t.m.m = s.m.m) ∧
      (s.m.c.get R.DRAM_STATUS_MODE ≠ 0 → s.m.c.get R.DRAM_STATUS_MODE ≠ 3 → s.m.c.dram.bad = [] →
        ∃ t, exec (.bar2Access fn addr len (some l)) s = .next t ∧
          (∀ i b, l[i]? = some (some b) → t.m.m.dram.rd (addr.toNat + i) = b) ∧
          (∀ i, l[i]? = some none → t.m.m.dram.rd (addr.toNat + i) = s.m.m.dram.rd (addr.toNat + i)) ∧
          (∀ j, j < addr.toNat ∨ addr.toNat + l.length ≤ j → t.m.m.dram.rd j = s.m.m.dram.rd j) ∧
          t.m.m = { s.m.m with dram := t.m.m.dram } ∧
          (s.m.c.get R.DRAM_STATUS_MODE = 1 → s.m.c.sameRegsBut t.m.c [R.DRAM_PARA_COUNT]))) ∧
    (addr.toNat + len.val ≤ s.m.c.usable →
      (s.m.c.get R.DRAM_STATUS_MODE = 0 ∨ s.m.c.get R.DRAM_STATUS_MODE = 3 →
        ∃ t, exec (.bar2Access fn addr len none) s = .next t ∧ t.m.c.out = [.busResult 16] ∧ t.m.c.regs = s.m.c.regs ∧
          t.m.m = s.m.m) ∧
      (s.m.c.get R.DRAM_STATUS_MODE ≠ 0 → s.m.c.get R.DRAM_STATUS_MODE ≠ 3 → s.m.c.dram.bad = [] →
        (∀ i < len.val, s.m.c.unstated (addr.toNat + i) = false ∧ s.m.c.historyByte (addr.toNat + i) = none) →
        ∃ t, exec (.bar2Access fn addr len none) s = .next t ∧ .readData (s.m.m.dram.rdN addr.toNat len) ∈ t.m.c.out ∧
          t.m.m = s.m.m ∧ (s.m.c.get R.DRAM_STATUS_MODE = 1 → s.m.c.sameRegsBut t.m.c [R.DRAM_PARA_COUNT])))

/-- ROOT_LOST: ROOT_OK and the four lock bits read 0, the LOST bits 1, and windows stop (R15). ROOT_RETURN, PLL_LOCK_LOSS of a
PLL other than the audio PLL, and PLL_RELOCK of one while the root is present (R15). START with windows stopped, every clock
locked, the epoch at least a window ahead and no fabric windows to join begins at count 0, phase 0; otherwise it is refused with
STATE and starts nothing (R29). A read of WIN_COUNT returns the low half of the extended count and latches the high half (R29).
Under conditions on the state and the operands alone it gives the next state of: rootLost, rootReturn, pllLockLoss, pllRelock,
winStart, winStop, winCountRead. -/
def Obligations.ClocksAndWindows : Prop :=
  (∀ s : State, ∃ t, exec .rootLost s = .next t ∧ t.m.c.get R.WIN_CLK_STATUS_ROOT_OK = 0 ∧
     t.m.c.get R.WIN_CLK_STATUS_ROOT_LOST = 1 ∧ (∀ p, t.m.c.get (lockReg p) = 0 ∧ t.m.c.get (lostReg p) = 1) ∧
     t.m.c.get R.WIN_STATUS_RUN = 0 ∧ t.m.c.win.awaiting = false ∧ t.m.c.fire.clockLost = true ∧ t.m.m = s.m.m ∧
     t.pending = s.pending) ∧
  (∀ (s : State) (p : Fin 4),
     exec .rootReturn s = .next (s.withCtl fun c => c.set R.WIN_CLK_STATUS_ROOT_OK 1) ∧
     (p ≠ 0 → exec (.pllLockLoss p) s =
       .next (s.withCtl fun c => (((c.set (lockReg p) 0).set (lostReg p) 1).raise Ev.WIN_CLK))) ∧
     (∃ t, exec (.pllLockLoss 0) s = .next t ∧ t.m.c.get (lockReg 0) = 0 ∧ t.m.c.get (lostReg 0) = 1 ∧
       t.m.c.get R.WIN_STATUS_RUN = 0 ∧ t.m.m = s.m.m) ∧
     (s.m.c.is R.WIN_CLK_STATUS_ROOT_OK = true → ∃ t, exec (.pllRelock p) s = .next t ∧ t.m.c.get (lockReg p) = 1 ∧
       (p = 0 → t.m.c.fire.clockLost = false) ∧ t.m.m = s.m.m ∧
       s.m.c.sameRegsBut t.m.c [lockReg p, R.FIRE_FAULT, R.SYS_BOOT_STAGE]) ∧
     (s.m.c.is R.WIN_CLK_STATUS_ROOT_OK = false → exec (.pllRelock p) s = .next (s.withCtl id))) ∧
  (∀ s : State,
     (s.m.c.is R.WIN_STATUS_RUN = false → s.m.c.clocksOk = true → s.m.c.epochAhead = true →
       s.m.c.get R.FAB_STATUS_STATE ≠ 2 → ∃ t, exec .winStart s = .next t ∧ t.m.c.get R.WIN_STATUS_RUN = 1 ∧
         t.m.c.get R.WIN_COUNT = 0 ∧ t.m.c.get R.WIN_TICK_PHASE = 0 ∧ t.m.c.win.ext = 0 ∧ t.m.c.win.awaiting = true ∧
         s.m.c.sameRegsBut t.m.c [R.WIN_STATUS_RUN, R.WIN_COUNT, R.WIN_COUNT_HI, R.WIN_TICK_PHASE, R.WIN_TICK_COUNT] ∧
         t.m.m = s.m.m) ∧
     (s.m.c.is R.WIN_STATUS_RUN = true → ∃ t, exec .winStart s = .next t ∧ t.m.c.get R.WIN_STATUS_ERR_STATE = 1 ∧
       s.m.c.sameRegsBut t.m.c (R.WIN_STATUS_ERR_STATE :: evtFields)) ∧
     (s.m.c.armed = false → s.m.c.is R.WIN_STATUS_RUN = true → ∃ t, exec .winStop s = .next t ∧
       t.m.c.win.stopPending = true ∧ t.m.c.regs = s.m.c.regs ∧ t.m.m = s.m.m) ∧
     (s.m.c.armed = true → ∃ t, exec .winStop s = .next t ∧ t.m.c.get R.WIN_STATUS_ERR_STATE = 1 ∧
       t.m.c.get R.WIN_STATUS_RUN = s.m.c.get R.WIN_STATUS_RUN ∧ t.m.c.win = s.m.c.win)) ∧
  (∀ s : State, ∃ t, exec .winCountRead s = .next t ∧ t.m.c.out = [.readData (s.m.c.get R.WIN_COUNT)] ∧
     t.m.c.get R.WIN_COUNT_HI = s.m.c.win.ext / 2 ^ 32 % 2 ^ 32 ∧ s.m.c.sameRegsBut t.m.c [R.WIN_COUNT_HI] ∧
     t.m.m = s.m.m)

/-- A latched tick length takes effect at a tick boundary that does not come before the window it waits for, and the new tick
starts at phase 0; elsewhere, and with none latched, nothing changes (R21). A write of WIN_CTRL that keeps the tick length, with
windows stopped, stores LEN and RATE96; while windows run a change of either is refused with STATE (R21). A window boundary.
While windows do not run there is none, and a pending STOP stops windows there. Otherwise the words found in error are noted,
the inputs' blocks are staged, the monitor chain takes the window that ends, the window opens with the measurements, and the
engines run, in that order; where no tick boundary is due the kit's mix jobs then take the window (R19, R21, R29, R147). Opening
a window counts it, and the tick phase goes on to the next or back to 0, where a tick boundary falls due (R19, R21). A tick
boundary that is due runs once, and one that is not due does nothing (R21, R22): the control state passes the tick, the tap
records of shed objects are settled, the sequencers restart where a loss has stopped them, and the kit's laws and mix jobs run.
The guard point of a running window: the yards hand over the output buffers, the guard's microphones are taken, the output CRCs
are taken and compared, and on a module that is no standby the confirmations and returns are counted (R23, R122, R151, R224,
R237, R253). Outside a running window there is none. Under conditions on the state and the operands alone it gives the next
state of: tickLengthChange, winCtrlWrite, windowBoundary, tickBoundary, guardPoint. -/
def Obligations.WindowBoundaries : Prop :=
  (∀ (s : State) (n : Nat), (s.m.c.tab.tickDue = false ∨ s.m.c.win.tickReq = none → exec .tickLengthChange s = .next (s.withCtl id)) ∧
     (s.m.c.tab.tickDue = true → s.m.c.win.tickReq = some n → s.m.c.win.tickFrom.any (fun w => later w s.m.c.winNo) = false →
     ∃ t, exec .tickLengthChange s = .next t ∧ t.m.c.get R.WIN_TICK_LEN_ACTIVE = n % 16 ∧ t.m.c.get R.WIN_CTRL_TICK = n % 16 ∧
       t.m.c.get R.WIN_TICK_PENDING = 0 ∧ t.m.c.get R.WIN_TICK_PHASE = 0 ∧ t.m.c.win.tickReq = none ∧
       s.m.c.sameRegsBut t.m.c [R.WIN_TICK_LEN_ACTIVE, R.WIN_CTRL_TICK, R.WIN_TICK_PENDING, R.WIN_TICK_PHASE] ∧ t.m.m = s.m.m)) ∧
  (∀ (s : State) (m : Master) (d : BitVec 32), R.WIN_CTRL_TICK.of d.toNat = s.m.c.tickNext →
     (s.m.c.is R.WIN_STATUS_RUN = false → ∃ t, exec (.winCtrlWrite m d) s = .next t ∧
       t.m.c.get R.WIN_CTRL_LEN = d.toNat % 4 ∧ t.m.c.get R.WIN_CTRL_RATE96 = d.toNat / 4 % 2 ∧
       t.m.c.get R.WIN_STATUS_RATE96 = d.toNat / 4 % 2 ∧ t.m.m = s.m.m) ∧
     (s.m.c.is R.WIN_STATUS_RUN = true → R.WIN_CTRL_LEN.of d.toNat ≠ s.m.c.get R.WIN_CTRL_LEN →
       ∃ t, exec (.winCtrlWrite m d) s = .next t ∧ t.m.c.get R.WIN_STATUS_ERR_STATE = 1 ∧
         t.m.c.get R.WIN_CTRL_LEN = s.m.c.get R.WIN_CTRL_LEN)) ∧
  (∀ (s : State) (ecc : List (Fin 4 × ScrubHit)) (a b v w : BitVec 16),
     (s.m.c.is R.WIN_STATUS_RUN = false → exec (.windowBoundary ecc a b v w) s = .next (s.withMach id)) ∧
     (s.m.c.is R.WIN_STATUS_RUN = true → s.m.c.win.stopPending = true → ∃ t, exec (.windowBoundary ecc a b v w) s = .next t ∧
       t.m.c.get R.WIN_STATUS_RUN = 0 ∧ t.m.c.win.stopPending = false ∧ s.m.c.sameRegsBut t.m.c [R.WIN_STATUS_RUN] ∧ t.m.m = s.m.m) ∧
     (s.m.c.is R.WIN_STATUS_RUN = true → s.m.c.win.stopPending = false → exec (.windowBoundary ecc a b v w) s = .next (s.withMach fun x =>
       let p := (x.c.each ecc (fun c e => c.eccHit e.1 e.2)).txKeep.rxBoundary.audBoundary.stageAll
       let c := if p.1.win.awaiting then p.1 else p.1.monChain (blockOf p.1.winSamples p.2)
       let c := c.openWindow a.toNat b.toNat v.toNat w.toNat
       let c := (c.engines p.2).playOut.monBoundary.armBoundary.dieBack.lineShow
       let x := Mach.shedSync (Mach.resync (Mach.stateApply (Mach.nearPut { x with c := c })))
       if x.c.tab.tickDue then x else x.kitMixAll))) ∧
  (∀ c : Ctl, (c.win.awaiting = false →
       c.countWindow.win.ext = (c.win.ext + 1) % 2 ^ 64 ∧ c.countWindow.get R.WIN_COUNT = (c.win.ext + 1) % 2 ^ 32 ∧
       c.countWindow.tab.firstBoundary = false) ∧
     (c.win.awaiting = true → c.countWindow.win.ext = c.win.ext ∧ c.countWindow.get R.WIN_COUNT = c.get R.WIN_COUNT ∧
       c.countWindow.tab.firstBoundary = true) ∧
     (c.tab.firstBoundary = false → c.get R.WIN_TICK_LEN_ACTIVE < 16 →
       c.phaseWindow.get R.WIN_TICK_PHASE =
         (if c.get R.WIN_TICK_PHASE < c.get R.WIN_TICK_LEN_ACTIVE then c.get R.WIN_TICK_PHASE + 1 else 0) ∧
       c.phaseWindow.tab.tickDue = decide (c.get R.WIN_TICK_LEN_ACTIVE ≤ c.get R.WIN_TICK_PHASE))) ∧
  (∀ s : State,
     (s.m.c.tab.tickDue = true → exec .tickBoundary s = .next (s.withMach fun x =>
       let c : Ctl := { x.c.tick with tab := { x.c.tick.tab with tickDue := false } }
       ((Mach.seqAgain { x with c := c, m := { x.m with loft := c.shedRecords (c.get R.WIN_TICK_COUNT % 2) x.m.loft } }).kitTick
         x.c.tab.snap).kitMixAll)) ∧
     (s.m.c.tab.tickDue = false → exec .tickBoundary s = .next (s.withMach id))) ∧
  (∀ (s : State) (late : List (Fin 768)),
     (s.m.c.is R.WIN_STATUS_RUN = true → s.m.c.win.awaiting = false →
       exec (.guardPoint late) s = .next (s.withMach fun x =>
         let x := x.yardGuard (late.map (·.val))
         let c := x.c.guardSample.crcTake.hngGuard
         { x with c := if c.role = 3 then c else c.confirmCount.returnCheck })) ∧
     (s.m.c.is R.WIN_STATUS_RUN = false ∨ s.m.c.win.awaiting = true → exec (.guardPoint late) s = .next (s.withMach id)))

/-- MAINS_OK, battery presence, BATT_LOW and the battery path follow their inputs: SUPPLY shows them, the budget in force is
shown, and each change raises its event; where neither the mains nor the battery carries the bus any longer, the module loses
power, which is a POWER reset (R33, R34, R437, R470). A lower or equal LEDG_JOB_ALLOW is accepted; a higher one of class B to D
is accepted when its class cap and the budget allow it, and is otherwise refused and counted; one of class A is accepted,
shedding as it may, or refused and counted (R39). While step 1 holds class D's allowance down, a write above it is kept for the
restore. The ledger's limits and costs: an unarmed module stores a limit in its range from a master that R8 lets write it,
LEDG_COST takes the keeper's writes only, and each accepted write brings the shown totals up to date (R8, R53). Under conditions
on the state and the operands alone it gives the next state of: mainsOkChange, battPresenceChange, battLowSet, battLowClear,
battCutoff, battPathClose, jobAllowWrite, ledgerLimitWrite, ledgCostWrite. -/
def Obligations.PowerLedger : Prop :=
  (∀ (s : State) (b : Bool),
     (b ≠ s.m.c.ledg.mainsOk → (b = true → s.m.c.boot.psuHot = false) →
       (b = true ∨ (s.m.c.ledg.battPresent = true ∧ s.m.c.ledg.battOpen = false)) → ∃ t, exec (.mainsOkChange b) s = .next t ∧
       t.m.c.ledg.mainsOk = b ∧ t.m.c.get R.LEDG_STATUS_SUPPLY_SEEN = 1 ∧
       t.m.c.get R.LEDG_STATUS_SUPPLY = (if b then 1 else 0) + (if s.m.c.ledg.battPresent then 2 else 0) ∧ t.m.m = s.m.m ∧
       s.m.c.sameRegsBut t.m.c ([R.LEDG_STATUS_SUPPLY, R.LEDG_STATUS_SUPPLY_SEEN, R.LEDG_COMMIT_BUDGET] ++ evtFields)) ∧
     (b = false → s.m.c.ledg.mainsOk = true → (s.m.c.ledg.battPresent = false ∨ s.m.c.ledg.battOpen = true) →
       exec (.mainsOkChange b) s = .next (s.withMach fun x => Mach.hardReset { x with c := mainsChange false x.c } 0)) ∧
     (b = true → s.m.c.ledg.mainsOk = false → s.m.c.boot.psuHot = true → s.m.c.ledg.battPresent = true → s.m.c.ledg.battOpen = false →
       exec (.mainsOkChange b) s = .next (s.withMach id)) ∧
     (b ≠ s.m.c.ledg.battPresent → (s.m.c.ledg.mainsOk = true ∨ (b = true ∧ s.m.c.ledg.battOpen = false)) →
       ∃ t, exec (.battPresenceChange b) s = .next t ∧ t.m.c.ledg.battPresent = b ∧
       t.m.c.get R.LEDG_STATUS_SUPPLY = (if s.m.c.ledg.mainsOk then 1 else 0) + (if b then 2 else 0) ∧ t.m.m = s.m.m ∧
       s.m.c.sameRegsBut t.m.c (R.LEDG_STATUS_SUPPLY :: evtFields)) ∧
     (b = false → s.m.c.ledg.battPresent = true → s.m.c.ledg.mainsOk = false → exec (.battPresenceChange b) s =
       .next (s.withMach fun x => Mach.hardReset { x with c := battPresence false x.c } 0)) ∧
     (s.m.c.ledg.mainsOk = false → s.m.c.is R.LEDG_STATUS_BATT_LOW = false → ∃ t, exec .battLowSet s = .next t ∧
       t.m.c.get R.LEDG_STATUS_BATT_LOW = 1 ∧ bit (t.m.c.get R.FIRE_FAULT) 4 = true ∧ t.m.m = s.m.m ∧
       s.m.c.sameRegsBut t.m.c (R.LEDG_STATUS_BATT_LOW :: R.FIRE_FAULT :: evtFields)) ∧
     (s.m.c.ledg.mainsOk = true → exec .battLowSet s = .next (s.withCtl id)) ∧
     (s.m.c.is R.LEDG_STATUS_BATT_LOW = true → ∃ t, exec .battLowClear s = .next t ∧
       t.m.c.get R.LEDG_STATUS_BATT_LOW = 0 ∧ bit (t.m.c.get R.FIRE_FAULT) 4 = false ∧ t.m.m = s.m.m ∧
       s.m.c.sameRegsBut t.m.c (R.LEDG_STATUS_BATT_LOW :: R.FIRE_FAULT :: evtFields)) ∧
     (s.m.c.ledg.mainsOk = true → ∃ t, exec .battCutoff s = .next t ∧ t.m.c.ledg.battOpen = true ∧ t.m.c.regs = s.m.c.regs ∧
       t.m.m = s.m.m) ∧
     (s.m.c.ledg.mainsOk = false → exec .battCutoff s =
       .next (s.withMach fun x => Mach.hardReset { x with c := battCutoff x.c } 0)) ∧
     (∃ t, exec .battPathClose s = .next t ∧ t.m.c.ledg.battOpen = false ∧ t.m.c.regs = s.m.c.regs ∧ t.m.m = s.m.m)) ∧
  (∀ (s : State) (k : Fin 4) (d : BitVec 32) (v : Nat) (held : Prop), held = (k = 3 ∧ ∃ n, .allow n ∈ s.m.c.ledg.shed) →
     v = R.LEDG_JOB_ALLOW_ALLOW.of d.toNat →
     (held → s.m.c.get R.LEDG_JOB_ALLOW_ALLOW k < v → ∃ t, exec (.jobAllowWrite k d) s = .next t ∧ .allow v ∈ t.m.c.ledg.shed ∧
       t.m.c.get R.LEDG_JOB_ALLOW_ALLOW k = s.m.c.get R.LEDG_JOB_ALLOW_ALLOW k ∧ t.m.m = s.m.m) ∧
     (held → v ≤ s.m.c.get R.LEDG_JOB_ALLOW_ALLOW k → ∃ t, exec (.jobAllowWrite k d) s = .next t ∧
       (∀ n, .allow n ∉ t.m.c.ledg.shed) ∧ t.m.c.get R.LEDG_JOB_ALLOW_ALLOW k = v ∧ t.m.m = s.m.m) ∧
     (k = 0 → ∃ t, exec (.jobAllowWrite k d) s = .next t ∧ t.m.m = s.m.m ∧ (t.m.c.get R.LEDG_JOB_ALLOW_ALLOW k = v ∨
       (t.m.c.get R.LEDG_JOB_ALLOW_ALLOW k = s.m.c.get R.LEDG_JOB_ALLOW_ALLOW k ∧
         t.m.c.get R.LEDG_REFUSED_COUNT k = (s.m.c.get R.LEDG_REFUSED_COUNT k + 1) % 2 ^ R.LEDG_REFUSED_COUNT.width))) ∧
     (¬held → v ≤ s.m.c.get R.LEDG_JOB_ALLOW_ALLOW k → ∃ t, exec (.jobAllowWrite k d) s = .next t ∧
       t.m.c.get R.LEDG_JOB_ALLOW_ALLOW k = v ∧
       s.m.c.sameRegsBut t.m.c [R.LEDG_JOB_ALLOW_ALLOW, R.LEDG_COMMIT_T, R.LEDG_COMMIT_BUDGET, R.LEDG_ENV_ENV, R.LEDG_ENV_OBJ] ∧
       t.m.m = s.m.m) ∧
     (∀ add, add = s.m.c.scaled s.m.c.lean (16 * (v - s.m.c.get R.LEDG_JOB_ALLOW_ALLOW k)) →
       ¬held → k ≠ 0 → s.m.c.get R.LEDG_JOB_ALLOW_ALLOW k < v →
       (s.m.c.envelope false s.m.c.lean k + add ≤ 16 * s.m.c.get R.LEDG_CLASS_CAP_CAP k → s.m.c.fits add false = true →
         ∃ t, exec (.jobAllowWrite k d) s = .next t ∧ t.m.c.get R.LEDG_JOB_ALLOW_ALLOW k = v) ∧
       (¬(s.m.c.envelope false s.m.c.lean k + add ≤ 16 * s.m.c.get R.LEDG_CLASS_CAP_CAP k ∧ s.m.c.fits add false = true) →
         ∃ t, exec (.jobAllowWrite k d) s = .next t ∧
           t.m.c.get R.LEDG_JOB_ALLOW_ALLOW k = s.m.c.get R.LEDG_JOB_ALLOW_ALLOW k ∧
           t.m.c.get R.LEDG_REFUSED_COUNT k = (s.m.c.get R.LEDG_REFUSED_COUNT k + 1) % 2 ^ R.LEDG_REFUSED_COUNT.width))) ∧
  (∀ (s : State) (m : Master) (d : BitVec 32) (w : Fin 4) (i : Fin 54),
     (s.m.c.secure m = true → s.m.c.armed = false →
       inRange (R.fieldsLEDG.filter (fun r => r.addr == 0x20100 + 4 * w.val)) d.toNat = true →
       exec (.ledgerLimitWrite m w d) s = .next (s.withCtl fun c =>
         (c.store (R.fieldsLEDG.filter (fun r => r.addr == 0x20100 + 4 * w.val)) 0 d.toNat).ledgShow)) ∧
     (s.m.c.secure m = false → exec (.ledgerLimitWrite m w d) s = .next (s.withCtl fun c => c.denied m (0x20100 + 4 * w))) ∧
     (∃ t, exec (.ledgCostWrite .keeper i d) s = .next t ∧ t.m.c.get R.LEDG_COST_FULL i = d.toNat % 2 ^ 12 ∧
       t.m.c.get R.LEDG_COST_ALT i = d.toNat / 2 ^ 16 % 2 ^ 12 ∧ (∀ j, j ≠ i.val → t.m.c.get R.LEDG_COST_FULL j = s.m.c.get R.LEDG_COST_FULL j) ∧
       t.m.m = s.m.m) ∧
     (m ≠ .keeper → d.toNat % 2 ^ 12 = s.m.c.get R.LEDG_COST_FULL i → d.toNat / 2 ^ 16 % 2 ^ 12 = s.m.c.get R.LEDG_COST_ALT i →
       exec (.ledgCostWrite m i d) s = .next (s.withCtl id)) ∧
     (m ≠ .keeper → d.toNat % 2 ^ 12 ≠ s.m.c.get R.LEDG_COST_FULL i → ∃ t, exec (.ledgCostWrite m i d) s = .next t ∧ t.m.c.get R.LEDG_STATUS_ERR_STATE = 1 ∧
       s.m.c.sameRegsBut t.m.c (R.LEDG_STATUS_ERR_STATE :: evtFields)))

/-- On a module outside a hinge, with no scene switch pending, a write of a word of an OBJ, SRC, FEED, ZONE or PLAN entry whose
values are in range and which changes no locked field is stored by access type, and LAST reads OK; SYS_LAW takes values in their
ranges and leaves others (R5, R56, R58, R70, R104); a write of a word that holds no field a write can change is ignored. A hinge
standby refuses every mirrored table write but the keeper's own: LAST reads STATE, and no other field of the tables changes
(R248). Under conditions on the state and the operands alone it gives the next state of: objEntryWrite, srcEntryWrite,
feedEntryWrite, zoneEntryWrite, planEntryWrite, sysLawWrite. -/
def Obligations.TableEntryWrites : Prop :=
  (∀ (s : State) (m : Master) (d : BitVec 32), s.m.c.get R.HNG_STATUS_ROLE = 0 → s.m.c.switching = false →
     (∀ (o : Fin 1024) (w : Fin 16), roWord (objWord w) = true → ¬(8 ≤ w.val ∧ w.val ≤ 11) →
       exec (.objEntryWrite m o w d) s = .next (s.withCtl id)) ∧
     (∀ (o : Fin 1024), o.val < s.m.c.objCount → exec (.objEntryWrite m o 1 d) s = .next (s.withCtl fun c =>
       (c.store (objWord 1) o d.toNat).set R.OBJ_LAST 0 o)) ∧
     (∀ (o : Fin 1024) (w : Fin 16), o.val < s.m.c.objCount → 2 ≤ w.val → ¬(8 ≤ w.val ∧ w.val ≤ 11) → roWord (objWord w) = false →
       inRange (objWord w) d.toNat = true →
       s.m.c.changes ((objWord w).filter (·.isIn objLocked)) o d.toNat = false → s.m.c.is R.OBJ_GLOBAL o = false →
       exec (.objEntryWrite m o w d) s = .next (s.withCtl fun c =>
         (c.store ((objWord w).filter (fun r => r.id != R.OBJ_ACT_REQ.id)) o d.toNat).set R.OBJ_LAST 0 o)) ∧
     (∀ (o : Fin 1024) (w : Fin 16), o.val < s.m.c.objCount → 8 ≤ w.val → w.val ≤ 11 →
       exec (.objEntryWrite m o w d) s = .next (s.withCtl fun c =>
         (c.set R.OBJ_ZMASK d.toNat (4 * o + (w - 8))).set R.OBJ_LAST 0 o)) ∧
     (∀ (i : Fin 256) (w : Fin 8), roWord (srcWord w) = true → exec (.srcEntryWrite m i w d) s = .next (s.withCtl id)) ∧
     (∀ (i : Fin 256) (w : Fin 8), w ≠ 0 → w ≠ 3 → roWord (srcWord w) = false → s.m.c.is R.SRC_EN i = false →
       exec (.srcEntryWrite m i w d) s = .next (s.withCtl fun c => (c.store (srcWord w) i d.toNat).set R.SRC_LAST 0 i)) ∧
     (∀ (f : Fin 768) (w : Fin 16), roWord (feedFields w) = true → exec (.feedEntryWrite m f w d) s = .next (s.withCtl id)) ∧
     (∀ (f : Fin 768) (w : Fin 16), roWord (feedFields w) = false → f.val < s.m.c.feedCount → inRange (feedFields w) d.toNat = true →
       s.m.c.breaksScene (feedFields w) f d.toNat = false →
       exec (.feedEntryWrite m f w d) s = .next (s.withCtl fun c =>
         (((c.store (feedFields w) f d.toNat).set R.FEED_LAST 0 f).showFeeds).when
           (w.val = 0 && d.toNat % 2 = 1 && !c.is R.FEED_EN f) (·.noLast f))) ∧
     (∀ (z : Fin 128) (w : Fin 16), roWord (zoneFields w) = true → exec (.zoneEntryWrite m z w d) s = .next (s.withCtl id)) ∧
     (∀ (z : Fin 128) (w : Fin 16), roWord (zoneFields w) = false → inRange (zoneFields w) d.toNat = true →
       s.m.c.breaksScene (zoneFields w) z d.toNat = false →
       exec (.zoneEntryWrite m z w d) s = .next (s.withCtl fun c => (c.store (zoneFields w) z d.toNat).set R.ZONE_LAST 0 z)) ∧
     (∀ (p : Fin 64) (w : Fin 16), s.m.c.secure m = true → w.val < 2 ∨ w.val = 11 → roWord (planFields w) = false →
       inRange (planFields w) d.toNat = true → s.m.c.get R.PLAN_STATE p = 0 →
       exec (.planEntryWrite m p w d) s = .next (s.withCtl fun c =>
         ((c.store (planFields w) p d.toNat).set R.PLAN_LAST 0 p).showDirty)) ∧
     (33000 ≤ R.SYS_LAW_C_SOUND.of d.toNat → R.SYS_LAW_C_SOUND.of d.toNat ≤ 35500 →
       (R.SYS_LAW_AIR_F.of d.toNat = 0 ∨ 50 ≤ R.SYS_LAW_AIR_F.of d.toNat ∧ R.SYS_LAW_AIR_F.of d.toNat ≤ 2000) →
       exec (.sysLawWrite m d) s = .next (s.withCtl fun c =>
         (c.set R.SYS_LAW_C_SOUND (R.SYS_LAW_C_SOUND.of d.toNat)).set R.SYS_LAW_AIR_F (R.SYS_LAW_AIR_F.of d.toNat)))) ∧
  (∀ (s : State) (m : Master) (d : BitVec 32), s.m.c.get R.HNG_STATUS_ROLE = 3 → m ≠ .keeper →
     (∀ (o : Fin 1024) (w : Fin 16), w ≠ 1 → ∃ t, exec (.objEntryWrite m o w d) s = .next t ∧ t.m.c.get R.OBJ_LAST o = 1 ∧
       t.m.m = s.m.m ∧ s.m.c.sameRegsBut t.m.c ([R.OBJ_LAST, R.HNG_STATUS_ERR_STATE] ++ evtFields)) ∧
     (∀ (i : Fin 256) (w : Fin 8), w ≠ 4 → ∃ t, exec (.srcEntryWrite m i w d) s = .next t ∧ t.m.c.get R.SRC_LAST i = 1 ∧
       t.m.m = s.m.m ∧ s.m.c.sameRegsBut t.m.c ([R.SRC_LAST, R.HNG_STATUS_ERR_STATE] ++ evtFields)) ∧
     (∀ (f : Fin 768) (w : Fin 16), w ≠ 9 → ∃ t, exec (.feedEntryWrite m f w d) s = .next t ∧ t.m.c.get R.FEED_LAST f = 1 ∧
       t.m.m = s.m.m ∧ s.m.c.sameRegsBut t.m.c ([R.FEED_LAST, R.HNG_STATUS_ERR_STATE] ++ evtFields)) ∧
     (∀ (z : Fin 128) (w : Fin 16), w ≠ 9 → ∃ t, exec (.zoneEntryWrite m z w d) s = .next t ∧ t.m.c.get R.ZONE_LAST z = 1 ∧
       t.m.m = s.m.m ∧ s.m.c.sameRegsBut t.m.c ([R.ZONE_LAST, R.HNG_STATUS_ERR_STATE] ++ evtFields)))

/-- A write to a PLAN entry whose STATE is not IDLE is refused with STATE, whatever it carries, and changes nothing else (R70);
a write of a word that holds no field a write can change is ignored. Under conditions on the state and the operands alone it
gives the next state of: planEntryWrite. -/
def Obligations.PlanEntryBusy : Prop :=
  ∀ (s : State) (m : Master) (p : Fin 64) (w : Fin 16) (d : BitVec 32), s.m.c.secure m = true → s.m.c.get R.PLAN_STATE p ≠ 0 →
    s.m.c.hngBar m = 0 →
    ((roWord (planFields w) = false ∨ (2 ≤ w.val ∧ w.val ≤ 9)) → ∃ t, exec (.planEntryWrite m p w d) s = .next t ∧ t.m.m = s.m.m ∧
      t.m.c.get R.PLAN_LAST p = 1 ∧ t.m.c.get R.PLAN_ERR_STATE p = 1 ∧
      s.m.c.sameRegsBut t.m.c ([R.PLAN_LAST, R.PLAN_ERR_STATE] ++ evtFields)) ∧
    (roWord (planFields w) = true → ¬(2 ≤ w.val ∧ w.val ≤ 9) → ∃ t, exec (.planEntryWrite m p w d) s = .next t ∧
      t.m.c.regs = s.m.c.regs ∧ t.m.m = s.m.m)

/-- Requests of an object (R61 to R63). ACT_REQ = 1 on an IDLE object of class B to D whose charge fits is PENDING; the
activation of one with ACT_AT is SCHEDULED; a charge that does not fit is refused with LEDGER and counted. ACT_REQ = 0 takes a
PENDING object back to IDLE and lets an ACTIVE one fade out. A SCHEDULED object is decided at a tick boundary. Under conditions
on the state and the operands alone it gives the next state of: objActivate, objDeactivate, scheduledActivation. -/
def Obligations.ObjectActivation : Prop :=
  (∀ (s : State) (m : Master) (o : Fin 1024) (d : Nat), s.m.c.get R.HNG_STATUS_ROLE = 0 → s.m.c.switching = false →
    o.val < s.m.c.objCount → s.m.c.is R.OBJ_GLOBAL o = false →
    (d = putBit ((objWord 0).foldl (fun n r => n + s.m.c.get r o * 2 ^ r.lo) 0) 0 true → inRange (objWord 0) d = true →
      s.m.c.changes ((objWord 0).filter (·.isIn objLocked)) o d = false → R.OBJ_ACT_REQ.of d = 1 →
      s.m.c.get R.OBJ_ACT_REQ o = 0 →
      exec (.objActivate m o) s = .next (s.withCtl fun c =>
        ((c.store ((objWord 0).filter (fun r => r.id != R.OBJ_ACT_REQ.id)) o d).set R.OBJ_LAST 0 o).objActivate o)) ∧
    (d = putBit ((objWord 0).foldl (fun n r => n + s.m.c.get r o * 2 ^ r.lo) 0) 0 false → inRange (objWord 0) d = true →
      s.m.c.changes ((objWord 0).filter (·.isIn objLocked)) o d = false → R.OBJ_ACT_REQ.of d = 0 →
      s.m.c.get R.OBJ_ACT_REQ o = 1 →
      exec (.objDeactivate m o) s = .next (s.withCtl fun c =>
        ((c.store ((objWord 0).filter (fun r => r.id != R.OBJ_ACT_REQ.id)) o d).set R.OBJ_LAST 0 o).objDeactivate o))) ∧
  (∀ (c : Ctl) (o : Nat), c.get R.OBJ_STATE o = 0 →
    (c.is R.OBJ_ACT_AT o = true → (c.objActivate o).get R.OBJ_STATE o = 7 ∧ (c.objActivate o).get R.OBJ_ACT_REQ o = 1 ∧
      (c.objActivate o).get R.OBJ_LAST o = 0) ∧
    (c.is R.OBJ_ACT_AT o = false → c.get R.OBJ_CLASS o ≠ 0 → c.get R.SRC_CLASS (c.get R.OBJ_SRC o) ≤ c.get R.OBJ_CLASS o →
      c.get R.OBJ_LAW o ≠ 1 → c.is R.OBJ_GLOBAL o = false → c.get R.HNG_STATUS_ROLE = 0 →
      (c.objFits (c.get R.OBJ_CLASS o) (c.get R.OBJ_COST o) = true → (c.objActivate o).get R.OBJ_STATE o = 1 ∧
        (c.objActivate o).get R.OBJ_ACT_REQ o = 1 ∧ (c.objActivate o).get R.OBJ_LAST o = 0) ∧
      (c.objFits (c.get R.OBJ_CLASS o) (c.get R.OBJ_COST o) = false → (c.objActivate o).get R.OBJ_STATE o = 0 ∧
        (c.objActivate o).get R.OBJ_ACT_REQ o = 0 ∧ (c.objActivate o).get R.OBJ_LAST o = 5 ∧
        (c.objActivate o).get R.LEDG_REFUSED_COUNT (c.get R.OBJ_CLASS o) =
          (c.get R.LEDG_REFUSED_COUNT (c.get R.OBJ_CLASS o) + 1) % 2 ^ R.LEDG_REFUSED_COUNT.width))) ∧
  (∀ (c : Ctl) (o : Nat), c.is R.OBJ_ACT_REQ o = true →
    (c.get R.OBJ_STATE o = 1 → (c.objDeactivate o).get R.OBJ_STATE o = 0 ∧ (c.objDeactivate o).get R.OBJ_ACT_REQ o = 0 ∧
      (c.objDeactivate o).get R.OBJ_LAST o = 0) ∧
    (c.get R.OBJ_STATE o = 3 → c.is R.OBJ_GLOBAL o = false → cget (c.objDeactivate o).tab.fadeReq o = 2 ∧
      (c.objDeactivate o).get R.OBJ_STATE o = 3 ∧ (c.objDeactivate o).get R.OBJ_ACT_REQ o = 0)) ∧
  (∀ s : State,
    (s.m.c.tab.tickDue = true → s.m.c.get R.HNG_STATUS_ROLE ≠ 3 → exec .scheduledActivation s =
      .next (s.withCtl fun c => c.each s.m.c.scheduledDue (fun c o => (c.objDecide o).1))) ∧
    (s.m.c.tab.tickDue = false → exec .scheduledActivation s = .next (s.withCtl id)))

/-- Rings (R94, R96). EN = 1 on a source whose ring fits opens the source, EN = 0 closes it; a RING write within the allocation
of an open ring waits, and takes effect, with the fill cut to it, at the boundary. The laws and the mix. A sum of gains is none
where one of its first offsets is off, and is else at most 1,800 (R78). The distance gain is 1 for class A and in mode 0 (R85).
A tap's delay jumps where it changes by more than a quarter of a sample in each of the tick's, and else ramps from the current
one to the target, never above the largest usable delay (R90, R91, R95). A ring and a near window read 0 past their fill (R94,
R97). A block adds into an enabled feed's accumulators modulo 2^72, and into no other feed (R89). A target set that is written
into a tap record is read again from it, and leaves the other set alone (R93). An object's law shows the live taps, and none of
its targets is beyond the largest usable delay (R92, R95). A solve makes at most PASSES passes, keeps every delay within its
limit, and reports points that stay unresolved (R100). Under conditions on the state and the operands alone it gives the next
state of: srcEnable, srcDisable, ringLengthWrite, ringLengthChange. -/
def Obligations.SourceRings : Prop :=
  (∀ (s : State) (m : Master) (i : Fin 256), s.m.c.get R.HNG_STATUS_ROLE = 0 → s.m.c.switching = false →
     (∀ d, d = s.m.c.srcHeadAs i 1 → R.SRC_EN.of d = 1 → s.m.c.is R.SRC_EN i = false → R.SRC_PORT.of d < 10 →
       s.m.c.chanOk (R.SRC_PORT.of d) (R.SRC_CHAN.of d) = true → s.m.c.classBreak i (R.SRC_CLASS.of d) = false →
       s.m.c.ringUsed + ringAlloc (s.m.c.get R.SRC_RING i) ≤ s.m.c.ringRoom →
       exec (.srcEnable m i) s = .next (s.withCtl fun c => (((c.store (srcWord 0) i d).set R.SRC_LAST 0 i).srcOpen i).announce)) ∧
     (∀ d, d = s.m.c.srcHeadAs i 0 → R.SRC_EN.of d = 0 → s.m.c.is R.SRC_EN i = true → R.SRC_PORT.of d < 10 →
       s.m.c.chanOk (R.SRC_PORT.of d) (R.SRC_CHAN.of d) = true →
       s.m.c.changes ((srcWord 0).filter (·.isIn srcLocked)) i d = false → R.SRC_CLASS.of d = s.m.c.get R.SRC_CLASS i →
       exec (.srcDisable m i) s = .next (s.withCtl fun c => (((c.store (srcWord 0) i d).set R.SRC_LAST 0 i).srcClose i).announce)) ∧
     (∀ (d : BitVec 32) (r : Ring), s.m.c.is R.SRC_EN i = true → kget? s.m.c.src.rings i = some r →
       128 ≤ R.SRC_RING.of d.toNat → R.SRC_RING.of d.toNat ≤ 96068 → R.SRC_RING.of d.toNat ≤ r.alloc →
       ∃ t, exec (.ringLengthWrite m i d) s = .next t ∧
         kget? t.m.c.src.rings i = some { r with pend := some (R.SRC_RING.of d.toNat) } ∧
         t.m.c.get R.SRC_LAST i = 0 ∧ t.m.c.get R.SRC_RING i = s.m.c.get R.SRC_RING i ∧ t.m.m = s.m.m) ∧
     (∀ (r : Ring) (n : Nat), kget? s.m.c.src.rings i = some r → r.pend = some n →
       ∃ t, exec (.ringLengthChange i) s = .next t ∧ t.m.c.get R.SRC_RING i = n % 2 ^ R.SRC_RING.width ∧
         kget? t.m.c.src.rings i = some { r with pend := none, fill := min r.fill n, data := r.data.take n } ∧ t.m.m = s.m.m)) ∧
  ((∀ offs rest : List Nat, (gainSum offs rest = none ↔ 0x8000 ∈ offs) ∧ ∀ n, gainSum offs rest = some n → n ≤ 1800) ∧
   (∀ (m : ZoneMesh) (k r : Nat), k = 0 ∨ m.mode = 0 → distGain m k r = fOne) ∧
   (∀ (t : TapRec) (r : Ring) (top s j q m n : Nat), n = max t.d t.dCur - min t.d t.dCur → q < m →
     (m * 2 ^ 13 < n → t.delay q m = none ∧ t.sample r top s j q m =
       crossFade (r.interp s j (min t.dCur top)) (r.interp s j (min t.d top)) q m) ∧
     (n ≤ m * 2 ^ 13 → ∃ d, t.delay q m = some d ∧ min t.d t.dCur ≤ d ∧ d ≤ max t.d t.dCur ∧ (q + 1 = m → d = t.d) ∧
       t.sample r top s j q m = r.interp s j (min d top))) ∧
   (∀ (r : Ring) (n : Near) (w : Mem) (slot s j d : Nat), j < s →
     (r.fill ≤ d + (s - 1 - j) → r.point s j d = 0) ∧ (n.fill ≤ d + (s - 1 - j) → n.point slot w s j d = 0)) ∧
   (∀ (c : Ctl) (f : Nat) (zs : List Int),
     (c.is R.FEED_EN f = false → c.accBlock f zs = c) ∧ (c.accBlock f zs).regs = c.regs ∧
     (∀ g, g ≠ f → kget? (c.accBlock f zs).corr.feeds g = kget? c.corr.feeds g) ∧
     (c.is R.FEED_EN f = true → (kgetD c.corr.feeds f {}).acc.length = zs.length → ∀ i < zs.length,
       (((kgetD (c.accBlock f zs).corr.feeds f {}).acc.getD i 0) - ((kgetD c.corr.feeds f {}).acc.getD i 0 + zs.getD i 0)) % 2 ^ 72 = 0)) ∧
   (∀ (m : Mem) (a p d air : Nat) (g : Int), m.wf = true → p < 2 → -2 ^ 23 ≤ g → g < 2 ^ 23 → d < 2 ^ 32 → air < 2 ^ 24 →
     (let t := tapRec (m.tapSet a p g d air 1) a p
      t.g = g ∧ t.d = d ∧ t.a = air ∧ t.air = true) ∧
     tapRec (m.tapSet a p g d air 1) a (1 - p) = tapRec m a (1 - p)) ∧
   (∀ (x : Mach) (t : RegMap) (o q : Nat) (fresh : Bool) (goals : Keyed TapGoal), o < 1024 →
     (x.assignTaps t o q fresh goals).c.get R.OBJ_TAPS o =
       ((x.assignTaps t o q fresh goals).c.tapsOf o).length % 2 ^ R.OBJ_TAPS.width) ∧
   (∀ (c : Ctl) (t : RegMap) (o z : Nat) (amps : Keyed Nat),
     (∀ e ∈ c.zoneGoals t o z amps, e.2.d ≤ c.dMax (t.get R.SRC_RING (t.get R.OBJ_SRC o)) * 2 ^ 15) ∧
     (∀ e ∈ c.denseZone t o z, e.2.d ≤ 4096 - c.winSamples - 4)) ∧
   (∀ (q : SolveCfg) (ps : List Point) (n : Nat) (ts : Delays), (∀ e ∈ ts, e.2.1 ≤ q.limit) →
     (q.run ps n ts).2 ≤ n ∧ ∀ f, (kgetD (q.run ps n ts).1 f (0, false)).1 ≤ q.limit) ∧
   (∀ (c : Ctl) (t : RegMap) (z : Nat), z < 128 → (c.solveZone t z).unresolved ≠ 0 →
     (c.solve t z).get R.SYS_LAW_STATUS_EXIT_SEEN = 1 ∧ kget? (c.solve t z).src.solves z = some (c.solveZone t z)))

/-- Scenes (R71, R72, R74). A load that is written makes the stage READY with its ID; at a tick boundary at or after the switch
window the stage becomes the bank in force, EMPTY behind it. A REFUSE cell from the fabric marks the object that its home
refused (R68). Under conditions on the state and the operands alone it gives the next state of: sceneLoadDone,
sceneSwitchBoundary, refuseReceive. -/
def Obligations.SceneLoadAndSwitch : Prop :=
  ∀ s : State,
    (∀ l, s.m.c.longOf 0x20 = some l → s.m.c.tab.loadPend = true → s.m.c.regionFree s.m.c.tab.loadProg = true →
      s.m.c.tab.loadProg = [] → ∃ t, exec .sceneLoadDone s = .next t ∧ t.m.c.get R.SYS_SCENE_STAGE = 2 ∧
        t.m.c.get R.SYS_STAGE_ID = s.m.c.tab.loadId % 2 ^ 32 ∧ t.m.c.tab.stage = s.m.c.tab.loadImg ∧
        t.m.c.tab.loadPend = false ∧ t.m.c.get R.SYS_SCENE_LOAD_FAIL = 0) ∧
    (∀ m, s.m.c.tab.switchMin = some m → s.m.c.tab.tickDue = true → later m s.m.c.winNo = false →
      exec .sceneSwitchBoundary s = .next (s.withCtl fun c =>
        let c' := ((((c.exchange.set R.SYS_SCENE_STAGE 0).set R.SYS_STAGE_ID 0).set R.SYS_SCENE_PENDING 0).set R.SYS_SCENE_ID
          (c.get R.SYS_STAGE_ID)).set R.SYS_SCENE_WIN c.exchange.winNo
        let c' := { c' with tab := { c'.tab with lastSwitch := c'.winNo } }
        (c'.each (c.tab.stageProg.flatMap (fun p => yardsOf p.yards)) (fun c y => c.imageForce y)).faults.ledgShow)) ∧
    (∀ m, s.m.c.tab.switchMin = some m → s.m.c.tab.tickDue = false → exec .sceneSwitchBoundary s = .next (s.withCtl id)) ∧
    (∀ (g : Fin 4) (x : Cell) (c : Ctl), ({ s.m.c with out := [] } : Ctl).ctrlIn g x 2 = (c, true) →
      ∃ t, exec (.refuseReceive g x) s = .next t ∧ (∀ o < 1024, c.is R.OBJ_GLOBAL o = true →
        c.get R.OBJ_GID o = x.words.getD 1 0 % 4096 → c.get R.OBJ_HOME o = c.node →
        t.m.c.get R.OBJ_REMOTE_REFUSED o = 1) ∧ t.m.m = s.m.m)

/-- Bank loads (R113). GO with no load in progress, on a feed that exists, a bank that is not in use and a good image, while
DRAM answers, starts the load: BUSY, LOADING, VALID = 0. Its completion sets VALID and writes OK into LAST; after 64 windows it
ends with TIMEOUT. Swaps and fades (R114, R115). A swap to the other, VALID bank of a feed that does not fade is entered for the
next window while its yard has fewer than 48 fades; a fade that has run its length ends and is counted; a pending swap starts
when the feed is free, in ascending order of feeds, but on a standby, which starts it by the journal. Under conditions on the
state and the operands alone it gives the next state of: corrLoadGo, bankLoadComplete, bankLoadTimeout, corrSwap, bankFadeEnd,
pendingSwapStart. -/
def Obligations.CorrectionBanks : Prop :=
  ((∀ (s : State) (m : Master) (f : Fin 1024) (b : Fin 2) (slot : Fin 16) (base : Nat), s.m.c.get R.HNG_STATUS_ROLE = 0 →
     s.m.c.is R.CORR_LOAD_STATUS_BUSY = false → f.val < s.m.c.feedCount → s.m.c.bankBusy f b = false →
     base = s.m.c.base64k R.CORR_STAGE_BASE + slot * 0x10000 → s.m.m.dram.rdN base 4 = 0x4B4E4243 →
     s.m.m.dram.rdN (base + 4) 2 = 1 → 1 ≤ s.m.m.dram.rdN (base + 6) 2 → s.m.m.dram.rdN (base + 6) 2 ≤ 8192 →
     crc32 (s.m.m.dram.rds (base + 0x40) (4 * s.m.m.dram.rdN (base + 6) 2)) = s.m.m.dram.rdN (base + 0x10) 4 →
     bit (s.m.m.dram.rdN (base + 0xA) 2) 0 = s.m.c.rate96 → s.m.m.dram.rdN (base + 8) 2 = f →
     s.m.c.dramDown = false → s.m.c.dram.bad = [] →
     ∃ t, exec (.corrLoadGo m f b slot) s = .next t ∧ t.m.c.get R.CORR_LOAD_STATUS_BUSY = 1 ∧
       t.m.c.get (validReg b) f = 0 ∧ t.m.c.get R.CORR_FEED_LOADING f = 1 ∧
       (t.m.c.corr.load.map (·.start)) = some s.m.c.winNo ∧ t.m.m = s.m.m) ∧
   (∀ (s : State) (m : Master) (f : Fin 1024) (b : Fin 2) (slot : Fin 16), s.m.c.get R.HNG_STATUS_ROLE = 0 →
     s.m.c.is R.CORR_LOAD_STATUS_BUSY = true → ∃ t, exec (.corrLoadGo m f b slot) s = .next t ∧
       t.m.c.get R.CORR_LOAD_STATUS_LAST = 3 ∧ t.m.c.corr.load = s.m.c.corr.load ∧ t.m.m = s.m.m ∧
       s.m.c.sameRegsBut t.m.c (R.CORR_LOAD_STATUS_LAST :: evtFields)) ∧
   (∀ (s : State) (l : BankLoad), s.m.c.corr.load = some l →
     (s.m.c.get R.DRAM_STATUS_MODE ≠ 3 → ∃ t, exec .bankLoadComplete s = .next t ∧ t.m.c.corr.load = none ∧ t.m.c.get (validReg l.bank) l.feed = 1 ∧
       t.m.c.get R.CORR_FEED_LOADING l.feed = 0 ∧ t.m.c.get R.CORR_LOAD_STATUS_BUSY = 0 ∧
       t.m.c.get R.CORR_LOAD_STATUS_LAST = 0 ∧ kget? t.m.c.corr.banks (2 * l.feed + l.bank) = some l.taps ∧
       t.m.m.store = s.m.m.store ∧ t.m.m.imem = s.m.m.imem ∧ t.m.m.dmem = s.m.m.dmem ∧ t.m.m.nor = s.m.m.nor) ∧
     (64 ≤ (s.m.c.winNo + 2 ^ 32 - l.start) % 2 ^ 32 → ∃ t, exec .bankLoadTimeout s = .next t ∧ t.m.c.corr.load = none ∧
       t.m.c.get R.CORR_LOAD_STATUS_BUSY = 0 ∧ t.m.c.get R.CORR_LOAD_STATUS_LAST = 7 ∧
       t.m.c.get R.CORR_STATUS_LOAD_FAIL_SEEN = 1 ∧
       t.m.c.get (validReg l.bank) l.feed = s.m.c.get (validReg l.bank) l.feed ∧ t.m.m = s.m.m) ∧
     ((s.m.c.winNo + 2 ^ 32 - l.start) % 2 ^ 32 < 64 → s.m.c.get R.DRAM_STATUS_MODE ≠ 3 →
       exec .bankLoadTimeout s = .next (s.withCtl id)))) ∧
  (∀ (s : State) (f : Fin 768),
     (∀ (m : Master) (b : Fin 2) (n : Fin 256), s.m.c.get R.HNG_STATUS_ROLE = 0 → f.val < s.m.c.feedCount →
       kget? s.m.c.corr.fades f = none → kget? s.m.c.corr.starts f = none → s.m.c.is R.CORR_FEED_PENDING f = false →
       b.val ≠ s.m.c.get R.CORR_FEED_ACTIVE f → s.m.c.is (validReg b) f = true → s.m.c.loadingBank f b = false →
       s.m.c.fadingIn (feedYard f) < 48 →
       ∃ t, exec (.corrSwap m f b n) s = .next t ∧ t.m.c.get R.CORR_FEED_TARGET f = b ∧ t.m.c.get R.CORR_FEED_FADE f = n ∧
         t.m.c.get R.CORR_FEED_LAST f = 0 ∧ kget? t.m.c.corr.starts f = some { target := b, len := n + 1 } ∧
         s.m.c.sameRegsBut t.m.c [R.CORR_FEED_TARGET, R.CORR_FEED_FADE, R.CORR_FEED_LAST] ∧ t.m.m = s.m.m) ∧
     (∀ x, kget? s.m.c.corr.fades f = some x → x.len ≤ x.done → ∃ t, exec (.bankFadeEnd f) s = .next t ∧
       t.m.c.get R.CORR_FEED_FADING f = 0 ∧ t.m.c.get R.CORR_FEED_FADE_LEFT f = 0 ∧
       t.m.c.get R.CORR_SWAPS = (s.m.c.get R.CORR_SWAPS + 1) % 2 ^ R.CORR_SWAPS.width ∧ kget? t.m.c.corr.fades f = none ∧
       s.m.c.sameRegsBut t.m.c [R.CORR_FEED_FADING, R.CORR_FEED_FADE_LEFT, R.CORR_SWAPS, R.CORR_STATUS_FADES] ∧ t.m.m = s.m.m) ∧
     (s.m.c.get R.HNG_STATUS_ROLE = 3 → exec (.pendingSwapStart f) s = .next (s.withCtl id)) ∧
     (∀ r, s.m.c.get R.HNG_STATUS_ROLE ≠ 3 →
       (s.m.c.corr.pend.map (·.1)).filter (fun g => feedYard g == feedYard f && g ≤ f) = [f.val] →
       kget? s.m.c.corr.pend f = some r → s.m.c.pendReady f = true → s.m.c.fadingIn (feedYard f) < 48 →
       r.target ≠ s.m.c.get R.CORR_FEED_ACTIVE f → ∃ t, exec (.pendingSwapStart f) s = .next t ∧
         t.m.c.get R.CORR_FEED_PENDING f = 0 ∧ t.m.c.get R.CORR_FEED_ACTIVE f = r.target % 2 ^ R.CORR_FEED_ACTIVE.width ∧
         t.m.c.get R.CORR_FEED_FADING f = 1 ∧ kget? t.m.c.corr.pend f = none ∧ t.m.m = s.m.m))

/-- Biquad sets (R117, R118). A stable set for a stage that exists is staged; READ shows the staged set, or the one in force.
The storm door's sets take the same form, SECURE and into its shadow. A set is stable when |a2| < 1 and |a1| < 1 + a2 in the
coefficients' format (R118). Under conditions on the state and the operands alone it gives the next state of: corrBqWrite,
corrBqRead, stormBqWrite, stormBqRead. -/
def Obligations.BiquadSets : Prop :=
  (∀ (s : State) (m : Master) (kind idx stage : Nat), s.m.c.bqSel = (kind, idx, stage) →
     (s.m.c.get R.HNG_STATUS_ROLE = 0 → s.m.c.bqSelOk kind idx stage = true →
       bqOk (s.m.c.bqRegs R.CORR_BQ_COEF_COEF) = true →
       ∃ t, exec (.corrBqWrite m) s = .next t ∧
         kget? t.m.c.corr.bqStaged (bqKey kind idx stage) = some (s.m.c.bqRegs R.CORR_BQ_COEF_COEF) ∧
         t.m.c.get R.CORR_BQ_STATUS_LAST = 0 ∧ t.m.c.corr.bqForce = s.m.c.corr.bqForce ∧ t.m.m = s.m.m) ∧
     (s.m.c.get R.HNG_STATUS_ROLE = 0 → bqOk (s.m.c.bqRegs R.CORR_BQ_COEF_COEF) = false →
       ∃ t, exec (.corrBqWrite m) s = .next t ∧ t.m.c.corr.bqStaged = s.m.c.corr.bqStaged ∧
         t.m.c.get R.CORR_BQ_STATUS_LAST = 2) ∧
     (s.m.c.bqSelOk kind idx stage = true → exec .corrBqRead s = .next (s.withCtl fun c =>
       (c.bqLoad R.CORR_BQ_COEF_COEF ((kget? c.corr.bqStaged (bqKey kind idx stage)).getD
         (kgetD c.corr.bqForce (bqKey kind idx stage) {}))).set R.CORR_BQ_STATUS_LAST 0)) ∧
     (s.m.c.secure m = true → bqOk (s.m.c.bqRegs R.STORM_BQ_COEF) = true → ∃ t, exec (.stormBqWrite m) s = .next t ∧
       kgetD t.m.c.storm.bqShadow s.m.c.stormBqKey {} = s.m.c.bqRegs R.STORM_BQ_COEF ∧ t.m.c.get R.STORM_STATUS_LAST = 0 ∧
       t.m.c.storm.bqForce = s.m.c.storm.bqForce ∧ t.m.m = s.m.m) ∧
     (s.m.c.secure m = true → exec (.stormBqRead m) s = .next (s.withCtl fun c =>
       (c.bqLoad R.STORM_BQ_COEF (kgetD c.storm.bqShadow s.m.c.stormBqKey {})).set R.STORM_STATUS_LAST 0)) ∧
     (s.m.c.secure m = false → exec (.stormBqWrite m) s = .next (s.withCtl fun c => c.denied m 0xE0068))) ∧
  (∀ b : BqSet, bqOk b = true ↔ (sx 24 b.a2).natAbs < 2 ^ 21 ∧ |sx 24 b.a1| < 2 ^ 21 + sx 24 b.a2)

/-- The guard (R121 to R129). An estimate falls due each second in which the guard runs, the first after one span, and counts.
With no confident microphone the zone shows STI 0 and confidence NONE; with one, its estimate and confidence, and BELOW = 0 at
or above the target. An ambient frame is measured once at each enabled microphone, and counts once, and the level of a quiet one
is shown. A zone that no longer carries class-A audio withdraws its countermeasures. Under conditions on the state and the
operands alone it gives the next state of: stiUpdate, ambientFrame, guardRelax. -/
def Obligations.IntelligibilityGuard : Prop :=
  ∀ (s : State) (z : Fin 128) (m0 m1 : List (BitVec 32)) (due : Prop),
    due = (s.m.c.guardRuns z = true ∧
      max (s.m.c.get R.CORR_STI_CTRL_SPAN) ((s.m.c.guard z).second + 1) ≤ (s.m.c.guard z).run / s.m.c.rateHz) →
    (¬due → exec (.stiUpdate z m0 m1) s = .next (s.withCtl id)) ∧
    (due → exec (.stiUpdate z m0 m1) s = .next (s.withCtl fun c =>
      (c.setGuard z { c.guard z with second := (c.guard z).run / c.rateHz }).stiApply z (c.stiMics z m0 m1))) ∧
    (∀ (c t : Ctl) (mics : List (Nat × StiMic)), t = c.stiApply z mics →
      t.get R.CORR_ZONE_NOREF z = (if mics = [] then 1 else 0) ∧
      t.get R.CORR_ZONE_UPDATES z = (c.get R.CORR_ZONE_UPDATES z + 1) % 2 ^ R.CORR_ZONE_UPDATES.width ∧
      c.sameRegsBut t (R.fieldsCORR ++ R.ZONE_STI :: evtFields) ∧
      ((∀ e ∈ mics, micConf e.2 = 0) → t.get R.CORR_ZONE_CONF z = 0 ∧ t.get R.ZONE_STI z = 0 ∧
        t.get R.CORR_ZONE_CONF_LOST_SEEN z = 1) ∧
      (∀ e, mics.filter (fun e => micConf e.2 != 0) = [e] → c.get R.ZONE_STI_TARGET z ≤ stiOf e.2.mti →
        t.get R.CORR_ZONE_CONF z = micConf e.2 % 2 ^ R.CORR_ZONE_CONF.width ∧
        t.get R.ZONE_STI z = stiOf e.2.mti % 2 ^ R.ZONE_STI.width ∧ t.get R.CORR_ZONE_BELOW z = 0)) ∧
    (∀ (y : Fin 4) (k : Fin 32) (i : Fin 2), 32 * y.val + k.val = z.val →
      (s.m.c.ambDue z i = false → exec (.ambientFrame y k i) s = .next (s.withCtl id)) ∧
      (s.m.c.ambDue z i = true → ∃ t, exec (.ambientFrame y k i) s = .next t ∧
        (t.m.c.guard z).seen = s.m.c.corr.done / s.m.c.framePer ∧ t.m.c.ambDue z i = false ∧
        (t.m.c.guard z).frames = (s.m.c.guard z).frames +
          (if (s.m.c.guard z).seen = s.m.c.corr.done / s.m.c.framePer then 0 else 1) ∧
        s.m.c.sameRegsBut t.m.c [R.CORR_ZONE_AMB, R.CORR_ZONE_AMB_STALE] ∧ t.m.m = s.m.m ∧
        (∀ v, (s.m.c.guard z).quiet = [] → s.m.c.ambQuiet z i = true → s.m.c.ambLevel z i = some v →
          t.m.c.get R.CORR_ZONE_AMB z = ux 16 v ∧ t.m.c.get R.CORR_ZONE_AMB_STALE z = 0) ∧
        ((s.m.c.guard z).quiet = [] → s.m.c.ambQuiet z i = false →
          t.m.c.get R.CORR_ZONE_AMB z = s.m.c.get R.CORR_ZONE_AMB z))) ∧
    (s.m.c.carriesA z = true → exec (.guardRelax z) s = .next (s.withCtl id)) ∧
    (s.m.c.carriesA z = false → ∃ t, exec (.guardRelax z) s = .next t ∧ t.m.c.get R.CORR_ZONE_LIFT_DB z = 0 ∧
      t.m.c.get R.CORR_ZONE_ANC_DB z = 0 ∧ t.m.c.get R.CORR_ZONE_STEP z = 0 ∧ t.m.c.get R.CORR_ZONE_CONF z = 0 ∧
      t.m.c.get R.ZONE_STI z = 0 ∧ (t.m.c.guard z).below = 0 ∧ s.m.c.sameRegsBut t.m.c [R.CORR_ZONE_LIFT_DB, R.CORR_ZONE_ANC_DB,
        R.CORR_ZONE_STEP, R.CORR_ZONE_CONF, R.ZONE_STI] ∧ t.m.m = s.m.m)

/-- A free stall in service, with every stall that picks before it busy, takes the order that R137 picks for it, and the order
leaves its stable's queue; orders of class B and C that have waited become aged and are numbered in that order (R136 to R139). A
job that has run for JOB_LIMIT stall cycles, or that is frozen when the limit comes, is aborted, and its yard notes the abort
(R140, R157, R167); one that runs below the limit goes on. The mix cut-off takes every MIX order of its window out of the yard's
queues, aborts the MIX jobs of its window and starts feed dispatch; feed dispatch before it starts once no MIX order of the
window waits or runs (R147). A transfer that has waited its age takes class-A precedence (R143). YARD_CTRL turns no stable off
that has work, no stable on in a disabled yard, and no yard off while windows run (R158); a latched YARD_RESERVE, YARD_ARB or
YARD_LIMITS takes effect (R136). Under conditions on the state and the operands alone it gives the next state of: jobDispatch,
orderAged, jobLimitAbort, mixCutoff, feedDispatch, xbarAgePromote, yardCtrlWrite, yardConfigApply. -/
def Obligations.Yards : Prop :=
  (∀ s : State,
     (∀ (i : Fin 128) (k : Pick), s.m.c.inService i = true → s.m.c.stall? i = none → s.m.c.pick i = some k →
       (∀ j ∈ (s.m.c.pickOrder (i / 8)).takeWhile (· != i.val), (s.m.c.stall? j).isSome = true) →
       ∃ t, exec (.jobDispatch i) s = .next t ∧ t.m.c.stall? i = some (jobStart k) ∧
         (t.m.c.stable (i / 8)).queue = (s.m.c.stable (i / 8)).queue.filter (fun o => o.post != k.order.post) ∧
         (t.m.c.stable (i / 8)).creditB = k.creditB ∧ (t.m.c.stable (i / 8)).creditC = k.creditC ∧
         t.m.c.get R.YARD_Q_DEPTH (i / 8) = (t.m.c.stable (i / 8)).queue.length % 2 ^ R.YARD_Q_DEPTH.width ∧
         (∀ j, j ≠ i.val → t.m.c.stall? j = s.m.c.stall? j) ∧ t.m.m = s.m.m) ∧
     (∀ (i : Fin 128) (x : StallSt), s.m.c.stall? i = some x → exec (.jobDispatch i) s = .next (s.withCtl id)) ∧
     (∀ (n : Fin 16) (post : Nat), ∃ t, exec (.orderAged n post) s = .next t ∧
       (t.m.c.stable n).queue = (s.m.c.stable n).queue.map (fun o =>
         if o.post = post ∧ (o.cls = 1 ∨ o.cls = 2) ∧ o.aged = none ∧ s.m.c.eligible o = true
         then { o with aged := some (s.m.c.stable n).agedCount } else o) ∧
       t.m.c.regs = s.m.c.regs ∧ t.m.m = s.m.m) ∧
     (∀ (i : Fin 128) (x : StallSt), s.m.c.stall? i = some x → x.wait ≠ .granted → (x.wait = .none → x.fx = []) →
       (s.m.c.jobLimit i ≤ x.cycles ∨ x.froze = true → ∃ t, exec (.jobLimitAbort i) s = .next t ∧
         t.m.c.stall? i = none ∧ t.m.c.get R.YARD_STATUS_FAULT_SEEN (i / 32) = 1 ∧
         t.m.c.get R.YARD_ABORTS (i / 32) = (s.m.c.get R.YARD_ABORTS (i / 32) + 1) % 2 ^ R.YARD_ABORTS.width ∧ t.m.m = s.m.m) ∧
       (x.cycles < s.m.c.jobLimit i → x.froze = false → exec (.jobLimitAbort i) s = .next (s.withMach id)))) ∧
  (∀ (s : State) (y : Fin 4),
     ((∀ e ∈ s.m.c.fabr.stalls, e.1 / 32 = y.val → e.2.wait ≠ .granted ∧ (e.2.wait = .none → e.2.fx = [])) →
       ∃ t, exec (.mixCutoff y) s = .next t ∧ (t.m.c.yard y).cut = true ∧ (t.m.c.yard y).dispatched = true ∧
       (∀ n < 4, (t.m.c.stable (4 * y + n)).queue =
         (s.m.c.stable (4 * y + n)).queue.filter (fun o => !(o.kind == 1 && o.deadline == s.m.c.cwin))) ∧
       (∀ i st, i / 32 = y.val → t.m.c.stall? i = some st → ¬(st.order.kind = 1 ∧ st.order.deadline = s.m.c.cwin)) ∧ t.m.m = s.m.m) ∧
     (s.m.c.mixOver = true → ∃ t, exec (.feedDispatch y) s = .next t ∧ (t.m.c.yard y).dispatched = true ∧
       t.m.c.regs = s.m.c.regs ∧ t.m.m = s.m.m) ∧
     (s.m.c.mixOver = false → exec (.feedDispatch y) s = .next (s.withCtl id)) ∧
     (∀ ch : Fin 16, (s.m.c.chan y ch).run = none → exec (.xbarAgePromote y ch) s = .next (s.withCtl id)) ∧
     (∀ ch : Fin 16, (s.m.c.chan y ch).run.isSome = true →
       exec (.xbarAgePromote y ch) s = .next (s.withCtl fun c => c.setChan y ch { s.m.c.chan y ch with aged := true })) ∧
     (∀ (m : Master) (d : BitVec 32), s.m.c.get R.HNG_STATUS_ROLE = 0 →
       (d.toNat % 2 = 0 → s.m.c.is R.YARD_CTRL_EN y = true → s.m.c.is R.WIN_STATUS_RUN = true →
         ∃ t, exec (.yardCtrlWrite m y d) s = .next t ∧ t.m.c.get R.YARD_STATUS_ERR_STATE y = 1 ∧
           s.m.c.sameRegsBut t.m.c (R.YARD_STATUS_ERR_STATE :: evtFields) ∧ t.m.m = s.m.m) ∧
       (R.YARD_CTRL_EN.of d.toNat = s.m.c.get R.YARD_CTRL_EN y → R.YARD_CTRL_STABLE_EN.of d.toNat = s.m.c.get R.YARD_CTRL_STABLE_EN y →
         ¬(R.YARD_CTRL_EN.of d.toNat = 0 ∧ s.m.c.is R.YARD_CTRL_EN y = true) →
         ∃ t, exec (.yardCtrlWrite m y d) s = .next t ∧ t.m.c.get R.YARD_CTRL_EN y = R.YARD_CTRL_EN.of d.toNat ∧
           t.m.c.get R.YARD_CTRL_STABLE_EN y = R.YARD_CTRL_STABLE_EN.of d.toNat ∧ t.m.m = s.m.m)) ∧
     (∃ t, exec (.yardConfigApply y) s = .next t ∧ (t.m.c.yard y).cfg = {} ∧ t.m.m = s.m.m ∧
       (∀ d, (s.m.c.yard y).cfg.limits = some d → t.m.c.get R.YARD_LIMITS_JOB_LIMIT y = R.YARD_LIMITS_JOB_LIMIT.of d) ∧
       (∀ d, (s.m.c.yard y).cfg.arb = some d → t.m.c.get R.YARD_ARB_WB y = R.YARD_ARB_WB.of d) ∧
       (∀ d, (s.m.c.yard y).cfg.reserve = some d → t.m.c.get R.YARD_RESERVE_RESERVE y = R.YARD_RESERVE_RESERVE.of d)))

/-- The M slot (R169): each operation writes the accumulators and values of its row, and B above 60 is ILLEGAL. A conversion
rounds its accumulator right by its shift toward minus infinity and saturates to 32 bits (R165). Under conditions on the state
and the operands alone it gives the next state of: smac, smsu, smul, aclr, aadd, asub, vmacC, vmsuC, vmulC, vmacS, vmulS. -/
def Obligations.MultiplyAndConvert : Prop :=
  (∀ (k : Slot) (s : State) (st : StallSt), s.m.c.slotReady k st →
     (∀ e ∈ laneTable, ∀ (d : Fin 2) (b v : Fin 64), exec (e.1 k d b v) s = .next (s.issued k st
       (if b ≤ 60 then [accFx e.2.1 (4 * d) (e.2.2 st b v), accFx e.2.1 (4 * d + 1) (e.2.2 st (b + 1) v),
         accFx e.2.1 (4 * d + 2) (e.2.2 st (b + 2) v), accFx e.2.1 (4 * d + 3) (e.2.2 st (b + 3) v)] else [.fault 5]))) ∧
     (∀ (d cf : Fin 8) (y : Fin 64),
       exec (.smac k d cf y) s = .next (s.issued k st [.aadd d (st.samp y * st.coef cf)]) ∧
       exec (.smsu k d cf y) s = .next (s.issued k st [.aadd d (-(st.samp y * st.coef cf))]) ∧
       exec (.smul k d cf y) s = .next (s.issued k st [.aset d (st.samp y * st.coef cf)])) ∧
     (∀ mask : Fin 256, exec (.aclr k mask) s = .next (s.issued k st
       (((List.range 8).filter (fun d => mask.val.testBit d)).map (fun d => .aset d 0)))) ∧
     (∀ d a : Fin 8, exec (.aadd k d a) s = .next (s.issued k st [.aadd d (st.acc a)]) ∧
       exec (.asub k d a) s = .next (s.issued k st [.aadd d (-(st.acc a))]))) ∧
  (∀ (a : Int) (sh : Fin 8), ∃ n, [0, 16, 20, 21, 22, 23, 24, 31][sh.val]? = some n ∧
     ((convAcc a sh).2 = true ↔ a / 2 ^ n < -2 ^ 31 ∨ 2 ^ 31 ≤ a / 2 ^ n) ∧
     sx 32 (convAcc a sh).1 = max (-2 ^ 31) (min (2 ^ 31 - 1) (a / 2 ^ n)))

/-- The A slot (R170, R171): the pointer operations, with a plain pointer's sums modulo 2^32; SETC and SETCI on a counter that
an active loop uses are ILLEGAL. An advance adds to a plain pointer modulo 2^32, and moves a ring pointer by words round its
ring with its low two bits kept (R171). Under conditions on the state and the operands alone it gives the next state of: paddi,
pli, padd, psub, pmov, pand, pshl, pshr, mset, setc, setci, pst. -/
def Obligations.PointerSlot : Prop :=
  (∀ (k : Slot) (s : State) (st : StallSt) (d : Fin 16), s.m.c.slotReady k st →
     (∀ imm : BitVec 8, exec (.paddi k d imm) s = .next (s.issued k st [.p 1 d (st.advance d imm.toInt (4 * imm.toInt)) 1]) ∧
       exec (.pli k d imm) s = .next (s.issued k st [.p 1 d (imm.signExtend 32).toNat 1])) ∧
     (∀ (a : Fin 16) (x y : BitVec 32), st.ptr d = x.toNat → st.ptr a = y.toNat →
       (st.ring d = none → exec (.padd k d a) s = .next (s.issued k st [.p 1 d (x + y).toNat 1]) ∧
         exec (.psub k d a) s = .next (s.issued k st [.p 1 d (x - y).toNat 1])) ∧
       (∀ ring, st.ring d = some ring → exec (.padd k d a) s = .next (s.issued k st [.p 1 d (st.advance d (y.sshiftRight 2).toInt 0) 1]) ∧
         exec (.psub k d a) s = .next (s.issued k st [.p 1 d (st.advance d (-(y.sshiftRight 2).toInt) 0) 1])) ∧
       exec (.pmov k d a) s = .next (s.issued k st [.p 1 d y.toNat 1]) ∧
       exec (.pand k d a) s = .next (s.issued k st [.p 1 d (x &&& y).toNat 1]) ∧
       (∀ n : Fin 32, exec (.pshl k d n) s = .next (s.issued k st [.p 1 d (x <<< n.val).toNat 1]) ∧
         exec (.pshr k d n) s = .next (s.issued k st [.p 1 d (x.sshiftRight n.val).toNat 1])) ∧
       (∀ n : Fin 4, exec (.mset k n a) s = .next (s.issued k st [.m n y.toNat]) ∧
         exec (.setc k n a) s = .next (s.issued k st (if st.inUse n then [.fault 5] else [.c n (y.toNat % 2 ^ 16)])))) ∧
     (∀ (n : Fin 4) (imm : BitVec 8),
       exec (.setci k n imm) s = .next (s.issued k st (if st.inUse n then [.fault 5] else [.c n imm.toNat]))) ∧
     exec (.pst k d) s = .next (s.issued k st [.p 1 d st.stReg 1])) ∧
  (∀ (st : StallSt) (k : Nat) (d p : Int),
     (st.ring k = none → BitVec.ofNat 32 (st.advance k d p) = BitVec.ofNat 32 (st.ptr k) + BitVec.ofInt 32 p) ∧
     (∀ base len, st.ring k = some (base, len) → base < 65536 → len < 65536 →
       base ≤ st.advance k d p / 4 ∧ st.advance k d p / 4 < base + len ∧ st.advance k d p % 4 = st.ptr k % 4 ∧
       ((st.advance k d p / 4 : Nat) - base : Int) % len = (((st.ptr k / 4 : Nat) : Int) - base + d) % len))

/-- The L slot (R165, R172 to R174). A load of words of the store that are not poisoned and that no transfer is writing gives
their bytes; a store outside a code region stores its registers; an address outside the store is FAULT ADDRESS and stores
nothing. Under conditions on the state and the operands alone it gives the next state of: ld1, ldp, ld4, st1, st4, sta, mova,
mova4, movv, movp, movpv, acc. -/
def Obligations.LoadStoreSlot : Prop :=
  ∀ (k : Slot) (s : State) (st : StallSt), s.m.c.slotReady k st →
    (∀ (d : Fin 64) (p : Fin 16) (post : Fin 4), storeOk (st.ptr p) = true →
      s.m.c.storeBad k.stall (st.ptr p) 4 = false → s.m.c.writing k.stall (st.ptr p) = none →
      exec (.ld1 k d p post) s = .next ((s.issued k st
        (.v (st.phys d) (s.m.m.store.rdN (storeAt k.stall (st.ptr p)) 4) :: st.post p post)).freed 4)) ∧
    (∀ (d p : Fin 16) (post : Fin 4), storeOk (st.ptr p) = true →
      s.m.c.storeBad k.stall (st.ptr p) 4 = false → s.m.c.writing k.stall (st.ptr p) = none →
      exec (.ldp k d p post) s = .next ((s.issued k st
        (.p 2 d (s.m.m.store.rdN (storeAt k.stall (st.ptr p)) 4) 2 :: st.post p post)).freed 4)) ∧
    (∀ (g p : Fin 16) (post : Fin 4) (rev : Bool), (∀ i < 4, storeOk (st.groupAddr p i) = true ∧
        s.m.c.storeBad k.stall (st.groupAddr p i) 4 = false ∧
        s.m.c.writing k.stall (st.groupAddr p i) = none) →
      exec (.ld4 k g p post rev) s = .next ((s.issued k st ((List.range 4).map (fun i => .v (st.phys (4 * g + i))
        (s.m.m.store.rdN (storeAt k.stall (st.groupAddr p (if rev then 3 - i else i))) 4)) ++ st.post p post)).freed 4)) ∧
    (∀ (v : Fin 64) (p : Fin 16) (post : Fin 4), exec (.st1 k v p post) s = .next (s.issued k st
      ((if storeOk (st.ptr p) = true ∧ s.m.c.inCode (stallYard k.stall) (st.ptr p) = false
        then .store (st.ptr p) (cget st.v (st.phys v)) else .fault 6) :: st.post p post))) ∧
    (∀ (g p : Fin 16) (post : Fin 4) (rev : Bool), (∀ i < 4, storeOk (st.groupAddr p i) = true ∧
        s.m.c.inCode (stallYard k.stall) (st.groupAddr p i) = false) →
      exec (.st4 k g p post rev) s = .next (s.issued k st ((List.range 4).map (fun i =>
        .store (st.groupAddr p (if rev then 3 - i else i)) (cget st.v (st.phys (4 * g + i)))) ++ st.post p post))) ∧
    (∀ (p : Fin 16) (a sh : Fin 8) (post : Fin 4), exec (.sta k p a sh post) s = .next (s.issued k st
      ((if storeOk (st.ptr p) = true ∧ s.m.c.inCode (stallYard k.stall) (st.ptr p) = false
        then .store (st.ptr p) (convAcc (st.acc a) sh).1 else .fault 6) ::
        ((if (convAcc (st.acc a) sh).2 then [.sat] else []) ++ st.post p post)))) ∧
    (∀ (d : Fin 64) (a sh : Fin 8), exec (.mova k d a sh) s = .next (s.issued k st
      (.v (st.phys d) (convAcc (st.acc a) sh).1 :: (if (convAcc (st.acc a) sh).2 then [.sat] else [])))) ∧
    (∀ (g : Fin 16) (h : Fin 2) (sh : Fin 8), exec (.mova4 k g h sh) s = .next (s.issued k st
      ((List.range 4).flatMap (fun i => .v (st.phys (4 * g + i)) (convAcc (st.acc (4 * h + i)) sh).1 ::
        (if (convAcc (st.acc (4 * h + i)) sh).2 then [.sat] else []))))) ∧
    (∀ d a : Fin 64, exec (.movv k d a) s = .next (s.issued k st [.v (st.phys d) (cget st.v (st.phys a))])) ∧
    (∀ (d : Fin 64) (a : Fin 16), exec (.movp k d a) s = .next (s.issued k st [.v (st.phys d) (st.ptr a)])) ∧
    (∀ (d : Fin 16) (a : Fin 64), exec (.movpv k d a) s = .next (s.issued k st [.p 2 d (cget st.v (st.phys a)) 2])) ∧
    (∀ (p : Fin 16) (a : Fin 8) (rev : Bool) (post : Fin 4), st.order.kind = 1 → s.m.c.accIndexOk (st.ptr p) = true →
      exec (.acc k p a false rev post) s = .next (s.issued k st (.send (st.ptr p) (ux 72 (st.acc a)) ::
        (if post = 0 then [] else [.p 2 p (ux 32 ((st.ptr p : Int) + postWords post)) 1])))) ∧
    (∀ (p : Fin 16) (a : Fin 8) (rev : Bool) (post : Fin 4), st.order.kind = 1 → a.val % 4 = 0 →
      (∀ i < 4, s.m.c.accIndexOk (st.ptr p + i) = true) →
      exec (.acc k p a true rev post) s = .next (s.issued k st ((List.range 4).map (fun i =>
        .send (st.ptr p + (if rev then 3 - i else i)) (ux 72 (st.acc (a + i)))) ++
        (if post = 0 then [] else [.p 2 p (ux 32 ((st.ptr p : Int) + postWords post)) 1]))))

/-- The C slot (R175 to R180, R183): loops, branches, resources, streams, rotation and HALT, with the forms that are ILLEGAL. A
bundle with a cause aborts the job, ILLEGAL before PARITY before ADDRESS before ECC before DRAM, and none of its writes land
(R184). A write of a register lands in the bundle that R166 gives, counted from its own (R161, R166). A bundle with STRM or
SWAIT on a channel whose transfer runs waits with its effects (R167); on an idle channel of the job a bad descriptor is FAULT
ADDRESS, a poisoned one FAULT ECC, and SWAIT after a transfer that ended with an error FAULT DRAM (R180). What a stall fetches
is the operations that its bundle's slots spell, in the order M, A, L, C, a slot of zero bits being NOP and the all-zero bundle
the empty one (R160, R181). A multiply's four lanes, PADDI and PLI, LD1 and MOVV, and the branches by their fields (R169, R170,
R172, R175); a reserved code of the A, L or C slot aborts the job, as ILLEGAL (R184, R185). Under conditions on the state and
the operands alone it gives the next state of: loop, br, bz, bnz, acq, rel, strm, swait, setrrb, halt, vmacC, vmsuC, vmulC,
vmacS, vmulS. -/
def Obligations.ControlSlot : Prop :=
  (∀ (k : Slot) (s : State) (st : StallSt), s.m.c.slotReady k st →
     (∀ (n rot : Fin 4) (len : Fin 256), exec (.loop k n rot len) s = .next (s.issued k st
       (if rot ≠ 3 ∧ st.inUse n = false ∧ st.loops.length < 4 ∧ (∀ l ∈ st.loops, st.pc + 8 * (len.val + 1) ≤ l.stop)
         then [.loop n rot (len.val + 1)] else [.fault 5]))) ∧
     (∀ off : BitVec 8, exec (.br k off) s = .next (s.issued k st (branchFx st off true)) ∧
       (∀ p : Fin 16, exec (.bz k p off) s = .next (s.issued k st (branchFx st off (st.ptr p == 0))) ∧
         exec (.bnz k p off) s = .next (s.issued k st (branchFx st off (st.ptr p != 0)))) ∧
       (st.loops = [] → branchFx st off false = [] ∧ branchFx st off true = [.branch (ux 32 ((st.pc : Int) + 8 + 8 * off.toInt))])) ∧
     (∀ (level : Fin 4) (i : Fin 64), ((level = 1 ∧ i.val < 8) ∨ (level = 2 ∧ i.val < 16) ∨ level = 3 →
       exec (.acq k level i) s = .next (s.issued k st [.acq level i]) ∧
       exec (.rel k level i) s = .next (s.issued k st [.rel level i])) ∧
       (¬((level = 1 ∧ i.val < 8) ∨ (level = 2 ∧ i.val < 16) ∨ level = 3) →
         exec (.acq k level i) s = .next (s.issued k st [.fault 5]) ∧
         exec (.rel k level i) s = .next (s.issued k st [.fault 5]))) ∧
     (∀ (ch p : Fin 16), exec (.strm k ch p) s = .next (s.issued k st [.strm ch (st.ptr p)])) ∧
     (∀ ch : Fin 16, exec (.swait k ch) s = .next (s.issued k st [.swait ch])) ∧
     (∀ v : Fin 32, exec (.setrrb k v) s = .next (s.issued k st
       (if ∃ l ∈ st.loops, l.rot ≠ 0 then [.fault 5] else [.rrb v]))) ∧
     (∀ user : BitVec 8, exec (.halt k user) s = .next (s.issued k st [.halt user.toNat]))) ∧
  ((∀ (x : Mach) (n : Nat) (st : StallSt) (code : Nat), x.c.stall? n = some st → code ∈ [5, 1, 6, 2, 7] →
     Fx.fault code ∈ st.fx → (∀ j ∈ [5, 1, 6, 2, 7].takeWhile (· != code), Fx.fault j ∉ st.fx) → (ptrClash st.fx = false ∨ code = 5) →
     x.bundleEnd n = { x with c := x.c.abortJob n code }) ∧
   (∀ (x : Mach) (n ch a : Nat) (st : StallSt), x.c.stall? n = some st → (x.c.chan (stallYard n) ch).owner = some n →
     ((x.c.chan (stallYard n) ch).run.isSome = true →
       (st.fx = [.strm ch a] → x.bundleEnd n = { x with c := x.c.setStall n { st with wait := .strm ch, froze := true } }) ∧
       (st.fx = [.swait ch] → x.bundleEnd n = { x with c := x.c.setStall n { st with wait := .swait ch, froze := true } })) ∧
     ((x.c.chan (stallYard n) ch).run = none →
       (st.fx = [.strm ch a] → a % 32 = 0 → a + 32 ≤ 0x40000 → x.c.storeBad n a 32 = false → x.descAt n a = none →
         x.bundleEnd n = { x with c := x.c.abortJob n 6 }) ∧
       (st.fx = [.strm ch a] → a % 32 = 0 → a + 32 ≤ 0x40000 → x.c.storeBad n a 32 = true →
         x.bundleEnd n = { x with c := x.c.abortJob n 2 }) ∧
       (st.fx = [.swait ch] → st.bad = true → x.bundleEnd n = { x with c := x.c.abortJob n 7 }))) ∧
   (∀ (x : Mach) (n : Nat) (st : StallSt) (e : Fx) (l : Nat), x.c.stall? n = some st → st.fx = [e] → e.latency = some l → 1 ≤ l →
     st.pend = [] → st.loops = [] → ∃ u, (x.bundleEnd n).c.stall? n = some u ∧ u.pc = st.pc + 8 ∧ u.t = st.t + 1 ∧
       u.cycles = st.cycles + 1 ∧ u.fx = [] ∧ (x.bundleEnd n).m = x.m ∧ (x.bundleEnd n).c.regs = x.c.regs ∧
       (l = 1 → u.pend = [] ∧ u.v = (st.land e).v ∧ u.a = (st.land e).a ∧ u.p = (st.land e).p ∧ u.m = (st.land e).m ∧
         u.lc = (st.land e).lc ∧ u.govf = (st.land e).govf) ∧
       (2 ≤ l → u.pend = [(st.t + l, e)] ∧ u.v = st.v ∧ u.a = st.a ∧ u.p = st.p ∧ u.m = st.m ∧ u.lc = st.lc ∧ u.govf = st.govf)) ∧
   (∀ (st : StallSt) (d : Nat) (z : Int), ((st.land (.aadd d z)).acc d - (st.acc d + z)) % 2 ^ 72 = 0 ∧
     (bit (st.land (.aadd d z)).govf d = true ↔ bit st.govf d = true ∨ st.acc d + z < -2 ^ 71 ∨ 2 ^ 71 ≤ st.acc d + z) ∧
     ((st.land (.aset d z)).acc d - z) % 2 ^ 72 = 0 ∧ (st.land (.aset d z)).govf = st.govf)) ∧
  (∀ (k : Slot) (s : State) (l : Slot), l = { k with last := true } →
     (s.m.bundleCmds k = match s.m.c.stall? k.stall with
       | none => []
       | some st => decodeBundle k (s.m.m.store.rdN (storeAt k.stall st.pc) 8)) ∧
     step { s with pending := s.m.bundleCmds k ++ s.pending } = step (s.fetchBundle k) ∧
     decodeBundle k 0 = [.nopBundle l] ∧
     (∀ m a b c : Nat, m < 2 ^ 16 → a < 2 ^ 16 → b < 2 ^ 16 → c < 2 ^ 16 → m ≠ 0 → a ≠ 0 → b ≠ 0 → c ≠ 0 →
       decodeBundle k (m + a * 2 ^ 16 + b * 2 ^ 32 + c * 2 ^ 48) = [mSlot { k with last := false } m,
         aSlot { k with last := false, frozen := 0 } a, lSlot { k with last := false, frozen := 0 } b,
         cSlot { k with last := true, frozen := 0 } c]) ∧
     (∀ e ∈ laneTable.zipIdx, ∀ (d : Fin 2) (b v : Fin 64),
       decodeBundle k ((1 + e.2) * 2 ^ 13 + d * 2 ^ 12 + b * 2 ^ 6 + v) = [e.1.1 l d b v]) ∧
     (∀ (d s : Fin 16) (imm : BitVec 8),
       decodeBundle k ((0x1000 + d * 2 ^ 8 + imm.toNat) * 2 ^ 16) = [.paddi l d imm] ∧
       decodeBundle k ((0x5000 + d * 2 ^ 8 + imm.toNat) * 2 ^ 16) = [.pli l d imm] ∧
       decodeBundle k ((0x4000 + d * 2 ^ 8 + s) * 2 ^ 16) = [.pmov l d s]) ∧
     (∀ (d v : Fin 64) (p : Fin 16) (post : Fin 4),
       decodeBundle k ((0x1000 + d * 2 ^ 6 + p * 2 ^ 2 + post) * 2 ^ 32) = [.ld1 l d p post] ∧
       decodeBundle k ((0x2000 + d * 2 ^ 6 + p * 2 ^ 2 + post) * 2 ^ 32) = [.st1 l d p post] ∧
       decodeBundle k ((0xA000 + d * 2 ^ 6 + v) * 2 ^ 32) = [.movv l d v]) ∧
     (∀ (p : Fin 16) (off : BitVec 8),
       decodeBundle k ((0x2000 + off.toNat) * 2 ^ 48) = [.br l off] ∧
       decodeBundle k ((0x3000 + p * 2 ^ 8 + off.toNat) * 2 ^ 48) = [.bz l p off] ∧
       decodeBundle k ((0x4000 + p * 2 ^ 8 + off.toNat) * 2 ^ 48) = [.bnz l p off] ∧
       decodeBundle k ((0xA000 + off.toNat) * 2 ^ 48) = [.halt l off]) ∧
     (∀ (w sh : Nat) (st : StallSt), s.m.c.slotReady k st → st.fx = [] → w < 2 ^ 16 →
       ((sh = 16 ∨ sh = 32) ∧ (w < 2 ^ 12 ∨ 13 * 2 ^ 12 ≤ w)) ∨ (sh = 48 ∧ (w < 2 ^ 12 ∨ 11 * 2 ^ 12 ≤ w)) → w ≠ 0 →
       ∃ c t, decodeBundle k (w * 2 ^ sh) = [c] ∧ exec c s = .next t ∧ t.m.c.stall? k.stall = none ∧
         t.m.c.get R.YARD_STATUS_FAULT_SEEN (stallYard k.stall) = 1 ∧ t.m.m = s.m.m))

/-- The empty bundle goes on to the next one (R160); a parity error, a field marked 0 that is not, or an uncorrectable error of
its word aborts the job, and a corrected one is counted (R156, R184, R185). An acknowledged send is no longer outstanding, and a
halting job with nothing outstanding ends: its completion record says OK with its user byte, and the stall is free (R174, R183).
A transfer from DRAM into a store that ends without error has stored its words, and the channel is idle (R180). Under conditions
on the state and the operands alone it gives the next state of: nopBundle, accAck, haltComplete, streamTransferEnd. -/
def Obligations.JobCompletions : Prop :=
  ∀ (s : State) (n : Fin 128) (st : StallSt), s.m.c.stall? n = some st →
    (∀ k : Slot, s.m.c.slotReady k st → k.stall = n → st.fx = [] → st.pend = [] → st.loops = [] →
      ∃ t u, exec (.nopBundle k) s = .next t ∧ t.m.c.stall? n = some u ∧ u.pc = st.pc + 8 ∧ u.t = st.t + 1 ∧ u.v = st.v ∧
        u.a = st.a ∧ u.p = st.p ∧ u.m = st.m ∧ u.lc = st.lc ∧ u.rrb = st.rrb ∧ t.m.m = s.m.m ∧ t.m.c.regs = s.m.c.regs) ∧
    (∀ k : Slot, k.stall = n → st.wait = .none → st.fx = [] → st.pc < 0x40000 → k.last = true →
      (k.parity = true ∨ k.mbz = true ∨ ∃ b, k.ecc = .bad b) → ∃ t, exec (.nopBundle k) s = .next t ∧ t.m.c.stall? n = none ∧
        t.m.c.get R.YARD_STATUS_FAULT_SEEN (n / 32) = 1 ∧
        t.m.c.get R.YARD_ABORTS (n / 32) = (s.m.c.get R.YARD_ABORTS (n / 32) + 1) % 2 ^ R.YARD_ABORTS.width ∧ t.m.m = s.m.m) ∧
    (∀ k : Slot, k.stall = n → st.wait = .none → st.pc < 0x40000 → k.ecc = .corrected →
      exec (.nopBundle k) s = exec (.nopBundle { k with ecc := .clean })
        { s with m := { s.m with c := s.m.c.inc R.YARD_ECC_CORR_STORE (n / 32) } }) ∧
    (st.sends ≠ 0 → (∀ u, st.wait ≠ .halt u) → ∃ t, exec (.accAck n) s = .next t ∧
      t.m.c.stall? n = some { st with sends := st.sends - 1 } ∧ t.m.c.regs = s.m.c.regs ∧ t.m.m = s.m.m) ∧
    (∀ user, st.wait = .halt user → st.sends = 0 → st.fx = [] → st.held = [] → st.order.kind ≠ 1 →
      (st.order.post + 2 ^ 32 - (s.m.c.seq (n / 32)).firstPost) % 2 ^ 32 < 2 ^ 31 → (s.m.c.seq (n / 32)).cq.length < 256 →
      ∃ t cycles, exec (.haltComplete n) s = .next t ∧ t.m.c.stall? n = none ∧ (st.froze = false → cycles = st.cycles % 2 ^ 32) ∧
        (t.m.c.seq (n / 32)).cq = (s.m.c.seq (n / 32)).cq ++ [{ words := [256 * (if st.sat then 1 else 0) + 65536 * st.govf +
          16777216 * user, st.order.post, cycles, st.pc % 2 ^ 18] }] ∧ t.m.c.regs = s.m.c.regs ∧ t.m.m = s.m.m) ∧
    ((∀ user, st.wait ≠ .halt user) ∨ st.sends ≠ 0 → exec (.haltComplete n) s = .next (s.withCtl id)) ∧
    (∀ (y : Fin 4) (ch : Fin 16) (d : Desc), (s.m.c.chan y ch).run = some d → (s.m.c.chan y ch).owner = some n.val →
      st.wait = .none → d.out = false → d.dram = true → s.m.c.get R.DRAM_STATUS_MODE ≠ 3 → s.m.c.dram.bad = [] → d.ringLen = 0 →
      (∀ i < d.len / 4 * 4, s.m.c.unstated (d.far + i) = false ∧ s.m.c.historyByte (d.far + i) = none) →
      (∃ t, exec (.streamTransferEnd y ch ⟨false, []⟩) s = .next t ∧ (t.m.c.chan y ch).run = none ∧
        (t.m.c.stall? n).map (·.bad) = some st.bad ∧
        (∀ i < d.len / 4 * 4, t.m.m.store.rd (storeAt n d.store + i) = s.m.m.dram.rd (d.far + i)) ∧
        (∀ a, (a < storeAt n d.store ∨ storeAt n d.store + d.len / 4 * 4 ≤ a) → t.m.m.store.rd a = s.m.m.store.rd a) ∧
        t.m.m.dram = s.m.m.dram ∧ t.m.m.loft = s.m.m.loft) ∧
      (∃ t, exec (.streamTransferEnd y ch ⟨true, []⟩) s = .next t ∧ (t.m.c.chan y ch).run = none ∧
        (t.m.c.stall? n).map (·.bad) = some true ∧ t.m.m = s.m.m ∧ t.m.c.regs = s.m.c.regs)) ∧
    (∀ (y : Fin 4) (ch : Fin 16) (fin : XferEnd), (s.m.c.chan y ch).run = none →
      exec (.streamTransferEnd y ch fin) s = .next (s.withMach id))

/-- ADD to MAXU, SLLI, SRLI, SRAI, CTZ and CLZ, with the codes of the table, write the result that R191 gives into rd, step the
PC, and change nothing else; a write of s0 is discarded. A word with a function above 25 is ILLEGAL. ADDI to SLTIU and LUI
(R190): ADDI and the compares extend the sign, the logical ones extend with zeros. Under conditions on the state and the
operands alone it gives the next state of: ctz, clz, lui, add, sub, and, or, xor, sll, srl, sra, slt, sltu, mul, mulh, mulhu,
div, divu, rem, remu, min, max, minu, maxu, slli, srli, srai, addi, andi, ori, xori, slti, sltiu. -/
def Obligations.SequencerIntegers : Prop :=
  (∀ (k : Issue) (rd ra rb : Fin 32) (s : State) (a b : BitVec 32),
     s.m.c.issues k → (s.m.c.seq k.yard).rs ra = a.toNat → (s.m.c.seq k.yard).rs rb = b.toNat →
     (∀ e ∈ intTable,
       exec (e.1 k rd ra rb) s = .next (s.withSeq k.yard ((s.m.c.seq k.yard).ws rd (e.2 a b).toNat).adv)) ∧
     (∀ e ∈ shiftTable, ∀ n : Fin 32,
       exec (e.1 k rd ra n) s = .next (s.withSeq k.yard ((s.m.c.seq k.yard).ws rd (e.2 a n).toNat).adv)) ∧
     (∃ n, trailing a n ∧ exec (.ctz k rd ra) s = .next (s.withSeq k.yard ((s.m.c.seq k.yard).ws rd n).adv)) ∧
     (∃ n, leading a n ∧ exec (.clz k rd ra) s = .next (s.withSeq k.yard ((s.m.c.seq k.yard).ws rd n).adv)) ∧
     (∀ e ∈ intTable.zipIdx, decodeScalar k (rWord 0 rd ra rb e.2) = e.1.1 k rd ra rb) ∧
     (∀ e ∈ shiftTable.zipIdx, decodeScalar k (rWord 0 rd ra rb (21 + e.2)) = e.1.1 k rd ra rb) ∧
     decodeScalar k (rWord 0 rd ra 0 24) = .ctz k rd ra ∧ decodeScalar k (rWord 0 rd ra 0 25) = .clz k rd ra ∧
     (∀ n, 26 ≤ n → n < 2048 → ∃ t, exec (decodeScalar k (rWord 0 rd ra rb n)) s = .next t ∧
       t.m.c.get R.YARD_SEQ_CAP_CAUSE k.yard = 1 ∧ t.m.c.get R.YARD_STATUS_SEQ_RUN k.yard = 0 ∧
       (t.m.c.seq k.yard).s = (s.m.c.seq k.yard).s ∧ (t.m.c.seq k.yard).pc = (s.m.c.seq k.yard).pc ∧ t.m.m = s.m.m)) ∧
  (∀ (k : Issue) (rd ra : Fin 32) (imm : BitVec 16) (s : State) (a : BitVec 32),
     s.m.c.issues k → (s.m.c.seq k.yard).rs ra = a.toNat →
     (∀ e ∈ immTable,
       exec (e.1 k rd ra imm) s = .next (s.withSeq k.yard ((s.m.c.seq k.yard).ws rd (e.2 a imm).toNat).adv)) ∧
     exec (.lui k rd imm) s = .next (s.withSeq k.yard ((s.m.c.seq k.yard).ws rd (imm.toNat * 2 ^ 16)).adv))

/-- Branch targets are PC + 4 + 4 × offset, JAL's PC + 4 + 4 × offset26 with the return address in s31, JALR's ra + imm; a JALR
to an address with bits [1:0] other than 0 raises ALIGN and writes neither rd nor PC (R195, R209). WAIT.W returns at once for a
window that has started and otherwise waits; what it waits for resumes it with the window in rd (R200). FENCE passes. TRAP and
the watchdog halt the sequencer with their cause (R209). What a sequencer fetches is the command that its word spells (R189):
the opcodes of formats I, B and J with their fields, the all-zero word as ADD s0, s0, s0, and ILLEGAL for an opcode that is
reserved or a field marked 0 that is not 0. Under conditions on the state and the operands alone it gives the next state of:
jal, jalr, waitWAbs, waitWNext, waitWTick, fence, trap, addi, andi, ori, xori, slti, sltiu, beq, bne, blt, bge, bltu, bgeu. -/
def Obligations.SequencerControl : Prop :=
  (∀ (k : Issue) (s : State) (q : SeqSt) (pc : BitVec 32), s.m.c.issues k → s.m.c.seq k.yard = q → q.pc = pc.toNat →
     (∀ e ∈ branchTable, ∀ (ra rb : Fin 32) (off : BitVec 16) (a b : BitVec 32), q.rs ra = a.toNat → q.rs rb = b.toNat →
       exec (e.1 k ra rb off) s = .next (s.withSeq k.yard
         { q with pc := (if e.2 a b then pc + 4 + 4 * off.signExtend 32 else pc + 4).toNat })) ∧
     (∀ off : BitVec 26, exec (.jal k off) s = .next (s.withSeq k.yard
         { (q.ws 31 (pc + 4).toNat) with pc := (pc + 4 + 4 * off.signExtend 32).toNat })) ∧
     (∀ (rd ra : Fin 32) (imm : BitVec 16) (a : BitVec 32), q.rs ra = a.toNat → (a + imm.signExtend 32).toNat % 4 = 0 →
       exec (.jalr k rd ra imm) s = .next (s.withSeq k.yard
         { (q.ws rd (pc + 4).toNat) with pc := (a + imm.signExtend 32).toNat })) ∧
     (∀ (rd ra : Fin 32) (imm : BitVec 16) (a : BitVec 32), q.rs ra = a.toNat → (a + imm.signExtend 32).toNat % 4 ≠ 0 →
       ∃ t, exec (.jalr k rd ra imm) s = .next t ∧ t.m.c.get R.YARD_SEQ_CAP_CAUSE k.yard = 2 ∧
         t.m.c.get R.YARD_STATUS_SEQ_RUN k.yard = 0 ∧ (t.m.c.seq k.yard).s = q.s ∧ (t.m.c.seq k.yard).pc = q.pc)) ∧
  (∀ (k : Issue) (s : State) (q : SeqSt), s.m.c.issues k → s.m.c.seq k.yard = q →
     (∀ rd ra : Fin 32,
       (s.m.c.winStarted (q.rs ra) = true → exec (.waitWAbs k rd ra) s = .next (s.withSeq k.yard
         { (q.ws rd s.m.c.cwin).adv with wait := .none, boundaries := 0 })) ∧
       (s.m.c.winStarted (q.rs ra) = false → exec (.waitWAbs k rd ra) s = .next (s.withSeq k.yard
         { q with wait := .abs (q.rs ra) rd }))) ∧
     (∀ rd : Fin 32, exec (.waitWNext k rd) s = .next (s.withSeq k.yard { q with wait := .next rd false }) ∧
       exec (.waitWTick k rd) s = .next (s.withSeq k.yard { q with wait := .tick rd false })) ∧
     exec (.fence k) s = .next (s.withSeq k.yard q.adv) ∧
     (∀ n : Fin 64, ∃ t, exec (.trap k n) s = .next t ∧ t.m.c.get R.YARD_SEQ_CAP_CAUSE k.yard = 9 ∧
       t.m.c.get R.YARD_SEQ_CAP_TRAP k.yard = n ∧ t.m.c.get R.YARD_SEQ_EPC k.yard = q.pc ∧
       t.m.c.get R.YARD_STATUS_SEQ_RUN k.yard = 0 ∧ t.m.c.get R.YARD_STATUS_SEQ_EXC k.yard = 1 ∧ (t.m.c.seq k.yard).s = q.s ∧
       (t.m.c.seq k.yard).pc = q.pc ∧ t.m.m = s.m.m)) ∧
  (∀ (k : Issue) (s : State) (rd ra rb : Fin 32) (imm : BitVec 16),
     step (s.fetchSeq k) = exec (decodeScalar k (s.m.m.imem.rdN (s.m.c.seqHalf k.yard + (s.m.c.seq k.yard).pc) 4)) s ∧
     decodeScalar k 0 = .add k 0 0 0 ∧
     (∀ e ∈ immTable.zipIdx, decodeScalar k ((1 + e.2) * 2 ^ 26 + rd * 2 ^ 21 + ra * 2 ^ 16 + imm.toNat) = e.1.1 k rd ra imm) ∧
     decodeScalar k (0x07 * 2 ^ 26 + rd * 2 ^ 21 + imm.toNat) = .lui k rd imm ∧
     (∀ e ∈ branchTable.zipIdx, decodeScalar k ((0x12 + e.2) * 2 ^ 26 + rd * 2 ^ 21 + ra * 2 ^ 16 + imm.toNat) = e.1.1 k rd ra imm) ∧
     (∀ n : BitVec 26, decodeScalar k (0x18 * 2 ^ 26 + n.toNat) = .jal k n) ∧
     decodeScalar k (0x1D * 2 ^ 26 + rd * 2 ^ 21 + ra * 2 ^ 16) = .post k rd ra ∧
     (∀ n : Fin 64, decodeScalar k (0x1C * 2 ^ 26 + rd * 2 ^ 21 + n * 2 ^ 10 + 1) = .mfk k rd n ∧
       decodeScalar k (0x1C * 2 ^ 26 + n * 2 ^ 10 + 7) = .trap k n ∧
       decodeScalar k (0x1E * 2 ^ 26 + rd * 2 ^ 21 + ra * 2 ^ 16 + n) = .ltry k rd ra n ∧
       decodeScalar k (0x1E * 2 ^ 26 + ra * 2 ^ 16 + 0x8000 + n) = .lrel k ra n) ∧
     (∀ w, s.m.c.issues k → w < 2 ^ 32 →
       (0x20 ≤ w / 2 ^ 26 ∨ (w / 2 ^ 26 = 0x1A ∧ 17 ≤ w % 2 ^ 11) ∨ (w / 2 ^ 26 = 0x1B ∧ 8 ≤ w % 2 ^ 11) ∨
         (w / 2 ^ 26 = 0x1C ∧ (w % 64 = 0 ∨ 9 ≤ w % 64)) ∨ (w / 2 ^ 26 = 0x1F ∧ w % 4 = 3) ∨ (w / 2 ^ 26 = 0x07 ∧ w / 2 ^ 16 % 32 ≠ 0)) →
       ∃ t, exec (decodeScalar k w) s = .next t ∧ t.m.c.get R.YARD_SEQ_CAP_CAUSE k.yard = 1 ∧
         t.m.c.get R.YARD_STATUS_SEQ_RUN k.yard = 0 ∧ (t.m.c.seq k.yard).s = (s.m.c.seq k.yard).s ∧ t.m.m = s.m.m))

/-- A load with no cause standing reads the target's bytes at ra + imm, in little-endian order, into its register (R190, R192).
`x` is the module after the target has answered; for IMEM, DMEM, the yard's stores and its loft it is the module as it was.
Where a sequencer's own memories lie, and what their bytes read as (R192). A store with no cause standing gives the low bytes of
its register to the target at ra + imm (R190, R192). In DMEM every byte outside the stored ones reads as before. Under
conditions on the state and the operands alone it gives the next state of: lw, lh, lhu, lb, lbu, flw, sw, sh, sb, fsw. -/
def Obligations.SequencerMemory : Prop :=
  (∀ e ∈ loadTable, ∀ (k : Issue) (rd ra : Fin 32) (imm : BitVec 16) (s : State) (a v : Nat) (x : Mach),
     s.m.c.seqReady k.yard = true → a = (s.m.c.seq k.yard).addr ra imm →
     s.m.c.seqCauses k a e.2.1 false = [] → s.m.fresh.seqRead k.yard a e.2.1 = (x, v, none) →
     exec (e.1 k rd ra imm) s =
       .next { s with m := { x with c := x.c.setSeq k.yard (e.2.2 (x.c.seq k.yard) rd v).adv } }) ∧
  (∀ (x : Mach) (y : Fin 4) (o n : Nat),
     (o < 0x20000 → x.seqRead y o n = (x, x.m.imem.rdN (x.c.seqHalf y + o) n, none)) ∧
     (o < 0x20000 → x.seqRead y (0x40000 + o) n = (x, x.m.dmem.rdN (x.c.seqHalf y + o) n, none)) ∧
     (∀ i < 4, o < 0x40000 → x.seqRead y (0x100000 + i * 0x40000 + o) n = (x, x.m.store.rdN ((4 * y + i) * 0x40000 + o) n, none)) ∧
     (o < 0x400000 → x.seqRead y (0x400000 + o) n = (x, x.m.loft.rdN (y * 0x400000 + o) n, none))) ∧
  (∀ e ∈ storeTable, ∀ (k : Issue) (rd ra : Fin 32) (imm : BitVec 16) (s : State) (a : Nat),
     s.m.c.seqReady k.yard = true → a = (s.m.c.seq k.yard).addr ra imm → s.m.c.seqCauses k a e.2.1 true = [] →
     (∀ x, s.m.fresh.seqWrite k.yard a e.2.1 (e.2.2 (s.m.c.seq k.yard) rd % 2 ^ (8 * e.2.1)) = (x, none) →
       exec (e.1 k rd ra imm) s = .next { s with m := { x with c := x.c.setSeq k.yard (x.c.seq k.yard).adv } }) ∧
     (∀ o < 0x20000, a = 0x40000 + o → ∃ t, exec (e.1 k rd ra imm) s = .next t ∧
       t.m.c = (s.withSeq k.yard (s.m.c.seq k.yard).adv).m.c ∧
       (∀ i, (h : i < e.2.1) → t.m.m.dmem.rd (s.m.c.seqHalf k.yard + o + i) =
         BitVec.ofNat 8 (e.2.2 (s.m.c.seq k.yard) rd / 256 ^ i)) ∧
       (∀ b, (b < s.m.c.seqHalf k.yard + o ∨ s.m.c.seqHalf k.yard + o + e.2.1 ≤ b) →
         t.m.m.dmem.rd b = s.m.m.dmem.rd b) ∧
       t.m.m.dram = s.m.m.dram ∧ t.m.m.loft = s.m.m.loft ∧ t.m.m.store = s.m.m.store ∧ t.m.m.imem = s.m.m.imem ∧
       t.m.m.nor = s.m.m.nor))

/-- A float instruction writes its result and ORs its flags into FFLAGS; FNEG, FABS, FMOV, FMVS and FMVF move bits and set no
flag (R196, R197). A vector instruction reads every source first, writes f[d] on, and ORs the flags; with a base out of range it
is ILLEGAL (R198, R209). MFK reads the sixteen special registers, MTK writes the four that are RW, an index without a register
is ILLEGAL; a read of k1 latches k2 and one of k6 latches k7 (R188, R209). CYCLE rises from each read to the next; by how much
is a free value of the model (log entry 13). Under conditions on the state and the operands alone it gives the next state of:
fsqrt, rsq, itof, ftoi, fmov, fmvs, fmvf, fneg, fabs, mfk, mtk, fadd, fsub, fmul, fdiv, fmin, fmax, feq, flt, fle, vadd3, vsub3,
vscl3, dot3, vdist, cross3, mv3. -/
def Obligations.SequencerFloatAndSpecial : Prop :=
  (∀ (k : Issue) (rd ra rb n : Fin 32) (s : State) (q : SeqSt), s.m.c.issues k → s.m.c.seq k.yard = q →
     (∀ e ∈ floatTable, exec (e.1 k rd ra rb) s = .next (s.withSeq k.yard
       { (q.wf rd (e.2 (q.rf ra) (q.rf rb)).1).adv with fflags := q.fflags ||| (e.2 (q.rf ra) (q.rf rb)).2 })) ∧
     (∀ e ∈ compareTable, exec (e.1 k rd ra rb) s = .next (s.withSeq k.yard
       ((q.ws rd (e.2 (q.rf ra) (q.rf rb)).1).flag (e.2 (q.rf ra) (q.rf rb)).2).adv)) ∧
     exec (.fsqrt k rd ra) s = .next (s.withSeq k.yard ((q.wf rd (fSqrt (q.rf ra)).1).flag (fSqrt (q.rf ra)).2).adv) ∧
     exec (.rsq k rd ra) s = .next (s.withSeq k.yard ((q.wf rd (fRsq (q.rf ra)).1).flag (fRsq (q.rf ra)).2).adv) ∧
     exec (.itof k rd ra n) s = .next (s.withSeq k.yard ((q.wf rd (fOfInt (q.rs ra) n).1).flag (fOfInt (q.rs ra) n).2).adv) ∧
     exec (.ftoi k rd ra n) s = .next (s.withSeq k.yard ((q.ws rd (fToInt (q.rf ra) n).1).flag (fToInt (q.rf ra) n).2).adv) ∧
     exec (.fmov k rd ra) s = .next (s.withSeq k.yard (q.wf rd (q.rf ra)).adv) ∧
     exec (.fmvs k rd ra) s = .next (s.withSeq k.yard (q.ws rd (q.rf ra)).adv) ∧
     exec (.fmvf k rd ra) s = .next (s.withSeq k.yard (q.wf rd (q.rs ra)).adv) ∧
     (∀ a : BitVec 32, q.rf ra = a.toNat →
       exec (.fneg k rd ra) s = .next (s.withSeq k.yard (q.wf rd (a ^^^ BitVec.twoPow 32 31).toNat).adv) ∧
       exec (.fabs k rd ra) s = .next (s.withSeq k.yard (q.wf rd (a.toNat % 2 ^ 31)).adv))) ∧
  (∀ e ∈ geoTable, ∀ (k : Issue) (rd ra rb : Fin 32) (s : State) (q : SeqSt), s.m.c.issues k → s.m.c.seq k.yard = q →
     (∀ l, e.2 q rd ra rb = some l → ∃ t, exec (e.1 k rd ra rb) s = .next t ∧
       (∀ i, (h : i < l.length) → (t.m.c.seq k.yard).rf (rd + i) = l[i].1 % 2 ^ 32) ∧
       (∀ j, (j < rd.val ∨ rd.val + l.length ≤ j) → (t.m.c.seq k.yard).rf j = q.rf j) ∧
       (t.m.c.seq k.yard).fflags = l.foldl (fun n r => n ||| r.2) q.fflags ∧ (t.m.c.seq k.yard).s = q.s ∧
       (t.m.c.seq k.yard).pc = (q.pc + 4) % 2 ^ 32 ∧ t.m.m = s.m.m ∧ t.m.c.regs = s.m.c.regs) ∧
     (e.2 q rd ra rb = none → ∃ t, exec (e.1 k rd ra rb) s = .next t ∧ t.m.c.get R.YARD_SEQ_CAP_CAUSE k.yard = 1 ∧
       (t.m.c.seq k.yard).f = q.f)) ∧
  (∀ (k : Issue) (s : State) (q : SeqSt), s.m.c.issues k → s.m.c.seq k.yard = q →
     (∀ (rd : Fin 32) (n : Fin 64) (v : Nat), n ≠ 1 → n ≠ 6 → s.m.c.special k.yard n 0 = some v →
       exec (.mfk k rd n) s = .next (s.withSeq k.yard (q.ws rd v).adv)) ∧
     (∀ rd : Fin 32, exec (.mfk k rd 1) s = .next (s.withSeq k.yard
       { (q.ws rd s.m.c.cwin).adv with winHi := s.m.c.win.ext / 2 ^ 32 % 2 ^ 32 })) ∧
     (∀ rd : Fin 32, ∃ t cyc, exec (.mfk k rd 6) s = .next t ∧ s.m.c.clk.seqCycles < cyc ∧ t.m.c.clk.seqCycles = cyc ∧
       t.m.c.seq k.yard = { (q.ws rd (cyc % 2 ^ 32)).adv with cycHi := cyc / 2 ^ 32 } ∧ t.m.m = s.m.m ∧ t.m.c.regs = s.m.c.regs) ∧
     (∀ (rd : Fin 32) (n : Fin 64), 16 ≤ n.val → ∃ t, exec (.mfk k rd n) s = .next t ∧
       t.m.c.get R.YARD_SEQ_CAP_CAUSE k.yard = 1 ∧ t.m.c.get R.YARD_STATUS_SEQ_RUN k.yard = 0 ∧ (t.m.c.seq k.yard).s = q.s) ∧
     (∀ ra : Fin 32,
       exec (.mtk k 8 ra) s = .next (s.withSeq k.yard { q with fflags := q.rs ra % 32 }.adv) ∧
       exec (.mtk k 12 ra) s = .next (s.withSeq k.yard { q with dwin := q.rs ra }.adv) ∧
       exec (.mtk k 13 ra) s = .next (s.withSeq k.yard { q with wdog := max 2 (min 255 (q.rs ra)) }.adv) ∧
       exec (.mtk k 14 ra) s = .next (s.withSeq k.yard { q with sclass := q.rs ra % 4 }.adv) ∧
       (∀ n : Fin 64, n ≠ 8 → n ≠ 12 → n ≠ 13 → n ≠ 14 → ∃ t, exec (.mtk k n ra) s = .next t ∧
         t.m.c.get R.YARD_SEQ_CAP_CAUSE k.yard = 1 ∧ (t.m.c.seq k.yard).fflags = q.fflags ∧ (t.m.c.seq k.yard).dwin = q.dwin ∧
         (t.m.c.seq k.yard).wdog = q.wdog ∧ (t.m.c.seq k.yard).sclass = q.sclass)))

/-- What a waiting or late sequencer does at a boundary: WAIT.W resumes once its boundary has passed and its snapshot is taken,
and for no other reason (R200); after WDOG boundaries without a wait the watchdog raises its exception (R209). A program load
that completes while the region of its yards is free puts the image into their memories and lets it come into force at the
second boundary from then; otherwise nothing happens yet (R213, R214). Under conditions on the state and the operands alone it
gives the next state of: waitWResume, seqWatchdog, seqRestart, imageIntoForce, programLoadDone. -/
def Obligations.SequencerBoundaries : Prop :=
  (∀ (s : State) (y : Fin 4) (q : SeqSt) (rd : Nat), s.m.c.is R.YARD_STATUS_SEQ_RUN y = true → s.m.c.seq y = q →
     (s.m.c.tab.tickDue = false → q.wait = .next rd true ∨ q.wait = .tick rd true ∨ (∃ w, q.wait = .abs w rd ∧ s.m.c.winStarted w = true) →
       exec (.waitWResume y) s = .next (s.withSeq y { (q.ws rd s.m.c.cwin).adv with wait := .none, boundaries := 0 })) ∧
     (s.m.c.tab.tickDue = true ∨ q.wait = .none ∨ q.wait = .next rd false ∨ q.wait = .tick rd false →
       exec (.waitWResume y) s = .next (s.withCtl id)) ∧
     (q.wait = .none → q.wdog ≤ q.boundaries → ∃ t, exec (.seqWatchdog y) s = .next t ∧ t.m.c.get R.YARD_SEQ_CAP_CAUSE y = 8 ∧
       t.m.c.get R.YARD_STATUS_SEQ_RUN y = 0 ∧ t.m.c.get R.YARD_SEQ_EPC y = q.pc % 2 ^ R.YARD_SEQ_EPC.width ∧ t.m.m = s.m.m) ∧
     (q.wait ≠ .none ∨ q.boundaries < q.wdog → exec (.seqWatchdog y) s = .next (s.withCtl id)) ∧
     (∀ (w : Nat) (g : Image), q.excWin = some w → q.active = some g → q.restarted = none → s.m.c.tab.tickDue = true →
       2 ≤ (s.m.c.winNo + 2 ^ 32 - w) % 2 ^ 32 → ∃ t u, exec (.seqRestart y) s = .next t ∧ t.m.c.seq y = u ∧ u.pc = g.start ∧
         u.s = [] ∧ u.f = [] ∧ u.cq = [] ∧ u.wait = .none ∧ u.excWin = none ∧ u.restarted = some s.m.c.winNo ∧
         u.active = some g ∧ t.m.c.get R.YARD_STATUS_SEQ_RUN y = 1 ∧ t.m.c.get R.YARD_STATUS_SEQ_EXC y = 0 ∧
         t.m.c.get R.YARD_SEQ_CAP_RESTARTS y = (s.m.c.get R.YARD_SEQ_CAP_RESTARTS y + 1) % 2 ^ R.YARD_SEQ_CAP_RESTARTS.width ∧
         (∀ i, (h : i < g.data.length) → t.m.m.dmem.rd (y * 0x40000 + q.half * 0x20000 + i) = g.data[i]) ∧
         t.m.m.dram = s.m.m.dram ∧ t.m.m.imem = s.m.m.imem) ∧
     (∀ (w : Nat) (g : Image), q.forceFrom = some w → q.loaded = some g → s.m.c.carriedIn y g = false → s.m.c.tab.tickDue = true →
       later w s.m.c.winNo = false → ∃ t u, exec (.imageIntoForce y) s = .next t ∧ t.m.c.seq y = u ∧ u.active = some g ∧
         u.loaded = none ∧ u.pc = g.start ∧ u.half = 1 - q.half ∧ u.s = [] ∧ u.f = [] ∧ u.fflags = 0 ∧ u.cq = [] ∧
         u.firstPost = s.m.c.get R.YARD_POSTS y ∧ t.m.c.get R.YARD_STATUS_SEQ_RUN y = 1 ∧
         t.m.c.get R.YARD_STATUS_SEQ_EXC y = 0 ∧ t.m.m = s.m.m)) ∧
  (∀ s : State,
     (s.m.c.longOf 0x22 = none ∨ s.m.c.tab.loadProg = [] → exec .programLoadDone s = .next (s.withMach id)) ∧
     (∀ l p ps, s.m.c.longOf 0x22 = some l → s.m.c.tab.loadProg = p :: ps →
       (s.m.c.regionFree [p] = false → exec .programLoadDone s = .next (s.withMach id)) ∧
       (s.m.c.regionFree [p] = true → ∃ t, exec .programLoadDone s = .next t ∧ t.m.m = (s.m.fresh.loadProgs [p]).m ∧
         t.m.c.tab.loadProg = [] ∧ (∀ y ∈ yardsOf p.yards, (t.m.c.seq y).forceFrom = some (winAdd s.m.c.winNo 2)) ∧
         l ∉ t.m.c.keep.long)))

/-- POST of a 32-byte aligned order in DMEM that the image allows writes its result to rd: OK queues the order and counts it,
and its number is LASTPOST (R202). CPOP of a record copies its four words to DMEM, takes it from the queue and answers 1, or 3
where a word of it is poisoned; of an empty queue it answers 0 and writes nothing (R204). Under conditions on the state and the
operands alone it gives the next state of: post, cpop. -/
def Obligations.SequencerOrders : Prop :=
  ∀ (k : Issue) (rd ra : Fin 32) (s : State) (q : SeqSt) (a : Nat), s.m.c.issues k → s.m.c.seq k.yard = q → a = q.rs ra →
    (∀ (o : Order) (g : Image) (c : Ctl) (r : Nat), k.ecc = false → a % 32 = 0 → 0x40000 ≤ a → a + 32 ≤ 0x60000 →
      Machine.orderOf (fun i => s.m.m.dmem.rdN (k.yard * 0x40000 + q.half * 0x20000 + (a - 0x40000) + 4 * i) 4) = (o, true) →
      q.active = some g → g.allows o = true → Ctl.postOrder { s.m.c with out := [] } k.yard o = (c, r) →
      exec (.post k rd ra) s = .next { s with m := { s.m with c := c.setSeq k.yard { ((c.seq k.yard).ws rd r).adv with
        lastPost := if r = 0 then s.m.c.get R.YARD_POSTS k.yard else (c.seq k.yard).lastPost } } } ∧
      (r = 0 → ∃ n, c.get R.YARD_POSTS k.yard = (s.m.c.get R.YARD_POSTS k.yard + 1) % 2 ^ 32 ∧
        (c.stable n).queue = (s.m.c.stable n).queue ++ [{ o with post := s.m.c.get R.YARD_POSTS k.yard }] ∧ n / 4 = k.yard) ∧
      (r ≠ 0 → c.fabr.stables = s.m.c.fabr.stables ∧ c.get R.YARD_POSTS k.yard = s.m.c.get R.YARD_POSTS k.yard)) ∧
    (q.cq = [] → exec (.cpop k rd ra) s = .next (s.withSeq k.yard (q.ws rd 0).adv)) ∧
    (∀ (w0 w1 w2 w3 : BitVec 32) (l : List CqRec) (p : Bool), q.cq = { words := [w0.toNat, w1.toNat, w2.toNat, w3.toNat], poison := p } :: l →
      a % 16 = 0 → 0x40000 ≤ a → a + 16 ≤ 0x60000 → ∃ t, exec (.cpop k rd ra) s = .next t ∧
        t.m.c = (s.withSeq k.yard { (q.ws rd (if p || k.ecc then 3 else 1)).adv with cq := l }).m.c ∧
        (∀ i, (h : i < 4) → t.m.m.dmem.rdN (k.yard * 0x40000 + q.half * 0x20000 + (a - 0x40000) + 4 * i) 4 =
          [w0.toNat, w1.toNat, w2.toNat, w3.toNat][i]) ∧
        (∀ b, (b < k.yard * 0x40000 + q.half * 0x20000 + (a - 0x40000) ∨
          k.yard * 0x40000 + q.half * 0x20000 + (a - 0x40000) + 16 ≤ b) → t.m.m.dmem.rd b = s.m.m.dmem.rd b) ∧
        t.m.m.dram = s.m.m.dram ∧ t.m.m.loft = s.m.m.loft ∧ t.m.m.store = s.m.m.store ∧ t.m.m.imem = s.m.m.imem)

/-- LTRY takes a free latch for the sequencer and answers 0, and answers the owner's word of a held one; LREL frees a latch that
the sequencer holds (R205). LBS, LBR and LBT answer 4 for a letterbox that is not the sequencer's, LBR answers 3 for an empty
one and copies a full one to DMEM (R206). Under conditions on the state and the operands alone it gives the next state of: ltry,
lrel, lbs, lbr, lbt. -/
def Obligations.SequencerLatchesAndLetterboxes : Prop :=
  ∀ (k : Issue) (rd ra : Fin 32) (s : State) (q : SeqSt), s.m.c.issues k → s.m.c.seq k.yard = q →
    (∀ (n : Fin 64) (i : Nat), i = (q.rs ra + n) % 64 →
      (s.m.c.get R.LATCH i = 0 → ∃ t, exec (.ltry k rd ra n) s = .next t ∧ t.m.c.seq k.yard = (q.ws rd 0).adv ∧
        t.m.c.get R.LATCH i = 0x80000000 + ownerCode (.seq k.yard) ∧ (∀ j, j ≠ i → t.m.c.get R.LATCH j = s.m.c.get R.LATCH j) ∧
        s.m.c.sameRegsBut t.m.c [R.LATCH] ∧ t.m.m = s.m.m) ∧
      (s.m.c.get R.LATCH i ≠ 0 → exec (.ltry k rd ra n) s = .next (s.withSeq k.yard (q.ws rd (s.m.c.get R.LATCH i)).adv)) ∧
      (s.m.c.get R.LATCH i = 0x80000000 + ownerCode (.seq k.yard) → (∀ e ∈ s.m.c.fabr.stalls, e.2.wait ≠ .acq 3 i) →
        ∃ t, exec (.lrel k ra n) s = .next t ∧ t.m.c.get R.LATCH i = 0 ∧ t.m.c.seq k.yard = q.adv ∧
          s.m.c.sameRegsBut t.m.c [R.LATCH] ∧ t.m.m = s.m.m)) ∧
    (∀ n : Fin 16, ¬(n.val < 8 ∧ s.m.c.sender n = some (.seq k.yard)) → k.ecc = false →
      exec (.lbs k rd ra n) s = .next (s.withSeq k.yard (q.ws rd 4).adv)) ∧
    (∀ n : Fin 16, n.val < 8 → s.m.c.sender n = some (.seq k.yard) → k.ecc = false → q.rs ra % 4 = 0 → 0x40000 ≤ q.rs ra →
      q.rs ra + 64 ≤ 0x60000 → ∃ t, exec (.lbs k rd ra n) s = .next t ∧ t.m.c.get R.MBX_LB_FULL n = 1 ∧
        (∀ i < 16, t.m.c.get R.MBX_LB_DATA (16 * n + i) = s.m.m.dmem.rdN (k.yard * 0x40000 + q.half * 0x20000 +
          (q.rs ra + 4 * i - 0x40000)) 4) ∧ t.m.c.seq k.yard = (q.ws rd (16 * b2n (s.m.c.is R.MBX_LB_FULL n))).adv ∧ t.m.m = s.m.m) ∧
    (∀ n : Fin 16, ¬(n.val < 8 ∧ s.m.c.receiver n = some (.seq k.yard)) → k.ecc = false →
      exec (.lbr k rd ra n) s = .next (s.withSeq k.yard (q.ws rd 4).adv)) ∧
    (∀ n : Fin 16, n.val < 8 → s.m.c.receiver n = some (.seq k.yard) → k.ecc = false →
      (s.m.c.get R.MBX_LB_FULL n = 0 → exec (.lbr k rd ra n) s = .next (s.withSeq k.yard (q.ws rd 3).adv)) ∧
      (s.m.c.get R.MBX_LB_FULL n = 1 → q.rs ra % 4 = 0 → 0x40000 ≤ q.rs ra → q.rs ra + 64 ≤ 0x60000 →
        ∃ t, exec (.lbr k rd ra n) s = .next t ∧ t.m.c.get R.MBX_LB_FULL n = 0 ∧ t.m.c.seq k.yard = (q.ws rd 0).adv ∧
          (∀ i < 16, t.m.m.dmem.rdN (k.yard * 0x40000 + q.half * 0x20000 + (q.rs ra - 0x40000) + 4 * i) 4 =
            s.m.c.get R.MBX_LB_DATA (16 * n + i) % 2 ^ 32))) ∧
    (∀ n : Fin 16, k.ecc = false → (n.val < 8 ∧ (s.m.c.sender n = some (.seq k.yard) ∨ s.m.c.receiver n = some (.seq k.yard)) →
        exec (.lbt k rd n) s = .next (s.withSeq k.yard
          (q.ws rd (b2n (s.m.c.is R.MBX_LB_FULL n) + 2 * b2n (s.m.c.is R.MBX_LB_COLLIDE n))).adv)) ∧
      (¬(n.val < 8 ∧ (s.m.c.sender n = some (.seq k.yard) ∨ s.m.c.receiver n = some (.seq k.yard))) →
        exec (.lbt k rd n) s = .next (s.withSeq k.yard (q.ws rd 4).adv)))

/-- Shutter requests (R216, R217). An opening of feeds that may all open, and a closing, wait for the next boundary with LAST
OK; an opening with a feed that may not is refused with STATE and opens nothing; a closing is taken even while the journal is
nearly full. At the boundary the open feeds are those that were open or asked to open in time, but for those asked to close and
those that R218 closes, which SHUT_AUTO shows; with no request nothing changes. Under conditions on the state and the operands
alone it gives the next state of: shutOpenRequest, shutCloseRequest, shutterChange. -/
def Obligations.ShutterRequests : Prop :=
  ∀ (s : State) (m : Master) (i : Fin 24) (d : BitVec 32),
    (s.m.c.secure m = true → s.m.c.get R.HNG_STATUS_ROLE = 0 →
      ((∀ f ∈ wordFeeds i d.toNat, s.m.c.mayOpen f = true) → ∃ t, exec (.shutOpenRequest m i d) s = .next t ∧
        cget t.m.c.fire.openReq i = cget s.m.c.fire.openReq i ||| d.toNat ∧ t.m.c.get R.SHUT_STATUS_LAST = 0 ∧
        s.m.c.sameRegsBut t.m.c [R.SHUT_STATUS_LAST] ∧ t.m.m = s.m.m) ∧
      ((∃ f ∈ wordFeeds i d.toNat, s.m.c.mayOpen f = false) → ∃ t, exec (.shutOpenRequest m i d) s = .next t ∧
        t.m.c.fire.openReq = s.m.c.fire.openReq ∧ t.m.c.get R.SHUT_STATUS_LAST = 1 ∧ t.m.c.get R.SHUT_STATUS_ERR_STATE = 1 ∧
        s.m.c.sameRegsBut t.m.c ([R.SHUT_STATUS_LAST, R.SHUT_STATUS_ERR_STATE] ++ evtFields) ∧ t.m.m = s.m.m) ∧
      (∃ t, exec (.shutCloseRequest m i d) s = .next t ∧
        cget t.m.c.fire.closeReq i = cget s.m.c.fire.closeReq i ||| d.toNat ∧ t.m.c.get R.SHUT_STATUS_LAST = 0 ∧
        s.m.c.sameRegsBut t.m.c [R.SHUT_STATUS_LAST] ∧ t.m.m = s.m.m)) ∧
    (s.m.c.secure m = true → s.m.c.hngBar m ≠ 1 → ∃ t, exec (.shutCloseRequest m i d) s = .next t ∧
      cget t.m.c.fire.closeReq i = cget s.m.c.fire.closeReq i ||| d.toNat ∧ t.m.c.get R.SHUT_STATUS_LAST = 0 ∧ t.m.m = s.m.m) ∧
    (s.m.c.secure m = false →
      exec (.shutOpenRequest m i d) s = .next (s.withCtl fun c => c.denied m (0xD0100 + 4 * i)) ∧
      exec (.shutCloseRequest m i d) s = .next (s.withCtl fun c => c.denied m (0xD0180 + 4 * i))) ∧
    (s.m.c.fire.openDue ≠ [] ∨ s.m.c.fire.closeDue ≠ [] ∨ s.m.c.fire.autoDue ≠ [] → ∃ t, exec .shutterChange s = .next t ∧
      t.m.c.get R.SHUT_OPEN i = andNot 32 (s.m.c.get R.SHUT_OPEN i ||| cget s.m.c.fire.openDue i)
        (cget s.m.c.fire.closeDue i ||| cget s.m.c.fire.autoDue i) ∧
      (∀ b < 32, bit (cget s.m.c.fire.autoDue i) b = true → bit (s.m.c.get R.SHUT_OPEN i) b = true →
        bit (t.m.c.get R.SHUT_AUTO i) b = true ∧ t.m.c.get R.SHUT_STATUS_AUTO_SEEN = 1) ∧
      t.m.c.fire.openDue = [] ∧ t.m.c.fire.closeDue = [] ∧ t.m.c.fire.autoDue = [] ∧ t.m.m = s.m.m) ∧
    (s.m.c.fire.openDue = [] → s.m.c.fire.closeDue = [] → s.m.c.fire.autoDue = [] →
      exec .shutterChange s = .next (s.withCtl id))

/-- The fire inputs and relays (R219 to R221, R239). A measurement that agrees with the last counts up its hold, another one
restarts it; a state held for its hold time becomes the input's state, and an alarm is counted; a relay follows its condition; a
lost keeper heartbeat is a fault; FIRE_IN takes values in range. Under conditions on the state and the operands alone it gives
the next state of: fireLoopMeasure, inputStateChange, relayUpdate, keeperHeartbeatLoss, fireInWrite. -/
def Obligations.FireInputs : Prop :=
  ∀ s : State,
    (∀ ohms : List Nat, ∃ t, exec (.fireLoopMeasure ohms) s = .next t ∧ t.m.m = s.m.m ∧
      (∀ i n, i < 18 → ohms[i]? = some n → s.m.c.loopOn i = true →
        kget? t.m.c.fire.loops i = some
          (if (kgetD s.m.c.fire.loops i {}).raw = loopState n (i < 16 && s.m.c.is R.FIRE_IN_SHORT_IS_ALARM i)
            then { kgetD s.m.c.fire.loops i {} with heldMs := (kgetD s.m.c.fire.loops i {}).heldMs + 1 }
            else { raw := loopState n (i < 16 && s.m.c.is R.FIRE_IN_SHORT_IS_ALARM i), heldMs := 0 }) ∧
        (i < 16 → t.m.c.get R.FIRE_IN_OHMS i = min (n / 10) 65535)) ∧
      s.m.c.sameRegsBut t.m.c [R.FIRE_IN_OHMS]) ∧
    (∀ (i : Fin 18) (l : LoopSt), kget? s.m.c.fire.loops i = some l → s.m.c.loopOn i = true → l.raw ≠ s.m.c.loopShown i →
      s.m.c.loopHold i l.raw ≤ l.heldMs → ∃ t, exec (.inputStateChange i) s = .next t ∧ t.m.m = s.m.m ∧
        (i.val < 16 → t.m.c.get R.FIRE_IN_STATE i = l.raw % 2 ^ R.FIRE_IN_STATE.width) ∧
        (16 ≤ i.val → t.m.c.get R.STORM_EMIC_PTT (i - 16) = l.raw % 2 ^ R.STORM_EMIC_PTT.width) ∧
        (i.val < 16 → l.raw = 2 → t.m.c.get R.FIRE_IN_ALARMS i = (s.m.c.get R.FIRE_IN_ALARMS i + 1) % 2 ^ R.FIRE_IN_ALARMS.width ∧
          t.m.c.get R.FIRE_STATUS_ALARM_SEEN = 1) ∧
        (3 ≤ l.raw → t.m.c.get R.FIRE_STATUS_FAULT_SEEN = 1)) ∧
    (∀ (i : Fin 18), (s.m.c.loopOn i = false ∨ kget? s.m.c.fire.loops i = none) →
      exec (.inputStateChange i) s = .next (s.withCtl id)) ∧
    (∀ k : Fin 4, ∃ t, exec (.relayUpdate k) s = .next t ∧
      bit (t.m.c.get R.FIRE_STATUS_RELAYS) k = (Ctl.faults { s.m.c with out := [] }).relayOn k ∧
      s.m.c.sameRegsBut t.m.c (R.FIRE_STATUS_RELAYS :: evtFields) ∧ t.m.m = s.m.m) ∧
    (∃ t, exec .keeperHeartbeatLoss s = .next t ∧ t.m.c.keeperLost = true ∧ s.m.c.sameRegsBut t.m.c [R.FIRE_FAULT] ∧
      t.m.m = s.m.m) ∧
    (∀ (m : Master) (i : Fin 16) (d : BitVec 32),
      inRange [R.FIRE_IN_EN, R.FIRE_IN_SHORT_IS_ALARM, R.FIRE_IN_DEBOUNCE, R.FIRE_IN_FAULT_HOLD] d.toNat = true →
      s.m.c.secure m = true → (d.toNat % 2 = 1 ∨ s.m.c.is R.FIRE_IN_EN i = false) →
      ∃ t, exec (.fireInWrite m i d) s = .next t ∧ t.m.c.get R.FIRE_STATUS_LAST = 0 ∧ t.m.c.get R.FIRE_IN_EN i = d.toNat % 2 ∧
        t.m.c.get R.FIRE_IN_DEBOUNCE i = d.toNat / 4 % 2 ^ 10 ∧ t.m.c.get R.FIRE_IN_FAULT_HOLD i = d.toNat / 2 ^ 12 % 2 ^ 7 ∧
        (d.toNat % 2 = 0 → t.m.c.get R.FIRE_IN_STATE i = 0) ∧ t.m.m = s.m.m) ∧
    (∀ (m : Master) (i : Fin 16) (d : BitVec 32),
      inRange [R.FIRE_IN_EN, R.FIRE_IN_SHORT_IS_ALARM, R.FIRE_IN_DEBOUNCE, R.FIRE_IN_FAULT_HOLD] d.toNat = true →
      s.m.c.secure m = true → d.toNat % 2 = 0 → s.m.c.is R.FIRE_IN_EN i = true →
      (∃ p < 64, s.m.c.get R.PLAN_STATE p ≠ 0 ∧ bit (s.m.c.get R.PLAN_FI_MASK p) i = true) →
      ∃ t, exec (.fireInWrite m i d) s = .next t ∧ t.m.c.get R.FIRE_STATUS_LAST = 1 ∧ t.m.c.get R.FIRE_STATUS_ERR_STATE = 1 ∧
        s.m.c.sameRegsBut t.m.c ([R.FIRE_STATUS_LAST, R.FIRE_STATUS_ERR_STATE] ++ evtFields) ∧ t.m.m = s.m.m)

/-- Alarm plans (R222 to R225, R227, R230). A triggered plan that is idle is activated: counted, its zones in alarm; at the end
of the confirmation time a plan with a zone unconfirmed goes to the storm door; chained plans are triggered; an expired backstop
starts a plan that the keeper has not started on an armed module; a programme goes on at the end of its tone, message or gap.
Under conditions on the state and the operands alone it gives the next state of: planActivate, confirmEnd, planChain,
backstopExpiry, stormProgrammeStep. -/
def Obligations.AlarmPlans : Prop :=
  ∀ (s : State) (p : Fin 64),
    ((s.m.c.planRt p).pendAct = true → s.m.c.keep.down = false →
      (s.m.c.get R.PLAN_STATE p = 0 → ∃ t, exec (.planActivate p) s = .next t ∧
        t.m.c.get R.PLAN_COUNT p = (s.m.c.get R.PLAN_COUNT p + 1) % 2 ^ R.PLAN_COUNT.width ∧ t.m.c.get R.PLAN_STATE p ≠ 0 ∧
        (∀ z < 128, s.m.c.planCovers p z = true → t.m.c.get R.ZONE_ALARM z = 1) ∧ (t.m.c.planRt p).pendAct = false ∧
        (t.m.c.planRt p).actWin = s.m.c.winNo ∧ t.m.m = s.m.m) ∧
      (s.m.c.get R.PLAN_STATE p ≠ 0 →
        exec (.planActivate p) s = .next (s.withCtl fun c => c.setPlanRt p { s.m.c.planRt p with pendAct := false }))) ∧
    (∀ w, (s.m.c.planRt p).confirmEnd = some w → later w s.m.c.winNo = false → s.m.c.get R.PLAN_STATE p = 1 →
      s.m.c.get R.HNG_STATUS_ROLE ≠ 3 →
      ((∀ z < 128, s.m.c.planCovers p z = true → z ∈ (s.m.c.planRt p).confirmed) →
        exec (.confirmEnd p) s = .next (s.withCtl fun c => c.setPlanRt p { s.m.c.planRt p with confirmEnd := none })) ∧
      ((∃ z < 128, s.m.c.planCovers p z = true ∧ z ∉ (s.m.c.planRt p).confirmed) →
        ∃ t, exec (.confirmEnd p) s = .next t ∧ (t.m.c.get R.PLAN_STATE p = 2 ∨ t.m.c.get R.PLAN_STATE p = 3) ∧
          (s.m.c.is R.STORM_STATUS_ARMED = true → ∀ z < 128, s.m.c.planCovers p z = true → z ∉ (s.m.c.planRt p).confirmed →
            t.m.c.get R.ZONE_OWNER z = 1) ∧ t.m.m = s.m.m)) ∧
    (∀ w, (s.m.c.planRt p).chainAt = some w → w ≤ s.m.c.storm.safeCount → s.m.c.keeperLost = false → ∃ t, exec (.planChain p) s = .next t ∧
      (t.m.c.planRt p).chainAt = none ∧
      (s.m.c.get R.HNG_STATUS_ROLE ≠ 3 → s.m.c.stormActive (s.m.c.get R.PLAN_NEXT p) = false →
        s.m.c.is R.PLAN_EN (s.m.c.get R.PLAN_NEXT p) = true → s.m.c.keep.down = false →
        (t.m.c.planRt (s.m.c.get R.PLAN_NEXT p)).pendAct = true) ∧ t.m.m = s.m.m) ∧
    (∀ w, (s.m.c.planRt p).backstopAt = some w → w ≤ s.m.c.storm.safeCount →
      (s.m.c.get R.PLAN_STATE p = 0 → s.m.c.is R.STORM_STATUS_ARMED = true → ∃ t, exec (.backstopExpiry p) s = .next t ∧
        (t.m.c.planRt p).stormOn = true ∧ (t.m.c.planRt p).backstopAt = none ∧
        (s.m.c.get R.HNG_STATUS_ROLE ≠ 3 → ∀ z < 128, s.m.c.stormCovers p z = true → t.m.c.get R.ZONE_OWNER z = 1) ∧
        t.m.m = s.m.m) ∧
      (s.m.c.get R.PLAN_STATE p ≠ 0 →
        exec (.backstopExpiry p) s = .next (s.withCtl fun c => c.setPlanRt p { s.m.c.planRt p with backstopAt := none }))) ∧
    (∀ g, kget? s.m.c.storm.progs p = some g → s.m.c.progLength s.m.m.nor p g ≤ g.pos →
      ∃ t, exec (.stormProgrammeStep p) s = .next t ∧
      kget? t.m.c.storm.progs p = some { g with pos := 0, phase :=
        if g.msg = false then 0 else if s.m.c.inForce R.PLAN_TONE_EN p = 1 then (g.phase + 1) % 3 else 1 } ∧
      t.m.c.regs = s.m.c.regs ∧ t.m.m = s.m.m) ∧
    ((kget? s.m.c.storm.progs p = none ∨ ∃ g, kget? s.m.c.storm.progs p = some g ∧ g.pos < s.m.c.progLength s.m.m.nor p g) →
      exec (.stormProgrammeStep p) s = .next (s.withMach id)) ∧
    ((s.m.c.planRt p).confirmEnd = none → exec (.confirmEnd p) s = .next (s.withCtl id)) ∧
    ((∀ w, (s.m.c.planRt p).chainAt = some w → s.m.c.storm.safeCount < w) → exec (.planChain p) s = .next (s.withCtl id)) ∧
    ((∀ w, (s.m.c.planRt p).backstopAt = some w → s.m.c.storm.safeCount < w) → exec (.backstopExpiry p) s = .next (s.withCtl id))

/-- The storm door takes zones and gives them back (R228, R233, R234, R237, R240). On an armed module that is no standby a lost
die strobe takes every zone and FORCE those of its rising bits; a zone that is ready is handed back to the render die. COMMIT
puts the shadow in force while no zone is driven. DISARM is refused while a plan is active or a zone driven. Under conditions on
the state and the operands alone it gives the next state of: dieStrobeLoss, stormStoreCheck, stormCommit, stormArm, stormDisarm,
stormForceWrite, stormReturnRequest, handbackFade, stormEventDeliver. -/
def Obligations.StormDoor : Prop :=
  ∀ (s : State) (m : Master),
    (s.m.c.fire.dieLost = false → ∃ t, exec .dieStrobeLoss s = .next t ∧ t.m.c.fire.dieLost = true ∧
      (s.m.c.is R.STORM_STATUS_ARMED = true → s.m.c.get R.HNG_STATUS_ROLE ≠ 3 → ∀ z < 128, t.m.c.get R.ZONE_OWNER z = 1) ∧
      t.m.m = s.m.m) ∧
    (∃ t, exec .stormStoreCheck s = .next t ∧ t.m.c.storm.hdrOk = norHeaderOk s.m.m.nor ∧ t.m.m = s.m.m ∧
      (norHeaderOk s.m.m.nor = true → t.m.c.get R.STORM_STORE_ID = s.m.m.nor.rdN 8 4) ∧
      (norHeaderOk s.m.m.nor = false → t.m.c.get R.STORM_STATUS_STORE_SEEN = 1 ∧ t.m.c.fire.storeBad = true)) ∧
    (s.m.c.secure m = true →
      (s.m.c.drivenZones = [] → ∃ t, exec (.stormCommit m) s = .next t ∧ t.m.c.storm.inForce = s.m.c.shadow ∧
        t.m.c.storm.bqForce = s.m.c.storm.bqShadow ∧ t.m.c.get R.STORM_STATUS_LAST = 0 ∧ t.m.m = s.m.m) ∧
      (s.m.c.drivenZones ≠ [] → ∃ t, exec (.stormCommit m) s = .next t ∧ t.m.c.storm.inForce = s.m.c.storm.inForce ∧
        t.m.c.get R.STORM_STATUS_LAST = 1 ∧ t.m.m = s.m.m) ∧
      ((∀ k ∈ s.m.c.planMsgs, norMsgOk s.m.m.nor k = true ∧ bit (s.m.c.get R.STORM_MSG_BAD) k = false) → s.m.c.dirty = false →
        s.m.c.storm.hdrOk = true → s.m.c.is R.MON_STATUS_SAFE_BAD = false → s.m.c.is R.STORM_STATUS_ARMED = false →
        ∃ t, exec (.stormArm m) s = .next t ∧ t.m.c.get R.STORM_STATUS_ARMED = 1 ∧ t.m.c.get R.STORM_STATUS_LAST = 0 ∧
          t.m.m = s.m.m) ∧
      ((∀ p < 64, s.m.c.stormActive p = false) → s.m.c.drivenZones = [] → s.m.c.is R.STORM_STATUS_ARMED = true →
        ∃ t, exec (.stormDisarm m) s = .next t ∧ t.m.c.get R.STORM_STATUS_ARMED = 0 ∧ t.m.c.get R.STORM_STATUS_LAST = 0 ∧
          (∀ p, (t.m.c.planRt p).backstopAt = none) ∧ t.m.m = s.m.m) ∧
      (s.m.c.drivenZones ≠ [] → ∃ t, exec (.stormDisarm m) s = .next t ∧ t.m.c.get R.STORM_STATUS_LAST = 1 ∧
        t.m.c.get R.STORM_STATUS_ARMED = s.m.c.get R.STORM_STATUS_ARMED ∧ t.m.m = s.m.m) ∧
      (∀ (i : Fin 4) (d : BitVec 32), ∃ t, exec (.stormForceWrite m i d) s = .next t ∧ t.m.c.get R.STORM_FORCE i = d.toNat ∧
        t.m.c.get R.STORM_STATUS_LAST = 0 ∧ t.m.m = s.m.m ∧
        (s.m.c.is R.STORM_STATUS_ARMED = true → s.m.c.get R.HNG_STATUS_ROLE ≠ 3 → ∀ b < 32, d.getLsbD b = true →
          bit (s.m.c.get R.STORM_FORCE i) b = false → t.m.c.get R.ZONE_OWNER (32 * i + b) = 1)) ∧
      (∀ (i : Fin 4) (d : BitVec 32),
        ((∀ b < 32, d.getLsbD b = true → s.m.c.driven (32 * i + b) = true → s.m.c.causeHolds (32 * i + b) = false) →
          exec (.stormReturnRequest m i d) s = .next (s.withCtl fun c =>
            (c.each (((bitsOf 32 d.toNat).map (32 * i.val + ·)).filter s.m.c.driven) Ctl.returnZone).stormStatus 0)) ∧
        ((∃ b < 32, d.getLsbD b = true ∧ s.m.c.driven (32 * i + b) = true ∧ s.m.c.causeHolds (32 * i + b) = true) →
          exec (.stormReturnRequest m i d) s = .next (s.withCtl fun c => c.stormStatus 1)))) ∧
    (s.m.c.secure m = false → ∀ c ∈ [Instr.stormCommit m, .stormArm m, .stormDisarm m],
      exec c s = .next (s.withCtl fun c => c.denied m 0xE0000)) ∧
    (∀ (z : Fin 128) (w : Bool), z.val ∈ s.m.c.storm.ready → s.m.c.get R.ZONE_OWNER z ≠ 2 →
      ∃ t, exec (.handbackFade z w) s = .next t ∧ t.m.c.get R.ZONE_OWNER z = 0 ∧ t.m.c.driven z = false ∧
        t.m.c.get R.STORM_CAUSE_CAUSE z = 0 ∧ z.val ∉ t.m.c.storm.ready ∧ t.m.m = s.m.m) ∧
    (s.m.c.fire.dieLost = false → ∃ t, exec .stormEventDeliver s = .next t ∧ t.m.c.storm.evq = [] ∧
      s.m.c.sameRegsBut t.m.c evtFields ∧ t.m.m = s.m.m)

/-- HNG_CMD (R243, R260): each command of a master that R8 lets write it is carried out or refused as its row says, LAST telling
which; of another master it is denied. Under conditions on the state and the operands alone it gives the next state of:
hngEnable, hngDisable, hngRejoin, hngStandDown, hngProbe. -/
def Obligations.HingeCommands : Prop :=
  ∀ (s : State) (m : Master),
    (s.m.c.secure m = true →
      (s.m.c.get R.HNG_CFG_MODE ≠ 0 → s.m.c.is R.HNG_CFG_H0_EN = true → s.m.c.is R.HNG_CFG_H1_EN = true → s.m.c.role = 0 →
        ∃ t, exec (.hngEnable m) s = .next t ∧ t.m.c.role = 1 ∧ t.m.c.hng.formWait = 0 ∧ t.m.c.get R.HNG_STATUS_LAST = 0 ∧
          s.m.c.sameRegsBut t.m.c ([R.HNG_STATUS_ROLE, R.HNG_STATUS_LAST] ++ evtFields) ∧ t.m.m = s.m.m) ∧
      (s.m.c.get R.HNG_CFG_MODE = 0 → ∃ t, exec (.hngEnable m) s = .next t ∧ t.m.c.role = s.m.c.role ∧
        t.m.c.get R.HNG_STATUS_LAST = 1 ∧ t.m.m = s.m.m) ∧
      (∃ t, exec (.hngDisable m) s = .next t ∧ t.m.c.hng.offAfter = true ∧ t.m.c.get R.HNG_STATUS_LAST = 0 ∧
        t.m.c.hng.standAt = (if s.m.c.role = 2 ∧ s.m.c.syncedPartner.isSome = true then some (winAdd s.m.c.winNo 2) else none) ∧
        s.m.c.sameRegsBut t.m.c [R.HNG_STATUS_LAST] ∧ t.m.m = s.m.m) ∧
      (s.m.c.role = 5 → ∃ t, exec (.hngRejoin m) s = .next t ∧ t.m.c.role = 3 ∧ t.m.c.get R.HNG_STATUS_SYNC = 1 ∧
        t.m.c.get R.HNG_RESYNC_BULK_PCT = 0 ∧ t.m.c.get R.HNG_STATUS_LAST = 0 ∧ t.m.m = s.m.m) ∧
      (s.m.c.role ≠ 5 → ∃ t, exec (.hngRejoin m) s = .next t ∧ t.m.c.role = s.m.c.role ∧ t.m.c.get R.HNG_STATUS_LAST = 1 ∧
        t.m.m = s.m.m) ∧
      (s.m.c.role = 2 → s.m.c.syncedPartner.isSome = true → ∃ t, exec (.hngStandDown m) s = .next t ∧
        t.m.c.hng.standAt = some (winAdd s.m.c.winNo 2) ∧ t.m.c.role = 2 ∧ t.m.c.get R.HNG_STATUS_LAST = 0 ∧ t.m.m = s.m.m) ∧
      (s.m.c.role ≠ 2 → ∃ t, exec (.hngStandDown m) s = .next t ∧ t.m.c.hng.standAt = s.m.c.hng.standAt ∧
        t.m.c.get R.HNG_STATUS_LAST = 1 ∧ t.m.m = s.m.m) ∧
      (∃ t, exec (.hngProbe m) s = .next t ∧ t.m.c.hng.probe = some s.m.c.winNo ∧ t.m.c.hng.probeWhy = 0 ∧
        t.m.c.get R.HNG_STATUS_LAST = 0 ∧ s.m.c.sameRegsBut t.m.c [R.HNG_STATUS_LAST] ∧ t.m.m = s.m.m)) ∧
    (s.m.c.secure m = false →
      ∀ c ∈ [Instr.hngEnable m, .hngDisable m, .hngRejoin m, .hngStandDown m, .hngProbe m],
        exec c s = .next (s.withCtl fun c => c.denied m 0x80008))

/-- Changes of role at a boundary (R243, R259 to R264). A handover that is due makes the active module OFF, FAILED or a synced
STANDBY, and the synced standby ACTIVE; a forming module with nobody below it heard becomes ACTIVE after FORM_WAIT; an orphan
stands down, and one that nobody serves is promoted; the phases of resynchronisation follow one another. Under conditions on the
state and the operands alone it gives the next state of: standDownHandover, formWaitExpiry, orphanStandDown, orphanPromote,
syncPhaseAdvance. -/
def Obligations.HingeRoles : Prop :=
  ∀ s : State,
    (∀ w, s.m.c.role = 2 → s.m.c.hng.standAt = some w → later w s.m.c.winNo = false →
      ∃ t, exec .standDownHandover s = .next t ∧ t.m.c.hng.journal = [] ∧ t.m.m = s.m.m ∧
        (s.m.c.hng.offAfter = true → t.m.c.role = 0 ∧ t.m.c.hng.offAfter = false) ∧
        (s.m.c.hng.offAfter = false → s.m.c.get R.DRAM_STATUS_MODE = 3 → t.m.c.role = 5) ∧
        (s.m.c.hng.offAfter = false → s.m.c.get R.DRAM_STATUS_MODE ≠ 3 → t.m.c.role = 3 ∧ t.m.c.get R.HNG_STATUS_SYNC = 3)) ∧
    (s.m.c.role = 3 → s.m.c.get R.HNG_STATUS_SYNC = 3 → ∃ t, exec .standDownHandover s = .next t ∧ t.m.c.role = 2 ∧
      t.m.c.get R.HNG_STATUS_SYNC = 0 ∧
      t.m.c.get R.HNG_PROMOTIONS = (s.m.c.get R.HNG_PROMOTIONS + 1) % 2 ^ R.HNG_PROMOTIONS.width ∧ t.m.m = s.m.m) ∧
    (s.m.c.role = 1 → s.m.c.get R.HNG_TIMING_FORM_WAIT ≤ s.m.c.hng.formWait →
      (∀ r < s.m.c.get R.HNG_CFG_RANK, bit (s.m.c.get R.HNG_STATUS_HEARD) r = false) →
      ∃ t, exec .formWaitExpiry s = .next t ∧ t.m.c.role = 2 ∧
        s.m.c.sameRegsBut t.m.c (R.HNG_STATUS_ROLE :: evtFields) ∧ t.m.m = s.m.m) ∧
    (s.m.c.role = 2 → s.m.c.follow.1 = 0 → 0 < s.m.c.follow.2.1 → ∃ t, exec .orphanStandDown s = .next t ∧ t.m.c.role = 4 ∧
      t.m.c.get R.HNG_STATUS_SYNC = 0 ∧ t.m.c.get R.HNG_STATUS_DUAL = 0 ∧ t.m.m = s.m.m) ∧
    (s.m.c.role = 4 → s.m.c.get R.HNG_TIMING_HB_MISS ≤ s.m.c.hng.unheard → ∃ t, exec .orphanPromote s = .next t ∧
      t.m.c.role = 2 ∧ t.m.m = s.m.m) ∧
    (s.m.c.role ≠ 2 → s.m.c.role ≠ 3 → exec .standDownHandover s = .next (s.withCtl id)) ∧
    (s.m.c.role ≠ 1 → exec .formWaitExpiry s = .next (s.withCtl id)) ∧
    (s.m.c.role ≠ 2 → exec .orphanStandDown s = .next (s.withCtl id)) ∧
    (s.m.c.role ≠ 4 → exec .orphanPromote s = .next (s.withCtl id)) ∧
    (s.m.c.role ≠ 3 → exec .syncPhaseAdvance s = .next (s.withCtl id)) ∧
    (s.m.c.role = 3 → s.m.c.get R.HNG_STATUS_SYNC = 1 → s.m.c.hng.bulkDone = true → ∃ t, exec .syncPhaseAdvance s = .next t ∧
      t.m.c.get R.HNG_STATUS_SYNC = 2 ∧ t.m.c.role = 3 ∧ t.m.c.get R.HNG_RESYNC_MATCHED = 0 ∧ t.m.m = s.m.m) ∧
    (s.m.c.role = 3 → s.m.c.get R.HNG_STATUS_SYNC = 2 → s.m.c.hng.stateDone = true →
      s.m.c.get R.HNG_TIMING_MATCH_RUN ≤ s.m.c.get R.HNG_RESYNC_MATCHED →
      (∀ i < 256, s.m.c.is R.SRC_EN i = true → (kgetD s.m.c.src.rings i {}).fill = s.m.c.get R.SRC_RING i) →
      ∃ t, exec .syncPhaseAdvance s = .next t ∧ t.m.c.get R.HNG_STATUS_SYNC = 3 ∧ t.m.c.role = 3 ∧ t.m.m = s.m.m)

/-- Hinge frames (R244 to R246, R249, R252, R263). A link's state follows it. Of an accepted frame of a partner in step, a
record is a heartbeat that shows the partner's role, and a standby keeps the active module's until it applies its journal;
forwarded inputs, a status, a part of the bulk data and a state set are kept as their rules say. Of a frame that is not accepted
nothing is used. Under conditions on the state and the operands alone it gives the next state of: hingeLinkUp, hingeLinkDown,
recordReceive, hingeInputReceive, statusFrameReceive, bulkFrameReceive, stateFrameReceive, journalApply. -/
def Obligations.HingeFrames : Prop :=
  ∀ s : State,
    (∀ i : Fin 2, s.m.c.is (if i = 0 then R.HNG_CFG_H0_EN else R.HNG_CFG_H1_EN) = true →
      s.m.c.is (if i = 0 then R.HNG_STATUS_H0_UP else R.HNG_STATUS_H1_UP) = false → ∃ t, exec (.hingeLinkUp i) s = .next t ∧
        t.m.c.get (if i = 0 then R.HNG_STATUS_H0_UP else R.HNG_STATUS_H1_UP) = 1 ∧ t.m.m = s.m.m ∧
        s.m.c.sameRegsBut t.m.c ([R.HNG_STATUS_H0_UP, R.HNG_STATUS_H1_UP] ++ evtFields)) ∧
    (∀ i : Fin 2, s.m.c.is (if i = 0 then R.HNG_STATUS_H0_UP else R.HNG_STATUS_H1_UP) = true →
      ∃ t, exec (.hingeLinkDown i) s = .next t ∧ t.m.c.get (if i = 0 then R.HNG_STATUS_H0_UP else R.HNG_STATUS_H1_UP) = 0 ∧
        s.m.c.sameRegsBut t.m.c ([R.HNG_STATUS_H0_UP, R.HNG_STATUS_H1_UP] ++ evtFields) ∧ t.m.m = s.m.m) ∧
    (∀ (link : Fin 2) (h : HngHead) (c : Ctl), Ctl.hngAccept { s.m.c with out := [] } link h = (c, true) →
      (∀ (payload : List Nat) (r : RecordFrame), r = recordParse h.src payload → (c.peer h.src).differs = false →
        (r.role ≠ 2 → exec (.recordReceive link h payload) s =
          .next (s.withCtl fun _ => (c.beat h.src).set R.HNG_PEER_ROLE r.role h.src)) ∧
        (r.role = 2 → c.role = 3 → r.promoted = false → ∃ t, exec (.recordReceive link h payload) s = .next t ∧
          kget? t.m.c.hng.records h.cwin = some r ∧ t.m.c.hng.budget = some r.budget ∧
          (h.src < 3 → bit (t.m.c.get R.HNG_STATUS_HEARD) h.src = true) ∧
          t.m.c.get R.HNG_PEER_ROLE h.src = 2 ∧ t.m.m = s.m.m) ∧
        (r.role = 2 → c.role = 1 ∨ c.role = 4 → ∃ t, exec (.recordReceive link h payload) s = .next t ∧ t.m.c.role = 3 ∧
          t.m.c.get R.HNG_STATUS_SYNC = 1 ∧ t.m.m = s.m.m)) ∧
      (∀ payload : List Nat, c.role = 3 → (c.peer h.src).differs = false →
        ∃ t, exec (.hingeInputReceive link h payload) s = .next t ∧ kgetD t.m.c.hng.blocks h.cwin [] =
          kgetD c.hng.blocks h.cwin [] ++ inputParse c.winSamples 256 payload ∧ t.m.c.regs = c.regs ∧ t.m.m = s.m.m) ∧
      (∀ i : HngInfo, ∃ t, exec (.statusFrameReceive link h i) s = .next t ∧ t.m.m = s.m.m ∧
        t.m.c.peer h.src = { role := i.role, sync := i.sync, cwin := h.cwin, crcs := i.crcs, probes := i.probes,
                             differs := !c.sameConfig i } ∧
        (c.sameConfig i = true → t.m.c.get R.HNG_PEER_ROLE h.src = i.role % 2 ^ R.HNG_PEER_ROLE.width ∧
          t.m.c.get R.HNG_PEER_SYNC h.src = i.sync % 2 ^ R.HNG_PEER_SYNC.width)) ∧
      (∀ (part : HngBulk) (pct : Nat), c.role = 3 → c.get R.HNG_STATUS_SYNC = 1 → (c.peer h.src).differs = false →
        ∃ t, exec (.bulkFrameReceive link h part pct) s = .next t ∧ t.m.c.hng.bulkDone = decide (100 ≤ pct) ∧
          t.m.c.get R.HNG_RESYNC_BULK_PCT = min pct 100 ∧
          (∀ l a, part = .bank l a → kget? t.m.c.corr.banks (2 * l.feed + l.bank) = some l.taps ∧
            t.m.c.get (validReg l.bank) l.feed = 1) ∧
          (∀ p, part = .tables p → t.m.m = s.m.m)) ∧
      (∀ set : HngState, c.role = 3 → (c.peer h.src).differs = false → ∃ t, exec (.stateFrameReceive link h set) s = .next t ∧ t.m.c.hng.stateSet = some set ∧
        t.m.c.regs = c.regs ∧ t.m.m = s.m.m)) ∧
    (∀ (link : Fin 2) (h : HngHead) (c : Ctl), Ctl.hngAccept { s.m.c with out := [] } link h = (c, false) →
      (∀ payload, exec (.recordReceive link h payload) s = .next (s.withCtl fun _ => c) ∧
        exec (.hingeInputReceive link h payload) s = .next (s.withCtl fun _ => c)) ∧
      (∀ i, exec (.statusFrameReceive link h i) s = .next (s.withCtl fun _ => c)) ∧
      (∀ part pct, exec (.bulkFrameReceive link h part pct) s = .next (s.withCtl fun _ => c)) ∧
      (∀ set, exec (.stateFrameReceive link h set) s = .next (s.withCtl fun _ => c))) ∧
    (s.m.c.role ≠ 3 ∨ kget? s.m.c.hng.records ((s.m.c.winNo + 2 ^ 32 - 1) % 2 ^ 32) = none →
      exec .journalApply s = .next (s.withMach id)) ∧
    (∀ r : RecordFrame, kget? s.m.c.hng.records ((s.m.c.winNo + 2 ^ 32 - 1) % 2 ^ 32) = some r → s.m.c.role = 3 → r.overflow = false →
      exec .journalApply s = .next (s.withMach fun x =>
        let c := { x.c with
          hng := { x.c.hng with records := kput x.c.hng.records ((s.m.c.winNo + 2 ^ 32 - 1) % 2 ^ 32) { r with journal := [] } },
          win := { x.c.win with leanWanted := r.lean } }
        let x := r.journal.foldl Mach.journalOne { x with c := c }
        { x with c := (x.c.set R.LEDG_STATUS_STEP r.step).ledgShow }))

/-- Probes, votes and lost heartbeats (R255 to R258). A passed probe changes nothing but its result; a failed periodic one takes
a standby out of service; a duplex decision leaves the module whose probes fail FAILED, a triplex one an active only when it
alone fails; in a triplex, the active module that both standbys contradict fails; a standby that loses the active module's
heartbeat, with nobody before it, takes over. Under conditions on the state and the operands alone it gives the next state of:
probeResult, duplexDecision, probePeriodic, heartbeatLoss, triplexVote. -/
def Obligations.HingeDecisions : Prop :=
  ∀ s : State,
    (s.m.c.hng.probe = none → s.m.c.hng.decide = none → ∀ pass, exec (.probeResult pass) s = .next (s.withCtl id)) ∧
    (s.m.c.hng.decide = none → exec .duplexDecision s = .next (s.withCtl id)) ∧
    (s.m.c.role = 0 ∨ s.m.c.get R.HNG_TIMING_PROBE_EVERY = 0 → exec .probePeriodic s = .next (s.withCtl id)) ∧
    (s.m.c.role = 0 → ∀ r, exec (.heartbeatLoss r) s = .next (s.withCtl id)) ∧
    (s.m.c.get R.HNG_CFG_MODE ≠ 2 → exec .triplexVote s = .next (s.withCtl id)) ∧
    (s.m.c.role ≠ 0 → s.m.c.get R.HNG_TIMING_PROBE_EVERY ≠ 0 → 16 * s.m.c.get R.HNG_TIMING_PROBE_EVERY ≤ s.m.c.hng.sinceProbe →
      ∃ t, exec .probePeriodic s = .next t ∧ t.m.c.hng.probe = some s.m.c.winNo ∧ t.m.c.hng.probeWhy = 1 ∧
        t.m.c.hng.sinceProbe = 0 ∧ t.m.c.regs = s.m.c.regs ∧ t.m.m = s.m.m) ∧
    (∀ w, s.m.c.hng.probe = some w →
      (∃ t, exec (.probeResult true) s = .next t ∧ t.m.c.hng.probe = none ∧
        t.m.c.hng.probes.head? = some (s.m.c.winNo, true) ∧ t.m.c.regs = s.m.c.regs ∧ t.m.m = s.m.m) ∧
      (∃ t, exec (.probeResult false) s = .next t ∧ t.m.c.get R.HNG_STATUS_PROBE_FAIL_SEEN = 1 ∧ t.m.m = s.m.m ∧
        (s.m.c.hng.probeWhy = 1 → s.m.c.role = 3 → t.m.c.role = 5) ∧
        (s.m.c.hng.probeWhy = 1 → s.m.c.role = 2 → s.m.c.hng.decide = none →
          t.m.c.role = 2 ∧ t.m.c.hng.decide = some (winAdd s.m.c.cwin 4, false)) ∧
        (s.m.c.hng.probeWhy ≠ 1 → t.m.c.role = s.m.c.role))) ∧
    (∀ p b, s.m.c.hng.decide = some (p, b) → later p s.m.c.winNo = false →
      (s.m.c.role = 2 → probesOk p s.m.c.hng.probes = true → ∃ t, exec .duplexDecision s = .next t ∧ t.m.c.hng.decide = none ∧
        t.m.c.regs = s.m.c.regs ∧ t.m.m = s.m.m) ∧
      (s.m.c.role = 2 → probesOk p s.m.c.hng.probes = false → (∃ r ∈ s.m.c.hngOthers,
          probesOk p (s.m.c.peer r).probes = true ∧ s.m.c.get R.HNG_PEER_ROLE r = 3) →
        b = false ∨ (∀ r ∈ s.m.c.hngOthers, probesOk p (s.m.c.peer r).probes = true) →
        ∃ t, exec .duplexDecision s = .next t ∧ t.m.c.role = 5 ∧ t.m.m = s.m.m) ∧
      (s.m.c.role = 2 → probesOk p s.m.c.hng.probes = false → (∃ r ∈ s.m.c.hngOthers, probesOk p (s.m.c.peer r).probes = false) →
        b = true → ∃ t, exec .duplexDecision s = .next t ∧ t.m.c.role = 2 ∧ t.m.m = s.m.m) ∧
      (∀ r, s.m.c.role = 3 → s.m.c.hngOthers = [r] → s.m.c.get R.HNG_PEER_ROLE r = 2 →
        ∃ t, exec .duplexDecision s = .next t ∧ t.m.m = s.m.m ∧
          (probesOk p s.m.c.hng.probes = true → probesOk p (s.m.c.peer r).probes = true → t.m.c.get R.HNG_STATUS_SYNC = 2 ∧
            t.m.c.role = 3) ∧
          (probesOk p s.m.c.hng.probes = true → probesOk p (s.m.c.peer r).probes = false → t.m.c.role = 2) ∧
          (probesOk p s.m.c.hng.probes = false → probesOk p (s.m.c.peer r).probes = true → t.m.c.role = 5))) ∧
    (∀ r1 r2 w, s.m.c.get R.HNG_CFG_MODE = 2 → s.m.c.role = 2 → w = (s.m.c.winNo + 2 ^ 32 - 2) % 2 ^ 32 →
      s.m.c.hngRanks = [r1, r2] → (∀ r ∈ [r1, r2], (s.m.c.peer r).cwin = w ∧ (s.m.c.peer r).crcs ≠ [] ∧
        (s.m.c.peer r).differs = false ∧ s.m.c.get R.HNG_PEER_ROLE r = 3) → (s.m.c.peer r1).crcs = (s.m.c.peer r2).crcs →
      ((s.m.c.peer r1).crcs = s.m.c.hngCrcs w → exec .triplexVote s = .next (s.withCtl id)) ∧
      ((s.m.c.peer r1).crcs ≠ s.m.c.hngCrcs w → ∃ t, exec .triplexVote s = .next t ∧ t.m.c.role = 5 ∧
        t.m.c.get R.HNG_MISMATCH = (s.m.c.get R.HNG_MISMATCH + 1) % 2 ^ R.HNG_MISMATCH.width ∧ t.m.m = s.m.m)) ∧
    (∀ r : Fin 3, s.m.c.role ≠ 0 → r.val ∈ s.m.c.hngRanks → r.val ∉ s.m.c.hng.lost →
      s.m.c.get R.HNG_TIMING_HB_MISS ≤ s.m.c.get R.HNG_PEER_MISSED r → ∃ t, exec (.heartbeatLoss r) s = .next t ∧
        t.m.c.get R.HNG_STATUS_HB_LOST_SEEN = 1 ∧ r.val ∈ t.m.c.hng.lost ∧ t.m.m = s.m.m ∧
        (s.m.c.role = 3 → s.m.c.get R.HNG_PEER_ROLE r = 2 → s.m.c.get R.HNG_STATUS_SYNC = 3 → s.m.c.hngRanks = [r.val] →
          t.m.c.role = 2) ∧
        (s.m.c.role ≠ 3 → t.m.c.role = s.m.c.role))

/-- Gates and the cells they send (R267, R271 to R275, R288). A gate that comes up or goes down shows it, and one whose
pluggable over-draws or does not answer stays down; a cell slot sends the cell that R273 picks, and the cell leaves its queue; a
copy that escapes goes on as one cell for each station beyond the gate; credits, knocks and times go out as link-local cells
with their words; a credit cell brings the peer's counts and counts what was lost; a measured offset is averaged over the last
sixteen. Under conditions on the state and the operands alone it gives the next state of: gateUp, gateDown, creditSend,
timeCellSend, cellSlotSend, knockSend, cellEscape, creditCellReceive, timeCellReceive. -/
def Obligations.FabricGates : Prop :=
  ∀ (s : State) (g : Fin 4),
    (s.m.c.gateOn g = true → (kget? s.m.c.fab.nbrs g).isSome = true → s.m.c.is R.FAB_GATE_UP g = false →
      ∀ mw : Nat, mw ≤ 1500 → ∃ t, exec (.gateUp ⟨g, some mw⟩) s = .next t ∧ t.m.c.get R.FAB_GATE_UP g = 1 ∧
        t.m.c.get R.FAB_GATE_LOCK g = 1 ∧ t.m.m = s.m.m) ∧
    (∀ plug : Option Nat, (∀ mw, plug = some mw → 1500 < mw) → ∃ t, exec (.gateUp ⟨g, plug⟩) s = .next t ∧ 4 + g.val ∈ t.m.c.net.held ∧
      (s.m.c.is R.FAB_GATE_UP g = false ∨ 4 + g.val ∉ s.m.c.net.held → t.m.c.is R.FAB_GATE_UP g = false) ∧ t.m.m = s.m.m) ∧
    (s.m.c.is R.FAB_GATE_UP g = true → ∃ t, exec (.gateDown g) s = .next t ∧ t.m.c.get R.FAB_GATE_UP g = 0 ∧
      t.m.c.get R.FAB_GATE_LOCK g = 0 ∧ t.m.c.get R.FAB_GATE_PEER_VALID g = 0 ∧ kget? t.m.c.fab.nbrs g = none ∧ t.m.m = s.m.m) ∧
    (s.m.c.is R.FAB_GATE_UP g = false → exec (.gateDown g) s = .next (s.withCtl id) ∧ exec (.creditSend g) s = .next (s.withCtl id) ∧
      exec (.timeCellSend g) s = .next (s.withCtl id)) ∧
    (∀ v k q, s.m.c.gateOn g = true → s.m.c.slotPick g = some v → k = (if v = 4 then 16 + g.val else 4 * g.val + v) →
      (if v = 3 then pick3 (kgetD s.m.c.fab.out k []) else (kgetD s.m.c.fab.out k []).head?) = some q →
      ∃ t, exec (.cellSlotSend g) s = .next t ∧ kgetD t.m.c.fab.out k [] = (kgetD s.m.c.fab.out k []).erase q ∧
        .cell g q.cell.vc (cellWire { s.m.c.fresh g q.cell with crVc := (s.m.c.owedOn g).1, crCnt := (s.m.c.owedOn g).2 }) ∈ t.m.c.out ∧
        (v ≠ 4 → cget t.m.c.fab.sent (4 * g + v) = (cget s.m.c.fab.sent (4 * g + v) + 1) % 65536) ∧
        s.m.c.sameRegsBut t.m.c [R.FAB_GATE_CREDITS] ∧ t.m.m = s.m.m) ∧
    (s.m.c.gateOn g = true → s.m.c.slotPick g = none → exec (.cellSlotSend g) s = .next (s.withCtl fun c =>
      { c with fab := { c.fab with localHold := cset c.fab.localHold g.val (cget c.fab.localHold g.val - 1) } })) ∧
    (s.m.c.gateOn g = false → exec (.cellSlotSend g) s = .next (s.withCtl id) ∧ exec (.knockSend g) s = .next (s.withCtl id)) ∧
    (∀ vc : Fin 3, kgetD s.m.c.fab.out (4 * g.val + vc.val) [] = [] → exec (.cellEscape g vc) s = .next (s.withCtl id)) ∧
    (∀ (vc : Fin 3) q l, kgetD s.m.c.fab.out (4 * g.val + vc.val) [] = q :: l → q.cell.mc = false →
      exec (.cellEscape g vc) s = .next (s.withCtl fun c =>
        (Ctl.escaped { c with fab := { c.fab with out := kput c.fab.out (4 * g.val + vc.val) l } }).route3
          { q.cell with vc := 3, hops := q.cell.hops - 1, down := false } q.held)) ∧
    (∀ (vc : Fin 3) q l, kgetD s.m.c.fab.out (4 * g.val + vc.val) [] = q :: l → q.cell.mc = true →
      exec (.cellEscape g vc) s = .next (s.withCtl fun c =>
        let c := Ctl.escaped { c with fab := { c.fab with out := kput c.fab.out (4 * g.val + vc.val) l } }
        (c.each (c.beyond g q.cell) (fun c st => c.route3
          { q.cell with vc := 3, hops := q.cell.hops - 1, down := false, mc := false, dst := st } none)).cellFree q.held)) ∧
    (s.m.c.is R.FAB_GATE_UP g = true → ∃ t, exec (.creditSend g) s = .next t ∧ t.m.c.regs = s.m.c.regs ∧ t.m.m = s.m.m ∧
      (∀ v < 4, cget t.m.c.fab.owed (4 * g + v) = 0) ∧ ∃ q ∈ kgetD t.m.c.fab.out (16 + g) [], q.cell.kind = 5 ∧
        q.cell.words = (List.range 4).map (fun v => cget s.m.c.fab.sent (4 * g + v) + 65536 * cget s.m.c.fab.freed (4 * g + v))) ∧
    (∀ (x : Cell) (c : Ctl), Ctl.cellIn { s.m.c with out := [] } g { x with crCnt := 0 } = (c, true) → x.kind = 5 →
      ∃ t, exec (.creditCellReceive g x) s = .next t ∧ t.m.m = s.m.m ∧ ∀ v < 4,
        cget t.m.c.fab.peerFreed (4 * g + v) = x.words.getD v 0 / 65536 % 65536 ∧
        cget t.m.c.fab.rx (4 * g + v) = x.words.getD v 0 % 65536) ∧
    (∀ (x : Cell) (c : Ctl), Ctl.cellIn { s.m.c with out := [] } g { x with crCnt := 0 } = (c, false) →
      exec (.creditCellReceive g x) s = .next (s.withCtl fun _ => c)) ∧
    (s.m.c.gateOn g = true → ∃ t, exec (.knockSend g) s = .next t ∧ t.m.m = s.m.m ∧
      (s.m.c.is R.FAB_STATUS_ROOT = false → s.m.c.fab.nbrs = [] → s.m.c.sameRegsBut t.m.c [R.FAB_ROOT_SEQ]) ∧
      ∃ q ∈ kgetD t.m.c.fab.out (16 + g) [], q.cell.kind = 3 ∧ q.cell.words.getD 0 0 % 256 = 1 ∧ q.cell.words.length = 13) ∧
    (s.m.c.is R.FAB_GATE_UP g = true → ∃ t, exec (.timeCellSend g) s = .next t ∧ t.m.c.regs = s.m.c.regs ∧ t.m.m = s.m.m ∧
      ∃ q ∈ kgetD t.m.c.fab.out (16 + g) [], q.cell.kind = 4 ∧
        q.cell.words = [s.m.c.time % 2 ^ 32, s.m.c.time / 2 ^ 32 % 2 ^ 32]) ∧
    (∀ (t1 t2 t3 t4 : BitVec 64) (l : List Int), s.m.c.is R.FAB_GATE_UP g = true →
      l = (((((t2.toNat : Int) - (t1.toNat : Int)) - ((t4.toNat : Int) - (t3.toNat : Int))) / 2 -
        (s.m.c.geti R.FAB_NBR_ASYM g : Int)) :: kgetD s.m.c.fab.offsets g.val []).take 16 →
      ∃ t, exec (.timeCellReceive g t1 t2 t3 t4) s = .next t ∧ kget? t.m.c.fab.offsets g = some l ∧
        t.m.c.get R.FAB_NBR_OFFSET g = ux 32 (l.sum / (l.length : Int)) ∧
        s.m.c.sameRegsBut t.m.c ([R.FAB_NBR_OFFSET, R.FAB_STATUS_TIME_SEEN] ++ evtFields) ∧ t.m.m = s.m.m)

/-- Cells that a station receives (R276, R277, R280, R282, R284, R285, R287). A knock makes its sender the gate's neighbour; the
other cells of this station act as their operation says; a data cell of another station goes on. Under conditions on the state
and the operands alone it gives the next state of: knockReceive, dataCellReceive, mirrorReceive, refuseReceive, topoReceive,
routeReceive, exportsReceive, switchReceive, tickReceive, ackReceive. -/
def Obligations.FabricCells : Prop :=
  ∀ (s : State) (g : Fin 4) (x : Cell),
    (∀ c, Ctl.cellIn { s.m.c with out := [] } g x = (c, true) →
      (x.kind = 3 → x.words.getD 0 0 % 256 = 1 → ∃ t, exec (.knockReceive g x) s = .next t ∧
        kget? t.m.c.fab.nbrs g = some (knockParse x.words) ∧ t.m.c.get R.FAB_GATE_PEER_VALID g = 1 ∧
        t.m.c.get R.FAB_GATE_PEER g = x.words.getD 0 0 / 256 % 256 ∧ t.m.m = s.m.m) ∧
      (x.kind = 1 → x.mc = false → c.isMe (x.dst % 256) = true → exec (.dataCellReceive g x) s =
        .next (s.withCtl fun _ => (c.takePart (x.aux / 4 % 16384) x).cellFree (some (g, x.vc % 4)))) ∧
      (x.kind = 2 → exec (.dataCellReceive g x) s = .next (s.withCtl fun _ =>
        (if x.words.getD 0 0 % 256 = 0 ∨ 8 < x.words.getD 0 0 % 256 then c.cellDiscard else c).cellFree (some (g, x.vc % 4)))) ∧
      (x.kind = 1 → x.mc = false → c.isMe (x.dst % 256) = false → exec (.dataCellReceive g x) s =
        .next (s.withCtl fun _ => c.unicast x (some (g, x.vc % 4)))) ∧
      (x.kind = 1 → x.mc = true → exec (.dataCellReceive g x) s = .next (s.withCtl fun _ =>
        (c.takePart x.dst x).copies x (some (g, x.vc % 4))
          ((bitsOf 4 (kgetD (c.takePart x.dst x).fab.flows x.dst ⟨0, 0, []⟩).outs).filter (· != g.val))))) ∧
    (∀ c, Ctl.cellIn { s.m.c with out := [] } g x = (c, false) →
      exec (.dataCellReceive g x) s = .next (s.withCtl fun _ => c) ∧
      exec (.knockReceive g x) s = .next (s.withCtl fun _ => c)) ∧
    (∀ c n, Ctl.ctrlIn { s.m.c with out := [] } g x n = (c, false) →
      (n = 1 → exec (.mirrorReceive g x) s = .next (s.withCtl fun _ => c)) ∧
      (n = 2 → exec (.refuseReceive g x) s = .next (s.withCtl fun _ => c)) ∧
      (n = 3 → exec (.topoReceive g x) s = .next (s.withCtl fun _ => c)) ∧
      (n = 4 → ∀ flows, exec (.routeReceive g x flows) s = .next (s.withCtl fun _ => c)) ∧
      (n = 5 → ∀ k, exec (.exportsReceive g x k) s = .next (s.withCtl fun _ => c)) ∧
      (n = 6 → exec (.switchReceive g x) s = .next (s.withCtl fun _ => c)) ∧
      (n = 7 → exec (.tickReceive g x) s = .next (s.withCtl fun _ => c)) ∧
      (n = 8 → exec (.ackReceive g x) s = .next (s.withCtl fun _ => c))) ∧
    (∀ c, Ctl.ctrlIn { s.m.c with out := [] } g x 2 = (c, true) → ∃ t, exec (.refuseReceive g x) s = .next t ∧ t.m.m = s.m.m ∧
      ∀ o < 1024, c.is R.OBJ_GLOBAL o = true → c.get R.OBJ_GID o = x.words.getD 1 0 % 4096 → c.get R.OBJ_HOME o = c.node →
        t.m.c.get R.OBJ_REMOTE_REFUSED o = 1) ∧
    (∀ c, Ctl.ctrlIn { s.m.c with out := [] } g x 1 = (c, true) → ctrlFrom x % 64 = c.node →
      exec (.mirrorReceive g x) s = .next (s.withCtl fun _ => c)) ∧
    (∀ c, Ctl.ctrlIn { s.m.c with out := [] } g x 3 = (c, true) →
      exec (.topoReceive g x) s = .next (s.withCtl fun _ => c.ctrlQueue { cell := x })) ∧
    (∀ c flows, Ctl.ctrlIn { s.m.c with out := [] } g x 4 = (c, true) →
      exec (.routeReceive g x flows) s = .next (s.withCtl fun _ => c.ctrlQueue { cell := x, flows := flows })) ∧
    (∀ c (k : BitVec 512), Ctl.ctrlIn { s.m.c with out := [] } g x 5 = (c, true) →
      exec (.exportsReceive g x k) s = .next (s.withCtl fun _ => c.ctrlQueue { cell := x, classes := k.toNat })) ∧
    (∀ c, Ctl.ctrlIn { s.m.c with out := [] } g x 8 = (c, true) →
      exec (.ackReceive g x) s = .next (s.withCtl fun _ => c.ctrlQueue { cell := x })) ∧
    (∀ c, Ctl.ctrlIn { s.m.c with out := [] } g x 6 = (c, true) → ∃ t, exec (.switchReceive g x) s = .next t ∧
      t.m.c.get R.FAB_GEN_NEXT = x.words.getD 1 0 % 2 ^ 16 ∧ t.m.c.get R.FAB_GEN_WIN = x.words.getD 2 0 % 2 ^ 32 ∧ t.m.m = s.m.m) ∧
    (∀ c, Ctl.ctrlIn { s.m.c with out := [] } g x 7 = (c, true) → ∃ t, exec (.tickReceive g x) s = .next t ∧
      t.m.c.fab.tickOrigin = x.words.getD 2 0 ∧ t.m.c.fab.rootTick = x.words.getD 1 0 % 16 ∧
      (x.words.getD 1 0 % 16 ≠ c.get R.WIN_TICK_LEN_ACTIVE → t.m.c.win.tickReq = some (x.words.getD 1 0 % 16) ∧
        t.m.c.win.tickFrom = some (x.words.getD 2 0) ∧ t.m.c.get R.WIN_TICK_PENDING = 1) ∧ t.m.m = s.m.m) ∧
    (∀ c, Ctl.ctrlIn { s.m.c with out := [] } g x 1 = (c, true) → ctrlFrom x % 64 ≠ c.node →
      exec (.mirrorReceive g x) s = .next (s.withCtl fun _ =>
        (c.mirrorTake (ctrlFrom x % 64) ((x.words.drop 2).take 6)).mirrorTake (ctrlFrom x % 64) ((x.words.drop 8).take 6)))

/-- The fabric's membership, routes and windows (R276, R277, R280, R286, R287, R289). A silent root is dropped from the
election, a silent address is free again; the root computes routes for the next generation, and a generation that is due comes
into force; JOIN of a converged module starts windows at the fabric's count, TICK latches a length, and FAB_CFG turns the fabric
on and off. Under conditions on the state and the operands alone it gives the next state of: rootTimeout, routeCompute,
generationSwitch, addressExpiry, fabJoin, fabTick, fabCfgWrite. -/
def Obligations.FabricConfiguration : Prop :=
  ∀ s : State,
    (s.m.c.is R.FAB_CFG_EN = true → s.m.c.is R.FAB_STATUS_ROOT = false → exec .rootTimeout s = .next (s.withCtl fun c =>
      (Ctl.elect { c with fab := { c.fab with nbrs := c.fab.nbrs.filter (fun e => e.2.root != s.m.c.fab.rootIdent) } }).member)) ∧
    (s.m.c.is R.FAB_CFG_EN = false ∨ s.m.c.is R.FAB_STATUS_ROOT = true → exec .rootTimeout s = .next (s.withCtl id)) ∧
    (s.m.c.is R.FAB_STATUS_ROOT = false ∨ s.m.c.get R.FAB_STATUS_STATE ≠ 2 → ∀ subs,
      exec (.routeCompute subs) s = .next (s.withCtl id)) ∧
    (s.m.c.get R.FAB_GEN_NEXT = 0 ∨ later (s.m.c.get R.FAB_GEN_WIN) s.m.c.winNo = true →
      exec .generationSwitch s = .next (s.withCtl id)) ∧
    (∀ n : Fin 64, ∃ t, exec (.addressExpiry n) s = .next t ∧ cget t.m.c.fab.heard n = 0 ∧
      (∀ k, k ≠ n.val → cget t.m.c.fab.heard k = cget s.m.c.fab.heard k) ∧ t.m.m = s.m.m) ∧
    (∀ subs, s.m.c.is R.FAB_STATUS_ROOT = true → s.m.c.get R.FAB_STATUS_STATE = 2 →
      ∃ t, exec (.routeCompute subs) s = .next t ∧ t.m.c.fab.acks = [] ∧ t.m.c.fab.acked = true ∧ t.m.m = s.m.m ∧
        t.m.c.fab.rootGen = (if (s.m.c.get R.FAB_GEN_GEN + 1) % 65536 = 0 then 1 else (s.m.c.get R.FAB_GEN_GEN + 1) % 65536)) ∧
    (s.m.c.get R.FAB_GEN_NEXT ≠ 0 → later (s.m.c.get R.FAB_GEN_WIN) s.m.c.winNo = false →
      ∃ t, exec .generationSwitch s = .next t ∧ t.m.c.get R.FAB_GEN_GEN = s.m.c.get R.FAB_GEN_NEXT % 2 ^ 16 ∧
        t.m.c.get R.FAB_GEN_NEXT = 0 ∧ t.m.c.fab.flows = s.m.c.fab.pendFlows ∧ t.m.c.fab.pendRoutes = [] ∧ t.m.m = s.m.m) ∧
    (s.m.c.is R.WIN_STATUS_RUN = false → s.m.c.fabConverged = true → ∃ t, exec .fabJoin s = .next t ∧
      t.m.c.get R.WIN_STATUS_RUN = 1 ∧ t.m.c.win.ext = s.m.c.joinWindow ∧ t.m.c.win.awaiting = true ∧
      t.m.c.get R.WIN_COUNT = s.m.c.joinWindow % 2 ^ 32 ∧
      t.m.c.get R.WIN_TICK_LEN_ACTIVE = s.m.c.fab.rootTick % 2 ^ R.WIN_TICK_LEN_ACTIVE.width ∧ t.m.m = s.m.m) ∧
    (s.m.c.is R.WIN_STATUS_RUN = true ∨ s.m.c.fabConverged = false → exec .fabJoin s = .next (s.withCtl Ctl.fabState)) ∧
    (∀ len : BitVec 4, s.m.c.is R.FAB_STATUS_ROOT = true → s.m.c.fabConverged = true → ∃ t, exec (.fabTick len) s = .next t ∧
      t.m.c.fab.rootTick = len.toNat ∧ t.m.c.fab.tickOrigin = s.m.c.tickAt (winAdd s.m.c.winNo 16) ∧ t.m.m = s.m.m) ∧
    (∀ len : BitVec 4, s.m.c.is R.FAB_STATUS_ROOT = false ∨ s.m.c.fabConverged = false → exec (.fabTick len) s = .next (s.withCtl Ctl.fabState)) ∧
    (∀ d : BitVec 32, R.FAB_CFG_GATE_EN.of d.toNat = s.m.c.get R.FAB_CFG_GATE_EN →
      (s.m.c.is R.FAB_CFG_EN = false → R.FAB_CFG_EN.of d.toNat = 1 → ∃ t, exec (.fabCfgWrite d) s = .next t ∧
        t.m.c.get R.FAB_CFG_EN = 1 ∧ t.m.c.get R.FAB_STATUS_STATE = 1 ∧
        t.m.c.get R.FAB_CFG_NODE_REQ = R.FAB_CFG_NODE_REQ.of d.toNat ∧ t.m.c.get R.FAB_CFG_ANY = R.FAB_CFG_ANY.of d.toNat ∧
        t.m.c.get R.FAB_CFG_PRIO = R.FAB_CFG_PRIO.of d.toNat ∧ t.m.m = s.m.m) ∧
      (s.m.c.is R.FAB_CFG_EN = true → R.FAB_CFG_EN.of d.toNat = 0 → s.m.c.armed = false →
        s.m.c.changes [R.FAB_CFG_NODE_REQ, R.FAB_CFG_ANY, R.FAB_CFG_PRIO] 0 d.toNat = false →
        ∃ t, exec (.fabCfgWrite d) s = .next t ∧ t.m.c.get R.FAB_CFG_EN = 0 ∧ t.m.c.get R.FAB_STATUS_STATE = 0 ∧
          t.m.c.fab.nbrs = [] ∧ t.m.c.fab.heard = [] ∧ t.m.m = s.m.m)) ∧
    (∀ d : BitVec 32, s.m.c.is R.FAB_CFG_EN = true → s.m.c.changes [R.FAB_CFG_NODE_REQ, R.FAB_CFG_ANY, R.FAB_CFG_PRIO] 0 d.toNat = true ∨
        (R.FAB_CFG_EN.of d.toNat = 0 ∧ s.m.c.armed = true) →
      exec (.fabCfgWrite d) s = .next (s.withCtl Ctl.fabState))

/-- Network ports (R292 to R299, R308). A link change is shown, and a lost one empties what waited; a pluggable that over-draws
or does not answer keeps its link down; NET_CFG is stored, or refused with RANGE or STATE; a frame in error is counted and
dropped, a good one is counted and taken; a transmit opportunity sends a PTP message first, then a stream packet, then the host
ring; pause, verification, the statistics clear and the launch reports as their rules say. Under conditions on the state and the
operands alone it gives the next state of: netLinkChange, netCfgWrite, frameReceive, frameTxOpportunity, pauseExpiry,
preemptVerifyAttempt, netLrepPop, netVerify, netStatClr. -/
def Obligations.NetworkPorts : Prop :=
  ∀ (s : State) (p : Fin 4),
    (∀ mw : Nat, mw ≤ 1000 → s.m.c.is R.NET_CFG_EN p = true → s.m.c.is R.NET_STATUS_LINK_UP p = false →
      ∃ t, exec (.netLinkChange ⟨p, some mw⟩ true) s = .next t ∧
      t.m.c.get R.NET_STATUS_LINK_UP p = 1 ∧ t.m.c.get R.NET_STATUS_LINK_SEEN p = 1 ∧
      t.m.c.get R.NET_STATUS_RATE_UP p = s.m.c.get R.NET_CFG_RATE p % 2 ^ R.NET_STATUS_RATE_UP.width ∧ t.m.m = s.m.m) ∧
    (∀ (up : Bool) (plug : Option Nat), p.val < 2 → (∀ mw, plug = some mw → 1000 < mw) →
      ∃ t, exec (.netLinkChange ⟨p, plug⟩ up) s = .next t ∧ p.val ∈ t.m.c.net.held ∧
        (s.m.c.is R.NET_STATUS_LINK_UP p = false ∨ p.val ∉ s.m.c.net.held → t.m.c.is R.NET_STATUS_LINK_UP p = false)) ∧
    (∀ mw : Nat, mw ≤ 1000 → s.m.c.is R.NET_STATUS_LINK_UP p = true → ∃ t, exec (.netLinkChange ⟨p, some mw⟩ false) s = .next t ∧
      t.m.c.get R.NET_STATUS_LINK_UP p = 0 ∧ t.m.c.get R.NET_STATUS_PAUSED p = 0 ∧ (t.m.c.port p).pkts = [] ∧
      (t.m.c.port p).ptp = [] ∧ (s.m.c.dramDown = true → t.m.m = s.m.m)) ∧
    (∀ d : BitVec 32,
      (inRange netCfgFields d.toNat = false → ∃ t, exec (.netCfgWrite p d) s = .next t ∧ t.m.c.get R.NET_STATUS_LAST p = 2 ∧
        s.m.c.sameRegsBut t.m.c [R.NET_STATUS_LAST] ∧ t.m.m = s.m.m) ∧
      (inRange netCfgFields d.toNat = true → rateOk p (R.NET_CFG_RATE.of d.toNat) = true →
        (p.val < 2 ∨ R.NET_CFG_PREEMPT_EN.of d.toNat = 0) →
        (s.m.c.is R.NET_CFG_EN p = true → s.m.c.changes netLocked p d.toNat = true → ∃ t, exec (.netCfgWrite p d) s = .next t ∧
          t.m.c.get R.NET_STATUS_LAST p = 1 ∧ s.m.c.sameRegsBut t.m.c ([R.NET_STATUS_LAST, R.NET_STATUS_ERR_STATE] ++ evtFields) ∧
          t.m.m = s.m.m) ∧
        ((s.m.c.is R.NET_CFG_EN p = false ∧ R.NET_CFG_EN.of d.toNat = 0 ∧ s.m.c.is R.NET_STATUS_LINK_UP p = false) ∨
            (s.m.c.is R.NET_CFG_EN p = true ∧ R.NET_CFG_EN.of d.toNat = 1 ∧ s.m.c.changes netLocked p d.toNat = false) →
          exec (.netCfgWrite p d) s = .next (s.withCtl fun c => (c.store netCfgFields p d.toNat).ledgShow.netStatus p 0)) ∧
        (s.m.c.is R.NET_CFG_EN p = false → R.NET_CFG_EN.of d.toNat = 1 → exec (.netCfgWrite p d) s = .next (s.withCtl fun c =>
          let q := c.enableBlock (·.store netCfgFields p d.toNat)
          q.1.netStatus p q.2)) ∧
        (s.m.c.is R.NET_CFG_EN p = true → R.NET_CFG_EN.of d.toNat = 0 → s.m.c.changes netLocked p d.toNat = false →
          ∃ t, exec (.netCfgWrite p d) s = .next t ∧ t.m.c.get R.NET_CFG_EN p = 0 ∧ t.m.c.is R.NET_STATUS_LINK_UP p = false ∧
            t.m.c.get R.NET_STATUS_LAST p = 0))) ∧
    (∀ (f : List Byte) (i : RxInfo), s.m.c.is R.NET_CFG_EN p = true → s.m.c.is R.NET_STATUS_LINK_UP p = true →
      (i.verify = false ∨ 2 ≤ p.val) →
      (f.length < 60 → exec (.frameReceive p f i) s =
        .next (s.withCtl (·.rxError p (if i.fcsOk = true ∧ 4 ≤ f.length then 2 else 3)))) ∧
      (60 ≤ f.length → s.m.c.get R.NET_CFG_MAXLEN p < f.length + 4 →
        exec (.frameReceive p f i) s = .next (s.withCtl (·.rxError p 4))) ∧
      (60 ≤ f.length → f.length + 4 ≤ s.m.c.get R.NET_CFG_MAXLEN p → i.fcsOk = false →
        exec (.frameReceive p f i) s = .next (s.withCtl (·.rxError p 5))) ∧
      (60 ≤ f.length → f.length + 4 ≤ s.m.c.get R.NET_CFG_MAXLEN p → i.fcsOk = true → i.asmOk = true → i.frags = 0 →
        exec (.frameReceive p f i) s = .next (s.withMach fun x =>
          Mach.rxGood { x with c := (x.c.netStat p 1 (f.length + 4)).netStat p 13 } p f i))) ∧
    (∀ (f : List Byte) (i : RxInfo),
      (s.m.c.is R.NET_CFG_EN p = false ∨ s.m.c.is R.NET_STATUS_LINK_UP p = false →
        exec (.frameReceive p f i) s = .next (s.withMach id)) ∧
      (s.m.c.is R.NET_CFG_EN p = true → s.m.c.is R.NET_STATUS_LINK_UP p = true → i.verify = true → p.val < 2 →
        exec (.frameReceive p f i) s = .next (s.withCtl (·.netStat p 7)))) ∧
    (∀ n, n < 24 → (s.m.c.rxError p n).get R.NET_STAT (24 * p + n) = (s.m.c.get R.NET_STAT (24 * p + n) + 1) % 2 ^ 32 ∧
      (s.m.c.rxError p n).get R.NET_STATUS_RX_ERR_SEEN p = 1) ∧
    (∀ frags : Nat,
      (s.m.c.is R.NET_STATUS_LINK_UP p = false ∨ s.m.c.is R.NET_STATUS_PAUSED p = true →
        exec (.frameTxOpportunity p frags) s = .next (s.withMach id)) ∧
      (s.m.c.is R.NET_STATUS_LINK_UP p = true → s.m.c.is R.NET_STATUS_PAUSED p = false →
        (∀ m ms, (s.m.c.port p).ptp = m :: ms → ∃ t w, exec (.frameTxOpportunity p frags) s = .next t ∧
          .netFrame p 1 w ∈ t.m.c.out ∧ (t.m.c.port p).ptp = ms ∧ t.m.m = s.m.m) ∧
        ((s.m.c.port p).ptp = [] → (Ctl.txStreams { s.m.c with out := [] } p frags [0, 1, 2, 3]).2 = true →
          exec (.frameTxOpportunity p frags) s = .next (s.withCtl fun c => (Ctl.txStreams c p frags [0, 1, 2, 3]).1)) ∧
        (∀ c, (s.m.c.port p).ptp = [] → Ctl.txStreams { s.m.c with out := [] } p frags [0, 1, 2, 3] = (c, false) →
          c.dmaOk (c.descAt p 1 0) (32 * 2 ^ c.get R.NET_RING_SIZE (2 * p.val + 1)) = true →
          exec (.frameTxOpportunity p frags) s = .next (s.withMach fun x => Mach.txHost p frags (c.ringCount p 1) { x with c := c })) ∧
        (∀ c, (s.m.c.port p).ptp = [] → Ctl.txStreams { s.m.c with out := [] } p frags [0, 1, 2, 3] = (c, false) →
          c.dmaOk (c.descAt p 1 0) (32 * 2 ^ c.get R.NET_RING_SIZE (2 * p.val + 1)) = false →
          exec (.frameTxOpportunity p frags) s = .next (s.withCtl fun _ => c)))) ∧
    (s.m.c.is R.NET_STATUS_PAUSED p = false → exec (.pauseExpiry p) s = .next (s.withCtl id)) ∧
    (s.m.c.get R.NET_STATUS_PREEMPT p ≠ 1 → ∀ ok, exec (.preemptVerifyAttempt p ok) s = .next (s.withCtl id)) ∧
    ((s.m.c.port p).reports = [] → exec (.netLrepPop p) s = .next (s.withCtl id)) ∧
    (s.m.c.is R.NET_STATUS_PAUSED p = true → ∃ t, exec (.pauseExpiry p) s = .next t ∧ t.m.c.get R.NET_STATUS_PAUSED p = 0 ∧
      t.m.c.get R.NET_PAUSE_QUANTA p = 0 ∧ s.m.c.sameRegsBut t.m.c [R.NET_STATUS_PAUSED, R.NET_PAUSE_QUANTA] ∧ t.m.m = s.m.m) ∧
    (s.m.c.get R.NET_STATUS_PREEMPT p = 1 →
      (∃ t, exec (.preemptVerifyAttempt p true) s = .next t ∧ t.m.c.get R.NET_STATUS_PREEMPT p = 2 ∧ t.m.m = s.m.m) ∧
      ((s.m.c.port p).tries < 2 → ∃ t, exec (.preemptVerifyAttempt p false) s = .next t ∧
        (t.m.c.port p).tries = (s.m.c.port p).tries + 1 ∧ t.m.c.regs = s.m.c.regs ∧ t.m.m = s.m.m) ∧
      (2 ≤ (s.m.c.port p).tries → ∃ t, exec (.preemptVerifyAttempt p false) s = .next t ∧ t.m.c.get R.NET_STATUS_PREEMPT p = 3 ∧
        t.m.m = s.m.m)) ∧
    (s.m.c.is R.NET_CFG_PREEMPT_EN p = true → s.m.c.is R.NET_STATUS_LINK_UP p = true → ∃ t, exec (.netVerify p) s = .next t ∧
      t.m.c.get R.NET_STATUS_PREEMPT p = 1 ∧ (t.m.c.port p).tries = 0 ∧ t.m.c.get R.NET_STATUS_LAST p = 0 ∧ t.m.m = s.m.m) ∧
    (s.m.c.is R.NET_STATUS_LINK_UP p = false → ∃ t, exec (.netVerify p) s = .next t ∧ t.m.c.get R.NET_STATUS_LAST p = 1 ∧
      t.m.c.get R.NET_STATUS_ERR_STATE p = 1 ∧ t.m.m = s.m.m) ∧
    (∃ t, exec (.netStatClr p) s = .next t ∧ (∀ n < 24, t.m.c.get R.NET_STAT (24 * p + n) = 0) ∧ t.m.c.get R.NET_STAT_HALF p = 0 ∧
      s.m.c.sameRegsBut t.m.c [R.NET_STAT, R.NET_STAT_HALF] ∧ t.m.m = s.m.m) ∧
    (∀ r q, (s.m.c.port p).reports = r :: q → ∃ t, exec (.netLrepPop p) s = .next t ∧ (t.m.c.port p).reports = q ∧
      t.m.c.get R.NET_LREP_STAT_DEPTH p = q.length % 2 ^ R.NET_LREP_STAT_DEPTH.width ∧ t.m.m = s.m.m)

/-- Streams and time (R300, R302, R303, R310, R312, R315, R316, R318). A stream that is enabled with a good configuration waits
for its first packet, one that is disabled is IDLE; a stalled stream is shown; a packet of a transmit stream takes the samples
of one packet time; TIME_ADJ steps the time while windows are stopped, and a read of TIME_NOW latches its high half. Under
conditions on the state and the operands alone it gives the next state of: ptpMessageSend, ptpAnnounceTimeout, streamStall,
rxStreamEnable, txStreamEnable, txPacketize, timeAdjWrite, timeNowRead. -/
def Obligations.StreamsAndTime : Prop :=
  ∀ s : State,
    (∀ (p : Fin 4) (m : PtpMsg), s.m.c.is R.TIME_PTP_PORT_EN p = true → s.m.c.is R.NET_STATUS_LINK_UP p = true →
      ∃ t, exec (.ptpMessageSend p m) s = .next t ∧ (t.m.c.port p).ptp = (s.m.c.port p).ptp ++ [m] ∧
        t.m.c.regs = s.m.c.regs ∧ t.m.m = s.m.m) ∧
    (∀ p : Fin 4, s.m.c.is R.TIME_PTP_PORT_EN p = false →
      (∀ m, exec (.ptpMessageSend p m) s = .next (s.withCtl id)) ∧ (∀ st, exec (.ptpAnnounceTimeout p st) s = .next (s.withCtl id))) ∧
    (∀ (p : Fin 4) (st : Fin 10), s.m.c.is R.TIME_PTP_PORT_EN p = true → ∃ t, exec (.ptpAnnounceTimeout p st) s = .next t ∧
      t.m.c.get R.TIME_PTP_PORT_STATE p = st ∧ (s.m.c.get R.TIME_PTP_PORT_STATE p = 9 → t.m.c.get R.TIME_STATUS_MASTER_SEEN = 1) ∧
      t.m.m = s.m.m) ∧
    (∀ n : Fin 64, (s.m.c.get R.NET_RXS_STAT_STATE n = 1 ∨ (s.m.c.get R.NET_RXS_STAT_STATE n = 2 ∧ (s.m.c.rx n).gap ≠ 0) →
        ∃ t, exec (.streamStall n) s = .next t ∧ t.m.c.get R.NET_RXS_STAT_STATE n = 3 ∧ t.m.m = s.m.m) ∧
      (s.m.c.get R.NET_RXS_STAT_STATE n = 0 ∨ s.m.c.get R.NET_RXS_STAT_STATE n = 3 ∨
          (s.m.c.get R.NET_RXS_STAT_STATE n = 2 ∧ (s.m.c.rx n).gap = 0) → exec (.streamStall n) s = .next (s.withCtl id))) ∧
    (∀ (n : Fin 64) (d : BitVec 32),
      (rangeAt (rxsAt n) d.toNat = false → exec (.rxStreamEnable n d) s = .next (s.withCtl fun c => c.netStatus
        (if s.m.c.is R.NET_RXS_EN n then s.m.c.get R.NET_RXS_PORT n else R.NET_RXS_PORT.of d.toNat) 2)) ∧
      (rangeAt (rxsAt n) d.toNat = true → s.m.c.is R.NET_RXS_EN n = true → R.NET_RXS_EN.of d.toNat = 1 →
        s.m.c.changesAt (rxsAt n) d.toNat = true →
        exec (.rxStreamEnable n d) s = .next (s.withCtl (·.netStatus (s.m.c.get R.NET_RXS_PORT n) 1))) ∧
      (rangeAt (rxsAt n) d.toNat = true → s.m.c.is R.NET_RXS_EN n = false → R.NET_RXS_EN.of d.toNat = 1 → s.m.c.rxCheck n d.toNat ≠ 0 →
        exec (.rxStreamEnable n d) s = .next (s.withCtl (·.netStatus (R.NET_RXS_PORT.of d.toNat) (s.m.c.rxCheck n d.toNat)))) ∧
      (rangeAt (rxsAt n) d.toNat = true → s.m.c.is R.NET_RXS_EN n = false → R.NET_RXS_EN.of d.toNat = 0 →
        exec (.rxStreamEnable n d) s = .next (s.withCtl fun c => (c.storeAt (rxsAt n) d.toNat).netStatus (R.NET_RXS_PORT.of d.toNat) 0)) ∧
      (rangeAt (rxsAt n) d.toNat = true → s.m.c.is R.NET_RXS_EN n = false → R.NET_RXS_EN.of d.toNat = 1 →
        s.m.c.rxCheck n d.toNat = 0 → ∃ t, exec (.rxStreamEnable n d) s = .next t ∧ t.m.c.get R.NET_RXS_EN n = 1 ∧
          t.m.c.get R.NET_RXS_STAT_STATE n = 1 ∧ t.m.c.rx n = { since := s.m.c.time } ∧
          t.m.c.get R.NET_STATUS_LAST (R.NET_RXS_PORT.of d.toNat) = 0 ∧ t.m.m = s.m.m) ∧
      (rangeAt (rxsAt n) d.toNat = true → s.m.c.is R.NET_RXS_EN n = true → R.NET_RXS_EN.of d.toNat = 0 →
        s.m.c.changesAt (rxsAt n) (d.toNat + 1) = false → ∃ t, exec (.rxStreamEnable n d) s = .next t ∧
          t.m.c.get R.NET_RXS_EN n = 0 ∧ t.m.c.get R.NET_RXS_STAT_STATE n = 0 ∧ kget? t.m.c.net.rx n = none ∧ t.m.m = s.m.m)) ∧
    (∀ (n : Fin 64) (d : BitVec 32),
      (rangeAt (txsAt n) d.toNat = false → exec (.txStreamEnable n d) s = .next (s.withCtl fun c => c.netStatus
        (if s.m.c.is R.NET_TXS_EN n then s.m.c.get R.NET_TXS_PORT n else R.NET_TXS_PORT.of d.toNat) 2)) ∧
      (rangeAt (txsAt n) d.toNat = true → s.m.c.is R.NET_TXS_EN n = true → R.NET_TXS_EN.of d.toNat = 1 →
        s.m.c.changesAt (txsAt n) d.toNat = true →
        exec (.txStreamEnable n d) s = .next (s.withCtl (·.netStatus (s.m.c.get R.NET_TXS_PORT n) 1))) ∧
      (rangeAt (txsAt n) d.toNat = true → s.m.c.is R.NET_TXS_EN n = false → R.NET_TXS_EN.of d.toNat = 1 →
        s.m.c.txCheck n d.toNat = 0 → ∃ t, exec (.txStreamEnable n d) s = .next t ∧ t.m.c.get R.NET_TXS_EN n = 1 ∧
          (t.m.c.tx n).pend = [] ∧ (t.m.c.tx n).slot = (s.m.c.win.ext + 1) * s.m.c.winSamples ∧
          t.m.c.get R.NET_STATUS_LAST (R.NET_TXS_PORT.of d.toNat) = 0 ∧ t.m.m = s.m.m) ∧
      (rangeAt (txsAt n) d.toNat = true → s.m.c.is R.NET_TXS_EN n = true → R.NET_TXS_EN.of d.toNat = 0 →
        s.m.c.changesAt (txsAt n) (d.toNat + 1) = false → ∃ t, exec (.txStreamEnable n d) s = .next t ∧
          t.m.c.get R.NET_TXS_EN n = 0 ∧ kget? t.m.c.net.tx n = none ∧ t.m.m = s.m.m)) ∧
    (∀ (n : Fin 64) k, k = s.m.c.perPacket (s.m.c.get R.NET_TXS_PTIME n) → s.m.c.is R.NET_TXS_EN n = true →
      s.m.c.is R.WIN_STATUS_RUN = true → s.m.c.win.awaiting = false → k ≤ (s.m.c.tx n).pend.length + ((s.m.c.txBlock n).drop (s.m.c.tx n).skip).length →
      ∃ t, exec (.txPacketize n) s = .next t ∧ (t.m.c.tx n).slot = (s.m.c.tx n).slot + k ∧
        (t.m.c.tx n).seq = ((s.m.c.tx n).seq + 1) % 65536 ∧ (t.m.c.tx n).pend = (s.m.c.tx n).pend.drop k ∧
        (t.m.c.tx n).skip = (s.m.c.tx n).skip + (k - (s.m.c.tx n).pend.length) ∧ t.m.c.regs = s.m.c.regs ∧ t.m.m = s.m.m ∧
        (s.m.c.get R.HNG_STATUS_ROLE ≠ 3 → s.m.c.is R.NET_STATUS_LINK_UP (s.m.c.get R.NET_TXS_PORT n) = true →
          ∃ w, (t.m.c.port (s.m.c.get R.NET_TXS_PORT n)).pkts = (s.m.c.port (s.m.c.get R.NET_TXS_PORT n)).pkts ++ [w] ∧
            w.idx = (n : Nat) ∧ w.cls = s.m.c.get R.NET_TXS_CLASS n)) ∧
    (∀ n : Fin 64, s.m.c.is R.NET_TXS_EN n = false ∨ s.m.c.is R.WIN_STATUS_RUN = false ∨ s.m.c.win.awaiting = true →
      exec (.txPacketize n) s = .next (s.withCtl id)) ∧
    (∀ d : BitVec 32,
      (s.m.c.is R.TIME_CTRL_SERVO_EN = false → s.m.c.is R.WIN_STATUS_RUN = false → ∃ t, exec (.timeAdjWrite d) s = .next t ∧
        (t.m.c.time : Int) = ((s.m.c.time : Int) + d.toInt) % 2 ^ 64 ∧ t.m.c.get R.TIME_STATUS_LAST = 0 ∧
        s.m.c.sameRegsBut t.m.c [R.TIME_STATUS_LAST] ∧ t.m.m = s.m.m) ∧
      (s.m.c.is R.TIME_CTRL_SERVO_EN = true ∨ s.m.c.is R.WIN_STATUS_RUN = true → ∃ t, exec (.timeAdjWrite d) s = .next t ∧
        t.m.c.time = s.m.c.time ∧ t.m.c.get R.TIME_STATUS_LAST = 1 ∧ t.m.m = s.m.m)) ∧
    (∃ t, exec .timeNowRead s = .next t ∧ t.m.c.out = [.readData (s.m.c.time % 2 ^ 32)] ∧
      t.m.c.get R.TIME_NOW_HI = s.m.c.time / 2 ^ 32 % 2 ^ 32 ∧ s.m.c.sameRegsBut t.m.c [R.TIME_NOW_HI] ∧ t.m.m = s.m.m)

/-- Audio ports (R321, R322, R326, R328, R331, R332). A good frame counts and a bad one breaks the run of good ones; a converter
locks after 48 good frames; a slave port whose clocks are lost says so; a frame goes out with its samples; an emergency
microphone's supervision follows the line after 500 ms; the output map changes at a boundary; a slot stages one sample of each
port that is on. Under conditions on the state and the operands alone it gives the next state of: audioFrameReceive,
srcConverterLock, tdmFsyncLoss, audioFrameSend, emicSupervisionMeasure, stagingSlot, outmapApply. -/
def Obligations.AudioPorts : Prop :=
  ∀ s : State,
    (∀ (p : Fin 14) (f : AudFrame), s.m.c.audOn p = true →
      ((f.good = true ∨ (10 ≤ p.val ∧ s.m.c.is R.AUD_TDM_SLAVE (p - 10) = false)) → ∃ t, exec (.audioFrameReceive p f) s = .next t ∧
        (t.m.c.audIn p).frames = (s.m.c.audIn p).frames + 1 ∧ t.m.m = s.m.m) ∧
      (f.good = false → (p.val < 10 ∨ s.m.c.is R.AUD_TDM_SLAVE (p - 10) = true) → ∃ t, exec (.audioFrameReceive p f) s = .next t ∧ (t.m.c.audIn p).good = 0 ∧
        t.m.c.get (inReg p R.AUD_AES_IN_BAD R.AUD_MADI_IN_BAD R.AUD_TDM_BAD).1
            (inReg p R.AUD_AES_IN_BAD R.AUD_MADI_IN_BAD R.AUD_TDM_BAD).2 =
          (s.m.c.get (inReg p R.AUD_AES_IN_BAD R.AUD_MADI_IN_BAD R.AUD_TDM_BAD).1
            (inReg p R.AUD_AES_IN_BAD R.AUD_MADI_IN_BAD R.AUD_TDM_BAD).2 + 1) %
            2 ^ (inReg p R.AUD_AES_IN_BAD R.AUD_MADI_IN_BAD R.AUD_TDM_BAD).1.width ∧ t.m.m = s.m.m)) ∧
    (∀ (p : Fin 14) (f : AudFrame), s.m.c.audOn p = false → exec (.audioFrameReceive p f) s = .next (s.withCtl id)) ∧
    (∀ i : Fin 8, s.m.c.audOn i = false ∨ s.m.c.srcMode i = false ∨ (s.m.c.audIn i).good < 48 →
      exec (.srcConverterLock i) s = .next (s.withCtl id)) ∧
    (∀ i : Fin 4, s.m.c.audOn (i + 10) = false ∨ s.m.c.is R.AUD_TDM_SLAVE i = false →
      exec (.tdmFsyncLoss i) s = .next (s.withCtl id)) ∧
    (∀ p : Fin 15, s.m.c.audOn p = false ∨ s.m.c.is R.WIN_STATUS_RUN = false ∨ s.m.c.winSamples ≤ cget s.m.c.aud.sent p →
      exec (.audioFrameSend p) s = .next (s.withCtl id)) ∧
    (∀ (i : Fin 2) (ohms : Nat), s.m.c.is R.AUD_ANA_SUP_EN i = false →
      exec (.emicSupervisionMeasure i ohms) s = .next (s.withCtl id)) ∧
    (s.m.c.is R.WIN_STATUS_RUN = false → ∀ samples, exec (.stagingSlot samples) s = .next (s.withCtl id)) ∧
    (∀ i : Fin 8, s.m.c.audOn i = true → s.m.c.srcMode i = true → s.m.c.is R.AUD_AES_IN_SRC_LOCK i = false →
      48 ≤ (s.m.c.audIn i).good → ∃ t, exec (.srcConverterLock i) s = .next t ∧ t.m.c.get R.AUD_AES_IN_SRC_LOCK i = 1 ∧
        t.m.m = s.m.m) ∧
    (∀ i : Fin 4, s.m.c.audOn (i + 10) = true → s.m.c.is R.AUD_TDM_SLAVE i = true → ∃ t, exec (.tdmFsyncLoss i) s = .next t ∧
      (t.m.c.audIn (i + 10)).clkLost = true ∧ (t.m.c.audIn (i + 10)).good = 0 ∧ t.m.m = s.m.m) ∧
    (∀ (p : Fin 15) k, k = cget s.m.c.aud.sent p → s.m.c.audOn p = true → s.m.c.is R.WIN_STATUS_RUN = true → k < s.m.c.winSamples →
      ∃ t, exec (.audioFrameSend p) s = .next t ∧ cget t.m.c.aud.sent p = k + 1 ∧ t.m.m = s.m.m ∧
        .audio (outFirst p) ((List.range (if p = 14 then 2 else s.m.c.audChans p)).map (fun ch =>
          (s.m.c.outPlay (outFirst p + ch)).getD k 0 / 256)) ∈ t.m.c.out) ∧
    (∀ (i : Fin 2) (ohms raw held : Nat), s.m.c.is R.AUD_ANA_SUP_EN i = true →
      raw = (if ohms < 20 then 3 else if ohms ≤ 5000 then 1 else 2) →
      held = (if (kgetD s.m.c.aud.sup i {}).raw = raw then (kgetD s.m.c.aud.sup i {}).heldMs + 10 else 0) →
      ∃ t, exec (.emicSupervisionMeasure i ohms) s = .next t ∧ kget? t.m.c.aud.sup i = some ⟨raw, min 500 held⟩ ∧
        t.m.c.get R.AUD_ANA_SUP i = (if 500 ≤ held then raw else s.m.c.get R.AUD_ANA_SUP i) ∧
        s.m.c.sameRegsBut t.m.c ([R.AUD_ANA_SUP, R.AUD_STATUS_EMIC_SEEN] ++ evtFields) ∧ t.m.m = s.m.m) ∧
    (∃ t, exec .outmapApply s = .next t ∧ t.m.c.aud.mapPend = [] ∧ s.m.c.sameRegsBut t.m.c evtFields ∧ t.m.m = s.m.m ∧
      (∀ ch ∈ s.m.c.aud.mapPend, kget? t.m.c.aud.map ch = some (s.m.c.get R.AUD_OUTMAP_KIND ch, s.m.c.get R.AUD_OUTMAP_INDEX ch)) ∧
      (∀ ch, ch ∉ s.m.c.aud.mapPend → kget? t.m.c.aud.map ch = kget? s.m.c.aud.map ch)) ∧
    (∀ samples : List (BitVec 24), s.m.c.is R.WIN_STATUS_RUN = true → ∃ t, exec (.stagingSlot samples) s = .next t ∧
      t.m.c.aud.slot = s.m.c.aud.slot + 1 ∧ t.m.m = s.m.m ∧
      ∀ p < 14, s.m.c.audOn p = true → (t.m.c.audIn p).cur.length = (s.m.c.audIn p).cur.length + 1)

/-- Amplifier links (R334, R338, R344, R345, R348). An enabled link sends a frame in its turn; a bad back-channel frame is
counted and the eighth in a row degrades a link that is up, the 48th good one brings a link up; a lost comma degrades it; an
absent amplifier is no longer present; AMP_CTRL enables and disables links, and refuses to disable one with an open shutter; a
message waits for its frame. Under conditions on the state and the operands alone it gives the next state of: downlinkFrameSend,
backchannelFrameReceive, backchannelCommaLoss, ampAddressAbsent, ampCtrlWrite, ampMsgSend. -/
def Obligations.AmplifierLinks : Prop :=
  ∀ (s : State) (l : Fin 8),
    (s.m.c.get R.AMP_LINK_STATE l ≠ 0 → ∃ t w, exec (.downlinkFrameSend l) s = .next t ∧ .downlink l (0xBC :: w) ∈ t.m.c.out ∧
      cget t.m.c.amp.sent l = cget s.m.c.amp.sent l % s.m.c.winSamples + 1 ∧ t.m.c.get R.AMP_MSG_TX_BUSY l = 0 ∧ t.m.m = s.m.m) ∧
    (s.m.c.get R.AMP_LINK_STATE l = 0 → exec (.downlinkFrameSend l) s = .next (s.withMach id) ∧
      ∀ v b, exec (.backchannelFrameReceive l v b) s = .next (s.withCtl id)) ∧
    (s.m.c.get R.AMP_LINK_STATE l ≠ 2 → exec (.backchannelCommaLoss l) s = .next (s.withCtl id)) ∧
    (∀ (v : Bool) (b : List Byte), s.m.c.get R.AMP_LINK_STATE l ≠ 0 →
      (v = true ∨ b.length ≠ 63 ∨ crc16 (b.take 61) ≠ leVal (b.drop 61) → ∃ t, exec (.backchannelFrameReceive l v b) s = .next t ∧
        t.m.c.get R.AMP_LINK_BCH_BAD l = (s.m.c.get R.AMP_LINK_BCH_BAD l + 1) % 2 ^ R.AMP_LINK_BCH_BAD.width ∧
        cget t.m.c.amp.good l = 0 ∧ t.m.m = s.m.m ∧
        (s.m.c.get R.AMP_LINK_STATE l = 2 → t.m.c.get R.AMP_LINK_STATE l = (if 8 ≤ cget s.m.c.amp.bad l + 1 then 3 else 2))) ∧
      (v = false → b.length = 63 → crc16 (b.take 61) = leVal (b.drop 61) →
        ∃ t, exec (.backchannelFrameReceive l v b) s = .next t ∧ cget t.m.c.amp.bad l = 0 ∧ t.m.m = s.m.m ∧
          t.m.c.get R.AMP_LINK_STATE l =
            (if 47 ≤ cget s.m.c.amp.good l then 2 else s.m.c.get R.AMP_LINK_STATE l))) ∧
    (s.m.c.get R.AMP_LINK_STATE l = 2 → ∃ t, exec (.backchannelCommaLoss l) s = .next t ∧ t.m.c.get R.AMP_LINK_STATE l = 3 ∧
      cget t.m.c.amp.good l = 0 ∧ s.m.c.sameRegsBut t.m.c ([R.AMP_LINK_STATE, R.AMP_STATUS_LINK_SEEN] ++ evtFields) ∧
      t.m.m = s.m.m) ∧
    (∀ a : Fin 32, s.m.c.ampPresent l a = true → ∃ t, exec (.ampAddressAbsent l a) s = .next t ∧ t.m.c.ampPresent l a = false ∧
      (∀ b : Fin 32, b ≠ a → t.m.c.ampPresent l b = s.m.c.ampPresent l b) ∧ t.m.c.get R.AMP_STATUS_PRESENT_SEEN = 1 ∧ t.m.m = s.m.m) ∧
    (∀ a : Fin 32, s.m.c.ampPresent l a = false → exec (.ampAddressAbsent l a) s = .next (s.withCtl id)) ∧
    (∀ d : BitVec 32,
      ((∃ k < 8, bit (s.m.c.get R.AMP_CTRL_EN) k = true ∧ bit d.toNat k = false ∧ s.m.c.linkOpen k = true) →
        ∃ t, exec (.ampCtrlWrite d) s = .next t ∧ t.m.c.get R.AMP_STATUS_LAST = 1 ∧
          t.m.c.get R.AMP_CTRL_EN = s.m.c.get R.AMP_CTRL_EN ∧ t.m.m = s.m.m) ∧
      ((∀ k < 8, bit d.toNat k = true → bit (s.m.c.get R.AMP_CTRL_EN) k = true) →
        (∀ k < 8, bit (s.m.c.get R.AMP_CTRL_EN) k = true → bit d.toNat k = false → s.m.c.linkOpen k = false) →
        ∃ t, exec (.ampCtrlWrite d) s = .next t ∧ t.m.c.get R.AMP_STATUS_LAST = 0 ∧
          t.m.c.get R.AMP_CTRL_EN = R.AMP_CTRL_EN.of d.toNat ∧ t.m.m = s.m.m ∧
          ∀ k < 8, bit (s.m.c.get R.AMP_CTRL_EN) k = true → bit d.toNat k = false → t.m.c.get R.AMP_LINK_STATE k = 0)) ∧
    (∀ (d : BitVec 32) (c : Ctl), R.AMP_CTRL_EN.of d.toNat = s.m.c.get R.AMP_CTRL_EN + 2 ^ l.val → bit (s.m.c.get R.AMP_CTRL_EN) l = false →
      Ctl.enableBlocks { s.m.c with out := [] } [l.val] (fun l c => c.blockSet (33 + l) true) = (c, 0) →
      ∃ t, exec (.ampCtrlWrite d) s = .next t ∧ t.m.c.get R.AMP_STATUS_LAST = 0 ∧ t.m.m = s.m.m ∧
        t.m.c.get R.AMP_CTRL_EN = R.AMP_CTRL_EN.of d.toNat ∧ t.m.c.get R.AMP_LINK_STATE l = 1) ∧
    (∀ (a : Fin 32) (d : BitVec 16),
      (s.m.c.is R.AMP_MSG_TX_BUSY l = false → ∃ t, exec (.ampMsgSend l a d) s = .next t ∧ t.m.c.get R.AMP_MSG_TX_ADDR l = a ∧
        t.m.c.get R.AMP_MSG_TX_DATA l = d.toNat ∧ t.m.c.get R.AMP_MSG_TX_BUSY l = 1 ∧ t.m.c.get R.AMP_STATUS_LAST = 0 ∧
        s.m.c.sameRegsBut t.m.c [R.AMP_MSG_TX_ADDR, R.AMP_MSG_TX_DATA, R.AMP_MSG_TX_BUSY, R.AMP_STATUS_LAST] ∧ t.m.m = s.m.m) ∧
      (s.m.c.is R.AMP_MSG_TX_BUSY l = true → ∃ t, exec (.ampMsgSend l a d) s = .next t ∧ t.m.c.get R.AMP_STATUS_LAST = 3 ∧
        s.m.c.sameRegsBut t.m.c [R.AMP_STATUS_LAST] ∧ t.m.m = s.m.m))

/-- The matrix grants, among the masters of the highest precedence, the first after the one it granted last; an aged transfer
has class-A precedence (R372). A target that does not complete in time ends with an error return and is captured (R374). A queue
whose pointers mismatch is emptied, and what it held is counted as lost (R134, R376). DROP_PKT discards the items up to and with
the next end of packet, or all of them and the rest as it arrives (R378). Under conditions on the state and the operands alone
it gives the next state of: matrixGrant, matrixAgePromote, matrixTimeout, queuePointerMismatch, dropPkt. -/
def Obligations.MatrixAndQueues : Prop :=
  (∀ (s : State) (g : Fin 16),
     (∀ reqs : List (Fin 10 × Fin 4), reqs ≠ [] → ∃ t m p, exec (.matrixGrant g reqs) s = .next t ∧ (m, p) ∈ reqs ∧
       (∀ r ∈ reqs, s.m.c.mtxPrec g (m, p) ≤ s.m.c.mtxPrec g r) ∧
       (∀ r ∈ reqs, s.m.c.mtxPrec g r = s.m.c.mtxPrec g (m, p) →
         (m.val + 10 - cget s.m.c.mtx.last g % 10) % 10 ≤ (r.1.val + 10 - cget s.m.c.mtx.last g % 10) % 10) ∧
       cget t.m.c.mtx.last g = m + 1 ∧ t.m.c.mtx.aged = s.m.c.mtx.aged.filter (· != (g.val, m.val)) ∧
       t.m.c.regs = s.m.c.regs ∧ t.m.m = s.m.m) ∧
     exec (.matrixGrant g []) s = .next (s.withCtl id) ∧
     (∀ m : Fin 10, ∃ t, exec (.matrixAgePromote g m) s = .next t ∧ (∀ p : Fin 4, t.m.c.mtxPrec g (m, p) = 0) ∧
       (∀ (n : Fin 10) (p : Fin 4), n ≠ m → t.m.c.mtxPrec g (n, p) = s.m.c.mtxPrec g (n, p)) ∧
       t.m.c.regs = s.m.c.regs ∧ t.m.m = s.m.m) ∧
     (∀ (m : Master) (a : BitVec 32) (w : Bool), ∃ t, exec (.matrixTimeout g m a w) s = .next t ∧
       t.m.c.get R.MTX_STATUS_TIMEOUT_SEEN = 1 ∧
       t.m.c.get R.MTX_TIMEOUT_COUNT = (s.m.c.get R.MTX_TIMEOUT_COUNT + 1) % 2 ^ R.MTX_TIMEOUT_COUNT.width ∧
       .busResult 16 ∈ t.m.c.out ∧ t.m.m = s.m.m ∧
       (s.m.c.is R.MTX_STATUS_TIMEOUT_SEEN = false → t.m.c.get R.MTX_CAP_ADDR_ADDR = a.toNat ∧
         t.m.c.get R.MTX_CAP_INFO_KIND = 3 ∧ t.m.c.get R.MTX_CAP_INFO_WRITE = b2n w ∧ t.m.c.get R.MTX_CAP_INFO_TARGET = g) ∧
       (s.m.c.is R.MTX_STATUS_TIMEOUT_SEEN = true → t.m.c.get R.MTX_CAP_ADDR_ADDR = s.m.c.get R.MTX_CAP_ADDR_ADDR))) ∧
  (∀ s : State,
     (∀ n : Fin 16, ∃ t, exec (.queuePointerMismatch (.work n)) s = .next t ∧ (t.m.c.stable n).queue = [] ∧
       t.m.c.get R.YARD_Q_DEPTH n = 0 ∧ t.m.c.get R.YARD_QLOST_LOST n =
         (s.m.c.get R.YARD_QLOST_LOST n + (s.m.c.stable n).queue.length) % 2 ^ 32 ∧
       t.m.c.get R.YARD_STATUS_QLOST_SEEN (n / 4) = 1 ∧ t.m.m = s.m.m) ∧
     (∀ p : Fin 4, ∃ t, exec (.queuePointerMismatch (.launch p)) s = .next t ∧ (t.m.c.port p).reports = [] ∧
       t.m.c.get R.NET_LREP_STAT_DEPTH p = 0 ∧ t.m.c.get R.NET_STATUS_LREP_LOST_SEEN p = 1 ∧ t.m.m = s.m.m) ∧
     (∃ t, exec (.queuePointerMismatch .storm) s = .next t ∧ t.m.c.storm.evq = [] ∧
       t.m.c.storm.evqLost = s.m.c.storm.evqLost + s.m.c.storm.evq.length ∧ t.m.c.regs = s.m.c.regs ∧ t.m.m = s.m.m) ∧
     (∃ t, exec (.queuePointerMismatch .monitor) s = .next t ∧ t.m.c.mon.queue = [] ∧ t.m.c.get R.MON_Q_DEPTH = 0 ∧
       t.m.c.get R.MON_STATUS_LOST_SEEN = 1 ∧ t.m.m = s.m.m) ∧
     (∀ (l r : List CtrlMsg) (x : CtrlMsg), s.m.c.fab.ctrlq = l ++ x :: r → x.last = true → (∀ y ∈ l, y.last = false) →
       ∃ t, exec .dropPkt s = .next t ∧ t.m.c.fab.ctrlq = r ∧ t.m.c.fab.dropPend = s.m.c.fab.dropPend ∧ t.m.m = s.m.m) ∧
     ((∀ y ∈ s.m.c.fab.ctrlq, y.last = false) → ∃ t, exec .dropPkt s = .next t ∧ t.m.c.fab.ctrlq = [] ∧
       t.m.c.fab.dropPend = true ∧ t.m.m = s.m.m))

/-- DRAM requests (R352, R356 to R358). One with room in the queue of its kind joins its channel's queue behind the others; a
frozen controller and one asked beyond the usable space answer with an error return. A command slot serves the request it picks:
a read returns its octets, a write stores them and no others. A request that has waited its limit is promoted. Under conditions
on the state and the operands alone it gives the next state of: dramRequestAccept, dramCommandSlot, dramAgePromote. -/
def Obligations.DramRequests : Prop :=
  ∀ s : State,
    (∀ (req : Fin 11) (m : Master) (cls : Fin 4) (addr : BitVec 40) (len : Fin 65) (data : Option (List Byte)) (r : DramReq),
      r = { num := s.m.c.dram.accepted, req := req, master := m.num, cls := s.m.c.dramClass req m cls, addr := addr.toNat,
            len := min (max len 1) (64 - addr.toNat % 64), isWrite := data.isSome, write := data.getD [] } →
      (s.m.c.get R.DRAM_STATUS_MODE = 3 → ∃ t, exec (.dramRequestAccept req m cls addr len data) s = .next t ∧
        t.m.c.out = [.busResult 16] ∧ t.m.c.regs = s.m.c.regs ∧ t.m.c.dram = s.m.c.dram ∧ t.m.m = s.m.m) ∧
      (s.m.c.get R.DRAM_STATUS_MODE ≠ 3 → s.m.c.usable < r.addr + r.len →
        ∃ t, exec (.dramRequestAccept req m cls addr len data) s = .next t ∧ .busResult 6 ∈ t.m.c.out ∧
          t.m.c.dram = s.m.c.dram ∧ t.m.m = s.m.m) ∧
      (s.m.c.get R.DRAM_STATUS_MODE = 1 → r.addr + r.len ≤ s.m.c.usable → s.m.c.dramRoom r = true →
        ∃ t, exec (.dramRequestAccept req m cls addr len data) s = .next t ∧
          t.m.c.dramQ (addr.toNat / 960 % 2) = s.m.c.dramQ (addr.toNat / 960 % 2) ++ [r] ∧
          t.m.c.dramQ (1 - addr.toNat / 960 % 2) = s.m.c.dramQ (1 - addr.toNat / 960 % 2) ∧
          t.m.c.dram.accepted = s.m.c.dram.accepted + 1 ∧ t.m.m = s.m.m)) ∧
    (∀ (ch : Fin 2) (banks : BitVec 16) (r : DramReq), s.m.c.get R.DRAM_STATUS_MODE = 1 → s.m.c.dramPick ch banks.toNat = some r →
      s.m.c.dram.bad = [] → ∃ t, exec (.dramCommandSlot ch false banks .clean) s = .next t ∧
        t.m.c.dramQ ch = (s.m.c.dramQ ch).filter (fun x => x.num != r.num) ∧
        (r.isWrite = false → t.m.m = s.m.m ∧ ((∀ i < r.len, s.m.c.unstated (r.addr + i) = false ∧ s.m.c.historyByte (r.addr + i) = none) →
          .readData (leVal (s.m.m.dram.rds r.addr r.len)) ∈ t.m.c.out)) ∧
        (r.isWrite = true → (∀ i, (h : i < r.write.length) → i < r.len → t.m.m.dram.rd (r.addr + i) = r.write[i]) ∧
          (∀ a, (a < r.addr ∨ r.addr + r.len ≤ a) → t.m.m.dram.rd a = s.m.m.dram.rd a) ∧ t.m.m.loft = s.m.m.loft ∧
          t.m.m.store = s.m.m.store)) ∧
    (∀ (ch : Fin 2) (banks : BitVec 16) (ecc : EccOut), s.m.c.get R.DRAM_STATUS_MODE ≠ 1 →
      exec (.dramCommandSlot ch false banks ecc) s = .next (s.withMach id)) ∧
    (∀ (ch : Fin 2) (banks : BitVec 16) (ecc : EccOut),
      exec (.dramCommandSlot ch true banks ecc) s = .next (s.withMach id) ∧
      (s.m.c.dramPick ch banks.toNat = none → exec (.dramCommandSlot ch false banks ecc) s = .next (s.withMach id))) ∧
    (∀ (ch : Fin 2) (i : Fin 128), (s.m.c.dramQ ch)[i.val]? = none ∨ s.m.c.get R.DRAM_STATUS_MODE = 3 →
      exec (.dramAgePromote ch i) s = .next (s.withCtl id)) ∧
    (∀ (ch : Fin 2) (i : Fin 128) (r : DramReq), (s.m.c.dramQ ch)[i.val]? = some r → r.aged = false →
      s.m.c.get R.DRAM_STATUS_MODE ≠ 3 → ∃ t, exec (.dramAgePromote ch i) s = .next t ∧
        t.m.c.dramQ ch = (s.m.c.dramQ ch).map (fun x => if x.num = r.num then { x with aged := true } else x) ∧
        t.m.c.get R.DRAM_PROMOTED = (s.m.c.get R.DRAM_PROMOTED + 1) % 2 ^ R.DRAM_PROMOTED.width ∧
        t.m.c.get R.DRAM_STATUS_AGE_SEEN = 1 ∧ t.m.m = s.m.m)

/-- The controller's modes (R360, R363, R364, R367). A new temperature is shown; self-refresh is entered from RUN with nothing
queued while it is permitted, and left for a queued request or when SR_EN is 0; THAW of a frozen controller by a master that R8
lets write it discards the held requests, clears the captured chunk if CLEAR_FAULT is 1, and returns to RUN. Under conditions on
the state and the operands alone it gives the next state of: dramTempRead, selfRefreshEntry, selfRefreshExit, thaw. -/
def Obligations.DramModes : Prop :=
  ∀ s : State,
    (∀ code : Fin 8, ∃ t, exec (.dramTempRead code) s = .next t ∧ t.m.c.get R.DRAM_STATUS_TEMP = code ∧
      s.m.c.sameRegsBut t.m.c (R.DRAM_STATUS_TEMP :: evtFields) ∧ t.m.m = s.m.m) ∧
    (s.m.c.get R.DRAM_STATUS_MODE ≠ 1 ∨ s.m.c.srPermitted = false → exec .selfRefreshEntry s = .next (s.withCtl id)) ∧
    (∀ added : Fin 4, s.m.c.get R.DRAM_STATUS_MODE ≠ 2 → exec (.selfRefreshExit added) s = .next (s.withCtl id)) ∧
    (s.m.c.get R.DRAM_STATUS_MODE = 1 → s.m.c.srPermitted = true →
      (s.m.c.dram.q0 = [] → s.m.c.dram.q1 = [] → ∃ t, exec .selfRefreshEntry s = .next t ∧ t.m.c.get R.DRAM_STATUS_MODE = 2 ∧
        t.m.m = s.m.m) ∧
      (s.m.c.dram.q0 ≠ [] → ∃ t, exec .selfRefreshEntry s = .next t ∧ t.m.c.get R.DRAM_STATUS_MODE = 1 ∧
        t.m.c.get R.DRAM_SR_STAT_ABORTS = (s.m.c.get R.DRAM_SR_STAT_ABORTS + 1) % 2 ^ R.DRAM_SR_STAT_ABORTS.width ∧
        s.m.c.sameRegsBut t.m.c [R.DRAM_SR_STAT_ABORTS] ∧ t.m.m = s.m.m)) ∧
    (∀ added : Fin 4, s.m.c.get R.DRAM_STATUS_MODE = 2 →
      (s.m.c.dram.q0 ≠ [] ∨ s.m.c.dram.q1 ≠ [] ∨ s.m.c.is R.DRAM_CTRL_SR_EN = false) →
      ∃ t, exec (.selfRefreshExit added) s = .next t ∧ t.m.c.get R.DRAM_STATUS_MODE = 1 ∧ t.m.m = s.m.m) ∧
    (∀ (m : Master) (d : BitVec 32),
      (s.m.c.secure m = true → s.m.c.get R.DRAM_STATUS_MODE = 3 → inRange (wordFields R.fieldsDRAM 0x90000) d.toNat = true →
        ∃ t, exec (.thaw m d) s = .next t ∧ t.m.c.get R.DRAM_STATUS_MODE = 1 ∧ t.m.c.dram.q0 = [] ∧ t.m.c.dram.q1 = [] ∧
          t.m.c.get R.DRAM_STATUS_LAST = 0 ∧ (d.toNat / 4 % 2 = 0 → t.m.m = s.m.m ∧ t.m.c.dram.bad = s.m.c.dram.bad) ∧
          (d.toNat / 4 % 2 = 1 → ∀ a, t.m.m.dram.rd a = if 32 * s.m.c.faultChunk ≤ a ∧ a < 32 * s.m.c.faultChunk + 32 then 0
            else s.m.m.dram.rd a)) ∧
      (s.m.c.secure m = true → s.m.c.get R.DRAM_STATUS_MODE ≠ 3 → inRange (wordFields R.fieldsDRAM 0x90000) d.toNat = true →
        ∃ t, exec (.thaw m d) s = .next t ∧ t.m.c.get R.DRAM_STATUS_LAST = 1 ∧ t.m.c.get R.DRAM_STATUS_ERR_STATE = 1 ∧
          t.m.c.get R.DRAM_STATUS_MODE = s.m.c.get R.DRAM_STATUS_MODE ∧ t.m.m = s.m.m) ∧
      (s.m.c.secure m = false → ∃ t, exec (.thaw m d) s = .next t ∧ t.m.c.get R.DRAM_STATUS_LAST = 4 ∧
        t.m.c.get R.DRAM_STATUS_MODE = s.m.c.get R.DRAM_STATUS_MODE ∧ t.m.c.dram = s.m.c.dram ∧ t.m.m = s.m.m))

/-- The PCIe link (R384, R386, R389). Coming up shows the rate and the width; a reset releases the latches of its functions,
closes the sessions of function 1 and, with the link down, clears what it showed; unmasking a vector sends what waited. Under
conditions on the state and the operands alone it gives the next state of: pcieLinkUp, pcieLinkReset, functionLevelReset,
msixUnmask. -/
def Obligations.HostLink : Prop :=
  ∀ (s : State) (gen : Fin 4) (width : Fin 3) (fn : Fin 2) (en0 en1 : Bool),
    (∃ t, exec (.pcieLinkUp gen width en0 en1) s = .next t ∧ t.m.c.get R.MBX_PCIE_UP = 1 ∧ t.m.c.get R.MBX_PCIE_GEN = (gen : Nat) + 1 ∧
      t.m.c.get R.MBX_PCIE_WIDTH = 2 ^ (width : Nat) ∧ t.m.c.evt.fn0.enable = en0 ∧ t.m.c.evt.fn1.enable = en1 ∧ t.m.m = s.m.m ∧
      s.m.c.sameRegsBut t.m.c ([R.MBX_PCIE_UP, R.MBX_PCIE_GEN, R.MBX_PCIE_WIDTH, R.LEDG_COMMIT_T, R.LEDG_COMMIT_BUDGET,
        R.LEDG_ENV_ENV, R.LEDG_ENV_OBJ] ++ evtFields)) ∧
    (∀ down : Bool, ∃ t, exec (.pcieLinkReset down) s = .next t ∧ t.m.c.sessionOpen 4 = false ∧ t.m.c.sessionOpen 5 = false ∧
      (down = true → t.m.c.get R.MBX_PCIE_UP = 0 ∧ t.m.c.get R.MBX_PCIE_GEN = 0 ∧ t.m.c.get R.MBX_PCIE_WIDTH = 0) ∧
      (down = false → t.m.c.get R.MBX_PCIE_UP = s.m.c.get R.MBX_PCIE_UP) ∧
      (∀ i < 64, s.m.c.get R.LATCH i ≠ 0x80000000 → s.m.c.get R.LATCH i ≠ 0x80001000 → 0x80000000 < s.m.c.get R.LATCH i →
        t.m.c.get R.LATCH i = s.m.c.get R.LATCH i) ∧
      (s.m.c.fabr.stalls = [] → ∀ i < 64, s.m.c.get R.LATCH i = 0x80000000 ∨ s.m.c.get R.LATCH i = 0x80001000 →
        t.m.c.get R.LATCH i = 0) ∧ t.m.m = s.m.m) ∧
    (∃ t, exec (.functionLevelReset fn) s = .next t ∧ (fn = 1 → t.m.c.sessionOpen 4 = false ∧ t.m.c.sessionOpen 5 = false) ∧
      (fn = 0 → t.m.c.sessionOpen 4 = s.m.c.sessionOpen 4 ∧ t.m.c.sessionOpen 5 = s.m.c.sessionOpen 5) ∧
      (∀ i < 64, s.m.c.get R.LATCH i ≠ 0x80000000 + 4096 * fn.val → 0x80000000 < s.m.c.get R.LATCH i →
        t.m.c.get R.LATCH i = s.m.c.get R.LATCH i) ∧
      (s.m.c.fabr.stalls = [] → ∀ i < 64, s.m.c.get R.LATCH i = 0x80000000 + 4096 * fn.val → t.m.c.get R.LATCH i = 0) ∧
      t.m.m = s.m.m) ∧
    (∃ t, exec (.msixUnmask fn none) s = .next t ∧ (t.m.c.msixFn fn).fmask = false ∧ t.m.c.regs = s.m.c.regs ∧ t.m.m = s.m.m ∧
      ((s.m.c.msixFn fn).enable = true → ∀ v < 8, (kgetD (s.m.c.msixFn fn).vecs v {}).pending = true →
        (kgetD (s.m.c.msixFn fn).vecs v {}).mask = false →
        .msix fn v ∈ t.m.c.out ∧ (kgetD (t.m.c.msixFn fn).vecs v {}).pending = false)) ∧
    (∀ v : Fin 8, ∃ t, exec (.msixUnmask fn (some v)) s = .next t ∧ (kgetD (t.m.c.msixFn fn).vecs v {}).mask = false ∧
      t.m.c.regs = s.m.c.regs ∧ t.m.m = s.m.m ∧
      ((s.m.c.msixFn fn).enable = true → (s.m.c.msixFn fn).fmask = false →
        (kgetD (s.m.c.msixFn fn).vecs v {}).pending = true →
        .msix fn v ∈ t.m.c.out ∧ (kgetD (t.m.c.msixFn fn).vecs v {}).pending = false))

/-- Events as the host handles them (R411, R412, R414). A write to the pending bits clears those whose condition is no longer
true; an end of interrupt signals the named classes again that still wait; a pop removes the oldest record. Under conditions on
the state and the operands alone it gives the next state of: evtPendClear, evtEoi, evtPop. -/
def Obligations.EventCommands : Prop :=
  ∀ (s : State) (g : Fin 24) (d : BitVec 32),
    (∃ t, exec (.evtPendClear g d) s = .next t ∧ t.m.m = s.m.m ∧
      (∀ i < 8, bit (t.m.c.get R.EVT_SRC_PEND g) i =
        (bit (s.m.c.get R.EVT_SRC_PEND g) i && (!bit d.toNat i || s.m.c.levelHolds (8 * g + i)))) ∧
      (∀ j, j ≠ g.val → t.m.c.get R.EVT_SRC_PEND j = s.m.c.get R.EVT_SRC_PEND j) ∧
      s.m.c.sameRegsBut t.m.c [R.EVT_SRC_PEND, R.EVT_GRP_PEND, R.EVT_CLASS_PEND, R.FIRE_FAULT]) ∧
    (∃ t, exec (.evtEoi d) s = .next t ∧ t.m.c.regs = s.m.c.regs ∧ t.m.m = s.m.m ∧
      (∀ k < 4, bit d.toNat k = true → bit (s.m.c.get R.EVT_CLASS_PEND) k = true →
        (s.m.c.is R.EVT_CLASS_ROUTE_EN0 k = true → s.m.c.evt.fn0.enable = true → s.m.c.evt.fn0.fmask = false →
          (kgetD s.m.c.evt.fn0.vecs (s.m.c.get R.EVT_CLASS_ROUTE_VEC0 k) {}).mask = false →
          .msix 0 (s.m.c.get R.EVT_CLASS_ROUTE_VEC0 k) ∈ t.m.c.out) ∧
        (s.m.c.is R.EVT_CLASS_ROUTE_EN1 k = true → s.m.c.evt.fn1.enable = true → s.m.c.evt.fn1.fmask = true →
          (kgetD t.m.c.evt.fn1.vecs (s.m.c.get R.EVT_CLASS_ROUTE_VEC1 k) {}).pending = true))) ∧
    (s.m.c.evt.queue = [] → exec .evtPop s = .next (s.withCtl id)) ∧
    (∀ e q, s.m.c.evt.queue = e :: q → ∃ t, exec .evtPop s = .next t ∧ t.m.m = s.m.m ∧ s.m.c.sameRegsBut t.m.c evtFields ∧
      (q.length ≠ s.m.c.get R.EVT_REC_WM_LOW → t.m.c.evt.queue = q ∧ t.m.c.get R.EVT_REC_STAT_DEPTH = q.length % 2 ^ 9) ∧
      (q.length = s.m.c.get R.EVT_REC_WM_LOW → t.m.c.get R.EVT_REC_STAT_LO_SEEN = 1))

/-- When both letterboxes of a pair stay FULL for the stand-off time, STANDOFF_SEEN is set and the event is raised once; it is
not raised again until one of the two has been emptied (R392). Under conditions on the state and the operands alone it gives the
next state of: letterboxStandoff, lbGoRead. -/
def Obligations.LetterboxStandOff : Prop :=
  ∀ (s : State) (p : Fin 8), s.m.c.is R.MBX_LB_FULL (2 * p) = true → s.m.c.is R.MBX_LB_FULL (2 * p + 1) = true →
    (p.val ∉ s.m.c.mbx.reported → ∃ t, exec (.letterboxStandoff p) s = .next t ∧
      t.m.c.get R.MBX_STATUS_STANDOFF_SEEN = 1 ∧ p.val ∈ t.m.c.mbx.reported ∧ t.m.m = s.m.m ∧
      (s.m.c.srcOn Ev.MBX_STANDOFF = true → s.m.c.fire.dieLost = false → s.m.c.evt.queue.length < 255 →
        ∃ e ∈ t.m.c.evt.queue, e.source = Ev.MBX_STANDOFF ∧ e.info = p) ∧
      s.m.c.sameRegsBut t.m.c (R.MBX_STATUS_STANDOFF_SEEN :: evtFields)) ∧
    (p.val ∈ s.m.c.mbx.reported → exec (.letterboxStandoff p) s = .next (s.withCtl id)) ∧
    (∀ (m : Master) (n : Fin 16), n.val / 2 = p.val → s.m.c.receiver n = some m → ∃ t, exec (.lbGoRead m n) s = .next t ∧
      p.val ∉ t.m.c.mbx.reported)

/-- Letterboxes and latches (R391, R392, R394, R403). A box's sender writes its data and rings it, and a write into a full box
is marked; its receiver's read of LB_GO empties it; any other access is denied or changes nothing. A stand-off is reported once.
The pairs 2 and 3 take their yard from MBX_ALLOC while they are empty. A latch read returns 0 to the master that gets it, and
only its owner frees it. Under conditions on the state and the operands alone it gives the next state of: letterboxDataWrite,
lbGoWrite, lbGoRead, letterboxStandoff, mbxAllocWrite, latchRead, latchWrite. -/
def Obligations.Letterboxes : Prop :=
  ∀ (s : State) (m : Master) (n w : Fin 16) (d : BitVec 32),
    (s.m.c.sender n = some m →
      (∃ t, exec (.letterboxDataWrite m n w d) s = .next t ∧ t.m.c.get R.MBX_LB_DATA (16 * n + w) = d.toNat ∧
        (∀ j, j ≠ 16 * n.val + w.val → t.m.c.get R.MBX_LB_DATA j = s.m.c.get R.MBX_LB_DATA j) ∧
        (s.m.c.is R.MBX_LB_FULL n = true → t.m.c.get R.MBX_LB_COLLIDE n = 1 ∧ t.m.c.get R.MBX_STATUS_COLLIDE_SEEN = 1) ∧
        (s.m.c.is R.MBX_LB_FULL n = false → t.m.c.evt = s.m.c.evt) ∧ t.m.m = s.m.m ∧
        t.m.c.get R.MBX_STATUS_LAST = 0 ∧
        s.m.c.sameRegsBut t.m.c ([R.MBX_LB_DATA, R.MBX_LB_COLLIDE, R.MBX_STATUS_COLLIDE_SEEN, R.MBX_STATUS_LAST] ++ evtFields)) ∧
      (∃ t, exec (.lbGoWrite m n) s = .next t ∧ t.m.c.get R.MBX_LB_FULL n = 1 ∧
        t.m.c.get R.MBX_LB_LB_GO n = (s.m.c.get R.MBX_LB_LB_GO n + 1) % 2 ^ 32 ∧
        (s.m.c.is R.MBX_LB_FULL n = true → t.m.c.get R.MBX_LB_COLLIDE n = 1) ∧ t.m.m = s.m.m ∧
        s.m.c.sameRegsBut t.m.c ([R.MBX_LB_FULL, R.MBX_LB_LB_GO, R.MBX_LB_COLLIDE, R.MBX_STATUS_COLLIDE_SEEN,
          R.MBX_STATUS_FULL_MAP, R.MBX_STATUS_LAST] ++ evtFields))) ∧
    (s.m.c.sender n ≠ some m →
      (∃ t, exec (.letterboxDataWrite m n w d) s = .next t ∧ .busResult 4 ∈ t.m.c.out ∧ t.m.c.get R.MBX_STATUS_LAST = 4 ∧ t.m.m = s.m.m ∧
        (∀ j, t.m.c.get R.MBX_LB_DATA j = s.m.c.get R.MBX_LB_DATA j)) ∧
      (∃ t, exec (.lbGoWrite m n) s = .next t ∧ .busResult 4 ∈ t.m.c.out ∧ t.m.m = s.m.m ∧
        (∀ j, t.m.c.get R.MBX_LB_FULL j = s.m.c.get R.MBX_LB_FULL j))) ∧
    (∃ t, exec (.lbGoRead m n) s = .next t ∧ .readData (s.m.c.get R.MBX_LB_LB_GO n) ∈ t.m.c.out ∧ t.m.m = s.m.m ∧
      (s.m.c.receiver n = some m → t.m.c.get R.MBX_LB_FULL n = 0) ∧
      (s.m.c.receiver n ≠ some m → t.m.c.regs = s.m.c.regs) ∧
      s.m.c.sameRegsBut t.m.c ([R.MBX_LB_FULL, R.MBX_STATUS_FULL_MAP] ++ evtFields)) ∧
    (∀ p : Fin 8,
      (s.m.c.is R.MBX_LB_FULL (2 * p) = true → s.m.c.is R.MBX_LB_FULL (2 * p + 1) = true →
        (p.val ∉ s.m.c.mbx.reported → ∃ t, exec (.letterboxStandoff p) s = .next t ∧
          t.m.c.get R.MBX_STATUS_STANDOFF_SEEN = 1 ∧ p.val ∈ t.m.c.mbx.reported ∧ t.m.m = s.m.m ∧
          s.m.c.sameRegsBut t.m.c (R.MBX_STATUS_STANDOFF_SEEN :: evtFields)) ∧
        (p.val ∈ s.m.c.mbx.reported → exec (.letterboxStandoff p) s = .next (s.withCtl id))) ∧
      (s.m.c.is R.MBX_LB_FULL (2 * p) = false ∨ s.m.c.is R.MBX_LB_FULL (2 * p + 1) = false →
        exec (.letterboxStandoff p) s = .next (s.withCtl id))) ∧
    (∀ k : Fin 2,
      (s.m.c.is R.MBX_LB_FULL (2 * (k + 2 : Nat)) = false → s.m.c.is R.MBX_LB_FULL (2 * (k + 2 : Nat) + 1) = false →
        ∃ t, exec (.mbxAllocWrite k d) s = .next t ∧ t.m.c.get R.MBX_ALLOC_YARD k = R.MBX_ALLOC_YARD.of d.toNat ∧
          t.m.c.get R.MBX_ALLOC_EN k = R.MBX_ALLOC_EN.of d.toNat ∧ t.m.c.get R.MBX_STATUS_LAST = 0 ∧ t.m.m = s.m.m ∧
          s.m.c.sameRegsBut t.m.c [R.MBX_ALLOC_YARD, R.MBX_ALLOC_EN, R.MBX_STATUS_LAST]) ∧
      (s.m.c.is R.MBX_LB_FULL (2 * (k + 2 : Nat)) = true ∨ s.m.c.is R.MBX_LB_FULL (2 * (k + 2 : Nat) + 1) = true →
        ∃ t, exec (.mbxAllocWrite k d) s = .next t ∧ t.m.c.get R.MBX_STATUS_LAST = 1 ∧
          t.m.c.get R.MBX_STATUS_ERR_STATE = 1 ∧ t.m.m = s.m.m ∧
          s.m.c.sameRegsBut t.m.c ([R.MBX_STATUS_LAST, R.MBX_STATUS_ERR_STATE] ++ evtFields))) ∧
    (∀ ix : Fin 64,
      (s.m.c.get R.LATCH ix = 0 → ∃ t, exec (.latchRead m ix) s = .next t ∧ t.m.c.get R.LATCH ix = 0x80000000 + ownerCode m ∧
        t.m.c.out = [.readData 0] ∧ (∀ j, j ≠ ix.val → t.m.c.get R.LATCH j = s.m.c.get R.LATCH j) ∧
        s.m.c.sameRegsBut t.m.c [R.LATCH] ∧ t.m.m = s.m.m) ∧
      (s.m.c.get R.LATCH ix ≠ 0 → ∃ t, exec (.latchRead m ix) s = .next t ∧ t.m.c.regs = s.m.c.regs ∧
        t.m.c.out = [.readData (s.m.c.get R.LATCH ix)] ∧ t.m.m = s.m.m) ∧
      (s.m.c.get R.LATCH ix = 0x80000000 + ownerCode m → s.m.c.fabr.stalls = [] → ∃ t, exec (.latchWrite m ix) s = .next t ∧
        t.m.c.get R.LATCH ix = 0 ∧ s.m.c.sameRegsBut t.m.c [R.LATCH] ∧ t.m.m = s.m.m) ∧
      (s.m.c.get R.LATCH ix ≠ 0x80000000 + ownerCode m → ∃ t, exec (.latchWrite m ix) s = .next t ∧
        t.m.c.get R.MBX_STATUS_LATCH_SEEN = 1 ∧ s.m.c.sameRegsBut t.m.c (R.MBX_STATUS_LATCH_SEEN :: evtFields) ∧ t.m.m = s.m.m))

/-- Every keeper command (R401, R402). A command that the keeper finds good has its handler's effect and its reply; one that
collided is BUSY, one that fails its session's code or order is DENIED, and one that fails its checks gets their status, with no
effect of its own; a pair whose turn it is not is left alone. A keeper's reply (R397, R402): the first words of a pair's second
box are the command's head, the status and the results, the box is full and its bell has rung. Under conditions on the state and
the operands alone it gives the next state of: version, status, arm, disarm, sceneLoad, sceneSwitch, programLoad, planSet,
stormSet, alarmStart, alarmStop, budgetSet, calRunLedger, calRunLine, calRunStall, fwUpdateKeeper, fwUpdateStorm, logRead,
latchBreak, sessionOpen, sessionAuth, sessionClose. -/
def Obligations.KeeperCommands : Prop :=
  (∀ (s : State) (p : Fin 8) (costs : Option (List (Nat × Nat))) (pass : Bool) (windows : Nat),
     ∀ e, KeeperRow p costs pass windows e → ∀ w, w = s.m.c.lbWords (2 * p) →
     (s.m.c.keepMay p = false → exec e.1 s = .next (s.withMach id)) ∧ (s.m.c.keepMay p = true →
     (e.2.1 w = true → s.m.c.is R.MBX_LB_COLLIDE (2 * p) = false →
       ((s.m.c.keepTaken p).2 = true → (s.m.c.keepTaken p).1.keepCheck p w = 0 →
         exec e.1 s = .next (s.withMach fun x =>
           (e.2.2 { x with c := (x.c.keepTaken p).1 } w).finish p (w.getD 0 0) (x.c.replyKey p))) ∧
       ((s.m.c.keepTaken p).2 = false → exec e.1 s = .next (s.withMach fun x =>
         KRes.finish ⟨{ x with c := (x.c.keepTaken p).1 }, 4, [], false⟩ p (w.getD 0 0) (x.c.replyKey p))) ∧
       (∀ k, (s.m.c.keepTaken p).2 = true → (s.m.c.keepTaken p).1.keepCheck p w = k → k ≠ 0 →
         (k ≠ 1 → exec e.1 s = .next (s.withMach fun x =>
           KRes.finish ⟨{ x with c := (x.c.keepTaken p).1 }, k, [], false⟩ p (w.getD 0 0) (x.c.replyKey p))) ∧
         (k = 1 → s.m.c.get R.HNG_STATUS_ROLE ≠ 3 ∨ notOnStandby (w.getD 0 0 % 256) = false →
           exec e.1 s = .next (s.withMach fun x =>
             KRes.finish ⟨{ x with c := (x.c.keepTaken p).1.set R.MBX_STATUS_ERR_STATE 1 }, 1, [], false⟩ p (w.getD 0 0)
               (x.c.replyKey p))) ∧
         (k = 1 → s.m.c.get R.HNG_STATUS_ROLE = 3 → notOnStandby (w.getD 0 0 % 256) = true →
           exec e.1 s = .next (s.withMach fun x =>
             KRes.finish ⟨{ x with c := (x.c.keepTaken p).1.hngRefuse 1 }, 1, [], false⟩ p (w.getD 0 0) (x.c.replyKey p))))) ∧
     (e.2.1 w = true → s.m.c.is R.MBX_LB_COLLIDE (2 * p) = true → exec e.1 s = .next (s.withMach fun x =>
       KRes.finish ⟨{ x with c := ((x.c.lbRead .keeper (2 * p)).1.keepTurn p).set R.MBX_LB_COLLIDE 0 (2 * p) }, 3, [], false⟩ p
         (w.getD 0 0) (x.c.replyKey p))) ∧
     (e.2.1 w = false → argMasks.any (fun q => q.1 == w.getD 0 0 % 256) = true → exec e.1 s = .next (s.withMach id)))) ∧
  (∀ (c : Ctl) (p head status : Nat) (res : List Nat) (key : List Byte), p = 0 ∨ p = 1 ∨ p = 4 ∨ p = 5 → res.length ≤ 12 →
     c.is R.MBX_LB_FULL (2 * p + 1) = false → head < 2 ^ 32 → status < 2 ^ 32 → (∀ x ∈ res, x < 2 ^ 32) →
     ∃ t, t = c.keepReply p head status res key ∧ t.get R.MBX_LB_FULL (2 * p + 1) = 1 ∧ t.get R.MBX_LB_COLLIDE (2 * p + 1) =
         c.get R.MBX_LB_COLLIDE (2 * p + 1) ∧
       (t.lbWords (2 * p + 1)).take 14 = (head :: status :: res ++ List.replicate 14 0).take 14 ∧
       t.get R.MBX_LB_LB_GO (2 * p + 1) = (c.get R.MBX_LB_LB_GO (2 * p + 1) + 1) % 2 ^ 32 ∧
       (key = [] → (t.lbWords (2 * p + 1)).drop 14 = [0, 0]) ∧
       c.sameRegsBut t ([R.MBX_LB_DATA, R.MBX_LB_FULL, R.MBX_LB_LB_GO, R.MBX_STATUS_FULL_MAP, R.MBX_STATUS_LAST] ++ evtFields))

/-- Sessions and the keeper's time limit (R397, R399, R401). An idle session closes; a lock-out ends; a long command that runs
too long is answered FAULT and taken off the list; SESSION_OPEN answers with the module's identity and a nonce, SESSION_AUTH
opens the session for the right code only, and three failures lock the pair. Under conditions on the state and the operands
alone it gives the next state of: sessionIdleTimeout, lockoutEnd, keeperCommandTimeout. -/
def Obligations.KeeperSessions : Prop :=
  ∀ (s : State) (p : Fin 8),
    (∃ t, exec (.sessionIdleTimeout p) s = .next t ∧ t.m.c.sessionOpen p = false ∧
      (s.m.c.sessionOpen p = false → t.m.c.regs = s.m.c.regs) ∧
      s.m.c.sameRegsBut t.m.c ([R.MBX_SESSION_OPEN4, R.MBX_SESSION_OPEN5] ++ evtFields) ∧ t.m.m = s.m.m) ∧
    (p = 4 ∨ p = 5 → ∃ t, exec (.lockoutEnd p) s = .next t ∧ t.m.c.get (lockSess p) = 0 ∧ s.m.c.sameRegsBut t.m.c [lockSess p] ∧
      t.m.m = s.m.m) ∧
    (∀ code : BitVec 8, (s.m.c.longOf code.toNat = none → exec (.keeperCommandTimeout code) s = .next (s.withCtl id)) ∧
      (∀ l, s.m.c.longOf code.toNat = some l → exec (.keeperCommandTimeout code) s =
        .next (s.withCtl fun c => (c.longEnd l).keepDone l 7 []))) ∧
    (∀ (x : Mach) (w : List Nat),
      (sessionCloseCmd p x w = ⟨{ x with c := x.c.sessionClose p }, 0, [], false⟩ ∧
        (x.c.sessionClose p).sessionOpen p = false) ∧
      (p = 4 ∨ p = 5 →
        (x.c.is (lockSess p) = true → sessionOpenCmd p x w = ⟨x, 3, [], false⟩) ∧
        (x.c.is (lockSess p) = false → ∃ n : List Byte, n.length = 16 ∧
          (sessionOpenCmd p x w).status = 0 ∧ (sessionOpenCmd p x w).res = leWords 2 identBytes ++ leWords 4 n ∧
          ((sessionOpenCmd p x w).x.c.sess p).nk = n ∧ ((sessionOpenCmd p x w).x.c.sess p).opening = true ∧
          (sessionOpenCmd p x w).x.c.regs = x.c.regs) ∧
        ((x.c.sess p).opening = false →
          sessionAuthCmd p x w = ⟨{ x with c := x.c.refuse R.MBX_STATUS_ERR_STATE Ev.MBX_STATE }, 1, [], false⟩) ∧
        (∀ k, k = x.c.sess p → k.opening = true →
          (wordBytes ((w.drop 1).take 8) = hmac secureKey (ascii "CYGH" ++ identBytes ++ k.nk ++ k.nh) →
            (sessionAuthCmd p x w).status = 0 ∧ (sessionAuthCmd p x w).x.c.sessionOpen p = true ∧
            ((sessionAuthCmd p x w).x.c.sess p).ks = hmac secureKey (ascii "CYGS" ++ k.nk ++ k.nh) ∧
            ((sessionAuthCmd p x w).x.c.sess p).last = 0 ∧
            (sessionAuthCmd p x w).res = leWords 8 (hmac secureKey (ascii "CYGK" ++ identBytes ++ k.nh ++ k.nk))) ∧
          (wordBytes ((w.drop 1).take 8) ≠ hmac secureKey (ascii "CYGH" ++ identBytes ++ k.nk ++ k.nh) →
            (sessionAuthCmd p x w).status = 4 ∧
            (sessionAuthCmd p x w).x.c.get R.MBX_SESSION_AUTH_FAILS = (x.c.get R.MBX_SESSION_AUTH_FAILS + 1) % 2 ^
              R.MBX_SESSION_AUTH_FAILS.width ∧
            (2 ≤ k.bad → (sessionAuthCmd p x w).x.c.is (lockSess p) = true ∧
              (sessionAuthCmd p x w).x.c.sessionOpen p = false)))))

/-- What a reset leaves (R437, R440, R443). After power or the reset pin every register reads its reset value but those kept in
flash and the supply's, nothing waits in any queue, and of the memories only the flash keeps its contents; a die reset keeps the
storm block as well and marks the die lost, and the module is disarmed. The board's temperatures (R470). A hot die stops and is
reset once it has cooled; a hot supply takes the mains away until it has cooled, which with no battery is a loss of power. Under
conditions on the state and the operands alone it gives the next state of: dieReset, rootReturnHold, dieStrobeAbsent,
dieOvertemp, dieTempRecover, psuOvertemp, psuTempRecover, powerReset, pinReset. -/
def Obligations.Resets : Prop :=
  (∀ s : State,
     (∀ e ∈ [((.powerReset : Instr), 0), (.pinReset, 1)], ∃ t, exec e.1 s = .next t ∧ t.m.m = { nor := s.m.m.nor } ∧
       t.m.c.get R.SYS_BOOT_CAUSE = e.2 ∧ t.m.c.get R.SYS_ARM_ARMED = 0 ∧
       (∀ (r : Reg) (i : Nat), r.inFlash = false → (∀ f ∈ [R.SYS_BOOT_CAUSE, R.LEDG_STATUS_SUPPLY, R.STORM_STORE_ID, R.STORM_MSG_BAD,
           R.STORM_STATUS_STORE_SEEN, R.STORM_CAUSE_PLAN, R.STORM_CAUSE_NOPLAN, R.STORM_STATUS_VOICE_SEEN] ++ evtFields,
           f.id ≠ r.id) → t.m.c.get r i = r.resetAt i) ∧
       (∀ (r : Reg) (i : Nat), r.inFlash = true → t.m.c.get r i = s.m.c.get r i) ∧
       t.m.c.ledg.mainsOk = s.m.c.ledg.mainsOk ∧ t.m.c.boot.slot0 = s.m.c.boot.slot0 ∧ t.m.c.boot.slot1 = s.m.c.boot.slot1 ∧
       t.m.c.boot.fused = s.m.c.boot.fused ∧ t.m.c.seqs = ({} : Ctl).seqs ∧ t.m.c.mon = ({} : Ctl).mon ∧ t.m.c.net = ({} : Ctl).net) ∧
     (∃ t, exec .dieReset s = .next t ∧ t.m.m = { nor := s.m.m.nor } ∧ t.m.c.get R.SYS_BOOT_CAUSE = 2 ∧ t.m.c.fire.dieLost = true ∧
       t.m.c.fire.clockLost = false ∧ bit (t.m.c.get R.FIRE_FAULT) 0 = true ∧ t.m.c.boot.fused = s.m.c.boot.fused ∧
       t.m.c.boot.profile = s.m.c.boot.profile ∧ t.m.c.seqs = ({} : Ctl).seqs ∧ t.m.c.storm = s.m.c.storm) ∧
     (s.m.c.get R.WIN_CLK_STATUS_ROOT_OK ≠ 0 → s.m.c.fire.clockLost = true →
       exec .rootReturnHold s = .next (s.withMach Mach.dieReset)) ∧
     (s.m.c.get R.WIN_CLK_STATUS_ROOT_OK = 0 ∨ s.m.c.fire.clockLost = false → exec .rootReturnHold s = .next (s.withMach id)) ∧
     (s.m.c.fire.dieLost = true → s.m.c.boot.dieHot = false → exec .dieStrobeAbsent s = .next (s.withMach Mach.dieReset)) ∧
     (s.m.c.fire.dieLost = false ∨ s.m.c.boot.dieHot = true → exec .dieStrobeAbsent s = .next (s.withMach id))) ∧
  (∀ (s : State) (ok : Bool),
     (s.m.c.boot.dieHot = false → ∃ t, exec .dieOvertemp s = .next t ∧ t.m.c.boot.dieHot = true ∧ t.m.c.fire.dieLost = true ∧
       t.m.m = { nor := s.m.m.nor } ∧ t.m.c.get R.SYS_BOOT_CAUSE = 2) ∧
     (s.m.c.boot.dieHot = true → exec .dieOvertemp s = .next (s.withMach id) ∧ ∃ t, exec .dieTempRecover s = .next t ∧
       t.m.c.boot.dieHot = false ∧ t.m.m = { nor := s.m.m.nor } ∧ t.m.c.get R.SYS_BOOT_CAUSE = 2) ∧
     (s.m.c.boot.dieHot = false → exec .dieTempRecover s = .next (s.withMach id)) ∧
     ((s.m.c.ledg.battPresent = false ∨ s.m.c.ledg.battOpen = true) → ∃ t, exec .psuOvertemp s = .next t ∧
       t.m.m = { nor := s.m.m.nor } ∧ t.m.c.get R.SYS_BOOT_CAUSE = 0 ∧ t.m.c.boot.psuHot = true) ∧
     (s.m.c.ledg.battPresent = true → s.m.c.ledg.battOpen = false → ∃ t, exec .psuOvertemp s = .next t ∧ t.m.c.boot.psuHot = true ∧ t.m.c.ledg.mainsOk = false ∧ t.m.m = s.m.m ∧
       s.m.c.sameRegsBut t.m.c ([R.LEDG_STATUS_SUPPLY, R.LEDG_STATUS_SUPPLY_SEEN, R.LEDG_COMMIT_BUDGET] ++ evtFields)) ∧
     (s.m.c.boot.psuHot = true → ok = true ∨ (s.m.c.ledg.battPresent = true ∧ s.m.c.ledg.battOpen = false) →
       ∃ t, exec (.psuTempRecover ok) s = .next t ∧ t.m.c.boot.psuHot = false ∧
       t.m.c.ledg.mainsOk = ok ∧ t.m.m = s.m.m ∧
       s.m.c.sameRegsBut t.m.c ([R.LEDG_STATUS_SUPPLY, R.LEDG_STATUS_SUPPLY_SEEN, R.LEDG_COMMIT_BUDGET] ++ evtFields)) ∧
     (s.m.c.boot.psuHot = false → exec (.psuTempRecover ok) s = .next (s.withMach id)))

/-- Starting and arming (R438, R439, R441, R442, R443, R448, R449). The firmware slot of the higher generation that is usable
starts; DRAM becomes ready and empty; a good profile is applied once; an arming in progress completes after a window boundary;
the keeper's own reset drops what it had in hand and leaves the module armed; a finished update makes the other slot the newer.
Under conditions on the state and the operands alone it gives the next state of: bootFirmwareStart, dramInitComplete,
profileApply, armExecute, autoArmAttempt, keeperReset, keeperRestartComplete, fwUpdateDone. -/
def Obligations.StartUp : Prop :=
  ∀ (s : State) (ok0 ok1 : Bool),
    (∀ v0 v1, s.m.c.boot.dieHot = false →
      v0 = (s.m.c.boot.slot0.valid && ok0 && decide (s.m.c.boot.fused ≤ s.m.c.boot.slot0.rollback)) →
      v1 = (s.m.c.boot.slot1.valid && ok1 && decide (s.m.c.boot.fused ≤ s.m.c.boot.slot1.rollback)) →
      ∃ t, exec (.bootFirmwareStart ok0 ok1) s = .next t ∧ t.m.m = s.m.m ∧ t.m.c.boot.romOnly = (!v0 && !v1) ∧
        t.m.c.get R.SYS_BOOT_SLOT_BAD = b2n (!(v0 && v1)) ∧
        (v0 = true ∨ v1 = true → t.m.c.get R.SYS_BOOT_STAGE = 1 ∧
          (t.m.c.get R.SYS_BOOT_SLOT = 1 ↔ v1 = true ∧ (v0 = false ∨ s.m.c.boot.slot0.gen < s.m.c.boot.slot1.gen))) ∧
        s.m.c.sameRegsBut t.m.c [R.SYS_BOOT_SLOT, R.SYS_BOOT_SLOT_BAD, R.SYS_BOOT_NEW_SLOT, R.SYS_BOOT_STAGE]) ∧
    (s.m.c.get R.DRAM_STATUS_MODE = 0 → s.m.c.boot.romOnly = false → ∃ t, exec .dramInitComplete s = .next t ∧
      t.m.c.get R.DRAM_STATUS_MODE = 1 ∧ t.m.c.get R.DRAM_STATUS_TRAINED = 1 ∧ t.m.c.get R.SYS_BOOT_STAGE = 3 ∧
      t.m.m = { s.m.m with dram := [] } ∧ s.m.c.sameRegsBut t.m.c [R.DRAM_STATUS_MODE, R.DRAM_STATUS_TRAINED, R.CORR_BANK_BASE,
        R.CORR_FDL_BASE, R.CORR_STAGE_BASE, R.SYS_BOOT_STAGE, R.LEDG_COMMIT_T, R.LEDG_COMMIT_BUDGET, R.LEDG_ENV_ENV, R.LEDG_ENV_OBJ]) ∧
    (s.m.c.boot.profile = none → exec .profileApply s = .next (s.withMach id)) ∧
    (∀ p, s.m.c.boot.profile = some p → s.m.c.boot.romOnly = false → s.m.c.keep.down = false →
      s.m.c.get R.DRAM_STATUS_MODE = 1 → s.m.c.is R.SYS_BOOT_PROFILE = false →
      (p.tagOk = false ∨ p.ident ≠ Config.ident ∨ p.major ≠ Config.firmwareMajor s.m.c.slotInForce.fw →
        ∃ t, exec .profileApply s = .next t ∧ t.m.c.get R.SYS_BOOT_PROFILE = 2 ∧ t.m.m = s.m.m ∧
          s.m.c.sameRegsBut t.m.c (R.SYS_BOOT_PROFILE :: evtFields)) ∧
      (p.tagOk = true → p.ident = Config.ident → p.major = Config.firmwareMajor s.m.c.slotInForce.fw →
        ∃ y : Mach, y = Mach.profApply { s.m.fresh with c := s.m.fresh.c.set R.SYS_BOOT_PROFILE 1 } p ∧
          exec .profileApply s = .next (s.withMach fun _ =>
            { y with c := { y.c with boot := { y.c.boot with autoFrom := some y.c.time } } }))) ∧
    (s.m.c.boot.dieHot = true → exec (.bootFirmwareStart ok0 ok1) s = .next (s.withCtl id)) ∧
    (s.m.c.get R.DRAM_STATUS_MODE ≠ 0 ∨ s.m.c.boot.romOnly = true → exec .dramInitComplete s = .next (s.withMach id)) ∧
    (s.m.c.boot.armPend = none ∨ s.m.c.boot.armDue = false → exec .armExecute s = .next (s.withMach id)) ∧
    (∀ p head save, s.m.c.boot.armPend = some (p, head, save) → s.m.c.boot.armDue = true → ∃ t, exec .armExecute s = .next t ∧
      t.m.c.get R.SYS_ARM_ARMED = 1 ∧ t.m.c.get R.SYS_ARM_AUTO = (if p = 8 then 1 else 0) ∧
      t.m.c.get R.SYS_ARM_ARMS = (s.m.c.get R.SYS_ARM_ARMS + 1) % 2 ^ R.SYS_ARM_ARMS.width ∧ t.m.c.boot.armPend = none ∧
      t.m.c.boot.fused = max s.m.c.boot.fused s.m.c.slotInForce.rollback ∧ t.m.m = s.m.m) ∧
    (s.m.c.boot.autoFrom = none ∨ s.m.c.armed = true ∨ s.m.c.boot.armPend.isSome = true →
      exec .autoArmAttempt s = .next (s.withMach id)) ∧
    (∀ f, s.m.c.boot.autoFrom = some f → s.m.c.armed = false → s.m.c.boot.armPend = none → s.m.c.time < f + 30 * 10 ^ 9 →
      (s.m.armCheck = 0 → ∃ t, exec .autoArmAttempt s = .next t ∧ t.m.c.boot.armPend = some (8, 0, false) ∧
        t.m.c.regs = s.m.c.regs ∧ t.m.m = s.m.m) ∧
      (s.m.armCheck ≠ 0 → ∃ t, exec .autoArmAttempt s = .next t ∧ t.m.c.boot = s.m.c.boot ∧
        t.m.c.get R.SYS_ARM_FAIL_CHECK = s.m.armCheck % 2 ^ R.SYS_ARM_FAIL_CHECK.width ∧
        s.m.c.sameRegsBut t.m.c [R.SYS_ARM_FAIL_CHECK] ∧ t.m.m = s.m.m)) ∧
    (∃ t, exec .keeperReset s = .next t ∧ t.m.c.keep.down = true ∧ t.m.c.keep.long = [] ∧ t.m.c.boot.armPend = none ∧
      t.m.c.sessionOpen 4 = false ∧ t.m.c.sessionOpen 5 = false ∧ t.m.c.get R.SYS_ARM_ARMED = s.m.c.get R.SYS_ARM_ARMED ∧
      t.m.c.get R.TIME_STATUS_SERVO = 0 ∧ t.m.m = s.m.m ∧
      (t.m.c.boot.halted = true → bit (t.m.c.get R.FIRE_FAULT) 1 = true) ∧
      s.m.c.sameRegsBut t.m.c ([R.MBX_SESSION_OPEN4, R.MBX_SESSION_OPEN5, R.TIME_STATUS_SERVO] ++ evtFields)) ∧
    (s.m.c.keep.down = false ∨ s.m.c.boot.halted = true → exec .keeperRestartComplete s = .next (s.withCtl id)) ∧
    (s.m.c.keep.down = true → s.m.c.boot.halted = false → s.m.c.fab.ctrlq = [] →
      (∀ p, p < 64 → (s.m.c.planRt p).stormOn = false) → ∃ t, exec .keeperRestartComplete s = .next t ∧
        t.m.c.keep.down = false ∧ bit (t.m.c.get R.FIRE_FAULT) 1 = false ∧
        t.m.c.get R.SYS_BOOT_KRESTARTS = (s.m.c.get R.SYS_BOOT_KRESTARTS + 1) % 2 ^ R.SYS_BOOT_KRESTARTS.width ∧
        t.m.c.get R.SYS_ARM_ARMED = s.m.c.get R.SYS_ARM_ARMED ∧ t.m.m = s.m.m) ∧
    (s.m.c.longOf 0x50 = none → exec .fwUpdateDone s = .next (s.withMach id)) ∧
    (∀ l, s.m.c.longOf 0x50 = some l →
      (l.arg = 0 → ∃ t, exec .fwUpdateDone s = .next t ∧ t.m.c.get R.SYS_BOOT_NEW_SLOT = 1 ∧ t.m.c.boot.update = [] ∧
        t.m.c.otherSlot = { gen := (s.m.c.slotInForce.gen + 1) % 2 ^ 32, rollback := pkgField s.m.c.boot.update 0xC 4, valid := true,
                            fw := 3 + pkgField s.m.c.boot.update 0x10 4 } ∧
        t.m.c.slotInForce = s.m.c.slotInForce ∧ t.m.m = s.m.m) ∧
      (l.arg ≠ 0 → ∃ t, exec .fwUpdateDone s = .next t ∧ t.m.c.boot.update = [] ∧
        t.m.m = { s.m.m with nor := (s.m.m.nor.wipe 0 norSize).wrs 0 (s.m.c.boot.update.drop 0x80) } ∧
        t.m.c.storm.hdrOk = norHeaderOk t.m.m.nor))

/-- Recovery (R444, R446). Once the audio clock has held, the windows start again, the rings are empty and the zones that the
clock took are asked back; 17 windows after a freeze the keeper thaws DRAM, unless the last thaw is less than ten minutes old.
Under conditions on the state and the operands alone it gives the next state of: audioLockHold, keeperThaw. -/
def Obligations.Recovery : Prop :=
  ∀ s : State,
    (s.m.c.is R.WIN_CLK_STATUS_ROOT_OK = true → s.m.c.is R.WIN_CLK_STATUS_AUDIO_LOCK = true → s.m.c.is R.WIN_STATUS_RUN = false →
      s.m.c.keep.down = false → (s.m.c.boot.clockDue = true ∨ ∃ z ∈ s.m.c.drivenZones, s.m.c.get R.STORM_CAUSE_CAUSE z = 1) →
      ∃ c : Ctl, c = (({ s.m.fresh.c with fire := { s.m.c.fire with clockLost := false } } : Ctl).faults.restartWindows.ringsClear) ∧
        exec .audioLockHold s = .next (s.withCtl fun _ =>
          ({ c with boot := { c.boot with seqDue := true, handBack := [1], clockDue := false } } : Ctl).requestBack) ∧
        (∀ e ∈ c.src.rings, e.2.fill = 0)) ∧
    (s.m.c.is R.WIN_CLK_STATUS_ROOT_OK = false ∨ s.m.c.is R.WIN_CLK_STATUS_AUDIO_LOCK = false ∨ s.m.c.is R.WIN_STATUS_RUN = true ∨
      s.m.c.keep.down = true ∨ (s.m.c.boot.clockDue = false ∧ ∀ z ∈ s.m.c.drivenZones, s.m.c.get R.STORM_CAUSE_CAUSE z ≠ 1) →
      exec .audioLockHold s = .next (s.withCtl id)) ∧
    (s.m.c.get R.DRAM_STATUS_MODE ≠ 3 ∨ s.m.c.keep.down = true → exec .keeperThaw s = .next (s.withMach id)) ∧
    (∀ w, s.m.c.get R.DRAM_STATUS_MODE = 3 → s.m.c.keep.down = false → s.m.c.dram.frozeAt = some w →
      (s.m.c.win.ext < w + 17 → exec .keeperThaw s = .next (s.withMach id)) ∧
      (w + 17 ≤ s.m.c.win.ext →
        (∀ l, s.m.c.dram.lastThaw = some l → s.m.c.dram.frozeTime < l + 600 * 10 ^ 9 →
          exec .keeperThaw s = .next (s.withCtl (·.set R.SYS_ARM_FREEZE_HOLD 1))) ∧
        ((∀ l, s.m.c.dram.lastThaw = some l → l + 600 * 10 ^ 9 ≤ s.m.c.dram.frozeTime) → ∃ t, exec .keeperThaw s = .next t ∧
          t.m.c.get R.DRAM_STATUS_MODE = 1 ∧ t.m.c.dram.frozeAt = none ∧ t.m.c.dram.lastThaw = some s.m.c.time ∧
          t.m.m = { s.m.m with dram := s.m.m.dram.wipe (32 * s.m.c.faultChunk) 32 })))

/-- Scrubbing and calibration (R418, R419, R422, R424, R426 to R428). A scrub step checks one line of DRAM, counts it and wraps
at the end of the usable size; a store scrub corrects or poisons; a line without a measurement is marked once; a completed
baseline is stored and answered; each calibration shows its result, and a change is an event; the keeper reads the sensors;
retired flash blocks use up spares. The monitor (R431, R432, R434, R436). A decimated output that is due becomes one record with
the channel's state and a sequence number; a synchronisation marks its groups, and the filters of the channels that a boundary
has taken are reset; a record moves to the ring in DRAM while there is room; a channel's fixed fields change only while it is
off. Under conditions on the state and the operands alone it gives the next state of: patrolScrubStep, storeScrub,
lineNomeasTimeout, lineBaselineDone, zqCalibration, strobeTracking, flashPatrol, safeCheck, sensorRead, monitorOutput, monSync,
monSyncReset, monitorRecordMove, monChWrite. -/
def Obligations.Background : Prop :=
  (∀ (s : State) (ok : Bool),
     (s.m.c.is R.MON_CTRL_SCRUB_EN = false ∨ s.m.c.dramDown = true ∨ s.m.c.srPermitted = true →
       ∀ ecc, exec (.patrolScrubStep ecc) s = .next (s.withCtl id)) ∧
     (s.m.c.is R.MON_CTRL_SCRUB_EN = true → s.m.c.get R.DRAM_STATUS_MODE = 1 → s.m.c.srPermitted = false →
       (s.m.c.dram.bad = [] →
         (64 * s.m.c.mon.scrub + 64 < s.m.c.usable → ∃ t, exec (.patrolScrubStep .clean) s = .next t ∧
           t.m.c.mon.scrub = s.m.c.mon.scrub + 1 ∧
           t.m.c.get R.MON_SCRUB_POS = (s.m.c.mon.scrub + 1) / 4 % 2 ^ R.MON_SCRUB_POS.width ∧
           s.m.c.sameRegsBut t.m.c [R.MON_SCRUB_POS] ∧ t.m.m = s.m.m) ∧
         (s.m.c.usable ≤ 64 * s.m.c.mon.scrub + 64 → ∃ t, exec (.patrolScrubStep .clean) s = .next t ∧ t.m.c.mon.scrub = 0 ∧
           t.m.c.get R.MON_SCRUB_POS = 0 ∧
           t.m.c.get R.MON_SCRUB_PASS = (s.m.c.get R.MON_SCRUB_PASS + 1) % 2 ^ R.MON_SCRUB_PASS.width ∧ t.m.m = s.m.m)) ∧
       (∀ second, ∃ t, exec (.patrolScrubStep (.bad second)) s = .next t ∧ t.m.c.get R.DRAM_STATUS_MODE = 3 ∧
         t.m.c.dram.frozeAt = some s.m.c.win.ext ∧ t.m.c.get R.MON_STATUS_SCRUB_SEEN = 1 ∧
         t.m.c.get R.DRAM_FAULT_ADDR_LO = 64 * s.m.c.mon.scrub % 2 ^ 32 ∧ t.m.m = s.m.m)) ∧
     (∀ (y : Fin 4) (a : Nat), s.m.c.is R.YARD_CTRL_EN y = true → a < 0x400000 → s.m.c.poisoned y = [] →
       (∃ t, exec (.storeScrub y [⟨true, a, false⟩]) s = .next t ∧ t.m.m = s.m.m ∧
         t.m.c.get R.YARD_ECC_CORR_LOFT y = (s.m.c.get R.YARD_ECC_CORR_LOFT y + 1) % 2 ^ R.YARD_ECC_CORR_LOFT.width ∧
         s.m.c.sameRegsBut t.m.c [R.YARD_ECC_CORR_LOFT]) ∧
       (∃ t, exec (.storeScrub y [⟨true, a, true⟩]) s = .next t ∧ t.m.m = s.m.m ∧
         (y * 0x400000 + a / 4 * 4 : Nat) ∈ t.m.c.fabr.loftPoison ∧ t.m.c.get R.YARD_STATUS_ECC_SEEN y = 1 ∧
         t.m.c.get R.MON_STATUS_SCRUB_SEEN = 1)) ∧
     (∀ f : Fin 768, (s.m.c.is R.FEED_EN f = true → s.m.c.is R.LINE_FEED_NOMEAS f = false → ∃ t,
         exec (.lineNomeasTimeout f) s = .next t ∧ t.m.c.get R.LINE_FEED_NOMEAS f = 1 ∧ t.m.c.get R.LINE_STATUS_NOMEAS_SEEN = 1 ∧
         s.m.c.sameRegsBut t.m.c ([R.LINE_FEED_NOMEAS, R.LINE_STATUS_NOMEAS_SEEN] ++ evtFields) ∧ t.m.m = s.m.m) ∧
       (s.m.c.is R.FEED_EN f = false ∨ s.m.c.is R.LINE_FEED_NOMEAS f = true →
         exec (.lineNomeasTimeout f) s = .next (s.withCtl id))) ∧
     (s.m.c.longOf 0x41 = none → exec .lineBaselineDone s = .next (s.withCtl id)) ∧
     (s.m.c.amp.cal = false → exec .lineBaselineDone s = .next (s.withCtl id)) ∧
     (s.m.c.get R.DRAM_STATUS_MODE = 0 → exec (.zqCalibration ok) s = .next (s.withCtl id) ∧
       exec (.strobeTracking ok) s = .next (s.withCtl id)) ∧
     (s.m.c.keep.down = true ∨ s.m.c.backgroundCut = true → ∀ moved retired bad,
       exec (.flashPatrol moved retired bad) s = .next (s.withCtl id)) ∧
     (∀ l, s.m.c.longOf 0x41 = some l → s.m.c.amp.cal = true →
       (∀ f ∈ s.m.c.baseFeeds, 16 ≤ (kgetD s.m.c.amp.line f {}).n) → ∃ t, exec .lineBaselineDone s = .next t ∧
         t.m.c.amp.cal = false ∧ (∀ f ∈ s.m.c.baseFeeds, t.m.c.get R.LINE_FEED_BASE_VALID f = 1 ∧
           t.m.c.get R.LINE_FEED_BASE_Z f = (kgetD s.m.c.amp.line f {}).sumZ / 16 % 2 ^ R.LINE_FEED_BASE_Z.width) ∧ t.m.m = s.m.m) ∧
     (s.m.c.get R.DRAM_STATUS_MODE ≠ 0 →
       (∃ t, exec (.zqCalibration ok) s = .next t ∧ t.m.c.mon.zqBad = (!ok) ∧
         t.m.c.get R.MON_STATUS_DRAM_CAL_BAD = b2n (!ok || s.m.c.mon.strobeBad) ∧
         (ok = false → t.m.c.get R.MON_STATUS_CAL_SEEN = 1) ∧ (ok = !s.m.c.mon.zqBad → t.m.c.evt = s.m.c.evt) ∧
         s.m.c.sameRegsBut t.m.c ([R.MON_STATUS_DRAM_CAL_BAD, R.MON_STATUS_CAL_SEEN] ++ evtFields) ∧ t.m.m = s.m.m) ∧
       (∃ t, exec (.strobeTracking ok) s = .next t ∧ t.m.c.mon.strobeBad = (!ok) ∧
         t.m.c.get R.MON_STATUS_DRAM_CAL_BAD = b2n (s.m.c.mon.zqBad || !ok) ∧
         (ok = false → t.m.c.get R.MON_STATUS_CAL_SEEN = 1) ∧ (ok = !s.m.c.mon.strobeBad → t.m.c.evt = s.m.c.evt) ∧
         s.m.c.sameRegsBut t.m.c ([R.MON_STATUS_DRAM_CAL_BAD, R.MON_STATUS_CAL_SEEN] ++ evtFields) ∧ t.m.m = s.m.m)) ∧
     (∀ cycles : Nat, ∃ t, exec (.safeCheck cycles) s = .next t ∧
       (t.m.c.get R.MON_STATUS_SAFE_BAD = 1 ↔ cycles < 15968000 ∨ 16032000 < cycles) ∧
       (cycles < 15968000 ∨ 16032000 < cycles → t.m.c.get R.MON_STATUS_CAL_SEEN = 1) ∧ t.m.m = s.m.m ∧
       s.m.c.sameRegsBut t.m.c ([R.MON_STATUS_SAFE_BAD, R.MON_STATUS_CAL_SEEN] ++ evtFields)) ∧
     (∀ v, (s.m.c.keep.down = false → ∃ t, exec (.sensorRead v) s = .next t ∧
         (∀ i (h : i < 8), t.m.c.get R.MON_SENSE_VALUE i = v[i].toNat % 2 ^ R.MON_SENSE_VALUE.width) ∧
         s.m.c.sameRegsBut t.m.c [R.MON_SENSE_VALUE] ∧ t.m.m = s.m.m) ∧
       (s.m.c.keep.down = true → exec (.sensorRead v) s = .next (s.withCtl id))) ∧
     (∀ moved retired bad : Fin 65536, s.m.c.keep.down = false → s.m.c.backgroundCut = false →
       s.m.c.get R.MON_FLASH_SPARE < 2 ^ R.MON_FLASH_SPARE.width → ∃ t, exec (.flashPatrol moved retired bad) s = .next t ∧
         t.m.c.get R.MON_FLASH_ECC = (s.m.c.get R.MON_FLASH_ECC + moved) % 2 ^ R.MON_FLASH_ECC.width ∧
         t.m.c.get R.MON_FLASH_SPARE = s.m.c.get R.MON_FLASH_SPARE - retired ∧
         (bad ≠ 0 → t.m.c.get R.MON_STATUS_FLASH_SEEN = 1) ∧ t.m.m = s.m.m)) ∧
  (∀ (s : State) (ch : Fin 64),
     ((kgetD s.m.c.mon.chs ch {}).due = [] → exec (.monitorOutput ch) s = .next (s.withCtl id)) ∧
     (∀ y x st q, (kgetD s.m.c.mon.chs ch {}).due = (y, x, st) :: q → s.m.c.mon.queue.length < 64 →
       ∃ t, exec (.monitorOutput ch) s = .next t ∧ (kgetD t.m.c.mon.chs ch {}).due = q ∧
         (kgetD t.m.c.mon.chs ch {}).seq = ((kgetD s.m.c.mon.chs ch {}).seq + 1) % 256 ∧
         t.m.c.get R.MON_CH_SETTLING ch = b2n st ∧
         t.m.c.mon.queue = s.m.c.mon.queue ++
           [[ch.val + 64 * b2n st + 128 * t.m.c.get R.MON_CH_ABOVE ch + 256 * (kgetD s.m.c.mon.chs ch {}).seq, x, y % 2 ^ 32,
             y / 2 ^ 32]] ∧
         (st = true → t.m.c.get R.MON_CH_ABOVE ch = s.m.c.get R.MON_CH_ABOVE ch) ∧
         (st = false → s.m.c.get R.MON_CH_ABOVE ch = 0 →
           (t.m.c.get R.MON_CH_ABOVE ch = 1 ↔ s.m.c.geti R.MON_CH_HI ch < sx 64 y / 2 ^ s.m.c.get R.MON_CH_TSHIFT ch)) ∧
         (st = false → s.m.c.get R.MON_CH_ABOVE ch = 1 →
           (t.m.c.get R.MON_CH_ABOVE ch = 1 ↔ s.m.c.geti R.MON_CH_LO ch ≤ sx 64 y / 2 ^ s.m.c.get R.MON_CH_TSHIFT ch)) ∧
         t.m.m = s.m.m) ∧
     (∀ g : BitVec 4, ∃ t, exec (.monSync g) s = .next t ∧
       (∀ i < 4, bit (t.m.c.get R.MON_STATUS_SYNC_PEND) i = (bit (s.m.c.get R.MON_STATUS_SYNC_PEND) i || bit g.toNat i)) ∧
       t.m.c.get R.MON_STATUS_LAST = 0 ∧ t.m.m = s.m.m ∧
       s.m.c.sameRegsBut t.m.c [R.MON_STATUS_SYNC_PEND, R.MON_STATUS_LAST]) ∧
     (s.m.c.mon.dueChs = [] → exec .monSyncReset s = .next (s.withCtl id)) ∧
     (s.m.c.mon.dueChs ≠ [] → ∃ t, exec .monSyncReset s = .next t ∧ t.m.c.mon.dueChs = [] ∧ t.m.c.mon.reset = s.m.c.mon.reset ∧
       (∀ k ∈ s.m.c.mon.dueChs, (kgetD t.m.c.mon.chs k {}).n = 0 ∧ (kgetD t.m.c.mon.chs k {}).i1 = 0 ∧
         (kgetD t.m.c.mon.chs k {}).z3 = 0) ∧
       (∀ k, k ∉ s.m.c.mon.dueChs → kget? t.m.c.mon.chs k = kget? s.m.c.mon.chs k) ∧ t.m.m = s.m.m ∧
       s.m.c.sameRegsBut t.m.c evtFields) ∧
     (s.m.c.mon.queue = [] → exec .monitorRecordMove s = .next (s.withMach id)) ∧
     (∀ r q a, s.m.c.mon.queue = r :: q → s.m.c.dramDown = false → s.m.c.dram.bad = [] →
       a = s.m.c.get R.MON_RING_BASE_LO + 2 ^ 32 * s.m.c.get R.MON_RING_BASE_HI +
         16 * (s.m.c.get R.MON_RING_HEAD % 2 ^ s.m.c.get R.MON_RING_SIZE) → a + 16 ≤ s.m.c.usable →
       s.m.c.get R.MON_RING_HEAD % 2 ^ s.m.c.get R.MON_RING_SIZE ≠ s.m.c.get R.MON_RING_TAIL % 2 ^ s.m.c.get R.MON_RING_SIZE →
         ∃ t, exec .monitorRecordMove s = .next t ∧ t.m.c.mon.queue = q ∧
           t.m.c.get R.MON_RING_HEAD = (s.m.c.get R.MON_RING_HEAD + 1) % 2 ^ s.m.c.get R.MON_RING_SIZE % 2 ^ R.MON_RING_HEAD.width ∧
           t.m.m = { s.m.m with dram := s.m.m.dram.wrs a (r.flatMap (leBytes 4)) } ∧
           (s.m.c.get R.DRAM_STATUS_MODE = 1 → s.m.c.sameRegsBut t.m.c ([R.MON_RING_HEAD, R.MON_Q_DEPTH, R.MON_Q_HI_SEEN, R.MON_Q_LO_SEEN] ++
             evtFields))) ∧
     (∀ (w : Fin 4) (d : BitVec 32), s.m.c.is R.MON_CH_EN ch = false → w ≠ 0 →
       (inRange (monChWord w) d.toNat = true → (s.m.c.store (monChWord w) ch d.toNat).monChOk ch = true →
         exec (.monChWrite ch w d) s = .next (s.withCtl fun c => (c.store (monChWord w) ch d.toNat).monStatus 0)) ∧
       (inRange (monChWord w) d.toNat = false ∨ (s.m.c.store (monChWord w) ch d.toNat).monChOk ch = false →
         ∃ t, exec (.monChWrite ch w d) s = .next t ∧ t.m.c.get R.MON_STATUS_LAST = 2 ∧
           s.m.c.sameRegsBut t.m.c [R.MON_STATUS_LAST] ∧ t.m.m = s.m.m)))
end

