-- ==== Sys2Proof/Laws/Maps.lean ====
section
/-! SUPPORT. Laws of the keyed collections and of the byte memories: reading after writing, and the canonical form. -/
namespace Sys2Proof.Machine

@[simp] theorem kget?_nil {α : Type} (i : Nat) : kget? ([] : Keyed α) i = none := rfl

/-- Reading the key that was put. -/
@[simp] theorem kget?_kput_self {α : Type} (m : Keyed α) (i : Nat) (v : α) : kget? (kput m i v) i = some v := by
  induction m with
  | nil => simp [kput, kget?]
  | cons e m ih =>
    obtain ⟨k, w⟩ := e
    unfold kput
    split
    · simp [kget?]
    · split
      · simp [kget?]
      · simp_all [kget?]

/-- Reading another key. -/
theorem kget?_kput_ne {α : Type} (m : Keyed α) {i j : Nat} (v : α) (h : j ≠ i) : kget? (kput m i v) j = kget? m j := by
  induction m with
  | nil => simp [kput, kget?, Ne.symm h]
  | cons e m ih =>
    obtain ⟨k, w⟩ := e
    unfold kput
    split
    · next hk => simp at hk; subst hk; simp [kget?, Ne.symm h]
    · split
      · simp [kget?, Ne.symm h]
      · simp [kget?, ih]

/-- A key taken off reads as nothing. -/
@[simp] theorem kget?_kdel_self {α : Type} (m : Keyed α) (i : Nat) : kget? (kdel m i) i = none := by
  induction m with
  | nil => rfl
  | cons e m ih =>
    obtain ⟨k, w⟩ := e
    simp only [kdel, List.filter_cons] at *
    by_cases hk : k = i <;> simp_all [kget?]

/-- Taking a key off leaves the others. -/
theorem kget?_kdel_ne {α : Type} (m : Keyed α) {i j : Nat} (h : j ≠ i) : kget? (kdel m i) j = kget? m j := by
  induction m with
  | nil => rfl
  | cons e m ih =>
    obtain ⟨k, w⟩ := e
    simp only [kdel, List.filter_cons] at *
    by_cases hk : k = i
    · subst hk; simp [kget?, Ne.symm h, ih]
    · simp [hk, kget?, ih]

@[simp] theorem kgetD_kput_self {α : Type} (m : Keyed α) (i : Nat) (v d : α) : kgetD (kput m i v) i d = v := by
  simp [kgetD]

theorem kgetD_kput_ne {α : Type} (m : Keyed α) {i j : Nat} (v d : α) (h : j ≠ i) :
    kgetD (kput m i v) j d = kgetD m j d := by
  simp [kgetD, kget?_kput_ne m v h]

/-- Reading the counter that was set. -/
@[simp] theorem cget_cset_self (m : Counts) (i v : Nat) : cget (cset m i v) i = v := by
  unfold cget cset
  split
  · next h => simp at h; simp [kgetD, h]
  · simp

/-- Reading another counter. -/
theorem cget_cset_ne (m : Counts) {i j : Nat} (v : Nat) (h : j ≠ i) : cget (cset m i v) j = cget m j := by
  unfold cget cset
  split
  · simp [kgetD, kget?_kdel_ne m h]
  · exact kgetD_kput_ne m v 0 h

/-! ## Byte memories -/

/-- Inserting a byte: that address reads as it. -/
theorem Mem.rd_ins_self (m : Mem) (a : Nat) (v : Byte) : (m.ins a v).rd a = v := by
  induction m with
  | nil => simp [Mem.ins, Mem.rd]
  | cons e m ih =>
    obtain ⟨k, w⟩ := e
    unfold Mem.ins
    split
    · simp [Mem.rd]
    · split
      · simp [Mem.rd]
      · simp_all [Mem.rd]

/-- Inserting a byte: another address reads as before. -/
theorem Mem.rd_ins_ne (m : Mem) {a b : Nat} (v : Byte) (h : b ≠ a) : (m.ins a v).rd b = m.rd b := by
  induction m with
  | nil => simp [Mem.ins, Mem.rd, Ne.symm h]
  | cons e m ih =>
    obtain ⟨k, w⟩ := e
    unfold Mem.ins
    split
    · simp [Mem.rd, Ne.symm h]
    · split
      · next hk => simp at hk; subst hk; simp [Mem.rd, Ne.symm h]
      · simp [Mem.rd, ih]

/-- A filter by address reads as the memory where it holds and as the default elsewhere. -/
theorem Mem.rd_filter (m : Mem) (p : Nat → Bool) (a : Nat) :
    Mem.rd (m.filter (fun e => p e.1)) a = if p a then m.rd a else memDefault := by
  induction m with
  | nil => simp [Mem.rd]
  | cons e m ih =>
    obtain ⟨k, w⟩ := e
    by_cases hp : p k
    · by_cases hk : k = a
      · subst hk; simp [hp, Mem.rd]
      · simp [hp, Mem.rd, hk, ih]
    · by_cases hk : k = a
      · subst hk; simp [hp] at *; simpa [hp] using ih
      · simp [hp, Mem.rd, hk, ih]

/-- A byte written is the byte read. -/
@[simp] theorem Mem.rd_wr_self (m : Mem) (a : Nat) (v : Byte) : (m.wr a v).rd a = v := by
  unfold Mem.wr
  split
  · next h => rw [Mem.rd_filter m (fun k => !(k == a))]; simp [h]
  · exact Mem.rd_ins_self m a v

/-- A write leaves every other byte. -/
theorem Mem.rd_wr_ne (m : Mem) {a b : Nat} (v : Byte) (h : b ≠ a) : (m.wr a v).rd b = m.rd b := by
  unfold Mem.wr
  split
  · rw [Mem.rd_filter m (fun k => !(k == a))]; simp [h]
  · exact Mem.rd_ins_ne m v h

/-- A write of several bytes leaves every byte outside them. -/
theorem Mem.rd_wrs_of_outside (l : List Byte) (m : Mem) {a b : Nat} (h : b < a ∨ a + l.length ≤ b) :
    (m.wrs a l).rd b = m.rd b := by
  induction l generalizing m a with
  | nil => rfl
  | cons v vs ih =>
    simp only [Mem.wrs, List.length_cons] at *
    rw [ih _ (by omega), Mem.rd_wr_ne _ _ (by omega)]

/-- A write of several bytes puts each at its place. -/
theorem Mem.rd_wrs_inside (l : List Byte) (m : Mem) (a i : Nat) (h : i < l.length) : (m.wrs a l).rd (a + i) = l[i] := by
  induction l generalizing m a i with
  | nil => simp at h
  | cons v vs ih =>
    cases i with
    | zero => simp only [Mem.wrs, Nat.add_zero]; rw [Mem.rd_wrs_of_outside _ _ (by omega)]; simp
    | succ i =>
      have := ih (m.wr a v) (a + 1) i (by simpa using h)
      simpa [Mem.wrs, Nat.add_assoc, Nat.add_comm 1 i] using this

/-- Wiping bytes: they read as the default, the rest as before. -/
theorem Mem.rd_wipe (m : Mem) (a n b : Nat) :
    (m.wipe a n).rd b = if b < a ∨ a + n ≤ b then m.rd b else memDefault := by
  unfold Mem.wipe
  rw [Mem.rd_filter m (fun k => decide (k < a ∨ a + n ≤ k))]
  simp

@[simp] theorem Mem.length_rds (m : Mem) (a n : Nat) : (m.rds a n).length = n := by
  induction n generalizing a with
  | zero => rfl
  | succ n ih => simp [Mem.rds, ih]

/-! ## The canonical form -/

theorem Mem.wf_cons (k : Nat) (v : Byte) (m : Mem) :
    Mem.wf ((k, v) :: m) = true ↔ v ≠ memDefault ∧ (∀ e ∈ m, k < e.1) ∧ Mem.wf m = true := by
  simp [Mem.wf, and_assoc]

/-- Inserting lists no other address. -/
theorem Mem.mem_ins (m : Mem) (a : Nat) (v : Byte) : ∀ e ∈ m.ins a v, e.1 = a ∨ e ∈ m := by
  induction m with
  | nil => simp [Mem.ins]
  | cons x m ih =>
    obtain ⟨k, w⟩ := x
    unfold Mem.ins
    intro e he
    split at he
    · simp at he ⊢; rcases he with h | h | h <;> simp [h]
    · split at he
      · simp at he ⊢; rcases he with h | h <;> simp [h]
      · simp at he ⊢; rcases he with h | h
        · simp [h]
        · rcases ih e h with h | h <;> simp [h]

/-- Inserting keeps the canonical form. -/
theorem Mem.wf_ins (m : Mem) (a : Nat) (v : Byte) (hv : v ≠ memDefault) (h : m.wf = true) : (m.ins a v).wf = true := by
  induction m with
  | nil => simp [Mem.ins, Mem.wf, hv]
  | cons x m ih =>
    obtain ⟨k, w⟩ := x
    rw [Mem.wf_cons] at h
    obtain ⟨hw, hlt, hm⟩ := h
    unfold Mem.ins
    split
    · next hk =>
      rw [Mem.wf_cons]
      refine ⟨hv, ?_, (Mem.wf_cons k w m).2 ⟨hw, hlt, hm⟩⟩
      intro e he
      rcases List.mem_cons.1 he with h | h
      · simp [h, hk]
      · exact Nat.lt_trans hk (hlt e h)
    · split
      · next _ hk =>
        simp at hk
        subst hk
        exact (Mem.wf_cons k v m).2 ⟨hv, hlt, hm⟩
      · next hk hne =>
        rw [Mem.wf_cons]
        refine ⟨hw, ?_, ih hm⟩
        intro e he
        rcases Mem.mem_ins m a v e he with h | h
        · simp at hne; rw [h]; omega
        · exact hlt e h

/-- Taking bytes off keeps the canonical form. -/
theorem Mem.wf_filter (m : Mem) (p : Host.Cell → Bool) (h : m.wf = true) : Mem.wf (m.filter p) = true := by
  induction m with
  | nil => rfl
  | cons x m ih =>
    obtain ⟨k, w⟩ := x
    rw [Mem.wf_cons] at h
    simp only [List.filter_cons]
    split
    · exact (Mem.wf_cons k w _).2 ⟨h.1, fun e he => h.2.1 e (List.mem_filter.1 he).1, ih h.2.2⟩
    · exact ih h.2.2

/-- A write keeps the canonical form. -/
theorem Mem.wf_wr (m : Mem) (a : Nat) (v : Byte) (h : m.wf = true) : (m.wr a v).wf = true := by
  unfold Mem.wr
  split
  · exact Mem.wf_filter m _ h
  · next hv => exact Mem.wf_ins m a v hv h

/-- A write of several bytes keeps the canonical form. -/
theorem Mem.wf_wrs (l : List Byte) (m : Mem) (a : Nat) (h : m.wf = true) : (m.wrs a l).wf = true := by
  induction l generalizing m a with
  | nil => exact h
  | cons v vs ih => exact ih _ _ (Mem.wf_wr m a v h)

/-- A write of a little-endian value keeps the canonical form. -/
theorem Mem.wf_wrN (m : Mem) (a n v : Nat) (h : m.wf = true) : (m.wrN a n v).wf = true := Mem.wf_wrs _ m a h

/-- Wiping keeps the canonical form. -/
theorem Mem.wf_wipe (m : Mem) (a n : Nat) (h : m.wf = true) : (m.wipe a n).wf = true := Mem.wf_filter m _ h

end Sys2Proof.Machine
end

