-- ==== Sys2Proof/Laws/Crypto.lean ====
section
/-! SUPPORT. What the check functions answer: the length of a hash and of a code, and bytes to words and back. -/
namespace Sys2Proof.Machine

@[simp] theorem leBytes_length (n v : Nat) : (leBytes n v).length = n := by
  induction n generalizing v with
  | zero => rfl
  | succ n ih => simp [leBytes, ih]

@[simp] theorem beBytes_length (n v : Nat) : (beBytes n v).length = n := by simp [beBytes]

theorem leVal_lt (bs : List Byte) : leVal bs < 256 ^ bs.length := by
  induction bs with
  | nil => simp [leVal]
  | cons b bs ih =>
    have := b.isLt
    simp only [leVal, List.length_cons, Nat.pow_succ]
    omega

/-- The little-endian value of bytes spells the same bytes. -/
theorem leBytes_leVal (bs : List Byte) : leBytes bs.length (leVal bs) = bs := by
  induction bs with
  | nil => rfl
  | cons b bs ih =>
    have hb := b.isLt
    have h1 : (b.toNat + 256 * leVal bs) / 256 = leVal bs := by omega
    have h2 : BitVec.ofNat 8 (b.toNat + 256 * leVal bs) = b := by
      apply BitVec.eq_of_toNat_eq
      simp only [BitVec.toNat_ofNat]
      omega
    simp only [leVal, List.length_cons, leBytes, h1, h2, ih]

theorem leVal_leBytes (n v : Nat) : leVal (leBytes n v) = v % 256 ^ n := by
  induction n generalizing v with
  | zero => simp [leBytes, leVal, Nat.mod_one]
  | succ n ih =>
    rw [leBytes, leVal, ih, BitVec.toNat_ofNat, Nat.pow_succ 256 n, Nat.mul_comm (256 ^ n) 256, Nat.mod_mul]

theorem leWords_succ (n : Nat) (l : List Byte) : leWords (n + 1) l = leVal (l.take 4) :: leWords n (l.drop 4) := by
  simp only [leWords, List.range_succ_eq_map, List.map_cons, List.map_map, Function.comp_def, List.drop_drop, Nat.mul_zero, List.drop_zero]
  congr 1
  apply List.map_congr_left
  intro i _
  rw [Nat.mul_succ, Nat.add_comm]

/-- Words of a byte string, spelled as bytes again. -/
theorem wordBytes_leWords (n : Nat) (l : List Byte) (h : l.length = 4 * n) : wordBytes (leWords n l) = l := by
  induction n generalizing l with
  | zero => simp only [Nat.mul_zero, List.length_eq_zero_iff] at h; simp [h, leWords, wordBytes]
  | succ n ih =>
    have h4 : (l.take 4).length = 4 := by simp [List.length_take]; omega
    have hv : leBytes 4 (leVal (l.take 4)) = l.take 4 := by have := leBytes_leVal (l.take 4); rwa [h4] at this
    have hd := ih (l.drop 4) (by simp [h]; omega)
    rw [leWords_succ, wordBytes, List.flatMap_cons, hv]
    rw [wordBytes] at hd
    rw [hd, List.take_append_drop]

theorem shaRound_length (h : List Nat) (k : Nat × Nat) (e : h.length = 8) : (shaRound h k).length = 8 := by
  unfold shaRound
  split
  · rfl
  · exact e

theorem shaRounds_length (l : List (Nat × Nat)) (h : List Nat) (e : h.length = 8) : (l.foldl shaRound h).length = 8 := by
  induction l generalizing h with
  | nil => exact e
  | cons k l ih => exact ih _ (shaRound_length h k e)

theorem shaBlocks_length (n : Nat) (h : List Nat) (bs : List Byte) (e : h.length = 8) : (shaBlocks n h bs).length = 8 := by
  induction n generalizing h bs with
  | zero => exact e
  | succ n ih =>
    refine ih _ _ ?_
    rw [shaBlock]
    simp [List.length_zipWith, e, shaRounds_length]

/-- A hash has 32 bytes. -/
@[simp] theorem sha256_length (bs : List Byte) : (sha256 bs).length = 32 := by
  rw [sha256]
  simp only [List.length_flatMap, beBytes_length, List.map_const', List.sum_replicate, smul_eq_mul]
  rw [shaBlocks_length _ _ _ rfl]

/-- A code has 32 bytes. -/
@[simp] theorem hmac_length (key bs : List Byte) : (hmac key bs).length = 32 := by simp only [hmac, sha256_length]

end Sys2Proof.Machine
end

