-- ==== Sys2Proof/Laws/Registers.lean ====
section
/-! SUPPORT. Laws of the register map: reading a field after writing one. -/
namespace Sys2Proof.Machine

/-- Whether an entry is element `i` of field `r`. -/
def Ent.isAt (e : Ent) (r : Reg) (i : Nat) : Bool := e.reg.id == r.id && e.idx == i

theorem RegMap.get_cons (e : Ent) (m : RegMap) (r : Reg) (i : Nat) :
    RegMap.get (e :: m) r i = if e.isAt r i then e.val else RegMap.get m r i := rfl

/-- An entry put is the one read. -/
theorem RegMap.get_put_self (m : RegMap) (e : Ent) : (m.put e).get e.reg e.idx = e.val := by
  induction m with
  | nil => simp [RegMap.put, RegMap.get]
  | cons x m ih =>
    unfold RegMap.put
    split
    · simp [RegMap.get]
    · next hx => split
                 · simp [RegMap.get]
                 · rw [RegMap.get_cons]
                   have : x.isAt e.reg e.idx = false := by simpa [Ent.isAt] using hx
                   simp [this, ih]

/-- An entry put leaves every other element. -/
theorem RegMap.get_put_ne (m : RegMap) (e : Ent) (r : Reg) (i : Nat) (h : e.isAt r i = false) :
    (m.put e).get r i = m.get r i := by
  induction m with
  | nil => simp [RegMap.put, RegMap.get_cons, h]
  | cons x m ih =>
    unfold RegMap.put
    split
    · next hx =>
      have : x.isAt r i = false := by
        simp [Ent.isAt] at hx h ⊢
        intro h1; rw [hx.2]; exact h (by rw [← hx.1]; exact h1)
      simp [RegMap.get_cons, h, this]
    · split
      · rw [RegMap.get_cons, h]; rfl
      · rw [RegMap.get_cons, RegMap.get_cons, ih]

/-- A filter that keeps every entry of an element leaves its value. -/
theorem RegMap.get_filter_keep (m : RegMap) (p : Ent → Bool) (r : Reg) (i : Nat)
    (h : ∀ e, e.isAt r i = true → p e = true) : RegMap.get (m.filter p) r i = m.get r i := by
  induction m with
  | nil => rfl
  | cons x m ih =>
    rw [RegMap.get_cons]
    by_cases hx : x.isAt r i
    · simp [h x hx, RegMap.get_cons, hx]
    · by_cases hp : p x
      · simp [hp, RegMap.get_cons, hx, ih]
      · simp [hp, hx, ih]

/-- A filter that drops every entry of an element leaves its reset value. -/
theorem RegMap.get_filter_drop (m : RegMap) (p : Ent → Bool) (r : Reg) (i : Nat)
    (h : ∀ e, e.isAt r i = true → p e = false) : RegMap.get (m.filter p) r i = r.resetAt i := by
  induction m with
  | nil => rfl
  | cons x m ih =>
    by_cases hx : x.isAt r i
    · simp [h x hx, ih]
    · by_cases hp : p x
      · simp [hp, RegMap.get_cons, hx, ih]
      · simp [hp, ih]

/-- A field written reads as the value written, modulo its width. -/
@[simp] theorem RegMap.get_set_self (m : RegMap) (r : Reg) (i v : Nat) : (m.set r i v).get r i = v % 2 ^ r.width := by
  unfold RegMap.set
  simp only
  split
  · next h =>
    rw [RegMap.get_filter_drop]
    · simpa using (beq_iff_eq.1 h).symm
    · intro e he; simpa [Ent.isAt] using he
  · exact RegMap.get_put_self m ⟨r, i, v % 2 ^ r.width⟩

/-- Writing a field leaves every other field, and every other element of it. -/
theorem RegMap.get_set_ne (m : RegMap) (r : Reg) (i v : Nat) (r' : Reg) (j : Nat) (h : r.id ≠ r'.id ∨ i ≠ j) :
    (m.set r i v).get r' j = m.get r' j := by
  unfold RegMap.set
  simp only
  have hn : ∀ w, (Ent.isAt ⟨r, i, w⟩ r' j) = false := by
    intro w; simp [Ent.isAt]; intro h1; rcases h with h | h
    · exact absurd h1 h
    · exact h
  split
  · apply RegMap.get_filter_keep
    intro e he
    simp [Ent.isAt] at he ⊢
    rcases h with h | h
    · left; rw [he.1]; exact Ne.symm h
    · right; rw [he.2]; exact Ne.symm h
  · exact RegMap.get_put_ne m _ r' j (hn _)

/-- Writing a field to the value that it has changes no reading. -/
theorem RegMap.get_set_id (m : RegMap) (r : Reg) (i : Nat) (h : m.get r i < 2 ^ r.width) :
    (m.set r i (m.get r i)).get r i = m.get r i := by simp [Nat.mod_eq_of_lt h]

end Sys2Proof.Machine
end

