-- ==== Sys2Proof/Laws/Ops.lean ====
section
/-! SUPPORT. Laws of the shared operations: fields after writes, and everything that an event, a status or a bus error can
change. -/
namespace Sys2Proof.Machine

/-! ## Fields -/

@[simp] theorem Ctl.get_set_self (c : Ctl) (r : Reg) (v i : Nat) : (c.set r v i).get r i = v % 2 ^ r.width :=
  RegMap.get_set_self c.regs r i v

theorem Ctl.get_set_ne (c : Ctl) (r : Reg) (v i : Nat) (r' : Reg) (j : Nat) (h : r.id ≠ r'.id ∨ i ≠ j) :
    (c.set r v i).get r' j = c.get r' j := RegMap.get_set_ne c.regs r i v r' j h

theorem Ctl.is_eq (c : Ctl) (r : Reg) (i : Nat) : c.is r i = (c.get r i != 0) := rfl

/-! ## What an event can change (R411 to R414, R240) -/

/-- `c'` differs from `c` by events only. -/
structure EvtOnly (c c' : Ctl) : Prop where
  shape : c' = { c with regs := c'.regs, out := c'.out, evt := c'.evt, storm := { c.storm with evq := c'.storm.evq, evqLost := c'.storm.evqLost } }
  regs : c.sameRegsBut c' evtFields

theorem EvtOnly.refl (c : Ctl) : EvtOnly c c := ⟨rfl, fun _ _ _ => rfl⟩

theorem EvtOnly.trans {a b c : Ctl} (h : EvtOnly a b) (k : EvtOnly b c) : EvtOnly a c := by
  refine ⟨?_, fun r i hr => (k.regs r i hr).trans (h.regs r i hr)⟩
  rw [k.shape, h.shape]

/-- A write of a field that events own. -/
theorem EvtOnly.set (c : Ctl) (r : Reg) (v i : Nat) (h : ∃ f ∈ evtFields, f.id = r.id) : EvtOnly c (c.set r v i) := by
  refine ⟨rfl, fun r' j hr => ?_⟩
  obtain ⟨f, hf, he⟩ := h
  exact Ctl.get_set_ne c r v i r' j (.inl (he ▸ hr f hf))

theorem EvtOnly.of_evt (c : Ctl) (e : EvtSt) : EvtOnly c { c with evt := e } := ⟨rfl, fun _ _ _ => rfl⟩

theorem EvtOnly.emit (c : Ctl) (o : Output) : EvtOnly c (c.emit o) := ⟨rfl, fun _ _ _ => rfl⟩

theorem EvtOnly.when (c : Ctl) (p : Bool) (f : Ctl → Ctl) (h : EvtOnly c (f c)) : EvtOnly c (c.when p f) := by
  unfold Ctl.when; split
  · exact h
  · exact .refl c

theorem EvtOnly.each {α : Type} (l : List α) (f : Ctl → α → Ctl) (h : ∀ c a, EvtOnly c (f c a)) (c : Ctl) :
    EvtOnly c (c.each l f) := by
  induction l generalizing c with
  | nil => exact .refl c
  | cons a l ih => exact (h c a).trans (ih (f c a))

theorem evtOnly_msix (c : Ctl) (fn vec : Nat) : EvtOnly c (c.msix fn vec) := by
  unfold Ctl.msix
  simp only
  repeat' split
  all_goals first | exact .refl c | exact .of_evt c _ | exact .emit c _

theorem evtOnly_signalClass (c : Ctl) (k : Nat) : EvtOnly c (c.signalClass k) := by
  unfold Ctl.signalClass
  exact (EvtOnly.when _ _ _ (evtOnly_msix c _ _)).trans (EvtOnly.when _ _ _ (evtOnly_msix _ _ _))

theorem evtOnly_evtUpdate (c : Ctl) : EvtOnly c c.evtUpdate := by
  unfold Ctl.evtUpdate
  simp only
  refine EvtOnly.trans ?_ (.set _ _ _ _ ⟨R.FIRE_FAULT, by simp [evtFields], rfl⟩)
  refine EvtOnly.trans ?_ (.each _ _ evtOnly_signalClass _)
  exact (EvtOnly.set c R.EVT_GRP_PEND _ 0 ⟨R.EVT_GRP_PEND, by simp [evtFields], rfl⟩).trans
    (.set _ R.EVT_CLASS_PEND _ 0 ⟨R.EVT_CLASS_PEND, by simp [evtFields], rfl⟩)

theorem evtOnly_evtQueue (c : Ctl) (q : List EvRec) : EvtOnly c (c.evtQueue q).1 := by
  unfold Ctl.evtQueue
  simp only
  refine EvtOnly.trans ?_ (.when _ _ _ (.set _ R.EVT_REC_STAT_LO_SEEN _ 0 ⟨R.EVT_REC_STAT_LO_SEEN, by simp [evtFields], rfl⟩))
  refine EvtOnly.trans ?_ (.when _ _ _ (.set _ R.EVT_REC_STAT_HI_SEEN _ 0 ⟨R.EVT_REC_STAT_HI_SEEN, by simp [evtFields], rfl⟩))
  exact (EvtOnly.of_evt c _).trans (.set _ R.EVT_REC_STAT_DEPTH _ 0 ⟨R.EVT_REC_STAT_DEPTH, by simp [evtFields], rfl⟩)

theorem evtOnly_pushRec (c : Ctl) (e : EvRec) : EvtOnly c (c.pushRec e).1 := by
  unfold Ctl.pushRec
  simp only
  split
  · exact (EvtOnly.when _ _ _ (.of_evt c _)).trans (evtOnly_evtQueue _ _)
  · exact ((EvtOnly.when _ _ _ (.of_evt c _)).trans
      (.set _ R.EVT_REC_STAT_LOST _ 0 ⟨R.EVT_REC_STAT_LOST, by simp [evtFields], rfl⟩)).trans (evtOnly_evtQueue _ _)

theorem evtOnly_mkRec (c : Ctl) (s i d : Nat) : EvtOnly c (c.mkRec s i d).2 := .of_evt c _

theorem evtOnly_setPend (c : Ctl) (s : Nat) : EvtOnly c (c.setPend s) :=
  .set _ R.EVT_SRC_PEND _ _ ⟨R.EVT_SRC_PEND, by simp [evtFields], rfl⟩

theorem evtOnly_deliver (c : Ctl) (e : EvRec) : EvtOnly c (c.deliver e) := by
  unfold Ctl.deliver
  simp only
  refine EvtOnly.trans ?_ (evtOnly_evtUpdate _)
  have h := (evtOnly_pushRec c e).trans (evtOnly_setPend _ e.source)
  split
  · exact h.trans ((evtOnly_mkRec _ _ _ _).trans ((evtOnly_pushRec _ _).trans (evtOnly_setPend _ _)))
  · exact h

/-- An event changes the event controller, its registers, FIRE_FAULT.HOST, what is sent out and the storm door's record
queue, and nothing else. -/
theorem evtOnly_raise (c : Ctl) (s i d : Nat) : EvtOnly c (c.raise s i d) := by
  unfold Ctl.raise
  simp only
  split
  · exact .refl c
  · split
    · have h := evtOnly_mkRec c s i d
      split
      · exact h.trans ⟨rfl, fun _ _ _ => rfl⟩
      · exact h.trans ⟨rfl, fun _ _ _ => rfl⟩
    · exact (evtOnly_mkRec c s i d).trans (evtOnly_deliver _ _)

/-- A field that events do not own reads the same after an event. -/
theorem Ctl.get_raise (c : Ctl) (s i d : Nat) (r : Reg) (j : Nat) (h : ∀ f ∈ evtFields, f.id ≠ r.id) :
    (c.raise s i d).get r j = c.get r j := (evtOnly_raise c s i d).regs r j h

/-- A status other than STATE is written into LAST and does nothing else. -/
theorem Ctl.status_ne_one (c : Ctl) (last err : Reg) (ev code i info : Nat) (h : code ≠ 1) :
    c.status last err ev code i info = c.set last code i := by
  simp [Ctl.status, h]

/-- A STATE refusal sets LAST and ERR_STATE and raises the block's event (R10). -/
theorem Ctl.status_one (c : Ctl) (last err : Reg) (ev i info : Nat) :
    c.status last err ev 1 i info = ((c.set last 1 i).set err 1 i).raise ev info := by
  simp [Ctl.status]

end Sys2Proof.Machine
end

