-- ==== Sys2Proof/Laws/Frames.lean ====
section
/-! SUPPORT. Which register fields each shared operation may change, one lemma for each: every field outside its list reads as
before. The lists compose with `sameRegsBut_trans`. -/
namespace Sys2Proof.Machine

theorem Ctl.sameRegsBut_refl (c : Ctl) (l : List Reg) : c.sameRegsBut c l := fun _ _ _ => rfl

theorem Ctl.sameRegsBut_mono {c c' : Ctl} {l m : List Reg} (h : c.sameRegsBut c' l) (s : ∀ f ∈ l, f ∈ m) : c.sameRegsBut c' m :=
  fun r i k => h r i (fun f hf => k f (s f hf))

theorem Ctl.sameRegsBut_trans {a b c : Ctl} {l : List Reg} (h : a.sameRegsBut b l) (k : b.sameRegsBut c l) : a.sameRegsBut c l :=
  fun r i n => (k r i n).trans (h r i n)

theorem Ctl.sameRegsBut_of_regs {c c' : Ctl} (l : List Reg) (h : c'.regs = c.regs) : c.sameRegsBut c' l :=
  fun r i _ => by simp [Ctl.get, h]

theorem Ctl.sameRegsBut_set (c : Ctl) (r : Reg) (v i : Nat) (l : List Reg) (h : r ∈ l) : c.sameRegsBut (c.set r v i) l :=
  fun r' j k => Ctl.get_set_ne c r v i r' j (.inl (k r h))

theorem Ctl.sameRegsBut_when (c : Ctl) (p : Bool) (f : Ctl → Ctl) (l : List Reg) (h : c.sameRegsBut (f c) l) :
    c.sameRegsBut (c.when p f) l := by
  cases p
  · exact c.sameRegsBut_refl l
  · exact h

theorem Ctl.sameRegsBut_each {α : Type} (xs : List α) (f : Ctl → α → Ctl) (l : List Reg) (h : ∀ (c : Ctl) a, a ∈ xs → c.sameRegsBut (f c a) l)
    (c : Ctl) : c.sameRegsBut (c.each xs f) l := by
  induction xs generalizing c with
  | nil => exact c.sameRegsBut_refl l
  | cons x xs ih =>
    exact Ctl.sameRegsBut_trans (h c x (List.mem_cons_self ..)) (ih (fun c a ha => h c a (List.mem_cons_of_mem _ ha)) (f c x))

/-- An event changes the event registers alone (R411 to R414). -/
theorem Ctl.sameRegsBut_raise (c : Ctl) (s i d : Nat) (l : List Reg) (h : ∀ f ∈ evtFields, f ∈ l) : c.sameRegsBut (c.raise s i d) l :=
  fun r j k => Ctl.get_raise c s i d r j (fun f hf => k f (h f hf))

theorem Ctl.sameRegsBut_emit (c : Ctl) (o : Output) (l : List Reg) : c.sameRegsBut (c.emit o) l := fun _ _ _ => rfl

/-! ## Statuses and refusals (R10, R248) -/

theorem Ctl.sameRegsBut_status (c : Ctl) (last err : Reg) (ev code i info : Nat) :
    c.sameRegsBut (c.status last err ev code i info) ([last, err] ++ evtFields) := by
  unfold Ctl.status
  have h1 : c.sameRegsBut (c.set last code i) ([last, err] ++ evtFields) := c.sameRegsBut_set _ _ _ _ (by simp)
  split
  · exact Ctl.sameRegsBut_trans h1 (Ctl.sameRegsBut_trans (Ctl.sameRegsBut_set _ _ _ _ _ (by simp)) (Ctl.sameRegsBut_raise _ _ _ _ _ (by simp_all)))
  · exact h1

theorem Ctl.sameRegsBut_refuse (c : Ctl) (err : Reg) (ev i info : Nat) : c.sameRegsBut (c.refuse err ev i info) (err :: evtFields) :=
  Ctl.sameRegsBut_trans (Ctl.sameRegsBut_set _ _ _ _ _ (by simp)) (Ctl.sameRegsBut_raise _ _ _ _ _ (fun f hf => by simp [hf]))

theorem Ctl.sameRegsBut_hngRefuse (c : Ctl) (code : Nat) :
    c.sameRegsBut (c.hngRefuse code) ([R.HNG_STATUS_ERR_STATE, R.HNG_STATUS_JOURNAL_FULL_SEEN] ++ evtFields) := by
  unfold Ctl.hngRefuse
  split
  · exact Ctl.sameRegsBut_trans (Ctl.sameRegsBut_set _ _ _ _ _ (by simp)) (Ctl.sameRegsBut_raise _ _ _ _ _ (fun f hf => by simp [hf]))
  · exact Ctl.sameRegsBut_set _ _ _ _ _ (by simp)

/-- A standby refuses a mirrored write of anyone but the keeper (R248). -/
theorem Ctl.hngGate_standby (c : Ctl) (m : Master) (a d : Nat) (last : Option (Reg × Nat)) (f : Ctl → Ctl)
    (h : c.get R.HNG_STATUS_ROLE = 3) (k : m ≠ .keeper) :
    c.hngGate m a d last f = match last with | none => c.hngRefuse 1 | some r => (c.hngRefuse 1).set r.1 1 r.2 := by
  have hb : c.hngBar m = 1 := by simp [Ctl.hngBar, h, k]
  simp only [Ctl.hngGate, hb]
  rfl

/-- A module that is neither active nor standby lets every write through (R248). -/
theorem Ctl.hngGate_alone (c : Ctl) (m : Master) (a d : Nat) (last : Option (Reg × Nat)) (f : Ctl → Ctl)
    (h2 : c.get R.HNG_STATUS_ROLE ≠ 2) (h3 : c.get R.HNG_STATUS_ROLE ≠ 3) : c.hngGate m a d last f = f c := by
  have hb : c.hngBar m = 0 := by simp [Ctl.hngBar, h2, h3]
  have hj : c.jot 0 (a / 4) d = c := by simp [Ctl.jot, h2]
  simp only [Ctl.hngGate, hb, if_true, hj]
  cases last <;> simp

theorem Ctl.ifSecure_true (c : Ctl) (m : Master) (a : Nat) (f : Ctl → Ctl) (h : c.secure m = true) : c.ifSecure m a f = f c := by
  simp [Ctl.ifSecure, h]

theorem Ctl.ifSecure_false (c : Ctl) (m : Master) (a : Nat) (f : Ctl → Ctl) (h : c.secure m = false) : c.ifSecure m a f = c.denied m a := by
  simp [Ctl.ifSecure, h]

/-! ## Bus errors (R374) -/

/-- The fields that a bus error can change. -/
def mtxFields : List Reg :=
  [R.MTX_STATUS_DENIED_SEEN, R.MTX_STATUS_DECERR_SEEN, R.MTX_STATUS_TIMEOUT_SEEN, R.MTX_DENIED_COUNT, R.MTX_DECERR_COUNT,
    R.MTX_TIMEOUT_COUNT, R.MTX_CAP_ADDR_ADDR, R.MTX_CAP_INFO_MASTER, R.MTX_CAP_INFO_TARGET, R.MTX_CAP_INFO_WRITE, R.MTX_CAP_INFO_KIND,
    R.MTX_CAP_INFO_CLASS]

theorem Ctl.sameRegsBut_mtxFault (c : Ctl) (kind : Nat) (m : Master) (a : Nat) (w : Bool) (t : Nat) :
    c.sameRegsBut (c.mtxFault kind m a w t) (mtxFields ++ evtFields) := by
  unfold Ctl.mtxFault
  refine Ctl.sameRegsBut_trans ?_ (Ctl.sameRegsBut_raise _ _ _ _ _ (fun f hf => by simp [hf]))
  refine Ctl.sameRegsBut_trans (b := Ctl.set _ _ _ _) (Ctl.sameRegsBut_trans (b := Ctl.when _ _ _) (Ctl.sameRegsBut_when _ _ _ _ ?_)
    (Ctl.sameRegsBut_set _ _ _ _ _ ?_)) (Ctl.sameRegsBut_set _ _ _ _ _ ?_)
  · iterate 5 refine Ctl.sameRegsBut_trans ?_ (Ctl.sameRegsBut_set _ _ _ _ _ (by simp [mtxFields]))
    exact Ctl.sameRegsBut_set _ _ _ _ _ (by simp [mtxFields])
  · split <;> [skip; split] <;> simp [mtxFields]
  · split <;> [skip; split] <;> simp [mtxFields]

theorem Ctl.sameRegsBut_denied (c : Ctl) (m : Master) (a : Nat) : c.sameRegsBut (c.denied m a) (mtxFields ++ evtFields) :=
  c.sameRegsBut_mtxFault 1 m a true _

theorem Ctl.sameRegsBut_decerr (c : Ctl) (m : Master) (a : Nat) (w : Bool) : c.sameRegsBut (c.decerr m a w) (mtxFields ++ evtFields) :=
  c.sameRegsBut_mtxFault 2 m a w _

/-! ## Words, the ledger's display and the fire panel -/

theorem Ctl.sameRegsBut_store (c : Ctl) (fields : List Reg) (i d : Nat) : c.sameRegsBut (c.store fields i d) fields := by
  refine Ctl.sameRegsBut_each _ _ _ (fun c r hr => ?_) c
  split
  · exact Ctl.sameRegsBut_set _ _ _ _ _ hr
  · exact Ctl.sameRegsBut_set _ _ _ _ _ hr
  · exact Ctl.sameRegsBut_refl _ _

/-- What the ledger shows (R33, R36). -/
theorem Ctl.sameRegsBut_ledgShow (c : Ctl) :
    c.sameRegsBut c.ledgShow [R.LEDG_COMMIT_T, R.LEDG_COMMIT_BUDGET, R.LEDG_ENV_ENV, R.LEDG_ENV_OBJ] := by
  unfold Ctl.ledgShow
  refine Ctl.sameRegsBut_trans (b := Ctl.set _ _ _ _) ?_ (Ctl.sameRegsBut_each _ _ _ (fun c k _ => ?_) _)
  · exact Ctl.sameRegsBut_trans (Ctl.sameRegsBut_set _ _ _ _ _ (by simp)) (Ctl.sameRegsBut_set _ _ _ _ _ (by simp))
  · exact Ctl.sameRegsBut_trans (Ctl.sameRegsBut_set _ _ _ _ _ (by simp)) (Ctl.sameRegsBut_set _ _ _ _ _ (by simp))

theorem Ctl.sameRegsBut_faults (c : Ctl) : c.sameRegsBut c.faults [R.FIRE_FAULT] := Ctl.sameRegsBut_set _ _ _ _ _ (by simp)

theorem Ctl.sameRegsBut_allLinks (c : Ctl) :
    c.sameRegsBut c.allLinks ([R.STORM_STATUS_ALL_LINKS, R.STORM_STATUS_SAFE_CLK] ++ evtFields) := by
  unfold Ctl.allLinks
  split
  · exact Ctl.sameRegsBut_refl _ _
  · exact Ctl.sameRegsBut_trans (Ctl.sameRegsBut_trans (Ctl.sameRegsBut_set _ _ _ _ _ (by simp)) (Ctl.sameRegsBut_set _ _ _ _ _ (by simp)))
      (Ctl.sameRegsBut_raise _ _ _ _ _ (fun f hf => by simp [hf]))

/-- A cancelled scene switch (R73). -/
theorem Ctl.sameRegsBut_cancelSwitch (c : Ctl) :
    c.sameRegsBut c.cancelSwitch ([R.SYS_SCENE_PENDING, R.SYS_SCENE_WIN, R.SYS_SCENE_LAST_SW, R.SYS_SCENE_CANCEL_SEEN] ++ evtFields) := by
  unfold Ctl.cancelSwitch
  split
  · exact Ctl.sameRegsBut_refl _ _
  · refine Ctl.sameRegsBut_trans (b := Ctl.set _ _ _ _) ?_ (Ctl.sameRegsBut_raise _ _ _ _ _ (fun f hf => by simp [hf]))
    refine Ctl.sameRegsBut_trans (Ctl.sameRegsBut_trans (Ctl.sameRegsBut_trans (Ctl.sameRegsBut_trans ?_
      (Ctl.sameRegsBut_set _ _ _ _ _ (by simp))) (Ctl.sameRegsBut_set _ _ _ _ _ (by simp)))
      (Ctl.sameRegsBut_set _ _ _ _ _ (by simp))) (Ctl.sameRegsBut_set _ _ _ _ _ (by simp))
    exact Ctl.sameRegsBut_of_regs _ rfl

/-! ## Programmes and zones of the storm door (R230, R234) -/

/-- The fields that the programmes show in. -/
def progFields : List Reg := [R.STORM_CAUSE_PLAN, R.STORM_CAUSE_NOPLAN, R.STORM_STATUS_VOICE_SEEN] ++ evtFields

theorem Ctl.sameRegsBut_showProg (c : Ctl) : c.sameRegsBut c.showProg progFields := by
  unfold Ctl.showProg
  have h := Ctl.sameRegsBut_each c.drivenZones (fun c z =>
      (c.set R.STORM_CAUSE_PLAN ((c.zonePlan z).getD 0) z).set R.STORM_CAUSE_NOPLAN (b2n (c.zonePlan z).isNone) z) progFields
    (fun c z _ => Ctl.sameRegsBut_trans (Ctl.sameRegsBut_set _ _ _ _ _ (by simp [progFields]))
      (Ctl.sameRegsBut_set _ _ _ _ _ (by simp [progFields]))) c
  refine Ctl.sameRegsBut_trans h ?_
  dsimp only
  generalize c.each c.drivenZones _ = e
  refine Ctl.sameRegsBut_trans ?_ (Ctl.sameRegsBut_each _ _ _ (fun c p _ => Ctl.sameRegsBut_trans
    (Ctl.sameRegsBut_set _ _ _ _ _ (by simp [progFields])) (Ctl.sameRegsBut_raise _ _ _ _ _ (fun f hf => by simp [progFields, hf]))) _)
  exact Ctl.sameRegsBut_of_regs _ rfl

/-- The fields that taking zones can change. -/
def takeFields : List Reg :=
  [R.ZONE_OWNER, R.STORM_OWNER, R.STORM_CAUSE_CAUSE, R.STORM_CAUSE_RETURNING, R.STORM_CAUSE_CHECKED, R.STORM_STATUS_ENGAGE_SEEN,
    R.STORM_STATUS_ZONES, R.FIRE_FAULT] ++ progFields

theorem Ctl.sameRegsBut_takeAs (c : Ctl) (cause : Nat) (zs : List Nat) : c.sameRegsBut (c.takeAs cause zs) takeFields := by
  unfold Ctl.takeAs
  dsimp only
  split
  · exact Ctl.sameRegsBut_of_regs _ rfl
  · refine Ctl.sameRegsBut_trans ?_ (Ctl.sameRegsBut_mono (Ctl.sameRegsBut_showProg _) (fun f hf => by simp [takeFields, hf]))
    refine Ctl.sameRegsBut_trans ?_ (Ctl.sameRegsBut_mono (Ctl.sameRegsBut_faults _) (fun f hf => by simp_all [takeFields]))
    refine Ctl.sameRegsBut_trans ?_ (Ctl.sameRegsBut_raise _ _ _ _ _ (fun f hf => by simp [takeFields, progFields, hf]))
    refine Ctl.sameRegsBut_trans ?_ (Ctl.sameRegsBut_set _ _ _ _ _ (by simp [takeFields]))
    refine Ctl.sameRegsBut_trans ?_ (Ctl.sameRegsBut_set _ _ _ _ _ (by simp [takeFields]))
    refine Ctl.sameRegsBut_trans (b := { c with storm := _ }) (Ctl.sameRegsBut_of_regs _ rfl) (Ctl.sameRegsBut_each _ _ _ (fun c z _ => ?_) _)
    have h : ∀ (v w : Nat) (p : Bool), c.sameRegsBut (((((c.set R.ZONE_OWNER 1 z).set R.STORM_OWNER v w).when p
        (·.set R.STORM_CAUSE_CAUSE cause z)).set R.STORM_CAUSE_RETURNING 0 z).set R.STORM_CAUSE_CHECKED 0 z) takeFields := by
      intro v w p
      refine Ctl.sameRegsBut_trans ?_ (Ctl.sameRegsBut_set _ _ _ _ _ (by simp [takeFields]))
      refine Ctl.sameRegsBut_trans ?_ (Ctl.sameRegsBut_set _ _ _ _ _ (by simp [takeFields]))
      refine Ctl.sameRegsBut_trans ?_ (Ctl.sameRegsBut_when _ _ _ _ (Ctl.sameRegsBut_set _ _ _ _ _ (by simp [takeFields])))
      exact Ctl.sameRegsBut_trans (Ctl.sameRegsBut_set _ _ _ _ _ (by simp [takeFields])) (Ctl.sameRegsBut_set _ _ _ _ _ (by simp [takeFields]))
    exact fun r i k => h _ _ _ r i k

theorem Ctl.sameRegsBut_takeZones (c : Ctl) (cause : Nat) (zs : List Nat) : c.sameRegsBut (c.takeZones cause zs) takeFields := by
  unfold Ctl.takeZones
  split
  · exact Ctl.sameRegsBut_refl _ _
  · exact Ctl.sameRegsBut_takeAs _ _ _

end Sys2Proof.Machine
end

