-- ==== Sys2Proof/Laws/State.lean ====
section
/-! SUPPORT. One lemma per field per update of the state, and how a meaning that is run leaves the queue and the memories. -/
namespace Sys2Proof.Machine

@[simp] theorem State.mach_eq (f : Mach → Mach) (s : State) : s.mach f = .next { s with m := f s.m.fresh } := rfl
@[simp] theorem State.ctl_eq (f : Ctl → Ctl) (s : State) :
    s.ctl f = .next { s with m := { s.m with c := f { s.m.c with out := [] } } } := rfl
@[simp] theorem Mach.fresh_m (x : Mach) : x.fresh.m = x.m := rfl
@[simp] theorem Mach.fresh_c (x : Mach) : x.fresh.c = { x.c with out := [] } := rfl

/-! ## Readings that do not depend on what was sent out -/

@[simp] theorem Ctl.get_out (c : Ctl) (o : List Output) (r : Reg) (i : Nat) : ({ c with out := o } : Ctl).get r i = c.get r i := rfl
@[simp] theorem Ctl.is_out (c : Ctl) (o : List Output) (r : Reg) (i : Nat) : ({ c with out := o } : Ctl).is r i = c.is r i := rfl
@[simp] theorem Ctl.seq_out (c : Ctl) (o : List Output) (y : Nat) : ({ c with out := o } : Ctl).seq y = c.seq y := rfl
@[simp] theorem Ctl.stall?_out (c : Ctl) (o : List Output) (n : Nat) : ({ c with out := o } : Ctl).stall? n = c.stall? n := rfl

/-! ## Ctl.set -/

@[simp] theorem Ctl.set_out (c : Ctl) (r : Reg) (v i : Nat) : (c.set r v i).out = c.out := rfl
@[simp] theorem Ctl.set_time (c : Ctl) (r : Reg) (v i : Nat) : (c.set r v i).time = c.time := rfl
@[simp] theorem Ctl.set_evt (c : Ctl) (r : Reg) (v i : Nat) : (c.set r v i).evt = c.evt := rfl
@[simp] theorem Ctl.set_win (c : Ctl) (r : Reg) (v i : Nat) : (c.set r v i).win = c.win := rfl
@[simp] theorem Ctl.set_ledg (c : Ctl) (r : Reg) (v i : Nat) : (c.set r v i).ledg = c.ledg := rfl
@[simp] theorem Ctl.set_tab (c : Ctl) (r : Reg) (v i : Nat) : (c.set r v i).tab = c.tab := rfl
@[simp] theorem Ctl.set_fire (c : Ctl) (r : Reg) (v i : Nat) : (c.set r v i).fire = c.fire := rfl
@[simp] theorem Ctl.set_storm (c : Ctl) (r : Reg) (v i : Nat) : (c.set r v i).storm = c.storm := rfl
@[simp] theorem Ctl.set_fab (c : Ctl) (r : Reg) (v i : Nat) : (c.set r v i).fab = c.fab := rfl
@[simp] theorem Ctl.set_src (c : Ctl) (r : Reg) (v i : Nat) : (c.set r v i).src = c.src := rfl
@[simp] theorem Ctl.set_fabr (c : Ctl) (r : Reg) (v i : Nat) : (c.set r v i).fabr = c.fabr := rfl
@[simp] theorem Ctl.set_seqs (c : Ctl) (r : Reg) (v i : Nat) : (c.set r v i).seqs = c.seqs := rfl
@[simp] theorem Ctl.set_mbx (c : Ctl) (r : Reg) (v i : Nat) : (c.set r v i).mbx = c.mbx := rfl
@[simp] theorem Ctl.set_hng (c : Ctl) (r : Reg) (v i : Nat) : (c.set r v i).hng = c.hng := rfl
@[simp] theorem Ctl.set_keep (c : Ctl) (r : Reg) (v i : Nat) : (c.set r v i).keep = c.keep := rfl
@[simp] theorem Ctl.set_corr (c : Ctl) (r : Reg) (v i : Nat) : (c.set r v i).corr = c.corr := rfl
@[simp] theorem Ctl.set_clk (c : Ctl) (r : Reg) (v i : Nat) : (c.set r v i).clk = c.clk := rfl
@[simp] theorem Ctl.set_net (c : Ctl) (r : Reg) (v i : Nat) : (c.set r v i).net = c.net := rfl
@[simp] theorem Ctl.set_aud (c : Ctl) (r : Reg) (v i : Nat) : (c.set r v i).aud = c.aud := rfl
@[simp] theorem Ctl.set_amp (c : Ctl) (r : Reg) (v i : Nat) : (c.set r v i).amp = c.amp := rfl
@[simp] theorem Ctl.set_dram (c : Ctl) (r : Reg) (v i : Nat) : (c.set r v i).dram = c.dram := rfl
@[simp] theorem Ctl.set_mtx (c : Ctl) (r : Reg) (v i : Nat) : (c.set r v i).mtx = c.mtx := rfl
@[simp] theorem Ctl.set_mon (c : Ctl) (r : Reg) (v i : Nat) : (c.set r v i).mon = c.mon := rfl
@[simp] theorem Ctl.set_boot (c : Ctl) (r : Reg) (v i : Nat) : (c.set r v i).boot = c.boot := rfl

/-! ## Ctl.emit -/

@[simp] theorem Ctl.emit_regs (c : Ctl) (o : Output) : (c.emit o).regs = c.regs := rfl
@[simp] theorem Ctl.emit_time (c : Ctl) (o : Output) : (c.emit o).time = c.time := rfl
@[simp] theorem Ctl.emit_evt (c : Ctl) (o : Output) : (c.emit o).evt = c.evt := rfl
@[simp] theorem Ctl.emit_win (c : Ctl) (o : Output) : (c.emit o).win = c.win := rfl
@[simp] theorem Ctl.emit_ledg (c : Ctl) (o : Output) : (c.emit o).ledg = c.ledg := rfl
@[simp] theorem Ctl.emit_tab (c : Ctl) (o : Output) : (c.emit o).tab = c.tab := rfl
@[simp] theorem Ctl.emit_fire (c : Ctl) (o : Output) : (c.emit o).fire = c.fire := rfl
@[simp] theorem Ctl.emit_storm (c : Ctl) (o : Output) : (c.emit o).storm = c.storm := rfl
@[simp] theorem Ctl.emit_fab (c : Ctl) (o : Output) : (c.emit o).fab = c.fab := rfl
@[simp] theorem Ctl.emit_src (c : Ctl) (o : Output) : (c.emit o).src = c.src := rfl
@[simp] theorem Ctl.emit_fabr (c : Ctl) (o : Output) : (c.emit o).fabr = c.fabr := rfl
@[simp] theorem Ctl.emit_seqs (c : Ctl) (o : Output) : (c.emit o).seqs = c.seqs := rfl
@[simp] theorem Ctl.emit_mbx (c : Ctl) (o : Output) : (c.emit o).mbx = c.mbx := rfl
@[simp] theorem Ctl.emit_hng (c : Ctl) (o : Output) : (c.emit o).hng = c.hng := rfl
@[simp] theorem Ctl.emit_keep (c : Ctl) (o : Output) : (c.emit o).keep = c.keep := rfl
@[simp] theorem Ctl.emit_corr (c : Ctl) (o : Output) : (c.emit o).corr = c.corr := rfl
@[simp] theorem Ctl.emit_clk (c : Ctl) (o : Output) : (c.emit o).clk = c.clk := rfl
@[simp] theorem Ctl.emit_net (c : Ctl) (o : Output) : (c.emit o).net = c.net := rfl
@[simp] theorem Ctl.emit_aud (c : Ctl) (o : Output) : (c.emit o).aud = c.aud := rfl
@[simp] theorem Ctl.emit_amp (c : Ctl) (o : Output) : (c.emit o).amp = c.amp := rfl
@[simp] theorem Ctl.emit_dram (c : Ctl) (o : Output) : (c.emit o).dram = c.dram := rfl
@[simp] theorem Ctl.emit_mtx (c : Ctl) (o : Output) : (c.emit o).mtx = c.mtx := rfl
@[simp] theorem Ctl.emit_mon (c : Ctl) (o : Output) : (c.emit o).mon = c.mon := rfl
@[simp] theorem Ctl.emit_boot (c : Ctl) (o : Output) : (c.emit o).boot = c.boot := rfl
@[simp] theorem Ctl.get_emit (c : Ctl) (o : Output) (r' : Reg) (j : Nat) : (c.emit o).get r' j = c.get r' j := rfl

/-! ## Ctl.setSeq -/

@[simp] theorem Ctl.setSeq_regs (c : Ctl) (y : Nat) (q : SeqSt) : (c.setSeq y q).regs = c.regs := rfl
@[simp] theorem Ctl.setSeq_out (c : Ctl) (y : Nat) (q : SeqSt) : (c.setSeq y q).out = c.out := rfl
@[simp] theorem Ctl.setSeq_time (c : Ctl) (y : Nat) (q : SeqSt) : (c.setSeq y q).time = c.time := rfl
@[simp] theorem Ctl.setSeq_evt (c : Ctl) (y : Nat) (q : SeqSt) : (c.setSeq y q).evt = c.evt := rfl
@[simp] theorem Ctl.setSeq_win (c : Ctl) (y : Nat) (q : SeqSt) : (c.setSeq y q).win = c.win := rfl
@[simp] theorem Ctl.setSeq_ledg (c : Ctl) (y : Nat) (q : SeqSt) : (c.setSeq y q).ledg = c.ledg := rfl
@[simp] theorem Ctl.setSeq_tab (c : Ctl) (y : Nat) (q : SeqSt) : (c.setSeq y q).tab = c.tab := rfl
@[simp] theorem Ctl.setSeq_fire (c : Ctl) (y : Nat) (q : SeqSt) : (c.setSeq y q).fire = c.fire := rfl
@[simp] theorem Ctl.setSeq_storm (c : Ctl) (y : Nat) (q : SeqSt) : (c.setSeq y q).storm = c.storm := rfl
@[simp] theorem Ctl.setSeq_fab (c : Ctl) (y : Nat) (q : SeqSt) : (c.setSeq y q).fab = c.fab := rfl
@[simp] theorem Ctl.setSeq_src (c : Ctl) (y : Nat) (q : SeqSt) : (c.setSeq y q).src = c.src := rfl
@[simp] theorem Ctl.setSeq_fabr (c : Ctl) (y : Nat) (q : SeqSt) : (c.setSeq y q).fabr = c.fabr := rfl
@[simp] theorem Ctl.setSeq_mbx (c : Ctl) (y : Nat) (q : SeqSt) : (c.setSeq y q).mbx = c.mbx := rfl
@[simp] theorem Ctl.setSeq_hng (c : Ctl) (y : Nat) (q : SeqSt) : (c.setSeq y q).hng = c.hng := rfl
@[simp] theorem Ctl.setSeq_keep (c : Ctl) (y : Nat) (q : SeqSt) : (c.setSeq y q).keep = c.keep := rfl
@[simp] theorem Ctl.setSeq_corr (c : Ctl) (y : Nat) (q : SeqSt) : (c.setSeq y q).corr = c.corr := rfl
@[simp] theorem Ctl.setSeq_clk (c : Ctl) (y : Nat) (q : SeqSt) : (c.setSeq y q).clk = c.clk := rfl
@[simp] theorem Ctl.setSeq_net (c : Ctl) (y : Nat) (q : SeqSt) : (c.setSeq y q).net = c.net := rfl
@[simp] theorem Ctl.setSeq_aud (c : Ctl) (y : Nat) (q : SeqSt) : (c.setSeq y q).aud = c.aud := rfl
@[simp] theorem Ctl.setSeq_amp (c : Ctl) (y : Nat) (q : SeqSt) : (c.setSeq y q).amp = c.amp := rfl
@[simp] theorem Ctl.setSeq_dram (c : Ctl) (y : Nat) (q : SeqSt) : (c.setSeq y q).dram = c.dram := rfl
@[simp] theorem Ctl.setSeq_mtx (c : Ctl) (y : Nat) (q : SeqSt) : (c.setSeq y q).mtx = c.mtx := rfl
@[simp] theorem Ctl.setSeq_mon (c : Ctl) (y : Nat) (q : SeqSt) : (c.setSeq y q).mon = c.mon := rfl
@[simp] theorem Ctl.setSeq_boot (c : Ctl) (y : Nat) (q : SeqSt) : (c.setSeq y q).boot = c.boot := rfl
@[simp] theorem Ctl.get_setSeq (c : Ctl) (y : Nat) (q : SeqSt) (r' : Reg) (j : Nat) : (c.setSeq y q).get r' j = c.get r' j := rfl

/-! ## Ctl.setStall -/

@[simp] theorem Ctl.setStall_regs (c : Ctl) (n : Nat) (st : StallSt) : (c.setStall n st).regs = c.regs := rfl
@[simp] theorem Ctl.setStall_out (c : Ctl) (n : Nat) (st : StallSt) : (c.setStall n st).out = c.out := rfl
@[simp] theorem Ctl.setStall_time (c : Ctl) (n : Nat) (st : StallSt) : (c.setStall n st).time = c.time := rfl
@[simp] theorem Ctl.setStall_evt (c : Ctl) (n : Nat) (st : StallSt) : (c.setStall n st).evt = c.evt := rfl
@[simp] theorem Ctl.setStall_win (c : Ctl) (n : Nat) (st : StallSt) : (c.setStall n st).win = c.win := rfl
@[simp] theorem Ctl.setStall_ledg (c : Ctl) (n : Nat) (st : StallSt) : (c.setStall n st).ledg = c.ledg := rfl
@[simp] theorem Ctl.setStall_tab (c : Ctl) (n : Nat) (st : StallSt) : (c.setStall n st).tab = c.tab := rfl
@[simp] theorem Ctl.setStall_fire (c : Ctl) (n : Nat) (st : StallSt) : (c.setStall n st).fire = c.fire := rfl
@[simp] theorem Ctl.setStall_storm (c : Ctl) (n : Nat) (st : StallSt) : (c.setStall n st).storm = c.storm := rfl
@[simp] theorem Ctl.setStall_fab (c : Ctl) (n : Nat) (st : StallSt) : (c.setStall n st).fab = c.fab := rfl
@[simp] theorem Ctl.setStall_src (c : Ctl) (n : Nat) (st : StallSt) : (c.setStall n st).src = c.src := rfl
@[simp] theorem Ctl.setStall_seqs (c : Ctl) (n : Nat) (st : StallSt) : (c.setStall n st).seqs = c.seqs := rfl
@[simp] theorem Ctl.setStall_mbx (c : Ctl) (n : Nat) (st : StallSt) : (c.setStall n st).mbx = c.mbx := rfl
@[simp] theorem Ctl.setStall_hng (c : Ctl) (n : Nat) (st : StallSt) : (c.setStall n st).hng = c.hng := rfl
@[simp] theorem Ctl.setStall_keep (c : Ctl) (n : Nat) (st : StallSt) : (c.setStall n st).keep = c.keep := rfl
@[simp] theorem Ctl.setStall_corr (c : Ctl) (n : Nat) (st : StallSt) : (c.setStall n st).corr = c.corr := rfl
@[simp] theorem Ctl.setStall_clk (c : Ctl) (n : Nat) (st : StallSt) : (c.setStall n st).clk = c.clk := rfl
@[simp] theorem Ctl.setStall_net (c : Ctl) (n : Nat) (st : StallSt) : (c.setStall n st).net = c.net := rfl
@[simp] theorem Ctl.setStall_aud (c : Ctl) (n : Nat) (st : StallSt) : (c.setStall n st).aud = c.aud := rfl
@[simp] theorem Ctl.setStall_amp (c : Ctl) (n : Nat) (st : StallSt) : (c.setStall n st).amp = c.amp := rfl
@[simp] theorem Ctl.setStall_dram (c : Ctl) (n : Nat) (st : StallSt) : (c.setStall n st).dram = c.dram := rfl
@[simp] theorem Ctl.setStall_mtx (c : Ctl) (n : Nat) (st : StallSt) : (c.setStall n st).mtx = c.mtx := rfl
@[simp] theorem Ctl.setStall_mon (c : Ctl) (n : Nat) (st : StallSt) : (c.setStall n st).mon = c.mon := rfl
@[simp] theorem Ctl.setStall_boot (c : Ctl) (n : Nat) (st : StallSt) : (c.setStall n st).boot = c.boot := rfl
@[simp] theorem Ctl.get_setStall (c : Ctl) (n : Nat) (st : StallSt) (r' : Reg) (j : Nat) : (c.setStall n st).get r' j = c.get r' j := rfl

/-! ## Ctl.setStable -/

@[simp] theorem Ctl.setStable_regs (c : Ctl) (n : Nat) (t : StableSt) : (c.setStable n t).regs = c.regs := rfl
@[simp] theorem Ctl.setStable_out (c : Ctl) (n : Nat) (t : StableSt) : (c.setStable n t).out = c.out := rfl
@[simp] theorem Ctl.setStable_time (c : Ctl) (n : Nat) (t : StableSt) : (c.setStable n t).time = c.time := rfl
@[simp] theorem Ctl.setStable_evt (c : Ctl) (n : Nat) (t : StableSt) : (c.setStable n t).evt = c.evt := rfl
@[simp] theorem Ctl.setStable_win (c : Ctl) (n : Nat) (t : StableSt) : (c.setStable n t).win = c.win := rfl
@[simp] theorem Ctl.setStable_ledg (c : Ctl) (n : Nat) (t : StableSt) : (c.setStable n t).ledg = c.ledg := rfl
@[simp] theorem Ctl.setStable_tab (c : Ctl) (n : Nat) (t : StableSt) : (c.setStable n t).tab = c.tab := rfl
@[simp] theorem Ctl.setStable_fire (c : Ctl) (n : Nat) (t : StableSt) : (c.setStable n t).fire = c.fire := rfl
@[simp] theorem Ctl.setStable_storm (c : Ctl) (n : Nat) (t : StableSt) : (c.setStable n t).storm = c.storm := rfl
@[simp] theorem Ctl.setStable_fab (c : Ctl) (n : Nat) (t : StableSt) : (c.setStable n t).fab = c.fab := rfl
@[simp] theorem Ctl.setStable_src (c : Ctl) (n : Nat) (t : StableSt) : (c.setStable n t).src = c.src := rfl
@[simp] theorem Ctl.setStable_seqs (c : Ctl) (n : Nat) (t : StableSt) : (c.setStable n t).seqs = c.seqs := rfl
@[simp] theorem Ctl.setStable_mbx (c : Ctl) (n : Nat) (t : StableSt) : (c.setStable n t).mbx = c.mbx := rfl
@[simp] theorem Ctl.setStable_hng (c : Ctl) (n : Nat) (t : StableSt) : (c.setStable n t).hng = c.hng := rfl
@[simp] theorem Ctl.setStable_keep (c : Ctl) (n : Nat) (t : StableSt) : (c.setStable n t).keep = c.keep := rfl
@[simp] theorem Ctl.setStable_corr (c : Ctl) (n : Nat) (t : StableSt) : (c.setStable n t).corr = c.corr := rfl
@[simp] theorem Ctl.setStable_clk (c : Ctl) (n : Nat) (t : StableSt) : (c.setStable n t).clk = c.clk := rfl
@[simp] theorem Ctl.setStable_net (c : Ctl) (n : Nat) (t : StableSt) : (c.setStable n t).net = c.net := rfl
@[simp] theorem Ctl.setStable_aud (c : Ctl) (n : Nat) (t : StableSt) : (c.setStable n t).aud = c.aud := rfl
@[simp] theorem Ctl.setStable_amp (c : Ctl) (n : Nat) (t : StableSt) : (c.setStable n t).amp = c.amp := rfl
@[simp] theorem Ctl.setStable_dram (c : Ctl) (n : Nat) (t : StableSt) : (c.setStable n t).dram = c.dram := rfl
@[simp] theorem Ctl.setStable_mtx (c : Ctl) (n : Nat) (t : StableSt) : (c.setStable n t).mtx = c.mtx := rfl
@[simp] theorem Ctl.setStable_mon (c : Ctl) (n : Nat) (t : StableSt) : (c.setStable n t).mon = c.mon := rfl
@[simp] theorem Ctl.setStable_boot (c : Ctl) (n : Nat) (t : StableSt) : (c.setStable n t).boot = c.boot := rfl
@[simp] theorem Ctl.get_setStable (c : Ctl) (n : Nat) (t : StableSt) (r' : Reg) (j : Nat) : (c.setStable n t).get r' j = c.get r' j := rfl

/-! ## Ctl.setYard -/

@[simp] theorem Ctl.setYard_regs (c : Ctl) (y : Nat) (t : YardSt) : (c.setYard y t).regs = c.regs := rfl
@[simp] theorem Ctl.setYard_out (c : Ctl) (y : Nat) (t : YardSt) : (c.setYard y t).out = c.out := rfl
@[simp] theorem Ctl.setYard_time (c : Ctl) (y : Nat) (t : YardSt) : (c.setYard y t).time = c.time := rfl
@[simp] theorem Ctl.setYard_evt (c : Ctl) (y : Nat) (t : YardSt) : (c.setYard y t).evt = c.evt := rfl
@[simp] theorem Ctl.setYard_win (c : Ctl) (y : Nat) (t : YardSt) : (c.setYard y t).win = c.win := rfl
@[simp] theorem Ctl.setYard_ledg (c : Ctl) (y : Nat) (t : YardSt) : (c.setYard y t).ledg = c.ledg := rfl
@[simp] theorem Ctl.setYard_tab (c : Ctl) (y : Nat) (t : YardSt) : (c.setYard y t).tab = c.tab := rfl
@[simp] theorem Ctl.setYard_fire (c : Ctl) (y : Nat) (t : YardSt) : (c.setYard y t).fire = c.fire := rfl
@[simp] theorem Ctl.setYard_storm (c : Ctl) (y : Nat) (t : YardSt) : (c.setYard y t).storm = c.storm := rfl
@[simp] theorem Ctl.setYard_fab (c : Ctl) (y : Nat) (t : YardSt) : (c.setYard y t).fab = c.fab := rfl
@[simp] theorem Ctl.setYard_src (c : Ctl) (y : Nat) (t : YardSt) : (c.setYard y t).src = c.src := rfl
@[simp] theorem Ctl.setYard_seqs (c : Ctl) (y : Nat) (t : YardSt) : (c.setYard y t).seqs = c.seqs := rfl
@[simp] theorem Ctl.setYard_mbx (c : Ctl) (y : Nat) (t : YardSt) : (c.setYard y t).mbx = c.mbx := rfl
@[simp] theorem Ctl.setYard_hng (c : Ctl) (y : Nat) (t : YardSt) : (c.setYard y t).hng = c.hng := rfl
@[simp] theorem Ctl.setYard_keep (c : Ctl) (y : Nat) (t : YardSt) : (c.setYard y t).keep = c.keep := rfl
@[simp] theorem Ctl.setYard_corr (c : Ctl) (y : Nat) (t : YardSt) : (c.setYard y t).corr = c.corr := rfl
@[simp] theorem Ctl.setYard_clk (c : Ctl) (y : Nat) (t : YardSt) : (c.setYard y t).clk = c.clk := rfl
@[simp] theorem Ctl.setYard_net (c : Ctl) (y : Nat) (t : YardSt) : (c.setYard y t).net = c.net := rfl
@[simp] theorem Ctl.setYard_aud (c : Ctl) (y : Nat) (t : YardSt) : (c.setYard y t).aud = c.aud := rfl
@[simp] theorem Ctl.setYard_amp (c : Ctl) (y : Nat) (t : YardSt) : (c.setYard y t).amp = c.amp := rfl
@[simp] theorem Ctl.setYard_dram (c : Ctl) (y : Nat) (t : YardSt) : (c.setYard y t).dram = c.dram := rfl
@[simp] theorem Ctl.setYard_mtx (c : Ctl) (y : Nat) (t : YardSt) : (c.setYard y t).mtx = c.mtx := rfl
@[simp] theorem Ctl.setYard_mon (c : Ctl) (y : Nat) (t : YardSt) : (c.setYard y t).mon = c.mon := rfl
@[simp] theorem Ctl.setYard_boot (c : Ctl) (y : Nat) (t : YardSt) : (c.setYard y t).boot = c.boot := rfl
@[simp] theorem Ctl.get_setYard (c : Ctl) (y : Nat) (t : YardSt) (r' : Reg) (j : Nat) : (c.setYard y t).get r' j = c.get r' j := rfl

/-! ## Ctl.setPlanRt -/

@[simp] theorem Ctl.setPlanRt_regs (c : Ctl) (p : Nat) (r : PlanRt) : (c.setPlanRt p r).regs = c.regs := rfl
@[simp] theorem Ctl.setPlanRt_out (c : Ctl) (p : Nat) (r : PlanRt) : (c.setPlanRt p r).out = c.out := rfl
@[simp] theorem Ctl.setPlanRt_time (c : Ctl) (p : Nat) (r : PlanRt) : (c.setPlanRt p r).time = c.time := rfl
@[simp] theorem Ctl.setPlanRt_evt (c : Ctl) (p : Nat) (r : PlanRt) : (c.setPlanRt p r).evt = c.evt := rfl
@[simp] theorem Ctl.setPlanRt_win (c : Ctl) (p : Nat) (r : PlanRt) : (c.setPlanRt p r).win = c.win := rfl
@[simp] theorem Ctl.setPlanRt_ledg (c : Ctl) (p : Nat) (r : PlanRt) : (c.setPlanRt p r).ledg = c.ledg := rfl
@[simp] theorem Ctl.setPlanRt_tab (c : Ctl) (p : Nat) (r : PlanRt) : (c.setPlanRt p r).tab = c.tab := rfl
@[simp] theorem Ctl.setPlanRt_fire (c : Ctl) (p : Nat) (r : PlanRt) : (c.setPlanRt p r).fire = c.fire := rfl
@[simp] theorem Ctl.setPlanRt_fab (c : Ctl) (p : Nat) (r : PlanRt) : (c.setPlanRt p r).fab = c.fab := rfl
@[simp] theorem Ctl.setPlanRt_src (c : Ctl) (p : Nat) (r : PlanRt) : (c.setPlanRt p r).src = c.src := rfl
@[simp] theorem Ctl.setPlanRt_fabr (c : Ctl) (p : Nat) (r : PlanRt) : (c.setPlanRt p r).fabr = c.fabr := rfl
@[simp] theorem Ctl.setPlanRt_seqs (c : Ctl) (p : Nat) (r : PlanRt) : (c.setPlanRt p r).seqs = c.seqs := rfl
@[simp] theorem Ctl.setPlanRt_mbx (c : Ctl) (p : Nat) (r : PlanRt) : (c.setPlanRt p r).mbx = c.mbx := rfl
@[simp] theorem Ctl.setPlanRt_hng (c : Ctl) (p : Nat) (r : PlanRt) : (c.setPlanRt p r).hng = c.hng := rfl
@[simp] theorem Ctl.setPlanRt_keep (c : Ctl) (p : Nat) (r : PlanRt) : (c.setPlanRt p r).keep = c.keep := rfl
@[simp] theorem Ctl.setPlanRt_corr (c : Ctl) (p : Nat) (r : PlanRt) : (c.setPlanRt p r).corr = c.corr := rfl
@[simp] theorem Ctl.setPlanRt_clk (c : Ctl) (p : Nat) (r : PlanRt) : (c.setPlanRt p r).clk = c.clk := rfl
@[simp] theorem Ctl.setPlanRt_net (c : Ctl) (p : Nat) (r : PlanRt) : (c.setPlanRt p r).net = c.net := rfl
@[simp] theorem Ctl.setPlanRt_aud (c : Ctl) (p : Nat) (r : PlanRt) : (c.setPlanRt p r).aud = c.aud := rfl
@[simp] theorem Ctl.setPlanRt_amp (c : Ctl) (p : Nat) (r : PlanRt) : (c.setPlanRt p r).amp = c.amp := rfl
@[simp] theorem Ctl.setPlanRt_dram (c : Ctl) (p : Nat) (r : PlanRt) : (c.setPlanRt p r).dram = c.dram := rfl
@[simp] theorem Ctl.setPlanRt_mtx (c : Ctl) (p : Nat) (r : PlanRt) : (c.setPlanRt p r).mtx = c.mtx := rfl
@[simp] theorem Ctl.setPlanRt_mon (c : Ctl) (p : Nat) (r : PlanRt) : (c.setPlanRt p r).mon = c.mon := rfl
@[simp] theorem Ctl.setPlanRt_boot (c : Ctl) (p : Nat) (r : PlanRt) : (c.setPlanRt p r).boot = c.boot := rfl
@[simp] theorem Ctl.get_setPlanRt (c : Ctl) (p : Nat) (r : PlanRt) (r' : Reg) (j : Nat) : (c.setPlanRt p r).get r' j = c.get r' j := rfl

/-! ## Ctl.setFeed -/

@[simp] theorem Ctl.setFeed_regs (c : Ctl) (f : Nat) (q : FeedSt) : (c.setFeed f q).regs = c.regs := rfl
@[simp] theorem Ctl.setFeed_out (c : Ctl) (f : Nat) (q : FeedSt) : (c.setFeed f q).out = c.out := rfl
@[simp] theorem Ctl.setFeed_time (c : Ctl) (f : Nat) (q : FeedSt) : (c.setFeed f q).time = c.time := rfl
@[simp] theorem Ctl.setFeed_evt (c : Ctl) (f : Nat) (q : FeedSt) : (c.setFeed f q).evt = c.evt := rfl
@[simp] theorem Ctl.setFeed_win (c : Ctl) (f : Nat) (q : FeedSt) : (c.setFeed f q).win = c.win := rfl
@[simp] theorem Ctl.setFeed_ledg (c : Ctl) (f : Nat) (q : FeedSt) : (c.setFeed f q).ledg = c.ledg := rfl
@[simp] theorem Ctl.setFeed_tab (c : Ctl) (f : Nat) (q : FeedSt) : (c.setFeed f q).tab = c.tab := rfl
@[simp] theorem Ctl.setFeed_fire (c : Ctl) (f : Nat) (q : FeedSt) : (c.setFeed f q).fire = c.fire := rfl
@[simp] theorem Ctl.setFeed_storm (c : Ctl) (f : Nat) (q : FeedSt) : (c.setFeed f q).storm = c.storm := rfl
@[simp] theorem Ctl.setFeed_fab (c : Ctl) (f : Nat) (q : FeedSt) : (c.setFeed f q).fab = c.fab := rfl
@[simp] theorem Ctl.setFeed_src (c : Ctl) (f : Nat) (q : FeedSt) : (c.setFeed f q).src = c.src := rfl
@[simp] theorem Ctl.setFeed_fabr (c : Ctl) (f : Nat) (q : FeedSt) : (c.setFeed f q).fabr = c.fabr := rfl
@[simp] theorem Ctl.setFeed_seqs (c : Ctl) (f : Nat) (q : FeedSt) : (c.setFeed f q).seqs = c.seqs := rfl
@[simp] theorem Ctl.setFeed_mbx (c : Ctl) (f : Nat) (q : FeedSt) : (c.setFeed f q).mbx = c.mbx := rfl
@[simp] theorem Ctl.setFeed_hng (c : Ctl) (f : Nat) (q : FeedSt) : (c.setFeed f q).hng = c.hng := rfl
@[simp] theorem Ctl.setFeed_keep (c : Ctl) (f : Nat) (q : FeedSt) : (c.setFeed f q).keep = c.keep := rfl
@[simp] theorem Ctl.setFeed_clk (c : Ctl) (f : Nat) (q : FeedSt) : (c.setFeed f q).clk = c.clk := rfl
@[simp] theorem Ctl.setFeed_net (c : Ctl) (f : Nat) (q : FeedSt) : (c.setFeed f q).net = c.net := rfl
@[simp] theorem Ctl.setFeed_aud (c : Ctl) (f : Nat) (q : FeedSt) : (c.setFeed f q).aud = c.aud := rfl
@[simp] theorem Ctl.setFeed_amp (c : Ctl) (f : Nat) (q : FeedSt) : (c.setFeed f q).amp = c.amp := rfl
@[simp] theorem Ctl.setFeed_dram (c : Ctl) (f : Nat) (q : FeedSt) : (c.setFeed f q).dram = c.dram := rfl
@[simp] theorem Ctl.setFeed_mtx (c : Ctl) (f : Nat) (q : FeedSt) : (c.setFeed f q).mtx = c.mtx := rfl
@[simp] theorem Ctl.setFeed_mon (c : Ctl) (f : Nat) (q : FeedSt) : (c.setFeed f q).mon = c.mon := rfl
@[simp] theorem Ctl.setFeed_boot (c : Ctl) (f : Nat) (q : FeedSt) : (c.setFeed f q).boot = c.boot := rfl
@[simp] theorem Ctl.get_setFeed (c : Ctl) (f : Nat) (q : FeedSt) (r' : Reg) (j : Nat) : (c.setFeed f q).get r' j = c.get r' j := rfl

/-! ## Ctl.setSess -/

@[simp] theorem Ctl.setSess_regs (c : Ctl) (p : Nat) (q : Session) : (c.setSess p q).regs = c.regs := rfl
@[simp] theorem Ctl.setSess_out (c : Ctl) (p : Nat) (q : Session) : (c.setSess p q).out = c.out := rfl
@[simp] theorem Ctl.setSess_time (c : Ctl) (p : Nat) (q : Session) : (c.setSess p q).time = c.time := rfl
@[simp] theorem Ctl.setSess_evt (c : Ctl) (p : Nat) (q : Session) : (c.setSess p q).evt = c.evt := rfl
@[simp] theorem Ctl.setSess_win (c : Ctl) (p : Nat) (q : Session) : (c.setSess p q).win = c.win := rfl
@[simp] theorem Ctl.setSess_ledg (c : Ctl) (p : Nat) (q : Session) : (c.setSess p q).ledg = c.ledg := rfl
@[simp] theorem Ctl.setSess_tab (c : Ctl) (p : Nat) (q : Session) : (c.setSess p q).tab = c.tab := rfl
@[simp] theorem Ctl.setSess_fire (c : Ctl) (p : Nat) (q : Session) : (c.setSess p q).fire = c.fire := rfl
@[simp] theorem Ctl.setSess_storm (c : Ctl) (p : Nat) (q : Session) : (c.setSess p q).storm = c.storm := rfl
@[simp] theorem Ctl.setSess_fab (c : Ctl) (p : Nat) (q : Session) : (c.setSess p q).fab = c.fab := rfl
@[simp] theorem Ctl.setSess_src (c : Ctl) (p : Nat) (q : Session) : (c.setSess p q).src = c.src := rfl
@[simp] theorem Ctl.setSess_fabr (c : Ctl) (p : Nat) (q : Session) : (c.setSess p q).fabr = c.fabr := rfl
@[simp] theorem Ctl.setSess_seqs (c : Ctl) (p : Nat) (q : Session) : (c.setSess p q).seqs = c.seqs := rfl
@[simp] theorem Ctl.setSess_mbx (c : Ctl) (p : Nat) (q : Session) : (c.setSess p q).mbx = c.mbx := rfl
@[simp] theorem Ctl.setSess_hng (c : Ctl) (p : Nat) (q : Session) : (c.setSess p q).hng = c.hng := rfl
@[simp] theorem Ctl.setSess_corr (c : Ctl) (p : Nat) (q : Session) : (c.setSess p q).corr = c.corr := rfl
@[simp] theorem Ctl.setSess_clk (c : Ctl) (p : Nat) (q : Session) : (c.setSess p q).clk = c.clk := rfl
@[simp] theorem Ctl.setSess_net (c : Ctl) (p : Nat) (q : Session) : (c.setSess p q).net = c.net := rfl
@[simp] theorem Ctl.setSess_aud (c : Ctl) (p : Nat) (q : Session) : (c.setSess p q).aud = c.aud := rfl
@[simp] theorem Ctl.setSess_amp (c : Ctl) (p : Nat) (q : Session) : (c.setSess p q).amp = c.amp := rfl
@[simp] theorem Ctl.setSess_dram (c : Ctl) (p : Nat) (q : Session) : (c.setSess p q).dram = c.dram := rfl
@[simp] theorem Ctl.setSess_mtx (c : Ctl) (p : Nat) (q : Session) : (c.setSess p q).mtx = c.mtx := rfl
@[simp] theorem Ctl.setSess_mon (c : Ctl) (p : Nat) (q : Session) : (c.setSess p q).mon = c.mon := rfl
@[simp] theorem Ctl.setSess_boot (c : Ctl) (p : Nat) (q : Session) : (c.setSess p q).boot = c.boot := rfl
@[simp] theorem Ctl.get_setSess (c : Ctl) (p : Nat) (q : Session) (r' : Reg) (j : Nat) : (c.setSess p q).get r' j = c.get r' j := rfl

/-! ## Ctl.setPort -/

@[simp] theorem Ctl.setPort_regs (c : Ctl) (p : Nat) (q : PortSt) : (c.setPort p q).regs = c.regs := rfl
@[simp] theorem Ctl.setPort_out (c : Ctl) (p : Nat) (q : PortSt) : (c.setPort p q).out = c.out := rfl
@[simp] theorem Ctl.setPort_time (c : Ctl) (p : Nat) (q : PortSt) : (c.setPort p q).time = c.time := rfl
@[simp] theorem Ctl.setPort_evt (c : Ctl) (p : Nat) (q : PortSt) : (c.setPort p q).evt = c.evt := rfl
@[simp] theorem Ctl.setPort_win (c : Ctl) (p : Nat) (q : PortSt) : (c.setPort p q).win = c.win := rfl
@[simp] theorem Ctl.setPort_ledg (c : Ctl) (p : Nat) (q : PortSt) : (c.setPort p q).ledg = c.ledg := rfl
@[simp] theorem Ctl.setPort_tab (c : Ctl) (p : Nat) (q : PortSt) : (c.setPort p q).tab = c.tab := rfl
@[simp] theorem Ctl.setPort_fire (c : Ctl) (p : Nat) (q : PortSt) : (c.setPort p q).fire = c.fire := rfl
@[simp] theorem Ctl.setPort_storm (c : Ctl) (p : Nat) (q : PortSt) : (c.setPort p q).storm = c.storm := rfl
@[simp] theorem Ctl.setPort_fab (c : Ctl) (p : Nat) (q : PortSt) : (c.setPort p q).fab = c.fab := rfl
@[simp] theorem Ctl.setPort_src (c : Ctl) (p : Nat) (q : PortSt) : (c.setPort p q).src = c.src := rfl
@[simp] theorem Ctl.setPort_fabr (c : Ctl) (p : Nat) (q : PortSt) : (c.setPort p q).fabr = c.fabr := rfl
@[simp] theorem Ctl.setPort_seqs (c : Ctl) (p : Nat) (q : PortSt) : (c.setPort p q).seqs = c.seqs := rfl
@[simp] theorem Ctl.setPort_mbx (c : Ctl) (p : Nat) (q : PortSt) : (c.setPort p q).mbx = c.mbx := rfl
@[simp] theorem Ctl.setPort_hng (c : Ctl) (p : Nat) (q : PortSt) : (c.setPort p q).hng = c.hng := rfl
@[simp] theorem Ctl.setPort_keep (c : Ctl) (p : Nat) (q : PortSt) : (c.setPort p q).keep = c.keep := rfl
@[simp] theorem Ctl.setPort_corr (c : Ctl) (p : Nat) (q : PortSt) : (c.setPort p q).corr = c.corr := rfl
@[simp] theorem Ctl.setPort_clk (c : Ctl) (p : Nat) (q : PortSt) : (c.setPort p q).clk = c.clk := rfl
@[simp] theorem Ctl.setPort_aud (c : Ctl) (p : Nat) (q : PortSt) : (c.setPort p q).aud = c.aud := rfl
@[simp] theorem Ctl.setPort_amp (c : Ctl) (p : Nat) (q : PortSt) : (c.setPort p q).amp = c.amp := rfl
@[simp] theorem Ctl.setPort_dram (c : Ctl) (p : Nat) (q : PortSt) : (c.setPort p q).dram = c.dram := rfl
@[simp] theorem Ctl.setPort_mtx (c : Ctl) (p : Nat) (q : PortSt) : (c.setPort p q).mtx = c.mtx := rfl
@[simp] theorem Ctl.setPort_mon (c : Ctl) (p : Nat) (q : PortSt) : (c.setPort p q).mon = c.mon := rfl
@[simp] theorem Ctl.setPort_boot (c : Ctl) (p : Nat) (q : PortSt) : (c.setPort p q).boot = c.boot := rfl
@[simp] theorem Ctl.get_setPort (c : Ctl) (p : Nat) (q : PortSt) (r' : Reg) (j : Nat) : (c.setPort p q).get r' j = c.get r' j := rfl

/-! ## Ctl.setRx -/

@[simp] theorem Ctl.setRx_regs (c : Ctl) (n : Nat) (q : RxSt) : (c.setRx n q).regs = c.regs := rfl
@[simp] theorem Ctl.setRx_out (c : Ctl) (n : Nat) (q : RxSt) : (c.setRx n q).out = c.out := rfl
@[simp] theorem Ctl.setRx_time (c : Ctl) (n : Nat) (q : RxSt) : (c.setRx n q).time = c.time := rfl
@[simp] theorem Ctl.setRx_evt (c : Ctl) (n : Nat) (q : RxSt) : (c.setRx n q).evt = c.evt := rfl
@[simp] theorem Ctl.setRx_win (c : Ctl) (n : Nat) (q : RxSt) : (c.setRx n q).win = c.win := rfl
@[simp] theorem Ctl.setRx_ledg (c : Ctl) (n : Nat) (q : RxSt) : (c.setRx n q).ledg = c.ledg := rfl
@[simp] theorem Ctl.setRx_tab (c : Ctl) (n : Nat) (q : RxSt) : (c.setRx n q).tab = c.tab := rfl
@[simp] theorem Ctl.setRx_fire (c : Ctl) (n : Nat) (q : RxSt) : (c.setRx n q).fire = c.fire := rfl
@[simp] theorem Ctl.setRx_storm (c : Ctl) (n : Nat) (q : RxSt) : (c.setRx n q).storm = c.storm := rfl
@[simp] theorem Ctl.setRx_fab (c : Ctl) (n : Nat) (q : RxSt) : (c.setRx n q).fab = c.fab := rfl
@[simp] theorem Ctl.setRx_src (c : Ctl) (n : Nat) (q : RxSt) : (c.setRx n q).src = c.src := rfl
@[simp] theorem Ctl.setRx_fabr (c : Ctl) (n : Nat) (q : RxSt) : (c.setRx n q).fabr = c.fabr := rfl
@[simp] theorem Ctl.setRx_seqs (c : Ctl) (n : Nat) (q : RxSt) : (c.setRx n q).seqs = c.seqs := rfl
@[simp] theorem Ctl.setRx_mbx (c : Ctl) (n : Nat) (q : RxSt) : (c.setRx n q).mbx = c.mbx := rfl
@[simp] theorem Ctl.setRx_hng (c : Ctl) (n : Nat) (q : RxSt) : (c.setRx n q).hng = c.hng := rfl
@[simp] theorem Ctl.setRx_keep (c : Ctl) (n : Nat) (q : RxSt) : (c.setRx n q).keep = c.keep := rfl
@[simp] theorem Ctl.setRx_corr (c : Ctl) (n : Nat) (q : RxSt) : (c.setRx n q).corr = c.corr := rfl
@[simp] theorem Ctl.setRx_clk (c : Ctl) (n : Nat) (q : RxSt) : (c.setRx n q).clk = c.clk := rfl
@[simp] theorem Ctl.setRx_aud (c : Ctl) (n : Nat) (q : RxSt) : (c.setRx n q).aud = c.aud := rfl
@[simp] theorem Ctl.setRx_amp (c : Ctl) (n : Nat) (q : RxSt) : (c.setRx n q).amp = c.amp := rfl
@[simp] theorem Ctl.setRx_dram (c : Ctl) (n : Nat) (q : RxSt) : (c.setRx n q).dram = c.dram := rfl
@[simp] theorem Ctl.setRx_mtx (c : Ctl) (n : Nat) (q : RxSt) : (c.setRx n q).mtx = c.mtx := rfl
@[simp] theorem Ctl.setRx_mon (c : Ctl) (n : Nat) (q : RxSt) : (c.setRx n q).mon = c.mon := rfl
@[simp] theorem Ctl.setRx_boot (c : Ctl) (n : Nat) (q : RxSt) : (c.setRx n q).boot = c.boot := rfl
@[simp] theorem Ctl.get_setRx (c : Ctl) (n : Nat) (q : RxSt) (r' : Reg) (j : Nat) : (c.setRx n q).get r' j = c.get r' j := rfl

/-! ## Ctl.setTx -/

@[simp] theorem Ctl.setTx_regs (c : Ctl) (n : Nat) (q : TxSt) : (c.setTx n q).regs = c.regs := rfl
@[simp] theorem Ctl.setTx_out (c : Ctl) (n : Nat) (q : TxSt) : (c.setTx n q).out = c.out := rfl
@[simp] theorem Ctl.setTx_time (c : Ctl) (n : Nat) (q : TxSt) : (c.setTx n q).time = c.time := rfl
@[simp] theorem Ctl.setTx_evt (c : Ctl) (n : Nat) (q : TxSt) : (c.setTx n q).evt = c.evt := rfl
@[simp] theorem Ctl.setTx_win (c : Ctl) (n : Nat) (q : TxSt) : (c.setTx n q).win = c.win := rfl
@[simp] theorem Ctl.setTx_ledg (c : Ctl) (n : Nat) (q : TxSt) : (c.setTx n q).ledg = c.ledg := rfl
@[simp] theorem Ctl.setTx_tab (c : Ctl) (n : Nat) (q : TxSt) : (c.setTx n q).tab = c.tab := rfl
@[simp] theorem Ctl.setTx_fire (c : Ctl) (n : Nat) (q : TxSt) : (c.setTx n q).fire = c.fire := rfl
@[simp] theorem Ctl.setTx_storm (c : Ctl) (n : Nat) (q : TxSt) : (c.setTx n q).storm = c.storm := rfl
@[simp] theorem Ctl.setTx_fab (c : Ctl) (n : Nat) (q : TxSt) : (c.setTx n q).fab = c.fab := rfl
@[simp] theorem Ctl.setTx_src (c : Ctl) (n : Nat) (q : TxSt) : (c.setTx n q).src = c.src := rfl
@[simp] theorem Ctl.setTx_fabr (c : Ctl) (n : Nat) (q : TxSt) : (c.setTx n q).fabr = c.fabr := rfl
@[simp] theorem Ctl.setTx_seqs (c : Ctl) (n : Nat) (q : TxSt) : (c.setTx n q).seqs = c.seqs := rfl
@[simp] theorem Ctl.setTx_mbx (c : Ctl) (n : Nat) (q : TxSt) : (c.setTx n q).mbx = c.mbx := rfl
@[simp] theorem Ctl.setTx_hng (c : Ctl) (n : Nat) (q : TxSt) : (c.setTx n q).hng = c.hng := rfl
@[simp] theorem Ctl.setTx_keep (c : Ctl) (n : Nat) (q : TxSt) : (c.setTx n q).keep = c.keep := rfl
@[simp] theorem Ctl.setTx_corr (c : Ctl) (n : Nat) (q : TxSt) : (c.setTx n q).corr = c.corr := rfl
@[simp] theorem Ctl.setTx_clk (c : Ctl) (n : Nat) (q : TxSt) : (c.setTx n q).clk = c.clk := rfl
@[simp] theorem Ctl.setTx_aud (c : Ctl) (n : Nat) (q : TxSt) : (c.setTx n q).aud = c.aud := rfl
@[simp] theorem Ctl.setTx_amp (c : Ctl) (n : Nat) (q : TxSt) : (c.setTx n q).amp = c.amp := rfl
@[simp] theorem Ctl.setTx_dram (c : Ctl) (n : Nat) (q : TxSt) : (c.setTx n q).dram = c.dram := rfl
@[simp] theorem Ctl.setTx_mtx (c : Ctl) (n : Nat) (q : TxSt) : (c.setTx n q).mtx = c.mtx := rfl
@[simp] theorem Ctl.setTx_mon (c : Ctl) (n : Nat) (q : TxSt) : (c.setTx n q).mon = c.mon := rfl
@[simp] theorem Ctl.setTx_boot (c : Ctl) (n : Nat) (q : TxSt) : (c.setTx n q).boot = c.boot := rfl
@[simp] theorem Ctl.get_setTx (c : Ctl) (n : Nat) (q : TxSt) (r' : Reg) (j : Nat) : (c.setTx n q).get r' j = c.get r' j := rfl

/-! ## Ctl.setIn -/

@[simp] theorem Ctl.setIn_regs (c : Ctl) (p : Nat) (a : AudIn) : (c.setIn p a).regs = c.regs := rfl
@[simp] theorem Ctl.setIn_out (c : Ctl) (p : Nat) (a : AudIn) : (c.setIn p a).out = c.out := rfl
@[simp] theorem Ctl.setIn_time (c : Ctl) (p : Nat) (a : AudIn) : (c.setIn p a).time = c.time := rfl
@[simp] theorem Ctl.setIn_evt (c : Ctl) (p : Nat) (a : AudIn) : (c.setIn p a).evt = c.evt := rfl
@[simp] theorem Ctl.setIn_win (c : Ctl) (p : Nat) (a : AudIn) : (c.setIn p a).win = c.win := rfl
@[simp] theorem Ctl.setIn_ledg (c : Ctl) (p : Nat) (a : AudIn) : (c.setIn p a).ledg = c.ledg := rfl
@[simp] theorem Ctl.setIn_tab (c : Ctl) (p : Nat) (a : AudIn) : (c.setIn p a).tab = c.tab := rfl
@[simp] theorem Ctl.setIn_fire (c : Ctl) (p : Nat) (a : AudIn) : (c.setIn p a).fire = c.fire := rfl
@[simp] theorem Ctl.setIn_storm (c : Ctl) (p : Nat) (a : AudIn) : (c.setIn p a).storm = c.storm := rfl
@[simp] theorem Ctl.setIn_fab (c : Ctl) (p : Nat) (a : AudIn) : (c.setIn p a).fab = c.fab := rfl
@[simp] theorem Ctl.setIn_src (c : Ctl) (p : Nat) (a : AudIn) : (c.setIn p a).src = c.src := rfl
@[simp] theorem Ctl.setIn_fabr (c : Ctl) (p : Nat) (a : AudIn) : (c.setIn p a).fabr = c.fabr := rfl
@[simp] theorem Ctl.setIn_seqs (c : Ctl) (p : Nat) (a : AudIn) : (c.setIn p a).seqs = c.seqs := rfl
@[simp] theorem Ctl.setIn_mbx (c : Ctl) (p : Nat) (a : AudIn) : (c.setIn p a).mbx = c.mbx := rfl
@[simp] theorem Ctl.setIn_hng (c : Ctl) (p : Nat) (a : AudIn) : (c.setIn p a).hng = c.hng := rfl
@[simp] theorem Ctl.setIn_keep (c : Ctl) (p : Nat) (a : AudIn) : (c.setIn p a).keep = c.keep := rfl
@[simp] theorem Ctl.setIn_corr (c : Ctl) (p : Nat) (a : AudIn) : (c.setIn p a).corr = c.corr := rfl
@[simp] theorem Ctl.setIn_clk (c : Ctl) (p : Nat) (a : AudIn) : (c.setIn p a).clk = c.clk := rfl
@[simp] theorem Ctl.setIn_net (c : Ctl) (p : Nat) (a : AudIn) : (c.setIn p a).net = c.net := rfl
@[simp] theorem Ctl.setIn_amp (c : Ctl) (p : Nat) (a : AudIn) : (c.setIn p a).amp = c.amp := rfl
@[simp] theorem Ctl.setIn_dram (c : Ctl) (p : Nat) (a : AudIn) : (c.setIn p a).dram = c.dram := rfl
@[simp] theorem Ctl.setIn_mtx (c : Ctl) (p : Nat) (a : AudIn) : (c.setIn p a).mtx = c.mtx := rfl
@[simp] theorem Ctl.setIn_mon (c : Ctl) (p : Nat) (a : AudIn) : (c.setIn p a).mon = c.mon := rfl
@[simp] theorem Ctl.setIn_boot (c : Ctl) (p : Nat) (a : AudIn) : (c.setIn p a).boot = c.boot := rfl
@[simp] theorem Ctl.get_setIn (c : Ctl) (p : Nat) (a : AudIn) (r' : Reg) (j : Nat) : (c.setIn p a).get r' j = c.get r' j := rfl

/-! ## Ctl.raise -/

@[simp] theorem Ctl.raise_time (c : Ctl) (e i d : Nat) : (c.raise e i d).time = c.time := by rw [(evtOnly_raise c e i d).shape]
@[simp] theorem Ctl.raise_win (c : Ctl) (e i d : Nat) : (c.raise e i d).win = c.win := by rw [(evtOnly_raise c e i d).shape]
@[simp] theorem Ctl.raise_ledg (c : Ctl) (e i d : Nat) : (c.raise e i d).ledg = c.ledg := by rw [(evtOnly_raise c e i d).shape]
@[simp] theorem Ctl.raise_tab (c : Ctl) (e i d : Nat) : (c.raise e i d).tab = c.tab := by rw [(evtOnly_raise c e i d).shape]
@[simp] theorem Ctl.raise_fire (c : Ctl) (e i d : Nat) : (c.raise e i d).fire = c.fire := by rw [(evtOnly_raise c e i d).shape]
@[simp] theorem Ctl.raise_fab (c : Ctl) (e i d : Nat) : (c.raise e i d).fab = c.fab := by rw [(evtOnly_raise c e i d).shape]
@[simp] theorem Ctl.raise_src (c : Ctl) (e i d : Nat) : (c.raise e i d).src = c.src := by rw [(evtOnly_raise c e i d).shape]
@[simp] theorem Ctl.raise_fabr (c : Ctl) (e i d : Nat) : (c.raise e i d).fabr = c.fabr := by rw [(evtOnly_raise c e i d).shape]
@[simp] theorem Ctl.raise_seqs (c : Ctl) (e i d : Nat) : (c.raise e i d).seqs = c.seqs := by rw [(evtOnly_raise c e i d).shape]
@[simp] theorem Ctl.raise_mbx (c : Ctl) (e i d : Nat) : (c.raise e i d).mbx = c.mbx := by rw [(evtOnly_raise c e i d).shape]
@[simp] theorem Ctl.raise_hng (c : Ctl) (e i d : Nat) : (c.raise e i d).hng = c.hng := by rw [(evtOnly_raise c e i d).shape]
@[simp] theorem Ctl.raise_keep (c : Ctl) (e i d : Nat) : (c.raise e i d).keep = c.keep := by rw [(evtOnly_raise c e i d).shape]
@[simp] theorem Ctl.raise_corr (c : Ctl) (e i d : Nat) : (c.raise e i d).corr = c.corr := by rw [(evtOnly_raise c e i d).shape]
@[simp] theorem Ctl.raise_clk (c : Ctl) (e i d : Nat) : (c.raise e i d).clk = c.clk := by rw [(evtOnly_raise c e i d).shape]
@[simp] theorem Ctl.raise_net (c : Ctl) (e i d : Nat) : (c.raise e i d).net = c.net := by rw [(evtOnly_raise c e i d).shape]
@[simp] theorem Ctl.raise_aud (c : Ctl) (e i d : Nat) : (c.raise e i d).aud = c.aud := by rw [(evtOnly_raise c e i d).shape]
@[simp] theorem Ctl.raise_amp (c : Ctl) (e i d : Nat) : (c.raise e i d).amp = c.amp := by rw [(evtOnly_raise c e i d).shape]
@[simp] theorem Ctl.raise_dram (c : Ctl) (e i d : Nat) : (c.raise e i d).dram = c.dram := by rw [(evtOnly_raise c e i d).shape]
@[simp] theorem Ctl.raise_mtx (c : Ctl) (e i d : Nat) : (c.raise e i d).mtx = c.mtx := by rw [(evtOnly_raise c e i d).shape]
@[simp] theorem Ctl.raise_mon (c : Ctl) (e i d : Nat) : (c.raise e i d).mon = c.mon := by rw [(evtOnly_raise c e i d).shape]
@[simp] theorem Ctl.raise_boot (c : Ctl) (e i d : Nat) : (c.raise e i d).boot = c.boot := by rw [(evtOnly_raise c e i d).shape]

/-! ## Jobs and sequencers -/

@[simp] theorem Ctl.seq_setSeq (c : Ctl) (y : Nat) (q : SeqSt) : (c.setSeq y q).seq y = q := by simp [Ctl.seq, Ctl.setSeq]
theorem Ctl.seq_setSeq_ne (c : Ctl) {y z : Nat} (q : SeqSt) (h : z ≠ y) : (c.setSeq y q).seq z = c.seq z := by
  simp [Ctl.seq, Ctl.setSeq, kgetD_kput_ne _ _ _ h]
@[simp] theorem Ctl.stall?_setStall (c : Ctl) (n : Nat) (st : StallSt) : (c.setStall n st).stall? n = some st := by
  simp [Ctl.stall?, Ctl.setStall]
theorem Ctl.stall?_setStall_ne (c : Ctl) {n k : Nat} (st : StallSt) (h : k ≠ n) : (c.setStall n st).stall? k = c.stall? k := by
  simp [Ctl.stall?, Ctl.setStall, kget?_kput_ne _ _ h]

end Sys2Proof.Machine
end

