-- ==== Sys2Proof/Laws/Seq.lean ====
section
/-! SUPPORT. Laws of a sequencer's instruction (R187 to R191, R209): what it leaves when it issues, and numbers read as signed. -/
namespace Sys2Proof.Machine

/-- An instruction that issues and succeeds leaves its result in its sequencer, and nothing else. -/
theorem seqOp_ok (k : Issue) (f : SeqSt → SeqRes) (c : Ctl) (q : SeqSt) (h : c.issues k) (hf : f (c.seq k.yard) = .ok q) :
    seqOp k f c = c.setSeq k.yard q := by
  obtain ⟨h1, h2, h3, h4, h5, h6⟩ := h
  have h3' : ¬ 131072 ≤ (c.seq k.yard).pc := by omega
  simp [seqOp, Ctl.seqReady, Ctl.seqEnd, h1, h2, hf, preCauses, h4, h5, h6, h3', worst]

/-- One that issues and meets a cause of its own takes that exception. -/
theorem seqOp_exc (k : Issue) (f : SeqSt → SeqRes) (c : Ctl) (code addr : Nat) (h : c.issues k) (hf : f (c.seq k.yard) = .exc code addr) :
    seqOp k f c = c.seqExc k.yard code addr 0 := by
  obtain ⟨h1, h2, h3, h4, h5, h6⟩ := h
  have h3' : ¬ 131072 ≤ (c.seq k.yard).pc := by omega
  simp [seqOp, Ctl.seqReady, Ctl.seqEnd, h1, h2, hf, preCauses, h4, h5, h6, h3', worst]

/-- A halted or waiting sequencer issues nothing. -/
theorem seqOp_idle (k : Issue) (f : SeqSt → SeqRes) (c : Ctl) (h : c.seqReady k.yard = false) : seqOp k f c = c := by simp [seqOp, h]

theorem ctl_seqOp (k : Issue) (f : SeqSt → SeqRes) (s : State) (q : SeqSt) (h : s.m.c.issues k) (hf : f (s.m.c.seq k.yard) = .ok q) :
    s.ctl (seqOp k f) = .next (s.withSeq k.yard q) := by
  unfold State.ctl
  rw [seqOp_ok k f { s.m.c with out := [] } q h hf]
  rfl

theorem intOp_ok (k : Issue) (rd ra rb : Fin 32) (g : Nat → Nat → Nat) (s : State) (h : s.m.c.issues k) :
    s.ctl (intOp k rd ra rb g) =
      .next (s.withSeq k.yard ((s.m.c.seq k.yard).ws rd (g ((s.m.c.seq k.yard).rs ra) ((s.m.c.seq k.yard).rs rb))).adv) :=
  ctl_seqOp k _ s _ h rfl

/-- A register takes a value modulo 2^32. -/
theorem ws_congr (q : SeqSt) (i v w : Nat) (h : v % 2 ^ 32 = w % 2 ^ 32) : q.ws i v = q.ws i w := by unfold SeqSt.ws; rw [h]

theorem sx_toInt (w : Nat) (a : BitVec w) : sx w a.toNat = a.toInt := by
  unfold sx
  rw [Nat.mod_eq_of_lt a.isLt, BitVec.toInt_eq_toNat_cond]
  rcases Nat.eq_zero_or_pos w with h | h
  · subst h
    have := a.isLt
    simp at this
    simp [this]
  · have : 2 ^ w = 2 * 2 ^ (w - 1) := by rw [← pow_succ']; congr 1; omega
    congr 1
    simp only [eq_iff_iff]
    omega

theorem s32_toInt (a : BitVec 32) : s32 a.toNat = a.toInt := sx_toInt 32 a

theorem ux_eq (w : Nat) (z : Int) : ux w z = (BitVec.ofInt w z).toNat := by simp [ux, BitVec.toNat_ofInt]

end Sys2Proof.Machine
end

