-- ==== Sys2Proof/Laws/Slots.lean ====
section
/-! SUPPORT. Laws of a slot of a stall's bundle (R158 to R163): when it does nothing, and what it collects. -/
namespace Sys2Proof.Machine

/-- A stall that has no granted resource to take up is not woken. -/
theorem Mach.wake_eq (x : Mach) (s : Nat) (h : ∀ st, x.c.stall? s = some st → st.wait ≠ .granted) : x.wake s = x := by
  unfold Mach.wake
  split
  · rfl
  · next st e => simp [h st e]

/-- A stall without a job issues nothing. -/
theorem slotAt_free (k : Slot) (a : StallSt → Nat) (f : Mach → StallSt → List Fx) (x : Mach) (h : x.c.stall? k.stall = none) :
    slotAt k a f x = x := by
  simp only [slotAt, x.wake_eq k.stall (by simp [h]), h]

/-- A stall that waits for a lock or a stream issues nothing. -/
theorem slotAt_waiting (k : Slot) (a : StallSt → Nat) (f : Mach → StallSt → List Fx) (x : Mach) (st : StallSt)
    (h : x.c.stall? k.stall = some st) (w : st.wait ≠ .none) (g : st.wait ≠ .granted) : slotAt k a f x = x := by
  simp [slotAt, x.wake_eq k.stall (by simp [h, g]), h, w]

/-- A slot that is ready adds its effects to those of its bundle, and the last slot of a bundle carries the bundle out. -/
theorem mach_slotAt (k : Slot) (a : StallSt → Nat) (f : Mach → StallSt → List Fx) (s : State) (st : StallSt)
    (h : s.m.c.slotReady k st) : s.mach (slotAt k a f) = .next (s.issued k st (f s.m.fresh st)) := by
  obtain ⟨h1, h2, h3, h4, h5, h6, h7⟩ := h
  have h3' : ¬ 0x40000 ≤ st.pc := by omega
  have h1' : s.m.fresh.c.stall? k.stall = some st := h1
  have hw : s.m.fresh.wake k.stall = s.m.fresh := Mach.wake_eq _ _ (fun u e => by rw [h1'] at e; cases e; simp [h2])
  have he : ∀ n, s.m.fresh.c.storeEcc k.stall n k.ecc = s.m.fresh.c := by intro n; simp [Ctl.storeEcc, h6]
  have hb : s.m.fresh.c.storeBad k.stall st.pc 8 = false := h7
  simp only [State.mach_eq, slotAt, hw, h1', h2, h4, h5, h3', he, hb, State.issued, State.withMach]
  rfl

end Sys2Proof.Machine
end

