-- ==== Sys2Proof/Tests/Slice0.lean ====
section
/-! SUPPORT. Tests of the model, and for every statement with hypotheses a theorem that meets them. -/
namespace Sys2Proof.Tests
open Sys2Proof.Machine

/-- The reset state with some of its control state changed. -/
def stC (f : Ctl → Ctl) : State := { State.reset with m := { State.reset.m with c := f State.reset.m.c } }

/-- The reset state with some register fields set: field, value, index. -/
def st (l : List (Reg × Nat × Nat)) : State := stC fun c => l.foldl (fun c e => c.set e.1 e.2.1 e.2.2) c

/-- Both. -/
def stR (l : List (Reg × Nat × Nat)) (f : Ctl → Ctl) : State := stC fun c => f (l.foldl (fun c e => c.set e.1 e.2.1 e.2.2) c)

set_option maxRecDepth 20000

/-! ## Witnesses: states and operands that meet the hypotheses of each statement -/

theorem witness_QueueStep : State.reset.m.c.time + 5 < 2 ^ 64 ∧ State.reset.m.c.get R.TIME_RATE = 0 ∧ State.reset.m.c.clk.frac < 2 ^ 32 := by
  decide

theorem witness_StepKeepsMemoryForm : State.reset.memWf = true ∧ ∃ t, step State.reset = .next t := ⟨by decide, _, rfl⟩

theorem witness_FlashIsolation : ∃ (s t : State) (l : List Instr), s.pending = l ∧ (∀ p rest, l ≠ .fwUpdateStorm p :: rest) ∧
    (∀ rest, l ≠ .fwUpdateDone :: rest) ∧ step s = .next t :=
  ⟨State.reset, _, [], rfl, by simp, by simp, rfl⟩

theorem witness_EventRecords : (191 < 192 ∧ State.reset.m.c.srcOn 191 = true ∧ State.reset.m.c.fire.dieLost = false ∧
      State.reset.m.c.evt.queue.length < 255 ∧ 191 ≠ Ev.MBX_EVTQ) ∧ (st [(R.EVT_SRC_EN, 0, 0)]).m.c.srcOn 0 = false := by
  decide

theorem witness_RegisterWrites :
    formOk 2 .word = false ∧ formOk 0x400000 .byte = true ∧ inSeqWindow 0x400000 = true ∧ unmapped 0x260000 = true ∧
    (formOk 0x20100 .word = true ∧ inLoftWindow 0x20100 = false ∧ inSeqWindow 0x20100 = false ∧ unmapped 0x20100 = false ∧
      writeClass 0x20100 = .secure ∧ State.reset.m.c.secure .fn0 = false) ∧
    (formOk 0x25FFFC .word = true ∧ unmapped 0x25FFFC = false ∧ inLoftWindow 0x25FFFC = false ∧ inSeqWindow 0x25FFFC = false ∧ writeClass 0x25FFFC ≠ .secure ∧ named 0x25FFFC = false) ∧
    formOk 0x50008 .double = true ∧
    (formOk 0x1FFFFFF .byte = true ∧ inLoftWindow 0x1FFFFFF = true ∧ State.reset.m.c.fabr.loftPoison = []) ∧
    (0x30080 + 4 * 23 = 0x300DC) := by
  decide

theorem witness_HostDramAccess :
    (State.reset.m.c.usable < 2 ^ 40 - 1 + 512) ∧ (State.reset.m.c.usable - 4 + [some (0 : Byte), none].length ≤ State.reset.m.c.usable) ∧
    State.reset.m.c.get R.DRAM_STATUS_MODE = 0 ∧ (st [(R.DRAM_STATUS_MODE, 1, 0)]).m.c.get R.DRAM_STATUS_MODE ≠ 0 ∧
    (st [(R.DRAM_STATUS_MODE, 1, 0)]).m.c.get R.DRAM_STATUS_MODE ≠ 3 ∧ (st [(R.DRAM_STATUS_MODE, 1, 0)]).m.c.dram.bad = [] ∧
    8 < (st [(R.DRAM_STATUS_MODE, 1, 0)]).m.c.usable ∧
    (∀ i < 2, (st [(R.DRAM_STATUS_MODE, 1, 0)]).m.c.unstated (State.reset.m.c.usable - 4 + i) = false ∧
      (st [(R.DRAM_STATUS_MODE, 1, 0)]).m.c.historyByte (State.reset.m.c.usable - 4 + i) = none) := by
  decide

/-- Windows stopped, the clocks locked and the epoch a second ahead. -/
def sReady : State :=
  st [(R.WIN_CLK_STATUS_ROOT_OK, 1, 0), (R.WIN_CLK_STATUS_AUDIO_LOCK, 1, 0), (R.WIN_CLK_STATUS_NET_LOCK, 1, 0),
    (R.WIN_CLK_STATUS_FAB_LOCK, 1, 0), (R.WIN_CLK_STATUS_HOST_LOCK, 1, 0), (R.WIN_EPOCH_LO, 0x3B9ACA00, 0)]

/-- Windows running. -/
def sRun : State := st [(R.WIN_STATUS_RUN, 1, 0)]

/-- An armed module. -/
def sArmed : State := st [(R.SYS_ARM_ARMED, 1, 0)]

theorem witness_ClocksAndWindows :
    (sReady.m.c.is R.WIN_STATUS_RUN = false ∧ sReady.m.c.clocksOk = true ∧ sReady.m.c.epochAhead = true ∧
      sReady.m.c.get R.FAB_STATUS_STATE ≠ 2) ∧ sReady.m.c.is R.WIN_CLK_STATUS_ROOT_OK = true ∧
    State.reset.m.c.is R.WIN_CLK_STATUS_ROOT_OK = false ∧ (1 : Fin 4) ≠ 0 ∧
    (sRun.m.c.is R.WIN_STATUS_RUN = true ∧ sRun.m.c.armed = false) ∧ sArmed.m.c.armed = true := by
  decide

theorem witness_WindowBoundaries :
    (∃ s : State, s.m.c.tab.tickDue = true ∧ s.m.c.win.tickReq = some 15 ∧ s.m.c.win.tickFrom.any (fun w => later w s.m.c.winNo) = false) ∧
    (R.WIN_CTRL_TICK.of (256 * State.reset.m.c.tickNext + 1) = State.reset.m.c.tickNext ∧ State.reset.m.c.is R.WIN_STATUS_RUN = false) ∧
    (R.WIN_CTRL_TICK.of (256 * sRun.m.c.tickNext + 2) = sRun.m.c.tickNext ∧ sRun.m.c.is R.WIN_STATUS_RUN = true ∧
      R.WIN_CTRL_LEN.of (256 * sRun.m.c.tickNext + 2) ≠ sRun.m.c.get R.WIN_CTRL_LEN) ∧
    (∃ s : State, s.m.c.is R.WIN_STATUS_RUN = true ∧ s.m.c.win.stopPending = true) ∧ sRun.m.c.win.stopPending = false ∧
    (State.reset.m.c.win.awaiting = false ∧ State.reset.m.c.tab.tickDue = false) ∧ (∃ c : Ctl, c.win.awaiting = true) ∧
    (∃ c : Ctl, c.tab.firstBoundary = false ∧ c.get R.WIN_TICK_LEN_ACTIVE = 15) ∧
    (sRun.m.c.is R.WIN_STATUS_RUN = true ∧ sRun.m.c.win.awaiting = false) :=
  ⟨⟨stC fun c => { c with tab := { c.tab with tickDue := true }, win := { c.win with tickReq := some 15 } }, by decide⟩, by decide,
    by decide, ⟨stR [(R.WIN_STATUS_RUN, 1, 0)] fun c => { c with win := { c.win with stopPending := true } }, by decide⟩, by decide,
    by decide, ⟨{ ({} : Ctl) with win := { awaiting := true } }, by decide⟩, ⟨(st [(R.WIN_TICK_LEN_ACTIVE, 15, 0)]).m.c, by decide⟩, by decide⟩

/-- On battery, with its warning. -/
def sBatt : State := stR [(R.LEDG_STATUS_BATT_LOW, 1, 0)] fun c => { c with ledg := { c.ledg with mainsOk := false } }

/-- The same with a battery, and a hot supply. -/
def sHot : State := stC fun c => { c with ledg := { c.ledg with mainsOk := false, battPresent := true }, boot := { c.boot with psuHot := true } }

/-- Step 1 of the shedding holds class D's allowance. -/
def sHeld : State := stC fun c => { c with ledg := { c.ledg with shed := [.allow 25] } }

theorem witness_PowerLedger :
    (true ≠ sBatt.m.c.ledg.mainsOk ∧ sBatt.m.c.boot.psuHot = false) ∧
    (State.reset.m.c.ledg.mainsOk = true ∧ State.reset.m.c.ledg.battPresent = false) ∧
    (sHot.m.c.ledg.mainsOk = false ∧ sHot.m.c.boot.psuHot = true ∧ sHot.m.c.ledg.battPresent = true ∧ sHot.m.c.ledg.battOpen = false) ∧
    (true ≠ State.reset.m.c.ledg.battPresent) ∧
    ((stC fun c => { c with ledg := { c.ledg with mainsOk := false } }).m.c.ledg.mainsOk = false ∧
      (stC fun c => { c with ledg := { c.ledg with mainsOk := false } }).m.c.is R.LEDG_STATUS_BATT_LOW = false) ∧
    sBatt.m.c.is R.LEDG_STATUS_BATT_LOW = true ∧
    (.allow 25 ∈ sHeld.m.c.ledg.shed ∧ sHeld.m.c.get R.LEDG_JOB_ALLOW_ALLOW 3 < R.LEDG_JOB_ALLOW_ALLOW.of 30 ∧
      R.LEDG_JOB_ALLOW_ALLOW.of 0 ≤ sHeld.m.c.get R.LEDG_JOB_ALLOW_ALLOW 3) ∧
    (State.reset.m.c.ledg.shed = [] ∧ R.LEDG_JOB_ALLOW_ALLOW.of (State.reset.m.c.get R.LEDG_JOB_ALLOW_ALLOW 3) ≤
      State.reset.m.c.get R.LEDG_JOB_ALLOW_ALLOW 3) ∧
    (∀ v, v = State.reset.m.c.get R.LEDG_JOB_ALLOW_ALLOW 3 + 1 → R.LEDG_JOB_ALLOW_ALLOW.of v = v ∧
      (st [(R.LEDG_CLASS_CAP_CAP, 2047, 3)]).m.c.envelope false false 3 + (st [(R.LEDG_CLASS_CAP_CAP, 2047, 3)]).m.c.scaled false 16 ≤
        16 * (st [(R.LEDG_CLASS_CAP_CAP, 2047, 3)]).m.c.get R.LEDG_CLASS_CAP_CAP 3 ∧
      (st [(R.LEDG_CLASS_CAP_CAP, 0, 3)]).m.c.get R.LEDG_CLASS_CAP_CAP 3 = 0) ∧
    (State.reset.m.c.secure .keeper = true ∧ State.reset.m.c.armed = false ∧
      inRange (R.fieldsLEDG.filter (fun r => r.addr == 0x20100 + 4 * 3)) 0 = true) ∧
    State.reset.m.c.secure .fn0 = false ∧ Master.fn0 ≠ .keeper := by
  refine ⟨by decide, by decide, by decide, by decide, by decide, by decide, by decide, by decide, ?_, by decide, by decide, by decide⟩
  rintro v rfl
  decide

/-- A hinge standby. -/
def sStandby : State := st [(R.HNG_STATUS_ROLE, 3, 0)]

theorem witness_TableEntryWrites :
    (State.reset.m.c.get R.HNG_STATUS_ROLE = 0 ∧ State.reset.m.c.switching = false ∧ 1023 < State.reset.m.c.objCount ∧
      roWord (objWord 13) = false ∧ inRange (objWord 13) 0 = true ∧
      State.reset.m.c.changes ((objWord 13).filter (·.isIn objLocked)) 1023 0 = false ∧
      State.reset.m.c.is R.OBJ_GLOBAL 1023 = false ∧ roWord (objWord 15) = true) ∧
    (roWord (srcWord 7) = true ∧ roWord (srcWord 4) = false ∧ State.reset.m.c.is R.SRC_EN 255 = false) ∧
    (roWord (feedFields 15) = true ∧ roWord (feedFields 9) = false ∧ 767 < State.reset.m.c.feedCount ∧
      inRange (feedFields 9) 0xFFFFFFFF = true ∧ State.reset.m.c.breaksScene (feedFields 9) 767 0xFFFFFFFF = false) ∧
    (roWord (zoneFields 15) = true ∧ roWord (zoneFields 9) = false ∧ inRange (zoneFields 9) 0xFFFFFFFF = true ∧
      State.reset.m.c.breaksScene (zoneFields 9) 127 0xFFFFFFFF = false) ∧
    (State.reset.m.c.secure .keeper = true ∧ roWord (planFields 11) = false ∧ roWord (planFields 0) = false ∧
      inRange (planFields 11) 0xFFFFFFFF = true ∧ inRange (planFields 0) 0 = true ∧ State.reset.m.c.get R.PLAN_STATE 63 = 0) ∧
    (R.SYS_LAW_C_SOUND.of (33000 + 2000 * 65536) = 33000 ∧ R.SYS_LAW_AIR_F.of (33000 + 2000 * 65536) = 2000) ∧
    (sStandby.m.c.get R.HNG_STATUS_ROLE = 3 ∧ Master.fn1 ≠ .keeper) := by
  decide

theorem witness_PlanEntryBusy : (st [(R.PLAN_STATE, 1, 63)]).m.c.secure .keeper = true ∧
    (st [(R.PLAN_STATE, 1, 63)]).m.c.get R.PLAN_STATE 63 ≠ 0 ∧ (st [(R.PLAN_STATE, 1, 63)]).m.c.hngBar .keeper = 0 ∧
    roWord (planFields 11) = false ∧ roWord (planFields 15) = true := by
  decide

theorem witness_ObjectActivation :
    (State.reset.m.c.get R.HNG_STATUS_ROLE = 0 ∧ State.reset.m.c.switching = false ∧ 1023 < State.reset.m.c.objCount ∧
      State.reset.m.c.is R.OBJ_GLOBAL 1023 = false ∧
      (∃ d, d = putBit ((objWord 0).foldl (fun n r => n + State.reset.m.c.get r 1023 * 2 ^ r.lo) 0) 0 true ∧
        inRange (objWord 0) d = true ∧ State.reset.m.c.changes ((objWord 0).filter (·.isIn objLocked)) 1023 d = false ∧
        R.OBJ_ACT_REQ.of d = 1 ∧ State.reset.m.c.get R.OBJ_ACT_REQ 1023 = 0)) ∧
    (∃ (s : State) (d : Nat), s = st [(R.OBJ_ACT_REQ, 1, 1023)] ∧
      d = putBit ((objWord 0).foldl (fun n r => n + s.m.c.get r 1023 * 2 ^ r.lo) 0) 0 false ∧
      inRange (objWord 0) d = true ∧ s.m.c.changes ((objWord 0).filter (·.isIn objLocked)) 1023 d = false ∧
      R.OBJ_ACT_REQ.of d = 0 ∧ s.m.c.get R.OBJ_ACT_REQ 1023 = 1) ∧
    ((st [(R.OBJ_ACT_AT, 1, 0)]).m.c.get R.OBJ_STATE 0 = 0 ∧ (st [(R.OBJ_ACT_AT, 1, 0)]).m.c.is R.OBJ_ACT_AT 0 = true) ∧
    (∃ c : Ctl, c = (st [(R.OBJ_CLASS, 3, 0), (R.OBJ_LAW, 0, 0), (R.SRC_CLASS, 3, 0)]).m.c ∧ c.get R.OBJ_STATE 0 = 0 ∧
      c.is R.OBJ_ACT_AT 0 = false ∧ c.get R.OBJ_CLASS 0 ≠ 0 ∧ c.get R.SRC_CLASS (c.get R.OBJ_SRC 0) ≤ c.get R.OBJ_CLASS 0 ∧
      c.get R.OBJ_LAW 0 ≠ 1 ∧ c.is R.OBJ_GLOBAL 0 = false ∧ c.get R.HNG_STATUS_ROLE = 0 ∧
      c.objFits (c.get R.OBJ_CLASS 0) (c.get R.OBJ_COST 0) = true) ∧
    (st [(R.OBJ_CLASS, 3, 0), (R.LEDG_CLASS_CAP_CAP, 0, 3)]).m.c.objFits 3 100 = false ∧
    ((st [(R.OBJ_ACT_REQ, 1, 0), (R.OBJ_STATE, 1, 0)]).m.c.is R.OBJ_ACT_REQ 0 = true ∧
      (st [(R.OBJ_ACT_REQ, 1, 0), (R.OBJ_STATE, 1, 0)]).m.c.get R.OBJ_STATE 0 = 1) ∧
    (st [(R.OBJ_ACT_REQ, 1, 0), (R.OBJ_STATE, 3, 0)]).m.c.get R.OBJ_STATE 0 = 3 ∧
    (∃ s : State, s.m.c.tab.tickDue = true ∧ s.m.c.get R.HNG_STATUS_ROLE ≠ 3) ∧ State.reset.m.c.tab.tickDue = false :=
  ⟨⟨by decide, by decide, by decide, by decide, _, rfl, by decide⟩, ⟨_, _, rfl, rfl, by decide⟩, by decide, ⟨_, rfl, by decide⟩,
    by decide, by decide, by decide, ⟨stC fun c => { c with tab := { c.tab with tickDue := true } }, by decide⟩, by decide⟩

theorem witness_SourceRings :
    (State.reset.m.c.get R.HNG_STATUS_ROLE = 0 ∧ State.reset.m.c.switching = false ∧
      ∃ d, d = State.reset.m.c.srcHeadAs 255 1 ∧ R.SRC_EN.of d = 1 ∧ State.reset.m.c.is R.SRC_EN 255 = false ∧ R.SRC_PORT.of d < 10 ∧
        State.reset.m.c.chanOk (R.SRC_PORT.of d) (R.SRC_CHAN.of d) = true ∧
        State.reset.m.c.classBreak 255 (R.SRC_CLASS.of d) = false ∧
        State.reset.m.c.ringUsed + ringAlloc (State.reset.m.c.get R.SRC_RING 255) ≤ State.reset.m.c.ringRoom) ∧
    (∃ (s : State) (d : Nat), s = st [(R.SRC_EN, 1, 255)] ∧ d = s.m.c.srcHeadAs 255 0 ∧ R.SRC_EN.of d = 0 ∧ s.m.c.is R.SRC_EN 255 = true ∧
      R.SRC_PORT.of d < 10 ∧ s.m.c.chanOk (R.SRC_PORT.of d) (R.SRC_CHAN.of d) = true ∧
      s.m.c.changes ((srcWord 0).filter (·.isIn srcLocked)) 255 d = false ∧ R.SRC_CLASS.of d = s.m.c.get R.SRC_CLASS 255) ∧
    (∃ (s : State) (r : Ring), s.m.c.is R.SRC_EN 255 = true ∧ kget? s.m.c.src.rings 255 = some r ∧
      128 ≤ R.SRC_RING.of 128 ∧ R.SRC_RING.of 128 ≤ 96068 ∧ R.SRC_RING.of 128 ≤ r.alloc ∧ r.pend = some 128) :=
  ⟨⟨by decide, by decide, _, rfl, by decide⟩, ⟨_, _, rfl, rfl, by decide⟩,
    ⟨stR [(R.SRC_EN, 1, 255)] fun c => { c with src := { c.src with rings := [(255, { ({} : Ring) with alloc := 128, pend := some 128 })] } },
      _, by decide, rfl, by decide⟩⟩

theorem witness_SceneLoadAndSwitch :
    (∃ (s : State) (l : LongCmd), s.m.c.longOf 0x20 = some l ∧ s.m.c.tab.loadPend = true ∧ s.m.c.regionFree s.m.c.tab.loadProg = true ∧
      s.m.c.tab.loadProg = []) ∧
    (∃ (s : State) (m : Nat), s.m.c.tab.switchMin = some m ∧ s.m.c.tab.tickDue = true ∧ later m s.m.c.winNo = false) ∧
    (∃ (s : State) (m : Nat), s.m.c.tab.switchMin = some m ∧ s.m.c.tab.tickDue = false) ∧
    (∃ (s : State) (g : Fin 4) (x : Cell), (({ s.m.c with out := [] } : Ctl).ctrlIn g x 2).2 = true) :=
  ⟨⟨stC fun c => { c with tab := { c.tab with loadPend := true }, keep := { c.keep with long := [⟨0, 0x20, 0, 0⟩] } }, _, rfl, by decide⟩,
    ⟨stC fun c => { c with tab := { c.tab with switchMin := some 0, tickDue := true } }, 0, by decide⟩,
    ⟨stC fun c => { c with tab := { c.tab with switchMin := some 0 } }, 0, by decide⟩,
    ⟨st [(R.FAB_CFG_EN, 1, 0), (R.FAB_CFG_GATE_EN, 15, 0), (R.FAB_STATUS_STATE, 2, 0)], 3,
      { vc := 0, cls := 0, kind := 2, mc := true, dst := 0, words := [2] }, by decide⟩⟩

/-- A sparse tap that moves by `n` units in its tick. -/
def aTap (n : Nat) : TapRec := ⟨0, 1000, 0, 0, 1000 + n, 0, false⟩

theorem witness_RenderLaws : distGain { mode := 0 } 3 fOne = fOne ∧ ((aTap 8193).delay 0 1 = none ∧ (aTap 8192).delay 0 1 = some 9192) ∧
    (({} : Ring).fill ≤ 0 + (64 - 1 - 0) ∧ ({} : Near).fill ≤ 0 + (64 - 1 - 0)) ∧
    ((st [(R.FEED_EN, 1, 767)]).m.c.is R.FEED_EN 767 = true ∧ State.reset.m.c.is R.FEED_EN 767 = false) ∧
    (∀ e ∈ ([(0, 100, false)] : Delays), e.2.1 ≤ 100) := by
  decide

theorem witness_CorrectionBanks :
    (∃ (s : State) (base : Nat), s.m.c.get R.HNG_STATUS_ROLE = 0 ∧ s.m.c.is R.CORR_LOAD_STATUS_BUSY = false ∧ 0 < s.m.c.feedCount ∧
      s.m.c.bankBusy 0 1 = false ∧ base = s.m.c.base64k R.CORR_STAGE_BASE + 15 * 0x10000 ∧ s.m.m.dram.rdN base 4 = 0x4B4E4243 ∧
      s.m.m.dram.rdN (base + 4) 2 = 1 ∧ 1 ≤ s.m.m.dram.rdN (base + 6) 2 ∧ s.m.m.dram.rdN (base + 6) 2 ≤ 8192 ∧
      crc32 (s.m.m.dram.rds (base + 0x40) (4 * s.m.m.dram.rdN (base + 6) 2)) = s.m.m.dram.rdN (base + 0x10) 4 ∧
      bit (s.m.m.dram.rdN (base + 0xA) 2) 0 = s.m.c.rate96 ∧ s.m.m.dram.rdN (base + 8) 2 = 0 ∧
      s.m.c.dramDown = false ∧ s.m.c.dram.bad = []) ∧
    (st [(R.CORR_LOAD_STATUS_BUSY, 1, 0)]).m.c.is R.CORR_LOAD_STATUS_BUSY = true ∧
    (∃ (s : State) (l : BankLoad), s.m.c.corr.load = some l ∧ s.m.c.get R.DRAM_STATUS_MODE ≠ 3 ∧ 64 ≤ (s.m.c.winNo + 2 ^ 32 - l.start) % 2 ^ 32) ∧
    ((st [(validReg 1, 1, 767)]).m.c.get R.HNG_STATUS_ROLE = 0 ∧ 767 < (st [(validReg 1, 1, 767)]).m.c.feedCount ∧
      kget? (st [(validReg 1, 1, 767)]).m.c.corr.fades 767 = none ∧ kget? (st [(validReg 1, 1, 767)]).m.c.corr.starts 767 = none ∧
      (st [(validReg 1, 1, 767)]).m.c.is R.CORR_FEED_PENDING 767 = false ∧
      1 ≠ (st [(validReg 1, 1, 767)]).m.c.get R.CORR_FEED_ACTIVE 767 ∧ (st [(validReg 1, 1, 767)]).m.c.is (validReg 1) 767 = true ∧
      (st [(validReg 1, 1, 767)]).m.c.loadingBank 767 1 = false ∧ (st [(validReg 1, 1, 767)]).m.c.fadingIn (feedYard 767) < 48) ∧
    (∃ (s : State) (x : Fade), kget? s.m.c.corr.fades 0 = some x ∧ x.len ≤ x.done) ∧
    (st [(R.HNG_STATUS_ROLE, 3, 0)]).m.c.get R.HNG_STATUS_ROLE = 3 ∧
    (∃ (s : State) (l : BankLoad), s.m.c.corr.load = some l ∧ (s.m.c.winNo + 2 ^ 32 - l.start) % 2 ^ 32 < 64 ∧ s.m.c.get R.DRAM_STATUS_MODE ≠ 3) ∧
    (∃ (s : State) (r : SwapReq), s.m.c.get R.HNG_STATUS_ROLE ≠ 3 ∧
      (s.m.c.corr.pend.map (·.1)).filter (fun g => feedYard g == feedYard 0 && g ≤ 0) = [0] ∧ kget? s.m.c.corr.pend 0 = some r ∧
      s.m.c.pendReady 0 = true ∧ s.m.c.fadingIn (feedYard 0) < 48 ∧ r.target ≠ s.m.c.get R.CORR_FEED_ACTIVE 0) :=
  ⟨⟨{ State.reset with m := { c := (st [(R.DRAM_STATUS_MODE, 1, 0)]).m.c, m := { State.reset.m.m with
        dram :=
        Mem.wrN (Mem.wrN (Mem.wrN (Mem.wrN [] 0xF0000 4 0x4B4E4243) 0xF0004 2 1) 0xF0006 2 1) 0xF0010 4 (crc32 [0, 0, 0, 0]) } } },
      0xF0000, by decide⟩, by decide,
    ⟨stR [(R.WIN_COUNT, 64, 0)] fun c => { c with corr := { c.corr with load := some { feed := 0, bank := 0, id := 0, crc := 0, start := 0, taps := [] } } }, _, rfl,
      by decide⟩, by decide,
    ⟨stC fun c => { c with corr := { c.corr with fades := [(0, { old := 0, len := 1, done := 1 })] } }, _, rfl, by decide⟩,
    by decide,
    ⟨stC fun c => { c with corr := { c.corr with load := some { feed := 0, bank := 0, id := 0, crc := 0, start := 0, taps := [] } } }, _, rfl,
      by decide⟩,
    ⟨stC fun c => { c with corr := { c.corr with pend := [(0, { target := 1, len := 1 })] } }, _, by decide, by decide, rfl, by decide⟩⟩

theorem witness_BiquadSets :
    (State.reset.m.c.bqSel = (0, 0, 0) ∧ State.reset.m.c.get R.HNG_STATUS_ROLE = 0 ∧ State.reset.m.c.bqSelOk 0 0 0 = true ∧
      bqOk (State.reset.m.c.bqRegs R.CORR_BQ_COEF_COEF) = true) ∧
    bqOk ((st [(R.CORR_BQ_COEF_COEF, 0x7FFFFF, 4)]).m.c.bqRegs R.CORR_BQ_COEF_COEF) = false ∧
    (State.reset.m.c.secure .keeper = true ∧ bqOk (State.reset.m.c.bqRegs R.STORM_BQ_COEF) = true) ∧
    State.reset.m.c.secure .fn1 = false := by
  decide

/-- Zone 127 takes part in an alarm and refers to object 0, an ACTIVE one of class A; its guard has run for a span. -/
def sGuard : State :=
  stR [(R.ZONE_ALARM, 1, 127), (R.ZONE_REF0_EN, 1, 127), (R.SRC_LINK, 1, 0), (R.OBJ_STATE, 3, 0), (R.OBJ_CLASS, 0, 0),
    (R.OBJ_ZMASK, 0x80000000, 3), (R.ZONE_STI_TARGET, 0, 127)] fun c =>
    c.setGuard 127 { c.guard 127 with run := 48000 * c.get R.CORR_STI_CTRL_SPAN }

/-- What a microphone with only the STIPA cells has found. -/
def aMic : StiMic := { cells := [], stipa := true, mti := [], delay := 0 }

theorem witness_IntelligibilityGuard :
    (sGuard.m.c.guardRuns 127 = true ∧
      max (sGuard.m.c.get R.CORR_STI_CTRL_SPAN) ((sGuard.m.c.guard 127).second + 1) ≤ (sGuard.m.c.guard 127).run / sGuard.m.c.rateHz) ∧
    State.reset.m.c.guardRuns 127 = false ∧ (∀ e ∈ [((0 : Nat), { aMic with stipa := false })], micConf e.2 = 0) ∧
    ([((0 : Nat), aMic)].filter (fun e => micConf e.2 != 0) = [(0, aMic)] ∧ sGuard.m.c.get R.ZONE_STI_TARGET 127 ≤ stiOf aMic.mti) ∧
    (32 * (3 : Fin 4).val + (31 : Fin 32).val = (127 : Fin 128).val ∧ State.reset.m.c.ambDue 127 0 = false) ∧
    (∃ s : State, s.m.c.ambDue 127 0 = true ∧ (s.m.c.guard 127).quiet = [] ∧ s.m.c.ambQuiet 127 0 = true ∧
      (s.m.c.ambLevel 127 0).isSome = true) ∧
    (∃ s : State, s.m.c.ambDue 127 1 = true ∧ (s.m.c.guard 127).quiet = [] ∧ s.m.c.ambQuiet 127 1 = false) ∧
    sGuard.m.c.carriesA 127 = true ∧ State.reset.m.c.carriesA 127 = false := by
  refine ⟨by decide, by decide, by decide, by decide, by decide,
    ⟨stR [(R.ZONE_REF0_EN, 1, 127)] fun c => { c with corr := { c.corr with done := 480, sigs := [(0, { frame := 480 })] } }, by decide⟩,
    ⟨stR [(R.ZONE_REF1_EN, 1, 127)] fun c => { (c.setGuard 127 { power := [1] }) with corr :=
      { (c.setGuard 127 { power := [1] }).corr with done := 480 } }, by decide⟩, by decide, by decide⟩

/-- An order of class A with no scope. -/
def anOrder : Order := { cls := 0, smask := 15, deadline := 0, cost := 1, kind := 0, first := 0, count := 0, entry := 0, arg := 0 }

/-- Yard 3 enabled with its stables, and an order in the last stable's queue. -/
def sYard : State :=
  stR [(R.YARD_CTRL_EN, 1, 3), (R.YARD_CTRL_STABLE_EN, 15, 3)] fun c => c.setStable 15 { c.stable 15 with queue := [anOrder] }

/-- Stall `n` runs a job, `f` of its fresh state. -/
def sJob (n : Nat) (f : StallSt → StallSt) : State := stC fun c => c.setStall n (f { order := anOrder })

/-- A transfer of a word from DRAM. -/
def aDesc : Desc := { far := 64, dram := true, out := false, store := 0x100, len := 4, ringBase := 0, ringLen := 0 }

theorem witness_Yards :
    (sYard.m.c.inService 127 = true ∧ sYard.m.c.stall? 127 = none ∧ (sYard.m.c.pick 127).isSome = true ∧
      ∀ j ∈ (sYard.m.c.pickOrder 15).takeWhile (· != 127), (sYard.m.c.stall? j).isSome = true) ∧
    (∃ x, (sJob 127 fun x => { x with cycles := 65536 }).m.c.stall? 127 = some x ∧ x.wait ≠ .granted ∧ x.fx = [] ∧
      (sJob 127 fun x => { x with cycles := 65536 }).m.c.jobLimit 127 ≤ x.cycles) ∧
    (∃ x, (sJob 127 fun x => { x with froze := true, wait := .swait 15 }).m.c.stall? 127 = some x ∧ x.wait = .swait 15 ∧ x.froze = true) ∧
    (∃ x, (sJob 127 fun x => { x with cycles := 65535 }).m.c.stall? 127 = some x ∧ x.froze = false ∧
      x.cycles < (sJob 127 fun x => { x with cycles := 65535 }).m.c.jobLimit 127) ∧
    (∃ st, (sJob 127 fun x => { x with order := { anOrder with kind := 1 } }).m.c.fabr.stalls = [(127, st)] ∧ st.wait = .none ∧ st.fx = [] ∧
      st.order.kind = 1 ∧ st.order.deadline = State.reset.m.c.cwin) ∧
    State.reset.m.c.mixOver = true ∧
    (stC fun c => c.setStable 0 { c.stable 0 with queue := [{ anOrder with kind := 1 }] }).m.c.mixOver = false ∧
    (((stC fun c => c.setChan 3 15 { run := some aDesc }).m.c.chan 3 15).run.isSome = true ∧ (State.reset.m.c.chan 3 15).run = none) ∧
    (0 % 2 = 0 ∧ (st [(R.YARD_CTRL_EN, 1, 3), (R.WIN_STATUS_RUN, 1, 0)]).m.c.is R.YARD_CTRL_EN 3 = true) ∧
    (R.YARD_CTRL_EN.of 0 = State.reset.m.c.get R.YARD_CTRL_EN 3 ∧ R.YARD_CTRL_STABLE_EN.of 0 = State.reset.m.c.get R.YARD_CTRL_STABLE_EN 3 ∧
      ¬(R.YARD_CTRL_EN.of 0 = 0 ∧ State.reset.m.c.is R.YARD_CTRL_EN 3 = true)) ∧
    ((stC fun c => c.setYard 3 { cfg := { limits := some 0, arb := some 0, reserve := some 0 } }).m.c.yard 3).cfg.limits = some 0 := by
  refine ⟨by decide, ⟨_, rfl, by decide⟩, ⟨_, rfl, by decide⟩, ⟨_, rfl, by decide⟩, ⟨_, rfl, by decide⟩, by decide, by decide, by decide,
    by decide, by decide, by decide⟩

/-- A slot of stall 127 that issues without a cause of its own. -/
def aSlot : Slot := { stall := 127, last := true, parity := false, mbz := false, ecc := .clean, frozen := 0 }

theorem witness_MultiplyAndConvert : (sJob 127 id).m.c.slotReady aSlot { order := anOrder } := by
  unfold Ctl.slotReady; decide

theorem witness_PointerSlot :
    (sJob 127 id).m.c.slotReady aSlot { order := anOrder } ∧ ({ order := anOrder } : StallSt).ring 0 = none ∧
    ({ order := anOrder, m := cset [] 0 (0xFFFF * 65536 + 0xFFFF) } : StallSt).ring 0 = some (0xFFFF, 0xFFFF) ∧
    ({ order := anOrder } : StallSt).ptr 0 = (0 : BitVec 32).toNat ∧
    (∃ s, Ctl.slotReady s aSlot { order := anOrder, m := cset [] 0 (0xFFFF * 65536 + 0xFFFF) }) := by
  refine ⟨by unfold Ctl.slotReady; decide, by decide, by decide, by decide,
    (sJob 127 fun x => { x with m := cset [] 0 (0xFFFF * 65536 + 0xFFFF) }).m.c, by unfold Ctl.slotReady; decide⟩

theorem witness_LoadStoreSlot :
    ((sJob 127 fun x => { x with p := cset [] 0 0x3FFFC }).m.c.slotReady aSlot { order := anOrder, p := cset [] 0 0x3FFFC } ∧
      storeOk (({ order := anOrder, p := cset [] 0 0x3FFFC } : StallSt).ptr 0) = true ∧
      State.reset.m.c.storeBad 127 0x3FFFC 4 = false ∧ State.reset.m.c.writing 127 0x3FFFC = none ∧
      State.reset.m.c.inCode 3 0x3FFFC = false) ∧
    (∀ i < 4, storeOk (({ order := anOrder, p := cset [] 0 0x3FFF0 } : StallSt).groupAddr 0 i) = true) ∧
    ((sJob 127 fun x => { x with order := { anOrder with kind := 1 } }).m.c.slotReady aSlot { order := { anOrder with kind := 1 } } ∧
      (∀ i < 4, State.reset.m.c.accIndexOk i = true) ∧ State.reset.m.c.accIndexOk (128 * 767) = true) := by
  refine ⟨⟨by unfold Ctl.slotReady; decide, by decide⟩, by decide, by unfold Ctl.slotReady; decide, by decide⟩

/-- Stall 127 ends a bundle with the effects `fx`, holding channel 15, whose transfer is `d`. -/
def sChan (d : Option Desc) (bad : Bool) (fx : List Fx) : State :=
  stC fun c => (c.setStall 127 { order := anOrder, fx := fx, bad := bad }).setChan 3 15 { owner := some 127, run := d }

theorem witness_ControlSlot :
    (sJob 127 id).m.c.slotReady aSlot { order := anOrder } ∧
    (∃ (x : Mach) (st : StallSt), x.c.stall? 127 = some st ∧ Fx.fault 7 ∈ st.fx ∧
      (∀ j ∈ [5, 1, 6, 2, 7].takeWhile (· != 7), Fx.fault j ∉ st.fx) ∧ ptrClash st.fx = false) ∧
    (∃ (x : Mach) (st : StallSt), x.c.stall? 127 = some st ∧ (x.c.chan (stallYard 127) 15).owner = some 127 ∧
      (x.c.chan (stallYard 127) 15).run.isSome = true ∧ st.fx = [.strm 15 0]) ∧
    (∃ (x : Mach) (st : StallSt), x.c.stall? 127 = some st ∧ (x.c.chan (stallYard 127) 15).owner = some 127 ∧
      (x.c.chan (stallYard 127) 15).run.isSome = true ∧ st.fx = [.swait 15]) ∧
    (∃ (x : Mach) (st : StallSt), x.c.stall? 127 = some st ∧ (x.c.chan (stallYard 127) 15).run = none ∧ st.fx = [.strm 15 0x3FFE0] ∧
      x.c.storeBad 127 0x3FFE0 32 = false ∧ x.descAt 127 0x3FFE0 = none) ∧
    (∃ (x : Mach) (st : StallSt), x.c.stall? 127 = some st ∧ (x.c.chan (stallYard 127) 15).run = none ∧ st.fx = [.strm 15 0] ∧
      x.c.storeBad 127 0 32 = true) ∧
    (∃ (x : Mach) (st : StallSt), x.c.stall? 127 = some st ∧ (x.c.chan (stallYard 127) 15).run = none ∧ st.fx = [.swait 15] ∧
      st.bad = true) ∧
    (∃ (x : Mach) (st : StallSt), x.c.stall? 127 = some st ∧ st.fx = [.p 1 0 4 1] ∧ (Fx.p 1 0 4 1).latency = some 1 ∧ st.pend = [] ∧
      st.loops = []) ∧
    (∃ (x : Mach) (st : StallSt), x.c.stall? 127 = some st ∧ st.fx = [.v 0 1] ∧ (Fx.v 0 1).latency = some 2 ∧ st.pend = [] ∧
      st.loops = []) ∧
    (0x1000 * 13 ≤ 0xD001 ∧ 0xD001 < 2 ^ 16) := by
  refine ⟨by unfold Ctl.slotReady; decide, ⟨(sJob 127 fun x => { x with fx := [.fault 7] }).m, _, rfl, by decide⟩,
    ⟨(sChan (some aDesc) false [.strm 15 0]).m, _, rfl, by decide⟩, ⟨(sChan (some aDesc) false [.swait 15]).m, _, rfl, by decide⟩,
    ⟨(sChan none false [.strm 15 0x3FFE0]).m, _, rfl, by decide⟩,
    ⟨{ (sChan none false [.strm 15 0]).m with c := { (sChan none false [.strm 15 0]).m.c with
        fabr := { (sChan none false [.strm 15 0]).m.c.fabr with storePoison := [15 * 0x40000 + 28] } } }, _, rfl, by decide⟩,
    ⟨(sChan none true [.swait 15]).m, _, rfl, by decide⟩,
    ⟨(sJob 127 fun x => { x with fx := [.p 1 0 4 1] }).m, _, rfl, by decide⟩,
    ⟨(sJob 127 fun x => { x with fx := [.v 0 1] }).m, _, rfl, by decide⟩, by decide⟩

theorem witness_JobCompletions :
    (∃ st, (sJob 127 id).m.c.stall? 127 = some st ∧ (sJob 127 id).m.c.slotReady aSlot st ∧ st.fx = [] ∧ st.pend = [] ∧ st.loops = []) ∧
    ((sJob 127 id).m.c.stall? 127 = some { order := anOrder } ∧ ({ order := anOrder } : StallSt).pc < 0x40000 ∧ aSlot.last = true ∧
      ({ aSlot with parity := true } : Slot).parity = true ∧ ({ aSlot with ecc := .corrected } : Slot).ecc = .corrected) ∧
    (∃ st, (sJob 127 fun x => { x with sends := 1 }).m.c.stall? 127 = some st ∧ st.sends ≠ 0 ∧ st.wait = .none) ∧
    (∃ st, (sJob 127 fun x => { x with wait := .halt 255 }).m.c.stall? 127 = some st ∧ st.wait = .halt 255 ∧ st.sends = 0 ∧ st.fx = [] ∧
      st.held = [] ∧ st.froze = false ∧ st.order.kind ≠ 1 ∧ (st.order.post + 2 ^ 32 - (State.reset.m.c.seq 3).firstPost) % 2 ^ 32 < 2 ^ 31 ∧
      (State.reset.m.c.seq 3).cq.length < 256) ∧
    (∃ (s : State) (st : StallSt) (d : Desc), s.m.c.stall? 127 = some st ∧ (s.m.c.chan 3 15).run = some d ∧
      (s.m.c.chan 3 15).owner = some 127 ∧ st.wait = .none ∧ d.out = false ∧ d.dram = true ∧ s.m.c.get R.DRAM_STATUS_MODE ≠ 3 ∧ s.m.c.dram.bad = [] ∧
      d.ringLen = 0 ∧ ∀ i < d.len / 4 * 4, s.m.c.unstated (d.far + i) = false ∧ s.m.c.historyByte (d.far + i) = none) ∧
    (State.reset.m.c.chan 3 15).run = none := by
  refine ⟨⟨_, rfl, by unfold Ctl.slotReady; decide, by decide⟩, ⟨rfl, by decide⟩, ⟨_, rfl, by decide⟩, ⟨_, rfl, by decide⟩,
    ⟨stC fun c => (c.setStall 127 { order := anOrder }).setChan 3 15 { owner := some 127, run := some aDesc }, _, aDesc, rfl, by decide⟩, by decide⟩

/-- Yard 3's sequencer runs, `f` of its fresh state. -/
def sSeq (f : SeqSt → SeqSt) : State := stR [(R.YARD_STATUS_SEQ_RUN, 1, 3)] fun c => c.setSeq 3 (f {})

/-- An instruction of yard 3 that issues without a cause of its own. -/
def anIssue : Issue := { yard := 3, parity := false, mbz := false, fetchEcc := false, bus := false, ecc := false }

theorem witness_SequencerIntegers :
    (sSeq id).m.c.issues anIssue ∧ ((sSeq id).m.c.seq 3).rs 31 = (0 : BitVec 32).toNat ∧
    (sSeq fun q => { q with s := cset [] 31 0xFFFFFFFF }).m.c.issues anIssue ∧
    ((sSeq fun q => { q with s := cset [] 31 0xFFFFFFFF }).m.c.seq 3).rs 31 = (0xFFFFFFFF : BitVec 32).toNat := by
  refine ⟨by unfold Ctl.issues; decide, by decide, by unfold Ctl.issues; decide, by decide⟩

theorem witness_SequencerControl :
    (sSeq fun q => { q with pc := 0x1FFFC }).m.c.issues anIssue ∧
    ((sSeq fun q => { q with pc := 0x1FFFC }).m.c.seq 3).pc = (0x1FFFC : BitVec 32).toNat ∧
    ((0 : BitVec 32) + (4 : BitVec 16).signExtend 32).toNat % 4 = 0 ∧ ((0 : BitVec 32) + (1 : BitVec 16).signExtend 32).toNat % 4 ≠ 0 ∧
    sRun.m.c.winStarted 0 = true ∧ sRun.m.c.winStarted 1 = false := by
  refine ⟨by unfold Ctl.issues; decide, by decide⟩

theorem witness_SequencerMemory :
    ((sSeq id).m.c.seqReady 3 = true ∧ ((sSeq id).m.c.seq 3).addr 0 0x0FFC = 0x0FFC ∧
      (sSeq id).m.c.seqCauses anIssue 0x0FFC 4 false = [] ∧ ∃ x v, (sSeq id).m.fresh.seqRead 3 0x0FFC 4 = (x, v, none)) ∧
    (∃ q : SeqSt, (sSeq fun _ => q).m.c.seqReady 3 = true ∧ ((sSeq fun _ => q).m.c.seq 3).addr 1 0 = 0x40000 + 0x1FFFC ∧
      (sSeq fun _ => q).m.c.seqCauses anIssue (0x40000 + 0x1FFFC) 4 true = [] ∧
      ∃ x, (sSeq fun _ => q).m.fresh.seqWrite 3 (0x40000 + 0x1FFFC) 4 0 = (x, none)) :=
  ⟨⟨by decide, by decide, by decide, _, _, rfl⟩, ⟨{ s := cset [] 1 0x5FFFC }, by decide, by decide, by decide, _, rfl⟩⟩

theorem witness_SequencerFloatAndSpecial :
    (sSeq id).m.c.issues anIssue ∧ (sSeq id).m.c.special 3 15 0 = some 0 ∧ (16 ≤ (63 : Fin 64).val) ∧
    (∃ e ∈ geoTable, ∃ l, e.2 ({} : SeqSt) 0 0 0 = some l) ∧ (∃ e ∈ geoTable, e.2 ({} : SeqSt) 31 31 31 = none) := by
  refine ⟨by unfold Ctl.issues; decide, by decide, by decide, ⟨_, List.mem_cons_self, _, rfl⟩, ⟨_, List.mem_cons_self, rfl⟩⟩

theorem witness_SequencerBoundaries :
    ((sSeq fun q => { q with wait := .next 31 true }).m.c.is R.YARD_STATUS_SEQ_RUN 3 = true ∧ State.reset.m.c.tab.tickDue = false) ∧
    (sRun.m.c.winStarted 0 = true) ∧
    (({} : SeqSt).wdog ≤ ({ boundaries := 255 } : SeqSt).boundaries ∧ ({} : SeqSt).wait = .none ∧ ({} : SeqSt).boundaries < ({} : SeqSt).wdog) ∧
    (State.reset.m.c.longOf 0x22 = none) ∧
    (∃ (s : State) (w : Nat) (g : Image), s.m.c.is R.YARD_STATUS_SEQ_RUN 3 = true ∧ (s.m.c.seq 3).excWin = some w ∧
      (s.m.c.seq 3).active = some g ∧ (s.m.c.seq 3).restarted = none ∧ s.m.c.tab.tickDue = true ∧
      2 ≤ (s.m.c.winNo + 2 ^ 32 - w) % 2 ^ 32) ∧
    (∃ (s : State) (w : Nat) (g : Image), (s.m.c.seq 3).forceFrom = some w ∧ (s.m.c.seq 3).loaded = some g ∧
      s.m.c.carriedIn 3 g = false ∧ s.m.c.tab.tickDue = true ∧ later w s.m.c.winNo = false) ∧
    (∃ (s : State) (l : LongCmd) (p : ProgImg), s.m.c.longOf 0x22 = some l ∧ s.m.c.tab.loadProg = [p] ∧ s.m.c.regionFree [p] = true) ∧
    (∃ (s : State) (l : LongCmd) (p : ProgImg), s.m.c.longOf 0x22 = some l ∧ s.m.c.tab.loadProg = [p] ∧ s.m.c.regionFree [p] = false) :=
  ⟨by decide, by decide, by decide, by decide,
    ⟨stR [(R.YARD_STATUS_SEQ_RUN, 1, 3), (R.WIN_COUNT, 2, 0)] fun c =>
      { c.setSeq 3 { excWin := some 0, active := some {} } with tab := { c.tab with tickDue := true } }, 0, {}, by decide⟩,
    ⟨stC fun c => { c.setSeq 3 { forceFrom := some 0, loaded := some {} } with tab := { c.tab with tickDue := true } }, 0, {}, by decide⟩,
    ⟨stC fun c => { c with tab := { c.tab with loadProg := [⟨15, {}, [], []⟩] }, keep := { c.keep with long := [⟨0, 0x22, 0, 0⟩] } }, _, _, rfl, rfl,
      by decide⟩,
    ⟨stC fun c => { c.setSeq 0 { leftWin := some 0 } with
        tab := { c.tab with loadProg := [⟨15, {}, [], []⟩] }, keep := { c.keep with long := [⟨0, 0x22, 0, 0⟩] } }, _, _, rfl, rfl, by decide⟩⟩

/-- Yard 3's sequencer with s1 naming an order of class A for stall code at 0x100 in DMEM, and an image that allows it. -/
def sPost : State :=
  let s := stR [(R.YARD_STATUS_SEQ_RUN, 1, 3), (R.YARD_CTRL_EN, 1, 3), (R.YARD_CTRL_STABLE_EN, 15, 3)] fun c =>
    c.setSeq 3 { s := cset [] 1 0x40100, active := some { entries := [(0, 10, 1)] } }
  { s with m := { s.m with m := { s.m.m with dmem := Mem.wrN [] (3 * 0x40000 + 0x100 + 2) 1 0x10 } } }

theorem witness_SequencerOrders :
    (sPost.m.c.issues anIssue ∧ (sPost.m.c.seq 3).rs 1 = 0x40100 ∧ 0x40000 ≤ 0x40100 ∧ 0x40100 % 32 = 0 ∧
      (∃ o, Machine.orderOf (fun i => sPost.m.m.dmem.rdN (3 * 0x40000 + 0 * 0x20000 + (0x40100 - 0x40000) + 4 * i) 4) = (o, true) ∧
        o.smask = 1 ∧ ({ entries := [(0, 10, 1)] } : Image).allows o = true)) ∧
    (sPost.m.c.seq 3).cq = [] ∧
    (∃ s : State, s.m.c.issues anIssue ∧ (s.m.c.seq 3).cq = [{ words := [1, 2, 3, 4], poison := false }] ∧ (s.m.c.seq 3).rs 1 = 0x5FFF0) := by
  refine ⟨⟨by unfold Ctl.issues; decide, by decide, by decide, by decide, _, rfl, by decide⟩, by decide,
    sSeq fun q => { q with s := cset [] 1 0x5FFF0, cq := [{ words := [1, 2, 3, 4], poison := false }] }, by unfold Ctl.issues; decide, by decide⟩

theorem witness_SequencerLatchesAndLetterboxes :
    ((sSeq id).m.c.issues anIssue ∧ (sSeq id).m.c.get R.LATCH 63 = 0) ∧
    ((stR [(R.LATCH, 0x80000000 + ownerCode (.seq 3), 63)] id).m.c.get R.LATCH 63 = 0x80000000 + ownerCode (.seq 3)) ∧
    (∃ s : State, s.m.c.sender 7 = some (.seq 3) ∧ s.m.c.receiver 6 = some (.seq 3) ∧ s.m.c.get R.MBX_LB_FULL 6 = 1 ∧
      s.m.c.get R.MBX_LB_FULL 7 = 0) ∧
    (¬((8 : Fin 16).val < 8 ∧ State.reset.m.c.sender 8 = some (.seq 3))) ∧
    (((sSeq fun q => { q with s := cset [] 1 0x5FFC0 }).m.c.seq 3).rs 1 % 4 = 0 ∧
      ((sSeq fun q => { q with s := cset [] 1 0x5FFC0 }).m.c.seq 3).rs 1 + 64 ≤ 0x60000) := by
  refine ⟨⟨by unfold Ctl.issues; decide, by decide⟩, by decide,
    ⟨st [(R.MBX_ALLOC_EN, 1, 1), (R.MBX_ALLOC_YARD, 3, 1), (R.MBX_LB_FULL, 1, 6)], by decide⟩, by decide, by decide⟩

/-- Feed 767 enabled on an amplifier link that is UP, with windows running. -/
def sOpenable : State :=
  let l := State.reset.m.c.feedLink 767
  st [(R.FEED_EN, 1, 767), (R.WIN_STATUS_RUN, 1, 0), (R.AMP_LINK_STATE, 2, l)]

theorem witness_ShutterRequests :
    (sOpenable.m.c.secure .keeper = true ∧ sOpenable.m.c.get R.HNG_STATUS_ROLE = 0 ∧
      ∀ f ∈ wordFeeds 23 0x80000000, sOpenable.m.c.mayOpen f = true) ∧
    (∃ f ∈ wordFeeds 23 0x80000000, State.reset.m.c.mayOpen f = false) ∧ State.reset.m.c.secure .fn1 = false ∧
    (State.reset.m.c.secure .keeper = true ∧ State.reset.m.c.hngBar .keeper ≠ 1) ∧
    (stC fun c => { c with fire := { c.fire with openDue := cset [] 23 1 } }).m.c.fire.openDue ≠ [] ∧
    (State.reset.m.c.fire.openDue = [] ∧ State.reset.m.c.fire.closeDue = [] ∧ State.reset.m.c.fire.autoDue = []) := by
  refine ⟨by decide, ⟨767, by decide⟩, by decide, by decide, by decide, by decide⟩

theorem witness_FireInputs :
    ([5000][0]? = some 5000 ∧ (st [(R.FIRE_IN_EN, 1, 0)]).m.c.loopOn 0 = true) ∧
    (∃ (s : State) (l : LoopSt), kget? s.m.c.fire.loops 15 = some l ∧ s.m.c.loopOn 15 = true ∧ l.raw ≠ s.m.c.loopShown 15 ∧
      s.m.c.loopHold 15 l.raw ≤ l.heldMs ∧ l.raw = 2) ∧
    (∃ (s : State) (l : LoopSt), kget? s.m.c.fire.loops 17 = some l ∧ s.m.c.loopOn 17 = true ∧ l.raw ≠ s.m.c.loopShown 17 ∧
      s.m.c.loopHold 17 l.raw ≤ l.heldMs ∧ 3 ≤ l.raw) ∧
    (inRange [R.FIRE_IN_EN, R.FIRE_IN_SHORT_IS_ALARM, R.FIRE_IN_DEBOUNCE, R.FIRE_IN_FAULT_HOLD] (4 * 50 + 4096 * 10 + 1) = true ∧
      State.reset.m.c.secure .keeper = true ∧ State.reset.m.c.is R.FIRE_IN_EN 15 = false) ∧ State.reset.m.c.loopOn 17 = false ∧
    (∃ (s : State), s.m.c.secure .keeper = true ∧ s.m.c.is R.FIRE_IN_EN 15 = true ∧ s.m.c.get R.PLAN_STATE 63 ≠ 0 ∧
      bit (s.m.c.get R.PLAN_FI_MASK 63) 15 = true) :=
  ⟨by decide,
    ⟨stR [(R.FIRE_IN_EN, 1, 15)] fun c => { c with fire := { c.fire with loops := [(15, ⟨2, 100000⟩)] } }, _, rfl, by decide⟩,
    ⟨stC fun c => { c with
        fire := { c.fire with loops := [(17, ⟨3, 2000⟩)] }
        storm := { c.storm with inForce := RegMap.set [] R.STORM_EMIC_PTT_EN 1 1 } }, _, rfl, by decide⟩, by decide, by decide,
    ⟨st [(R.FIRE_IN_EN, 1, 15), (R.PLAN_STATE, 1, 63), (R.PLAN_FI_MASK, 0x8000, 63)], by decide⟩⟩

/-- Plan 63 with what it keeps while it runs. -/
def sPlan (l : List (Reg × Nat × Nat)) (r : PlanRt) : State := stR l fun c => c.setPlanRt 63 r

theorem witness_AlarmPlans :
    (((sPlan [] { pendAct := true }).m.c.planRt 63).pendAct = true ∧ (sPlan [] { pendAct := true }).m.c.keep.down = false ∧
      (sPlan [] { pendAct := true }).m.c.get R.PLAN_STATE 63 = 0 ∧
      (sPlan [(R.PLAN_STATE, 1, 63)] { pendAct := true }).m.c.get R.PLAN_STATE 63 ≠ 0) ∧
    (∃ s : State, (s.m.c.planRt 63).confirmEnd = some 0 ∧ later 0 s.m.c.winNo = false ∧ s.m.c.get R.PLAN_STATE 63 = 1 ∧
      s.m.c.get R.HNG_STATUS_ROLE ≠ 3 ∧ s.m.c.planCovers 63 127 = true ∧ 127 ∈ (s.m.c.planRt 63).confirmed) ∧
    (∃ s : State, (s.m.c.planRt 63).confirmEnd = some 0 ∧ later 0 s.m.c.winNo = false ∧ s.m.c.get R.PLAN_STATE 63 = 1 ∧
      s.m.c.planCovers 63 127 = true ∧ 127 ∉ (s.m.c.planRt 63).confirmed ∧ s.m.c.is R.STORM_STATUS_ARMED = true) ∧
    (∃ s : State, (s.m.c.planRt 63).chainAt = some 0 ∧ s.m.c.keeperLost = false ∧ s.m.c.stormActive (s.m.c.get R.PLAN_NEXT 63) = false ∧
      s.m.c.is R.PLAN_EN (s.m.c.get R.PLAN_NEXT 63) = true) ∧
    (∃ s : State, (s.m.c.planRt 63).backstopAt = some 0 ∧ s.m.c.get R.PLAN_STATE 63 = 0 ∧ s.m.c.is R.STORM_STATUS_ARMED = true ∧
      s.m.c.stormCovers 63 127 = true) ∧
    (∃ (s : State) (g : Prog), kget? s.m.c.storm.progs 63 = some g ∧ s.m.c.progLength s.m.m.nor 63 g ≤ g.pos ∧ g.msg = true ∧
      s.m.c.inForce R.PLAN_TONE_EN 63 = 1) ∧
    kget? State.reset.m.c.storm.progs 63 = none ∧
    ((State.reset.m.c.planRt 63).confirmEnd = none ∧ (State.reset.m.c.planRt 63).chainAt = none ∧
      (State.reset.m.c.planRt 63).backstopAt = none) :=
  ⟨by decide,
    ⟨sPlan [(R.PLAN_STATE, 1, 63), (R.PLAN_ZONES, 0x80000000, 4 * 63 + 3)] { confirmEnd := some 0, confirmed := [127] }, by decide⟩,
    ⟨sPlan [(R.PLAN_STATE, 1, 63), (R.PLAN_ZONES, 0x80000000, 4 * 63 + 3), (R.STORM_STATUS_ARMED, 1, 0)] { confirmEnd := some 0 }, by decide⟩,
    ⟨sPlan [(R.PLAN_NEXT, 5, 63), (R.PLAN_EN, 1, 5)] { chainAt := some 0 }, by decide⟩,
    ⟨stR [(R.STORM_STATUS_ARMED, 1, 0)] fun c => { c.setPlanRt 63 { backstopAt := some 0 } with
        storm := { (c.setPlanRt 63 { backstopAt := some 0 }).storm with inForce := RegMap.set [] R.PLAN_ZONES (4 * 63 + 3) 0x80000000 } },
      by decide⟩,
    ⟨stC fun c => { c with storm := { c.storm with progs := [(63, { msg := true, pos := 10 ^ 9 })], inForce := RegMap.set [] R.PLAN_TONE_EN 63 1 } }, _, rfl,
      by decide⟩, by decide, by decide⟩

/-- The storm door armed and driving zone 0. -/
def sDriven : State := st [(R.STORM_STATUS_ARMED, 1, 0), (R.STORM_OWNER, 1, 0), (R.STORM_CAUSE_CAUSE, 8, 0), (R.STORM_FORCE, 1, 0)]

theorem witness_StormDoor :
    (State.reset.m.c.fire.dieLost = false ∧ sDriven.m.c.is R.STORM_STATUS_ARMED = true ∧ sDriven.m.c.get R.HNG_STATUS_ROLE ≠ 3) ∧
    norHeaderOk State.reset.m.m.nor = false ∧
    (State.reset.m.c.secure .keeper = true ∧ State.reset.m.c.drivenZones = []) ∧ sDriven.m.c.drivenZones ≠ [] ∧
    (∃ s : State, s.m.c.planMsgs = [] ∧ s.m.c.dirty = false ∧ s.m.c.storm.hdrOk = true ∧ s.m.c.is R.MON_STATUS_SAFE_BAD = false ∧
      s.m.c.is R.STORM_STATUS_ARMED = false) ∧
    ((∀ p < 64, (st [(R.STORM_STATUS_ARMED, 1, 0)]).m.c.stormActive p = false) ∧ (st [(R.STORM_STATUS_ARMED, 1, 0)]).m.c.drivenZones = [] ∧
      (st [(R.STORM_STATUS_ARMED, 1, 0)]).m.c.is R.STORM_STATUS_ARMED = true) ∧
    (bit (State.reset.m.c.get R.STORM_FORCE 3) 31 = false ∧ (0x80000000 : BitVec 32).getLsbD 31 = true) ∧
    (sDriven.m.c.driven 0 = true ∧ sDriven.m.c.causeHolds 0 = true ∧ (1 : BitVec 32).getLsbD 0 = true) ∧
    (∃ s : State, s.m.c.driven 0 = true ∧ s.m.c.causeHolds 0 = false) ∧ State.reset.m.c.secure .fn1 = false ∧
    (∃ s : State, 127 ∈ s.m.c.storm.ready ∧ s.m.c.get R.ZONE_OWNER 127 ≠ 2) :=
  ⟨by decide, by decide, by decide, by decide, ⟨stC fun c => { c with storm := { c.storm with hdrOk := true } }, by decide⟩, by decide,
    by decide, by decide, ⟨st [(R.STORM_OWNER, 1, 0), (R.STORM_CAUSE_CAUSE, 1, 0)], by decide⟩, by decide,
    ⟨stC fun c => { c with storm := { c.storm with ready := [127] } }, by decide⟩⟩

/-- A member of a duplex: its role and rank, some fields more, and `f` of what the hinge keeps. -/
def sHng (role rank : Nat) (l : List (Reg × Nat × Nat)) (f : HngSt → HngSt) : State :=
  stR ([(R.HNG_STATUS_ROLE, role, 0), (R.HNG_CFG_RANK, rank, 0), (R.HNG_CFG_MODE, 1, 0)] ++ l) fun c => { c with hng := f c.hng }

theorem witness_HingeCommands :
    (State.reset.m.c.secure .keeper = true ∧ (sHng 0 0 [(R.HNG_CFG_H0_EN, 1, 0), (R.HNG_CFG_H1_EN, 1, 0)] id).m.c.get R.HNG_CFG_MODE ≠ 0 ∧
      (sHng 0 0 [(R.HNG_CFG_H0_EN, 1, 0), (R.HNG_CFG_H1_EN, 1, 0)] id).m.c.is R.HNG_CFG_H0_EN = true ∧
      (sHng 0 0 [(R.HNG_CFG_H0_EN, 1, 0), (R.HNG_CFG_H1_EN, 1, 0)] id).m.c.is R.HNG_CFG_H1_EN = true ∧
      (sHng 0 0 [(R.HNG_CFG_H0_EN, 1, 0), (R.HNG_CFG_H1_EN, 1, 0)] id).m.c.role = 0) ∧
    State.reset.m.c.get R.HNG_CFG_MODE = 0 ∧ (sHng 5 0 [] id).m.c.role = 5 ∧ State.reset.m.c.role ≠ 5 ∧
    ((sHng 2 0 [(R.HNG_PEER_ROLE, 3, 1), (R.HNG_PEER_SYNC, 3, 1), (R.HNG_STATUS_HEARD, 2, 0)] id).m.c.role = 2 ∧
      (sHng 2 0 [(R.HNG_PEER_ROLE, 3, 1), (R.HNG_PEER_SYNC, 3, 1), (R.HNG_STATUS_HEARD, 2, 0)] id).m.c.syncedPartner.isSome = true) ∧
    State.reset.m.c.role ≠ 2 ∧ State.reset.m.c.secure .fn0 = false := by
  decide

theorem witness_HingeRoles :
    ((sHng 2 0 [] fun h => { h with standAt := some 0 }).m.c.role = 2 ∧
      (sHng 2 0 [] fun h => { h with standAt := some 0 }).m.c.hng.standAt = some 0 ∧ later 0 State.reset.m.c.winNo = false) ∧
    ((sHng 3 1 [(R.HNG_STATUS_SYNC, 3, 0)] id).m.c.role = 3 ∧ (sHng 3 1 [(R.HNG_STATUS_SYNC, 3, 0)] id).m.c.get R.HNG_STATUS_SYNC = 3) ∧
    ((sHng 1 1 [] fun h => { h with formWait := 100000 }).m.c.role = 1 ∧
      (sHng 1 1 [] fun h => { h with formWait := 100000 }).m.c.get R.HNG_TIMING_FORM_WAIT ≤ 100000 ∧
      ∀ r < 1, bit ((sHng 1 1 [] id).m.c.get R.HNG_STATUS_HEARD) r = false) ∧
    ((sHng 2 0 [(R.AMP_LINK_STATE, 2, 0), (R.HNG_FOLLOW_OTHER, 1, 0)] id).m.c.follow.1 = 0 ∧
      0 < (sHng 2 0 [(R.AMP_LINK_STATE, 2, 0), (R.HNG_FOLLOW_OTHER, 1, 0)] id).m.c.follow.2.1) ∧
    ((sHng 4 0 [] fun h => { h with unheard := 255 }).m.c.role = 4 ∧
      (sHng 4 0 [] fun h => { h with unheard := 255 }).m.c.get R.HNG_TIMING_HB_MISS ≤ 255) ∧
    ((sHng 3 1 [(R.HNG_STATUS_SYNC, 1, 0)] fun h => { h with bulkDone := true }).m.c.hng.bulkDone = true ∧
      (sHng 3 1 [(R.HNG_STATUS_SYNC, 1, 0)] id).m.c.get R.HNG_STATUS_SYNC = 1) ∧
    ((sHng 3 1 [(R.HNG_STATUS_SYNC, 2, 0), (R.HNG_RESYNC_MATCHED, 64, 0)] fun h => { h with stateDone := true }).m.c.hng.stateDone = true ∧
      (sHng 3 1 [(R.HNG_RESYNC_MATCHED, 64, 0)] id).m.c.get R.HNG_TIMING_MATCH_RUN ≤
        (sHng 3 1 [(R.HNG_RESYNC_MATCHED, 64, 0)] id).m.c.get R.HNG_RESYNC_MATCHED ∧
      (List.range 256).all (fun i => !(sHng 3 1 [] id).m.c.is R.SRC_EN i) = true)  :=
  ⟨by decide, by decide, by decide, by decide +kernel, by decide, by decide, by decide +kernel⟩

/-- A good frame header from rank 0. -/
def aHead : HngHead := { crcOk := true, ver := 1, src := 0, dst := 3, group := 0, seq := 1, cwin := 7 }

/-- A standby, part-way through its resync, after that header. -/
def afterHead : Ctl × Bool := Ctl.hngAccept { (sHng 3 1 [(R.HNG_STATUS_SYNC, 1, 0)] id).m.c with out := [] } 1 aHead

theorem witness_HingeFrames :
    ((sHng 0 0 [(R.HNG_CFG_H1_EN, 1, 0)] id).m.c.is R.HNG_CFG_H1_EN = true ∧ State.reset.m.c.is R.HNG_STATUS_H1_UP = false ∧
      (sHng 0 0 [(R.HNG_STATUS_H0_UP, 1, 0)] id).m.c.is R.HNG_STATUS_H0_UP = true) ∧
    (afterHead.2 = true ∧ (afterHead.1.peer 0).differs = false ∧ afterHead.1.role = 3 ∧ afterHead.1.get R.HNG_STATUS_SYNC = 1 ∧
      (recordParse 0 [2]).role = 2 ∧ (recordParse 0 [2]).promoted = false ∧ (recordParse 0 [3]).role ≠ 2) ∧
    (∃ s : State, kget? s.m.c.hng.records ((s.m.c.winNo + 2 ^ 32 - 1) % 2 ^ 32) = some (recordParse 0 []) ∧ s.m.c.role = 3 ∧
      (recordParse 0 []).overflow = false) :=
  ⟨by decide, by decide,
    ⟨sHng 3 1 [(R.WIN_COUNT, 1, 0)] fun h => { h with records := [(0, recordParse 0 [])] }, by decide⟩⟩

theorem witness_HingeDecisions :
    ((sHng 3 1 [(R.HNG_TIMING_PROBE_EVERY, 1, 0)] fun h => { h with sinceProbe := 16 }).m.c.role ≠ 0 ∧
      (sHng 3 1 [(R.HNG_TIMING_PROBE_EVERY, 1, 0)] fun h => { h with sinceProbe := 16 }).m.c.get R.HNG_TIMING_PROBE_EVERY = 1 ∧
      16 * 1 ≤ (sHng 3 1 [(R.HNG_TIMING_PROBE_EVERY, 1, 0)] fun h => { h with sinceProbe := 16 }).m.c.hng.sinceProbe) ∧
    ((sHng 3 1 [] fun h => { h with probe := some 0, probeWhy := 1 }).m.c.hng.probe = some 0 ∧
      (sHng 2 0 [] fun h => { h with probe := some 0, probeWhy := 1 }).m.c.hng.decide = none) ∧
    (∃ s : State, s.m.c.hng.decide = some (2, false) ∧ later 2 s.m.c.winNo = false ∧ s.m.c.role = 2 ∧
      probesOk 2 s.m.c.hng.probes = true) ∧
    (∃ s : State, s.m.c.hng.decide = some (2, false) ∧ later 2 s.m.c.winNo = false ∧ s.m.c.role = 2 ∧ probesOk 2 s.m.c.hng.probes = false ∧
      1 ∈ s.m.c.hngRanks ∧ bit (s.m.c.get R.HNG_STATUS_HEARD) 1 = true ∧ probesOk 2 (s.m.c.peer 1).probes = true ∧
      s.m.c.get R.HNG_PEER_ROLE 1 = 3) ∧
    (∃ s : State, s.m.c.hng.decide = some (2, false) ∧ later 2 s.m.c.winNo = false ∧ s.m.c.role = 3 ∧ s.m.c.hngRanks = [0] ∧
      bit (s.m.c.get R.HNG_STATUS_HEARD) 0 = true ∧ s.m.c.get R.HNG_PEER_ROLE 0 = 2) ∧
    (∃ s : State, s.m.c.get R.HNG_CFG_MODE = 2 ∧ s.m.c.role = 2 ∧ s.m.c.hngRanks = [1, 2] ∧
      (∀ r ∈ [1, 2], (s.m.c.peer r).cwin = (s.m.c.winNo + 2 ^ 32 - 2) % 2 ^ 32 ∧ (s.m.c.peer r).crcs ≠ [] ∧ s.m.c.get R.HNG_PEER_ROLE r = 3) ∧
      (s.m.c.peer 1).crcs = (s.m.c.peer 2).crcs ∧ (s.m.c.peer 1).crcs ≠ s.m.c.hngCrcs 0) ∧
    ((sHng 3 1 [(R.HNG_PEER_MISSED, 15, 0), (R.HNG_PEER_ROLE, 2, 0), (R.HNG_STATUS_SYNC, 3, 0)] id).m.c.hngRanks = [0] ∧
      (sHng 3 1 [(R.HNG_PEER_MISSED, 15, 0)] id).m.c.get R.HNG_TIMING_HB_MISS ≤ (sHng 3 1 [(R.HNG_PEER_MISSED, 15, 0)] id).m.c.get R.HNG_PEER_MISSED 0) :=
  ⟨by decide, by decide,
    ⟨sHng 2 0 [(R.WIN_COUNT, 2, 0)] fun h => { h with decide := some (2, false), probes := [(1, true), (0, true)] }, by decide⟩,
    ⟨sHng 2 0 [(R.WIN_COUNT, 2, 0), (R.HNG_STATUS_HEARD, 2, 0), (R.HNG_PEER_ROLE, 3, 1)] fun h =>
      { h with decide := some (2, false), peers := [(1, { probes := [(1, true), (0, true)] })] }, by decide⟩,
    ⟨sHng 3 1 [(R.WIN_COUNT, 2, 0), (R.HNG_STATUS_HEARD, 1, 0), (R.HNG_PEER_ROLE, 2, 0)] fun h => { h with decide := some (2, false) }, by decide⟩,
    ⟨stR [(R.HNG_STATUS_ROLE, 2, 0), (R.HNG_CFG_MODE, 2, 0), (R.WIN_COUNT, 2, 0), (R.HNG_PEER_ROLE, 3, 1), (R.HNG_PEER_ROLE, 3, 2)] fun c =>
      { c with hng := { c.hng with peers := [(1, { crcs := [1] }), (2, { crcs := [1] })] } }, by decide⟩, by decide⟩

/-- Fabric gate 3 on and up, the module a converged root. -/
def sFab (l : List (Reg × Nat × Nat)) (f : FabSt → FabSt) : State :=
  stR ([(R.FAB_CFG_EN, 1, 0), (R.FAB_CFG_GATE_EN, 8, 0), (R.FAB_GATE_UP, 1, 3), (R.FAB_STATUS_STATE, 2, 0), (R.FAB_STATUS_ROOT, 1, 0),
    (R.FAB_STATUS_CONVERGED, 1, 0), (R.FAB_STATUS_NODE, 5, 0)] ++ l) fun c => { c with fab := f c.fab }

/-- A data cell to station `dst`, and a link-local or control cell with words. -/
def aCell (kind dst : Nat) (mc : Bool) (w : List Nat) : Cell := { vc := 1, cls := 1, kind := kind, mc := mc, dst := dst, hops := 2, words := w }

theorem witness_FabricGates :
    ((sFab [(R.FAB_GATE_UP, 0, 3)] fun f => { f with nbrs := [(3, knockParse [])] }).m.c.gateOn 3 = true ∧
      (kget? (sFab [(R.FAB_GATE_UP, 0, 3)] fun f => { f with nbrs := [(3, knockParse [])] }).m.c.fab.nbrs 3).isSome = true ∧
      (sFab [(R.FAB_GATE_UP, 0, 3)] id).m.c.is R.FAB_GATE_UP 3 = false) ∧
    (sFab [] id).m.c.is R.FAB_GATE_UP 3 = true ∧
    (∃ (s : State) (q : QCell), s.m.c.gateOn 3 = true ∧ s.m.c.slotPick 3 = some 4 ∧ (kgetD s.m.c.fab.out 19 []).head? = some q) ∧
    (∃ (s : State) (q : QCell), s.m.c.gateOn 3 = true ∧ s.m.c.slotPick 3 = some 3 ∧ pick3 (kgetD s.m.c.fab.out 15 []) = some q) ∧
    ((sFab [] id).m.c.gateOn 3 = true ∧ (sFab [] id).m.c.slotPick 3 = none) ∧
    (∃ (s : State) (q : QCell) (l : List QCell), kgetD s.m.c.fab.out (4 * 3 + 2) [] = q :: l ∧ q.cell.mc = false) ∧
    (∃ (s : State) (q : QCell) (l : List QCell), kgetD s.m.c.fab.out (4 * 3 + 2) [] = q :: l ∧ q.cell.mc = true ∧ q.cell.kind ≠ 1) ∧
    ((Ctl.cellIn { (sFab [] id).m.c with out := [] } 3 { aCell 5 0 false [1, 2, 3, 4] with crCnt := 0 }).2 = true ∧
      (aCell 5 0 false [1, 2, 3, 4]).kind = 5) :=
  ⟨by decide, by decide,
    ⟨sFab [] fun f => { f with out := [(19, [{ cell := aCell 3 0 false [] }])] }, { cell := aCell 3 0 false [] }, by decide⟩,
    ⟨sFab [] fun f => { f with out := [(15, [{ cell := aCell 1 0 false [] }])] }, { cell := aCell 1 0 false [] }, by decide⟩, by decide,
    ⟨sFab [] fun f => { f with out := [(14, [{ cell := aCell 1 0 false [] }])] }, { cell := aCell 1 0 false [] }, [], by decide⟩,
    ⟨sFab [] fun f => { f with out := [(14, [{ cell := aCell 2 0 true [] }])] }, { cell := aCell 2 0 true [] }, [], by decide⟩, by decide⟩

/-- What reception makes of a cell at gate 3. -/
def inAt (x : Cell) : Ctl × Bool := Ctl.cellIn { (sFab [] id).m.c with out := [] } 3 x

/-- The same of a control cell. -/
def ctrlAt (op : Nat) (x : Cell) : Ctl × Bool := Ctl.ctrlIn { (sFab [] id).m.c with out := [] } 3 x op

theorem witness_FabricCells :
    ((inAt (aCell 3 0 false [1])).2 = true ∧ (aCell 3 0 false [1]).words.getD 0 0 % 256 = 1) ∧
    ((inAt (aCell 1 5 false [])).2 = true ∧ 5 % 256 = (inAt (aCell 1 5 false [])).1.station) ∧
    ((inAt (aCell 1 70 false [])).2 = true ∧ 70 % 256 ≠ (inAt (aCell 1 70 false [])).1.station ∧ 70 % 256 / 64 ≠ 3) ∧
    (inAt (aCell 1 0 true [])).2 = true ∧ (inAt { aCell 1 5 false [] with crcOk := false }).2 = false ∧
    (ctrlAt 3 (aCell 2 5 false [3])).2 = true ∧ (ctrlAt 4 (aCell 2 5 false [4])).2 = true ∧ (ctrlAt 5 (aCell 2 5 false [5])).2 = true ∧
    (ctrlAt 8 (aCell 2 5 false [8])).2 = true ∧ (ctrlAt 6 (aCell 2 0 true [6, 9, 100])).2 = true ∧
    ((ctrlAt 7 (aCell 2 0 true [7, 15, 100])).2 = true ∧ 15 % 16 ≠ (ctrlAt 7 (aCell 2 0 true [7, 15, 100])).1.get R.WIN_TICK_LEN_ACTIVE) ∧
    ((ctrlAt 1 (aCell 2 0 true [1 + 256 * 63])).2 = true ∧
      ctrlFrom (aCell 2 0 true [1 + 256 * 63]) % 64 ≠ (ctrlAt 1 (aCell 2 0 true [1 + 256 * 63])).1.node) := by
  decide

theorem witness_FabricConfiguration :
    ((sFab [(R.FAB_STATUS_ROOT, 0, 0)] id).m.c.is R.FAB_CFG_EN = true ∧ (sFab [(R.FAB_STATUS_ROOT, 0, 0)] id).m.c.is R.FAB_STATUS_ROOT = false) ∧
    ((sFab [] id).m.c.is R.FAB_STATUS_ROOT = true ∧ (sFab [] id).m.c.get R.FAB_STATUS_STATE = 2) ∧
    ((sFab [(R.FAB_GEN_NEXT, 65535, 0)] id).m.c.get R.FAB_GEN_NEXT ≠ 0 ∧
      later ((sFab [(R.FAB_GEN_NEXT, 65535, 0)] id).m.c.get R.FAB_GEN_WIN) (sFab [(R.FAB_GEN_NEXT, 65535, 0)] id).m.c.winNo = false) ∧
    ((sFab [] id).m.c.is R.WIN_STATUS_RUN = false ∧ (sFab [] id).m.c.fabConverged = true) ∧ State.reset.m.c.fabConverged = false ∧
    State.reset.m.c.is R.FAB_STATUS_ROOT = false ∧
    (R.FAB_CFG_GATE_EN.of 128 = State.reset.m.c.get R.FAB_CFG_GATE_EN ∧ State.reset.m.c.is R.FAB_CFG_EN = false ∧ R.FAB_CFG_EN.of 128 = 1) ∧
    (∃ d : BitVec 32, R.FAB_CFG_GATE_EN.of d.toNat = (sFab [] id).m.c.get R.FAB_CFG_GATE_EN ∧ R.FAB_CFG_EN.of d.toNat = 0 ∧
      (sFab [] id).m.c.armed = false ∧ (sFab [] id).m.c.changes [R.FAB_CFG_NODE_REQ, R.FAB_CFG_ANY, R.FAB_CFG_PRIO] 0 d.toNat = false) ∧
    ((sFab [(R.SYS_ARM_ARMED, 1, 0)] id).m.c.is R.FAB_CFG_EN = true ∧ R.FAB_CFG_EN.of 0 = 0 ∧ (sFab [(R.SYS_ARM_ARMED, 1, 0)] id).m.c.armed = true) :=
  ⟨by decide, by decide, by decide, by decide, by decide, by decide, by decide,
    ⟨BitVec.ofNat 32 (8 * 2 ^ R.FAB_CFG_GATE_EN.lo + State.reset.m.c.get R.FAB_CFG_NODE_REQ * 2 ^ R.FAB_CFG_NODE_REQ.lo +
      State.reset.m.c.get R.FAB_CFG_ANY * 2 ^ R.FAB_CFG_ANY.lo + State.reset.m.c.get R.FAB_CFG_PRIO * 2 ^ R.FAB_CFG_PRIO.lo), by decide⟩,
    by decide⟩

/-- Port 3 enabled with its link up. -/
def sNet (l : List (Reg × Nat × Nat)) (f : PortSt → PortSt) : State :=
  stR ([(R.NET_CFG_EN, 1, 3), (R.NET_STATUS_LINK_UP, 1, 3), (R.DRAM_STATUS_MODE, 1, 0)] ++ l) fun c => { c with net := { c.net with ports := [(3, f {})] } }

/-- A word for NET_CFG of port 3 with its reset values, EN as said. -/
def netWord (en : Nat) : Nat := en + 3 * 2 + 16 + 2 ^ 11 + 1522 * 2 ^ 16

theorem witness_NetworkPorts :
    ((sNet [(R.NET_STATUS_LINK_UP, 0, 3)] id).m.c.is R.NET_CFG_EN 3 = true ∧ (sNet [(R.NET_STATUS_LINK_UP, 0, 3)] id).m.c.is R.NET_STATUS_LINK_UP 3 = false) ∧
    ((0 : Fin 4).val < 2 ∧ ∀ mw, some 1001 = some mw → 1000 < mw) ∧ (sNet [] id).m.c.is R.NET_STATUS_LINK_UP 3 = true ∧ (1000 : Nat) ≤ 1000 ∧
    inRange netCfgFields 0 = false ∧
    (inRange netCfgFields (netWord 1 + 128) = true ∧ rateOk 3 (R.NET_CFG_RATE.of (netWord 1)) = true ∧ R.NET_CFG_PREEMPT_EN.of (netWord 1) = 0) ∧
    ((sNet [] id).m.c.is R.NET_CFG_EN 3 = true ∧ (sNet [] id).m.c.changes netLocked 3 (netWord 0 - 16) = true) ∧
    (State.reset.m.c.is R.NET_CFG_EN 3 = false ∧ R.NET_CFG_EN.of (netWord 0) = 0 ∧ State.reset.m.c.is R.NET_STATUS_LINK_UP 3 = false) ∧
    (R.NET_CFG_EN.of (netWord 1) = 1 ∧ (sNet [] id).m.c.changes netLocked 3 (netWord 1) = false) ∧
    (1518 + 4 ≤ (sNet [] id).m.c.get R.NET_CFG_MAXLEN 3 ∧ (sNet [] id).m.c.get R.NET_CFG_MAXLEN 3 < 1519 + 4) ∧
    ((sNet [] fun p => { p with ptp := [.sync] }).m.c.port 3).ptp = .sync :: [] ∧
    (((sNet [] id).m.c.port 3).ptp = [] ∧ (Ctl.txStreams { (sNet [] id).m.c with out := [] } 3 0 [0, 1, 2, 3]).2 = false ∧
      (Ctl.txStreams { (sNet [] id).m.c with out := [] } 3 0 [0, 1, 2, 3]).1.dmaOk
        ((Ctl.txStreams { (sNet [] id).m.c with out := [] } 3 0 [0, 1, 2, 3]).1.descAt 3 1 0) (32 * 2 ^ 4) = true) ∧
    (Ctl.txStreams { (sNet [] fun p => { p with pkts := [{ target := 0, idx := 63, cls := 3, len := 64, words := [] }] }).m.c with out := [] } 3 0
      [0, 1, 2, 3]).2 = true ∧
    (sNet [(R.NET_STATUS_PAUSED, 1, 3)] id).m.c.is R.NET_STATUS_PAUSED 3 = true ∧
    ((st [(R.NET_STATUS_PREEMPT, 1, 0)]).m.c.get R.NET_STATUS_PREEMPT 0 = 1 ∧ ((st [(R.NET_STATUS_PREEMPT, 1, 0)]).m.c.port 0).tries < 2) ∧
    ((sNet [(R.NET_STATUS_PREEMPT, 1, 3)] fun p => { p with tries := 2 }).m.c.get R.NET_STATUS_PREEMPT 3 = 1 ∧
      2 ≤ ((sNet [(R.NET_STATUS_PREEMPT, 1, 3)] fun p => { p with tries := 2 }).m.c.port 3).tries) ∧
    ((st [(R.NET_CFG_PREEMPT_EN, 1, 1), (R.NET_STATUS_LINK_UP, 1, 1)]).m.c.is R.NET_CFG_PREEMPT_EN 1 = true ∧
      (st [(R.NET_CFG_PREEMPT_EN, 1, 1), (R.NET_STATUS_LINK_UP, 1, 1)]).m.c.is R.NET_STATUS_LINK_UP 1 = true) ∧
    ((sNet [] fun p => { p with reports := [[1, 2, 3, 4]] }).m.c.port 3).reports = [1, 2, 3, 4] :: [] ∧
    (State.reset.m.c.is R.NET_STATUS_PAUSED 3 = false ∧ State.reset.m.c.get R.NET_STATUS_PREEMPT 3 ≠ 1 ∧
      (State.reset.m.c.port 3).reports = []) := by
  refine ⟨by decide, ⟨by decide, by rintro mw h; cases h; decide⟩, by decide⟩

/-- A receive and a transmit stream's word 0: two channels, L24, 1 ms (PTIME code 2), on port 3. -/
def rxWord : Nat := 1 + 3 * 2 + 3 * 8 + 32 + 2 * 64 + 2 * 256 + 96 * 2 ^ 24
def txWord : Nat := 1 + 3 * 2 + 3 * 8 + 32 + 2 * 64 + 2 * 256 + 96 * 2 ^ 22

/-- Samples waiting for one packet of stream 63. -/
def sTx : State := stR [(R.NET_TXS_EN, 1, 63), (R.NET_TXS_PORT, 3, 63), (R.NET_STATUS_LINK_UP, 1, 3)] fun c =>
  { c with net := { c.net with tx := [(63, { pend := List.replicate 6 [0, 0] })] } }

theorem witness_StreamsAndTime :
    ((st [(R.TIME_PTP_PORT_EN, 1, 3), (R.NET_STATUS_LINK_UP, 1, 3)]).m.c.is R.TIME_PTP_PORT_EN 3 = true ∧
      (st [(R.TIME_PTP_PORT_EN, 1, 3), (R.NET_STATUS_LINK_UP, 1, 3)]).m.c.is R.NET_STATUS_LINK_UP 3 = true) ∧
    (st [(R.NET_RXS_STAT_STATE, 1, 63)]).m.c.get R.NET_RXS_STAT_STATE 63 = 1 ∧ State.reset.m.c.get R.NET_RXS_STAT_STATE 63 = 0 ∧
    (rangeAt (rxsAt 63) (rxWord + 3 * 64) = false ∨ rangeAt (rxsAt 63) (rxWord + 125 * 256) = false) ∧
    (rangeAt (rxsAt 63) rxWord = true ∧ (sNet [(R.NET_RXS_LINK_OFFSET, 56, 63)] id).m.c.is R.NET_RXS_EN 63 = false ∧ R.NET_RXS_EN.of rxWord = 1 ∧
      (sNet [(R.NET_RXS_LINK_OFFSET, 56, 63)] id).m.c.rxCheck 63 rxWord = 0) ∧
    (rangeAt (rxsAt 63) (rxWord - 1) = true ∧ R.NET_RXS_EN.of (rxWord - 1) = 0 ∧
      (st [(R.NET_RXS_EN, 1, 63), (R.NET_RXS_PORT, 3, 63), (R.NET_RXS_PTIME, 2, 63)]).m.c.changesAt (rxsAt 63) (rxWord - 1 + 1) = false) ∧
    (rangeAt (txsAt 63) (txWord - 1) = true ∧ R.NET_TXS_EN.of (txWord - 1) = 0 ∧
      (st [(R.NET_TXS_EN, 1, 63), (R.NET_TXS_PORT, 3, 63), (R.NET_TXS_PTIME, 2, 63)]).m.c.changesAt (txsAt 63) (txWord - 1 + 1) = false) ∧
    (rangeAt (txsAt 63) txWord = true ∧ (sNet [] id).m.c.is R.NET_TXS_EN 63 = false ∧ R.NET_TXS_EN.of txWord = 1 ∧
      (sNet [] id).m.c.txCheck 63 txWord = 0) ∧
    (sTx.m.c.is R.NET_TXS_EN 63 = true ∧ sTx.m.c.perPacket (sTx.m.c.get R.NET_TXS_PTIME 63) = 6 ∧ (sTx.m.c.tx 63).pend.length = 6 ∧
      sTx.m.c.get R.HNG_STATUS_ROLE ≠ 3 ∧ sTx.m.c.is R.NET_STATUS_LINK_UP (sTx.m.c.get R.NET_TXS_PORT 63) = true) ∧
    (State.reset.m.c.is R.TIME_CTRL_SERVO_EN = false ∧ State.reset.m.c.is R.WIN_STATUS_RUN = false) ∧ sRun.m.c.is R.WIN_STATUS_RUN = true := by
  refine ⟨by decide, by decide, by decide, by decide +kernel, by decide +kernel, by decide +kernel, by decide +kernel, by decide +kernel, by decide,
    by decide, by decide⟩

/-- Input 7 in SRC mode with 48 good frames, the TDM ports slaves, everything on and windows running. -/
def sAud (l : List (Reg × Nat × Nat)) : State :=
  stR ([(R.AUD_CTRL_AES_EN, 1, 0), (R.AUD_CTRL_MADI_EN, 1, 0), (R.AUD_CTRL_TDM_EN, 15, 0), (R.AUD_CTRL_ANA_EN, 1, 0), (R.AUD_AES_IN_SRC, 1, 7),
    (R.AUD_TDM_SLAVE, 1, 3), (R.WIN_STATUS_RUN, 1, 0), (R.AUD_ANA_SUP_EN, 1, 1)] ++ l) fun c =>
    { c with aud := { c.aud with ins := [(7, { good := 48 })] } }

theorem witness_AudioPorts :
    (sAud []).m.c.audOn 13 = true ∧ State.reset.m.c.audOn 13 = false ∧
    ((sAud []).m.c.srcMode 7 = true ∧ (sAud []).m.c.is R.AUD_AES_IN_SRC_LOCK 7 = false ∧ 48 ≤ ((sAud []).m.c.audIn 7).good) ∧
    ((sAud []).m.c.audOn (3 + 10) = true ∧ (sAud []).m.c.is R.AUD_TDM_SLAVE 3 = true) ∧
    ((sAud []).m.c.audOn 14 = true ∧ cget (sAud []).m.c.aud.sent 14 < (sAud []).m.c.winSamples) ∧
    (sAud []).m.c.is R.AUD_ANA_SUP_EN 1 = true ∧ (sAud []).m.c.is R.WIN_STATUS_RUN = true ∧
    (State.reset.m.c.audOn 7 = false ∧ State.reset.m.c.is R.AUD_ANA_SUP_EN 1 = false ∧ State.reset.m.c.is R.WIN_STATUS_RUN = false) := by
  decide

/-- Amplifier link 7 in a state, its enable bit on. -/
def sAmp (state : Nat) (l : List (Reg × Nat × Nat)) : State := st ([(R.AMP_LINK_STATE, state, 7), (R.AMP_CTRL_EN, 128, 0), (R.AMP_LINK_PRESENT, 2 ^ 31, 7)] ++ l)

theorem witness_AmplifierLinks :
    ((sAmp 1 []).m.c.get R.AMP_LINK_STATE 7 ≠ 0 ∧ State.reset.m.c.get R.AMP_LINK_STATE 7 = 0) ∧
    (crc16 ((List.replicate 63 (0 : Byte)).take 61) = leVal ((List.replicate 63 (0 : Byte)).drop 61) ∨
      (∃ b : List Byte, b.length = 63 ∧ crc16 (b.take 61) = leVal (b.drop 61))) ∧
    (sAmp 2 []).m.c.get R.AMP_LINK_STATE 7 = 2 ∧ (sAmp 2 []).m.c.ampPresent 7 31 = true ∧ State.reset.m.c.ampPresent 7 31 = false ∧
    (bit ((sAmp 2 [(R.SHUT_OPEN, 0x80000000, 23)]).m.c.get R.AMP_CTRL_EN) 7 = true ∧ bit 127 7 = false ∧
      (sAmp 2 [(R.SHUT_OPEN, 0x80000000, 23)]).m.c.linkOpen 7 = true) ∧
    (∀ k < 8, (bit 0 k = true → bit ((sAmp 2 []).m.c.get R.AMP_CTRL_EN) k = true) ∧ (sAmp 2 []).m.c.linkOpen k = false) ∧
    (R.AMP_CTRL_EN.of 128 = State.reset.m.c.get R.AMP_CTRL_EN + 2 ^ 7 ∧ bit (State.reset.m.c.get R.AMP_CTRL_EN) 7 = false ∧
      (Ctl.enableBlocks { State.reset.m.c with out := [] } [7] (fun l c => c.blockSet (33 + l) true)).2 = 0) ∧
    ((sAmp 1 []).m.c.get R.AMP_LINK_STATE 7 ≠ 2) ∧
    (sAmp 1 [(R.AMP_MSG_TX_BUSY, 1, 7)]).m.c.is R.AMP_MSG_TX_BUSY 7 = true ∧ State.reset.m.c.is R.AMP_MSG_TX_BUSY 7 = false := by
  refine ⟨by decide, Or.inr ⟨List.replicate 61 0 ++ leBytes 2 (crc16 (List.replicate 61 0)), by decide +kernel⟩, by decide, by decide, by decide,
    by decide +kernel, by decide +kernel, by decide +kernel, by decide, by decide, by decide⟩

/-- A control message of the operation MIRROR (the last of its packet), and of ROUTE before the last station. -/
def lastMsg : CtrlMsg := { cell := aCell 2 0 true [1] }
def midMsg : CtrlMsg := { cell := aCell 2 0 false [4, 0, 0] }

theorem witness_MatrixAndQueues :
    [((9 : Fin 10), (3 : Fin 4))] ≠ [] ∧ State.reset.m.c.is R.MTX_STATUS_TIMEOUT_SEEN = false ∧
    (st [(R.MTX_STATUS_TIMEOUT_SEEN, 1, 0)]).m.c.is R.MTX_STATUS_TIMEOUT_SEEN = true ∧
    (∃ s : State, s.m.c.fab.ctrlq = [midMsg] ++ lastMsg :: [midMsg] ∧ lastMsg.last = true ∧ ∀ y ∈ [midMsg], y.last = false) ∧
    (∀ y ∈ State.reset.m.c.fab.ctrlq, y.last = false) :=
  ⟨by decide, by decide, by decide, ⟨stC fun c => { c with fab := { c.fab with ctrlq := [midMsg, lastMsg, midMsg] } }, by decide⟩, by decide⟩

/-- A request of the sequencers for the last octet of usable memory. -/
def lastReq : DramReq :=
  { num := 0, req := 4, master := 4, cls := 0, addr := State.reset.m.c.usable - 1, len := 1, isWrite := true, write := [255] }

/-- DRAM in a mode with the last request queued on its channel. -/
def sDram (mode : Nat) (l : List (Reg × Nat × Nat)) : State :=
  stR ((R.DRAM_STATUS_MODE, mode, 0) :: l) fun c => { c with dram := { c.dram with q0 := [lastReq], q1 := [lastReq] } }

theorem witness_DramRequests :
    (st [(R.DRAM_STATUS_MODE, 3, 0)]).m.c.get R.DRAM_STATUS_MODE = 3 ∧ State.reset.m.c.usable < 2 ^ 40 - 1 ∧
    ((st [(R.DRAM_STATUS_MODE, 1, 0)]).m.c.get R.DRAM_STATUS_MODE = 1 ∧ lastReq.addr + lastReq.len ≤ (st [(R.DRAM_STATUS_MODE, 1, 0)]).m.c.usable ∧
      (st [(R.DRAM_STATUS_MODE, 1, 0)]).m.c.dramRoom lastReq = true) ∧
    ((sDram 1 []).m.c.get R.DRAM_STATUS_MODE = 1 ∧ (sDram 1 []).m.c.dramPick 1 0xFFFF = some lastReq ∧ (sDram 1 []).m.c.dram.bad = []) ∧
    State.reset.m.c.get R.DRAM_STATUS_MODE ≠ 1 ∧ ((sDram 1 []).m.c.dramQ 1)[0]? = some lastReq ∧ lastReq.aged = false ∧
    (State.reset.m.c.dramPick 1 0xFFFF = none ∧ (State.reset.m.c.dramQ 1)[127]? = none) ∧
    (∀ i < lastReq.len, (sDram 1 []).m.c.unstated (lastReq.addr + i) = false ∧ (sDram 1 []).m.c.historyByte (lastReq.addr + i) = none) := by
  decide

theorem witness_DramModes :
    ((st [(R.DRAM_STATUS_MODE, 1, 0), (R.DRAM_CTRL_SR_EN, 1, 0), (R.WIN_STATUS_LEAN, 1, 0)]).m.c.srPermitted = true ∧
      (st [(R.DRAM_STATUS_MODE, 1, 0)]).m.c.dram.q0 = [] ∧ (st [(R.DRAM_STATUS_MODE, 1, 0)]).m.c.dram.q1 = []) ∧
    ((sDram 1 [(R.DRAM_CTRL_SR_EN, 1, 0), (R.WIN_STATUS_LEAN, 1, 0)]).m.c.srPermitted = true ∧ (sDram 1 []).m.c.dram.q0 ≠ []) ∧
    ((sDram 2 []).m.c.get R.DRAM_STATUS_MODE = 2 ∧ (sDram 2 []).m.c.dram.q1 ≠ []) ∧
    ((sDram 3 []).m.c.secure .keeper = true ∧ (sDram 3 []).m.c.get R.DRAM_STATUS_MODE = 3 ∧ inRange (wordFields R.fieldsDRAM 0x90000) (12800 + 5) = true ∧
      (12800 + 5) / 4 % 2 = 1) ∧
    (State.reset.m.c.get R.DRAM_STATUS_MODE ≠ 3 ∧ inRange (wordFields R.fieldsDRAM 0x90000) (12800 + 1) = true ∧ (12800 + 1) / 4 % 2 = 0) ∧
    (State.reset.m.c.get R.DRAM_STATUS_MODE ≠ 1 ∧ State.reset.m.c.get R.DRAM_STATUS_MODE ≠ 2) ∧ State.reset.m.c.secure .fn1 = false := by
  decide

/-- Latch 63 owned by PCIe function 1, latch 62 by sequencer 3, and a vector of each function waiting. -/
def sHost : State := stR [(R.LATCH, 0x80001000, 63), (R.LATCH, 0x80000007, 62)] fun c => { c with
  evt := { c.evt with
    fn0 := { enable := true, vecs := [(7, ⟨false, true, 0, 0⟩)] }
    fn1 := { enable := true, vecs := [(7, ⟨true, true, 0, 0⟩)] } } }

theorem witness_HostLink :
    (sHost.m.c.get R.LATCH 63 = 0x80001000 ∧ sHost.m.c.fabr.stalls = [] ∧ sHost.m.c.get R.LATCH 62 ≠ 0x80000000 ∧
      sHost.m.c.get R.LATCH 62 ≠ 0x80001000 ∧ 0x80000000 < sHost.m.c.get R.LATCH 62) ∧
    ((sHost.m.c.msixFn 0).enable = true ∧ (kgetD (sHost.m.c.msixFn 0).vecs 7 {}).pending = true ∧ (kgetD (sHost.m.c.msixFn 0).vecs 7 {}).mask = false) ∧
    ((sHost.m.c.msixFn 1).enable = true ∧ (sHost.m.c.msixFn 1).fmask = false ∧ (kgetD (sHost.m.c.msixFn 1).vecs 7 {}).pending = true) := by
  decide

theorem witness_EventCommands :
    (bit 8 3 = true ∧ bit ((st [(R.EVT_CLASS_PEND, 8, 0), (R.EVT_CLASS_ROUTE_EN0, 1, 3), (R.EVT_CLASS_ROUTE_VEC0, 7, 3)]).m.c.get R.EVT_CLASS_PEND) 3 = true ∧
      (st [(R.EVT_CLASS_PEND, 8, 0), (R.EVT_CLASS_ROUTE_EN0, 1, 3), (R.EVT_CLASS_ROUTE_VEC0, 7, 3)]).m.c.is R.EVT_CLASS_ROUTE_EN0 3 = true ∧
      sHost.m.c.evt.fn0.enable = true ∧ sHost.m.c.evt.fn0.fmask = false ∧ (kgetD sHost.m.c.evt.fn0.vecs 7 {}).mask = false) ∧
    ((st [(R.EVT_CLASS_ROUTE_EN1, 1, 3)]).m.c.is R.EVT_CLASS_ROUTE_EN1 3 = true ∧
      (∃ c : Ctl, c.evt.fn1.enable = true ∧ c.evt.fn1.fmask = true)) ∧
    State.reset.m.c.evt.queue = [] ∧ (∃ (s : State) (e : EvRec), s.m.c.evt.queue = e :: [] ∧ 0 = s.m.c.get R.EVT_REC_WM_LOW) ∧
    (∃ (s : State) (e : EvRec), s.m.c.evt.queue = e :: [] ∧ 0 ≠ s.m.c.get R.EVT_REC_WM_LOW) :=
  ⟨by decide, ⟨by decide, ⟨{ ({} : Ctl) with evt := { fn1 := { enable := true, fmask := true } } }, by decide⟩⟩, by decide,
    ⟨stR [(R.EVT_REC_WM_LOW, 0, 0)] fun c => { c with evt := { c.evt with queue := [⟨0, 0, false, 0, 0, 0⟩] } }, ⟨0, 0, false, 0, 0, 0⟩, by decide⟩,
    ⟨stR [(R.EVT_REC_WM_LOW, 5, 0)] fun c => { c with evt := { c.evt with queue := [⟨0, 0, false, 0, 0, 0⟩] } }, ⟨0, 0, false, 0, 0, 0⟩, by decide⟩⟩

/-- Both boxes of pair 7 FULL. -/
def sFull : State := st [(R.MBX_LB_FULL, 1, 14), (R.MBX_LB_FULL, 1, 15), (R.EVT_SRC_EN, 255, Ev.MBX_STANDOFF / 8)]

theorem witness_LetterboxStandOff :
    (sFull.m.c.is R.MBX_LB_FULL (2 * 7) = true ∧ sFull.m.c.is R.MBX_LB_FULL (2 * 7 + 1) = true ∧ 7 ∉ sFull.m.c.mbx.reported ∧
      sFull.m.c.srcOn Ev.MBX_STANDOFF = true ∧ sFull.m.c.fire.dieLost = false ∧ sFull.m.c.evt.queue.length < 255) ∧
    (∃ s : State, s.m.c.is R.MBX_LB_FULL (2 * 5) = true ∧ s.m.c.is R.MBX_LB_FULL (2 * 5 + 1) = true ∧ 5 ∈ s.m.c.mbx.reported ∧
      11 / 2 = 5 ∧ s.m.c.receiver 11 = some .fn1) :=
  ⟨by decide, ⟨stR [(R.MBX_LB_FULL, 1, 10), (R.MBX_LB_FULL, 1, 11)] fun c => { c with mbx := { reported := [5] } }, by decide⟩⟩

theorem witness_Letterboxes :
    (State.reset.m.c.sender 10 = some .fn1 ∧ State.reset.m.c.is R.MBX_LB_FULL 10 = false ∧ sFull.m.c.is R.MBX_LB_FULL 14 = true ∧
      State.reset.m.c.sender 0 = some .fn0 ∧ (st [(R.MBX_LB_FULL, 1, 0)]).m.c.is R.MBX_LB_FULL 0 = true) ∧
    State.reset.m.c.sender 15 ≠ some .fn0 ∧ State.reset.m.c.receiver 10 = some .keeper ∧ State.reset.m.c.receiver 10 ≠ some .fn0 ∧
    (State.reset.m.c.is R.MBX_LB_FULL (2 * (1 + 2)) = false ∧ State.reset.m.c.is R.MBX_LB_FULL (2 * (1 + 2) + 1) = false) ∧
    (st [(R.MBX_LB_FULL, 1, 7)]).m.c.is R.MBX_LB_FULL (2 * (1 + 2) + 1) = true ∧ State.reset.m.c.get R.LATCH 63 = 0 ∧
    (sHost.m.c.get R.LATCH 63 = 0x80000000 + ownerCode .fn1 ∧ sHost.m.c.fabr.stalls = []) ∧
    sHost.m.c.get R.LATCH 63 ≠ 0x80000000 + ownerCode .fn0 := by
  decide

/-- A command word in the first box of pair `p`, with the box FULL. -/
def sBox (p : Nat) (w : Nat) (l : List (Reg × Nat × Nat)) : State := st ([(R.MBX_LB_DATA, w, 16 * (2 * p)), (R.MBX_LB_FULL, 1, 2 * p)] ++ l)

theorem witness_KeeperCommands :
    KeeperRow 5 none true 0 (.version 5, codeIs 0x01, versionCmd) ∧
    ((sBox 5 1 []).m.c.keepMay 5 = true ∧ codeIs 0x01 ((sBox 5 1 []).m.c.lbWords 10) = true ∧ (sBox 5 1 []).m.c.is R.MBX_LB_COLLIDE 10 = false ∧
      ((sBox 5 1 []).m.c.keepTaken 5).2 = true ∧ ((sBox 5 1 []).m.c.keepTaken 5).1.keepCheck 5 ((sBox 5 1 []).m.c.lbWords 10) = 0) ∧
    ((sBox 5 1 [(R.MBX_SESSION_OPEN5, 1, 0)]).m.c.keepMay 5 = true ∧ ((sBox 5 1 [(R.MBX_SESSION_OPEN5, 1, 0)]).m.c.keepTaken 5).2 = false) ∧
    ((sBox 5 1 [(R.MBX_LB_DATA, 1, 161)]).m.c.keepTaken 5).2 = true ∧
    ((sBox 5 1 [(R.MBX_LB_DATA, 1, 161)]).m.c.keepTaken 5).1.keepCheck 5 ((sBox 5 1 [(R.MBX_LB_DATA, 1, 161)]).m.c.lbWords 10) = 2 ∧
    (((sBox 0 0x21 [(R.HNG_STATUS_ROLE, 3, 0)]).m.c.keepTaken 0).1.keepCheck 0 ((sBox 0 0x21 [(R.HNG_STATUS_ROLE, 3, 0)]).m.c.lbWords 0) = 1 ∧
      notOnStandby (0x21 % 256) = true) ∧
    (sBox 5 1 [(R.MBX_LB_COLLIDE, 1, 10)]).m.c.is R.MBX_LB_COLLIDE 10 = true ∧
    (codeIs 0x01 ((sBox 5 2 []).m.c.lbWords 10) = false ∧ argMasks.any (fun q => q.1 == 2 % 256) = true) ∧
    (State.reset.m.c.is R.MBX_LB_FULL (2 * 5 + 1) = false ∧ [0xFFFFFFFF].length ≤ 12) ∧ State.reset.m.c.keepMay 5 = false := by
  refine ⟨.head _, by decide, by decide +kernel, by decide, by decide, by decide, by decide, by decide, by decide, by decide⟩

/-- The session of pair 5 while it is being opened, with two refusals behind it. -/
def sOpening : State := stR [] fun c => { c with keep := { c.keep with sessions := [(5, { opening := true, bad := 2 })], long := [⟨0, 0x41, 0x41, 0⟩] } }

theorem witness_KeeperSessions :
    State.reset.m.c.longOf 0x41 = none ∧ sOpening.m.c.longOf 0x41 = some ⟨0, 0x41, 0x41, 0⟩ ∧
    ((st [(R.MBX_SESSION_LOCK5, 1, 0)]).m.c.is (lockSess 5) = true ∧ State.reset.m.c.is (lockSess 5) = false) ∧
    (State.reset.m.c.sess 5).opening = false ∧ ((sOpening.m.c.sess 5).opening = true ∧ 2 ≤ (sOpening.m.c.sess 5).bad) ∧
    (∃ w : List Nat, wordBytes ((w.drop 1).take 8) =
      hmac secureKey (ascii "CYGH" ++ identBytes ++ (sOpening.m.c.sess 5).nk ++ (sOpening.m.c.sess 5).nh)) ∧
    (∃ w : List Nat, wordBytes ((w.drop 1).take 8) ≠
      hmac secureKey (ascii "CYGH" ++ identBytes ++ (sOpening.m.c.sess 5).nk ++ (sOpening.m.c.sess 5).nh)) := by
  refine ⟨by decide, by decide, by decide, by decide, by decide, ?_, [], ?_⟩
  · generalize hmac secureKey _ = m, hmac_length secureKey _ = hm
    refine ⟨0 :: leWords 8 m, ?_⟩
    have : (leWords 8 m).take 8 = leWords 8 m := List.take_of_length_le (by simp [leWords])
    rw [List.drop_succ_cons, List.drop_zero, this, wordBytes_leWords 8 m hm]
  · intro e
    have := congrArg List.length e
    rw [hmac_length] at this
    exact absurd this (by decide)

/-- The root and audio clocks lost, or back while the module holds the cause. -/
def sBack : State := stR [(R.WIN_CLK_STATUS_ROOT_OK, 1, 0), (R.WIN_CLK_STATUS_AUDIO_LOCK, 1, 0), (R.STORM_OWNER, 1, 0), (R.STORM_CAUSE_CAUSE, 1, 0)]
  fun c => { c with fire := { c.fire with clockLost := true, dieLost := true } }

/-- A die above its limit. -/
def sHotDie : State := stC fun c => { c with boot := { c.boot with dieHot := true } }

theorem witness_Resets :
    (R.LEDG_COMMIT_BUDGET.inFlash = false ∧ R.LEDG_STATUS_SUPPLY.id ≠ R.LEDG_COMMIT_BUDGET.id) ∧ (∃ r ∈ allRegs, r.inFlash = true) ∧
    (sBack.m.c.get R.WIN_CLK_STATUS_ROOT_OK ≠ 0 ∧ sBack.m.c.fire.clockLost = true) ∧ State.reset.m.c.fire.clockLost = false ∧
    (sBack.m.c.fire.dieLost = true ∧ sBack.m.c.boot.dieHot = false) ∧ State.reset.m.c.fire.dieLost = false ∧
    (∃ c : Ctl, c.boot.dieHot = true ∧ c.boot.psuHot = true) ∧ State.reset.m.c.boot.psuHot = false ∧
    sHotDie.m.c.boot.dieHot = true := by
  refine ⟨by decide, by decide +kernel, by decide, by decide, by decide, by decide, ⟨{ ({} : Ctl) with boot := { dieHot := true, psuHot := true } }, by decide⟩,
    by decide, by decide⟩

/-- A profile whose TAG is broken, or one of this module. -/
def aProfile (ok : Bool) (maj : Nat) : Profile :=
  { regs := [], scene := 0, mesh := [], grid := [], progs := [], banks := [], active := [], bq := [], ident := Config.ident, major := maj, tagOk := ok }

/-- DRAM in RUN with that profile. -/
def sProf (ok : Bool) (maj : Nat) : State := stR [(R.DRAM_STATUS_MODE, 1, 0)] fun c => { c with boot := { c.boot with profile := some (aProfile ok maj) } }

theorem witness_StartUp :
    (State.reset.m.c.boot.dieHot = false ∧
      (State.reset.m.c.boot.slot0.valid && true && decide (State.reset.m.c.boot.fused ≤ State.reset.m.c.boot.slot0.rollback)) = true) ∧
    (State.reset.m.c.get R.DRAM_STATUS_MODE = 0 ∧ State.reset.m.c.boot.romOnly = false) ∧ State.reset.m.c.boot.profile = none ∧
    (∃ p, (sProf false 0).m.c.boot.profile = some p ∧ (sProf false 0).m.c.boot.romOnly = false ∧ (sProf false 0).m.c.keep.down = false ∧
      (sProf false 0).m.c.get R.DRAM_STATUS_MODE = 1 ∧ (sProf false 0).m.c.is R.SYS_BOOT_PROFILE = false ∧ p.tagOk = false) ∧
    (∀ maj, maj = Config.firmwareMajor 0 → ∃ p, (sProf true maj).m.c.boot.profile = some p ∧ p.tagOk = true ∧ p.ident = Config.ident ∧
      p.major = Config.firmwareMajor (sProf true maj).m.c.slotInForce.fw) ∧
    State.reset.m.c.boot.armPend = none ∧
    (∃ s : State, s.m.c.boot.armPend = some (8, 0, false) ∧ s.m.c.boot.armDue = true) ∧ sHotDie.m.c.boot.dieHot = true ∧ State.reset.m.c.boot.autoFrom = none ∧
    (∃ s : State, s.m.c.boot.autoFrom = some 0 ∧ s.m.c.armed = false ∧ s.m.c.boot.armPend = none ∧ s.m.c.time < 0 + 30 * 10 ^ 9 ∧ s.m.armCheck ≠ 0) ∧
    (∃ s : State, s.m.c.boot.autoFrom = some 0 ∧ s.m.c.armed = false ∧ s.m.c.boot.armPend = none ∧ s.m.c.time < 0 + 30 * 10 ^ 9 ∧ s.m.armCheck = 0) ∧
    (∃ s : State, s.m.c.keep.down = true ∧ s.m.c.boot.halted = false ∧ s.m.c.fab.ctrlq = [] ∧ ∀ p, p < 64 → (s.m.c.planRt p).stormOn = false) ∧
    (∃ (s : State) (l : LongCmd), s.m.c.longOf 0x50 = some l ∧ l.arg = 1) ∧ (∃ (s : State) (l : LongCmd), s.m.c.longOf 0x50 = some l ∧ l.arg = 0) ∧
    State.reset.m.c.longOf 0x50 = none :=
  ⟨by decide, by decide, by decide, ⟨aProfile false 0, rfl, by decide, by decide, by decide, by decide, rfl⟩,
    fun maj h => ⟨aProfile true maj, rfl, rfl, rfl, h⟩, by decide,
    ⟨stC fun c => { c with boot := { c.boot with armPend := some (8, 0, false), armDue := true } }, by decide⟩, by decide, by decide,
    ⟨stC fun c => { c with boot := { c.boot with autoFrom := some 0 } }, by decide⟩,
    ⟨stR [(R.WIN_CLK_STATUS_ROOT_OK, 1, 0), (R.WIN_CLK_STATUS_AUDIO_LOCK, 1, 0), (R.WIN_STATUS_RUN, 1, 0), (R.DRAM_STATUS_MODE, 1, 0), (R.SYS_SCENE_ID, 1, 0)]
      fun c => { c with boot := { c.boot with autoFrom := some 0 }, win := { c.win with alignedRun := 64 }, storm := { c.storm with hdrOk := true } },
      by decide +kernel⟩,
    ⟨stC fun c => { c with keep := { c.keep with down := true } }, by decide⟩,
    ⟨stC fun c => { c with keep := { c.keep with long := [⟨0, 0x50, 0x50, 1⟩] } }, ⟨0, 0x50, 0x50, 1⟩, by decide⟩,
    ⟨stC fun c => { c with keep := { c.keep with long := [⟨0, 0x50, 0x50, 0⟩] } }, ⟨0, 0x50, 0x50, 0⟩, by decide⟩, by decide⟩

theorem witness_Recovery :
    (sBack.m.c.is R.WIN_CLK_STATUS_ROOT_OK = true ∧ sBack.m.c.is R.WIN_CLK_STATUS_AUDIO_LOCK = true ∧ sBack.m.c.is R.WIN_STATUS_RUN = false ∧
      sBack.m.c.keep.down = false ∧ 0 ∈ sBack.m.c.drivenZones ∧ sBack.m.c.get R.STORM_CAUSE_CAUSE 0 = 1) ∧
    State.reset.m.c.is R.WIN_CLK_STATUS_ROOT_OK = false ∧ (State.reset.m.c.boot.clockDue = false) ∧
    (∃ s : State, s.m.c.boot.clockDue = true ∧ s.m.c.is R.WIN_CLK_STATUS_ROOT_OK = true ∧ s.m.c.is R.WIN_CLK_STATUS_AUDIO_LOCK = true ∧
      s.m.c.is R.WIN_STATUS_RUN = false ∧ s.m.c.keep.down = false) ∧ State.reset.m.c.get R.DRAM_STATUS_MODE ≠ 3 ∧
    (∀ l ∈ [none, some (300 * 10 ^ 9)], ∃ s : State, s.m.c.get R.DRAM_STATUS_MODE = 3 ∧ s.m.c.keep.down = false ∧ s.m.c.dram.frozeAt = some 0 ∧
      s.m.c.win.ext = 17 ∧ s.m.c.dram.lastThaw = l ∧ s.m.c.dram.frozeTime = 600 * 10 ^ 9) :=
  ⟨by decide, by decide, by decide,
    ⟨stR [(R.WIN_CLK_STATUS_ROOT_OK, 1, 0), (R.WIN_CLK_STATUS_AUDIO_LOCK, 1, 0)] fun c => { c with boot := { c.boot with clockDue := true } },
      by decide⟩, by decide, fun l _ => ⟨stR [(R.DRAM_STATUS_MODE, 3, 0)] fun c => { c with
      dram := { c.dram with frozeAt := some 0, frozeTime := 600 * 10 ^ 9, lastThaw := l }
      win := { c.win with ext := 17 } }, by refine ⟨?_, ?_, rfl, rfl, rfl, rfl⟩ <;> rfl⟩⟩

/-- DRAM in RUN with the scrubber on, a baseline asked for with one feed on an amplifier link that is UP. -/
def sScrub (f : MonSt → MonSt) : State :=
  let l := State.reset.m.c.feedLink 767
  stR [(R.DRAM_STATUS_MODE, 1, 0), (R.MON_CTRL_SCRUB_EN, 1, 0), (R.FEED_EN, 1, 767), (R.AMP_LINK_STATE, 2, l), (R.YARD_CTRL_EN, 1, 3)] fun c => { c with
    mon := f c.mon
    keep := { c.keep with long := [⟨0, 0x41, 0x41, 1⟩] }
    amp := { c.amp with cal := true, line := [(767, { n := 16, sumZ := 1600 })] } }

/-- The keeper out of service. -/
def kdown : State := stC fun c => { c with keep := { c.keep with down := true } }

theorem witness_Background :
    State.reset.m.c.get R.DRAM_STATUS_MODE ≠ 1 ∧
    ((sScrub id).m.c.is R.MON_CTRL_SCRUB_EN = true ∧ (sScrub id).m.c.get R.DRAM_STATUS_MODE = 1 ∧ (sScrub id).m.c.srPermitted = false ∧
      (sScrub id).m.c.dram.bad = [] ∧ 64 * (sScrub id).m.c.mon.scrub + 64 < (sScrub id).m.c.usable) ∧
    (∃ n, (sScrub fun m => { m with scrub := n }).m.c.usable ≤ 64 * (sScrub fun m => { m with scrub := n }).m.c.mon.scrub + 64) ∧
    ((sScrub id).m.c.is R.YARD_CTRL_EN 3 = true ∧ 0x3FFFFF < 0x400000 ∧ (sScrub id).m.c.poisoned 3 = []) ∧
    ((sScrub id).m.c.is R.FEED_EN 767 = true ∧ (sScrub id).m.c.is R.LINE_FEED_NOMEAS 767 = false) ∧ State.reset.m.c.is R.FEED_EN 767 = false ∧
    State.reset.m.c.longOf 0x41 = none ∧ (∃ l, (sScrub id).m.c.longOf 0x41 = some l) ∧ (sScrub id).m.c.amp.cal = true ∧
    (∀ f ∈ (sScrub id).m.c.baseFeeds, 16 ≤ (kgetD (sScrub id).m.c.amp.line f {}).n) ∧
    (State.reset.m.c.keep.down = false ∧ State.reset.m.c.backgroundCut = false ∧
      State.reset.m.c.get R.MON_FLASH_SPARE < 2 ^ R.MON_FLASH_SPARE.width) ∧
    (kgetD State.reset.m.c.mon.chs 63 {}).due = [] ∧
    ((kgetD (sScrub fun m => { m with chs := [(63, { due := [(5, 1, false)] })] }).m.c.mon.chs 63 {}).due = (5, 1, false) :: [] ∧
      (sScrub id).m.c.mon.queue.length < 64 ∧ (sScrub id).m.c.get R.MON_CH_ABOVE 63 = 0) ∧
    ((sScrub fun m => { m with dueChs := [63] }).m.c.mon.dueChs ≠ [] ∧ (sScrub id).m.c.mon.dueChs = [] ∧ (sScrub id).m.c.mon.queue = []) ∧
    (State.reset.m.c.amp.cal = false ∧ State.reset.m.c.get R.DRAM_STATUS_MODE = 0) ∧ ((kdown).m.c.keep.down = true) ∧
    (∃ s : State, s.m.c.mon.queue = [[1, 2, 3, 4]] ∧ s.m.c.dramDown = false ∧ s.m.c.dram.bad = [] ∧
      (s.m.c.get R.MON_RING_BASE_LO + 2 ^ 32 * s.m.c.get R.MON_RING_BASE_HI +
        16 * (s.m.c.get R.MON_RING_HEAD % 2 ^ s.m.c.get R.MON_RING_SIZE)) + 16 ≤ s.m.c.usable ∧
      s.m.c.get R.MON_RING_HEAD % 2 ^ s.m.c.get R.MON_RING_SIZE ≠ s.m.c.get R.MON_RING_TAIL % 2 ^ s.m.c.get R.MON_RING_SIZE) ∧
    (State.reset.m.c.is R.MON_CH_EN 63 = false ∧ (3 : Fin 4) ≠ 0 ∧ inRange (monChWord 3) 0 = true ∧
      (State.reset.m.c.store (monChWord 3) 63 0).monChOk 63 = true) ∧
    (inRange (monChWord 1) 0xFFFFFFFF = false ∨ (State.reset.m.c.store (monChWord 1) 63 0xFFFFFFFF).monChOk 63 = false ∨
      inRange (monChWord 2) 0xFFFFFFFF = false ∨ (State.reset.m.c.store (monChWord 2) 63 0xFFFFFFFF).monChOk 63 = false) := by
  refine ⟨by decide, by decide, ⟨2 ^ 40, by decide⟩, by decide, by decide, by decide, by decide, ⟨⟨0, 0x41, 0x41, 1⟩, by decide⟩, by decide, by decide +kernel, by decide,
    by decide, by decide, by decide, by decide, by decide, ⟨stR [(R.DRAM_STATUS_MODE, 1, 0), (R.MON_RING_SIZE, 10, 0), (R.MON_RING_TAIL, 512, 0)] fun c =>
      { c with mon := { c.mon with queue := [[1, 2, 3, 4]] } }, by decide⟩, by decide +kernel, by decide +kernel⟩

/-! ## Well-formed commands: for each check a command that it refuses -/

/-- A good cell of a kind, with sixteen words. -/
def goodCell (kind : Nat) : Cell := { aCell kind 5 false (List.replicate 16 0) with vc := 3 }

/-- A good STATUS. -/
def goodInfo : HngInfo := ⟨2, 3, 0, 0, 1, 0, 0, 15, List.replicate 9 0, []⟩

theorem wf_good : (Instr.registerWrite .keeper 0 .byte 255).wf = true ∧ (Instr.stiUpdate 127 [] []).wf = true ∧
    (Instr.dataCellReceive 3 (goodCell 1)).wf = true ∧ (Instr.statusFrameReceive 1 aHead goodInfo).wf = true ∧
    (Instr.stagingSlot [0, 0, 0, 0]).wf = true := by decide

theorem wf_register_write : (Instr.registerWrite .keeper 0 .byte 256).wf = false := by decide
theorem wf_bar2_page : (Instr.bar2Access 0 4095 2 none).wf = false := by decide
theorem wf_bar2_empty : (Instr.bar2Access 0 0 0 none).wf = false := by decide
theorem wf_bar2_data : (Instr.bar2Access 0 0 2 (some [none])).wf = false := by decide
theorem wf_guard_point : (Instr.guardPoint [5, 5]).wf = false := by decide
theorem wf_loops : (Instr.fireLoopMeasure (List.replicate 17 0)).wf = false := by decide
theorem wf_hinge_head : (Instr.recordReceive 0 { aHead with src := 4 } []).wf = false := by decide
theorem wf_hinge_payload : (Instr.hingeInputReceive 0 aHead [2 ^ 32]).wf = false := by decide
theorem wf_hinge_crcs : (Instr.statusFrameReceive 0 aHead { goodInfo with crcs := [0] }).wf = false := by decide
theorem wf_hinge_sync : (Instr.statusFrameReceive 0 aHead { goodInfo with sync := 4 }).wf = false := by decide
theorem wf_bulk_word : (Instr.bulkFrameReceive 0 aHead (.tables { words := [(2, 0)] }) 0).wf = false := by decide
theorem wf_bulk_percent : (Instr.bulkFrameReceive 0 aHead (.tables {}) 101).wf = false := by decide
theorem wf_state_loft : (Instr.stateFrameReceive 0 aHead { cwin := 0, loft := [(4 * 2 ^ 22, 0)], feeds := [], guards := [], src := [], dmem := [], env := [] }).wf = false := by decide
theorem wf_cell_kind : (Instr.creditCellReceive 0 (goodCell 1)).wf = false ∧ (Instr.knockReceive 0 (goodCell 1)).wf = false ∧
    (Instr.mirrorReceive 0 (goodCell 1)).wf = false := by decide
theorem wf_cell_words : (Instr.dataCellReceive 0 (aCell 1 5 false [])).wf = false := by decide
theorem wf_cell_channel : (Instr.dataCellReceive 0 { goodCell 1 with vc := 4 }).wf = false := by decide
theorem wf_route_flow : (Instr.routeReceive 0 (goodCell 2) [(0, ⟨16, 0, []⟩)]).wf = false := by decide
theorem wf_route_compute : (Instr.routeCompute [(0, [64])]).wf = false := by decide
theorem wf_frame : (Instr.frameReceive 0 (List.replicate 2001 0) {}).wf = false := by decide
theorem wf_frame_ptp : (Instr.frameReceive 0 [] { ptp := some ⟨none, 10, 0, 0⟩ }).wf = false := by decide
theorem wf_ptp_time : (Instr.ptpMessageSend 0 (.pdelayResp (2 ^ 64))).wf = false := by decide
theorem wf_fragments : (Instr.frameTxOpportunity 0 65).wf = false := by decide
theorem wf_audio_sample : (Instr.audioFrameReceive 0 { good := true, samples := [2 ^ 24] }).wf = false := by decide
theorem wf_audio_status : (Instr.audioFrameReceive 0 { good := true, samples := [], cs := [[0]] }).wf = false := by decide
theorem wf_backchannel : (Instr.backchannelFrameReceive 0 false []).wf = false := by decide
theorem wf_dram_line : (Instr.dramRequestAccept 0 .keeper 0 63 2 none).wf = false := by decide
theorem wf_dram_data : (Instr.dramRequestAccept 0 .keeper 0 0 2 (some [0])).wf = false := by decide
theorem wf_matrix : (Instr.matrixGrant 0 [(1, 0), (1, 1)]).wf = false := by decide
theorem wf_cal_costs : (Instr.calRunLedger 0 (some [(0, 0)]) 0).wf = false := by decide
theorem wf_cal_stall : (Instr.calRunStall 0 true (2 ^ 32)).wf = false := by decide
theorem wf_scrub : (Instr.storeScrub 0 [⟨false, 4 * 2 ^ 18, true⟩]).wf = false := by decide
theorem wf_staging : (Instr.stagingSlot []).wf = false := by decide

/-! ## The spec's worked examples, and one step of a few commands -/

/-- The control state after a command. -/
def after (o : Host.Outcome State Fault Refusal) : Ctl := match o with | .next t => t.m.c | _ => {}

/-- "Example: estimate and first step" (chapter 5): STI = 0.46778, stored as 46. -/
theorem test_sti_example : stiOf ([40, 45, 50, 52, 48, 44, 38].map (fOfRat · 100)) = 46 := by decide +kernel

/-- "Example: one usable offset" (chapter 14). -/
theorem test_dram_offset_example : dramChan 0x100000 = 0 ∧ dramSeg 0x100000 = 546 ∧ dramRow 0x100000 = 8 ∧ dramBank 0x100000 = 10 ∧
    dramByte 0x100000 = 2304 := by decide

/-- The example of R150: L = 0x4000_0000 at W16. -/
theorem test_substitute_example :
    let c := (State.reset.m.c.setFeed 250 { State.reset.m.c.feedSt 250 with last := some 0x40000000 }).feedMiss 250
    ((c.feedSt 250).out.getD 0 1, (c.feedSt 250).out.getD 7 1, (c.feedSt 250).out.getD 15 1) = (1006632960, 536870912, 0) := by decide

/-- "Example: decoding addresses" (chapter 18). -/
theorem test_decoding_addresses : R.NET_STATUS_LINK_UP.indexAt 0x68004 = some 2 ∧ R.FEED_EN.indexAt 0x213E80 = some 250 ∧
    R.CORR_FEED_ACTIVE.indexAt 0x241FA8 = some 250 ∧ R.YARD_ECC_CORR_LOFT.indexAt 0x140098 = some 1 ∧ inSeqWindow 0x420000 = true ∧
    inLoftWindow 0x1400010 = true ∧ unmapped 0x260000 = true ∧ named 0x6D400 = false := by decide +kernel

/-- "Example: a level channel after a synchronising reset" (chapter 16): the sums of the cascade's taps. -/
theorem test_monitor_example :
    ((List.range 192).foldl (fun (m : MonCh) i => m.input 48 0 (320016 + i) 84681) {}).due =
      [(1659747600, 320063, true), (7900398576, 320111, true), (9365041152, 320159, true), (9365041152, 320207, false)] ∧
    monValue true 2 0x12345678 = 84681 := by decide +kernel

/-- The first word of "Example: ALARM_START from the maker's panel" (chapter 15). -/
theorem test_alarm_start_word : codeIs 0x32 [0x00120732] = true ∧ needsSession 0x32 = true ∧ 0x00120732 / 65536 = 0x12 := by decide

/-- FIPS 180-4: the hash of "abc". -/
theorem test_sha256_abc : leWords 2 (sha256 (ascii "abc")) = [0xBF1678BA, 0xEACF018F] := by decide +kernel

/-- The check values of CRC-32 and of CRC-16 with 0x1021 from all ones, over "123456789". -/
theorem test_crc_check_values : crc32 (ascii "123456789") = 0xCBF43926 ∧ crc16 (ascii "123456789") = 0x29B1 := by decide

/-- IEEE 754: 1 + 1, 1 / 0 with DZ, the root of 4, and infinity less infinity with NV. -/
theorem test_float : fAdd 0x3F800000 0x3F800000 = (0x40000000, 0) ∧ fDiv 0x3F800000 0 = (0x7F800000, 8) ∧
    fSqrt 0x40800000 = (0x40000000, 0) ∧ fSub 0x7F800000 0x7F800000 = (0x7FC00000, 16) := by decide +kernel

/-- R191: ADD wraps, and the quotient of a division by 0 is all ones. -/
theorem test_add_wraps :
    ((after (exec (.add anIssue 3 1 2) (sSeq fun q => { q with s := cset (cset [] 1 0xFFFFFFFF) 2 1 }))).seq 3).rs 3 = 0 := by decide
theorem test_div_zero :
    ((after (exec (.div anIssue 3 1 2) (sSeq fun q => { q with s := cset [] 1 7 }))).seq 3).rs 3 = 0xFFFFFFFF := by decide

/-- "Example: mains failure during a show" (chapter 2): without mains the budget is 500 LU. -/
theorem test_mains_lost : (after (exec (.mainsOkChange false) State.reset)).budget = 500 := by decide

/-- R20: windows start from clocks that are locked and an epoch ahead. -/
theorem test_win_start : (after (exec .winStart sReady)).get R.WIN_STATUS_RUN = 1 := by decide
theorem test_win_start_refused : (after (exec .winStart State.reset)).get R.WIN_STATUS_RUN = 0 := by decide

/-- R403: the first read takes the latch for the reader; R394: a rung box is full, and its receiver's read empties it. -/
theorem test_latch_read : (after (exec (.latchRead .fn1 63) State.reset)).get R.LATCH 63 = 0x80001000 := by decide
theorem test_letterbox_ring : (after (exec (.lbGoWrite .fn1 10) State.reset)).get R.MBX_LB_FULL 10 = 1 := by decide
theorem test_letterbox_read :
    (after (exec (.lbGoRead .keeper 10) (st [(R.MBX_LB_FULL, 1, 10)]))).get R.MBX_LB_FULL 10 = 0 := by decide

/-- R338: the 48th good back-channel frame in a row brings the link UP; the eighth bad one degrades it. -/
theorem test_backchannel_bad :
    (after (exec (.backchannelFrameReceive 7 true []) (stR [(R.AMP_LINK_STATE, 2, 7)] fun c => { c with amp := { c.amp with bad := cset [] 7 7 } }))).get
      R.AMP_LINK_STATE 7 = 3 := by decide +kernel

/-- R358: a promoted request has class-A precedence. -/
theorem test_dram_promote :
    ((after (exec (.dramAgePromote 1 0) (sDram 1 []))).dramQ 1).map (·.prec) = [0] := by decide

/-- R419: an uncorrectable word of a loft is poisoned. -/
theorem test_store_scrub :
    (after (exec (.storeScrub 3 [⟨true, 0x3FFFFF, true⟩]) (st [(R.YARD_CTRL_EN, 1, 3)]))).fabr.loftPoison = [4 * 0x400000 - 4] := by decide

/-- R95, R105: a clamp of one tap counts once in a tick, and OBJ.TAPS shows the live slots (R92). -/
theorem test_clamp_counts :
    let x : Mach := { c := State.reset.m.c, m := { State.reset.m.m with loft := Mem.wrN [] (3 * 0x400000 + 0x100000 + 48) 4 0xC05 } }
    let y := (x.lawNote (3 * 0x400000 + 0x100000 + 48) 4).lawNote (3 * 0x400000 + 0x100000 + 48) 4
    y.c.get R.SYS_LAW_STATUS_CLAMPS = 1 ∧ y.c.get R.SYS_LAW_STATUS_CLAMP_SEEN = 1 ∧ y.c.get R.OBJ_TAPS 768 = 1 := by decide

/-- R97: the samples of dense slot 65 go to the loft of yard 1 from 0x4000 on. -/
theorem test_near_window :
    let c : Ctl := State.reset.m.c
    let c := { c with src := { c.src with near := [(65, { obj := 300, next := 4095, fresh := [-1, 2] })] } }
    let x := Mach.nearPut { c := c, m := State.reset.m.m }
    x.m.loft.rdN (0x404000 + 4 * 4095) 4 = 0xFFFFFFFF ∧ x.m.loft.rdN 0x404000 4 = 2 ∧
      x.c.src.near = [(65, { obj := 300, next := 1 })] := by decide

/-! A keeper command that reads an uncorrectable chunk gets no data (R365, R474); one that reads beside it does. -/
theorem test_keeper_reads_bad_chunk :
    let c : Ctl := { State.reset.m.c.set R.DRAM_STATUS_MODE 1 with dram := { State.reset.m.c.dram with bad := [5] } }
    (c.keepReads 128 64).2 = false ∧ (c.keepReads 192 64).2 = true := by
  decide +kernel

/-! ## Decoding and the laws, on the spec's own examples -/

/-- "Example: a pipelined fractional-delay mix of one tap" (chapter 7): the words of the loop's bundles and P0's A slot. -/
theorem test_bundle_words :
    decodeBundle aSlot 0x1204000000007405 = [.vmulC { aSlot with last := false } 1 16 5, .loop aSlot 0 2 4] ∧
    decodeBundle aSlot 0x6A03 = [.vmulC aSlot 0 40 3] ∧
    decodeBundle aSlot 0x6440000029C2 = [.vmacC { aSlot with last := false } 0 39 2, .mova4 aSlot 4 0 4] ∧
    decodeBundle aSlot 0x859E00002981 = [.vmacC { aSlot with last := false } 0 38 1, .acc aSlot 5 4 true true 3] ∧
    decodeBundle aSlot 0x384E00007405 = [.vmulC { aSlot with last := false } 1 16 5, .ld4 aSlot 8 4 3 true] ∧
    decodeBundle aSlot 0xA000859E00000000 = [.acc { aSlot with last := false } 5 4 true true 3, .halt aSlot 0] ∧
    decodeBundle aSlot 0xA0020000 = [.setci aSlot 0 2] ∧ decodeBundle aSlot 0 = [.nopBundle aSlot] := by decide +kernel

/-- R169, R170, R172, R175: an opcode that the tables reserve is ILLEGAL. -/
theorem test_bundle_reserved :
    let bad : Slot := { aSlot with mbz := true }
    decodeBundle aSlot (4 * 1024) = [.nopBundle bad] ∧ decodeBundle aSlot (13 * 4096 * 2 ^ 16) = [.nopBundle bad] ∧
    decodeBundle aSlot (15 * 4096 * 2 ^ 32) = [.nopBundle bad] ∧ decodeBundle aSlot (11 * 4096 * 2 ^ 48) = [.nopBundle bad] := by decide +kernel

/-- R189 to R206: words of the formats R, I, B, J and S, put together by the tables. -/
theorem test_scalar_words :
    decodeScalar anIssue 0 = .add anIssue 0 0 0 ∧ decodeScalar anIssue 0x1EE00004 = .lui anIssue 23 4 ∧
    decodeScalar anIssue 0x0739FFFF = .addi anIssue 25 25 0xFFFF ∧
    decodeScalar anIssue (0x1C * 2 ^ 26 + 20 * 2 ^ 21 + 5) = .waitWTick anIssue 20 ∧
    decodeScalar anIssue (0x1C * 2 ^ 26 + 9 * 2 ^ 21 + 1) = .mfk anIssue 9 0 ∧
    decodeScalar anIssue (0x1B * 2 ^ 26 + 3 * 2 ^ 21 + 6 * 2 ^ 16 + 9 * 2 ^ 11 + 4) = .vdist anIssue 3 6 9 ∧
    decodeScalar anIssue (0x1A * 2 ^ 26 + 6 * 2 ^ 21 + 7 * 2 ^ 16 + 8 * 2 ^ 11 + 2) = .fmul anIssue 6 7 8 ∧
    decodeScalar anIssue (0x1E * 2 ^ 26 + 4 * 2 ^ 21 + 32768 + 63) = .lrel { anIssue with mbz := true } 0 63 ∧
    decodeScalar anIssue (0x1F * 2 ^ 26 + 4 * 2 ^ 21 + 5 * 2 ^ 16 + 7 * 4096) = .lbs anIssue 4 5 7 ∧
    decodeScalar anIssue 26 = .add { anIssue with mbz := true } 0 0 0 := by decide +kernel

/-- A binary32 number from a fraction. -/
def num (n : Int) (d : Nat) : Nat := if n < 0 then fNeg (fOfRat n.natAbs d) else fOfRat n.natAbs d

/-- Register values put together. -/
def regsOf (l : List (Reg × Nat × Nat)) : RegMap := l.foldl (fun m e => m.set e.1 e.2.1 e.2.2) []

/-- An enabled feed of a zone at a place. -/
def feedAt (z f x y h : Nat) : List (Reg × Nat × Nat) :=
  [(R.FEED_EN, f, 1), (R.FEED_ZONE, f, z), (R.FEED_NOZONE, f, 0), (R.FEED_TRIM, f, 0), (R.FEED_POS_X, f, x), (R.FEED_POS_Y, f, y),
    (R.FEED_POS_Z, f, h)]

/-- "Example: one sparse object" (chapter 4): the snapshot and the zone's mesh. -/
def sparseSnap : RegMap := regsOf ([(R.OBJ_STATE, 300, 1), (R.OBJ_CLASS, 300, 2), (R.OBJ_SRC, 300, 7), (R.OBJ_GAIN, 300, 65536 - 600),
  (R.OBJ_POS_X, 300, num 12 1), (R.OBJ_POS_Y, 300, num 9 1), (R.OBJ_POS_Z, 300, num 216 10), (R.OBJ_ZMASK, 1200, 32), (R.ZONE_EN, 5, 1),
  (R.ZONE_GAIN_C, 5, 0), (R.SRC_TRIM, 7, 0)] ++ feedAt 5 100 (num 8 1) 0 (num 76 10) ++ feedAt 5 101 0 (num 8 1) (num 76 10) ++
  feedAt 5 102 0 0 (num 116 10))

def sparseMesh : List Nat := [5 * 256 + 65536, 0, 0, num 16 10, num 5 1, 2 + 4, 100, 28377 + 4 * 65536, 65236, 0, 0, 0] ++
  [1, 100 + 65536 * 101, 102, num 5 4, 0, 0, 0, num 5 4, 0, num (-3) 4, num (-3) 4, fOne]

theorem test_sparse_example :
    (({ tab := { mesh := sparseMesh } } : Ctl).sparseLaw sparseSnap 300).1.map (fun e => (e.1, e.2.g, e.2.d, e.2.a, e.2.air)) =
      [(100, 183368, 114640240, 7355595, 1), (101, 137526, 114640240, 7355595, 1), (102, 51954, 114640240, 7355595, 1)] := by
  decide +kernel

/-- "Example: one exit-pull zone" (chapter 4): the snapshot and the grid. -/
def exitSnap : RegMap := regsOf ([(R.OBJ_STATE, 3, 1), (R.OBJ_LAW, 3, 1), (R.OBJ_SRC, 3, 7), (R.OBJ_GAIN, 3, 0), (R.OBJ_ZMASK, 12, 4096),
  (R.ZONE_EN, 12, 1), (R.ZONE_GAIN_A, 12, 300), (R.SRC_TRIM, 7, 0), (R.ZONE_GRID_FIRST, 12, 0), (R.ZONE_GRID_COUNT, 12, 2),
  (R.ZONE_EXIT_X, 12, 0), (R.ZONE_EXIT_Z, 12, num 16 10)] ++ feedAt 12 200 (num 5 1) 0 (num 116 10) ++
  feedAt 12 201 (num 15 1) 0 (num 116 10) ++ feedAt 12 202 (num 25 1) 0 (num 116 10) ++ feedAt 12 203 (num 215 10) (num 3 1) (num 16 10))

def exitGrid : List Nat :=
  let v := fun (x y : Int) => ux 16 x + 65536 * ux 16 y
  [num 10 1, 0, num 16 10, 4, num 20 1, 0, num 16 10, 4,
    11180, v (-32768) 0, 200, 0, 11180, v 32767 0, 201, 0, 18027, v 32767 0, 202, 0, 11884, v 31705 8271, 203, 0,
    18027, v (-32768) 0, 200, 0, 11180, v (-32768) 0, 201, 0, 11180, v 32767 0, 202, 0, 3354, v 14654 29309, 203, 0]

/-- The control state of the exit-pull example. -/
def exitCtl : Ctl := { tab := { mesh := [12 * 256, 0, 0, num 16 10, fOne, 0, 100, 28377 + 4 * 65536, 65236, 0, 0, 0], grid := exitGrid } }

theorem test_exit_example :
    (exitCtl.startDelays exitSnap 12).map (·.2) = [0, 958, 2203, 1473] ∧
    (let s := exitCtl.solveZone exitSnap 12
     (s.passes, s.unresolved, s.sol) = (2, 0, [(200, 0, 0), (201, 958, 0), (202, 2203, -300), (203, 2102, -300)])) := by decide +kernel

/-- FIPS 180-4: the first and the last round constant come from the cube roots of 2 and 311. -/
theorem test_sha_constants : shaK.head? = some 0x428A2F98 ∧ shaK.getLast? = some 0xC67178F2 ∧ shaInit.head? = some 0x6A09E667 := by
  decide +kernel

end Sys2Proof.Tests
end

section
/-! PROOFS. What a command does to the byte memories: it edits them by writes and wipes (O4), and it answers a next state (O2). -/
namespace Sys2Proof.Machine

/-! ## Edits of the byte memories -/

/-- `m'` comes from `m` by writes and wipes: the canonical form is kept, and the storm store is left alone (R228). -/
structure Rams.EditOf (m' m : Rams) : Prop where
  form : m.wf = true → m'.wf = true
  nor : m'.nor = m.nor

theorem Rams.wf_iff (m : Rams) : m.wf = true ↔
    m.dram.wf = true ∧ m.loft.wf = true ∧ m.store.wf = true ∧ m.imem.wf = true ∧ m.dmem.wf = true ∧ m.nor.wf = true := by
  simp [Rams.wf, and_assoc]

namespace Rams.EditOf

theorem refl (m : Rams) : EditOf m m := ⟨id, rfl⟩

/-- A change of the control state alone, stated so that it need not be compared with the one before. -/
theorem same (c : Ctl) (m : Rams) : EditOf (Mach.mk c m).m m := refl m

theorem trans {a b c : Rams} (h : EditOf b a) (k : EditOf c b) : EditOf c a := ⟨fun w => k.form (h.form w), k.nor.trans h.nor⟩

/-- Writes in each of the memories but the storm store. -/
theorem parts (m : Rams) {d l s i e : Mem} (hd : m.dram.wf = true → d.wf = true) (hl : m.loft.wf = true → l.wf = true)
    (hs : m.store.wf = true → s.wf = true) (hi : m.imem.wf = true → i.wf = true) (he : m.dmem.wf = true → e.wf = true) :
    EditOf { dram := d, loft := l, store := s, imem := i, dmem := e, nor := m.nor } m := by
  refine ⟨fun w => ?_, rfl⟩
  rw [wf_iff] at w ⊢
  obtain ⟨wd, wl, ws, wi, we, wn⟩ := w
  exact ⟨hd wd, hl wl, hs ws, hi wi, he we, wn⟩

theorem dram (m : Rams) {d : Mem} (h : m.dram.wf = true → d.wf = true) : EditOf { m with dram := d } m := parts m h id id id id

theorem loft (m : Rams) {d : Mem} (h : m.loft.wf = true → d.wf = true) : EditOf { m with loft := d } m := parts m id h id id id

theorem store (m : Rams) {d : Mem} (h : m.store.wf = true → d.wf = true) : EditOf { m with store := d } m := parts m id id h id id

theorem dmem (m : Rams) {d : Mem} (h : m.dmem.wf = true → d.wf = true) : EditOf { m with dmem := d } m := parts m id id id id h

/-- A reset that leaves the storm store alone (R437). -/
theorem cleared (m : Rams) : EditOf { nor := m.nor } m :=
  parts m (fun _ => rfl) (fun _ => rfl) (fun _ => rfl) (fun _ => rfl) (fun _ => rfl)

theorem ite {p : Prop} [Decidable p] {a b : Mach} {m : Rams} (h : EditOf a.m m) (k : EditOf b.m m) :
    EditOf (if p then a else b).m m := by
  split
  · exact h
  · exact k

/-- A loop of edits. -/
theorem foldl {α : Type} (f : Mach → α → Mach) (h : ∀ x a, EditOf (f x a).m x.m) (l : List α) (x : Mach) :
    EditOf (l.foldl f x).m x.m := by
  induction l generalizing x with
  | nil => exact .refl _
  | cons a l ih => exact (h x a).trans (ih _)

end Rams.EditOf

open Rams (EditOf)

/-- A loop of writes keeps the canonical form. -/
theorem Mem.wf_foldl {α : Type} (f : Mem → α → Mem) (h : ∀ m a, m.wf = true → (f m a).wf = true) (l : List α) (m : Mem)
    (w : m.wf = true) : Mem.wf (l.foldl f m) = true := by
  induction l generalizing m with
  | nil => exact w
  | cons a l ih => exact ih _ (h m a w)

/-- The same where the loop carries something beside the memory. -/
theorem Mem.wf_foldl_fst {α β : Type} (f : Mem × β → α → Mem × β) (h : ∀ e a, e.1.wf = true → (f e a).1.wf = true) (l : List α)
    (e : Mem × β) (w : e.1.wf = true) : (l.foldl f e).1.wf = true := by
  induction l generalizing e with
  | nil => exact w
  | cons a l ih => exact ih _ (h e a w)

theorem Mem.wf_ite {p : Prop} [Decidable p] {a b : Mem} (h : a.wf = true) (k : b.wf = true) : (if p then a else b).wf = true := by
  split
  · exact h
  · exact k

theorem Mem.wf_wrWords (m : Mem) (a : Nat) (l : List Nat) (h : m.wf = true) : (m.wrWords a l).wf = true :=
  Mem.wf_foldl _ (fun m _ => Mem.wf_wrN m _ _ _) _ m h

/-! ## The records of taps (R79, R103, R104) -/

theorem wf_copyWord (m : Mem) (a b : Nat) (h : m.wf = true) : (copyWord m a b).wf = true := Mem.wf_wrN m _ _ _ h

theorem wf_missMixTap (a p : Nat) (last : Bool) (m : Mem) (h : m.wf = true) : (missMixTap a p last m).wf = true :=
  have hw := Mem.wf_wrN m (a + 0xC) 4 0 h
  Mem.wf_ite (wf_copyWord _ _ _ (wf_copyWord _ _ _ hw)) hw

theorem wf_missMixDense (a p : Nat) (last : Bool) (m : Mem) (h : m.wf = true) : (missMixDense a p last m).wf = true :=
  Mem.wf_ite (Mem.wf_wrN _ _ _ _ (wf_copyWord _ _ _ h)) h

theorem wf_missLawTap (a p : Nat) (leaving : Bool) (m : Mem) (h : m.wf = true) : (missLawTap a p leaving m).wf = true :=
  have hw := wf_copyWord m (a + 0x14 + 16 * p) (a + 0x14 + 16 * (1 - p)) h
  Mem.wf_ite (Mem.wf_wrN _ _ _ _ hw) (wf_copyWord _ _ _ hw)

theorem wf_missLawDense (a p : Nat) (leaving : Bool) (m : Mem) (h : m.wf = true) : (missLawDense a p leaving m).wf = true :=
  have hw := Mem.wf_wrN m (a + 0x10 + 2 * (1 - p)) 2 (m.rdN (a + 0x10 + 2 * p) 2) h
  Mem.wf_ite (Mem.wf_wrN _ _ _ _ hw) (wf_copyWord _ _ _ hw)

/-- What a missed order leaves in the records of its objects. -/
theorem Ctl.wf_missOrder (c : Ctl) (m : Mem) (o : Order) (h : m.wf = true) : (c.missOrder m o).wf = true := by
  have sparse : ∀ (f : Nat → Nat → Mem → Mem), (∀ i a m, m.wf = true → (f i a m).wf = true) → ∀ (is : List Nat) (m : Mem),
      m.wf = true → Mem.wf (is.foldl (fun m i => (List.range 48).foldl (fun m t => f i (tapAt i t) m) m) m) = true :=
    fun f hf is m hm => Mem.wf_foldl _ (fun m i => Mem.wf_foldl _ (fun m t => hf i (tapAt i t) m) _ m) is m hm
  have dense : ∀ (f : Nat → Nat → Mem → Mem), (∀ i a m, m.wf = true → (f i a m).wf = true) →
      ∀ (feeds : List Nat) (slots : List (Nat × Nat)) (m : Mem), m.wf = true →
        Mem.wf (slots.foldl (fun m s => feeds.foldl (fun m g => f s.2 (denseAt s.1 g) m) m) m) = true :=
    fun f hf feeds slots m hm => Mem.wf_foldl _ (fun m s => Mem.wf_foldl _ (fun m g => hf s.2 (denseAt s.1 g) m) feeds m) slots m hm
  unfold Ctl.missOrder
  dsimp only
  split
  · exact dense _ (fun _ a => wf_missMixDense a _ _) _ _ _ (sparse _ (fun _ a => wf_missMixTap a _ _) _ _ h)
  · split
    · exact dense _ (fun i a => wf_missLawDense a _ (c.leaving i)) _ _ _ (sparse _ (fun i a => wf_missLawTap a _ (c.leaving i)) _ _ h)
    · split
      · exact dense _ (fun i a => wf_missLawDense a _ (c.leaving i)) _ _ _ h
      · exact h

theorem wf_shedTap (p a : Nat) (m : Mem) (h : m.wf = true) : (shedTap p a m).wf = true :=
  Mem.wf_ite (wf_copyWord _ _ _ (Mem.wf_wrN _ _ _ _ h)) h

theorem wf_shedDense (p a : Nat) (m : Mem) (h : m.wf = true) : (shedDense p a m).wf = true :=
  Mem.wf_wrN _ _ _ _ (Mem.wf_wrN _ _ _ _ h)

theorem Ctl.wf_shedRecords (c : Ctl) (p : Nat) (m : Mem) (h : m.wf = true) : (c.shedRecords p m).wf = true :=
  Mem.wf_foldl _ (fun m _ => Mem.wf_foldl _ (fun m _ => wf_shedDense p _ m) _ m) _ _
    (Mem.wf_foldl _ (fun m _ => Mem.wf_foldl _ (fun m _ => wf_shedTap p _ m) _ m) _ _ h)

theorem Mem.wf_tapSet (m : Mem) (a p : Nat) (g : Int) (d air en : Nat) (h : m.wf = true) : (m.tapSet a p g d air en).wf = true :=
  wf_wrN _ _ _ _ (wf_wrN _ _ _ _ (wf_wrN _ _ _ _ (wf_wrN _ _ _ _ h)))

theorem Mem.wf_tapHead (m : Mem) (a feed d : Nat) (h : m.wf = true) : (m.tapHead a feed d).wf = true :=
  wf_wrN _ _ _ _ (wf_wrN _ _ _ _ (wf_wrN _ _ _ _ (wf_wrN _ _ _ _ h)))

theorem Mem.wf_denseSet (m : Mem) (a p : Nat) (g : Int) (d : Nat) (h : m.wf = true) : (m.denseSet a p g d).wf = true :=
  wf_wrN _ _ _ _ (wf_wrN _ _ _ _ h)

theorem wf_tapReached (a p : Nat) (m : Mem) (h : m.wf = true) : (tapReached a p m).wf = true :=
  wf_copyWord _ _ _ (wf_copyWord _ _ _ h)

/-! ## Laws and mixes (R77 to R105) -/

theorem edit_tapClamp (x : Mach) (a b : Nat) (on : Bool) : EditOf (x.tapClamp a b on).m x.m :=
  .ite (.refl _) (.loft _ (Mem.wf_wrN _ _ _ _))

theorem edit_tapLeave (x : Mach) (q left from' : Nat) (e : Nat × Tap) : EditOf (x.tapLeave q left from' e).m x.m :=
  .ite (.refl _) (.loft _ (fun h => Mem.wf_wrN _ _ _ _ (Mem.wf_wrN _ _ _ _ h)))

theorem edit_denseLeave (x : Mach) (s q left off : Nat) (e : Nat × Nat) : EditOf (x.denseLeave s q left off e).m x.m :=
  .ite (.refl _) (.loft _ (Mem.wf_denseSet _ _ _ _ _))

theorem edit_tapPut (x : Mach) (a src q : Nat) (new : Bool) (g : Nat × TapGoal) : EditOf (x.tapPut a src q new g).m x.m := by
  unfold Mach.tapPut
  exact EditOf.trans (.loft x.m fun h => Mem.wf_tapSet _ _ _ _ _ _ _
    (Mem.wf_ite (Mem.wf_tapSet _ _ _ _ _ _ _ (Mem.wf_tapHead _ _ _ _ h)) h)) (edit_tapClamp _ _ _ _)

theorem edit_densePut (x : Mach) (s q : Nat) (new : Bool) (g : Nat × TapGoal) : EditOf (x.densePut s q new g).m x.m := by
  unfold Mach.densePut
  exact EditOf.trans (.loft x.m fun h => Mem.wf_denseSet _ _ _ _ _
    (Mem.wf_ite (Mem.wf_denseSet _ _ _ _ _ (Mem.wf_wrN _ _ _ _ (Mem.wf_wrN _ _ _ _ h))) h)) (edit_tapClamp _ _ _ _)

theorem edit_expand (x : Mach) (t : RegMap) (q s : Nat) (fresh : Bool) (goals : Keyed TapGoal) :
    EditOf (x.expand t q s fresh goals).m x.m :=
  (EditOf.foldl _ (fun x g => edit_densePut x _ _ _ g) _ _).trans (EditOf.foldl _ (fun x e => edit_denseLeave x _ _ _ _ e) _ _)

theorem edit_assignTaps (x : Mach) (t : RegMap) (o q : Nat) (fresh : Bool) (goals : Keyed TapGoal) :
    EditOf (x.assignTaps t o q fresh goals).m x.m := by
  unfold Mach.assignTaps
  dsimp only
  refine EditOf.trans (EditOf.trans (EditOf.foldl _ (fun x g => ?_) _ x) (EditOf.foldl _ (fun x e => edit_tapLeave x _ _ _ e) _ _))
    (EditOf.foldl _ (fun x e => edit_tapPut x _ _ _ _ _) _ _)
  split
  · exact edit_tapPut x _ _ _ _ g
  · exact .refl _

theorem edit_lawObj (x : Mach) (t : RegMap) (q o : Nat) : EditOf (x.lawObj t q o).m x.m := by
  unfold Mach.lawObj
  dsimp only
  split <;> exact edit_assignTaps _ t o q _ _

theorem edit_yardLaws (x : Mach) (t : RegMap) (q y : Nat) : EditOf (x.yardLaws t q y).m x.m := by
  unfold Mach.yardLaws
  exact EditOf.trans (.foldl _ (fun x o => .ite (edit_lawObj x _ _ _) (edit_assignTaps x _ _ _ _ _)) _ x)
    (.foldl _ (fun x e => edit_expand x _ _ _ _ _) _ _)

theorem edit_tapsAge (x : Mach) : EditOf x.tapsAge.m x.m :=
  .loft x.m (Mem.wf_foldl _ (fun m _ => Mem.wf_wrN m _ _ _) _ _)

theorem edit_restoredLaws (x : Mach) (old : RegMap) (p : Nat) : EditOf (x.restoredLaws old p).m x.m := by
  refine .foldl _ (fun x o => .ite (.ite (edit_lawObj x _ _ _) (.refl _)) ?_) _ x
  split
  · exact .ite (edit_expand x _ _ _ _ _) (.refl _)
  · exact .refl _

theorem edit_shedTargets (x : Mach) (p : Nat) : EditOf (x.shedTargets p).m x.m :=
  .trans (.foldl _ (fun x e => edit_tapLeave x _ _ _ e) _ x)
    (.foldl _ (fun x _ => .foldl _ (fun x t => edit_denseLeave x _ _ _ _ t) _ x) _ _)

theorem edit_yardHold (x : Mach) (q y : Nat) : EditOf (x.yardHold q y).m x.m := by
  unfold Mach.yardHold
  refine EditOf.trans (.foldl _ (fun x e => ?_) _ x) (.foldl _ (fun x s => .foldl _ (fun x f => ?_) _ x) _ _)
  · exact .ite (edit_tapLeave x _ _ _ e) (.loft _ (wf_missLawTap _ _ _ _))
  · exact .ite (edit_denseLeave x _ _ _ _ f) (.loft _ (wf_missLawDense _ _ _ _))

theorem edit_kitTick (old : RegMap) (x : Mach) : EditOf (x.kitTick old).m x.m := by
  unfold Mach.kitTick
  extract_lets p t runs y z w
  have hz : EditOf z.m x.m := ((edit_tapsAge x).trans (edit_restoredLaws _ old p)).trans (edit_shedTargets _ p)
  have hw : EditOf w.m z.m := by
    refine .foldl _ (fun x y => ?_) _ z
    exact .ite (.refl _) (.ite (edit_yardLaws x _ _ _) (edit_yardHold x _ _))
  exact .ite (.refl _) ((hz.trans hw).trans (.same _ _))

theorem edit_mixTap (x : Mach) (e : Nat × Tap) : EditOf (x.mixTap e).m x.m := by
  unfold Mach.mixTap
  refine EditOf.trans (.loft x.m fun h => ?_) (edit_tapClamp _ _ _ _)
  have hw := fun v => Mem.wf_ite (p := (tapRec x.m.loft e.1 (x.c.get R.WIN_TICK_COUNT % 2)).air = true)
    (Mem.wf_wrN x.m.loft (e.1 + 12) 4 v h) h
  exact Mem.wf_ite (wf_tapReached _ _ _ (hw _)) (hw _)

theorem edit_mixDense (x : Mach) (slot f : Nat) : EditOf (x.mixDense slot f).m x.m :=
  .loft x.m fun h => Mem.wf_ite (wf_missMixDense _ _ _ _ h) h

theorem edit_kitMix (x : Mach) (y : Nat) : EditOf (x.kitMix y).m x.m := by
  unfold Mach.kitMix
  refine .ite (.refl _) (EditOf.trans (.foldl _ (fun x e => ?_) _ x) (.foldl _ (fun x e => ?_) _ _))
  · exact .ite (edit_mixTap x e) (.loft _ (wf_missMixTap _ _ _ _))
  · exact .ite (edit_mixDense x _ _) (.loft _ (wf_missMixDense _ _ _ _))

theorem edit_kitMixAll (x : Mach) : EditOf x.kitMixAll.m x.m := .foldl _ edit_kitMix _ x

/-! ## Jobs and streams (R160 to R184) -/

theorem edit_bundleMem (s : Nat) (l : List Fx) (x : Mach) : EditOf (x.bundleMem s l).m x.m := by
  induction l generalizing x with
  | nil => exact .refl _
  | cons e l ih =>
    cases e with
    | store a v => exact EditOf.trans (.store x.m (Mem.wf_wrN _ _ _ _)) (ih _)
    | _ => exact ih _

/-- Locks, stream requests and a halt touch no memory. -/
theorem Mach.bundleRes_m (s : Nat) (l : List Fx) (x : Mach) : (x.bundleRes s l).m = x.m := by
  induction l generalizing x with
  | nil => rfl
  | cons e l ih =>
    cases e with
    | strm ch a =>
      refine (ih _).trans ?_
      unfold Mach.strmDo
      dsimp only
      repeat' split
      all_goals rfl
    | _ => exact ih _

theorem edit_bundleGo (x : Mach) (s : Nat) (st : StallSt) (fx : List Fx) : EditOf (x.bundleGo s st fx).m x.m := by
  unfold Mach.bundleGo
  rw [Mach.bundleRes_m]
  exact edit_bundleMem s fx _

theorem edit_bundleEnd (x : Mach) (s : Nat) : EditOf (x.bundleEnd s).m x.m := by
  unfold Mach.bundleEnd
  dsimp only
  split
  · exact .refl _
  · split
    · exact .refl _
    · refine .ite (.refl _) ?_
      split
      · exact .refl _
      · exact edit_bundleGo _ _ _ _

theorem edit_wake (x : Mach) (s : Nat) : EditOf (x.wake s).m x.m := by
  unfold Mach.wake
  split
  · exact .refl _
  · exact .ite (edit_bundleGo _ _ _ _) (.refl _)

theorem edit_slotAt (k : Slot) (a : StallSt → Nat) (f : Mach → StallSt → List Fx) (x : Mach) : EditOf (slotAt k a f x).m x.m := by
  refine (edit_wake x k.stall).trans ?_
  unfold slotAt
  dsimp only
  split
  · exact .refl _
  · exact .ite (.refl _) (.ite (edit_bundleEnd _ _) (.refl _))

theorem edit_slotOp (k : Slot) (f : Mach → StallSt → List Fx) (x : Mach) : EditOf (slotOp k f x).m x.m := edit_slotAt k _ f x

theorem edit_slotLoad (k : Slot) (a : StallSt → Nat) (f : Mach → StallSt → List Fx) (x : Mach) : EditOf (slotLoad k a f x).m x.m :=
  edit_slotAt k a f x

theorem edit_bundleSettle (x : Mach) (s : Nat) : EditOf (x.bundleSettle s).m x.m := by
  refine (edit_wake x s).trans ?_
  unfold Mach.bundleSettle
  dsimp only
  split
  · exact .refl _
  · exact .ite (edit_bundleEnd _ _) (.refl _)

theorem edit_yardSettle (x : Mach) (y : Nat) : EditOf (x.yardSettle y).m x.m := .foldl _ edit_bundleSettle _ x

theorem edit_mixCutoff (y : Fin 4) (x : Mach) : EditOf (mixCutoff y x).m x.m := by
  unfold mixCutoff
  exact edit_yardSettle x y

theorem edit_jobLimitAbort (s : Fin 128) (x : Mach) : EditOf (jobLimitAbort s x).m x.m := by
  refine (edit_bundleSettle x s).trans ?_
  unfold jobLimitAbort
  dsimp only
  split
  · exact .refl _
  · exact .ite (.refl _) (.ite (.refl _) (.refl _))

theorem edit_yardGuard (x : Mach) (late : List Nat) : EditOf (x.yardGuard late).m x.m := by
  unfold Mach.yardGuard
  dsimp only
  generalize hy : (List.range 4).foldl Mach.yardSettle x = y
  have h : EditOf y.m x.m := hy ▸ .foldl _ edit_yardSettle _ x
  exact h.trans (.loft y.m (Mem.wf_foldl _ (Ctl.wf_missOrder _) _ _))

/-- Telling the laws of a store changes no memory. -/
theorem Mach.lawNote_m (x : Mach) (o n : Nat) : (x.lawNote o n).m = x.m := by
  unfold Mach.lawNote
  dsimp only
  split <;> rfl

theorem edit_move (x : Mach) (s : Nat) (d : Desc) : EditOf (x.move s d).1.m x.m := by
  unfold Mach.move
  dsimp only
  split
  · split
    · exact .dram _ (Mem.wf_foldl _ (fun m _ => Mem.wf_wrN m _ _ _) _ _)
    · refine EditOf.trans (.loft _ (Mem.wf_foldl _ (fun m _ => Mem.wf_wrN m _ _ _) _ _)) (.foldl _ (fun z w => ?_) _ { c := _, m := _ })
      rw [Mach.lawNote_m]
      exact .refl _
  · exact .store _ (Mem.wf_foldl_fst _ (fun e _ => Mem.wf_wrs _ e.1 _) _ (x.m.store, x.c))

theorem edit_streamTransferEnd (y : Fin 4) (ch : Fin 16) (fin : XferEnd) (x : Mach) : EditOf (streamTransferEnd y ch fin x).m x.m := by
  unfold streamTransferEnd
  dsimp only
  split
  case h_1 d s _ _ =>
    generalize x.c.each fin.ecc (fun c h => c.eccHit y h) = c
    generalize (if fin.err || d.dram && c.get R.DRAM_STATUS_MODE == 3 then (c, false) else _) = q
    have hp : EditOf (if q.2 then Mach.move { x with c := q.1 } s d else ({ x with c := q.1 }, false)).1.m x.m := by
      split
      · exact edit_move _ s d
      · exact .refl _
    refine hp.trans ?_
    generalize (if q.2 then Mach.move { x with c := q.1 } s d else ({ x with c := q.1 }, false)) = p
    split
    · exact .refl _
    · exact .ite (edit_bundleEnd _ _) (.refl _)
  case h_2 => exact .refl _

/-! ## Correction banks, programs and the sequencers (R113, R192, R202 to R213) -/

theorem edit_bankPut (x : Mach) (l : BankLoad) : EditOf (x.bankPut l).m x.m := by
  unfold Mach.bankPut
  exact .parts x.m (fun h => Mem.wf_wrs _ _ _ (Mem.wf_wrs _ _ _ h)) (Mem.wf_wrs _ _ _) id id id

theorem edit_bankLoadComplete (x : Mach) : EditOf (bankLoadComplete x).m x.m := by
  unfold bankLoadComplete
  split
  · exact .refl _
  · exact .ite (.refl _) (edit_bankPut _ _)

/-- A correction load only reads DRAM. -/
theorem Mach.loadGo_m (x : Mach) (f b slot : Nat) : (x.loadGo f b slot).m = x.m := by
  unfold Mach.loadGo
  dsimp only
  repeat' split
  all_goals rfl

theorem corrLoadGo_m (m : Master) (f b slot : Nat) (x : Mach) : (corrLoadGo m f b slot x).m = x.m := by
  unfold corrLoadGo
  dsimp only
  split
  · rfl
  · split <;> exact x.loadGo_m f b slot

theorem edit_loadYard (x : Mach) (p : ProgImg) (y : Nat) : EditOf (x.loadYard p y).m x.m := by
  unfold Mach.loadYard
  exact .ite (.refl _) (.parts x.m id id (Mem.wf_foldl _ (fun m _ => Mem.wf_wrs _ m _) _ _) (Mem.wf_wrs _ _ _)
    (fun h => Mem.wf_wrs _ _ _ (Mem.wf_wipe _ _ _ h)))

theorem edit_loadProgs (x : Mach) (l : List ProgImg) : EditOf (x.loadProgs l).m x.m :=
  .foldl _ (fun x p => .foldl _ (fun x y => edit_loadYard x p y) _ x) _ x

theorem edit_seqStart (x : Mach) (y : Nat) : EditOf (x.seqStart y).m x.m := by
  unfold Mach.seqStart
  dsimp only
  split
  · exact .refl _
  · exact .dmem _ fun h => Mem.wf_wrs _ _ _ (Mem.wf_wipe _ _ _ h)

theorem edit_seqAgain (x : Mach) : EditOf x.seqAgain.m x.m := by
  unfold Mach.seqAgain
  extract_lets y
  have hy : EditOf y.m x.m := .foldl _ edit_seqStart _ x
  exact .ite (.refl _) (hy.trans (.same _ _))

theorem edit_seqRestart (y : Fin 4) (x : Mach) : EditOf (seqRestart y x).m x.m := by
  unfold seqRestart
  dsimp only
  split
  · exact .ite (.refl _) (edit_seqStart x y)
  · exact .refl _

theorem edit_programLoadDone (x : Mach) : EditOf (programLoadDone x).m x.m := by
  unfold programLoadDone
  split
  · exact .ite (.refl _) (edit_loadProgs _ _)
  · exact .refl _

theorem edit_sceneLoadDone (x : Mach) : EditOf (sceneLoadDone x).m x.m := by
  unfold sceneLoadDone
  split
  · exact .refl _
  · exact .ite (.refl _) (edit_loadProgs _ _)

theorem edit_seqPost (k : Issue) (rd ra : Fin 32) (x : Mach) : EditOf (seqPost k rd ra x).m x.m := by
  unfold seqPost
  refine .ite (.refl _) ?_
  dsimp only
  split <;> exact .refl _

theorem edit_seqCpop (k : Issue) (rd ra : Fin 32) (x : Mach) : EditOf (seqCpop k rd ra x).m x.m := by
  unfold seqCpop
  refine .ite (.refl _) ?_
  dsimp only
  split
  · exact .refl _
  · split
    · exact .refl _
    · exact .dmem _ (Mem.wf_wrWords _ _ _)

theorem edit_seqLbs (k : Issue) (rd ra : Fin 32) (n : Fin 16) (x : Mach) : EditOf (seqLbs k rd ra n x).m x.m := by
  unfold seqLbs
  refine .ite (.refl _) (.ite ?_ ?_)
  all_goals
    split <;> exact .refl _

theorem edit_seqLbr (k : Issue) (rd ra : Fin 32) (n : Fin 16) (x : Mach) : EditOf (seqLbr k rd ra n x).m x.m := by
  unfold seqLbr
  refine .ite (.refl _) ?_
  dsimp only
  split
  · exact .refl _
  · exact .ite (.refl _) (.ite (.refl _) (.dmem _ (Mem.wf_wrWords _ _ _)))

/-! ## Ports (R293 to R299) -/

theorem edit_descDone (x : Mach) (p status : Nat) (time : Option Nat) : EditOf (x.descDone p status time).m x.m := by
  unfold Mach.descDone
  refine .dram _ fun h => ?_
  split
  · exact Mem.wf_wrN _ _ _ _ h
  · exact Mem.wf_wrN _ _ _ _ (Mem.wf_wrN _ _ _ _ h)

theorem edit_flushRing (p n : Nat) (x : Mach) : EditOf (Mach.flushRing p n x).m x.m := by
  induction n generalizing x with
  | zero => exact .refl _
  | succ n ih =>
    unfold Mach.flushRing
    dsimp only
    refine .ite (EditOf.trans ?_ (ih _)) (.refl _)
    split <;> exact edit_descDone x p 7 none

theorem edit_portDown (x : Mach) (p : Nat) : EditOf (x.portDown p).m x.m := by
  unfold Mach.portDown
  dsimp only
  split
  · exact edit_flushRing _ _ _
  · exact .refl _

theorem edit_netCfgWrite (p : Fin 4) (d : Nat) (x : Mach) : EditOf (netCfgWrite p d x).m x.m := by
  unfold netCfgWrite
  refine .ite (.refl _) (.ite (.refl _) (.ite (.refl _) ?_))
  dsimp only
  split
  · exact edit_portDown _ _
  · exact .refl _

theorem edit_netLinkChange (l : Plug) (up : Bool) (x : Mach) : EditOf (netLinkChange l up x).m x.m := by
  unfold netLinkChange
  exact .ite (.ite (.refl _) (.ite (edit_portDown { c := _, m := x.m } _) (.refl _)))
    (.ite (.ite (.refl _) (.refl _)) (.ite (edit_portDown _ _) (.refl _)))

theorem edit_txHost (p frags n : Nat) (x : Mach) : EditOf (Mach.txHost p frags n x).m x.m := by
  induction n generalizing x with
  | zero => exact .refl _
  | succ n ih =>
    unfold Mach.txHost
    dsimp only
    refine .ite (.refl _) ?_
    split
    · exact .refl _
    · refine .ite (.refl _) ?_
      dsimp only
      exact edit_descDone { c := _, m := x.m } _ _ _
    · exact EditOf.trans (edit_descDone x p 7 none) (ih _)

theorem edit_frameTxOpportunity (p : Fin 4) (frags : Nat) (x : Mach) : EditOf (frameTxOpportunity p frags x).m x.m := by
  unfold frameTxOpportunity
  refine .ite (.refl _) ?_
  split
  · exact .refl _
  · exact .ite (.refl _) (edit_txHost _ _ _ _)

theorem edit_hostRx (x : Mach) (p : Nat) (f : List Byte) (stamp : Nat) : EditOf (x.hostRx p f stamp).m x.m := by
  unfold Mach.hostRx
  refine .ite (.refl _) (.ite (.refl _) (.ite (.refl _) (.ite (.refl _) (.dram _ fun h => ?_))))
  exact Mem.wf_wrN _ _ _ _ (Mem.wf_wrN _ _ _ _ (Mem.wf_wrs _ _ _ h))

theorem edit_rxGood (x : Mach) (p : Nat) (f : List Byte) (i : RxInfo) : EditOf (x.rxGood p f i).m x.m := by
  unfold Mach.rxGood
  refine .ite (.ite (.refl _) (.refl _)) (.ite (.refl _) (.ite (.refl _) (.ite (.refl _) (.ite (.refl _) ?_))))
  split
  · exact .refl _
  · exact .ite (.refl _) (edit_hostRx _ _ _ _)

theorem edit_frameReceive (p : Fin 4) (f : List Byte) (i : RxInfo) (x : Mach) : EditOf (frameReceive p f i x).m x.m := by
  unfold frameReceive
  exact .ite (.refl _) (.ite (.refl _) (.ite (.refl _) (.ite (.refl _) (.ite (.refl _) (.ite (.refl _) (.ite (.refl _) (edit_rxGood _ _ _ _)))))))

/-! ## DRAM (R357, R367) and the monitor's records (R434) -/

theorem edit_thaw (x : Mach) : EditOf x.thaw.m x.m := by
  unfold Mach.thaw
  refine .ite (.refl _) ?_
  dsimp only
  split
  · exact .dram _ (Mem.wf_wipe _ _ _)
  · exact .refl _

theorem edit_dramCtrl (x : Mach) (m : Master) (d : Nat) : EditOf (x.dramCtrl m d).m x.m := by
  unfold Mach.dramCtrl
  exact .ite (.refl _) (.ite (.refl _) (.ite (.refl _) (.ite (edit_thaw { c := _, m := x.m }) (.refl _))))

theorem edit_dramServe (x : Mach) (ch : Nat) (r : DramReq) (ecc : EccOut) : EditOf (x.dramServe ch r ecc).m x.m := by
  unfold Mach.dramServe
  dsimp only
  split
  · exact .refl _
  · exact .ite (.dram _ (Mem.wf_wrs _ _ _)) (.refl _)

theorem edit_dramCommandSlot (ch : Fin 2) (refresh : Bool) (banks : BitVec 16) (ecc : EccOut) (x : Mach) :
    EditOf (dramCommandSlot ch refresh banks ecc x).m x.m := by
  unfold dramCommandSlot
  refine .ite (.refl _) ?_
  split
  · exact .refl _
  · exact edit_dramServe _ _ _ _

theorem edit_keeperThaw (x : Mach) : EditOf (keeperThaw x).m x.m := by
  unfold keeperThaw
  extract_lets c due again y c'
  have hy : EditOf y.m x.m := edit_thaw { c := _, m := x.m }
  refine .ite (.refl _) (.ite (.same _ _) ?_)
  split <;> exact hy.trans (.same _ _)

theorem edit_monitorRecordMove (x : Mach) : EditOf (monitorRecordMove x).m x.m := by
  unfold monitorRecordMove
  dsimp only
  split
  · exact .refl _
  · exact .ite (.refl _) (.ite (.refl _) (.ite (.refl _) (.dram _ (Mem.wf_wrs _ _ _))))

theorem edit_bar2Write (l : List (Nat × List Byte)) (x : Mach) : EditOf (x.bar2Write l).m x.m := by
  induction l generalizing x with
  | nil => exact .refl _
  | cons e l ih =>
    unfold Mach.bar2Write
    exact .ite (EditOf.trans (.dram x.m (Mem.wf_wrs _ _ _)) (ih _)) (.refl _)

theorem edit_bar2Access (fn : Fin 2) (addr : BitVec 40) (len : Fin 513) (data : Option (List (Option Byte))) (x : Mach) :
    EditOf (bar2Access fn addr len data x).m x.m := by
  unfold bar2Access
  refine .ite (.refl _) (.ite (.refl _) ?_)
  split
  · exact edit_bar2Write _ _
  · exact .refl _

/-! ## Writes and reads of BAR0 (R5, R452) -/

theorem edit_loftWrite (x : Mach) (m : Master) (a n d : Nat) : EditOf (x.loftWrite m a n d).m x.m := by
  unfold Mach.loftWrite
  refine .ite (.ite (.loft _ (Mem.wf_wrN _ _ _ _)) ?_) (.loft _ (Mem.wf_wrN _ _ _ _))
  split <;> exact .refl _

/-- The storm door's check of its store reads it only (R228). -/
@[simp] theorem Mach.storeCheck_m (x : Mach) : x.storeCheck.m = x.m := rfl

theorem Mach.stormArm_m (x : Mach) : x.stormArm.m = x.m := by
  unfold Mach.stormArm
  dsimp only

@[simp] theorem stormArm_m (m : Master) (x : Mach) : (stormArm m x).m = x.m := by
  unfold stormArm
  split
  · exact x.stormArm_m
  · rfl

theorem edit_write (x : Mach) (m : Master) (a n d : Nat) : EditOf (x.write m a n d).m x.m := by
  unfold Mach.write
  dsimp only
  refine .ite (edit_loftWrite _ _ _ _ _) (.ite (.refl _) (.ite ?_ (.ite (.refl _) (.ite (.refl _) (.ite ?_
    (.ite (edit_dramCtrl _ _ _) (.ite ?_ (.ite ?_ (.refl _)))))))))
  · split <;> exact .refl _
  · exact (edit_netCfgWrite _ _ { c := x.c.floorUse (x.c.mayUseFloor m), m := x.m }).trans (.same _ _)
  · split
    · rw [stormArm_m]; exact .refl _
    · exact .refl _
  · rw [corrLoadGo_m]; exact .refl _

theorem edit_writeAll (x : Mach) (m : Master) (a : Nat) (n : AccSize) (d : Nat) : EditOf (x.writeAll m a n d).m x.m := by
  unfold Mach.writeAll
  exact .ite (.refl _) (.ite (EditOf.trans (edit_write { c := { x.c with out := [] }, m := x.m } m a 4 _) (edit_write _ _ _ _ _))
    (edit_write _ _ _ _ _))

@[simp] theorem Mach.read_m (x : Mach) (m : Master) (a n : Nat) : (x.read m a n).x.m = x.m := by
  unfold Mach.read
  dsimp only
  repeat' split
  all_goals rfl

@[simp] theorem Mach.readAll_m (x : Mach) (m : Master) (a : Nat) (n : AccSize) : (x.readAll m a n).x.m = x.m := by
  unfold Mach.readAll
  split
  · rfl
  · split
    · dsimp only
      rw [Mach.read_m, Mach.read_m]
    · exact x.read_m m a n.bytes

/-! ## Loads and stores of the sequencers (R190, R192) -/

theorem edit_storePut (x : Mach) (b o n v : Nat) : EditOf (x.storePut b o n v).m x.m := .store _ (Mem.wf_wrN _ _ _ _)

@[simp] theorem Mach.lawStored_m (x : Mach) (y o n v : Nat) : (x.lawStored y o n v).m = x.m := by
  unfold Mach.lawStored
  split
  · exact x.lawNote_m _ n
  · split <;> rfl

theorem edit_seqWrite (x : Mach) (y a n v : Nat) : EditOf (x.seqWrite y a n v).1.m x.m := by
  unfold Mach.seqWrite
  split
  · exact .refl _
  · split
    case h_1 => exact .dmem _ (Mem.wf_wrN _ _ _ _)
    case h_2 => exact edit_storePut _ _ _ _ _
    case h_3 => exact .foldl _ (fun x i => edit_storePut x _ _ _ _) _ x
    case h_4 => rw [Mach.lawNote_m]; exact edit_loftWrite _ _ _ _ _
    case h_5 o _ =>
      have h := edit_writeAll { c := { x.c with out := [] }, m := x.m } (.seq (Fin.ofNat 4 y)) o
        (if n = 1 then .byte else if n = 2 then .half else .word) v
      refine EditOf.trans h ?_
      generalize Mach.writeAll _ _ _ _ _ = z
      dsimp only
      split
      · exact .refl _
      · rw [Mach.lawStored_m]; exact .refl _
    case h_6 =>
      dsimp only
      split
      · exact .dram _ (Mem.wf_wrN _ _ _ _)
      · exact .refl _
    case h_7 => exact .refl _

theorem edit_seqStore (k : Issue) (ra : Fin 32) (imm : BitVec 16) (n : Nat) (val : SeqSt → Nat) (x : Mach) :
    EditOf (seqStore k ra imm n val x).m x.m := by
  unfold seqStore
  refine .ite (.refl _) (.ite (.refl _) ?_)
  dsimp only
  split <;> exact edit_seqWrite x _ _ _ _

@[simp] theorem Mach.seqRead_m (x : Mach) (y a n : Nat) : (x.seqRead y a n).1.m = x.m := by
  unfold Mach.seqRead
  split
  case h_6 => exact x.readAll_m _ _ _
  all_goals rfl

theorem edit_seqLoad (k : Issue) (ra : Fin 32) (imm : BitVec 16) (n : Nat) (put : SeqSt → Nat → SeqSt) (x : Mach) :
    EditOf (seqLoad k ra imm n put x).m x.m := by
  unfold seqLoad
  refine .ite (.refl _) (.ite (.refl _) ?_)
  dsimp only
  split
  · rw [Mach.seqRead_m]; exact .refl _
  · rw [Mach.seqRead_m]; exact .refl _

/-! ## Commands of the keeper (R401) -/

/-- The keeper touches the memories only as its command's own meaning does. -/
theorem Mach.keeper_m (x : Mach) (p : Nat) (mine : List Nat → Bool) (h : Mach → List Nat → KRes) :
    (x.keeper p mine h).m = x.m ∨ ∃ y w, (x.keeper p mine h).m = (h y w).x.m ∧ y.m = x.m := by
  unfold Mach.keeper
  dsimp only
  split
  · exact .inl rfl
  · split
    · exact .inl rfl
    · split
      · exact .inl rfl
      · split
        · exact .inl rfl
        · exact .inr ⟨_, _, rfl, rfl⟩

theorem edit_keeper (x : Mach) (p : Nat) (mine : List Nat → Bool) (h : Mach → List Nat → KRes)
    (he : ∀ y w, EditOf (h y w).x.m y.m) : EditOf (x.keeper p mine h).m x.m := by
  rcases x.keeper_m p mine h with e | ⟨y, w, e, hy⟩
  · rw [e]; exact .refl _
  · rw [e, ← hy]; exact he y w

/-- A command whose every answer leaves the memories alone. -/
theorem KRes.ite_m {p : Prop} [Decidable p] {a b : KRes} {m : Rams} (h : a.x.m = m) (k : b.x.m = m) :
    (if p then a else b).x.m = m := by
  split
  · exact h
  · exact k

/-- An answer that leaves the memories alone, whatever it makes of the control state. -/
theorem KRes.mk_m (c : Ctl) (m : Rams) (status : Nat) (res : List Nat) (later : Bool) : (KRes.mk ⟨c, m⟩ status res later).x.m = m := rfl

theorem switchFail_m (c : Ctl) (m : Rams) (code : Nat) : (switchFail ⟨c, m⟩ code).x.m = m := rfl

@[simp] theorem sceneSwitch_m (x : Mach) (want : Nat) : (Ctl.sceneSwitch x want).x.m = x.m := by
  unfold Ctl.sceneSwitch
  exact KRes.ite_m (switchFail_m x.c _ _) (KRes.ite_m (switchFail_m x.c _ _) (KRes.ite_m (switchFail_m _ _ _) (KRes.mk_m _ _ _ _ _)))

@[simp] theorem sceneLoadCmd_m (p : Nat) (x : Mach) (w : List Nat) : (sceneLoadCmd p x w).x.m = x.m :=
  KRes.ite_m rfl (KRes.ite_m rfl (KRes.ite_m rfl (KRes.ite_m rfl (KRes.ite_m rfl rfl))))

@[simp] theorem programLoadCmd_m (p : Nat) (x : Mach) (w : List Nat) : (programLoadCmd p x w).x.m = x.m :=
  KRes.ite_m rfl (KRes.ite_m rfl (KRes.ite_m rfl (KRes.ite_m rfl (KRes.ite_m rfl rfl))))

@[simp] theorem planSetCmd_m (x : Mach) (w : List Nat) : (planSetCmd x w).x.m = x.m :=
  KRes.ite_m rfl (KRes.ite_m rfl (KRes.ite_m rfl (KRes.ite_m rfl (KRes.ite_m rfl rfl))))

@[simp] theorem stormSetCmd_m (x : Mach) (w : List Nat) : (stormSetCmd x w).x.m = x.m :=
  KRes.ite_m rfl (KRes.ite_m rfl (KRes.ite_m rfl (KRes.ite_m rfl rfl)))

theorem sessionAuthCmd_m (p : Fin 8) (x : Mach) (w : List Nat) : (sessionAuthCmd p x w).x.m = x.m :=
  KRes.ite_m rfl (KRes.ite_m rfl (KRes.ite_m rfl rfl))

theorem sessionOpenCmd_m (p : Fin 8) (x : Mach) (w : List Nat) : (sessionOpenCmd p x w).x.m = x.m := KRes.ite_m rfl (KRes.ite_m rfl rfl)

theorem latchBreakCmd_m (x : Mach) (w : List Nat) : (latchBreakCmd x w).x.m = x.m := KRes.ite_m rfl rfl

theorem fwUpdateKeeperCmd_m (p : Fin 8) (x : Mach) (w : List Nat) : (fwUpdateKeeperCmd p x w).x.m = x.m :=
  KRes.ite_m rfl (KRes.ite_m rfl (KRes.ite_m rfl (KRes.ite_m rfl rfl)))

theorem calStallCmd_m (pass : Bool) (windows : Nat) (x : Mach) (w : List Nat) : (calStallCmd pass windows x w).x.m = x.m :=
  KRes.ite_m rfl (KRes.ite_m rfl rfl)

theorem calRunLineCmd_m (p : Fin 8) (x : Mach) (w : List Nat) : (calRunLineCmd p x w).x.m = x.m := KRes.ite_m rfl rfl

theorem calLedgerCmd_m (costs : Option (List (Nat × Nat))) (windows : Nat) (x : Mach) (w : List Nat) :
    (calLedgerCmd costs windows x w).x.m = x.m := by
  refine KRes.ite_m rfl ?_
  cases costs <;> rfl

theorem budgetSetCmd_m (x : Mach) (w : List Nat) : (budgetSetCmd x w).x.m = x.m := KRes.ite_m rfl rfl

theorem disarmCmd_m (x : Mach) (w : List Nat) : (disarmCmd x w).x.m = x.m := KRes.ite_m rfl rfl

theorem armCmd_m (p : Fin 8) (x : Mach) (w : List Nat) : (armCmd p x w).x.m = x.m := KRes.ite_m rfl rfl

theorem alarmStopCmd_m (x : Mach) (w : List Nat) : (alarmStopCmd x w).x.m = x.m := KRes.ite_m rfl rfl

theorem alarmStartCmd_m (x : Mach) (w : List Nat) : (alarmStartCmd x w).x.m = x.m := KRes.ite_m rfl rfl

/-- The log is read into DRAM (R401). -/
theorem edit_logReadCmd (x : Mach) (w : List Nat) : EditOf (logReadCmd x w).x.m x.m := by
  unfold logReadCmd
  dsimp only
  split
  · exact .refl _
  · split
    · exact .refl _
    · exact .dram _ (Mem.wf_wrWords _ _ _)

/-! ## The hinge's journal and resynchronisation (R249, R263) -/

theorem edit_journalOne (x : Mach) (e : JEntry) : EditOf (x.journalOne e).m x.m := by
  unfold Mach.journalOne
  dsimp only
  split
  case h_1 => exact .ite (.refl _) (.ite (.refl _) (edit_write _ _ _ _ _))
  case h_6 =>
    refine .ite ?_ (.ite ?_ (.ite ?_ (.ite ?_ (.ite ?_ (.refl _)))))
    · rw [sceneLoadCmd_m]; exact .refl _
    · rw [sceneSwitch_m]; exact .refl _
    · rw [programLoadCmd_m]; exact .refl _
    · rw [planSetCmd_m]; exact .refl _
    · rw [stormSetCmd_m]; exact .refl _
  all_goals exact .refl _

theorem edit_journalApply (x : Mach) : EditOf (journalApply x).m x.m := by
  unfold journalApply
  dsimp only
  split
  · exact .refl _
  · refine .ite (.refl _) ?_
    dsimp only
    exact .foldl _ edit_journalOne _ { c := _, m := x.m }

theorem edit_stageTake (x : Mach) (g : HngStage) : EditOf (x.stageTake g).m x.m := by
  unfold Mach.stageTake
  dsimp only
  exact edit_loadProgs x g.progs

theorem edit_bulkTake (x : Mach) (p : HngBulk) : EditOf (x.bulkTake p).m x.m := by
  unfold Mach.bulkTake
  split
  · exact .refl _
  · exact edit_stageTake x _
  · dsimp only
    exact edit_loadProgs x _
  · dsimp only
    split <;> exact edit_bankPut x _

theorem edit_bulkFrameReceive (link : Nat) (h : HngHead) (part : HngBulk) (pct : Nat) (x : Mach) :
    EditOf (bulkFrameReceive link h part pct x).m x.m := by
  unfold bulkFrameReceive
  refine .ite (.refl _) ?_
  exact edit_bulkTake { c := _, m := x.m } part

theorem edit_nearPut (x : Mach) : EditOf x.nearPut.m x.m := by
  unfold Mach.nearPut
  exact .loft x.m (Mem.wf_foldl _ (fun m e => Mem.wf_foldl _ (fun m p => Mem.wf_wrN m _ _ _) _ m) _ _)

theorem edit_stateApply (x : Mach) : EditOf x.stateApply.m x.m := by
  unfold Mach.stateApply
  dsimp only
  split
  · exact .refl _
  · refine .ite (.refl _) (.parts x.m id (fun h => ?_) id id (fun h => ?_))
    · exact Mem.wf_foldl _ (fun m e => Mem.wf_wr m _ _) _ _ (Mem.wf_foldl _ (fun m y => Mem.wf_wipe m _ _) _ _ h)
    · exact Mem.wf_foldl _ (fun m e => Mem.wf_wr m _ _) _ _ (Mem.wf_foldl _ (fun m y => Mem.wf_wipe m _ _) _ _ h)

/-- What an active member sends to one that resynchronises changes no memory. -/
theorem Mach.resync_m (x : Mach) : x.resync.m = x.m := by
  unfold Mach.resync
  split
  · rfl
  · unfold Mach.stateSend Mach.bulkSend
    dsimp only
    split <;> rfl

theorem edit_shedSync (x : Mach) : EditOf x.shedSync.m x.m := by
  unfold Mach.shedSync
  extract_lets y c
  have hy : EditOf y.m x.m := .foldl _ (fun x p => .ite (edit_portDown x p) (.refl _)) _ x
  exact hy.trans (.same _ _)

/-! ## Boundaries (R17 to R23) -/

theorem edit_windowBoundary (ecc : List (Fin 4 × ScrubHit)) (mean peak battMv busMv : BitVec 16) (x : Mach) :
    EditOf (windowBoundary ecc mean peak battMv busMv x).m x.m := by
  unfold windowBoundary
  extract_lets c c₁ p c₂ c₃ c₄ y
  have h : EditOf y.m x.m := by
    refine EditOf.trans ?_ (edit_shedSync _)
    rw [Mach.resync_m]
    exact EditOf.trans (edit_nearPut { x with c := c₄ }) (edit_stateApply _)
  exact .ite (.refl _) (.ite (.same _ _) (.ite h (h.trans (edit_kitMixAll _))))

theorem edit_tickBoundary (x : Mach) : EditOf (tickBoundary x).m x.m := by
  unfold tickBoundary
  refine .ite (.refl _) ?_
  refine EditOf.trans (EditOf.trans (EditOf.trans (.loft x.m (Ctl.wf_shedRecords _ _ _)) (edit_seqAgain { c := _, m := _ }))
    (edit_kitTick _ _)) (edit_kitMixAll _)

theorem edit_guardPoint (late : List (Fin 768)) (x : Mach) : EditOf (guardPoint late x).m x.m := by
  unfold guardPoint
  refine .ite (.refl _) ?_
  dsimp only
  exact edit_yardGuard x _

/-! ## Resets and start-up (R437 to R447, R470) -/

theorem edit_hardReset (x : Mach) (cause : Nat) : EditOf (x.hardReset cause).m x.m := .cleared x.m

theorem edit_dieReset (x : Mach) : EditOf x.dieReset.m x.m := .cleared x.m

theorem edit_powerCheck (x : Mach) : EditOf x.powerCheck.m x.m := .ite (edit_hardReset x 0) (.refl _)

theorem edit_mainsOkAct (ok : Bool) (x : Mach) : EditOf (mainsOkAct ok x).m x.m := edit_powerCheck { c := _, m := x.m }

theorem edit_psuTempRecover (ok : Bool) (x : Mach) : EditOf (psuTempRecover ok x).m x.m :=
  .ite (.refl _) (edit_mainsOkAct ok { c := _, m := x.m })

theorem edit_rootReturnHold (x : Mach) : EditOf (rootReturnHold x).m x.m := .ite (edit_dieReset x) (.refl _)

theorem edit_dieStrobeAbsent (x : Mach) : EditOf (dieStrobeAbsent x).m x.m := .ite (edit_dieReset x) (.refl _)

theorem edit_dieOvertemp (x : Mach) : EditOf (dieOvertemp x).m x.m := .ite (.refl _) (edit_dieReset { c := _, m := x.m })

theorem edit_dieTempRecover (x : Mach) : EditOf (dieTempRecover x).m x.m := .ite (.refl _) (edit_dieReset { c := _, m := x.m })

theorem edit_dramInitComplete (x : Mach) : EditOf (dramInitComplete x).m x.m := by
  unfold dramInitComplete
  exact .ite (.refl _) (.dram x.m fun _ => rfl)

/-- An accepted ARM and its check touch no memory (R441). -/
theorem armExecute_m (x : Mach) : (armExecute x).m = x.m := by
  unfold armExecute
  split
  · rfl
  · split
    · rfl
    · dsimp only
      repeat' split
      all_goals rfl

theorem autoArmAttempt_m (x : Mach) : (autoArmAttempt x).m = x.m := by
  unfold autoArmAttempt
  dsimp only
  repeat' split
  all_goals rfl

/-! ### The profile (R442) -/

theorem edit_profWords (x : Mach) (m : RegMap) (pick : Nat → Bool) : EditOf (x.profWords m pick).m x.m := by
  unfold Mach.profWords
  exact .foldl _ (fun x a => edit_write x _ _ _ _) _ x

theorem edit_profStorm (x : Mach) (p : Profile) : EditOf (x.profStorm p).m x.m := edit_profWords x p.regs _

theorem edit_profScene (x : Mach) (p : Profile) : EditOf (x.profScene p).m x.m := by
  unfold Mach.profScene
  dsimp only
  split
  · exact .refl _
  · rw [sceneSwitch_m]; exact edit_loadProgs x _

theorem edit_profBanks (x : Mach) (p : Profile) : EditOf (x.profBanks p).m x.m := by
  unfold Mach.profBanks
  dsimp only
  refine .foldl _ (fun x b => ?_) _ x
  exact edit_bankLoadComplete ⟨_, x.m⟩

theorem edit_profApply (x : Mach) (p : Profile) : EditOf (x.profApply p).m x.m := by
  unfold Mach.profApply
  dsimp only
  refine EditOf.trans ?_ (edit_profStorm _ _)
  refine EditOf.trans ?_ (edit_profWords _ _ _)
  refine EditOf.trans ?_ (edit_profBanks _ _)
  refine EditOf.trans ?_ (edit_profScene _ _)
  refine EditOf.trans ?_ (edit_profWords _ _ _)
  refine EditOf.trans ?_ (edit_profWords _ _ _)
  exact edit_profWords x _ _

theorem edit_profileApply (x : Mach) : EditOf (profileApply x).m x.m := by
  unfold profileApply
  split
  · exact .refl _
  · exact .ite (.refl _) (.ite (.refl _) (edit_profApply { c := _, m := x.m } _))

theorem stormProgrammeStep_m (p : Nat) (x : Mach) : (stormProgrammeStep p x).m = x.m := by
  unfold stormProgrammeStep
  dsimp only
  split
  · rfl
  · split <;> rfl

theorem downlinkFrameSend_m (l : Fin 8) (x : Mach) : (downlinkFrameSend l x).m = x.m := by
  unfold downlinkFrameSend
  split <;> rfl

/-! ## Updates of the storm store (R228, R449) -/

/-- An edit of the storm store. -/
theorem Rams.wf_nor (m : Rams) {n : Mem} (h : m.nor.wf = true → n.wf = true) (w : m.wf = true) :
    Rams.wf { m with nor := n } = true := by
  rw [Rams.wf_iff] at w ⊢
  obtain ⟨wd, wl, ws, wi, we, wn⟩ := w
  exact ⟨wd, wl, ws, wi, we, h wn⟩

/-- A storm-store update wipes the store's header first. -/
theorem fwUpdateStormCmd_form (p : Fin 8) (x : Mach) (w : List Nat) (h : x.m.wf = true) : (fwUpdateStormCmd p x w).x.m.wf = true := by
  unfold fwUpdateStormCmd
  dsimp only
  split
  · exact h
  · split
    · exact h
    · split
      · exact h
      · split
        · exact h
        · split
          · exact h
          · exact Rams.wf_nor _ (Mem.wf_wipe _ _ _) h

theorem fwUpdateStorm_form (p : Fin 8) (x : Mach) (h : x.m.wf = true) : (fwUpdateStorm p x).m.wf = true := by
  rcases x.keeper_m p (fun w => codeIs 0x50 w && bit (w.getD 4 0) 0) (fwUpdateStormCmd p) with e | ⟨y, w, e, hy⟩
  · exact e ▸ h
  · exact e ▸ fwUpdateStormCmd_form p y w (hy ▸ h)

theorem fwUpdateDone_form (x : Mach) (h : x.m.wf = true) : (fwUpdateDone x).m.wf = true := by
  unfold fwUpdateDone
  split
  · exact h
  · dsimp only
    split
    · exact h
    · rw [Mach.storeCheck_m]
      exact Rams.wf_nor _ (fun hn => Mem.wf_wrs _ _ _ (Mem.wf_wipe _ _ _ hn)) h

/-! ## Every command -/

/-- A meaning that edits the memories. -/
def Mach.Edits (f : Mach → Mach) : Prop := ∀ x, EditOf (f x).m x.m

/-- That a command's outcome is that of a meaning which edits the memories. -/
def State.Edits (s : State) (o : Host.Outcome State Fault Refusal) : Prop := ∃ f, o = s.mach f ∧ Mach.Edits f

theorem State.edits_mach (s : State) (f : Mach → Mach) (h : Mach.Edits f) : s.Edits (s.mach f) := ⟨f, rfl, h⟩

theorem State.edits_ctl (s : State) (f : Ctl → Ctl) : s.Edits (s.ctl f) := ⟨fun x => { x with c := f x.c }, rfl, fun _ => .refl _⟩

/-- A keeper command that leaves the memories alone. -/
theorem State.edits_keeper (s : State) (p : Fin 8) (mine : List Nat → Bool) (h : Mach → List Nat → KRes)
    (hm : ∀ y w, (h y w).x.m = y.m) : s.Edits (s.mach fun x => x.keeper p mine h) :=
  s.edits_mach _ fun x => edit_keeper x p mine h fun y w => by rw [hm]; exact .refl _

theorem State.edits_slot (s : State) (k : Slot) (f : Mach → StallSt → List Fx) : s.Edits (s.mach (slotOp k f)) :=
  s.edits_mach _ (edit_slotOp k f)

theorem State.edits_slotLoad (s : State) (k : Slot) (a : StallSt → Nat) (f : Mach → StallSt → List Fx) :
    s.Edits (s.mach (slotLoad k a f)) := s.edits_mach _ (edit_slotLoad k a f)

theorem State.edits_seqLoad (s : State) (k : Issue) (ra : Fin 32) (imm : BitVec 16) (n : Nat) (put : SeqSt → Nat → SeqSt) :
    s.Edits (s.mach (seqLoad k ra imm n put)) := s.edits_mach _ (edit_seqLoad k ra imm n put)

theorem State.edits_seqStore (s : State) (k : Issue) (ra : Fin 32) (imm : BitVec 16) (n : Nat) (val : SeqSt → Nat) :
    s.Edits (s.mach (seqStore k ra imm n val)) := s.edits_mach _ (edit_seqStore k ra imm n val)

/-- Every command but a storm-store update edits the memories; most act on the control state alone. -/
theorem exec_edits (c : Instr) (s : State) (hu : ∀ p, c ≠ .fwUpdateStorm p) (hd : c ≠ .fwUpdateDone) : s.Edits (exec c s) := by
  cases c
  case fwUpdateStorm p => exact absurd rfl (hu p)
  case fwUpdateDone => exact absurd rfl hd
  case registerWrite m a n d => exact s.edits_mach _ fun x => edit_writeAll x m _ n _
  case bar2Access fn addr len data => exact s.edits_mach _ (edit_bar2Access fn addr len data)
  case windowBoundary ecc mean peak battMv busMv => exact s.edits_mach _ (edit_windowBoundary ecc mean peak battMv busMv)
  case tickBoundary => exact s.edits_mach _ edit_tickBoundary
  case guardPoint late => exact s.edits_mach _ (edit_guardPoint late)
  case mainsOkChange ok => exact s.edits_mach _ (edit_mainsOkAct ok)
  case battPresenceChange b => exact s.edits_mach _ fun x => edit_powerCheck { c := _, m := x.m }
  case battCutoff => exact s.edits_mach _ fun x => edit_powerCheck { c := _, m := x.m }
  case psuOvertemp => exact s.edits_mach _ fun x => edit_mainsOkAct false { c := _, m := x.m }
  case psuTempRecover ok => exact s.edits_mach _ (edit_psuTempRecover ok)
  case powerReset => exact s.edits_mach _ fun x => edit_hardReset x 0
  case pinReset => exact s.edits_mach _ fun x => edit_hardReset x 1
  case dieReset => exact s.edits_mach _ edit_dieReset
  case dieOvertemp => exact s.edits_mach _ edit_dieOvertemp
  case dieTempRecover => exact s.edits_mach _ edit_dieTempRecover
  case rootReturnHold => exact s.edits_mach _ edit_rootReturnHold
  case dieStrobeAbsent => exact s.edits_mach _ edit_dieStrobeAbsent
  case dramInitComplete => exact s.edits_mach _ edit_dramInitComplete
  case profileApply => exact s.edits_mach _ edit_profileApply
  case autoArmAttempt => exact s.edits_mach _ fun x => by rw [autoArmAttempt_m]; exact .refl _
  case armExecute => exact s.edits_mach _ fun x => by rw [armExecute_m]; exact .refl _
  case keeperThaw => exact s.edits_mach _ edit_keeperThaw
  case thaw m d => exact s.edits_mach _ fun x => edit_dramCtrl x m _
  case dramCommandSlot ch refresh banks ecc => exact s.edits_mach _ (edit_dramCommandSlot ch refresh banks ecc)
  case monitorRecordMove => exact s.edits_mach _ edit_monitorRecordMove
  case corrLoadGo m f b slot => exact s.edits_mach _ fun x => by rw [corrLoadGo_m]; exact .refl _
  case bankLoadComplete => exact s.edits_mach _ edit_bankLoadComplete
  case bulkFrameReceive link h part pct => exact s.edits_mach _ (edit_bulkFrameReceive link h part pct)
  case journalApply => exact s.edits_mach _ edit_journalApply
  case netLinkChange p up => exact s.edits_mach _ (edit_netLinkChange p up)
  case netCfgWrite p d => exact s.edits_mach _ (edit_netCfgWrite p _)
  case frameReceive p f i => exact s.edits_mach _ (edit_frameReceive p f i)
  case frameTxOpportunity p frags => exact s.edits_mach _ (edit_frameTxOpportunity p frags)
  case downlinkFrameSend l => exact s.edits_mach _ fun x => by rw [downlinkFrameSend_m]; exact .refl _
  case stormStoreCheck => exact s.edits_mach _ fun x => .refl x.m
  case stormArm m => exact s.edits_mach _ fun x => by rw [stormArm_m]; exact .refl _
  case stormProgrammeStep p => exact s.edits_mach _ fun x => by rw [stormProgrammeStep_m]; exact .refl _
  case sceneLoadDone => exact s.edits_mach _ edit_sceneLoadDone
  case programLoadDone => exact s.edits_mach _ edit_programLoadDone
  case seqRestart y => exact s.edits_mach _ (edit_seqRestart y)
  case post k rd ra => exact s.edits_mach _ (edit_seqPost k rd ra)
  case cpop k rd ra => exact s.edits_mach _ (edit_seqCpop k rd ra)
  case lbs k rd ra n => exact s.edits_mach _ (edit_seqLbs k rd ra n)
  case lbr k rd ra n => exact s.edits_mach _ (edit_seqLbr k rd ra n)
  case mixCutoff y => exact s.edits_mach _ (edit_mixCutoff y)
  case jobLimitAbort st => exact s.edits_mach _ (edit_jobLimitAbort st)
  case streamTransferEnd y ch fin => exact s.edits_mach _ (edit_streamTransferEnd y ch fin)
  case logRead p => exact s.edits_mach _ fun x => edit_keeper x p _ _ edit_logReadCmd
  case version p | status p => exact s.edits_keeper p _ _ fun _ _ => rfl
  case sessionClose p => exact s.edits_keeper p _ _ fun _ _ => rfl
  case arm p => exact s.edits_keeper p _ _ (armCmd_m p)
  case disarm p => exact s.edits_keeper p _ _ disarmCmd_m
  case sceneLoad p => exact s.edits_keeper p _ _ (sceneLoadCmd_m p)
  case sceneSwitch p => exact s.edits_keeper p _ _ fun y _ => sceneSwitch_m y _
  case programLoad p => exact s.edits_keeper p _ _ (programLoadCmd_m p)
  case planSet p => exact s.edits_keeper p _ _ planSetCmd_m
  case stormSet p => exact s.edits_keeper p _ _ stormSetCmd_m
  case alarmStart p => exact s.edits_keeper p _ _ alarmStartCmd_m
  case alarmStop p => exact s.edits_keeper p _ _ alarmStopCmd_m
  case budgetSet p => exact s.edits_keeper p _ _ budgetSetCmd_m
  case calRunLedger p costs windows => exact s.edits_keeper p _ _ (calLedgerCmd_m costs windows)
  case calRunLine p => exact s.edits_keeper p _ _ (calRunLineCmd_m p)
  case calRunStall p pass windows => exact s.edits_keeper p _ _ (calStallCmd_m pass windows)
  case fwUpdateKeeper p => exact s.edits_keeper p _ _ (fwUpdateKeeperCmd_m p)
  case latchBreak p => exact s.edits_keeper p _ _ latchBreakCmd_m
  case sessionOpen p => exact s.edits_keeper p _ _ (sessionOpenCmd_m p)
  case sessionAuth p => exact s.edits_keeper p _ _ (sessionAuthCmd_m p)
  case lw | lh | lhu | lb | lbu | flw => exact s.edits_seqLoad _ _ _ _ _
  case sw | sh | sb | fsw => exact s.edits_seqStore _ _ _ _ _
  case ld1 | ld4 | ldp => exact s.edits_slotLoad _ _ _
  case vmacC | vmsuC | vmulC | vmacS | vmulS | smac | smsu | smul | aclr | aadd | asub | paddi | padd | psub | pmov | pli | pshl |
      pshr | pand | setc | setci | mset | pst | st1 | st4 | mova | mova4 | sta | acc | movv | movp | movpv | loop | br | bz | bnz | acq |
      rel | strm | swait | setrrb | halt | nopBundle => exact s.edits_slot _ _
  all_goals exact s.edits_ctl _

/-- Every command runs a meaning on the module, and that keeps the canonical form. -/
theorem exec_eq_mach (c : Instr) (s : State) :
    ∃ f : Mach → Mach, exec c s = s.mach f ∧ ∀ x, x.m.wf = true → (f x).m.wf = true := by
  by_cases hu : ∃ p, c = .fwUpdateStorm p
  · obtain ⟨p, rfl⟩ := hu
    exact ⟨fwUpdateStorm p, rfl, fwUpdateStorm_form p⟩
  · by_cases hd : c = .fwUpdateDone
    · subst hd
      exact ⟨fwUpdateDone, rfl, fwUpdateDone_form⟩
    · obtain ⟨f, hf, he⟩ := exec_edits c s (fun p e => hu ⟨p, e⟩) hd
      exact ⟨f, hf, fun x => (he x).form⟩

theorem exec_memWf {c : Instr} {s t : State} (h : s.memWf = true) (e : exec c s = .next t) : t.memWf = true := by
  obtain ⟨f, hf, hk⟩ := exec_eq_mach c s
  rw [hf, State.mach_eq] at e
  cases e
  exact hk s.m.fresh h

/-- Settles O2: each command is a meaning run on the module, which leaves the queue alone. -/
theorem everyCommandCompletes : Obligations.EveryCommandCompletes := by
  intro c s
  obtain ⟨f, hf, -⟩ := exec_eq_mach c s
  exact ⟨_, hf, rfl⟩

/-- Settles O4: every command edits the memories by writes and wipes, and an idle step edits none. -/
theorem stepKeepsMemoryForm : Obligations.StepKeepsMemoryForm := by
  intro s t h e
  unfold step at e
  split at e
  · cases e
    exact h
  · next c rest _ => exact exec_memWf (s := { s with pending := rest }) h e

end Sys2Proof.Machine
end

section
/-! PROOFS. The host's window onto DRAM (R7, R352): serving a request where no chunk is known to be bad, the pieces of a write, and
the bytes of a read. -/
namespace Sys2Proof.Machine

/-! ## An update over a list -/

/-- A reading that no round of a list's updates changes is unchanged by them all. -/
theorem Ctl.each_keeps {α β : Type} (p : Ctl → β) (l : List α) (f : Ctl → α → Ctl) (h : ∀ c a, p (f c a) = p c) (c : Ctl) :
    p (c.each l f) = p c := by
  induction l generalizing c with
  | nil => rfl
  | cons a l ih => exact (ih (f c a)).trans (h c a)

/-! ## Serving a request where no chunk is known to be bad (R352, R361, R364) -/

@[simp] theorem Ctl.ledgShow_corr (c : Ctl) : c.ledgShow.corr = c.corr := by
  unfold Ctl.ledgShow
  extract_lets base c1
  refine (Ctl.each_keeps (·.corr) _ _ (fun c k => ?_) c1).trans ?_ <;> simp [c1]

@[simp] theorem Ctl.ledgShow_dram (c : Ctl) : c.ledgShow.dram = c.dram := by
  unfold Ctl.ledgShow
  extract_lets base c1
  refine (Ctl.each_keeps (·.dram) _ _ (fun c k => ?_) c1).trans ?_ <;> simp [c1]

/-- The fields that an exit from self-refresh changes (R364). -/
def wakeFields : List Reg :=
  [R.DRAM_SR_STAT_WAKES, R.DRAM_SR_WAIT, R.DRAM_STATUS_MODE, R.LEDG_COMMIT_T, R.LEDG_COMMIT_BUDGET, R.LEDG_ENV_ENV,
    R.LEDG_ENV_OBJ] ++ evtFields

/-- Self-refresh is left by a request alone (R364). -/
theorem Ctl.dramWake_of_ne (c : Ctl) (h : c.get R.DRAM_STATUS_MODE ≠ 2) : c.dramWake = c := by
  simp [Ctl.dramWake, h]

@[simp] theorem Ctl.dramWake_corr (c : Ctl) : c.dramWake.corr = c.corr := by
  unfold Ctl.dramWake
  split
  · rfl
  · simp [Ctl.inc, Ctl.free]

@[simp] theorem Ctl.dramWake_dram (c : Ctl) : c.dramWake.dram = c.dram := by
  unfold Ctl.dramWake
  split
  · rfl
  · simp [Ctl.inc, Ctl.free]

theorem Ctl.sameRegsBut_dramWake (c : Ctl) : c.sameRegsBut c.dramWake wakeFields := by
  unfold Ctl.dramWake
  split
  · exact c.sameRegsBut_refl _
  · refine Ctl.sameRegsBut_trans ?_ (Ctl.sameRegsBut_mono (Ctl.sameRegsBut_ledgShow _) (by simp [wakeFields]))
    refine Ctl.sameRegsBut_trans ?_ (Ctl.sameRegsBut_raise _ _ _ _ _ (fun f hf => by simp [wakeFields, hf]))
    iterate 3 refine Ctl.sameRegsBut_trans ?_ (Ctl.sameRegsBut_set _ _ _ _ _ (by simp [wakeFields]))
    exact Ctl.sameRegsBut_of_regs _ rfl

@[simp] theorem Ctl.dramActivate_corr (c : Ctl) (r : DramReq) : (c.dramActivate r).corr = c.corr := by
  unfold Ctl.dramActivate
  split
  · rfl
  · extract_lets k dram c1 p
    split <;> rfl

@[simp] theorem Ctl.dramActivate_bad (c : Ctl) (r : DramReq) : (c.dramActivate r).dram.bad = c.dram.bad := by
  unfold Ctl.dramActivate
  split
  · rfl
  · extract_lets k dram c1 p
    split <;> rfl

/-- An activate counts a refresh of neighbours and changes no other field (R361). -/
theorem Ctl.sameRegsBut_dramActivate (c : Ctl) (r : DramReq) : c.sameRegsBut (c.dramActivate r) [R.DRAM_PARA_COUNT] := by
  unfold Ctl.dramActivate
  split
  · exact c.sameRegsBut_refl _
  · extract_lets k dram c1 p
    have h : c.sameRegsBut p.2 [R.DRAM_PARA_COUNT] := Ctl.sameRegsBut_of_regs _ rfl
    split
    · exact Ctl.sameRegsBut_trans h (Ctl.sameRegsBut_set _ _ _ _ _ (by simp))
    · exact h

/-- With no chunk known to be bad, an access is served (R354). -/
theorem Ctl.dramTouch_of_good (c : Ctl) (req master cls : Nat) (w : Bool) (a n : Nat) (h : c.dram.bad = []) :
    c.dramTouch req master cls w a n = (c.dramWake, true) := by
  simp [Ctl.dramTouch, h]

/-- The fields that serving a request within another command can change. -/
def serveFields : List Reg := R.DRAM_PARA_COUNT :: wakeFields

/-- `c'` is `c` after requests were served: the known bad chunks are those of `c`, the fields outside the controller's own read
as in `c`, and where DRAM was awake only the count of neighbour refreshes differs. -/
structure Served (c c' : Ctl) : Prop where
  bad : c'.dram.bad = c.dram.bad
  regs : c.sameRegsBut c' serveFields
  awake : c.get R.DRAM_STATUS_MODE = 1 → c.sameRegsBut c' [R.DRAM_PARA_COUNT]

theorem Served.refl (c : Ctl) : Served c c := ⟨rfl, c.sameRegsBut_refl _, fun _ => c.sameRegsBut_refl _⟩

theorem Served.trans {a b c : Ctl} (h : Served a b) (k : Served b c) : Served a c := by
  refine ⟨k.bad.trans h.bad, Ctl.sameRegsBut_trans h.regs k.regs, fun hm => ?_⟩
  have hb : b.get R.DRAM_STATUS_MODE = 1 := (h.awake hm R.DRAM_STATUS_MODE 0 (by decide)).trans hm
  exact Ctl.sameRegsBut_trans (h.awake hm) (k.awake hb)

/-- A host write of a record changes only which feeds are spoiled (R112). -/
theorem served_spoil (c : Ctl) (a n : Nat) : Served c (c.spoil a n) := by
  unfold Ctl.spoil
  extract_lets l
  split
  · exact .refl c
  · exact ⟨rfl, fun _ _ _ => rfl, fun _ _ _ _ => rfl⟩

theorem served_dramWake (c : Ctl) : Served c c.dramWake :=
  ⟨by simp, Ctl.sameRegsBut_mono c.sameRegsBut_dramWake (fun _ hf => List.mem_cons_of_mem _ hf),
    fun hm => by rw [c.dramWake_of_ne (by omega)]; exact c.sameRegsBut_refl _⟩

theorem served_dramActivate (c : Ctl) (r : DramReq) : Served c (c.dramActivate r) :=
  ⟨by simp, Ctl.sameRegsBut_mono (c.sameRegsBut_dramActivate r) (by simp [serveFields]), fun _ => c.sameRegsBut_dramActivate r⟩

section
variable (c : Ctl) (r : DramReq) (h : c.dram.bad = [])
include h

/-- With no chunk known to be bad, a request within another command is served. -/
theorem Ctl.dramWithin_ok : (c.dramWithin r).2 = true := by
  simp [Ctl.dramWithin, c.dramTouch_of_good _ _ _ _ _ _ h]

theorem Ctl.dramWithin_corr : (c.dramWithin r).1.corr = c.corr := by
  simp [Ctl.dramWithin, c.dramTouch_of_good _ _ _ _ _ _ h]

theorem served_dramWithin : Served c (c.dramWithin r).1 := by
  have k := (served_dramWake c).trans (served_dramActivate c.dramWake r)
  simp only [Ctl.dramWithin, c.dramTouch_of_good _ _ _ _ _ _ h, Bool.not_true, Bool.false_eq_true, if_false]
  exact k.trans ⟨rfl, fun _ _ _ => rfl, fun _ _ _ _ => rfl⟩

end

/-! ## The host's writes (R7, R352) -/

/-- The memory after the pieces of a write are stored in order. -/
def Mem.wrPieces (m : Mem) : List (Nat × List Byte) → Mem
  | [] => m
  | (a, bs) :: l => (m.wrs a bs).wrPieces l

/-- A named byte goes to its own address, whichever piece carries it. -/
theorem Mem.wrPieces_cons_some (m : Mem) (a : Nat) (b : Byte) (l : List (Option Byte)) :
    m.wrPieces (bar2Pieces a (some b :: l)) = (m.wr a b).wrPieces (bar2Pieces (a + 1) l) := by
  rw [bar2Pieces]
  cases hp : bar2Pieces (a + 1) l with
  | nil => rfl
  | cons e t =>
    obtain ⟨o, bs⟩ := e
    by_cases ho : o = a + 1 ∧ o % 32 ≠ 0
    · simp [ho.1, ho.1 ▸ ho.2, Mem.wrPieces, Mem.wrs]
    · have hc : (o == a + 1 && o % 32 != 0) = false := by simpa using ho
      simp [hc, Mem.wrPieces, Mem.wrs]

/-- The pieces of a write leave every byte outside the run that is named. -/
theorem Mem.rd_wrPieces_of_outside (l : List (Option Byte)) (m : Mem) (a j : Nat) (h : j < a ∨ a + l.length ≤ j) :
    (m.wrPieces (bar2Pieces a l)).rd j = m.rd j := by
  induction l generalizing m a with
  | nil => rfl
  | cons e l ih =>
    simp only [List.length_cons] at h
    cases e with
    | none => exact ih m (a + 1) (by omega)
    | some b => rw [Mem.wrPieces_cons_some, ih _ _ (by omega), Mem.rd_wr_ne _ _ (by omega)]

/-- The pieces of a write put each byte that is given at its place and leave each place that is not. -/
theorem Mem.rd_wrPieces_inside (l : List (Option Byte)) (m : Mem) (a i : Nat) (o : Option Byte) (h : l[i]? = some o) :
    (m.wrPieces (bar2Pieces a l)).rd (a + i) = o.getD (m.rd (a + i)) := by
  induction l generalizing m a i with
  | nil => simp at h
  | cons e l ih =>
    cases i with
    | zero =>
      obtain rfl : e = o := by simpa using h
      cases e with
      | none => exact Mem.rd_wrPieces_of_outside l m (a + 1) a (by omega)
      | some b => rw [Mem.wrPieces_cons_some, Nat.add_zero, Mem.rd_wrPieces_of_outside _ _ _ _ (by omega)]; simp
    | succ i =>
      have h' : l[i]? = some o := by simpa using h
      have hi : a + (i + 1) = a + 1 + i := by omega
      cases e with
      | none => rw [hi]; exact ih m (a + 1) i h'
      | some b => rw [Mem.wrPieces_cons_some, hi, ih _ _ _ h', Mem.rd_wr_ne _ _ (by omega)]

/-- With no chunk known to be bad, every piece of a write is stored. -/
theorem bar2Write_of_good (ps : List (Nat × List Byte)) (x : Mach) (h : x.c.dram.bad = []) :
    (x.bar2Write ps).m = { x.m with dram := x.m.dram.wrPieces ps } ∧ Served x.c (x.bar2Write ps).c := by
  induction ps generalizing x with
  | nil => exact ⟨rfl, .refl _⟩
  | cons p ps ih =>
    obtain ⟨a, bs⟩ := p
    rw [Mach.bar2Write]
    have hs := (served_dramWithin x.c (hostReq x.c a bs.length bs true) h).trans (served_spoil _ a bs.length)
    simp only [x.c.dramWithin_ok _ h, if_true]
    obtain ⟨hm, hc⟩ := ih ⟨_, { x.m with dram := x.m.dram.wrs a bs }⟩ (hs.bad.trans h)
    exact ⟨hm, hs.trans hc⟩

/-! ## The host's reads (R7, R352) -/

/-- With no chunk known to be bad, every chunk of a read is served. -/
theorem bar2Check_of_good (ks : List Nat) (c : Ctl) (h : c.dram.bad = []) :
    (c.bar2Check ks).2 = true ∧ (c.bar2Check ks).1.corr = c.corr ∧ Served c (c.bar2Check ks).1 := by
  induction ks generalizing c with
  | nil => exact ⟨rfl, rfl, .refl _⟩
  | cons k ks ih =>
    rw [Ctl.bar2Check]
    have hs := served_dramWithin c (hostReq c (32 * k) 32 [] false) h
    rw [if_pos (c.dramWithin_ok _ h)]
    obtain ⟨hok, hcorr, hc⟩ := ih _ (hs.bad.trans h)
    exact ⟨hok, hcorr.trans (c.dramWithin_corr _ h), hs.trans hc⟩

section
variable {c c' : Ctl} (hc : c'.corr = c.corr) (hb : c'.get R.CORR_BANK_BASE = c.get R.CORR_BANK_BASE)
  (hf : c'.get R.CORR_FDL_BASE = c.get R.CORR_FDL_BASE)
include hc hf

theorem Ctl.historyByte_congr (a : Nat) : c'.historyByte a = c.historyByte a := by
  unfold Ctl.historyByte Ctl.base64k
  rw [hc, hf]

include hb

theorem Ctl.unstated_congr (a : Nat) : c'.unstated a = c.unstated a := by
  unfold Ctl.unstated Ctl.base64k
  rw [hc, hb, hf]

end

/-- Bytes that the spec states and that no feed's history holds are answered as they are stored. -/
theorem Ctl.dramOut_of_stated (c : Ctl) (m : Mem) (a n : Nat)
    (h : ∀ i < n, c.unstated (a + i) = false ∧ c.historyByte (a + i) = none) : c.dramOut m a n = (m.rds a n, c) := by
  have hu : (List.range n).any (fun i => c.unstated (a + i)) = false := by simp; exact fun i hi => (h i hi).1
  have hm : (m.rds a n).zipIdx.map (fun e => (c.historyByte (a + e.2)).getD e.1) = (m.rds a n).zipIdx.map (·.1) := by
    refine List.map_congr_left (fun e he => ?_)
    have hlt : e.2 < n := by simpa using List.snd_lt_of_mem_zipIdx he
    rw [(h e.2 hlt).2]
    rfl
  simp only [Ctl.dramOut, hu, Bool.false_eq_true, if_false, hm, List.zipIdx_map_fst]

/-! ## The window itself -/

/-- The bytes that a host access names. -/
def accessLen (len : Fin 513) (data : Option (List (Option Byte))) : Nat :=
  match data with | some l => l.length | none => len.val

theorem exec_bar2Access {fn : Fin 2} {addr : BitVec 40} {len : Fin 513} {data : Option (List (Option Byte))} {s : State}
    {y : Mach} (h : bar2Access fn addr len data s.m.fresh = y) : exec (.bar2Access fn addr len data) s = .next { s with m := y } := by
  rw [← h]; rfl

/-- Beyond the usable DRAM an access is a decode error of the requester's, and a read answers 0 (R7). -/
theorem bar2Access_beyond (fn : Fin 2) (addr : BitVec 40) (len : Fin 513) (data : Option (List (Option Byte))) (x : Mach)
    (h : x.c.usable < addr.toNat + accessLen len data) :
    ∃ m c, c = (x.c.mtxFault 2 m addr.toNat data.isSome 15).emit (.busResult 6) ∧
      bar2Access fn addr len data x = { x with c := if data.isSome then c else c.emit (.readData 0) } := by
  unfold bar2Access
  extract_lets m a n mode c
  exact ⟨m, c, rfl, if_pos h⟩

/-- Within the usable DRAM, an access before training and in the freeze ends with an error return and does nothing else. -/
theorem bar2Access_down (fn : Fin 2) (addr : BitVec 40) (len : Fin 513) (data : Option (List (Option Byte))) (x : Mach)
    (h : addr.toNat + accessLen len data ≤ x.c.usable) (hm : x.c.get R.DRAM_STATUS_MODE = 0 ∨ x.c.get R.DRAM_STATUS_MODE = 3) :
    bar2Access fn addr len data x = { x with c := x.c.emit (.busResult 16) } := by
  unfold bar2Access
  extract_lets m a n mode c
  have hn : ¬ x.c.usable < a + n := Nat.not_lt.2 h
  have hd : (decide (mode = 0) || decide (mode = 3)) = true := by simpa using hm
  rw [if_neg hn, if_pos hd]

section
variable (fn : Fin 2) (addr : BitVec 40) (len : Fin 513) (x : Mach) (h0 : x.c.get R.DRAM_STATUS_MODE ≠ 0)
  (h3 : x.c.get R.DRAM_STATUS_MODE ≠ 3)
include h0 h3

/-- Within the usable DRAM, a write while DRAM serves stores its pieces. -/
theorem bar2Access_write (l : List (Option Byte)) (h : addr.toNat + l.length ≤ x.c.usable) :
    bar2Access fn addr len (some l) x = x.bar2Write (bar2Pieces addr.toNat l) := by
  simp [bar2Access, Nat.not_lt.2 h, h0, h3]

/-- Within the usable DRAM, a read while DRAM serves, with no chunk known to be bad and of bytes that the spec states, answers
the bytes as they are stored. -/
theorem bar2Access_read (h : addr.toNat + len.val ≤ x.c.usable) (hbad : x.c.dram.bad = [])
    (hb : ∀ i < len.val, x.c.unstated (addr.toNat + i) = false ∧ x.c.historyByte (addr.toNat + i) = none) :
    ∃ c, Served x.c c ∧
      bar2Access fn addr len none x = { x with c := c.emit (.readData (x.m.dram.rdN addr.toNat len.val)) } := by
  obtain ⟨hok, hcorr, hs⟩ :=
    bar2Check_of_good ((List.range ((addr.toNat + len.val + 31) / 32 - addr.toNat / 32)).map (addr.toNat / 32 + ·)) x.c hbad
  have hbank := hs.regs R.CORR_BANK_BASE 0 (by decide)
  have hfdl := hs.regs R.CORR_FDL_BASE 0 (by decide)
  refine ⟨_, hs, ?_⟩
  have hout := Ctl.dramOut_of_stated _ x.m.dram addr.toNat len.val (fun i hi =>
    ⟨(Ctl.unstated_congr hcorr hbank hfdl _).trans (hb i hi).1, (Ctl.historyByte_congr hcorr hfdl _).trans (hb i hi).2⟩)
  simp [bar2Access, Nat.not_lt.2 h, h0, h3, hok, hout, Mem.rdN]

end

/-- What a bus error can change lies in the matrix's registers and those of the events. -/
theorem mtxFields_subset : ∀ f ∈ mtxFields ++ evtFields, f ∈ R.fieldsMTX ++ evtFields := by
  have h : ∀ f ∈ mtxFields, f ∈ R.fieldsMTX := by decide
  intro f hf
  rcases List.mem_append.1 hf with hf | hf
  · exact List.mem_append_left _ (h f hf)
  · exact List.mem_append_right _ hf

/-- Settles O8: a request within another command is served while no chunk is known to be bad, the pieces of a write put each
named byte at its own address, and a read answers the bytes that the spec states as they are stored. -/
theorem hostDramAccess : Obligations.HostDramAccess := by
  unfold Obligations.HostDramAccess
  intro s fn addr len l
  refine ⟨fun data h => ?_, fun h => ⟨fun hm => ?_, fun h0 h3 hbad => ?_⟩, fun h => ⟨fun hm => ?_, fun h0 h3 hbad hb => ?_⟩⟩
  · obtain ⟨m, c, hc, he⟩ := bar2Access_beyond fn addr len data s.m.fresh h
    have hf : s.m.c.sameRegsBut c (R.fieldsMTX ++ evtFields) := by
      rw [hc]
      exact Ctl.sameRegsBut_mono (Ctl.sameRegsBut_mtxFault s.m.fresh.c 2 m addr.toNat data.isSome 15) mtxFields_subset
    have h6 : Output.busResult 6 ∈ c.out := by simp [hc, Ctl.emit]
    refine ⟨_, exec_bar2Access he, ?_⟩
    cases data with
    | some d => exact ⟨h6, nofun, rfl, hf⟩
    | none => exact ⟨by simp [Ctl.emit, h6], fun _ => by simp [Ctl.emit], rfl, hf⟩
  · exact ⟨_, exec_bar2Access (bar2Access_down fn addr len (some l) s.m.fresh h hm), rfl, rfl, rfl⟩
  · obtain ⟨hmem, hs⟩ := bar2Write_of_good (bar2Pieces addr.toNat l) s.m.fresh hbad
    refine ⟨_, exec_bar2Access (bar2Access_write fn addr len s.m.fresh h0 h3 l h), ?_⟩
    simp only [hmem]
    exact ⟨fun i b hi => Mem.rd_wrPieces_inside l _ _ i _ hi, fun i hi => Mem.rd_wrPieces_inside l _ _ i _ hi,
      fun j hj => Mem.rd_wrPieces_of_outside l _ _ j hj, rfl, hs.awake⟩
  · exact ⟨_, exec_bar2Access (bar2Access_down fn addr len none s.m.fresh h hm), rfl, rfl, rfl⟩
  · obtain ⟨c, hs, he⟩ := bar2Access_read fn addr len s.m.fresh h0 h3 h hbad hb
    exact ⟨_, exec_bar2Access he, by simp [Ctl.emit], rfl, hs.awake⟩

end Sys2Proof.Machine
end

section
/-! PROOFS. Register and window writes (R5, R7, R8, R451 to R453): decoding of the address, the words, and the loft. -/
namespace Sys2Proof.Machine

/-! ## Where a write goes (R7, R8, R451 to R453) -/

theorem Mach.write_loft (x : Mach) (m : Master) {a : Nat} (n d : Nat) (h : inLoftWindow a = true) :
    x.write m a n d = x.loftWrite m a n d := by
  simp [Mach.write, h]

theorem Mach.write_outside (x : Mach) (m : Master) {a : Nat} (n d : Nat) (hl : inLoftWindow a = false)
    (h : inSeqWindow a = true ∨ unmapped a = true) : x.write m a n d = { x with c := x.c.decerr m a true } := by
  have ho : (inSeqWindow a || unmapped a) = true := by simpa using h
  simp [Mach.write, hl, ho]

section
variable (x : Mach) (m : Master) {a : Nat} (n d : Nat) (hl : inLoftWindow a = false) (hs : inSeqWindow a = false)
  (hu : unmapped a = false) (hx : ¬ (0x3F000 ≤ a ∧ a < 0x40000))
include hl hs hu hx

/-- A secure block turns away a master that R8 bars. -/
theorem Mach.write_denied (hc : writeClass a = .secure) (hm : x.c.secure m = false) :
    x.write m a n d = { x with c := x.c.denied m a } := by
  simp [Mach.write, hl, hs, hu, hx, hc, hm]

/-- An address that names no field changes nothing (R452). -/
theorem Mach.write_unnamed (hc : writeClass a ≠ .secure) (hn : named a = false) : x.write m a n d = x := by
  simp [Mach.write, hl, hs, hu, hx, hc, hn]

/-- A word of a block whose writes change the control state alone goes to its block. -/
theorem Mach.write_reg (hc : writeClass a ≠ .secure) (hn : named a = true) (hnet : ¬ (0x60000 ≤ a ∧ a < 0x70000))
    (hd : a ≠ 0x90000) (ht : a ≠ 0xE0000) (hr : a ≠ 0x240008) :
    x.write m a n d = { x with c := ((x.c.floorUse (x.c.mayUseFloor m)).writeReg m a d).floorUse false } := by
  have hnet' : (decide (0x60000 ≤ a) && decide (a < 0x70000) && decide (a % 0x4000 = 0)) = false := by
    simpa using fun h1 h2 => absurd ⟨h1, h2⟩ hnet
  simp [Mach.write, hl, hs, hu, hx, hc, hn, hnet', hd, ht, hr]

end

theorem Mach.writeAll_malformed (x : Mach) (m : Master) {a : Nat} {n : AccSize} (d : Nat) (h : formOk a n = false) :
    x.writeAll m a n d = { x with c := x.c.decerr m a true } := by
  simp [Mach.writeAll, h]

theorem Mach.writeAll_single (x : Mach) (m : Master) {a : Nat} {n : AccSize} (d : Nat) (h : formOk a n = true) (hn : n ≠ .double) :
    x.writeAll m a n d = x.write m a n.bytes (d % 2 ^ (8 * n.bytes)) := by
  simp [Mach.writeAll, h, splits, hn]

/-- A doubleword is two words, the lower first (R7). -/
theorem Mach.writeAll_double (x : Mach) (m : Master) {a : Nat} (d : Nat) (h : formOk a .double = true) :
    let y := (x.fresh.write m a 4 (d % 2 ^ 32)).write m (a + 4) 4 (d / 2 ^ 32)
    (x.writeAll m a .double d).m = y.m ∧ (x.writeAll m a .double d).c.regs = y.c.regs := by
  have hs : splits .double = true := rfl
  rw [Mach.writeAll, h, hs]
  exact ⟨rfl, rfl⟩

theorem exec_registerWrite {m : Master} {a : BitVec 32} {n : AccSize} {d : BitVec 64} {s : State} {y : Mach}
    (h : s.m.fresh.writeAll m a.toNat n d.toNat = y) : exec (.registerWrite m a n d) s = .next { s with m := y } := by
  rw [← h]; rfl

/-! ## Decode errors (R374) -/

/-- The fields that hold what the matrix captures of the first error. -/
def capFields : List Reg :=
  [R.MTX_CAP_ADDR_ADDR, R.MTX_CAP_INFO_MASTER, R.MTX_CAP_INFO_TARGET, R.MTX_CAP_INFO_WRITE, R.MTX_CAP_INFO_KIND, R.MTX_CAP_INFO_CLASS]

/-- A decode error sets its mark and counts, over a capture of the first one, and raises its event. -/
theorem Ctl.mtxFault_decode (c : Ctl) (m : Master) (a : Nat) (w : Bool) (t : Nat) :
    ∃ b, c.sameRegsBut b capFields ∧
      c.mtxFault 2 m a w t = ((b.set R.MTX_STATUS_DECERR_SEEN 1).inc R.MTX_DECERR_COUNT).raise Ev.MTX_DECERR m.num a := by
  refine ⟨_, ?_, rfl⟩
  refine Ctl.sameRegsBut_when _ _ _ _ ?_
  iterate 5 refine Ctl.sameRegsBut_trans ?_ (Ctl.sameRegsBut_set _ _ _ _ _ (by simp [capFields]))
  exact Ctl.sameRegsBut_set _ _ _ _ _ (by simp [capFields])

theorem Ctl.get_decerr_seen (c : Ctl) (m : Master) (a : Nat) (w : Bool) :
    (c.decerr m a w).get R.MTX_STATUS_DECERR_SEEN = 1 := by
  obtain ⟨b, -, he⟩ := c.mtxFault_decode m a w (targetOf a)
  rw [Ctl.decerr, Ctl.get_emit, he, Ctl.get_raise _ _ _ _ _ _ (by decide), Ctl.inc, Ctl.get_set_ne _ _ _ _ _ _ (by decide)]
  exact Ctl.get_set_self _ _ _ _

theorem Ctl.get_decerr_count (c : Ctl) (m : Master) (a : Nat) (w : Bool) :
    (c.decerr m a w).get R.MTX_DECERR_COUNT = (c.get R.MTX_DECERR_COUNT + 1) % 2 ^ 32 := by
  obtain ⟨b, hb, he⟩ := c.mtxFault_decode m a w (targetOf a)
  rw [Ctl.decerr, Ctl.get_emit, he, Ctl.get_raise _ _ _ _ _ _ (by decide), Ctl.inc, Ctl.get_set_self,
    Ctl.get_set_ne _ _ _ _ _ _ (by decide), hb _ _ (by decide)]
  rfl

/-! ## The words of the event controller and the matrix that the statement names -/

/-- A field that no row of the ranges names, and that is no coordinate, takes every value. -/
theorem rangeOk_of_unlisted (r : Reg) (v : Nat) (hrow : rangeRows.all (fun row => row.reg.id != r.id) = true)
    (hc : isCoord r = false) (hs : r.id ≠ R.CORR_STI_CTRL_SPAN.id) (hm : r.id ≠ R.CORR_ZONE_MIC_CAL.id) : rangeOk r v = true := by
  have hall : rangeRows.all (fun row => row.reg.id != r.id ||
      (let z : Int := if row.signed then sx r.width v else v; decide (row.lo ≤ z ∧ z ≤ row.hi))) = true := by
    rw [List.all_eq_true] at hrow ⊢
    intro row hr
    rw [hrow row hr]
    rfl
  have hs' : (r.id != R.CORR_STI_CTRL_SPAN.id) = true := bne_iff_ne.2 hs
  have hm' : (r.id != R.CORR_ZONE_MIC_CAL.id) = true := bne_iff_ne.2 hm
  rw [rangeOk, hall, hc, hs', hm']
  rfl

theorem fieldsAt_srcEn : ∀ g : Fin 24, fieldsAt (0x30080 + 4 * (g : Nat)) = [(R.EVT_SRC_EN, g.val)] := by decide +kernel

theorem fieldsAt_mtxStatus : fieldsAt 0xA0000 =
    [(R.MTX_STATUS_SLICES, 0), (R.MTX_STATUS_LAST, 0), (R.MTX_STATUS_ERR_STATE, 0), (R.MTX_STATUS_DECERR_SEEN, 0),
      (R.MTX_STATUS_DENIED_SEEN, 0), (R.MTX_STATUS_TIMEOUT_SEEN, 0)] := by decide +kernel

theorem rangeOk_srcEn (v : Nat) : rangeOk R.EVT_SRC_EN v = true :=
  rangeOk_of_unlisted _ v (by decide) (by decide) (by decide) (by decide)

/-- A field that is no coordinate stores what is written, but for the two that the storing adjusts. -/
theorem storeVal_of_plain (r : Reg) (v : Nat) (hc : isCoord r = false) (hw : r.id ≠ R.WIN_GUARD_CYCLES.id)
    (hf : r.id ≠ R.FIRE_K1_MASK.id) : storeVal r v = v := by
  simp [storeVal, hc, hw, hf]

theorem storeVal_srcEn (v : Nat) : storeVal R.EVT_SRC_EN v = v :=
  storeVal_of_plain _ v (by decide) (by decide) (by decide)

/-- A write of an enable word stores its bits and brings the pending groups and classes up to date (R411, R412). -/
theorem Ctl.writeReg_srcEn (c : Ctl) (m : Master) (g : Fin 24) (d : Nat) :
    c.writeReg m (0x30080 + 4 * (g : Nat)) d = (c.set R.EVT_SRC_EN (d % 2 ^ 8) g.val).evtUpdate := by
  have hg := g.isLt
  have ho : 0x30080 + 4 * (g : Nat) - 0x30000 = 0x80 + 4 * (g : Nat) := by omega
  have ha : 0x30000 + (0x80 + 4 * (g : Nat)) = 0x30080 + 4 * (g : Nat) := by omega
  have hr : rangeAt (0x30080 + 4 * (g : Nat)) d = true := by simp [rangeAt, fieldsAt_srcEn, rangeOk_srcEn]
  have hst : c.storeAt (0x30080 + 4 * (g : Nat)) d = c.set R.EVT_SRC_EN (d % 2 ^ 8) g.val := by
    simp only [Ctl.storeAt, fieldsAt_srcEn, Ctl.each, List.foldl_cons, List.foldl_nil, storeVal_srcEn]
    rfl
  have hw : c.writeReg m (0x30080 + 4 * (g : Nat)) d = c.evtWrite (0x80 + 4 * (g : Nat)) d := by
    rw [Ctl.writeReg, if_neg (by omega), if_neg (by omega), if_neg (by omega), if_pos (by omega), ho]
  rw [hw, Ctl.evtWrite, if_neg (by omega), if_neg (by omega), if_neg (by omega), if_neg (by simp; omega), if_neg (by omega), ha,
    Ctl.plain, if_pos hr, hst]
  rfl

/-- The marks of the matrix's status, which clear by ones (R382). -/
def mtxMarks : List Reg :=
  [R.MTX_STATUS_ERR_STATE, R.MTX_STATUS_DECERR_SEEN, R.MTX_STATUS_DENIED_SEEN, R.MTX_STATUS_TIMEOUT_SEEN]

/-- A mark takes the ones of a word away. -/
def Ctl.clearMark (d : Nat) (c : Ctl) (r : Reg) : Ctl := c.set r (andNot r.width (c.get r) (r.of d))

/-- A write of the matrix's status clears the marks that it names (R5, R382). -/
theorem Ctl.writeReg_mtxStatus (c : Ctl) (m : Master) (d : Nat) : c.writeReg m 0xA0000 d = c.each mtxMarks (clearMark d) := by
  have hw : c.writeReg m 0xA0000 d = c.storeAt 0xA0000 d := by simp [Ctl.writeReg, Ctl.mtxWrite]
  rw [hw, Ctl.storeAt, fieldsAt_mtxStatus]
  rfl

/-- A one-bit mark that clears by ones stands when it stood and the write's bit is 0. -/
theorem andNot_bit (n d i : Nat) : (andNot 1 n (d >>> i % 2 ^ 1) % 2 ^ 1 != 0) = (n % 2 == 1 && !d.testBit i) := by
  rw [Nat.testBit_eq_decide_div_mod_eq, ← Nat.shiftRight_eq_div_pow]
  rcases Nat.mod_two_eq_zero_or_one (d >>> i) with h | h <;> rcases Nat.mod_two_eq_zero_or_one n with k | k <;>
    simp [andNot, h, k]

/-! ## The loft (R453) -/

theorem Ctl.spoilObj_regs (c : Ctl) (m : Master) (o : Nat) : (c.spoilObj m o).regs = c.regs := by
  unfold Ctl.spoilObj
  split
  · rfl
  · split <;> rfl

/-- A write to a loft with no poisoned word stores its bytes and changes no register. -/
theorem Mach.loftWrite_of_clean (x : Mach) (m : Master) (a n d : Nat) (h : x.c.fabr.loftPoison = []) :
    (x.loftWrite m a n d).c.regs = x.c.regs ∧
      (x.loftWrite m a n d).m = { x.m with loft := x.m.loft.wrN (a - 0x1000000) n d } := by
  have hp : (x.c.spoilObj m (a - 0x1000000)).fabr.loftPoison = [] := by
    unfold Ctl.spoilObj
    split
    · exact h
    · split <;> exact h
  simp [Mach.loftWrite, hp, Ctl.spoilObj_regs]

/-! ## The statement -/

/-- A malformed access is a decode error and nothing else (R7). -/
theorem registerWrite_malformed (x : Mach) (m : Master) {a : Nat} {n : AccSize} (d : Nat) (h : formOk a n = false) :
    let y := x.writeAll m a n d
    .busResult 6 ∈ y.c.out ∧ y.m = x.m ∧ y.c.get R.MTX_STATUS_DECERR_SEEN = 1 ∧
      y.c.get R.MTX_DECERR_COUNT = (x.c.get R.MTX_DECERR_COUNT + 1) % 2 ^ 32 ∧ x.c.sameRegsBut y.c (R.fieldsMTX ++ evtFields) := by
  rw [Mach.writeAll_malformed x m d h]
  exact ⟨by simp [Ctl.decerr, Ctl.emit], rfl, Ctl.get_decerr_seen .., Ctl.get_decerr_count ..,
    Ctl.sameRegsBut_mono (x.c.sameRegsBut_decerr m a true) mtxFields_subset⟩

/-- A word written at an address of a block whose writes change the control state alone. -/
theorem writeAll_reg (x : Mach) (m : Master) {a : Nat} (d : Nat) (hf : a % 4 = 0) (ha : a < 0x3F000 ∨ 0xA0000 ≤ a ∧ a < 0xE0000)
    (hc : writeClass a ≠ .secure) (hn : named a = true) :
    x.writeAll m a .word d =
      { x with c := ((x.c.floorUse (x.c.mayUseFloor m)).writeReg m a (d % 2 ^ 32)).floorUse false } := by
  have hform : formOk a .word = true := by simp [formOk, AccSize.bytes, hf]
  rw [Mach.writeAll_single x m d hform (by decide)]
  exact Mach.write_reg x m 4 (d % 2 ^ 32) (by simp [inLoftWindow]; omega) (by simp [inSeqWindow]; omega)
    (by simp [unmapped]; omega) (by omega) hc hn (by omega) (by omega) (by omega) (by omega)

/-- The enables of a group of sources take the bits written, and only events can follow (R411). -/
theorem registerWrite_srcEn (x : Mach) (m : Master) (g : Fin 24) (d : Nat) :
    let y := x.writeAll m (0x30080 + 4 * (g : Nat)) .word d
    y.c.get R.EVT_SRC_EN g = d % 2 ^ 8 ∧ (∀ j, j ≠ g.val → y.c.get R.EVT_SRC_EN j = x.c.get R.EVT_SRC_EN j) ∧ y.m = x.m ∧
      x.c.sameRegsBut y.c (R.EVT_SRC_EN :: evtFields) := by
  have hg := g.isLt
  have hc : ∀ g : Fin 24, writeClass (0x30080 + 4 * (g : Nat)) ≠ .secure := by decide
  have hn : named (0x30080 + 4 * (g : Nat)) = true := by simp [named, fieldsAt_srcEn]
  rw [writeAll_reg x m d (by omega) (by omega) (hc g) hn, Ctl.writeReg_srcEn]
  extract_lets y
  have he : ∀ j, y.c.get R.EVT_SRC_EN j = (x.c.set R.EVT_SRC_EN (d % 2 ^ 32 % 2 ^ 8) g.val).get R.EVT_SRC_EN j :=
    fun j => (evtOnly_evtUpdate _).regs R.EVT_SRC_EN j (by decide)
  refine ⟨?_, fun j hj => ?_, rfl, ?_⟩
  · rw [he, Ctl.get_set_self]
    change d % 2 ^ 32 % 2 ^ 8 % 2 ^ 8 = d % 2 ^ 8
    omega
  · rw [he, Ctl.get_set_ne _ _ _ _ _ _ (.inr hj.symm)]
  · have h1 : x.c.sameRegsBut (x.c.set R.EVT_SRC_EN (d % 2 ^ 32 % 2 ^ 8) g.val) (R.EVT_SRC_EN :: evtFields) :=
      Ctl.sameRegsBut_set _ _ _ _ _ (by simp)
    have h2 := fun r i (hr : ∀ f ∈ R.EVT_SRC_EN :: evtFields, f.id ≠ r.id) =>
      (evtOnly_evtUpdate ((x.c.floorUse (x.c.mayUseFloor m)).set R.EVT_SRC_EN (d % 2 ^ 32 % 2 ^ 8) g.val)).regs r i
        (fun f hf => hr f (List.mem_cons_of_mem _ hf))
    exact fun r i hr => (h2 r i hr).trans (h1 r i hr)

/-- The mark of a denied access is cleared by a 1, and the write changes nothing outside the matrix (R5, R382). -/
theorem registerWrite_mtxStatus (x : Mach) (m : Master) (d : Nat) :
    let y := x.writeAll m 0xA0000 .word d
    y.c.is R.MTX_STATUS_DENIED_SEEN = (x.c.get R.MTX_STATUS_DENIED_SEEN % 2 == 1 && !d.testBit 14) ∧ y.m = x.m ∧
      x.c.sameRegsBut y.c R.fieldsMTX := by
  have hn : named 0xA0000 = true := by simp [named, fieldsAt_mtxStatus]
  rw [writeAll_reg x m d (by omega) (by omega) (by decide) hn, Ctl.writeReg_mtxStatus]
  refine ⟨?_, rfl, ?_⟩
  · have hb : (d % 2 ^ 32).testBit 14 = d.testBit 14 := by rw [Nat.testBit_mod_two_pow]; simp
    rw [← hb, ← andNot_bit]
    change (Ctl.get (Ctl.clearMark _ (Ctl.clearMark _ (Ctl.clearMark _ (Ctl.clearMark _ x.c _) _) _) _) R.MTX_STATUS_DENIED_SEEN != 0) = _
    rw [Ctl.clearMark, Ctl.get_set_ne _ _ _ _ _ _ (by decide), Ctl.clearMark, Ctl.get_set_self, Ctl.clearMark,
      Ctl.get_set_ne _ _ _ _ _ _ (by decide), Ctl.clearMark, Ctl.get_set_ne _ _ _ _ _ _ (by decide)]
    rfl
  · have hm : ∀ r ∈ mtxMarks, r ∈ R.fieldsMTX := by decide
    exact Ctl.sameRegsBut_each mtxMarks (Ctl.clearMark (d % 2 ^ 32)) _ (fun c r hr => Ctl.sameRegsBut_set c _ _ _ _ (hm r hr))
      (x.c.floorUse (x.c.mayUseFloor m))

/-- Settles O7: a write goes where its address leads, one lemma for each of the ways, and the two named words store by access
type. -/
theorem registerWrites : Obligations.RegisterWrites := by
  unfold Obligations.RegisterWrites
  intro s m a n d
  refine ⟨⟨_, exec_registerWrite rfl⟩, fun h => ?_, fun hn hf hl hs hu hx => ?_, fun hn hf h => ?_, fun hn hf => ?_,
    fun hn hf hl hp => ?_, fun g ha hn => ?_, fun ha hn => ?_⟩
  · exact ⟨_, exec_registerWrite rfl, registerWrite_malformed s.m.fresh m d.toNat h⟩
  · subst hn
    have hw := Mach.writeAll_single s.m.fresh m d.toNat hf (by decide)
    exact ⟨fun hc hm => exec_registerWrite (hw.trans (Mach.write_denied _ m _ _ hl hs hu hx hc hm)),
      fun hc hn => exec_registerWrite (hw.trans (Mach.write_unnamed _ m _ _ hl hs hu hx hc hn))⟩
  · subst hn
    have hl : inLoftWindow a.toNat = false := by
      rcases h with h | h <;> simp [inLoftWindow, inSeqWindow, unmapped] at h ⊢ <;> omega
    exact exec_registerWrite ((Mach.writeAll_single s.m.fresh m d.toNat hf (by decide)).trans (Mach.write_outside _ m _ _ hl h))
  · subst hn
    obtain ⟨hm, hr⟩ := Mach.writeAll_double s.m.fresh m d.toNat hf
    exact ⟨_, _, exec_registerWrite rfl, rfl, hm, hr⟩
  · have hw := (Mach.writeAll_single s.m.fresh m d.toNat hf hn).trans (Mach.write_loft _ m _ _ hl)
    exact ⟨_, exec_registerWrite hw, Mach.loftWrite_of_clean s.m.fresh m a.toNat _ _ hp⟩
  · subst hn
    have h := registerWrite_srcEn s.m.fresh m g d.toNat
    rw [← ha] at h
    exact ⟨_, exec_registerWrite rfl, h⟩
  · subst hn
    have h := registerWrite_mtxStatus s.m.fresh m d.toNat
    rw [← ha] at h
    exact ⟨_, exec_registerWrite rfl, h⟩

end Sys2Proof.Machine
end

section
/-! PROOFS. The power ledger's inputs, allowances, limits and costs (R8, R33, R34, R39, R53). -/
namespace Sys2Proof.Machine

/-! ## Single bits -/

theorem bit_eq_testBit (n b : Nat) : bit n b = n.testBit b := by
  rw [Nat.testBit_eq_decide_div_mod_eq, bit, Bool.beq_eq_decide_eq]

theorem bit_mod (n b w : Nat) (h : b < w) : bit (n % 2 ^ w) b = bit n b := by
  simp [bit_eq_testBit, Nat.testBit_mod_two_pow, h]

/-- A number whose bit `b` is set is that power of two and the rest. -/
theorem two_pow_add_of_bit {n b : Nat} (h : bit n b = true) : 2 ^ b + (n - 2 ^ b) = n :=
  Nat.add_sub_of_le (Nat.ge_two_pow_of_testBit (bit_eq_testBit n b ▸ h))

/-- A bit put reads as it was put. -/
@[simp] theorem bit_putBit_self (n b : Nat) (v : Bool) : bit (putBit n b v) b = v := by
  cases v with
  | true =>
    by_cases h : bit n b
    · simp [putBit, setBit, h]
    · have hn : n.testBit b = false := by simpa [bit_eq_testBit] using h
      simp [putBit, setBit, h, bit_eq_testBit, Nat.add_comm n, Nat.testBit_two_pow_add_eq, hn]
  | false =>
    by_cases h : bit n b
    · have hn := Nat.testBit_two_pow_add_eq (n - 2 ^ b) b
      rw [two_pow_add_of_bit h, ← bit_eq_testBit, h] at hn
      simpa [putBit, clrBit, h, bit_eq_testBit] using hn
    · simp [putBit, clrBit, h]

/-- Putting a bit leaves the lower ones. -/
theorem bit_putBit_of_lt (n : Nat) {b j : Nat} (v : Bool) (h : j < b) : bit (putBit n b v) j = bit n j := by
  by_cases hb : bit n b
  · have hn := Nat.testBit_two_pow_add_gt h (n - 2 ^ b)
    rw [two_pow_add_of_bit hb] at hn
    cases v <;> simp [putBit, setBit, clrBit, hb, bit_eq_testBit, hn]
  · cases v <;> simp [putBit, setBit, clrBit, hb, bit_eq_testBit, Nat.add_comm n, Nat.testBit_two_pow_add_gt h]

/-! ## What an event does to FIRE_FAULT (R221, R412) -/

theorem Ctl.msix_regs (c : Ctl) (fn vec : Nat) : (c.msix fn vec).regs = c.regs := by
  unfold Ctl.msix
  extract_lets f v g
  repeat' split
  all_goals rfl

theorem Ctl.signalClass_regs (c : Ctl) (k : Nat) : (c.signalClass k).regs = c.regs := by
  have hw : ∀ (c : Ctl) (p : Bool) (fn vec : Nat), (c.when p (·.msix fn vec)).regs = c.regs := by
    intro c p fn vec
    cases p
    · rfl
    · exact c.msix_regs fn vec
  rw [Ctl.signalClass, hw, hw]

/-- The fields of the event controller: those that an event may change, but for FIRE_FAULT. -/
def evtOwn : List Reg :=
  [R.EVT_SRC_PEND, R.EVT_GRP_PEND, R.EVT_CLASS_PEND, R.EVT_REC_STAT_DEPTH, R.EVT_REC_STAT_HI_SEEN, R.EVT_REC_STAT_LO_SEEN,
    R.EVT_REC_STAT_LOST]

theorem Ctl.sameRegsBut_evtQueue (c : Ctl) (q : List EvRec) : c.sameRegsBut (c.evtQueue q).1 evtOwn := by
  unfold Ctl.evtQueue
  refine Ctl.sameRegsBut_trans ?_ (Ctl.sameRegsBut_when _ _ _ _ (Ctl.sameRegsBut_set _ _ _ _ _ (by simp [evtOwn])))
  refine Ctl.sameRegsBut_trans ?_ (Ctl.sameRegsBut_when _ _ _ _ (Ctl.sameRegsBut_set _ _ _ _ _ (by simp [evtOwn])))
  refine Ctl.sameRegsBut_trans ?_ (Ctl.sameRegsBut_set _ _ _ _ _ (by simp [evtOwn]))
  exact Ctl.sameRegsBut_of_regs _ rfl

theorem Ctl.sameRegsBut_pushRec (c : Ctl) (e : EvRec) : c.sameRegsBut (c.pushRec e).1 evtOwn := by
  unfold Ctl.pushRec
  extract_lets logged c1 q c2
  have h : c.sameRegsBut c1 evtOwn := Ctl.sameRegsBut_when _ _ _ _ (Ctl.sameRegsBut_of_regs _ rfl)
  split
  · exact Ctl.sameRegsBut_trans h (Ctl.sameRegsBut_evtQueue _ _)
  · refine Ctl.sameRegsBut_trans h (Ctl.sameRegsBut_trans ?_ (Ctl.sameRegsBut_evtQueue _ _))
    exact Ctl.sameRegsBut_set _ _ _ _ _ (by simp [evtOwn])

theorem Ctl.sameRegsBut_setPend (c : Ctl) (src : Nat) : c.sameRegsBut (c.setPend src) evtOwn :=
  Ctl.sameRegsBut_set _ _ _ _ _ (by simp [evtOwn])

/-- The host's bit is bit 9 of FIRE_FAULT; the update of the classes leaves the lower ones. -/
theorem Ctl.bit_fault_evtUpdate (c : Ctl) {j : Nat} (h : j < 9) :
    bit (c.evtUpdate.get R.FIRE_FAULT) j = bit (c.get R.FIRE_FAULT) j := by
  unfold Ctl.evtUpdate
  extract_lets was g k c1 c2
  have h1 : c1.get R.FIRE_FAULT = c.get R.FIRE_FAULT := by
    simp only [c1]
    rw [Ctl.get_set_ne _ _ _ _ _ _ (by decide), Ctl.get_set_ne _ _ _ _ _ _ (by decide)]
  have h2 : c2.get R.FIRE_FAULT = c1.get R.FIRE_FAULT :=
    Ctl.each_keeps (·.get R.FIRE_FAULT) _ Ctl.signalClass (fun c k => congrArg (·.get R.FIRE_FAULT 0) (c.signalClass_regs k)) c1
  rw [Ctl.get_set_self, bit_mod _ _ _ (show j < R.FIRE_FAULT.width from Nat.lt_succ_of_lt h), bit_putBit_of_lt _ _ h, h2, h1]

theorem Ctl.bit_fault_deliver (c : Ctl) (e : EvRec) {j : Nat} (h : j < 9) :
    bit ((c.deliver e).get R.FIRE_FAULT) j = bit (c.get R.FIRE_FAULT) j := by
  have hp : ∀ (c : Ctl) (e : EvRec) (src : Nat), ((c.pushRec e).1.setPend src).get R.FIRE_FAULT = c.get R.FIRE_FAULT := fun c e src =>
    Ctl.sameRegsBut_trans (c.sameRegsBut_pushRec e) (Ctl.sameRegsBut_setPend _ src) R.FIRE_FAULT 0 (by decide)
  unfold Ctl.deliver
  extract_lets p c1 m c2
  rw [Ctl.bit_fault_evtUpdate _ h]
  have h2 : c2.get R.FIRE_FAULT = c.get R.FIRE_FAULT := by
    simp only [c2]
    split
    · exact (hp _ _ _).trans (hp c e e.source)
    · exact hp c e e.source
  rw [h2]

/-- An event leaves every bit of FIRE_FAULT but the host's. -/
theorem Ctl.bit_fault_raise (c : Ctl) (src info detail : Nat) {j : Nat} (h : j < 9) :
    bit ((c.raise src info detail).get R.FIRE_FAULT) j = bit (c.get R.FIRE_FAULT) j := by
  unfold Ctl.raise
  extract_lets m c1 e q
  split
  · rfl
  · split
    · split <;> rfl
    · exact Ctl.bit_fault_deliver m.2 m.1 h

/-- Bit 4 of FIRE_FAULT shows BATT_LOW (R221). -/
theorem Ctl.bit_fault_battLow (c : Ctl) : bit (c.faults.get R.FIRE_FAULT) 4 = c.is R.LEDG_STATUS_BATT_LOW := by
  unfold Ctl.faults
  rw [Ctl.get_set_self, bit_mod _ _ _ (by decide)]
  iterate 5 rw [bit_putBit_of_lt _ _ (by decide)]
  rw [bit_putBit_self]

/-! ## Supply inputs (R33, R34, R437, R470) -/

/-- A module that the mains or the battery carries goes on. -/
theorem Mach.powerCheck_carried (x : Mach) (h : x.c.ledg.mainsOk = true ∨ (x.c.ledg.battPresent = true ∧ x.c.ledg.battOpen = false)) :
    x.powerCheck = x := by
  rcases h with h | ⟨hp, ho⟩
  · simp [Mach.powerCheck, h]
  · simp [Mach.powerCheck, hp, ho]

/-- One that neither carries loses power. -/
theorem Mach.powerCheck_lost (x : Mach) (hm : x.c.ledg.mainsOk = false)
    (h : x.c.ledg.battPresent = false ∨ x.c.ledg.battOpen = true) : x.powerCheck = x.hardReset 0 := by
  rcases h with h | h <;> simp [Mach.powerCheck, hm, h]

/-- SUPPLY in terms of the inputs: 1 for the mains, 2 for the battery (R33). -/
def supplyCode (mains batt : Bool) : Nat := (if mains then 1 else 0) + (if batt then 2 else 0)

theorem Ctl.get_showSupply (c : Ctl) : c.showSupply.get R.LEDG_STATUS_SUPPLY = supplyCode c.ledg.mainsOk c.ledg.battPresent := by
  rw [Ctl.showSupply, Ctl.get_set_self]
  by_cases hm : c.ledg.mainsOk <;> by_cases hb : c.ledg.battPresent <;> simp [hm, hb, supplyCode, R.LEDG_STATUS_SUPPLY]

theorem Ctl.sameRegsBut_showSupply (c : Ctl) : c.sameRegsBut c.showSupply [R.LEDG_STATUS_SUPPLY] :=
  Ctl.sameRegsBut_set _ _ _ _ _ (by simp)

@[simp] theorem Ctl.showSupply_ledg (c : Ctl) : c.showSupply.ledg = c.ledg := rfl

theorem mainsChange_same (ok : Bool) (c : Ctl) (h : ok = c.ledg.mainsOk ∨ (ok = true ∧ c.boot.psuHot = true)) : mainsChange ok c = c := by
  rcases h with h | ⟨rfl, h⟩ <;> simp [mainsChange, h]

/-- A change of MAINS_OK is taken in, shown and raised, with the budget that it brings into force. -/
theorem mainsChange_diff (ok : Bool) (c : Ctl) (h : ok ≠ c.ledg.mainsOk) (hot : ok = true → c.boot.psuHot = false) :
    (mainsChange ok c).ledg = { c.ledg with mainsOk := ok, mainsRun := 0, battSeen := false } ∧
      (mainsChange ok c).get R.LEDG_STATUS_SUPPLY_SEEN = 1 ∧
      (mainsChange ok c).get R.LEDG_STATUS_SUPPLY = supplyCode ok c.ledg.battPresent ∧
      c.sameRegsBut (mainsChange ok c) ([R.LEDG_STATUS_SUPPLY, R.LEDG_STATUS_SUPPLY_SEEN, R.LEDG_COMMIT_BUDGET] ++ evtFields) := by
  have hc : ¬ ((ok == c.ledg.mainsOk || (ok && c.boot.psuHot)) = true) := by
    cases ok <;> simp_all
  rw [mainsChange, if_neg hc]
  extract_lets l c1
  refine ⟨?_, ?_, ?_, ?_⟩
  · simp [c1, l]
  · rw [Ctl.get_raise _ _ _ _ _ _ (by decide), Ctl.get_set_ne _ _ _ _ _ _ (by decide), Ctl.get_set_self]
    rfl
  · rw [Ctl.get_raise _ _ _ _ _ _ (by decide), Ctl.get_set_ne _ _ _ _ _ _ (by decide), Ctl.get_set_ne _ _ _ _ _ _ (by decide),
      Ctl.get_showSupply]
  · refine Ctl.sameRegsBut_trans ?_ (Ctl.sameRegsBut_raise _ _ _ _ _ (fun f hf => by simp [hf]))
    refine Ctl.sameRegsBut_trans ?_ (Ctl.sameRegsBut_set _ _ _ _ _ (by simp))
    refine Ctl.sameRegsBut_trans ?_ (Ctl.sameRegsBut_set _ _ _ _ _ (by simp))
    exact Ctl.sameRegsBut_trans (b := c1) (Ctl.sameRegsBut_of_regs _ rfl) (Ctl.sameRegsBut_mono (Ctl.sameRegsBut_showSupply c1) (by simp))

/-- A battery that comes or goes is taken in, shown and raised. -/
theorem battPresence_diff (present : Bool) (c : Ctl) (h : present ≠ c.ledg.battPresent) :
    (battPresence present c).ledg = { c.ledg with battPresent := present } ∧
      (battPresence present c).get R.LEDG_STATUS_SUPPLY = supplyCode c.ledg.mainsOk present ∧
      c.sameRegsBut (battPresence present c) (R.LEDG_STATUS_SUPPLY :: evtFields) := by
  have hc : ¬ ((present == c.ledg.battPresent) = true) := by simpa using h
  rw [battPresence, if_neg hc]
  refine ⟨by simp, ?_, ?_⟩
  · rw [Ctl.get_raise _ _ _ _ _ _ (by decide), Ctl.get_showSupply]
  · refine Ctl.sameRegsBut_trans ?_ (Ctl.sameRegsBut_raise _ _ _ _ _ (fun f hf => by simp [hf]))
    refine Ctl.sameRegsBut_trans (b := { c with ledg := { c.ledg with battPresent := present } }) (Ctl.sameRegsBut_of_regs _ rfl) ?_
    exact Ctl.sameRegsBut_mono (Ctl.sameRegsBut_showSupply _) (by simp)

/-- BATT_LOW put at a truth value: the field and bit 4 of FIRE_FAULT show it, and its event is raised (R34, R221). -/
def Ctl.battLowPut (c : Ctl) (v : Bool) : Ctl := (c.set R.LEDG_STATUS_BATT_LOW (b2n v)).faults.raise Ev.LEDG_BATT_LOW 0 (b2n v)

theorem battLowSet_of_fresh (c : Ctl) (hm : c.ledg.mainsOk = false) (h : c.is R.LEDG_STATUS_BATT_LOW = false) :
    battLowSet c = c.battLowPut true := by
  simp [battLowSet, hm, h, Ctl.battLowPut, b2n]

theorem battLowSet_of_mains (c : Ctl) (hm : c.ledg.mainsOk = true) : battLowSet c = c := by simp [battLowSet, hm]

theorem battLowClear_of_set (c : Ctl) (h : c.is R.LEDG_STATUS_BATT_LOW = true) : battLowClear c = c.battLowPut false := by
  simp [battLowClear, h, Ctl.battLowPut, b2n]

theorem Ctl.battLowPut_spec (c : Ctl) (v : Bool) :
    (c.battLowPut v).get R.LEDG_STATUS_BATT_LOW = b2n v ∧ bit ((c.battLowPut v).get R.FIRE_FAULT) 4 = v ∧
      c.sameRegsBut (c.battLowPut v) (R.LEDG_STATUS_BATT_LOW :: R.FIRE_FAULT :: evtFields) := by
  have hb : (c.set R.LEDG_STATUS_BATT_LOW (b2n v)).get R.LEDG_STATUS_BATT_LOW = b2n v := by
    rw [Ctl.get_set_self]
    cases v <;> rfl
  refine ⟨?_, ?_, ?_⟩
  · rw [Ctl.battLowPut, Ctl.get_raise _ _ _ _ _ _ (by decide), Ctl.sameRegsBut_faults _ _ _ (by decide), hb]
  · rw [Ctl.battLowPut, Ctl.bit_fault_raise _ _ _ _ (by decide), Ctl.bit_fault_battLow, Ctl.is_eq, hb]
    cases v <;> rfl
  · refine Ctl.sameRegsBut_trans ?_ (Ctl.sameRegsBut_raise _ _ _ _ _ (fun f hf => by simp [hf]))
    refine Ctl.sameRegsBut_trans (Ctl.sameRegsBut_set _ _ _ _ _ (by simp)) (Ctl.sameRegsBut_mono (Ctl.sameRegsBut_faults _) ?_)
    simp

/-! ## Job allowances (R38, R39, R49) -/

@[simp] theorem Ctl.ledgShow_ledg (c : Ctl) : c.ledgShow.ledg = c.ledg := by
  unfold Ctl.ledgShow
  extract_lets base c1
  refine (Ctl.each_keeps (·.ledg) _ _ (fun c k => ?_) c1).trans ?_ <;> simp [c1]

/-- The fields in which the ledger shows its totals. -/
def totalFields : List Reg := [R.LEDG_COMMIT_T, R.LEDG_COMMIT_BUDGET, R.LEDG_ENV_ENV, R.LEDG_ENV_OBJ]

theorem Ctl.get_ledgShow (c : Ctl) (r : Reg) (i : Nat) (h : ∀ f ∈ totalFields, f.id ≠ r.id) : c.ledgShow.get r i = c.get r i :=
  Ctl.sameRegsBut_ledgShow c r i h

/-- Showing the step in force lists nothing as shed or restored. -/
theorem Ctl.showStep_shed (c : Ctl) : c.showStep.ledg.shed = c.ledg.shed := by
  unfold Ctl.showStep
  extract_lets s c1
  split
  · rfl
  · exact congrArg (·.shed) (Ctl.raise_ledg _ _ _ _)

theorem Ctl.get_showStep (c : Ctl) (r : Reg) (i : Nat) (h : ∀ f ∈ R.LEDG_STATUS_STEP :: evtFields, f.id ≠ r.id) :
    c.showStep.get r i = c.get r i := by
  unfold Ctl.showStep
  extract_lets s c1
  have h1 : c1.get r i = c.get r i := Ctl.sameRegsBut_set c _ _ _ [R.LEDG_STATUS_STEP] (by simp) r i (fun f hf => h f (by simp_all))
  split
  · exact h1
  · exact (Ctl.get_raise _ _ _ _ _ _ (fun f hf => h f (List.mem_cons_of_mem _ hf))).trans h1

/-- A refused request is counted (R38, R40). -/
theorem Ctl.get_ledgRefuse_count (c : Ctl) (k detail : Nat) :
    (c.ledgRefuse k detail).get R.LEDG_REFUSED_COUNT k = (c.get R.LEDG_REFUSED_COUNT k + 1) % 2 ^ R.LEDG_REFUSED_COUNT.width := by
  rw [Ctl.ledgRefuse, Ctl.get_raise _ _ _ _ _ _ (by decide), Ctl.inc, Ctl.get_set_self]

theorem Ctl.get_ledgRefuse_allow (c : Ctl) (k detail j : Nat) :
    (c.ledgRefuse k detail).get R.LEDG_JOB_ALLOW_ALLOW j = c.get R.LEDG_JOB_ALLOW_ALLOW j := by
  rw [Ctl.ledgRefuse, Ctl.get_raise _ _ _ _ _ _ (by decide), Ctl.inc, Ctl.get_set_ne _ _ _ _ _ _ (.inl (by decide))]

/-- Whether step 1 holds class D's allowance down, so that the shed items keep the value to restore. -/
def Ctl.allowHeld (c : Ctl) (k : Nat) : Bool := k = 3 && c.ledg.shed.any (fun x => match x with | .allow _ => true | _ => false)

theorem Ctl.allowHeld_iff (c : Ctl) (k : Nat) : c.allowHeld k = true ↔ k = 3 ∧ ∃ n, .allow n ∈ c.ledg.shed := by
  simp only [Ctl.allowHeld, Bool.and_eq_true, decide_eq_true_eq, List.any_eq_true]
  refine and_congr_right fun _ => ⟨?_, ?_⟩
  · rintro ⟨x, hx, he⟩
    split at he
    · exact ⟨_, hx⟩
    · cases he
  · rintro ⟨n, hn⟩
    exact ⟨_, hn, rfl⟩

section
variable (k d : Nat) (c : Ctl)

section
variable (h : c.allowHeld k = true)
include h

/-- While class D is held down, a write above the allowance is kept for the restore. -/
theorem jobAllowWrite_held_above (hv : c.get R.LEDG_JOB_ALLOW_ALLOW k < R.LEDG_JOB_ALLOW_ALLOW.of d) :
    ∃ l, .allow (R.LEDG_JOB_ALLOW_ALLOW.of d) ∈ l ∧
      jobAllowWrite k d c = ({ c with ledg := { c.ledg with shed := l } }.showStep).ledgShow := by
  obtain ⟨-, n, hn⟩ := (c.allowHeld_iff k).1 h
  generalize he : jobAllowWrite k d c = t
  unfold jobAllowWrite at he
  extract_lets v now held shed c1 at he
  have hnot : ¬ v ≤ now := Nat.not_le.2 hv
  rw [if_pos (show held = true from h), if_neg hnot] at he
  refine ⟨shed, ?_, he.symm⟩
  simp only [shed, if_neg hnot]
  exact List.mem_map.2 ⟨_, hn, rfl⟩

/-- A write at or below it ends the hold and takes effect. -/
theorem jobAllowWrite_held_below (hv : R.LEDG_JOB_ALLOW_ALLOW.of d ≤ c.get R.LEDG_JOB_ALLOW_ALLOW k) :
    ∃ l, (∀ n, .allow n ∉ l) ∧ jobAllowWrite k d c =
      (({ c with ledg := { c.ledg with shed := l } }.set R.LEDG_JOB_ALLOW_ALLOW (R.LEDG_JOB_ALLOW_ALLOW.of d) 3).showStep).ledgShow := by
  generalize he : jobAllowWrite k d c = t
  unfold jobAllowWrite at he
  extract_lets v now held shed c1 at he
  have hle : v ≤ now := hv
  rw [if_pos (show held = true from h), if_pos hle] at he
  refine ⟨shed, fun n hn => ?_, he.symm⟩
  simp only [shed, if_pos hle] at hn
  exact absurd (List.mem_filter.1 hn).2 (by simp)

end

variable (h : c.allowHeld k = false)
include h

/-- A write at or below the allowance takes effect. -/
theorem jobAllowWrite_below (hv : R.LEDG_JOB_ALLOW_ALLOW.of d ≤ c.get R.LEDG_JOB_ALLOW_ALLOW k) :
    jobAllowWrite k d c = (c.set R.LEDG_JOB_ALLOW_ALLOW (R.LEDG_JOB_ALLOW_ALLOW.of d) k).ledgShow := by
  unfold jobAllowWrite
  extract_lets v now held
  rw [if_neg (show ¬ held = true from Bool.eq_false_iff.1 h), if_pos hv]

/-- Above it, a request of class A takes effect on the module as its shedding leaves it, or is refused and counted. -/
theorem jobAllowWrite_above_classA (h0 : k = 0) (hv : c.get R.LEDG_JOB_ALLOW_ALLOW k < R.LEDG_JOB_ALLOW_ALLOW.of d) :
    (∃ b : Ctl, jobAllowWrite k d c = (b.set R.LEDG_JOB_ALLOW_ALLOW (R.LEDG_JOB_ALLOW_ALLOW.of d) 0).ledgShow) ∨
      jobAllowWrite k d c = c.ledgRefuse 0 0 := by
  unfold jobAllowWrite
  extract_lets v now held shed c1 add capOk p
  rw [if_neg (show ¬ held = true from Bool.eq_false_iff.1 h), if_neg (Nat.not_le.2 hv), if_pos h0]
  split
  · exact .inl ⟨_, rfl⟩
  · exact .inr rfl

/-- Above it, a request of class B to D takes effect when its class cap and the budget allow it, and is refused and counted
otherwise. -/
theorem jobAllowWrite_above (h0 : k ≠ 0) (hv : c.get R.LEDG_JOB_ALLOW_ALLOW k < R.LEDG_JOB_ALLOW_ALLOW.of d) :
    jobAllowWrite k d c =
      let add := c.scaled c.lean (16 * (R.LEDG_JOB_ALLOW_ALLOW.of d - c.get R.LEDG_JOB_ALLOW_ALLOW k))
      if c.envelope false c.lean k + add ≤ 16 * c.get R.LEDG_CLASS_CAP_CAP k ∧ c.fits add false = true then
        (c.set R.LEDG_JOB_ALLOW_ALLOW (R.LEDG_JOB_ALLOW_ALLOW.of d) k).ledgShow
      else c.ledgRefuse k 0 := by
  unfold jobAllowWrite
  extract_lets v now held shed c1 add capOk p
  rw [if_neg (show ¬ held = true from Bool.eq_false_iff.1 h), if_neg (Nat.not_le.2 hv), if_neg h0]
  simp only [capOk, Bool.and_eq_true, decide_eq_true_eq]
  rfl

end

theorem Reg.of_mod (r : Reg) (d : Nat) : r.of d % 2 ^ r.width = r.of d := Nat.mod_mod _ _

/-- The allowance reads as it is stored, whatever the totals then show. -/
theorem Ctl.get_allow_ledgShow_set (c : Ctl) (d k : Nat) :
    (c.set R.LEDG_JOB_ALLOW_ALLOW (R.LEDG_JOB_ALLOW_ALLOW.of d) k).ledgShow.get R.LEDG_JOB_ALLOW_ALLOW k = R.LEDG_JOB_ALLOW_ALLOW.of d := by
  rw [Ctl.get_ledgShow _ _ _ (by decide), Ctl.get_set_self, Reg.of_mod]

/-! ## Limits and costs (R8, R53) -/

/-- The fields of a word of the ledger's limits. -/
def limitFields (w : Nat) : List Reg := R.fieldsLEDG.filter (fun r => r.addr == 0x20100 + 4 * w)

/-- An unarmed module stores a limit in its range from a master that R8 lets write it (R53). -/
theorem ledgLimitWrite_unarmed (m : Master) (w d : Nat) (c : Ctl) (hs : c.secure m = true) (ha : c.armed = false)
    (hr : inRange (limitFields w) d = true) : ledgLimitWrite m w d c = (c.store (limitFields w) 0 d).ledgShow := by
  rw [limitFields] at hr
  rw [ledgLimitWrite, Ctl.ifSecure_true _ _ _ _ hs]
  simp [ledgLimit, ha, hr, limitFields]

/-- A refusal of the ledger's sets its mark and raises its event (R53). -/
theorem Ctl.ledgState_spec (c : Ctl) :
    c.ledgState.get R.LEDG_STATUS_ERR_STATE = 1 ∧ c.sameRegsBut c.ledgState (R.LEDG_STATUS_ERR_STATE :: evtFields) := by
  refine ⟨?_, c.sameRegsBut_refuse _ _ _ _⟩
  rw [Ctl.ledgState, Ctl.refuse, Ctl.get_raise _ _ _ _ _ _ (by decide), Ctl.get_set_self]
  rfl

theorem ledgCostWrite_keeper (i d : Nat) (c : Ctl) :
    ledgCostWrite .keeper i d c =
      ((c.set R.LEDG_COST_FULL (R.LEDG_COST_FULL.of d) i).set R.LEDG_COST_ALT (R.LEDG_COST_ALT.of d) i).ledgShow := by
  simp [ledgCostWrite]

/-- A cost that another master writes as it stands changes nothing. -/
theorem ledgCostWrite_same {m : Master} (i d : Nat) (c : Ctl) (hm : m ≠ .keeper) (hf : R.LEDG_COST_FULL.of d = c.get R.LEDG_COST_FULL i)
    (ha : R.LEDG_COST_ALT.of d = c.get R.LEDG_COST_ALT i) : ledgCostWrite m i d c = c := by
  simp [ledgCostWrite, hm, hf, ha]

/-- One that it would change is refused (R53). -/
theorem ledgCostWrite_refused {m : Master} (i d : Nat) (c : Ctl) (hm : m ≠ .keeper)
    (hf : R.LEDG_COST_FULL.of d ≠ c.get R.LEDG_COST_FULL i) : ledgCostWrite m i d c = c.ledgState := by
  simp [ledgCostWrite, hm, hf]

theorem costFull_of (d : Nat) : R.LEDG_COST_FULL.of d = d % 2 ^ 12 := rfl

theorem costAlt_of (d : Nat) : R.LEDG_COST_ALT.of d = d / 2 ^ 16 % 2 ^ 12 := by
  rw [← Nat.shiftRight_eq_div_pow]
  rfl

/-! ## The statement -/

/-- The next state of a command that the control state alone carries out. -/
theorem next_of_ctl {i : Instr} {s : State} {f : Ctl → Ctl} {c : Ctl} (he : exec i s = s.ctl f)
    (h : f { s.m.c with out := [] } = c) : exec i s = .next { s with m := { s.m with c := c } } := by
  rw [he, State.ctl_eq, h]

/-- The next state of a command that acts on the whole module. -/
theorem next_of_mach {i : Instr} {s : State} {f : Mach → Mach} {y : Mach} (he : exec i s = s.mach f) (h : f s.m.fresh = y) :
    exec i s = .next { s with m := y } := by
  rw [he, State.mach_eq, h]

/-- The mains come or go while something carries the module (R33). -/
theorem mainsOkChange_next (s : State) (b : Bool) (h : b ≠ s.m.c.ledg.mainsOk) (hot : b = true → s.m.c.boot.psuHot = false)
    (hp : b = true ∨ (s.m.c.ledg.battPresent = true ∧ s.m.c.ledg.battOpen = false)) :
    exec (.mainsOkChange b) s = .next { s with m := { s.m with c := mainsChange b s.m.fresh.c } } := by
  obtain ⟨hl, -⟩ := mainsChange_diff b s.m.fresh.c h hot
  refine next_of_mach (f := mainsOkAct b) rfl (Mach.powerCheck_carried _ ?_)
  dsimp only
  rw [hl]
  exact hp

/-- The mains go with nothing to take over: a POWER reset (R437, R470). -/
theorem mainsOkChange_lost (s : State) (hm : s.m.c.ledg.mainsOk = true)
    (hp : s.m.c.ledg.battPresent = false ∨ s.m.c.ledg.battOpen = true) :
    exec (.mainsOkChange false) s = .next (s.withMach fun x => Mach.hardReset { x with c := mainsChange false x.c } 0) := by
  obtain ⟨hl, -⟩ := mainsChange_diff false s.m.fresh.c (by simp [hm]) nofun
  refine next_of_mach (f := mainsOkAct false) rfl (Mach.powerCheck_lost _ ?_ ?_) <;> dsimp only <;> rw [hl]
  exact hp

theorem battPresenceChange_next (s : State) (b : Bool) (h : b ≠ s.m.c.ledg.battPresent)
    (hp : s.m.c.ledg.mainsOk = true ∨ (b = true ∧ s.m.c.ledg.battOpen = false)) :
    exec (.battPresenceChange b) s = .next { s with m := { s.m with c := battPresence b s.m.fresh.c } } := by
  obtain ⟨hl, -⟩ := battPresence_diff b s.m.fresh.c h
  refine next_of_mach (f := battPresenceAct b) rfl (Mach.powerCheck_carried _ ?_)
  dsimp only
  rw [hl]
  exact hp

/-- The battery goes while it alone carries the module: a POWER reset (R437, R470). -/
theorem battPresenceChange_lost (s : State) (h : s.m.c.ledg.battPresent = true) (hm : s.m.c.ledg.mainsOk = false) :
    exec (.battPresenceChange false) s = .next (s.withMach fun x => Mach.hardReset { x with c := battPresence false x.c } 0) := by
  obtain ⟨hl, -⟩ := battPresence_diff false s.m.fresh.c (by simp [h])
  refine next_of_mach (f := battPresenceAct false) rfl (Mach.powerCheck_lost _ ?_ (.inl ?_)) <;> dsimp only <;> rw [hl]
  exact hm

/-- A write of an allowance while class D is held down (R49). -/
theorem jobAllowWrite_next_held (s : State) (k : Fin 4) (d : BitVec 32) (h : s.m.c.allowHeld k = true) :
    let v := R.LEDG_JOB_ALLOW_ALLOW.of d.toNat
    (s.m.c.get R.LEDG_JOB_ALLOW_ALLOW k < v → ∃ t, exec (.jobAllowWrite k d) s = .next t ∧ .allow v ∈ t.m.c.ledg.shed ∧
      t.m.c.get R.LEDG_JOB_ALLOW_ALLOW k = s.m.c.get R.LEDG_JOB_ALLOW_ALLOW k ∧ t.m.m = s.m.m) ∧
    (v ≤ s.m.c.get R.LEDG_JOB_ALLOW_ALLOW k → ∃ t, exec (.jobAllowWrite k d) s = .next t ∧ (∀ n, .allow n ∉ t.m.c.ledg.shed) ∧
      t.m.c.get R.LEDG_JOB_ALLOW_ALLOW k = v ∧ t.m.m = s.m.m) := by
  obtain ⟨hk, -⟩ := (s.m.c.allowHeld_iff k).1 h
  refine ⟨fun hv => ?_, fun hv => ?_⟩
  · obtain ⟨l, hl, he⟩ := jobAllowWrite_held_above k d.toNat s.m.fresh.c h hv
    refine ⟨_, next_of_ctl rfl he, ?_, ?_, rfl⟩
    · rw [Ctl.ledgShow_ledg, Ctl.showStep_shed]
      exact hl
    · rw [Ctl.get_ledgShow _ _ _ (by decide), Ctl.get_showStep _ _ _ (by decide)]
      rfl
  · obtain ⟨l, hl, he⟩ := jobAllowWrite_held_below k d.toNat s.m.fresh.c h hv
    refine ⟨_, next_of_ctl rfl he, ?_, ?_, rfl⟩
    · rw [Ctl.ledgShow_ledg, Ctl.showStep_shed]
      exact hl
    · rw [Ctl.get_ledgShow _ _ _ (by decide), Ctl.get_showStep _ _ _ (by decide), hk, Ctl.get_set_self, Reg.of_mod]

/-- A write at or below an allowance that is not held (R39). -/
theorem jobAllowWrite_next_below (s : State) (k : Fin 4) (d : BitVec 32) (h : s.m.c.allowHeld k = false)
    (hv : R.LEDG_JOB_ALLOW_ALLOW.of d.toNat ≤ s.m.c.get R.LEDG_JOB_ALLOW_ALLOW k) :
    ∃ t, exec (.jobAllowWrite k d) s = .next t ∧ t.m.c.get R.LEDG_JOB_ALLOW_ALLOW k = R.LEDG_JOB_ALLOW_ALLOW.of d.toNat ∧
      s.m.c.sameRegsBut t.m.c (R.LEDG_JOB_ALLOW_ALLOW :: totalFields) ∧ t.m.m = s.m.m := by
  refine ⟨_, next_of_ctl rfl (jobAllowWrite_below k d.toNat s.m.fresh.c h hv), Ctl.get_allow_ledgShow_set _ _ _, ?_, rfl⟩
  have hset : s.m.c.sameRegsBut (s.m.fresh.c.set R.LEDG_JOB_ALLOW_ALLOW (R.LEDG_JOB_ALLOW_ALLOW.of d.toNat) k)
      (R.LEDG_JOB_ALLOW_ALLOW :: totalFields) := Ctl.sameRegsBut_set _ _ _ _ _ (by simp)
  exact Ctl.sameRegsBut_trans hset (Ctl.sameRegsBut_mono (Ctl.sameRegsBut_ledgShow _) (fun f hf => List.mem_cons_of_mem _ hf))

/-- A refused allowance stays, and the refusal is counted. -/
theorem Ctl.ledgRefuse_spec (c : Ctl) (k detail : Nat) :
    (c.ledgRefuse k detail).get R.LEDG_JOB_ALLOW_ALLOW k = c.get R.LEDG_JOB_ALLOW_ALLOW k ∧
      (c.ledgRefuse k detail).get R.LEDG_REFUSED_COUNT k = (c.get R.LEDG_REFUSED_COUNT k + 1) % 2 ^ R.LEDG_REFUSED_COUNT.width :=
  ⟨c.get_ledgRefuse_allow k detail k, c.get_ledgRefuse_count k detail⟩

/-- A write of class A's allowance takes effect, or is refused and counted (R39). -/
theorem jobAllowWrite_next_classA (s : State) (d : BitVec 32) :
    ∃ t, exec (.jobAllowWrite 0 d) s = .next t ∧ t.m.m = s.m.m ∧
      (t.m.c.get R.LEDG_JOB_ALLOW_ALLOW 0 = R.LEDG_JOB_ALLOW_ALLOW.of d.toNat ∨
        (t.m.c.get R.LEDG_JOB_ALLOW_ALLOW 0 = s.m.c.get R.LEDG_JOB_ALLOW_ALLOW 0 ∧
          t.m.c.get R.LEDG_REFUSED_COUNT 0 = (s.m.c.get R.LEDG_REFUSED_COUNT 0 + 1) % 2 ^ R.LEDG_REFUSED_COUNT.width)) := by
  have h : s.m.fresh.c.allowHeld 0 = false := rfl
  by_cases hv : R.LEDG_JOB_ALLOW_ALLOW.of d.toNat ≤ s.m.c.get R.LEDG_JOB_ALLOW_ALLOW 0
  · obtain ⟨t, he, hget, -, hm⟩ := jobAllowWrite_next_below s 0 d h hv
    exact ⟨t, he, hm, .inl hget⟩
  · rcases jobAllowWrite_above_classA 0 d.toNat s.m.fresh.c h rfl (Nat.not_le.1 hv) with ⟨b, he⟩ | he
    · exact ⟨_, next_of_ctl rfl he, rfl, .inl (Ctl.get_allow_ledgShow_set b _ _)⟩
    · exact ⟨_, next_of_ctl rfl he, rfl, .inr (Ctl.ledgRefuse_spec s.m.fresh.c 0 0)⟩

/-- Settles O11: each supply input, allowance, limit and cost by the lemma of its case. -/
theorem powerLedger : Obligations.PowerLedger := by
  unfold Obligations.PowerLedger
  refine ⟨fun s b => ⟨fun h hot hp => ?_, ?_, ?_, fun h hp => ?_, ?_, fun hm h => ?_, fun hm => ?_, fun h => ?_, fun hm => ?_,
    fun hm => ?_, ?_⟩, ?_, fun s m d w i => ⟨fun hs ha hr => ?_, fun hs => ?_, ?_, fun hm hf ha => ?_, fun hm hf => ?_⟩⟩
  · obtain ⟨hl, hseen, hsup, hregs⟩ := mainsChange_diff b s.m.fresh.c h hot
    exact ⟨_, mainsOkChange_next s b h hot hp, congrArg (·.mainsOk) hl, hseen, hsup, rfl, hregs⟩
  · rintro rfl hm hp
    exact mainsOkChange_lost s hm hp
  · rintro rfl hm hot hpres hopen
    have hc : mainsChange true s.m.fresh.c = s.m.fresh.c := mainsChange_same _ _ (.inr ⟨rfl, hot⟩)
    refine next_of_mach (f := mainsOkAct true) rfl ?_
    rw [mainsOkAct, hc]
    exact Mach.powerCheck_carried _ (.inr ⟨hpres, hopen⟩)
  · obtain ⟨hl, hsup, hregs⟩ := battPresence_diff b s.m.fresh.c h
    exact ⟨_, battPresenceChange_next s b h hp, congrArg (·.battPresent) hl, hsup, rfl, hregs⟩
  · rintro rfl h hm
    exact battPresenceChange_lost s h hm
  · obtain ⟨hlow, hfault, hregs⟩ := Ctl.battLowPut_spec s.m.fresh.c true
    exact ⟨_, next_of_ctl rfl (battLowSet_of_fresh _ hm h), hlow, hfault, rfl, hregs⟩
  · exact next_of_ctl rfl (battLowSet_of_mains _ hm)
  · obtain ⟨hlow, hfault, hregs⟩ := Ctl.battLowPut_spec s.m.fresh.c false
    exact ⟨_, next_of_ctl rfl (battLowClear_of_set _ h), hlow, hfault, rfl, hregs⟩
  · exact ⟨_, next_of_mach (f := battCutoffAct) rfl (Mach.powerCheck_carried _ (.inl hm)), rfl, rfl, rfl⟩
  · exact next_of_mach (f := battCutoffAct) rfl (Mach.powerCheck_lost _ hm (.inr rfl))
  · exact ⟨_, next_of_ctl (f := battClose) rfl rfl, rfl, rfl, rfl⟩
  · rintro s k d v held hheld rfl
    have hiff : held ↔ s.m.c.allowHeld k = true := by
      rw [hheld, Ctl.allowHeld_iff, Fin.ext_iff]
      rfl
    have hfree : ¬ held → s.m.c.allowHeld k = false := fun h => Bool.eq_false_iff.2 (h ∘ hiff.2)
    refine ⟨fun h => (jobAllowWrite_next_held s k d (hiff.1 h)).1, fun h => (jobAllowWrite_next_held s k d (hiff.1 h)).2, ?_,
      fun h => jobAllowWrite_next_below s k d (hfree h), ?_⟩
    · rintro rfl
      exact jobAllowWrite_next_classA s d
    · rintro add rfl h hk hv
      have he := jobAllowWrite_above k d.toNat s.m.fresh.c (hfree h) (fun h0 => hk (Fin.ext h0)) hv
      refine ⟨fun hcap hfit => ?_, fun hno => ?_⟩
      · exact ⟨_, next_of_ctl rfl (he.trans (if_pos ⟨hcap, hfit⟩)), Ctl.get_allow_ledgShow_set _ _ _⟩
      · exact ⟨_, next_of_ctl rfl (he.trans (if_neg hno)), Ctl.ledgRefuse_spec s.m.fresh.c k 0⟩
  · exact next_of_ctl rfl (ledgLimitWrite_unarmed m w d.toNat _ hs ha hr)
  · exact next_of_ctl (f := ledgLimitWrite m w d.toNat) rfl (Ctl.ifSecure_false _ _ _ _ hs)
  · refine ⟨_, next_of_ctl rfl (ledgCostWrite_keeper _ _ _), ?_, ?_, fun j hj => ?_, rfl⟩
    · rw [Ctl.get_ledgShow _ _ _ (by decide), Ctl.get_set_ne _ _ _ _ _ _ (.inl (by decide)), Ctl.get_set_self, Reg.of_mod, costFull_of]
    · rw [Ctl.get_ledgShow _ _ _ (by decide), Ctl.get_set_self, Reg.of_mod, costAlt_of]
    · rw [Ctl.get_ledgShow _ _ _ (by decide), Ctl.get_set_ne _ _ _ _ _ _ (.inl (by decide)), Ctl.get_set_ne _ _ _ _ _ _ (.inr hj.symm)]
      rfl
  · exact next_of_ctl rfl (ledgCostWrite_same _ _ _ hm hf ((costAlt_of _).trans ha))
  · obtain ⟨herr, hregs⟩ := Ctl.ledgState_spec s.m.fresh.c
    exact ⟨_, next_of_ctl rfl (ledgCostWrite_refused _ _ _ hm hf), herr, hregs⟩

end Sys2Proof.Machine
end

section
/-! PROOFS. Writes to the tables, and their refusal on a standby (R5, R56, R58, R70, R104, R248). -/
namespace Sys2Proof.Machine

/-! ## Words of the tables (R56, R58, R70, R104) -/

section
variable (c : Ctl) (o d : Nat) {w : Nat}

/-- A word of an OBJ entry with no field that takes a write, and no zone mask, ignores it (R56). -/
theorem Ctl.objWrite_readOnly (h : roWord (objWord w) = true) (hz : ¬ (8 ≤ w ∧ w ≤ 11)) : c.objWrite o w d = c := by
  have hb : (roWord (objWord w) && !(decide (8 ≤ w) && decide (w ≤ 11))) = true := by
    simp [h]
    omega
  rw [Ctl.objWrite, if_pos hb]

section
variable (hn : o < c.objCount) (hs : c.switching = false)
include hn hs

/-- The status word clears the marks that are written as ones. -/
theorem Ctl.objWrite_status : c.objWrite o 1 d = (c.store (objWord 1) o d).set R.OBJ_LAST 0 o := by
  have hr : roWord (objWord 1) = false := by decide
  simp [Ctl.objWrite, hr, Nat.not_le.2 hn, hs]

/-- A word of the zone mask is stored. -/
theorem Ctl.objWrite_zmask (h8 : 8 ≤ w) (h11 : w ≤ 11) :
    c.objWrite o w d = (c.set R.OBJ_ZMASK d (4 * o + (w - 8))).set R.OBJ_LAST 0 o := by
  have h1 : w ≠ 1 := by omega
  simp [Ctl.objWrite, Nat.not_le.2 hn, hs, h1, h8, h11]

/-- A word of values in range that changes no locked field is stored. -/
theorem Ctl.objWrite_stored (h2 : 2 ≤ w) (hz : ¬ (8 ≤ w ∧ w ≤ 11)) (hro : roWord (objWord w) = false)
    (hr : inRange (objWord w) d = true) (hl : c.changes ((objWord w).filter (·.isIn objLocked)) o d = false)
    (hg : c.is R.OBJ_GLOBAL o = false) :
    c.objWrite o w d = (c.store ((objWord w).filter (fun r => r.id != R.OBJ_ACT_REQ.id)) o d).set R.OBJ_LAST 0 o := by
  have h0 : w ≠ 0 := by omega
  have h1 : w ≠ 1 := by omega
  have hc : c.isCopy o = false := by simp [Ctl.isCopy, hg]
  simp only [Ctl.objWrite, hro, Bool.false_and, Bool.false_eq_true, if_false, Nat.not_le.2 hn, hs, h1, Bool.and_eq_true,
    decide_eq_true_eq, hz, hr, Bool.not_true, hl, hc, Bool.or_self, bne_iff_ne, ne_eq, h0, not_false_eq_true, if_true]

end

/-- A word of a SRC entry with no field that takes a write ignores it (R56). -/
theorem Ctl.srcWrite_readOnly (h : roWord (srcWord w) = true) : c.srcWrite o w d = c := by
  simp [Ctl.srcWrite, h]

/-- A word of a source that is off, other than its head and its ring length, is stored. -/
theorem Ctl.srcWrite_stored (hs : c.switching = false) (h0 : w ≠ 0) (h3 : w ≠ 3) (hro : roWord (srcWord w) = false)
    (he : c.is R.SRC_EN o = false) : c.srcWrite o w d = (c.store (srcWord w) o d).set R.SRC_LAST 0 o := by
  simp [Ctl.srcWrite, hro, hs, h0, h3, he]

theorem Ctl.feedWrite_readOnly (h : roWord (feedFields w) = true) : c.feedWrite o w d = c := by
  rw [feedFields] at h
  simp [Ctl.feedWrite, h]

/-- A word of a FEED entry whose values are in range and which changes no locked field is stored, and the zones count their feeds
anew; a feed that goes on has no output of the window before (R150). -/
theorem Ctl.feedWrite_stored (hn : o < c.feedCount) (hs : c.switching = false) (hro : roWord (feedFields w) = false)
    (hr : inRange (feedFields w) d = true) (hb : c.breaksScene (feedFields w) o d = false) :
    c.feedWrite o w d = (((c.store (feedFields w) o d).set R.FEED_LAST 0 o).showFeeds).when
      (w = 0 && d % 2 = 1 && !c.is R.FEED_EN o) (·.noLast o) := by
  rw [feedFields] at hro hr hb
  simp only [Ctl.feedWrite, hro, Bool.false_eq_true, if_false, Nat.not_le.2 hn, hs, hr, Bool.not_true, hb]
  rfl

theorem Ctl.zoneWrite_readOnly (h : roWord (zoneFields w) = true) : c.zoneWrite o w d = c := by
  rw [zoneFields] at h
  simp [Ctl.zoneWrite, h]

/-- A word of a ZONE entry whose values are in range and which changes no locked field is stored. -/
theorem Ctl.zoneWrite_stored (hs : c.switching = false) (hro : roWord (zoneFields w) = false)
    (hr : inRange (zoneFields w) d = true) (hb : c.breaksScene (zoneFields w) o d = false) :
    c.zoneWrite o w d = (c.store (zoneFields w) o d).set R.ZONE_LAST 0 o := by
  rw [zoneFields] at hro hr hb
  simp only [Ctl.zoneWrite, hro, Bool.false_eq_true, if_false, hs, hr, Bool.not_true, hb]
  rfl

/-- A word of an idle plan other than its zones, objects and stage is stored when its values are in range. -/
theorem Ctl.planWrite_stored (hw : w < 2 ∨ w = 11) (hro : roWord (planFields w) = false) (hr : inRange (planFields w) d = true)
    (hp : c.get R.PLAN_STATE o = 0) :
    (c.planWrite o w d).1 = ((c.store (planFields w) o d).set R.PLAN_LAST 0 o).showDirty := by
  have h25 : ¬ (2 ≤ w ∧ w ≤ 5) := by omega
  have h69 : ¬ (6 ≤ w ∧ w ≤ 9) := by omega
  have hslots : (decide (6 ≤ w) && decide (w ≤ 9) && c.badSlots d) = false := by simp; omega
  rw [planFields] at hro hr
  simp only [Ctl.planWrite, hro, Bool.false_and, Bool.false_eq_true, if_false, hp, bne_self_eq_false, hr, Bool.not_true, hslots,
    Bool.or_self, Bool.and_eq_true, decide_eq_true_eq, h25, h69]
  rfl

/-- SYS_LAW takes values in their ranges (R104). -/
theorem Ctl.sysLaw_stored (h1 : 33000 ≤ R.SYS_LAW_C_SOUND.of d) (h2 : R.SYS_LAW_C_SOUND.of d ≤ 35500)
    (ha : R.SYS_LAW_AIR_F.of d = 0 ∨ 50 ≤ R.SYS_LAW_AIR_F.of d ∧ R.SYS_LAW_AIR_F.of d ≤ 2000) :
    c.sysLaw d = (c.set R.SYS_LAW_C_SOUND (R.SYS_LAW_C_SOUND.of d)).set R.SYS_LAW_AIR_F (R.SYS_LAW_AIR_F.of d) := by
  have hair : ¬ (R.SYS_LAW_AIR_F.of d ≠ 0 ∧ (R.SYS_LAW_AIR_F.of d < 50 ∨ 2000 < R.SYS_LAW_AIR_F.of d)) := by omega
  have hb : ¬ ((R.SYS_LAW_C_SOUND.of d < 33000 || 35500 < R.SYS_LAW_C_SOUND.of d ||
      (R.SYS_LAW_AIR_F.of d != 0 && (R.SYS_LAW_AIR_F.of d < 50 || 2000 < R.SYS_LAW_AIR_F.of d))) = true) := by
    simpa [h1, h2] using hair
  rw [Ctl.sysLaw, if_neg hb]

end

/-! ## Outside a hinge (R248) -/

/-- A module whose role is OFF lets every mirrored write through. -/
theorem Ctl.hngGate_off (c : Ctl) (m : Master) (a d : Nat) (last : Option (Reg × Nat)) (f : Ctl → Ctl)
    (h : c.get R.HNG_STATUS_ROLE = 0) : c.hngGate m a d last f = f c :=
  c.hngGate_alone m a d last f (by omega) (by omega)

/-- A write of a PLAN entry there, from a master that R8 lets write it. -/
theorem planEntryWrite_stored (m : Master) (p d : Nat) {w : Nat} (c : Ctl) (hsec : c.secure m = true)
    (hrole : c.get R.HNG_STATUS_ROLE = 0) (hw : w < 2 ∨ w = 11) (hro : roWord (planFields w) = false)
    (hr : inRange (planFields w) d = true) (hp : c.get R.PLAN_STATE p = 0) :
    planEntryWrite m p w d c = ((c.store (planFields w) p d).set R.PLAN_LAST 0 p).showDirty := by
  rw [planEntryWrite, Ctl.ifSecure_true _ _ _ _ hsec, Ctl.hngGate_off _ _ _ _ _ _ hrole, Ctl.planWrite_stored _ _ _ hw hro hr hp]

/-- A command whose meaning is a mirrored write, there. -/
theorem alone_next {i : Instr} {s : State} {m : Master} {a d : Nat} {last : Option (Reg × Nat)} {f : Ctl → Ctl} {c : Ctl}
    (he : exec i s = s.ctl (fun c => c.hngGate m a d last f)) (hrole : s.m.c.get R.HNG_STATUS_ROLE = 0)
    (h : f s.m.fresh.c = c) : exec i s = .next { s with m := { s.m with c := c } } :=
  next_of_ctl he ((Ctl.hngGate_off s.m.fresh.c m a d last f hrole).trans h)

/-! ## A standby (R248) -/

/-- What a standby does with a mirrored write that LAST answers: LAST reads STATE, and the hinge's mark and event tell it. -/
theorem Ctl.standby_spec (c : Ctl) (last : Reg) (i : Nat) (hw : last.width = 4) :
    ((c.hngRefuse 1).set last 1 i).get last i = 1 ∧
      c.sameRegsBut ((c.hngRefuse 1).set last 1 i) ([last, R.HNG_STATUS_ERR_STATE] ++ evtFields) := by
  refine ⟨by simp [hw], Ctl.sameRegsBut_trans ?_ (Ctl.sameRegsBut_set _ _ _ _ _ (by simp))⟩
  rw [Ctl.hngRefuse, if_pos rfl]
  exact Ctl.sameRegsBut_trans (Ctl.sameRegsBut_set _ _ _ _ _ (by simp)) (Ctl.sameRegsBut_raise _ _ _ _ _ (fun f hf => by simp [hf]))

/-- A command whose meaning is a mirrored write, on a standby, from another master than the keeper. -/
theorem standby_next {i : Instr} {s : State} {m : Master} {a d k : Nat} {last : Reg} {f : Ctl → Ctl} {b : Prop} [Decidable b]
    (he : exec i s = s.ctl (fun c => c.hngGate m a d (if b then none else some (last, k)) f)) (hb : ¬ b) (hw : last.width = 4)
    (hrole : s.m.c.get R.HNG_STATUS_ROLE = 3) (hm : m ≠ .keeper) :
    ∃ t, exec i s = .next t ∧ t.m.c.get last k = 1 ∧ t.m.m = s.m.m ∧
      s.m.c.sameRegsBut t.m.c ([last, R.HNG_STATUS_ERR_STATE] ++ evtFields) := by
  obtain ⟨hlast, hregs⟩ := Ctl.standby_spec s.m.fresh.c last k hw
  have hg := Ctl.hngGate_standby s.m.fresh.c m a d (some (last, k)) f hrole hm
  rw [if_neg hb] at he
  exact ⟨_, next_of_ctl he hg, hlast, rfl, hregs⟩

/-! ## The statement -/

/-- Settles O12: outside a hinge each word's write is the one its lemma gives; a standby's gate refuses them all alike. -/
theorem tableEntryWrites : Obligations.TableEntryWrites := by
  unfold Obligations.TableEntryWrites
  refine ⟨fun s m d h0 hs => ⟨fun o w hro hz => ?_, fun o hn => ?_, fun o w hn h2 hz hro hr hl hg => ?_, fun o w hn h8 h11 => ?_,
    fun i w hro => ?_, fun i w hw0 hw3 hro he => ?_, fun f w hro => ?_, fun f w hro hn hr hb => ?_, fun z w hro => ?_,
    fun z w hro hr hb => ?_, fun p w hsec hw hro hr hp => ?_, fun h1 h2 ha => ?_⟩, fun s m d h3 hm => ⟨fun o w hw => ?_,
    fun i w hw => ?_, fun f w hw => ?_, fun z w hw => ?_⟩⟩
  · exact alone_next rfl h0 (Ctl.objWrite_readOnly _ _ _ hro hz)
  · exact alone_next rfl h0 (Ctl.objWrite_status _ _ _ hn hs)
  · exact alone_next rfl h0 (Ctl.objWrite_stored _ _ _ hn hs h2 hz hro hr hl hg)
  · exact alone_next rfl h0 (Ctl.objWrite_zmask _ _ _ hn hs h8 h11)
  · exact alone_next rfl h0 (Ctl.srcWrite_readOnly _ _ _ hro)
  · exact alone_next rfl h0 (Ctl.srcWrite_stored _ _ _ hs (Fin.val_ne_of_ne hw0) (Fin.val_ne_of_ne hw3) hro he)
  · exact alone_next rfl h0 (Ctl.feedWrite_readOnly _ _ _ hro)
  · exact alone_next rfl h0 (Ctl.feedWrite_stored _ _ _ hn hs hro hr hb)
  · exact alone_next rfl h0 (Ctl.zoneWrite_readOnly _ _ _ hro)
  · exact alone_next rfl h0 (Ctl.zoneWrite_stored _ _ _ hs hro hr hb)
  · exact next_of_ctl rfl (planEntryWrite_stored m p d.toNat _ hsec h0 hw hro hr hp)
  · exact alone_next rfl h0 (Ctl.sysLaw_stored _ _ h1 h2 ha)
  · exact standby_next rfl (fun h => hw (Fin.ext h)) rfl h3 hm
  · exact standby_next rfl (fun h => hw (Fin.ext h)) rfl h3 hm
  · exact standby_next rfl (fun h => hw (Fin.ext h)) rfl h3 hm
  · exact standby_next rfl (fun h => hw (Fin.ext h)) rfl h3 hm

end Sys2Proof.Machine
end

section
/-! PROOFS. Clock states, starting and stopping windows, and reading the count (R15, R19, R29). -/
namespace Sys2Proof.Machine

/-! ## What the storm door's taking of zones leaves alone (R230, R234, R235) -/

section
variable {β : Type} (p : Ctl → β) (hset : ∀ (c : Ctl) (r : Reg) (v i : Nat), p (c.set r v i) = p c)
  (hraise : ∀ (c : Ctl) (src info detail : Nat), p (c.raise src info detail) = p c)
  (hstorm : ∀ (c : Ctl) (d : StormSt), p { c with storm := d } = p c)
include hset hraise

/-- A reading that no field, event or state of the door's own enters is the same once the door takes the links. -/
theorem Ctl.allLinks_keeps (c : Ctl) : p c.allLinks = p c := by
  unfold Ctl.allLinks
  split
  · rfl
  · rw [hraise, hset, hset]

include hstorm

theorem Ctl.showProg_keeps (c : Ctl) : p c.showProg = p c := by
  unfold Ctl.showProg
  extract_lets c1 play want msgs toned lost progs _ c2
  have h1 : p c1 = p c := Ctl.each_keeps p _ _ (fun c z => by rw [hset, hset]) c
  refine (Ctl.each_keeps p _ _ (fun c q => by rw [hraise, hset]) c2).trans ?_
  exact (hstorm _ _).trans h1

theorem Ctl.takeAs_keeps (c : Ctl) (cause : Nat) (zs : List Nat) : p (c.takeAs cause zs) = p c := by
  unfold Ctl.takeAs
  extract_lets _ c1
  split
  · exact hstorm _ _
  · next z0 zs' _ =>
    extract_lets c2 c3
    have hwhen : ∀ (c : Ctl) (b : Bool) (z : Nat), p (c.when b (·.set R.STORM_CAUSE_CAUSE cause z)) = p c := by
      intro c b z
      cases b
      · rfl
      · exact hset _ _ _ _
    have h2 : p c2 = p c1 := by
      refine Ctl.each_keeps p _ _ (fun c z => ?_) c1
      extract_lets fresh c4 c5 c6 fade _
      rw [hstorm, hset, hset, hwhen, hset, hset]
    rw [Ctl.showProg_keeps p hset hraise hstorm, Ctl.faults, hset, hraise, hset, hset, h2]
    exact hstorm _ _

theorem Ctl.takeZones_keeps (c : Ctl) (cause : Nat) (zs : List Nat) : p (c.takeZones cause zs) = p c := by
  unfold Ctl.takeZones
  split
  · rfl
  · exact Ctl.takeAs_keeps p hset hraise hstorm c cause zs

end

@[simp] theorem Ctl.allLinks_win (c : Ctl) : c.allLinks.win = c.win :=
  Ctl.allLinks_keeps (·.win) Ctl.set_win Ctl.raise_win c

@[simp] theorem Ctl.allLinks_fire (c : Ctl) : c.allLinks.fire = c.fire :=
  Ctl.allLinks_keeps (·.fire) Ctl.set_fire Ctl.raise_fire c

@[simp] theorem Ctl.takeZones_win (c : Ctl) (cause : Nat) (zs : List Nat) : (c.takeZones cause zs).win = c.win :=
  Ctl.takeZones_keeps (·.win) Ctl.set_win Ctl.raise_win (fun _ _ => rfl) c cause zs

@[simp] theorem Ctl.takeZones_fire (c : Ctl) (cause : Nat) (zs : List Nat) : (c.takeZones cause zs).fire = c.fire :=
  Ctl.takeZones_keeps (·.fire) Ctl.set_fire Ctl.raise_fire (fun _ _ => rfl) c cause zs

@[simp] theorem Ctl.faults_win (c : Ctl) : c.faults.win = c.win := rfl

@[simp] theorem Ctl.faults_fire (c : Ctl) : c.faults.fire = c.fire := rfl

/-! ## Losing and regaining the clocks (R15, R221, R235) -/

/-- The fields that the loss of the clocks changes beyond the bits of WIN_CLK_STATUS. -/
def clockFields : List Reg := [R.WIN_STATUS_RUN, R.STORM_STATUS_ALL_LINKS, R.STORM_STATUS_SAFE_CLK] ++ takeFields

theorem clockFields_lock (p : Fin 4) : ∀ f ∈ clockFields, f.id ≠ (lockReg p).id := by
  revert p
  decide

theorem clockFields_lost (p : Fin 4) : ∀ f ∈ clockFields, f.id ≠ (lostReg p).id := by
  revert p
  decide

theorem clockFields_root :
    ∀ f ∈ clockFields, f.id ≠ R.WIN_CLK_STATUS_ROOT_OK.id ∧ f.id ≠ R.WIN_CLK_STATUS_ROOT_LOST.id := by
  decide

/-- What a relock shows besides its lock bit lies outside the lock bits. -/
theorem lockReg_id_ne (p : Fin 4) : R.FIRE_FAULT.id ≠ (lockReg p).id ∧ R.SYS_BOOT_STAGE.id ≠ (lockReg p).id := by
  revert p
  decide

theorem Ctl.sameRegsBut_stopWindows (c : Ctl) : c.sameRegsBut c.stopWindows [R.WIN_STATUS_RUN] :=
  Ctl.sameRegsBut_trans (b := { c with win := c.stopWindows.win }) (Ctl.sameRegsBut_of_regs _ rfl)
    (Ctl.sameRegsBut_set _ _ _ _ _ (by simp))

theorem Ctl.stopWindows_run (c : Ctl) : c.stopWindows.get R.WIN_STATUS_RUN = 0 := Ctl.get_set_self _ _ _ _

/-- Where the storm door takes the links and zones and the panel shows it, only their fields change. -/
theorem Ctl.sameRegsBut_doorTakes (c : Ctl) (cause : Nat) (zs : List Nat) :
    c.sameRegsBut ((c.allLinks.takeZones cause zs).faults)
      ([R.STORM_STATUS_ALL_LINKS, R.STORM_STATUS_SAFE_CLK] ++ takeFields) := by
  refine Ctl.sameRegsBut_trans ?_ (Ctl.sameRegsBut_mono (Ctl.sameRegsBut_faults _) (by decide))
  refine Ctl.sameRegsBut_trans ?_ (Ctl.sameRegsBut_mono (Ctl.sameRegsBut_takeZones _ _ _) (by decide))
  exact Ctl.sameRegsBut_mono (Ctl.sameRegsBut_allLinks c) (by decide)

/-- The module with windows stopped for the loss of the clocks, before the storm door acts. -/
def Ctl.clockStopped (c : Ctl) : Ctl :=
  let c1 := { c with boot := { c.boot with clockDue := c.boot.clockDue || c.is R.WIN_STATUS_RUN } }.stopWindows
  { c1 with fire := { c1.fire with clockLost := true } }

theorem Ctl.clockGone_eq (c : Ctl) : c.clockGone = (c.clockStopped.allLinks.takeZones 1 (List.range 128)).faults := rfl

theorem Ctl.sameRegsBut_clockStopped (c : Ctl) : c.sameRegsBut c.clockStopped [R.WIN_STATUS_RUN] :=
  fun r i h => Ctl.sameRegsBut_stopWindows c r i h

/-- Without the clocks windows stop, and the panel's cause of it stands (R15, R221). -/
theorem Ctl.clockGone_spec (c : Ctl) :
    c.clockGone.get R.WIN_STATUS_RUN = 0 ∧ c.clockGone.win.awaiting = false ∧ c.clockGone.fire.clockLost = true ∧
      c.sameRegsBut c.clockGone clockFields := by
  rw [Ctl.clockGone_eq]
  have hdoor := c.clockStopped.sameRegsBut_doorTakes 1 (List.range 128)
  refine ⟨?_, ?_, ?_, ?_⟩
  · exact (hdoor R.WIN_STATUS_RUN 0 (by decide)).trans c.stopWindows_run
  · simp [Ctl.clockStopped, Ctl.stopWindows]
  · simp [Ctl.clockStopped]
  · exact Ctl.sameRegsBut_trans (Ctl.sameRegsBut_mono c.sameRegsBut_clockStopped (by simp [clockFields]))
      (Ctl.sameRegsBut_mono hdoor (fun f hf => List.mem_cons_of_mem _ hf))

/-- The event of a loss and what follows it leave the bits of WIN_CLK_STATUS, which lie outside `clockFields`. -/
theorem Ctl.get_raise_clockGone (c : Ctl) (src : Nat) (r : Reg) (i : Nat) (h : ∀ f ∈ clockFields, f.id ≠ r.id) :
    (c.raise src).clockGone.get r i = c.get r i := by
  obtain ⟨-, -, -, hregs⟩ := (c.raise src).clockGone_spec
  have hevt : ∀ f ∈ evtFields, f ∈ clockFields := fun f hf => by simp [clockFields, takeFields, progFields, hf]
  exact (hregs r i h).trans (Ctl.get_raise _ _ _ _ _ _ (fun f hf => h f (hevt f hf)))

/-- The bits of WIN_CLK_STATUS put as the loss of the root leaves them (R15). -/
def Ctl.rootMarked (c : Ctl) : Ctl :=
  ((c.set R.WIN_CLK_STATUS_ROOT_OK 0).set R.WIN_CLK_STATUS_ROOT_LOST 1).each [0, 1, 2, 3]
    (fun c (p : Fin 4) => (c.set (lockReg p) 0).set (lostReg p) 1)

theorem rootLost_eq (c : Ctl) : rootLost c = (c.rootMarked.raise Ev.WIN_CLK).clockGone := rfl

theorem Ctl.rootMarked_root (c : Ctl) :
    c.rootMarked.get R.WIN_CLK_STATUS_ROOT_OK = 0 ∧ c.rootMarked.get R.WIN_CLK_STATUS_ROOT_LOST = 1 := by
  simp (disch := decide) only [Ctl.rootMarked, Ctl.each, List.foldl, lockReg, lostReg, Ctl.get_set_ne, Ctl.get_set_self]
  decide

theorem Ctl.rootMarked_pll (c : Ctl) (p : Fin 4) : c.rootMarked.get (lockReg p) = 0 ∧ c.rootMarked.get (lostReg p) = 1 := by
  fin_cases p <;>
    simp (disch := decide) only [Ctl.rootMarked, Ctl.each, List.foldl, lockReg, lostReg, Ctl.get_set_ne, Ctl.get_set_self] <;>
    decide

/-- The loss of the audio PLL marks it and stops windows (R15). -/
theorem pllLockLoss_audio (c : Ctl) :
    (pllLockLoss 0 c).get (lockReg 0) = 0 ∧ (pllLockLoss 0 c).get (lostReg 0) = 1 ∧
      (pllLockLoss 0 c).get R.WIN_STATUS_RUN = 0 := by
  rw [pllLockLoss, if_pos rfl]
  refine ⟨?_, ?_, (Ctl.clockGone_spec _).1⟩
  · rw [Ctl.get_raise_clockGone _ _ _ _ (clockFields_lock 0), Ctl.get_set_ne _ _ _ _ _ _ (by decide), Ctl.get_set_self]
    rfl
  · rw [Ctl.get_raise_clockGone _ _ _ _ (clockFields_lost 0), Ctl.get_set_self]
    rfl

/-- The lock bit set, and with the audio PLL the end of the panel's cause (R15, R221). -/
def Ctl.lockMarked (c : Ctl) (p : Fin 4) : Ctl :=
  if p = 0 then { c.set (lockReg p) 1 with fire := { c.fire with clockLost := false } }.faults else c.set (lockReg p) 1

theorem Ctl.lockMarked_spec (c : Ctl) (p : Fin 4) :
    (c.lockMarked p).get (lockReg p) = 1 ∧ (p = 0 → (c.lockMarked p).fire.clockLost = false) ∧
      c.sameRegsBut (c.lockMarked p) [lockReg p, R.FIRE_FAULT] := by
  have hset : (c.set (lockReg p) 1).get (lockReg p) = 1 := by
    rw [Ctl.get_set_self]
    fin_cases p <;> rfl
  have hregs : c.sameRegsBut (c.set (lockReg p) 1) [lockReg p, R.FIRE_FAULT] := Ctl.sameRegsBut_set _ _ _ _ _ (by simp)
  unfold Ctl.lockMarked
  split
  · refine ⟨?_, fun _ => rfl, ?_⟩
    · exact (Ctl.sameRegsBut_faults _ _ _ (by simpa using (lockReg_id_ne p).1)).trans hset
    · exact Ctl.sameRegsBut_trans (b := { c.set (lockReg p) 1 with fire := { c.fire with clockLost := false } }) hregs
        (Ctl.sameRegsBut_mono (Ctl.sameRegsBut_faults _) (by simp))
  · next hp => exact ⟨hset, fun h => absurd h hp, hregs⟩

/-- A relock while the root is present is the lock marked, and after boot it may go on to DRAM training (R15, R438). -/
theorem pllRelock_present (p : Fin 4) (c : Ctl) (h : c.is R.WIN_CLK_STATUS_ROOT_OK = true) :
    pllRelock p c = (c.lockMarked p).when ((c.lockMarked p).get R.SYS_BOOT_STAGE = 1 && (c.lockMarked p).clocksOk)
      (·.set R.SYS_BOOT_STAGE 2) := by
  simp only [pllRelock, h, Bool.not_true, Bool.false_eq_true, if_false]
  rfl

theorem pllRelock_absent (p : Fin 4) (c : Ctl) (h : c.is R.WIN_CLK_STATUS_ROOT_OK = false) : pllRelock p c = c := by
  simp [pllRelock, h]

theorem pllRelock_spec (p : Fin 4) (c : Ctl) (h : c.is R.WIN_CLK_STATUS_ROOT_OK = true) :
    (pllRelock p c).get (lockReg p) = 1 ∧ (p = 0 → (pllRelock p c).fire.clockLost = false) ∧
      c.sameRegsBut (pllRelock p c) [lockReg p, R.FIRE_FAULT, R.SYS_BOOT_STAGE] := by
  obtain ⟨hlock, hfire, hregs⟩ := c.lockMarked_spec p
  have hstage : (c.lockMarked p).sameRegsBut (pllRelock p c) [R.SYS_BOOT_STAGE] := by
    rw [pllRelock_present p c h]
    exact Ctl.sameRegsBut_when _ _ _ _ (Ctl.sameRegsBut_set _ _ _ _ _ (by simp))
  refine ⟨(hstage _ _ (by simpa using (lockReg_id_ne p).2)).trans hlock, fun h0 => ?_, ?_⟩
  · rw [pllRelock_present p c h, ← hfire h0, Ctl.when]
    split <;> rfl
  · exact Ctl.sameRegsBut_trans (Ctl.sameRegsBut_mono hregs (by simp)) (Ctl.sameRegsBut_mono hstage (by simp))

/-! ## Starting and stopping windows (R29) -/

/-- Windows that begin: the count, the phase, and RUN before the first window (R29). -/
theorem Ctl.beginWindows_spec (c : Ctl) (first phase : Nat) :
    (c.beginWindows first phase).get R.WIN_STATUS_RUN = 1 ∧ (c.beginWindows first phase).get R.WIN_COUNT = first % 2 ^ 32 ∧
      (c.beginWindows first phase).get R.WIN_TICK_PHASE = phase % 2 ^ 4 ∧ (c.beginWindows first phase).win.ext = first ∧
      (c.beginWindows first phase).win.awaiting = true ∧
      c.sameRegsBut (c.beginWindows first phase)
        [R.WIN_STATUS_RUN, R.WIN_COUNT, R.WIN_COUNT_HI, R.WIN_TICK_PHASE, R.WIN_TICK_COUNT] := by
  unfold Ctl.beginWindows
  extract_lets fresh aligned guards _ _ _ c1
  refine ⟨?_, ?_, ?_, rfl, rfl, ?_⟩
  · simp (disch := decide) only [Ctl.get_set_ne, Ctl.get_set_self]
    rfl
  · simp (disch := decide) only [Ctl.get_set_ne, Ctl.get_set_self]
    rfl
  · simp (disch := decide) only [Ctl.get_set_ne, Ctl.get_set_self]
    rfl
  · iterate 5 refine Ctl.sameRegsBut_trans ?_ (Ctl.sameRegsBut_set _ _ _ _ _ (by simp))
    exact Ctl.sameRegsBut_of_regs _ rfl

/-- START with every condition of R29 met and no fabric to join. -/
theorem winStart_accepted (c : Ctl) (hrun : c.is R.WIN_STATUS_RUN = false) (hclk : c.clocksOk = true) (he : c.epochAhead = true)
    (hfab : c.get R.FAB_STATUS_STATE ≠ 2) : winStart c = c.beginWindows 0 0 := by
  simp [winStart, hrun, hclk, he, hfab]

/-- START while windows run, with a clock unlocked, an epoch that is not a window ahead or a fabric's windows to join (R29, R286). -/
theorem winStart_refused (c : Ctl)
    (h : c.is R.WIN_STATUS_RUN = true ∨ c.clocksOk = false ∨ c.epochAhead = false ∨
      (c.get R.FAB_STATUS_STATE = 2 ∧ c.fab.rootRun = true)) : winStart c = c.winState := by
  rw [winStart, if_pos]
  simpa [or_assoc] using h

/-- A refusal of the block's sets its mark and raises its event (R29). -/
theorem Ctl.winState_spec (c : Ctl) :
    c.winState.get R.WIN_STATUS_ERR_STATE = 1 ∧ c.winState.win = c.win ∧
      c.sameRegsBut c.winState (R.WIN_STATUS_ERR_STATE :: evtFields) := by
  refine ⟨?_, by simp [Ctl.winState, Ctl.refuse], c.sameRegsBut_refuse _ _ _ _⟩
  rw [Ctl.winState, Ctl.refuse, Ctl.get_raise _ _ _ _ _ _ (by decide), Ctl.get_set_self]
  rfl

theorem winStop_armed (c : Ctl) (h : c.armed = true) : winStop c = c.winState := by simp [winStop, h]

theorem winStop_running (c : Ctl) (ha : c.armed = false) (hrun : c.is R.WIN_STATUS_RUN = true) :
    winStop c = { c with win := { c.win with stopPending := true } } := by
  simp [winStop, ha, hrun]

/-! ## The statement -/

/-- Settles O9: each loss marks its bits and the storm door's part leaves them; each other command by the lemma of its case. -/
theorem clocksAndWindows : Obligations.ClocksAndWindows := by
  unfold Obligations.ClocksAndWindows
  refine ⟨fun s => ?_, fun s p => ⟨rfl, fun hp => ?_, ?_, fun hroot => ?_, fun hroot => ?_⟩,
    fun s => ⟨fun hrun hclk he hfab => ?_, fun hrun => ?_, fun ha hrun => ?_, fun ha => ?_⟩, fun s => ?_⟩
  · obtain ⟨hrun, hawait, hlost, -⟩ := (s.m.fresh.c.rootMarked.raise Ev.WIN_CLK).clockGone_spec
    obtain ⟨hok, hroot⟩ := s.m.fresh.c.rootMarked_root
    refine ⟨_, next_of_ctl rfl (rootLost_eq _), ?_, ?_, fun p => ⟨?_, ?_⟩, hrun, hawait, hlost, rfl, rfl⟩
    · exact (Ctl.get_raise_clockGone _ _ _ _ (fun f hf => (clockFields_root f hf).1)).trans hok
    · exact (Ctl.get_raise_clockGone _ _ _ _ (fun f hf => (clockFields_root f hf).2)).trans hroot
    · exact (Ctl.get_raise_clockGone _ _ _ _ (clockFields_lock p)).trans (s.m.fresh.c.rootMarked_pll p).1
    · exact (Ctl.get_raise_clockGone _ _ _ _ (clockFields_lost p)).trans (s.m.fresh.c.rootMarked_pll p).2
  · exact next_of_ctl rfl (if_neg hp)
  · obtain ⟨hlock, hlost, hrun⟩ := pllLockLoss_audio s.m.fresh.c
    exact ⟨_, next_of_ctl rfl rfl, hlock, hlost, hrun, rfl⟩
  · obtain ⟨hlock, hfire, hregs⟩ := pllRelock_spec p s.m.fresh.c hroot
    exact ⟨_, next_of_ctl rfl rfl, hlock, hfire, rfl, hregs⟩
  · exact next_of_ctl rfl (pllRelock_absent p _ hroot)
  · obtain ⟨hr, hc, hp, hext, hawait, hregs⟩ := s.m.fresh.c.beginWindows_spec 0 0
    exact ⟨_, next_of_ctl rfl (winStart_accepted _ hrun hclk he hfab), hr, hc, hp, hext, hawait, hregs, rfl⟩
  · obtain ⟨herr, -, hregs⟩ := s.m.fresh.c.winState_spec
    exact ⟨_, next_of_ctl rfl (winStart_refused _ (.inl hrun)), herr, hregs⟩
  · exact ⟨_, next_of_ctl rfl (winStop_running _ ha hrun), rfl, rfl, rfl⟩
  · obtain ⟨herr, hwin, hregs⟩ := s.m.fresh.c.winState_spec
    exact ⟨_, next_of_ctl rfl (winStop_armed _ ha), herr, hregs _ _ (by decide), hwin⟩
  · have hregs : s.m.c.sameRegsBut (winCountRead s.m.fresh.c) [R.WIN_COUNT_HI] :=
      Ctl.sameRegsBut_set s.m.c R.WIN_COUNT_HI _ 0 _ (by simp)
    exact ⟨_, next_of_ctl rfl rfl, rfl, Ctl.get_set_self _ _ _ _, hregs, rfl⟩

end Sys2Proof.Machine
end

section
/-! PROOFS. Window and tick boundaries, changes of the tick's length, and the guard point (R19 to R23, R29). -/
namespace Sys2Proof.Machine

/-! ## The tick's length and WIN_CTRL (R21) -/

/-- Away from a tick boundary, and with no length latched, nothing is due (R21). -/
theorem tickLengthChange_none (c : Ctl) (h : c.tab.tickDue = false ∨ c.win.tickReq = none) : tickLengthChange c = c := by
  unfold tickLengthChange
  split
  · next hdue hreq => simp [hdue, hreq] at h
  · rfl

/-- The state with a latched tick length in force (R21). -/
def Ctl.tickLenPut (c : Ctl) (n : Nat) : Ctl :=
  let c1 : Ctl := { c with win := { c.win with tickReq := none, tickFrom := none } }
  (((c1.set R.WIN_TICK_LEN_ACTIVE n).set R.WIN_CTRL_TICK n).set R.WIN_TICK_PENDING 0).set R.WIN_TICK_PHASE 0

/-- At a tick boundary that is not before the window it waits for, a latched length takes effect (R21, R287). -/
theorem tickLengthChange_due (c : Ctl) {n : Nat} (hdue : c.tab.tickDue = true) (hreq : c.win.tickReq = some n)
    (hfrom : c.win.tickFrom.any (fun w => later w c.winNo) = false) : tickLengthChange c = c.tickLenPut n := by
  simp [tickLengthChange, hdue, hreq, hfrom, Ctl.tickLenPut]

/-- The new tick starts at phase 0 with the new length shown (R21). -/
theorem Ctl.tickLenPut_spec (c : Ctl) (n : Nat) :
    (c.tickLenPut n).get R.WIN_TICK_LEN_ACTIVE = n % 2 ^ 4 ∧ (c.tickLenPut n).get R.WIN_CTRL_TICK = n % 2 ^ 4 ∧
      (c.tickLenPut n).get R.WIN_TICK_PENDING = 0 ∧ (c.tickLenPut n).get R.WIN_TICK_PHASE = 0 ∧
      c.sameRegsBut (c.tickLenPut n) [R.WIN_TICK_LEN_ACTIVE, R.WIN_CTRL_TICK, R.WIN_TICK_PENDING, R.WIN_TICK_PHASE] := by
  unfold Ctl.tickLenPut
  refine ⟨?_, ?_, ?_, Ctl.get_set_self _ _ _ _, ?_⟩
  · simp (disch := decide) only [Ctl.get_set_ne, Ctl.get_set_self]
    rfl
  · simp (disch := decide) only [Ctl.get_set_ne, Ctl.get_set_self]
    rfl
  · simp (disch := decide) only [Ctl.get_set_ne, Ctl.get_set_self]
    rfl
  · iterate 4 refine Ctl.sameRegsBut_trans ?_ (Ctl.sameRegsBut_set _ _ _ _ _ (by simp))
    exact Ctl.sameRegsBut_of_regs _ rfl

section
variable (m : Master) (d : Nat) (c : Ctl) (ht : R.WIN_CTRL_TICK.of d = c.tickNext)
include ht

/-- With windows stopped, a write of WIN_CTRL that keeps the tick length stores the other two fields (R21). -/
theorem winCtrlWrite_stopped (h : c.is R.WIN_STATUS_RUN = false) :
    winCtrlWrite m d c = ((c.set R.WIN_CTRL_LEN (R.WIN_CTRL_LEN.of d)).set R.WIN_CTRL_RATE96 (R.WIN_CTRL_RATE96.of d)).set
      R.WIN_STATUS_RATE96 (R.WIN_CTRL_RATE96.of d) := by
  have hnext : ∀ c' : Ctl, c'.tickNext = c.tickNext → c'.latchTick (R.WIN_CTRL_TICK.of d) = c' :=
    fun c' h' => if_pos (ht.trans h'.symm)
  have hlen : ((((c.set R.WIN_CTRL_LEN (R.WIN_CTRL_LEN.of d)).set R.WIN_CTRL_RATE96 (R.WIN_CTRL_RATE96.of d)).set
      R.WIN_STATUS_RATE96 (R.WIN_CTRL_RATE96.of d))).tickNext = c.tickNext := by
    simp (disch := decide) only [Ctl.tickNext, Ctl.set_win, Ctl.get_set_ne]
  rw [winCtrlWrite, if_pos ht, Ctl.winCtrl, hnext _ hlen]
  simp [h, ht]

/-- While windows run, one that changes LEN or RATE96 is refused (R21). -/
theorem winCtrlWrite_running (h : c.is R.WIN_STATUS_RUN = true)
    (hm : R.WIN_CTRL_LEN.of d ≠ c.get R.WIN_CTRL_LEN ∨ R.WIN_CTRL_RATE96.of d ≠ c.get R.WIN_CTRL_RATE96) :
    winCtrlWrite m d c = c.winState := by
  rw [winCtrlWrite, if_pos ht, Ctl.winCtrl]
  rcases hm with hl | hr
  · simp [h, hl]
  · simp [h, hr]

end

theorem winCtrlLen_of (d : Nat) : R.WIN_CTRL_LEN.of d = d % 2 ^ 2 := rfl

theorem winCtrlRate96_of (d : Nat) : R.WIN_CTRL_RATE96.of d = d / 2 ^ 2 % 2 ^ 1 := by
  rw [← Nat.shiftRight_eq_div_pow]
  rfl

/-! ## The boundaries and the guard point, by case (R19 to R23) -/

section
variable (ecc : List (Fin 4 × ScrubHit)) (mean peak battMv busMv : BitVec 16) (x : Mach)

/-- While windows do not run there is no boundary (R29). -/
theorem windowBoundary_stopped (h : x.c.is R.WIN_STATUS_RUN = false) : windowBoundary ecc mean peak battMv busMv x = x := by
  simp [windowBoundary, h]

/-- A pending STOP takes effect at the boundary (R29). -/
theorem windowBoundary_stop (h : x.c.is R.WIN_STATUS_RUN = true) (hs : x.c.win.stopPending = true) :
    windowBoundary ecc mean peak battMv busMv x = { x with c := x.c.stopWindows } := by
  simp [windowBoundary, h, hs]

end

/-- A tick boundary that is not due does nothing (R21). -/
theorem tickBoundary_notDue (x : Mach) (h : x.c.tab.tickDue = false) : tickBoundary x = x := by
  simp [tickBoundary, h]

/-- Outside a running window there is no guard point (R23). -/
theorem guardPoint_idle (late : List (Fin 768)) (x : Mach) (h : x.c.is R.WIN_STATUS_RUN = false ∨ x.c.win.awaiting = true) :
    guardPoint late x = x := by
  rcases h with h | h <;> simp [guardPoint, h]

/-! ## The count and the phase (R19, R21, R29) -/

/-- The first window keeps the number that it was accepted with (R29). -/
theorem Ctl.countWindow_first (c : Ctl) (h : c.win.awaiting = true) :
    c.countWindow = { c with win := { c.win with awaiting := false }, tab := { c.tab with firstBoundary := true } } := by
  simp [Ctl.countWindow, h]

/-- A later window counts one more (R19). -/
theorem Ctl.countWindow_next (c : Ctl) (h : c.win.awaiting = false) :
    c.countWindow.win.ext = (c.win.ext + 1) % 2 ^ 64 ∧ c.countWindow.get R.WIN_COUNT = (c.win.ext + 1) % 2 ^ 32 ∧
      c.countWindow.tab.firstBoundary = false := by
  have hcount : (c.win.ext + 1) % 2 ^ 64 % 2 ^ R.WIN_COUNT.width = (c.win.ext + 1) % 2 ^ 32 :=
    Nat.mod_mod_of_dvd _ (by decide)
  unfold Ctl.countWindow
  rw [if_neg (by simp [h])]
  extract_lets n _ _ c1 c2
  have hget : c2.get R.WIN_COUNT = (c.win.ext + 1) % 2 ^ 32 := (Ctl.get_set_self _ _ _ _).trans hcount
  unfold Ctl.when
  split
  · exact ⟨by rw [Ctl.raise_win]; rfl, (Ctl.get_raise _ _ _ _ _ _ (by decide)).trans hget, by rw [Ctl.raise_tab]; rfl⟩
  · exact ⟨rfl, hget, rfl⟩

/-- The phase of the window that begins, after the first (R21). -/
def Ctl.nextPhase (c : Ctl) : Nat :=
  if c.get R.WIN_TICK_PHASE < c.get R.WIN_TICK_LEN_ACTIVE then c.get R.WIN_TICK_PHASE + 1 else 0

/-- The phase goes on within the tick's length or back to 0, where a tick boundary falls due (R21). -/
theorem Ctl.phaseWindow_spec (c : Ctl) (hf : c.tab.firstBoundary = false) (hlen : c.get R.WIN_TICK_LEN_ACTIVE < 16) :
    c.phaseWindow.get R.WIN_TICK_PHASE = c.nextPhase ∧
      c.phaseWindow.tab.tickDue = decide (c.get R.WIN_TICK_LEN_ACTIVE ≤ c.get R.WIN_TICK_PHASE) := by
  unfold Ctl.phaseWindow
  extract_lets ph c1 due c2
  have hph : ph = c.nextPhase := by
    simp only [ph, hf, Ctl.nextPhase, Bool.false_eq_true, if_false]
    split <;> split <;> omega
  refine ⟨?_, ?_⟩
  · have hsmall : c.nextPhase < 2 ^ R.WIN_TICK_PHASE.width := by
      have hw : 2 ^ R.WIN_TICK_PHASE.width = 16 := rfl
      rw [hw, Ctl.nextPhase]
      split <;> omega
    have hsame : c1.sameRegsBut c2 [R.WIN_TICK_COUNT] := Ctl.sameRegsBut_when _ _ _ _ (Ctl.sameRegsBut_set _ _ _ _ _ (by simp))
    have hget : c1.get R.WIN_TICK_PHASE = c.nextPhase := by
      rw [Ctl.get_set_self, hph, Nat.mod_eq_of_lt hsmall]
    exact (hsame R.WIN_TICK_PHASE 0 (by decide)).trans hget
  · simp only [due, hph, Ctl.nextPhase]
    split <;> simp <;> omega

/-! ## The statement -/

/-- Settles O10: each command by the lemma of its case; where a boundary or the guard point acts, its definition gives the order.
That the kit's laws and mix jobs run there is the model's choice (log entry 129), as is the order of the lifecycle and the
snapshot within a tick boundary (log entry 108). -/
theorem windowBoundaries : Obligations.WindowBoundaries := by
  unfold Obligations.WindowBoundaries
  refine ⟨fun s n => ⟨fun h => ?_, fun hdue hreq hfrom => ?_⟩, fun s m d ht => ⟨fun hrun => ?_, fun hrun hl => ?_⟩,
    fun s ecc a b v w => ⟨fun hrun => ?_, fun hrun hstop => ?_, fun hrun hstop => ?_⟩,
    fun c => ⟨fun h => ?_, fun h => ?_, fun hf hlen => ?_⟩,
    fun s => ⟨fun h => ?_, fun h => ?_⟩, fun s late => ⟨fun hrun hwait => ?_, fun h => ?_⟩⟩
  · exact next_of_ctl rfl (tickLengthChange_none s.m.fresh.c h)
  · obtain ⟨hlen, htick, hpend, hph, hregs⟩ := s.m.fresh.c.tickLenPut_spec n
    exact ⟨_, next_of_ctl rfl (tickLengthChange_due s.m.fresh.c hdue hreq hfrom), hlen, htick, hpend, hph, rfl, hregs, rfl⟩
  · refine ⟨_, next_of_ctl rfl (winCtrlWrite_stopped m d.toNat s.m.fresh.c ht hrun), ?_, ?_, ?_, rfl⟩
    · simp (disch := decide) only [Ctl.get_set_ne, Ctl.get_set_self, winCtrlLen_of]
      exact Nat.mod_mod _ _
    · simp (disch := decide) only [Ctl.get_set_ne, Ctl.get_set_self, winCtrlRate96_of]
      exact Nat.mod_mod _ _
    · simp (disch := decide) only [Ctl.get_set_self, winCtrlRate96_of]
      exact Nat.mod_mod _ _
  · obtain ⟨herr, -, hregs⟩ := s.m.fresh.c.winState_spec
    exact ⟨_, next_of_ctl rfl (winCtrlWrite_running m d.toNat s.m.fresh.c ht hrun (.inl hl)), herr, hregs _ _ (by decide)⟩
  · exact next_of_mach rfl (windowBoundary_stopped ecc a b v w s.m.fresh hrun)
  · exact ⟨_, next_of_mach rfl (windowBoundary_stop ecc a b v w s.m.fresh hrun hstop), s.m.fresh.c.stopWindows_run, rfl,
      s.m.fresh.c.sameRegsBut_stopWindows, rfl⟩
  · exact next_of_mach rfl ((if_neg (by simp [hrun])).trans (if_neg (by simp [hstop])))
  · exact c.countWindow_next h
  · rw [c.countWindow_first h]
    exact ⟨rfl, rfl, rfl⟩
  · exact c.phaseWindow_spec hf hlen
  · exact next_of_mach rfl (if_neg (by simp [h]))
  · exact next_of_mach rfl (tickBoundary_notDue s.m.fresh h)
  · exact next_of_mach rfl (if_neg (by simp [hrun, hwait]))
  · exact next_of_mach rfl (guardPoint_idle late s.m.fresh h)

end Sys2Proof.Machine
end

section
/-! PROOFS. A write to a PLAN entry that an alarm plan has in use (R70, R248, R249). -/
namespace Sys2Proof.Machine

/-- An active hinge member whose journal has no room for one more record, with plan 63 in use. -/
def fullJournalState : State :=
  { State.reset with m := { State.reset.m with c :=
    ({ State.reset.m.c with hng := { State.reset.m.c.hng with jwords := 16299 } }.set R.HNG_STATUS_ROLE 2).set R.PLAN_STATE 1 63 } }

/-- Refutes O13: the hinge's gate enters a write of the status word, word 11, in the journal whatever the table then answers. The
keeper's own pass the gate while the journal is full, and there that entry sets JOURNAL_FULL_SEEN (R248, R249), a field outside
those that the statement lets a refused write change. -/
theorem not_planEntryBusy : ¬ Obligations.PlanEntryBusy := by
  unfold Obligations.PlanEntryBusy
  intro h
  obtain ⟨t, ht, -, -, -, hregs⟩ :=
    (h fullJournalState .keeper 63 11 0 (by decide) (by decide) (by decide)).1 (.inl (by decide))
  have hnext : exec (.planEntryWrite .keeper 63 11 0) fullJournalState =
    .next (fullJournalState.withCtl (planEntryWrite .keeper 63 11 0)) := rfl
  obtain rfl : fullJournalState.withCtl (planEntryWrite .keeper 63 11 0) = t := Host.Outcome.next.inj (hnext.symm.trans ht)
  exact absurd (hregs R.HNG_STATUS_JOURNAL_FULL_SEEN 0 (by decide)) (by decide +kernel)

end Sys2Proof.Machine
end

section
/-! PROOFS. Requests, activation and fading of objects (R61 to R63). -/
namespace Sys2Proof.Machine

/-! ## What an object's state changes (R60, R61, R65) -/

/-- Writing a field leaves every element of another field. -/
theorem Ctl.get_set_field (c : Ctl) (r : Reg) (v i : Nat) (r' : Reg) (j : Nat) (h : r.id ≠ r'.id) :
    (c.set r v i).get r' j = c.get r' j := Ctl.get_set_ne c r v i r' j (.inl h)

theorem Ctl.denseSlot_regs (c : Ctl) (o st : Nat) : (c.denseSlot o st).regs = c.regs := by
  unfold Ctl.denseSlot
  extract_lets own
  split
  · rfl
  · split
    · rfl
    · split <;> rfl

/-- Beside STATE, a change of state enters BOUND of the source and SRC_MUTE. -/
theorem Ctl.sameRegsBut_objState_set (c : Ctl) (o st : Nat) :
    (c.set R.OBJ_STATE st o).sameRegsBut (c.objState o st) [R.SRC_BOUND, R.OBJ_SRC_MUTE] := by
  unfold Ctl.objState
  extract_lets was src c1 c2 c3 mute
  have h1 : (c.set R.OBJ_STATE st o).sameRegsBut c1 [R.SRC_BOUND, R.OBJ_SRC_MUTE] :=
    Ctl.sameRegsBut_of_regs _ (Ctl.denseSlot_regs _ _ _)
  have h2 : c1.sameRegsBut c2 [R.SRC_BOUND, R.OBJ_SRC_MUTE] := Ctl.sameRegsBut_when _ _ _ _ (Ctl.sameRegsBut_of_regs _ rfl)
  have h3 : c2.sameRegsBut c3 [R.SRC_BOUND, R.OBJ_SRC_MUTE] := by
    unfold c3
    split
    · exact Ctl.sameRegsBut_set _ _ _ _ _ (by simp)
    · split
      · exact Ctl.sameRegsBut_set _ _ _ _ _ (by simp)
      · exact Ctl.sameRegsBut_refl _ _
  exact Ctl.sameRegsBut_trans (Ctl.sameRegsBut_trans h1 h2) (Ctl.sameRegsBut_trans h3 (Ctl.sameRegsBut_set _ _ _ _ _ (by simp)))

/-- The fields that an object's state enters. -/
def objStateFields : List Reg := [R.OBJ_STATE, R.SRC_BOUND, R.OBJ_SRC_MUTE]

theorem Ctl.sameRegsBut_objState (c : Ctl) (o st : Nat) : c.sameRegsBut (c.objState o st) objStateFields :=
  Ctl.sameRegsBut_trans (Ctl.sameRegsBut_set _ _ _ _ _ (by simp [objStateFields]))
    (Ctl.sameRegsBut_mono (c.sameRegsBut_objState_set o st) (by simp [objStateFields]))

theorem Ctl.get_objState_self (c : Ctl) (o : Nat) {st : Nat} (h : st < 8) : (c.objState o st).get R.OBJ_STATE o = st := by
  rw [c.sameRegsBut_objState_set o st _ _ (by decide), Ctl.get_set_self]
  exact Nat.mod_eq_of_lt h

/-- Outside an active hinge member nothing enters the journal (R249). -/
theorem Ctl.jot_of_role (c : Ctl) (kind loc value : Nat) (args : List Nat) (h : c.get R.HNG_STATUS_ROLE ≠ 2) :
    c.jot kind loc value args = c := by
  simp [Ctl.jot, h]

/-! ## Admission (R61, R38) -/

theorem Ctl.objAdmit_spec (c : Ctl) (o : Nat) :
    (c.objAdmit o).get R.OBJ_STATE o = 1 ∧ (c.objAdmit o).get R.OBJ_ACT_REQ o = 1 ∧ (c.objAdmit o).get R.OBJ_LAST o = 0 ∧
      c.sameRegsBut (c.objAdmit o) (objStateFields ++ [R.OBJ_ACT_REQ, R.OBJ_LAST] ++ totalFields) := by
  unfold Ctl.objAdmit
  have hshow : ∀ r : Reg, (∀ f ∈ totalFields, f.id ≠ r.id) →
      ∀ (d : Ctl) (n i : Nat), (d.objWait o n).ledgShow.get r i = d.get r i := fun r hr d n i => Ctl.get_ledgShow _ _ _ hr
  refine ⟨?_, ?_, ?_, ?_⟩
  · rw [hshow _ (by decide)]
    simp (disch := decide) only [Ctl.get_set_field]
    exact c.get_objState_self o (by decide)
  · rw [hshow _ (by decide)]
    simp (disch := decide) only [Ctl.get_set_field, Ctl.get_set_self]
    rfl
  · rw [hshow _ (by decide), Ctl.get_set_self]
    rfl
  · refine Ctl.sameRegsBut_trans ?_ (Ctl.sameRegsBut_mono (Ctl.sameRegsBut_ledgShow _) (by decide))
    refine Ctl.sameRegsBut_trans (b := ((c.objState o 1).set R.OBJ_ACT_REQ 1 o).set R.OBJ_LAST 0 o) ?_ (Ctl.sameRegsBut_of_regs _ rfl)
    refine Ctl.sameRegsBut_trans ?_ (Ctl.sameRegsBut_set _ _ _ _ _ (by simp))
    refine Ctl.sameRegsBut_trans ?_ (Ctl.sameRegsBut_set _ _ _ _ _ (by simp))
    exact Ctl.sameRegsBut_mono (c.sameRegsBut_objState o 1) (by decide)

/-- An object of class `k` whose request is refused with LEDGER (R61). -/
def Ctl.objRefused (c : Ctl) (o k : Nat) : Ctl := ((c.set R.OBJ_ACT_REQ 0 o).set R.OBJ_LAST 5 o).ledgRefuse k o

/-- A refusal changes the request, its status, the count of the class, and what an event changes. -/
theorem Ctl.get_objRefused (c : Ctl) (o k : Nat) (r : Reg) (i : Nat) (h : ∀ f ∈ R.LEDG_REFUSED_COUNT :: evtFields, f.id ≠ r.id) :
    (c.objRefused o k).get r i = ((c.set R.OBJ_ACT_REQ 0 o).set R.OBJ_LAST 5 o).get r i := by
  rw [Ctl.objRefused, Ctl.ledgRefuse, Ctl.get_raise _ _ _ _ _ _ (fun f hf => h f (List.mem_cons_of_mem _ hf)), Ctl.inc,
    Ctl.get_set_field _ _ _ _ _ _ (h _ (List.mem_cons_self ..))]

section
variable (c : Ctl) (o : Nat) (hst : c.get R.OBJ_STATE o = 0) (hk : c.get R.OBJ_CLASS o ≠ 0)
  (hsrc : c.get R.SRC_CLASS (c.get R.OBJ_SRC o) ≤ c.get R.OBJ_CLASS o) (hlaw : c.get R.OBJ_LAW o ≠ 1)
  (hglobal : c.is R.OBJ_GLOBAL o = false) (hrole : c.get R.HNG_STATUS_ROLE = 0)
include hst hk hsrc hlaw hglobal hrole

/-- A local sparse object of class B to D whose charge fits is admitted (R61, R38). -/
theorem Ctl.objDecide_fits (h : c.objFits (c.get R.OBJ_CLASS o) (c.get R.OBJ_COST o) = true) :
    (c.objDecide o).1 = c.objAdmit o := by
  have hr : (c.objAdmit o).get R.HNG_STATUS_ROLE ≠ 2 := by
    obtain ⟨-, -, -, hregs⟩ := c.objAdmit_spec o
    rw [hregs _ _ (by decide), hrole]
    decide
  simp [Ctl.objDecide, hst, hk, Nat.not_lt.2 hsrc, hlaw, Ctl.isCopy, hglobal, h, Ctl.jot_of_role _ _ _ _ _ hr]

/-- One whose charge does not fit is refused with LEDGER (R61, R38). -/
theorem Ctl.objDecide_refused (h : c.objFits (c.get R.OBJ_CLASS o) (c.get R.OBJ_COST o) = false) :
    (c.objDecide o).1 = c.objRefused o (c.get R.OBJ_CLASS o) := by
  have hr : (c.objRefused o (c.get R.OBJ_CLASS o)).get R.HNG_STATUS_ROLE ≠ 2 := by
    rw [Ctl.get_objRefused _ _ _ _ _ (by decide)]
    simp (disch := decide) only [Ctl.get_set_field, hrole]
    decide
  unfold Ctl.objRefused at hr ⊢
  simp [Ctl.objDecide, hst, hk, Nat.not_lt.2 hsrc, hlaw, Ctl.isCopy, hglobal, h, Ctl.jot_of_role _ _ _ _ _ hr]

end

/-- What a refusal with LEDGER leaves (R61). -/
theorem Ctl.objRefused_spec (c : Ctl) (o k : Nat) :
    (c.objRefused o k).get R.OBJ_STATE o = c.get R.OBJ_STATE o ∧ (c.objRefused o k).get R.OBJ_ACT_REQ o = 0 ∧
      (c.objRefused o k).get R.OBJ_LAST o = 5 ∧ (c.objRefused o k).get R.LEDG_REFUSED_COUNT k =
        (c.get R.LEDG_REFUSED_COUNT k + 1) % 2 ^ R.LEDG_REFUSED_COUNT.width := by
  refine ⟨?_, ?_, ?_, ?_⟩
  · rw [Ctl.get_objRefused _ _ _ _ _ (by decide)]
    simp (disch := decide) only [Ctl.get_set_field]
  · rw [Ctl.get_objRefused _ _ _ _ _ (by decide)]
    simp (disch := decide) only [Ctl.get_set_field, Ctl.get_set_self]
    rfl
  · rw [Ctl.get_objRefused _ _ _ _ _ (by decide), Ctl.get_set_self]
    rfl
  · rw [Ctl.objRefused, Ctl.get_ledgRefuse_count]
    simp (disch := decide) only [Ctl.get_set_field]

/-! ## Requests (R61 to R63) -/

/-- An object whose activation waits for its window (R62). -/
def Ctl.objScheduled (c : Ctl) (o : Nat) : Ctl := ((c.set R.OBJ_ACT_REQ 1 o).objState o 7).set R.OBJ_LAST 0 o

/-- A local object that was asked to stop and fades out from the second tick boundary on (R63). -/
def Ctl.objFading (c : Ctl) (o : Nat) : Ctl := ((c.set R.OBJ_ACT_REQ 0 o).set R.OBJ_LAST 0 o).objFade o 2

section
variable (c : Ctl) (o : Nat)

/-- An activation with ACT_AT waits for its window (R62). -/
theorem Ctl.objActivate_scheduled (hst : c.get R.OBJ_STATE o = 0) (h : c.is R.OBJ_ACT_AT o = true) :
    c.objActivate o = c.objScheduled o := by
  simp [Ctl.objActivate, hst, h, Ctl.objScheduled]

/-- One without it is decided at once (R61). -/
theorem Ctl.objActivate_now (hst : c.get R.OBJ_STATE o = 0) (h : c.is R.OBJ_ACT_AT o = false) :
    c.objActivate o = (c.objDecide o).1 := by
  simp [Ctl.objActivate, hst, h]

theorem Ctl.objScheduled_spec :
    (c.objScheduled o).get R.OBJ_STATE o = 7 ∧ (c.objScheduled o).get R.OBJ_ACT_REQ o = 1 ∧
      (c.objScheduled o).get R.OBJ_LAST o = 0 := by
  unfold Ctl.objScheduled
  refine ⟨?_, ?_, ?_⟩
  · rw [Ctl.get_set_field _ _ _ _ _ _ (by decide), Ctl.get_objState_self _ _ (by decide)]
  · rw [Ctl.get_set_field _ _ _ _ _ _ (by decide), Ctl.sameRegsBut_objState _ _ _ _ _ (by decide), Ctl.get_set_self]
    rfl
  · rw [Ctl.get_set_self]
    rfl

/-- A PENDING object that is asked to stop is IDLE, and releases its charge (R63). -/
theorem Ctl.objDeactivate_pending (h : c.get R.OBJ_STATE o = 1) :
    (c.objDeactivate o).get R.OBJ_STATE o = 0 ∧ (c.objDeactivate o).get R.OBJ_ACT_REQ o = 0 ∧
      (c.objDeactivate o).get R.OBJ_LAST o = 0 := by
  unfold Ctl.objDeactivate
  extract_lets st was c1 c2 drop
  rw [if_pos (by simp [st, h])]
  have hshow : ∀ r : Reg, (∀ f ∈ totalFields ++ R.LEDG_STATUS_STEP :: evtFields, f.id ≠ r.id) →
      ({ c2 with ledg := { c2.ledg with shed := c2.ledg.shed.filter drop } }.showStep.ledgShow).get r o = (c1.objState o 0).get r o :=
    fun r hr => (Ctl.get_ledgShow _ _ _ (fun f hf => hr f (List.mem_append_left _ hf))).trans
      (Ctl.get_showStep _ _ _ (fun f hf => hr f (List.mem_append_right _ hf)))
  refine ⟨?_, ?_, ?_⟩
  · rw [hshow _ (by decide), Ctl.get_objState_self _ _ (by decide)]
  · rw [hshow _ (by decide), Ctl.sameRegsBut_objState _ _ _ _ _ (by decide), Ctl.get_set_field _ _ _ _ _ _ (by decide), Ctl.get_set_self]
    rfl
  · rw [hshow _ (by decide), Ctl.sameRegsBut_objState _ _ _ _ _ (by decide), Ctl.get_set_self]
    rfl

/-- An ACTIVE local object that is asked to stop fades out from the second tick boundary on (R63). -/
theorem Ctl.objDeactivate_active (h : c.get R.OBJ_STATE o = 3) (hreq : c.is R.OBJ_ACT_REQ o = true)
    (hglobal : c.is R.OBJ_GLOBAL o = false) :
    c.objDeactivate o = c.objFading o := by
  have hh : ((c.set R.OBJ_ACT_REQ 0 o).set R.OBJ_LAST 0 o).homed o = false := by
    rw [Ctl.homed, Ctl.is_eq]
    simp (disch := decide) only [Ctl.get_set_field]
    rw [← Ctl.is_eq, hglobal, Bool.false_and]
  simp [Ctl.objDeactivate, h, hreq, hh, Ctl.objFading]

theorem Ctl.objFaded_spec (h : c.get R.OBJ_STATE o = 3) :
    cget (c.objFading o).tab.fadeReq o = 2 ∧ (c.objFading o).get R.OBJ_STATE o = 3 ∧ (c.objFading o).get R.OBJ_ACT_REQ o = 0 := by
  have hget : ∀ r : Reg, (c.objFading o).get r o = ((c.set R.OBJ_ACT_REQ 0 o).set R.OBJ_LAST 0 o).get r o := fun _ => rfl
  refine ⟨cget_cset_self c.tab.fadeReq o 2, ?_, ?_⟩
  · rw [hget, Ctl.get_set_field _ _ _ _ _ _ (by decide), Ctl.get_set_field _ _ _ _ _ _ (by decide), h]
  · rw [hget, Ctl.get_set_field _ _ _ _ _ _ (by decide), Ctl.get_set_self]
    rfl

/-! ## The write of ACT_REQ (R56, R61, R63) -/

/-- A write of an entry's head, before ACT_REQ is looked at: the other fields are stored. -/
def Ctl.objHeadStored (c : Ctl) (o d : Nat) : Ctl :=
  (c.store ((objWord 0).filter (fun r => r.id != R.OBJ_ACT_REQ.id)) o d).set R.OBJ_LAST 0 o

theorem Ctl.get_objHeadStored (d : Nat) : (c.objHeadStored o d).get R.OBJ_ACT_REQ o = c.get R.OBJ_ACT_REQ o :=
  (Ctl.get_set_field _ _ _ _ _ _ (by decide)).trans (c.sameRegsBut_store _ _ _ _ _ (by decide))

/-- A write of the head that keeps the locked fields of a local object and changes ACT_REQ is a request. -/
theorem Ctl.objWrite_request (d : Nat) (hn : o < c.objCount) (hs : c.switching = false) (hr : inRange (objWord 0) d = true)
    (hl : c.changes ((objWord 0).filter (·.isIn objLocked)) o d = false) (hglobal : c.is R.OBJ_GLOBAL o = false)
    (hv : R.OBJ_ACT_REQ.of d ≠ c.get R.OBJ_ACT_REQ o) :
    c.objWrite o 0 d =
      if R.OBJ_ACT_REQ.of d = 1 then (c.objHeadStored o d).objActivate o else (c.objHeadStored o d).objDeactivate o := by
  have hro : roWord (objWord 0) = false := by decide
  have hreq := c.get_objHeadStored o d
  unfold Ctl.objHeadStored at hreq ⊢
  simp [Ctl.objWrite, hro, Nat.not_le.2 hn, hs, hr, hl, Ctl.isCopy, hglobal, hreq, hv]

end

/-- Outside a hinge a request of an object is a write of its head, the other fields as they stand (R248). -/
theorem objActReq_off (m : Master) (o : Nat) (on : Bool) (c : Ctl) (hrole : c.get R.HNG_STATUS_ROLE = 0) :
    objActReq m o on c = c.objWrite o 0 (putBit ((objWord 0).foldl (fun n r => n + c.get r o * 2 ^ r.lo) 0) 0 on) := by
  unfold objActReq objEntryWrite
  exact Ctl.hngGate_off _ _ _ _ _ _ hrole

/-- Away from a tick boundary no activation is due (R62). -/
theorem scheduledActivation_notDue (c : Ctl) (h : c.tab.tickDue = false) : scheduledActivation c = c := by
  simp [scheduledActivation, h]

/-- At one, each that is due is decided in order, but on a hinge standby (R62, R42). -/
theorem scheduledActivation_due (c : Ctl) (h : c.tab.tickDue = true) (hrole : c.get R.HNG_STATUS_ROLE ≠ 3) :
    scheduledActivation c = c.each c.scheduledDue (fun c o => (c.objDecide o).1) := by
  simp [scheduledActivation, h, hrole]

/-! ## The statement -/

/-- Settles O14: a request is a write of the entry's head; each state of the object by the lemma of its case. -/
theorem objectActivation : Obligations.ObjectActivation := by
  unfold Obligations.ObjectActivation
  refine ⟨fun s m o d hrole hs hn hg => ⟨fun hd hr hl hv hreq => ?_, fun hd hr hl hv hreq => ?_⟩,
    fun c o hst => ⟨fun hat => ?_, fun hat hk hsrc hlaw hg hrole => ⟨fun hfit => ?_, fun hfit => ?_⟩⟩,
    fun c o hreq => ⟨fun hst => ?_, fun hst hg => ?_⟩, fun s => ⟨fun hdue hrole => ?_, fun hdue => ?_⟩⟩
  · subst hd
    have hw := Ctl.objWrite_request s.m.fresh.c o _ hn hs hr hl hg (by rw [hv]; exact hreq.symm ▸ Nat.one_ne_zero)
    rw [if_pos hv] at hw
    exact next_of_ctl rfl ((objActReq_off m o _ s.m.fresh.c hrole).trans hw)
  · subst hd
    have hw := Ctl.objWrite_request s.m.fresh.c o _ hn hs hr hl hg (by rw [hv]; exact hreq.symm ▸ Nat.zero_ne_one)
    rw [if_neg (by rw [hv]; decide)] at hw
    exact next_of_ctl rfl ((objActReq_off m o _ s.m.fresh.c hrole).trans hw)
  · rw [c.objActivate_scheduled o hst hat]
    exact c.objScheduled_spec o
  · obtain ⟨hstate, hact, hlast, -⟩ := c.objAdmit_spec o
    rw [c.objActivate_now o hst hat, c.objDecide_fits o hst hk hsrc hlaw hg hrole hfit]
    exact ⟨hstate, hact, hlast⟩
  · obtain ⟨hstate, hact, hlast, hcount⟩ := c.objRefused_spec o (c.get R.OBJ_CLASS o)
    rw [c.objActivate_now o hst hat, c.objDecide_refused o hst hk hsrc hlaw hg hrole hfit]
    exact ⟨hstate.trans hst, hact, hlast, hcount⟩
  · exact c.objDeactivate_pending o hst
  · rw [c.objDeactivate_active o hst hreq hg]
    exact c.objFaded_spec o hst
  · exact next_of_ctl rfl (scheduledActivation_due s.m.fresh.c hdue hrole)
  · exact next_of_ctl rfl (scheduledActivation_notDue s.m.fresh.c hdue)

end Sys2Proof.Machine
end

section
/-! PROOFS. Scenes: the end of a load, the boundary of a switch, and REFUSE cells (R68, R71, R72, R74). -/
namespace Sys2Proof.Machine

/-! ## What a reply of the keeper changes (R391, R395) -/

/-- The fields of the letterboxes, and those of a bus error and of an event. -/
def replyFields : List Reg :=
  [R.MBX_LB_DATA, R.MBX_LB_FULL, R.MBX_LB_LB_GO, R.MBX_LB_COLLIDE, R.MBX_STATUS_COLLIDE_SEEN, R.MBX_STATUS_LAST,
    R.MBX_STATUS_FULL_MAP] ++ (mtxFields ++ evtFields)

/-- `c'` has the tables' state of `c` and, but for these, its register fields. -/
structure Replied (c c' : Ctl) : Prop where
  tab : c'.tab = c.tab
  regs : c.sameRegsBut c' replyFields

theorem Replied.refl (c : Ctl) : Replied c c := ⟨rfl, c.sameRegsBut_refl _⟩

theorem Replied.trans {a b c : Ctl} (h : Replied a b) (k : Replied b c) : Replied a c :=
  ⟨k.tab.trans h.tab, Ctl.sameRegsBut_trans h.regs k.regs⟩

theorem Replied.set (c : Ctl) (r : Reg) (v i : Nat) (h : r ∈ replyFields) : Replied c (c.set r v i) :=
  ⟨rfl, c.sameRegsBut_set r v i _ h⟩

theorem Replied.raise (c : Ctl) (src info detail : Nat) : Replied c (c.raise src info detail) :=
  ⟨c.raise_tab _ _ _, c.sameRegsBut_raise _ _ _ _ (fun f hf => by simp [replyFields, hf])⟩

theorem Replied.when (c : Ctl) (p : Bool) (f : Ctl → Ctl) (h : Replied c (f c)) : Replied c (c.when p f) := by
  cases p
  · exact .refl c
  · exact h

theorem Replied.each {α : Type} (l : List α) (f : Ctl → α → Ctl) (h : ∀ c a, Replied c (f c a)) (c : Ctl) :
    Replied c (c.each l f) := by
  induction l generalizing c with
  | nil => exact .refl c
  | cons a l ih => exact (h c a).trans (ih (f c a))

theorem Ctl.denied_tab (c : Ctl) (m : Master) (a : Nat) : (c.denied m a).tab = c.tab := by
  unfold Ctl.denied Ctl.mtxFault
  extract_lets seen cnt ev first c1
  have h1 : c1.tab = c.tab := by
    unfold c1 Ctl.when
    split <;> rfl
  rw [Ctl.emit_tab, Ctl.raise_tab, Ctl.inc, Ctl.set_tab, Ctl.set_tab, h1]

theorem replied_denied (c : Ctl) (m : Master) (a : Nat) : Replied c (c.denied m a) :=
  ⟨c.denied_tab m a, Ctl.sameRegsBut_mono (c.sameRegsBut_denied m a) (fun _ hf => List.mem_append_right _ hf)⟩

theorem replied_collide (c : Ctl) (n : Nat) : Replied c (c.collide n) := by
  unfold Ctl.collide
  split
  · exact ((Replied.set _ _ _ _ (by simp [replyFields])).trans (.set _ _ _ _ (by simp [replyFields]))).trans (.raise _ _ _ _)
  · exact .refl c

theorem replied_lbData (c : Ctl) (m : Master) (n w d : Nat) : Replied c (c.lbData m n w d) := by
  unfold Ctl.lbData
  split
  · exact (replied_denied c _ _).trans (.set _ _ _ _ (by simp [replyFields]))
  · exact ((replied_collide c n).trans (.set _ _ _ _ (by simp [replyFields]))).trans (.set _ _ _ _ (by simp [replyFields]))

theorem replied_showFull (c : Ctl) : Replied c c.showFull := by
  unfold Ctl.showFull
  extract_lets both
  refine Replied.trans ?_ (.set _ _ _ _ (by simp [replyFields]))
  exact ⟨rfl, Ctl.sameRegsBut_of_regs _ rfl⟩

theorem replied_lbGo (c : Ctl) (m : Master) (n : Nat) : Replied c (c.lbGo m n) := by
  unfold Ctl.lbGo
  split
  · exact (replied_denied c _ _).trans (.set _ _ _ _ (by simp [replyFields]))
  · refine Replied.trans ?_ (replied_showFull _)
    refine Replied.trans ?_ (.when _ _ _ (.raise _ _ _ _))
    refine Replied.trans ?_ (.set _ _ _ _ (by simp [replyFields]))
    refine Replied.trans ?_ (.set _ R.MBX_LB_LB_GO _ _ (by simp [replyFields]))
    exact (replied_collide c n).trans (.set _ _ _ _ (by simp [replyFields]))

theorem replied_keepReply (c : Ctl) (p head status : Nat) (res : List Nat) (key : List Byte) :
    Replied c (c.keepReply p head status res key) := by
  unfold Ctl.keepReply
  split
  · exact .refl c
  · exact ((Replied.each _ _ (fun c e => replied_lbData c _ _ _ _) c).trans (replied_lbGo _ _ _)).trans ⟨rfl, fun _ _ _ => rfl⟩

/-- The end of a long command changes what its reply does (R396). -/
theorem replied_keepDone (c : Ctl) (l : LongCmd) (status : Nat) (res : List Nat) : Replied c (c.keepDone l status res) := by
  unfold Ctl.keepDone
  extract_lets _ c1 c2
  have h1 : Replied c c1 := ⟨rfl, Ctl.sameRegsBut_of_regs _ rfl⟩
  have h2 : Replied c1 c2 := by
    unfold c2
    split
    · exact .raise _ _ _ _
    · exact .refl _
  exact (h1.trans h2).trans (replied_keepReply _ _ _ _ _ _)

/-! ## The end of a load (R71) -/

/-- The stage as a load leaves it: the image's tables, programs, meshes and grids, and READY. -/
def Ctl.stageWritten (c : Ctl) : Ctl :=
  let t := c.tab
  let c1 : Ctl := { c with tab := { t with
    stage := t.loadImg, stageHasPlan := t.loadPlan, stageProg := t.loadProg, stageMesh := t.loadMesh, stageGrid := t.loadGrid,
    loadPend := false, loadImg := [], loadProg := [], loadMesh := [], loadGrid := [] } }
  (((c1.set R.SYS_SCENE_STAGE 2).set R.SYS_STAGE_ID t.loadId).set R.SYS_SCENE_LOAD_FAIL 0).bulkAgain 1

theorem Ctl.stageWritten_spec (c : Ctl) :
    c.stageWritten.get R.SYS_SCENE_STAGE = 2 ∧ c.stageWritten.get R.SYS_STAGE_ID = c.tab.loadId % 2 ^ 32 ∧
      c.stageWritten.tab.stage = c.tab.loadImg ∧ c.stageWritten.tab.loadPend = false ∧
      c.stageWritten.get R.SYS_SCENE_LOAD_FAIL = 0 := by
  have hget : ∀ (d : Ctl) (r : Reg), (d.bulkAgain 1).get r = d.get r := fun _ _ => rfl
  unfold Ctl.stageWritten
  extract_lets t c1
  refine ⟨?_, ?_, rfl, rfl, ?_⟩
  · rw [hget, Ctl.get_set_field _ _ _ _ _ _ (by decide), Ctl.get_set_field _ _ _ _ _ _ (by decide), Ctl.get_set_self]
    rfl
  · rw [hget, Ctl.get_set_field _ _ _ _ _ _ (by decide), Ctl.get_set_self]
    rfl
  · rw [hget, Ctl.get_set_self]
    rfl

/-- A load that carries no programs and has a command that waits for it ends with the stage written and a reply (R71, R396). -/
theorem sceneLoadDone_written (x : Mach) {l : LongCmd} (hl : x.c.longOf 0x20 = some l) (hpend : x.c.tab.loadPend = true)
    (hfree : x.c.regionFree x.c.tab.loadProg = true) (hprog : x.c.tab.loadProg = []) :
    sceneLoadDone x = { x with c := x.c.stageWritten.keepDone l 0 [x.c.tab.loadId] } := by
  have hload : x.loadProgs x.c.tab.loadProg = x := by
    rw [hprog]
    rfl
  simp only [sceneLoadDone, hl, hpend, hfree, Bool.not_true, Bool.or_self, Bool.false_eq_true, if_false, hload]
  rfl

/-! ## The boundary of a switch (R72, R74) -/

/-- The bank after a switch: the stage is in force and EMPTY behind it, with its images in their yards (R74, R214). -/
def Ctl.switched (c : Ctl) : Ctl :=
  let c1 := ((((c.exchange.set R.SYS_SCENE_STAGE 0).set R.SYS_STAGE_ID 0).set R.SYS_SCENE_PENDING 0).set R.SYS_SCENE_ID
    (c.get R.SYS_STAGE_ID)).set R.SYS_SCENE_WIN c.exchange.winNo
  let c2 : Ctl := { c1 with tab := { c1.tab with lastSwitch := c1.winNo } }
  (c2.each (c.tab.stageProg.flatMap (fun p => yardsOf p.yards)) (fun c y => c.imageForce y)).faults.ledgShow

/-- At a tick boundary that is not before its window, a pending switch is made (R74). -/
theorem sceneSwitchBoundary_due (c : Ctl) {m : Nat} (hm : c.tab.switchMin = some m) (hdue : c.tab.tickDue = true)
    (hlate : later m c.winNo = false) : sceneSwitchBoundary c = c.switched := by
  unfold sceneSwitchBoundary
  rw [hm]
  exact if_neg (by simp [hdue, hlate])

/-- Away from a tick boundary a pending switch waits (R74). -/
theorem sceneSwitchBoundary_notDue (c : Ctl) (h : c.tab.tickDue = false) : sceneSwitchBoundary c = c := by
  unfold sceneSwitchBoundary
  split
  · rfl
  · simp [h]

/-! ## REFUSE cells (R68, R285) -/

/-- A field set to one value at each element listed. -/
theorem Ctl.get_each_set (r : Reg) (v : Nat) (l : List Nat) (c : Ctl) (o : Nat) :
    (c.each l (fun c i => c.set r v i)).get r o = if o ∈ l then v % 2 ^ r.width else c.get r o := by
  induction l generalizing c with
  | nil => rfl
  | cons a l ih =>
    have hcons : (c.each (a :: l) (fun c i => c.set r v i)) = (c.set r v a).each l (fun c i => c.set r v i) := rfl
    rw [hcons, ih]
    by_cases ho : o = a
    · subst ho
      simp
    · simp [ho, Ctl.get_set_ne _ _ _ _ _ _ (.inr (Ne.symm ho))]

/-- A REFUSE cell that reaches this node marks the objects of its GID that have their home here (R68). -/
theorem refuseReceive_marks (g : Fin 4) (x : Cell) (c d : Ctl) (h : c.ctrlIn g x 2 = (d, true)) {o : Nat} (ho : o < 1024)
    (hglobal : d.is R.OBJ_GLOBAL o = true) (hgid : d.get R.OBJ_GID o = x.words.getD 1 0 % 4096)
    (hhome : d.get R.OBJ_HOME o = d.node) : (refuseReceive g x c).get R.OBJ_REMOTE_REFUSED o = 1 := by
  simp only [refuseReceive, h, Bool.not_true, Bool.false_eq_true, if_false, Ctl.get_each_set]
  exact if_pos (by simp [ho, hglobal, hgid, hhome])

/-! ## The statement -/

/-- Settles O16: the end of a load by its lemmas, the due boundary by its definition, and a REFUSE cell by the objects it marks. -/
theorem sceneLoadAndSwitch : Obligations.SceneLoadAndSwitch := by
  unfold Obligations.SceneLoadAndSwitch
  refine fun s => ⟨fun l hl hpend hfree hprog => ?_, fun m hm hdue hlate => ?_, fun m hm hdue => ?_, fun g x c hc => ?_⟩
  · have hdone := replied_keepDone s.m.fresh.c.stageWritten l 0 [s.m.c.tab.loadId]
    obtain ⟨hstage, hid, himg, hpend', hfail⟩ := s.m.fresh.c.stageWritten_spec
    exact ⟨_, next_of_mach rfl (sceneLoadDone_written s.m.fresh hl hpend hfree hprog), (hdone.regs _ _ (by decide)).trans hstage,
      (hdone.regs _ _ (by decide)).trans hid, (congrArg (·.stage) hdone.tab).trans himg,
      (congrArg (·.loadPend) hdone.tab).trans hpend', (hdone.regs _ _ (by decide)).trans hfail⟩
  · have hnext : exec .sceneSwitchBoundary s = .next (s.withCtl Ctl.switched) :=
      next_of_ctl rfl (sceneSwitchBoundary_due s.m.fresh.c hm hdue hlate)
    exact hnext
  · exact next_of_ctl rfl (sceneSwitchBoundary_notDue s.m.fresh.c hdue)
  · exact ⟨_, next_of_ctl rfl rfl, fun o ho hglobal hgid hhome => refuseReceive_marks g x _ c hc ho hglobal hgid hhome, rfl⟩

end Sys2Proof.Machine
end

section
/-! PROOFS. Sources and their rings, and the laws and the mix that render from them (R65, R78, R85, R89 to R97, R100). -/
namespace Sys2Proof.Machine

/-! ## Writes to a source (R65, R94, R96) -/

/-- Outside a hinge a write to a SRC entry is carried out (R248). -/
theorem srcEntryWrite_off (m : Master) (i w d : Nat) (c : Ctl) (hrole : c.get R.HNG_STATUS_ROLE = 0) :
    srcEntryWrite m i w d c = c.srcWrite i w d := by
  unfold srcEntryWrite
  exact Ctl.hngGate_off _ _ _ _ _ _ hrole

section
variable (c : Ctl) (i d : Nat) (hs : c.switching = false)
include hs

theorem Ctl.srcWrite_head : c.srcWrite i 0 d = c.srcHead i d := by
  have hro : roWord (srcWord 0) = false := by decide
  simp [Ctl.srcWrite, hro, hs]

theorem Ctl.srcWrite_ring : c.srcWrite i 3 d = c.ringWrite i d := by
  have hro : roWord (srcWord 3) = false := by decide
  simp [Ctl.srcWrite, hro, hs]

omit hs
variable (hport : R.SRC_PORT.of d < 10) (hchan : c.chanOk (R.SRC_PORT.of d) (R.SRC_CHAN.of d) = true)
include hport hchan

/-- EN = 1 on a source that is off opens it, where its class suits its objects and its ring fits (R65, R94). -/
theorem Ctl.srcHead_opens (hen : R.SRC_EN.of d = 1) (hoff : c.is R.SRC_EN i = false) (hcls : c.classBreak i (R.SRC_CLASS.of d) = false)
    (hfit : c.ringUsed + ringAlloc (c.get R.SRC_RING i) ≤ c.ringRoom) :
    c.srcHead i d = (((c.store (srcWord 0) i d).set R.SRC_LAST 0 i).srcOpen i).announce := by
  have h10 : R.SRC_PORT.of d ≠ 10 := by omega
  simp [Ctl.srcHead, hen, hoff, hcls, Nat.not_lt.2 hfit, Nat.not_lt.2 hport.le, hchan, h10]

/-- EN = 0 on a source that is on closes it, where its locked fields stand (R65). -/
theorem Ctl.srcHead_closes (hen : R.SRC_EN.of d = 0) (hon : c.is R.SRC_EN i = true)
    (hlock : c.changes ((srcWord 0).filter (·.isIn srcLocked)) i d = false) (hcls : R.SRC_CLASS.of d = c.get R.SRC_CLASS i) :
    c.srcHead i d = (((c.store (srcWord 0) i d).set R.SRC_LAST 0 i).srcClose i).announce := by
  have h10 : R.SRC_PORT.of d ≠ 10 := by omega
  simp [Ctl.srcHead, hen, hon, hlock, hcls, Nat.not_lt.2 hport.le, hchan, h10]

end

/-- The state with a ring length latched for the next window boundary (R96). -/
def Ctl.ringLatched (c : Ctl) (i : Nat) (r : Ring) (n : Nat) : Ctl :=
  { c with src := { c.src with rings := kput c.src.rings i { r with pend := some n } } }.set R.SRC_LAST 0 i

/-- A RING write within the allocation of an open ring waits for the boundary (R96). -/
theorem Ctl.ringWrite_latches (c : Ctl) (i d : Nat) {r : Ring} (hon : c.is R.SRC_EN i = true) (hr : kget? c.src.rings i = some r)
    (h128 : 128 ≤ R.SRC_RING.of d) (hmax : R.SRC_RING.of d ≤ 96068) (hfit : R.SRC_RING.of d ≤ r.alloc) :
    c.ringWrite i d = c.ringLatched i r (R.SRC_RING.of d) := by
  simp only [Ctl.ringWrite, hon, hr, Nat.not_lt.2 h128, Nat.not_lt.2 hmax, Nat.not_lt.2 hfit, decide_false, Bool.or_self,
    Bool.false_eq_true, if_false]
  rfl

theorem Ctl.ringLatched_spec (c : Ctl) (i : Nat) (r : Ring) (n : Nat) :
    kget? (c.ringLatched i r n).src.rings i = some { r with pend := some n } ∧ (c.ringLatched i r n).get R.SRC_LAST i = 0 ∧
      (c.ringLatched i r n).get R.SRC_RING i = c.get R.SRC_RING i :=
  ⟨kget?_kput_self _ _ _, Ctl.get_set_self _ _ _ _, Ctl.get_set_field _ _ _ _ _ _ (by decide)⟩

/-- The state with a latched ring length in force (R96). -/
def Ctl.ringResized (c : Ctl) (i : Nat) (r : Ring) (n : Nat) : Ctl :=
  { c with src := { c.src with rings := kput c.src.rings i (r.resize n) },
           tab := { c.tab with snap := c.tab.snap.set R.SRC_RING i n } }.set R.SRC_RING n i

/-- A latched length takes effect at the boundary (R96). -/
theorem ringLengthChange_latched (c : Ctl) (i : Nat) {r : Ring} {n : Nat} (hr : kget? c.src.rings i = some r)
    (hn : r.pend = some n) : ringLengthChange i c = c.ringResized i r n := by
  simp only [ringLengthChange, hr, hn]
  rfl

theorem Ctl.ringResized_spec (c : Ctl) (i : Nat) (r : Ring) (n : Nat) :
    (c.ringResized i r n).get R.SRC_RING i = n % 2 ^ R.SRC_RING.width ∧
      kget? (c.ringResized i r n).src.rings i = some { r with pend := none, fill := min r.fill n, data := r.data.take n } :=
  ⟨Ctl.get_set_self _ _ _ _, kget?_kput_self _ _ _⟩

/-! ## Gains (R78, R85) -/

/-- A sum of gains is none where one of those listed first is off, and is else bounded (R78). -/
theorem gainSum_spec (offs rest : List Nat) :
    (gainSum offs rest = none ↔ 0x8000 ∈ offs) ∧ ∀ n, gainSum offs rest = some n → n ≤ 1800 := by
  unfold gainSum
  split
  · next h => exact ⟨by simpa using h, by simp⟩
  · next h =>
    refine ⟨by simpa using h, fun n hn => ?_⟩
    rw [← Option.some.inj hn]
    exact min_le_left _ _

theorem distGain_unity (m : ZoneMesh) {k : Nat} (r : Nat) (h : k = 0 ∨ m.mode = 0) : distGain m k r = fOne := by
  unfold distGain
  exact if_pos (by simpa using h)

/-! ## The ramp of a tap's delay (R90, R91, R95) -/

/-- A ramp stays between its ends (R90). -/
theorem rampAt_between (cur target : Int) {q m : Nat} (h : q < m) :
    min cur target ≤ rampAt cur target q m ∧ rampAt cur target q m ≤ max cur target := by
  have hm : (0 : Int) < m := by omega
  have hq : ((q + 1 : Nat) : Int) ≤ m := by omega
  have hq0 : (0 : Int) ≤ ((q + 1 : Nat) : Int) := Int.natCast_nonneg _
  unfold rampAt
  rcases le_total cur target with hle | hle
  · have hd : 0 ≤ target - cur := by omega
    have hlo := Int.ediv_nonneg (mul_nonneg hd hq0) hm.le
    have hhi := Int.ediv_le_of_le_mul hm (mul_le_mul_of_nonneg_left hq hd)
    omega
  · have hd : target - cur ≤ 0 := by omega
    have hlo := Int.le_ediv_of_mul_le hm (mul_le_mul_of_nonpos_left hq hd)
    have hhi := Int.ediv_le_of_le_mul hm ((mul_nonpos_of_nonpos_of_nonneg hd hq0).trans_eq (zero_mul _).symm)
    omega

/-- A ramp ends at its target (R90). -/
theorem rampAt_last (cur target : Int) {q m : Nat} (h : q + 1 = m) : rampAt cur target q m = target := by
  have hm : (m : Int) ≠ 0 := by omega
  rw [rampAt, h, Int.mul_ediv_cancel _ hm]
  omega

section
variable (t : TapRec) (r : Ring) (top s j : Nat) {q m n : Nat} (hn : n = max t.d t.dCur - min t.d t.dCur)
include hn

/-- A delay that changes by more than a quarter of a sample in each sample of its tick jumps, with a cross-fade (R91). -/
theorem TapRec.sample_jump (h : m * 2 ^ 13 < n) :
    t.delay q m = none ∧
      t.sample r top s j q m = crossFade (r.interp s j (min t.dCur top)) (r.interp s j (min t.d top)) q m := by
  have hd : t.delay q m = none := if_pos (hn ▸ h)
  exact ⟨hd, by rw [TapRec.sample, hd]⟩

/-- One that changes by less ramps to its target, and is read at most at the largest usable delay (R90, R95). -/
theorem TapRec.sample_ramp (hq : q < m) (h : n ≤ m * 2 ^ 13) :
    ∃ d, t.delay q m = some d ∧ min t.d t.dCur ≤ d ∧ d ≤ max t.d t.dCur ∧ (q + 1 = m → d = t.d) ∧
      t.sample r top s j q m = r.interp s j (min d top) := by
  have hd : t.delay q m = some (rampAt t.dCur t.d q m).toNat := if_neg (by omega)
  obtain ⟨hlo, hhi⟩ := rampAt_between t.dCur t.d hq
  refine ⟨_, hd, by omega, by omega, fun hlast => ?_, by rw [TapRec.sample, hd]⟩
  rw [rampAt_last _ _ hlast, Int.toNat_natCast]

end

/-! ## Samples past the fill (R94, R97) -/

theorem Ring.point_past (r : Ring) {s j d : Nat} (hj : j < s) (h : r.fill ≤ d + (s - 1 - j)) : r.point s j d = 0 :=
  if_pos (by omega)

theorem Near.point_past (n : Near) (slot : Nat) (w : Mem) {s j d : Nat} (hj : j < s) (h : n.fill ≤ d + (s - 1 - j)) :
    n.point slot w s j d = 0 := by
  have hk : n.fill ≤ d + s - 1 - j := by omega
  simp [Near.point, hk]

/-! ## Accumulation (R89) -/

/-- The accumulator keeps a sum modulo 2^72. -/
theorem wrap72_emod (z : Int) : wrap72 z % 2 ^ 72 = z % 2 ^ 72 := by
  rw [wrap72, ux_eq, sx_toInt, BitVec.toInt_ofInt]
  exact Int.bmod_emod

theorem Ctl.accBlock_off (c : Ctl) (f : Nat) (zs : List Int) (h : c.is R.FEED_EN f = false) : c.accBlock f zs = c := by
  simp [Ctl.accBlock, h]

theorem Ctl.accBlock_regs (c : Ctl) (f : Nat) (zs : List Int) : (c.accBlock f zs).regs = c.regs := by
  unfold Ctl.accBlock
  split <;> rfl

theorem Ctl.accBlock_others (c : Ctl) (f : Nat) (zs : List Int) {g : Nat} (h : g ≠ f) :
    kget? (c.accBlock f zs).corr.feeds g = kget? c.corr.feeds g := by
  unfold Ctl.accBlock
  split
  · rfl
  · exact kget?_kput_ne _ _ h

/-- A block adds its samples to the accumulators of an enabled feed, modulo 2^72 (R89). -/
theorem Ctl.accBlock_adds (c : Ctl) (f : Nat) (zs : List Int) (hon : c.is R.FEED_EN f = true)
    (hlen : (kgetD c.corr.feeds f {}).acc.length = zs.length) {i : Nat} (hi : i < zs.length) :
    (((kgetD (c.accBlock f zs).corr.feeds f {}).acc.getD i 0) -
      ((kgetD c.corr.feeds f {}).acc.getD i 0 + zs.getD i 0)) % 2 ^ 72 = 0 := by
  have hne : (kgetD c.corr.feeds f {}).acc.isEmpty = false := by
    rw [List.isEmpty_eq_false_iff_exists_mem]
    exact ⟨_, List.getElem_mem (hlen ▸ hi)⟩
  have hacc : (kgetD (c.accBlock f zs).corr.feeds f {}).acc =
      List.zipWith (fun a z => wrap72 (a + z)) (kgetD c.corr.feeds f {}).acc zs := by
    simp [Ctl.accBlock, hon, hne]
  have hi' : i < (kgetD c.corr.feeds f {}).acc.length := hlen ▸ hi
  rw [hacc, List.getD_eq_getElem _ _ (by simp [hi, hi']), List.getD_eq_getElem _ _ hi', List.getD_eq_getElem _ _ hi, List.getElem_zipWith]
  exact Int.emod_eq_emod_iff_emod_sub_eq_zero.1 (wrap72_emod _)

/-! ## Words of the byte memories -/

theorem Mem.getElem_rds (m : Mem) (a n i : Nat) (h : i < (m.rds a n).length) : (m.rds a n)[i] = m.rd (a + i) := by
  induction n generalizing a i with
  | zero => simp [Mem.rds] at h
  | succ n ih =>
    cases i with
    | zero => rfl
    | succ i => exact (ih (a + 1) i (by simpa using h)).trans (by rw [Nat.add_assoc, Nat.add_comm 1])

/-- Part of the bytes read, read at its own address. -/
theorem Mem.take_drop_rds (m : Mem) (a : Nat) {n o k : Nat} (h : o + k ≤ n) : ((m.rds a n).drop o).take k = m.rds (a + o) k := by
  refine List.ext_getElem (by simp; omega) (fun i h1 h2 => ?_)
  rw [List.getElem_take, List.getElem_drop, Mem.getElem_rds, Mem.getElem_rds, Nat.add_assoc]

/-- A value reads as written, modulo its size. -/
theorem Mem.rdN_wrN_self (m : Mem) (a n v : Nat) : (m.wrN a n v).rdN a n = v % 256 ^ n := by
  have hbytes : (m.wrN a n v).rds a n = leBytes n v := by
    refine List.ext_getElem (by simp) (fun i h1 h2 => ?_)
    rw [Mem.getElem_rds]
    exact Mem.rd_wrs_inside _ _ _ _ h2
  rw [Mem.rdN, hbytes, leVal_leBytes]

/-- A value written beside another leaves it. -/
theorem Mem.rdN_wrN_of_disjoint (m : Mem) {a b n k : Nat} (v : Nat) (h : b + k ≤ a ∨ a + n ≤ b) :
    (m.wrN a n v).rdN b k = m.rdN b k := by
  refine congrArg leVal (List.ext_getElem (by simp) (fun i h1 h2 => ?_))
  rw [Mem.getElem_rds, Mem.getElem_rds]
  rw [Mem.length_rds] at h1
  exact Mem.rd_wrs_of_outside _ _ (by simp only [leBytes_length]; omega)

/-! ## Tap records (R92, R93) -/

/-- A tap record word by word (R93). -/
theorem tapRec_eq (m : Mem) (a : Nat) {p : Nat} (hp : p < 2) :
    tapRec m a p = ⟨sx 24 (m.rdN (a + 4) 4), m.rdN (a + 8) 4, sx 32 (m.rdN (a + 12) 4), sx 24 (m.rdN (a + (0x10 + 16 * p)) 4),
      m.rdN (a + (0x10 + 16 * p + 4)) 4, m.rdN (a + (0x10 + 16 * p + 8)) 4 % 2 ^ 24, m.rdN (a + (0x10 + 16 * p + 12)) 4 % 2 == 1⟩ := by
  have hword : ∀ o, o + 4 ≤ 48 → leVal (((m.rds a 48).drop o).take 4) = m.rdN (a + o) 4 :=
    fun o h => congrArg leVal (m.take_drop_rds a h)
  simp only [tapRec]
  rw [hword _ (by omega), hword _ (by omega), hword _ (by omega), hword _ (by omega), hword _ (by omega), hword _ (by omega),
    hword _ (by omega)]

/-- A target set that is written leaves every word beside it. -/
theorem Mem.rdN_tapSet_of_disjoint (m : Mem) {a p b : Nat} (g : Int) (d air en : Nat)
    (h : b + 4 ≤ a + 0x10 + 16 * p ∨ a + 0x10 + 16 * p + 16 ≤ b) : (m.tapSet a p g d air en).rdN b 4 = m.rdN b 4 := by
  unfold Mem.tapSet
  rw [Mem.rdN_wrN_of_disjoint _ _ (by omega), Mem.rdN_wrN_of_disjoint _ _ (by omega), Mem.rdN_wrN_of_disjoint _ _ (by omega),
    Mem.rdN_wrN_of_disjoint _ _ (by omega)]

theorem Mem.rdN_tapSet (m : Mem) (a p : Nat) (g : Int) (d air en : Nat) :
    (m.tapSet a p g d air en).rdN (a + (0x10 + 16 * p)) 4 = ux 32 g % 256 ^ 4 ∧
      (m.tapSet a p g d air en).rdN (a + (0x10 + 16 * p + 4)) 4 = d % 256 ^ 4 ∧
      (m.tapSet a p g d air en).rdN (a + (0x10 + 16 * p + 8)) 4 = air % 256 ^ 4 ∧
      (m.tapSet a p g d air en).rdN (a + (0x10 + 16 * p + 12)) 4 = en % 256 ^ 4 := by
  unfold Mem.tapSet
  simp only [← Nat.add_assoc]
  refine ⟨?_, ?_, ?_, Mem.rdN_wrN_self _ _ _ _⟩
  · rw [Mem.rdN_wrN_of_disjoint _ _ (by omega), Mem.rdN_wrN_of_disjoint _ _ (by omega), Mem.rdN_wrN_of_disjoint _ _ (by omega),
      Mem.rdN_wrN_self]
  · rw [Mem.rdN_wrN_of_disjoint _ _ (by omega), Mem.rdN_wrN_of_disjoint _ _ (by omega), Mem.rdN_wrN_self]
  · rw [Mem.rdN_wrN_of_disjoint _ _ (by omega), Mem.rdN_wrN_self]

/-- A gain of 24 bits is stored as a word and read again. -/
theorem sx_ux_gain {g : Int} (hlo : -2 ^ 23 ≤ g) (hhi : g < 2 ^ 23) : sx 24 (ux 32 g % 256 ^ 4) = g := by
  unfold sx ux
  split <;> omega

/-- A target set reads as written (R93). -/
theorem tapRec_tapSet (m : Mem) (a : Nat) {p : Nat} {g : Int} {d air : Nat} (hp : p < 2) (hlo : -2 ^ 23 ≤ g) (hhi : g < 2 ^ 23)
    (hd : d < 2 ^ 32) (hair : air < 2 ^ 24) :
    (tapRec (m.tapSet a p g d air 1) a p).g = g ∧ (tapRec (m.tapSet a p g d air 1) a p).d = d ∧
      (tapRec (m.tapSet a p g d air 1) a p).a = air ∧ (tapRec (m.tapSet a p g d air 1) a p).air = true := by
  obtain ⟨hg4, hd4, ha4, hen4⟩ := m.rdN_tapSet a p g d air 1
  rw [tapRec_eq _ _ hp]
  simp only [hg4, hd4, ha4, hen4]
  exact ⟨sx_ux_gain hlo hhi, by omega, by omega, rfl⟩

/-- The other target set, and the current values, stand (R93). -/
theorem tapRec_tapSet_other (m : Mem) (a : Nat) {p : Nat} (g : Int) (d air en : Nat) (hp : p < 2) :
    tapRec (m.tapSet a p g d air en) a (1 - p) = tapRec m a (1 - p) := by
  have hword : ∀ o, o + 4 ≤ 0x10 + 16 * p ∨ 0x10 + 16 * p + 16 ≤ o →
      (m.tapSet a p g d air en).rdN (a + o) 4 = m.rdN (a + o) 4 :=
    fun o h => m.rdN_tapSet_of_disjoint g d air en (by omega)
  rw [tapRec_eq _ _ (by omega), tapRec_eq _ _ (by omega), hword _ (by omega), hword _ (by omega), hword _ (by omega),
    hword _ (by omega), hword _ (by omega), hword _ (by omega), hword _ (by omega)]

/-- OBJ.TAPS shows the taps that are live (R92). -/
theorem Ctl.showTaps_spec (c : Ctl) (o : Nat) :
    (c.showTaps o).get R.OBJ_TAPS o = ((c.showTaps o).tapsOf o).length % 2 ^ R.OBJ_TAPS.width :=
  Ctl.get_set_self _ _ _ _

theorem Mach.assignTaps_shown (x : Mach) (t : RegMap) (o q : Nat) (fresh : Bool) (goals : Keyed TapGoal) :
    (x.assignTaps t o q fresh goals).c.get R.OBJ_TAPS o =
      ((x.assignTaps t o q fresh goals).c.tapsOf o).length % 2 ^ R.OBJ_TAPS.width := by
  unfold Mach.assignTaps
  exact Ctl.showTaps_spec _ o

/-! ## Targets of the laws (R95, R97) -/

theorem Ctl.zoneGoals_le (c : Ctl) (t : RegMap) (o z : Nat) (amps : Keyed Nat) :
    ∀ e ∈ c.zoneGoals t o z amps, e.2.d ≤ c.dMax (t.get R.SRC_RING (t.get R.OBJ_SRC o)) * 2 ^ 15 := by
  unfold Ctl.zoneGoals
  intro e he
  obtain ⟨a, -, rfl⟩ := List.mem_map.1 he
  exact min_le_right _ _

theorem Ctl.denseZone_le (c : Ctl) (t : RegMap) (o z : Nat) : ∀ e ∈ c.denseZone t o z, e.2.d ≤ 4096 - c.winSamples - 4 := by
  unfold Ctl.denseZone
  extract_lets s goal
  intro e he
  split at he
  · obtain ⟨f, -, rfl⟩ := List.mem_map.1 he
    exact min_le_right _ _
  · obtain ⟨a, -, rfl⟩ := List.mem_map.1 he
    exact min_le_right _ _

/-! ## The solve of a zone (R100) -/

/-- Every delay of a solve is within a limit. -/
def Delays.within (ts : Delays) (limit : Nat) : Prop := ∀ f, (kgetD ts f (0, false)).1 ≤ limit

theorem Delays.within_of_forall {ts : Delays} {limit : Nat} (h : ∀ e ∈ ts, e.2.1 ≤ limit) : ts.within limit := by
  intro f
  induction ts with
  | nil => exact Nat.zero_le _
  | cons e ts ih =>
    obtain ⟨k, v⟩ := e
    by_cases hk : k = f
    · simpa [kgetD, kget?, hk] using h (k, v) (List.mem_cons_self ..)
    · simpa [kgetD, kget?, hk] using ih (fun e he => h e (List.mem_cons_of_mem _ he))

/-- One point of a pass keeps every delay within the limit (R100). -/
theorem SolveCfg.point_within (q : SolveCfg) (s : Delays × Bool) (p : Point) (h : s.1.within q.limit) :
    (q.point s p).1.within q.limit := by
  unfold SolveCfg.point
  split
  · next l g _ _ =>
    split
    · exact h
    · extract_lets unit push t
      intro f
      by_cases hf : f = l.feed
      · subst hf
        rw [kgetD_kput_self]
        split <;> omega
      · rw [kgetD_kput_ne _ _ _ hf]
        exact h f
  · exact h

theorem SolveCfg.pass_within (q : SolveCfg) (ps : List Point) (s : Delays × Bool) (h : s.1.within q.limit) :
    (ps.foldl q.point s).1.within q.limit := by
  induction ps generalizing s with
  | nil => exact h
  | cons p ps ih => exact ih _ (q.point_within s p h)

/-- A solve makes no more passes than asked for and keeps every delay within the limit (R100). -/
theorem SolveCfg.run_spec (q : SolveCfg) (ps : List Point) (n : Nat) (ts : Delays) (h : ts.within q.limit) :
    (q.run ps n ts).2 ≤ n ∧ (q.run ps n ts).1.within q.limit := by
  induction n generalizing ts with
  | zero => exact ⟨Nat.le_refl _, h⟩
  | succ n ih =>
    have hpass := q.pass_within ps (ts, false) h
    unfold SolveCfg.run
    extract_lets s r
    split
    · obtain ⟨hle, hin⟩ := ih s.1 hpass
      exact ⟨Nat.succ_le_succ hle, hin⟩
    · exact ⟨Nat.succ_le_succ (Nat.zero_le _), hpass⟩

/-- A solve that leaves points unresolved marks it, and its solution is kept (R100). -/
theorem Ctl.solve_unresolved (c : Ctl) (t : RegMap) (z : Nat) (h : (c.solveZone t z).unresolved ≠ 0) :
    (c.solve t z).get R.SYS_LAW_STATUS_EXIT_SEEN = 1 ∧ kget? (c.solve t z).src.solves z = some (c.solveZone t z) := by
  unfold Ctl.solve
  extract_lets s c1
  rw [if_neg h]
  refine ⟨?_, ?_⟩
  · rw [Ctl.get_raise _ _ _ _ _ _ (by decide), Ctl.get_set_self]
    rfl
  · rw [Ctl.raise_src]
    exact kget?_kput_self _ _ _

/-! ## The statement -/

/-- Settles O15: the writes and the boundary by their cases; each law and each step of the mix by its lemma. -/
theorem sourceRings : Obligations.SourceRings := by
  unfold Obligations.SourceRings
  refine ⟨fun s m i hrole hs => ⟨fun d hd hen hoff hport hchan hcls hfit => ?_, fun d hd hen hon hport hchan hlock hcls => ?_,
      fun d r hon hr h128 hmax hfit => ?_, fun r n hr hn => ?_⟩,
    gainSum_spec, fun m k r h => distGain_unity m r h,
    fun t r top s j q m n hn hq => ⟨t.sample_jump r top s j hn, t.sample_ramp r top s j hn hq⟩,
    fun r n w slot s j d hj => ⟨r.point_past hj, n.point_past slot w hj⟩,
    fun c f zs => ⟨c.accBlock_off f zs, c.accBlock_regs f zs, fun g hg => c.accBlock_others f zs hg,
      fun hon hlen i hi => c.accBlock_adds f zs hon hlen hi⟩,
    fun m a p d air g _ hp hlo hhi hd hair => ⟨tapRec_tapSet m a hp hlo hhi hd hair, tapRec_tapSet_other m a g d air 1 hp⟩,
    fun x t o q fresh goals _ => x.assignTaps_shown t o q fresh goals,
    fun c t o z amps => ⟨c.zoneGoals_le t o z amps, c.denseZone_le t o z⟩,
    fun q ps n ts h => q.run_spec ps n ts (Delays.within_of_forall h),
    fun c t z _ h => c.solve_unresolved t z h⟩
  · subst hd
    have hw := (Ctl.srcWrite_head s.m.fresh.c i _ hs).trans (Ctl.srcHead_opens s.m.fresh.c i _ hport hchan hen hoff hcls hfit)
    exact next_of_ctl rfl ((srcEntryWrite_off m i 0 _ s.m.fresh.c hrole).trans hw)
  · subst hd
    have hw := (Ctl.srcWrite_head s.m.fresh.c i _ hs).trans (Ctl.srcHead_closes s.m.fresh.c i _ hport hchan hen hon hlock hcls)
    exact next_of_ctl rfl ((srcEntryWrite_off m i 0 _ s.m.fresh.c hrole).trans hw)
  · have hw := (Ctl.srcWrite_ring s.m.fresh.c i _ hs).trans (Ctl.ringWrite_latches s.m.fresh.c i _ hon hr h128 hmax hfit)
    obtain ⟨hring, hlast, hkeep⟩ := s.m.fresh.c.ringLatched_spec i r (R.SRC_RING.of d.toNat)
    exact ⟨_, next_of_ctl rfl ((srcEntryWrite_off m i 3 _ s.m.fresh.c hrole).trans hw), hring, hlast, hkeep, rfl⟩
  · obtain ⟨hlen, hring⟩ := s.m.fresh.c.ringResized_spec i r n
    exact ⟨_, next_of_ctl rfl (ringLengthChange_latched s.m.fresh.c i hr hn), hlen, hring, rfl⟩

end Sys2Proof.Machine
end

section
/-! PROOFS. Correction banks: loads, swaps and fades, and the start of a pending swap (R113 to R115). -/
namespace Sys2Proof.Machine

/-- A further write of a field of the list changes nothing outside it. -/
theorem Ctl.sameRegsBut_set_right {c d : Ctl} {l : List Reg} (h : c.sameRegsBut d l) {r : Reg} (v i : Nat) (hr : r ∈ l) :
    c.sameRegsBut (d.set r v i) l :=
  Ctl.sameRegsBut_trans h (d.sameRegsBut_set r v i l hr)

/-! ## DRAM within a load (R112, R354) -/

/-- A write of whole chunks covers each chunk that it meets, so no bad chunk freezes DRAM. -/
theorem Ctl.dramTouch_chunks (c : Ctl) (req master cls : Nat) {a n : Nat} (ha : 32 ∣ a) (hn : 32 ∣ n) :
    ∃ d : DramSt, (c.dramTouch req master cls true a n).1 = { c.dramWake with dram := d } := by
  unfold Ctl.dramTouch
  extract_lets c1 met whole
  have hwhole : ∀ k ∈ met, whole k = true := by
    intro k hk
    have hmet := (List.mem_filter.1 hk).2
    simp only [whole, Bool.true_and, Bool.and_eq_true, decide_eq_true_iff] at hmet ⊢
    omega
  have hnone : met.filter (fun k => !whole k) = [] := List.filter_eq_nil_iff.2 fun k hk => by simp [hwhole k hk]
  split
  · exact ⟨c1.dram, rfl⟩
  · rw [hnone]
    exact ⟨_, rfl⟩

/-! ## Loads (R113) -/

/-- VALID of a bank is one of two fields. -/
theorem validReg_cases (b : Nat) : validReg b = R.CORR_FEED_VALID_A ∨ validReg b = R.CORR_FEED_VALID_B := by
  unfold validReg
  split
  · exact .inl rfl
  · exact .inr rfl

theorem validReg_width (b : Nat) : (validReg b).width = 1 := by
  rcases validReg_cases b with h | h <;> rw [h] <;> rfl

/-- Fields other than both VALID fields are other fields than VALID of any bank. -/
theorem validReg_not_in {l : List Reg} (h : ∀ f ∈ l, f.id ≠ R.CORR_FEED_VALID_A.id ∧ f.id ≠ R.CORR_FEED_VALID_B.id) (b : Nat) :
    ∀ f ∈ l, f.id ≠ (validReg b).id := by
  intro f hf
  rcases validReg_cases b with e | e <;> rw [e]
  · exact (h f hf).1
  · exact (h f hf).2

theorem validReg_id_ne {r : Reg} (ha : r.id ≠ R.CORR_FEED_VALID_A.id) (hb : r.id ≠ R.CORR_FEED_VALID_B.id) (b : Nat) :
    r.id ≠ (validReg b).id := validReg_not_in (l := [r]) (by simp [ha, hb]) b r (by simp)

theorem Ctl.loadEnd_spec (c : Ctl) (f : Nat) {code : Nat} (h : code < 16) :
    (c.loadEnd f code).get R.CORR_LOAD_STATUS_LAST = code ∧ (c.loadEnd f code).corr = c.corr ∧
      c.sameRegsBut (c.loadEnd f code) (R.CORR_LOAD_STATUS_LAST :: evtFields) := by
  refine ⟨?_, by simp [Ctl.loadEnd], ?_⟩
  · rw [Ctl.loadEnd, Ctl.get_raise _ _ _ _ _ _ (by decide), Ctl.get_set_self]
    exact Nat.mod_eq_of_lt h
  · exact Ctl.sameRegsBut_trans (Ctl.sameRegsBut_set _ _ _ _ _ (by simp)) (Ctl.sameRegsBut_raise _ _ _ _ _ (by simp +contextual))

theorem Ctl.loadBegin_spec (c : Ctl) (slot : Nat) (l : BankLoad) :
    (c.loadBegin slot l).get R.CORR_LOAD_STATUS_BUSY = 1 ∧ (c.loadBegin slot l).get (validReg l.bank) l.feed = 0 ∧
      (c.loadBegin slot l).get R.CORR_FEED_LOADING l.feed = 1 ∧ (c.loadBegin slot l).corr.load = some l := by
  unfold Ctl.loadBegin
  extract_lets
  refine ⟨?_, ?_, Ctl.get_set_self _ _ _ _, rfl⟩
  · rw [Ctl.get_set_field _ _ _ _ _ _ (by decide), Ctl.get_set_field _ _ _ _ _ _ (validReg_id_ne (by decide) (by decide) _).symm]
    simp (disch := decide) only [Ctl.get_set_field, Ctl.get_set_self]
    rfl
  · rw [Ctl.get_set_field _ _ _ _ _ _ (validReg_id_ne (by decide) (by decide) _), Ctl.get_set_self]
    exact Nat.zero_mod _

/-- The image in DRAM at `base` is a bank image for feed `f` at the rate of the module (R113). -/
structure Mach.GoodImage (x : Mach) (base f : Nat) : Prop where
  magic : x.m.dram.rdN base 4 = 0x4B4E4243
  version : x.m.dram.rdN (base + 4) 2 = 1
  someTaps : 1 ≤ x.m.dram.rdN (base + 6) 2
  mostTaps : x.m.dram.rdN (base + 6) 2 ≤ 8192
  crc : crc32 (x.m.dram.rds (base + 0x40) (4 * x.m.dram.rdN (base + 6) 2)) = x.m.dram.rdN (base + 0x10) 4
  rate : bit (x.m.dram.rdN (base + 0xA) 2) 0 = x.c.rate96
  feed : x.m.dram.rdN (base + 8) 2 = f

/-- The load that a GO asks for. -/
def Mach.loadOf (x : Mach) (f b base : Nat) : BankLoad :=
  ⟨f, b, x.m.dram.rdN (base + 0xC) 4, x.m.dram.rdN (base + 0x10) 4,
    (List.range (x.m.dram.rdN (base + 6) 2)).map (fun i => x.m.dram.rdN (base + (0x40 + 4 * i)) 4 / 256), x.c.winNo⟩

/-- A GO that meets none of R113's refusals begins the load. -/
theorem Mach.loadGo_begins (x : Mach) {f b slot base : Nat} (hidle : x.c.is R.CORR_LOAD_STATUS_BUSY = false)
    (hf : f < x.c.feedCount) (hfree : x.c.bankBusy f b = false) (hbase : base = x.c.base64k R.CORR_STAGE_BASE + slot * 0x10000)
    (himg : x.GoodImage base f) (hup : x.c.dramDown = false) (hgood : x.c.dram.bad = []) :
    x.loadGo f b slot = { x with c := x.c.loadBegin slot (x.loadOf f b base) } := by
  subst hbase
  obtain ⟨hmagic, hver, hsome, hmost, hcrc, hrate, hfeed⟩ := himg
  unfold Mach.loadGo
  extract_lets c base rd taps q bad l
  have hq : q.2 = true := by simp [q, c, hup, Ctl.dramTouch_of_good _ _ _ _ _ _ _ hgood]
  have hbad : bad = false := by
    simp only [bad, rd, taps, base, c, Nat.add_zero, hmagic, hver, hcrc]
    simp; omega
  rw [if_neg (by simp [c, hidle]), if_neg (Nat.not_le.2 hf), if_neg (by simp [c, hfree]), if_neg (by simp [hq]),
    if_neg (by simp [hbad]), if_neg (by simp [rd, c, base, hrate, hfeed])]
  rfl

/-- A GO while a load is in progress ends with BUSY. -/
theorem Mach.loadGo_busy (x : Mach) (f b slot : Nat) (h : x.c.is R.CORR_LOAD_STATUS_BUSY = true) :
    x.loadGo f b slot = { x with c := x.c.loadEnd f 3 } := if_pos h

theorem Ctl.sameRegsBut_loadBegin (c : Ctl) (slot : Nat) (l : BankLoad) : c.sameRegsBut (c.loadBegin slot l)
    [R.CORR_LOAD_FEED, R.CORR_LOAD_BANK, R.CORR_LOAD_SLOT, R.CORR_LOAD_STATUS_BUSY, R.CORR_LOAD_STATUS_FEED,
      R.CORR_LOAD_STATUS_BANK, R.CORR_FEED_VALID_A, R.CORR_FEED_VALID_B, R.CORR_FEED_LOADING] := by
  have hvalid : validReg l.bank = R.CORR_FEED_VALID_A ∨ validReg l.bank = R.CORR_FEED_VALID_B := validReg_cases l.bank
  unfold Ctl.loadBegin
  extract_lets
  refine Ctl.sameRegsBut_set_right (Ctl.sameRegsBut_set_right ?_ _ _ (by rcases hvalid with h | h <;> simp [h])) _ _ (by simp)
  iterate 6 refine Ctl.sameRegsBut_set_right ?_ _ _ (by simp)
  exact Ctl.sameRegsBut_of_regs _ rfl

/-- Outside a hinge a GO is the load's own, and nothing enters the journal. -/
theorem corrLoadGo_off (m : Master) {f b slot : Nat} {x : Mach} {c : Ctl} (hgo : x.loadGo f b slot = { x with c := c })
    (hrole : x.c.get R.HNG_STATUS_ROLE = 0) (hkeep : c.get R.HNG_STATUS_ROLE = x.c.get R.HNG_STATUS_ROLE) :
    corrLoadGo m f b slot x = { x with c := c } := by
  have hbar : x.c.hngBar m = 0 := by simp [Ctl.hngBar, hrole]
  have hjot : ∀ k l v, c.jot k l v = c := fun k l v => c.jot_of_role k l v [] (by omega)
  unfold corrLoadGo
  extract_lets k y
  have hy : y = { x with c := c } := hgo
  rw [if_neg (by simp [k, hbar]), hy]
  split
  · rw [hjot]
  · rfl

/-- A bank that is written holds its taps and is VALID; only DRAM and the loft hold other bytes. -/
theorem Mach.bankPut_spec (x : Mach) (l : BankLoad) :
    kget? (x.bankPut l).c.corr.banks (2 * l.feed + l.bank) = some l.taps ∧ (x.bankPut l).c.get (validReg l.bank) l.feed = 1 ∧
      (x.bankPut l).m.store = x.m.store ∧ (x.bankPut l).m.imem = x.m.imem ∧ (x.bankPut l).m.dmem = x.m.dmem ∧
      (x.bankPut l).m.nor = x.m.nor := by
  unfold Mach.bankPut
  extract_lets k bank direct loftAt head _ _ c c1 _
  have hbank : 32 ∣ bank := by simp only [bank, Ctl.base64k]; omega
  obtain ⟨d, hd⟩ := c.dramTouch_chunks (feedYard l.feed) 0 3 hbank (n := 0x10000) (by decide)
  have hc1 : c1 = { c.dramWake with dram := d } := hd
  refine ⟨?_, ?_, rfl, rfl, rfl, rfl⟩
  · rw [Ctl.set_corr, hc1, Ctl.dramWake_corr]
    exact kget?_kput_self _ _ _
  · rw [Ctl.get_set_self, validReg_width]
    rfl

/-- No load is in progress. -/
def Ctl.noLoad (c : Ctl) : Ctl := { c with corr := { c.corr with load := none } }

/-- A load that completes, its bank being written (R113). -/
def Ctl.loadDone (c : Ctl) (l : BankLoad) : Ctl :=
  (((c.noLoad.bulkAgain (8 + 2 * l.feed + l.bank)).set R.CORR_FEED_LOADING 0 l.feed).set R.CORR_LOAD_STATUS_BUSY 0).loadEnd l.feed 0

theorem bankLoadComplete_done (x : Mach) {l : BankLoad} (hl : x.c.corr.load = some l) (hm : x.c.get R.DRAM_STATUS_MODE ≠ 3) :
    bankLoadComplete x = { x.bankPut l with c := (x.bankPut l).c.loadDone l } := by
  simp only [bankLoadComplete, hl, if_neg hm]
  rfl

theorem Ctl.loadDone_spec (c : Ctl) (l : BankLoad) :
    (c.loadDone l).corr = { c.corr with load := none } ∧ (c.loadDone l).get (validReg l.bank) l.feed = c.get (validReg l.bank) l.feed ∧
      (c.loadDone l).get R.CORR_FEED_LOADING l.feed = 0 ∧ (c.loadDone l).get R.CORR_LOAD_STATUS_BUSY = 0 ∧
      (c.loadDone l).get R.CORR_LOAD_STATUS_LAST = 0 := by
  obtain ⟨hlast, hcorr, hkeep⟩ := (((c.noLoad.bulkAgain (8 + 2 * l.feed + l.bank)).set R.CORR_FEED_LOADING 0 l.feed).set
    R.CORR_LOAD_STATUS_BUSY 0).loadEnd_spec l.feed (code := 0) (by decide)
  refine ⟨hcorr, (hkeep _ _ (validReg_not_in (by decide) _)).trans ?_, (hkeep _ _ (by decide)).trans ?_,
    (hkeep _ _ (by decide)).trans ?_, hlast⟩
  · rw [Ctl.get_set_field _ _ _ _ _ _ (validReg_id_ne (by decide) (by decide) _),
      Ctl.get_set_field _ _ _ _ _ _ (validReg_id_ne (by decide) (by decide) _)]
    rfl
  · simp (disch := decide) only [Ctl.get_set_field, Ctl.get_set_self]
    rfl
  · exact Ctl.get_set_self _ _ _ _

theorem Ctl.loadFail_spec (c : Ctl) (l : BankLoad) :
    (c.loadFail l).corr.load = none ∧ (c.loadFail l).get R.CORR_LOAD_STATUS_BUSY = 0 ∧
      (c.loadFail l).get R.CORR_LOAD_STATUS_LAST = 7 ∧ (c.loadFail l).get R.CORR_STATUS_LOAD_FAIL_SEEN = 1 ∧
      (c.loadFail l).get (validReg l.bank) l.feed = c.get (validReg l.bank) l.feed := by
  obtain ⟨hlast, hcorr, hkeep⟩ := (((c.noLoad.set R.CORR_FEED_LOADING 0 l.feed).set R.CORR_LOAD_STATUS_BUSY 0).set
    R.CORR_STATUS_LOAD_FAIL_SEEN 1).loadEnd_spec l.feed (code := 7) (by decide)
  refine ⟨congrArg CorrSt.load hcorr, (hkeep _ _ (by decide)).trans ?_, hlast, (hkeep _ _ (by decide)).trans (Ctl.get_set_self _ _ _ _),
    (hkeep _ _ (validReg_not_in (by decide) _)).trans ?_⟩
  · rw [Ctl.get_set_field _ _ _ _ _ _ (by decide), Ctl.get_set_self]
    rfl
  · iterate 3 rw [Ctl.get_set_field _ _ _ _ _ _ (validReg_id_ne (by decide) (by decide) _)]
    rfl

theorem bankLoadTimeout_late (c : Ctl) {l : BankLoad} (hl : c.corr.load = some l) (h : 64 ≤ (c.winNo + 2 ^ 32 - l.start) % 2 ^ 32) :
    bankLoadTimeout c = c.loadFail l := by
  simp only [bankLoadTimeout, hl]
  exact if_neg (by simp; omega)

theorem bankLoadTimeout_early (c : Ctl) {l : BankLoad} (hl : c.corr.load = some l)
    (h : (c.winNo + 2 ^ 32 - l.start) % 2 ^ 32 < 64) (hm : c.get R.DRAM_STATUS_MODE ≠ 3) : bankLoadTimeout c = c := by
  simp only [bankLoadTimeout, hl]
  exact if_pos (by simp [hm]; omega)

/-! ## Swaps (R114) -/

/-- The fields of an accepted swap, which LAST answers. -/
def Ctl.swapKept (c : Ctl) (f target fade : Nat) : Ctl :=
  ((c.set R.CORR_FEED_TARGET target f).set R.CORR_FEED_FADE fade f).set R.CORR_FEED_LAST 0 f

/-- A swap that begins with the next window is entered. -/
def Ctl.swapEntered (c : Ctl) (f target fade : Nat) : Ctl :=
  { c.swapKept f target fade with corr :=
    { c.corr with starts := kput c.corr.starts f { target := target, len := fade + 1 } } }

/-- A swap to the other bank of a feed that does not fade is entered where the bank is VALID and the yard's limit allows. -/
theorem Ctl.swapCmd_enters (c : Ctl) {f target : Nat} (fade : Nat) (hf : f < c.feedCount) (hfade : kget? c.corr.fades f = none)
    (hstart : kget? c.corr.starts f = none) (hpend : c.is R.CORR_FEED_PENDING f = false) (hother : target ≠ c.get R.CORR_FEED_ACTIVE f)
    (hvalid : c.is (validReg target) f = true) (hload : c.loadingBank f target = false) (hroom : c.fadingIn (feedYard f) < 48) :
    c.swapCmd f target fade = c.swapEntered f target fade := by
  unfold Ctl.swapCmd
  extract_lets busy r keep noBank c1
  have hbusy : busy = false := by simp [busy, hfade, hstart, hpend]
  have hbank : noBank = false := by simp [noBank, hvalid, hload]
  rw [if_neg (Nat.not_le.2 hf), if_neg (by simp [hother]), if_neg (by simp [hbank]), if_neg (by simp [hbusy]),
    if_neg (Nat.not_le.2 hroom)]
  rfl

theorem Ctl.swapEntered_spec (c : Ctl) (f : Nat) {target fade : Nat} (ht : target < 2) (hf : fade < 256) :
    (c.swapEntered f target fade).get R.CORR_FEED_TARGET f = target ∧ (c.swapEntered f target fade).get R.CORR_FEED_FADE f = fade ∧
      (c.swapEntered f target fade).get R.CORR_FEED_LAST f = 0 ∧
      kget? (c.swapEntered f target fade).corr.starts f = some { target := target, len := fade + 1 } ∧
      c.sameRegsBut (c.swapEntered f target fade) [R.CORR_FEED_TARGET, R.CORR_FEED_FADE, R.CORR_FEED_LAST] := by
  have hregs : ∀ (r : Reg) (i : Nat), (c.swapEntered f target fade).get r i = (c.swapKept f target fade).get r i := fun _ _ => rfl
  rw [hregs, hregs, hregs]
  refine ⟨?_, ?_, Ctl.get_set_self _ _ _ _, kget?_kput_self _ _ _, fun r i hr => (hregs r i).trans ?_⟩
  · unfold Ctl.swapKept
    simp (disch := decide) only [Ctl.get_set_field, Ctl.get_set_self]
    exact Nat.mod_eq_of_lt ht
  · unfold Ctl.swapKept
    simp (disch := decide) only [Ctl.get_set_field, Ctl.get_set_self]
    exact Nat.mod_eq_of_lt hf
  · refine Ctl.sameRegsBut_set_right (Ctl.sameRegsBut_set_right (c.sameRegsBut_set _ _ _ _ ?_) _ _ ?_) _ _ ?_ r i hr <;> simp

/-! ## Fades (R114, R115) -/

/-- A feed's fade is over and counted. -/
def Ctl.fadeOver (c : Ctl) (f : Nat) : Ctl :=
  ((({ c with corr := { c.corr with fades := kdel c.corr.fades f } }.set R.CORR_FEED_FADING 0 f).set
    R.CORR_FEED_FADE_LEFT 0 f).inc R.CORR_SWAPS).showFades

theorem bankFadeEnd_over (c : Ctl) {f : Nat} {x : Fade} (hx : kget? c.corr.fades f = some x) (h : x.len ≤ x.done) :
    bankFadeEnd f c = c.fadeOver f := by
  simp only [bankFadeEnd, hx, if_neg (Nat.not_lt.2 h)]
  rfl

theorem Ctl.fadeOver_spec (c : Ctl) (f : Nat) :
    (c.fadeOver f).get R.CORR_FEED_FADING f = 0 ∧ (c.fadeOver f).get R.CORR_FEED_FADE_LEFT f = 0 ∧
      (c.fadeOver f).get R.CORR_SWAPS = (c.get R.CORR_SWAPS + 1) % 2 ^ R.CORR_SWAPS.width ∧
      kget? (c.fadeOver f).corr.fades f = none ∧
      c.sameRegsBut (c.fadeOver f) [R.CORR_FEED_FADING, R.CORR_FEED_FADE_LEFT, R.CORR_SWAPS, R.CORR_STATUS_FADES] := by
  unfold Ctl.fadeOver Ctl.inc Ctl.showFades
  refine ⟨?_, ?_, ?_, kget?_kdel_self _ _, ?_⟩
  · simp (disch := decide) only [Ctl.get_set_field, Ctl.get_set_self]
    rfl
  · simp (disch := decide) only [Ctl.get_set_field, Ctl.get_set_self]
    rfl
  · simp (disch := decide) only [Ctl.get_set_field, Ctl.get_set_self]
    rfl
  · iterate 4 refine Ctl.sameRegsBut_set_right ?_ _ _ (by simp)
    exact Ctl.sameRegsBut_of_regs _ rfl

/-- The journal changes no field but its own mark, and nothing of the corrections. -/
theorem Ctl.jot_spec (c : Ctl) (kind loc value : Nat) (args : List Nat) :
    (c.jot kind loc value args).corr = c.corr ∧ c.sameRegsBut (c.jot kind loc value args) [R.HNG_STATUS_JOURNAL_FULL_SEEN] := by
  unfold Ctl.jot
  extract_lets h
  split
  · exact ⟨rfl, c.sameRegsBut_refl _⟩
  · split
    · exact ⟨rfl, Ctl.sameRegsBut_set_right (Ctl.sameRegsBut_of_regs _ rfl) _ _ (by simp)⟩
    · exact ⟨rfl, Ctl.sameRegsBut_of_regs _ rfl⟩

theorem Ctl.fadeBegin_spec (c : Ctl) (f : Nat) (r : SwapReq) :
    (c.fadeBegin f r).get R.CORR_FEED_ACTIVE f = r.target % 2 ^ R.CORR_FEED_ACTIVE.width ∧
      (c.fadeBegin f r).get R.CORR_FEED_FADING f = 1 ∧ (c.fadeBegin f r).corr.pend = c.corr.pend ∧
      c.sameRegsBut (c.fadeBegin f r) [R.CORR_FEED_ACTIVE, R.CORR_FEED_FADING, R.CORR_FEED_FADE_LEFT, R.CORR_STATUS_FADES] := by
  unfold Ctl.fadeBegin Ctl.showFades
  extract_lets
  refine ⟨?_, ?_, rfl, ?_⟩
  · simp (disch := decide) only [Ctl.get_set_field, Ctl.get_set_self]
  · simp (disch := decide) only [Ctl.get_set_field, Ctl.get_set_self]
    rfl
  · iterate 4 refine Ctl.sameRegsBut_set_right ?_ _ _ (by simp)
    exact Ctl.sameRegsBut_of_regs _ rfl

/-- The request of a feed leaves its pending slot. -/
def Ctl.pendTaken (c : Ctl) (f : Nat) : Ctl :=
  ({ c with corr := { c.corr with pend := kdel c.corr.pend f } }.set R.CORR_FEED_PENDING 0 f).set R.CORR_FEED_PEND_TARGET 0 f

theorem Ctl.pendTaken_spec (c : Ctl) (f : Nat) :
    (c.pendTaken f).get R.CORR_FEED_PENDING f = 0 ∧ kget? (c.pendTaken f).corr.pend f = none ∧
      (c.pendTaken f).get R.CORR_FEED_ACTIVE f = c.get R.CORR_FEED_ACTIVE f := by
  unfold Ctl.pendTaken
  refine ⟨?_, kget?_kdel_self _ _, ?_⟩
  · simp (disch := decide) only [Ctl.get_set_field, Ctl.get_set_self]
    rfl
  · simp (disch := decide) only [Ctl.get_set_field]
    rfl

/-- A pending request that is ready starts its fade where the yard's limit allows, and its target is not in force already. -/
theorem Ctl.pendTry_starts (c : Ctl) {f : Nat} {r : SwapReq} (hr : kget? c.corr.pend f = some r) (hready : c.pendReady f = true)
    (hroom : c.fadingIn (feedYard f) < 48) (hother : r.target ≠ c.get R.CORR_FEED_ACTIVE f) :
    c.pendTry f = ((c.pendTaken f).fadeBegin f r).jot 0 ((0x241000 + 16 * f) / 4) (r.target + 256 * (r.len - 1) + 3 * 2 ^ 30) := by
  obtain ⟨-, -, hactive⟩ := c.pendTaken_spec f
  have hstart : c.pendStart f = (c.pendTaken f).fadeBegin f r := by
    have hne : ¬ (r.target == (c.pendTaken f).get R.CORR_FEED_ACTIVE f) = true := by simpa [hactive] using hother
    simp only [Ctl.pendStart, hr]
    exact if_neg hne
  simp only [Ctl.pendTry, hr]
  rw [if_neg (by simp [hready, hroom]), hstart]

theorem Ctl.pendTry_spec (c : Ctl) {f : Nat} {r : SwapReq} (hr : kget? c.corr.pend f = some r) (hready : c.pendReady f = true)
    (hroom : c.fadingIn (feedYard f) < 48) (hother : r.target ≠ c.get R.CORR_FEED_ACTIVE f) :
    (c.pendTry f).get R.CORR_FEED_PENDING f = 0 ∧ (c.pendTry f).get R.CORR_FEED_ACTIVE f = r.target % 2 ^ R.CORR_FEED_ACTIVE.width ∧
      (c.pendTry f).get R.CORR_FEED_FADING f = 1 ∧ kget? (c.pendTry f).corr.pend f = none := by
  obtain ⟨hpend, hslot, -⟩ := c.pendTaken_spec f
  obtain ⟨hactive, hfading, hkeep, hregs⟩ := (c.pendTaken f).fadeBegin_spec f r
  rw [c.pendTry_starts hr hready hroom hother]
  obtain ⟨hcorr, hjot⟩ := ((c.pendTaken f).fadeBegin f r).jot_spec 0 ((0x241000 + 16 * f) / 4)
    (r.target + 256 * (r.len - 1) + 3 * 2 ^ 30) []
  exact ⟨(hjot _ _ (by decide)).trans ((hregs _ _ (by decide)).trans hpend), (hjot _ _ (by decide)).trans hactive,
    (hjot _ _ (by decide)).trans hfading, by rw [hcorr, hkeep, hslot]⟩

/-- A standby's pending swaps start by the journal (R115). -/
theorem pendingSwapStart_standby (f : Nat) (c : Ctl) (h : c.get R.HNG_STATUS_ROLE = 3) : pendingSwapStart f c = c := if_pos h

/-- Where no feed below it in the yard has a request, only that of the feed itself is tried. -/
theorem pendingSwapStart_single (f : Nat) (c : Ctl) (h : c.get R.HNG_STATUS_ROLE ≠ 3)
    (hlist : (c.corr.pend.map (·.1)).filter (fun g => feedYard g == feedYard f && g ≤ f) = [f]) :
    pendingSwapStart f c = c.pendTry f := by
  rw [pendingSwapStart, if_neg h, hlist]
  rfl

/-! ## The statement -/

/-- Settles O17: a GO begins the load or finds it BUSY, a load ends by its completion or its timeout, and a swap, the end of a fade
and the start of a pending swap are each the step of its lemma. -/
theorem correctionBanks : Obligations.CorrectionBanks := by
  unfold Obligations.CorrectionBanks
  refine ⟨⟨fun s m f b slot base hrole hidle hf hfree hbase hmagic hver hsome hmost hcrc hrate hfeed hup hgood => ?_,
      fun s m f b slot hrole hbusy => ?_, fun s l hl => ⟨fun hm => ?_, fun hlate => ?_, fun hearly hm => ?_⟩⟩,
    fun s f => ⟨fun m b n hrole hf hfade hstart hpend hother hvalid hload hroom => ?_, fun x hx hlen => ?_, fun hrole => ?_,
      fun r hrole hlist hr hready hroom hother => ?_⟩⟩
  · have hgo := s.m.fresh.loadGo_begins (slot := slot) hidle hf hfree hbase ⟨hmagic, hver, hsome, hmost, hcrc, hrate, hfeed⟩ hup hgood
    obtain ⟨hb, hv, hl, hload⟩ := s.m.fresh.c.loadBegin_spec slot (s.m.fresh.loadOf f b base)
    refine ⟨_, next_of_mach rfl (corrLoadGo_off m hgo hrole ?_), hb, hv, hl, by rw [hload]; rfl, rfl⟩
    exact (Ctl.sameRegsBut_loadBegin _ _ _) _ _ (by decide)
  · obtain ⟨hlast, hcorr, hkeep⟩ := s.m.fresh.c.loadEnd_spec f (code := 3) (by decide)
    exact ⟨_, next_of_mach rfl (corrLoadGo_off m (s.m.fresh.loadGo_busy f b slot hbusy) hrole (hkeep _ _ (by decide))), hlast,
      by rw [hcorr]; rfl, rfl, hkeep⟩
  · obtain ⟨htaps, hvalid, hstore, himem, hdmem, hnor⟩ := s.m.fresh.bankPut_spec l
    obtain ⟨hcorr, hkeep, hloading, hbusy, hlast⟩ := (s.m.fresh.bankPut l).c.loadDone_spec l
    exact ⟨_, next_of_mach rfl (bankLoadComplete_done s.m.fresh hl hm), by rw [hcorr], hkeep.trans hvalid, hloading, hbusy, hlast,
      by rw [hcorr]; exact htaps, hstore, himem, hdmem, hnor⟩
  · obtain ⟨hnone, hbusy, hlast, hseen, hkeep⟩ := s.m.fresh.c.loadFail_spec l
    exact ⟨_, next_of_ctl rfl (bankLoadTimeout_late s.m.fresh.c hl hlate), hnone, hbusy, hlast, hseen, hkeep, rfl⟩
  · exact next_of_ctl rfl (bankLoadTimeout_early s.m.fresh.c hl hearly hm)
  · obtain ⟨htarget, hlen, hlast, hstarts, hregs⟩ := s.m.fresh.c.swapEntered_spec f b.isLt n.isLt
    exact ⟨_, alone_next rfl hrole (Ctl.swapCmd_enters s.m.fresh.c n hf hfade hstart hpend hother hvalid hload hroom), htarget, hlen,
      hlast, hstarts, hregs, rfl⟩
  · obtain ⟨hfading, hleft, hswaps, hgone, hregs⟩ := s.m.fresh.c.fadeOver_spec f
    exact ⟨_, next_of_ctl rfl (bankFadeEnd_over s.m.fresh.c hx hlen), hfading, hleft, hswaps, hgone, hregs, rfl⟩
  · exact next_of_ctl rfl (pendingSwapStart_standby f s.m.fresh.c hrole)
  · obtain ⟨hpend, hactive, hfading, hgone⟩ := s.m.fresh.c.pendTry_spec hr hready hroom hother
    exact ⟨_, next_of_ctl rfl (pendingSwapStart_single f s.m.fresh.c hrole hlist), hpend, hactive, hfading, hgone, rfl⟩

end Sys2Proof.Machine
end

section
/-! PROOFS. Biquad sets: staging and reading a stage's set, the storm door's sets, and the stability test (R117, R118). -/
namespace Sys2Proof.Machine

/-! ## The sets of a stage (R118) -/

/-- A set is staged for the stage with key `k`. -/
def Ctl.bqStage (c : Ctl) (k : Nat) (set : BqSet) : Ctl :=
  ({ c with corr := { c.corr with bqStaged := kput c.corr.bqStaged k set } }.set R.CORR_BQ_STATUS_LAST 0).bqPending

/-- An unstable set is refused, whichever stage is selected. -/
theorem Ctl.bqWriteCmd_unstable (c : Ctl) (h : bqOk (c.bqRegs R.CORR_BQ_COEF_COEF) = false) :
    c.bqWriteCmd = c.set R.CORR_BQ_STATUS_LAST 2 := by
  simp [Ctl.bqWriteCmd, h]

section
variable (c : Ctl) {kind idx stage : Nat} (hsel : c.bqSel = (kind, idx, stage)) (hok : c.bqSelOk kind idx stage = true)
include hsel hok

theorem Ctl.bqWriteCmd_stable (h : bqOk (c.bqRegs R.CORR_BQ_COEF_COEF) = true) :
    c.bqWriteCmd = c.bqStage (bqKey kind idx stage) (c.bqRegs R.CORR_BQ_COEF_COEF) := by
  simp [Ctl.bqWriteCmd, hsel, hok, h, Ctl.bqStage]

theorem corrBqRead_selected : corrBqRead c = (c.bqLoad R.CORR_BQ_COEF_COEF ((kget? c.corr.bqStaged (bqKey kind idx stage)).getD
    (kgetD c.corr.bqForce (bqKey kind idx stage) {}))).set R.CORR_BQ_STATUS_LAST 0 := by
  simp [corrBqRead, hsel, hok]

end

/-- What staging leaves: the set under its key, and OK in LAST. -/
theorem Ctl.bqStage_spec (c : Ctl) (k : Nat) (set : BqSet) :
    kget? (c.bqStage k set).corr.bqStaged k = some set ∧ (c.bqStage k set).get R.CORR_BQ_STATUS_LAST = 0 := by
  refine ⟨kget?_kput_self _ _ _, ?_⟩
  rw [Ctl.bqStage, Ctl.bqPending, Ctl.get_set_field _ _ _ _ _ _ (by decide), Ctl.get_set_self]
  rfl

/-! ## The storm door's sets (R118) -/

/-- A set enters the storm door's shadow under key `k`. -/
def Ctl.stormBqStored (c : Ctl) (k : Nat) (set : BqSet) : Ctl := (c.stormBqPut k set).showDirty.set R.STORM_STATUS_LAST 0

section
variable (m : Master) (c : Ctl) (hsec : c.secure m = true)
include hsec

theorem stormBqWrite_stable (h : bqOk (c.bqRegs R.STORM_BQ_COEF) = true) :
    stormBqWrite m c = c.stormBqStored c.stormBqKey (c.bqRegs R.STORM_BQ_COEF) := by
  rw [stormBqWrite, Ctl.ifSecure_true _ _ _ _ hsec]
  simp [h, Ctl.stormStatus, Ctl.status_ne_one, Ctl.stormBqStored]

theorem stormBqRead_secure :
    stormBqRead m c = (c.bqLoad R.STORM_BQ_COEF (kgetD c.storm.bqShadow c.stormBqKey {})).set R.STORM_STATUS_LAST 0 := by
  rw [stormBqRead, Ctl.ifSecure_true _ _ _ _ hsec, Ctl.stormStatus, Ctl.status_ne_one _ _ _ _ _ _ _ (by decide)]

end

/-- The identity is what an unlisted key reads as, so a set that is put is read back whether it is listed or not. -/
theorem Ctl.stormBqPut_shadow (c : Ctl) (k : Nat) (set : BqSet) : kgetD (c.stormBqPut k set).storm.bqShadow k {} = set := by
  unfold Ctl.stormBqPut
  by_cases h : set = {}
  · simp [h, kgetD]
  · simp [h]

/-! ## The stability test (R118) -/

theorem bqOk_iff (b : BqSet) : bqOk b = true ↔ (sx 24 b.a2).natAbs < 2 ^ 21 ∧ |sx 24 b.a1| < 2 ^ 21 + sx 24 b.a2 := by
  rw [bqOk, decide_eq_true_iff, Int.natCast_natAbs]

/-! ## The statement -/

/-- Settles O18: outside a hinge a write stages its set or refuses it, SECURE lets the storm door's through, and the test is the
inequality of R118. -/
theorem biquadSets : Obligations.BiquadSets := by
  unfold Obligations.BiquadSets
  refine ⟨fun s m kind idx stage hsel => ⟨fun hrole hok hst => ?_, fun hrole hst => ?_, fun hok => ?_, fun hsec hst => ?_,
    fun hsec => ?_, fun hsec => ?_⟩, bqOk_iff⟩
  · obtain ⟨hstaged, hlast⟩ := s.m.fresh.c.bqStage_spec (bqKey kind idx stage) (s.m.c.bqRegs R.CORR_BQ_COEF_COEF)
    exact ⟨_, alone_next rfl hrole (Ctl.bqWriteCmd_stable s.m.fresh.c hsel hok hst), hstaged, hlast, rfl, rfl⟩
  · exact ⟨_, alone_next rfl hrole (Ctl.bqWriteCmd_unstable s.m.fresh.c hst), rfl, Ctl.get_set_self _ _ _ _⟩
  · exact next_of_ctl rfl (corrBqRead_selected s.m.fresh.c hsel hok)
  · exact ⟨_, next_of_ctl rfl (stormBqWrite_stable m s.m.fresh.c hsec hst), Ctl.stormBqPut_shadow _ _ _, Ctl.get_set_self _ _ _ _,
      rfl, rfl⟩
  · exact next_of_ctl rfl (stormBqRead_secure m s.m.fresh.c hsec)
  · exact next_of_ctl rfl (Ctl.ifSecure_false s.m.fresh.c m _ _ hsec)

end Sys2Proof.Machine
end

section
/-! PROOFS. The intelligibility guard: an estimate, an ambient frame and the withdrawal of the countermeasures (R121 to R129). -/
namespace Sys2Proof.Machine

/-! ## The guard's state of a zone and its gains (R128) -/

@[simp] theorem Ctl.guard_setGuard (c : Ctl) (z : Nat) (g : GuardSt) : (c.setGuard z g).guard z = g := kgetD_kput_self _ _ _ _

/-- The fields that show a zone's gain targets. -/
def gainFields : List Reg := [R.CORR_ZONE_LIFT_DB, R.CORR_ZONE_ANC_DB]

theorem Ctl.sameRegsBut_guardMove (c : Ctl) (z lift anc span : Nat) : c.sameRegsBut (c.guardMove z lift anc span) gainFields :=
  Ctl.sameRegsBut_set_right (Ctl.sameRegsBut_set_right (Ctl.sameRegsBut_of_regs _ rfl) _ _ (by simp [gainFields])) _ _
    (by simp [gainFields])

theorem Ctl.sameRegsBut_guardGains (c : Ctl) (z lift : Nat) : c.sameRegsBut (c.guardGains z lift) gainFields :=
  c.sameRegsBut_guardMove z _ _ _

/-! ## What an estimate changes (R124 to R129) -/

/-- The fields of one microphone. -/
def micFields : List Reg := [R.CORR_ZONE_DELAY0, R.CORR_ZONE_DELAY1, R.CORR_ZONE_STI_MIC0, R.CORR_ZONE_STI_MIC1]

theorem Ctl.sameRegsBut_micShow (c : Ctl) (z : Nat) (e : Nat × StiMic) : c.sameRegsBut (c.micShow z e) micFields := by
  have hmem : ∀ a b : Reg, a ∈ micFields → b ∈ micFields → (if e.1 = 0 then a else b) ∈ micFields := by
    intro a b ha hb
    split
    · exact ha
    · exact hb
  unfold Ctl.micShow
  extract_lets c1
  have h1 : c.sameRegsBut c1 micFields := Ctl.sameRegsBut_set _ _ _ _ _ (hmem _ _ (by simp [micFields]) (by simp [micFields]))
  split
  · exact h1
  · exact Ctl.sameRegsBut_set_right h1 _ _ (hmem _ _ (by simp [micFields]) (by simp [micFields]))

/-- The fields of the cells and the band indices. -/
def cellFields : List Reg := [R.CORR_ZONE_CELLS, R.CORR_ZONE_MTI0_3, R.CORR_ZONE_MTI4_6]

theorem Ctl.sameRegsBut_cellsShow (c : Ctl) (z : Nat) (m : StiMic) : c.sameRegsBut (c.cellsShow z m) cellFields := by
  unfold Ctl.cellsShow
  extract_lets h
  iterate 2 refine Ctl.sameRegsBut_set_right ?_ _ _ (by simp [cellFields])
  exact Ctl.sameRegsBut_set _ _ _ _ _ (by simp [cellFields])

/-- The fields of a countermeasure. -/
def stepFields : List Reg := [R.CORR_ZONE_BELOW, R.CORR_ZONE_STEP, R.CORR_ZONE_BELOW_SEEN] ++ evtFields

theorem Ctl.sameRegsBut_countermeasure (c : Ctl) (z est : Nat) : c.sameRegsBut (c.countermeasure z est).1 stepFields := by
  unfold Ctl.countermeasure
  extract_lets g under n c1
  have h1 : c.sameRegsBut c1 stepFields :=
    Ctl.sameRegsBut_set_right (Ctl.sameRegsBut_of_regs _ rfl) _ _ (by simp [stepFields])
  split
  · exact h1
  · next step lift _ =>
    extract_lets c2 c3
    have h2 : c1.sameRegsBut c2 stepFields :=
      Ctl.sameRegsBut_set_right (Ctl.sameRegsBut_of_regs _ rfl) _ _ (by simp [stepFields])
    have h3 : c2.sameRegsBut c3 stepFields := Ctl.sameRegsBut_when _ _ _ _ (Ctl.sameRegsBut_of_regs _ rfl)
    refine Ctl.sameRegsBut_trans (Ctl.sameRegsBut_trans h1 (Ctl.sameRegsBut_trans h2 h3)) ?_
    exact Ctl.sameRegsBut_trans (Ctl.sameRegsBut_set _ _ _ _ _ (by simp [stepFields]))
      (Ctl.sameRegsBut_raise _ _ _ _ _ (fun f hf => by simp [stepFields, hf]))

/-- An estimate at or above the target ends BELOW and takes no step (R127). -/
theorem Ctl.countermeasure_reached (c : Ctl) {z est : Nat} (h : c.get R.ZONE_STI_TARGET z ≤ est) :
    (c.countermeasure z est).1.get R.CORR_ZONE_BELOW z = 0 := by
  simp [Ctl.countermeasure, Nat.not_lt.2 h, b2n]

/-! ## The two outcomes of an estimate (R124, R125) -/

theorem mem_insBy {α : Type} (le : α → α → Bool) (x y : α) (l : List α) : y ∈ insBy le x l ↔ y = x ∨ y ∈ l := by
  induction l with
  | nil => simp [insBy]
  | cons a l ih =>
    unfold insBy
    split
    · simp
    · simp only [List.mem_cons, ih]
      exact or_left_comm

/-- Putting a list in order keeps its members. -/
theorem mem_sortBy {α : Type} (le : α → α → Bool) (y : α) (l : List α) : y ∈ sortBy le l ↔ y ∈ l := by
  induction l with
  | nil => rfl
  | cons a l ih => rw [sortBy, mem_insBy, ih, List.mem_cons]

/-- The microphones whose confidence is not NONE. -/
def confident (mics : List (Nat × StiMic)) : List (Nat × StiMic) := mics.filter (fun e => micConf e.2 != 0)

theorem confident_eq_nil {mics : List (Nat × StiMic)} (h : ∀ e ∈ mics, micConf e.2 = 0) : confident mics = [] :=
  List.filter_eq_nil_iff.2 fun e he => by simp [h e he]

/-- How every estimate begins: it counts, says what is missing, and shows its microphones. -/
def Ctl.stiCounted (c : Ctl) (z : Nat) (mics : List (Nat × StiMic)) : Ctl :=
  let c := ((c.inc R.CORR_ZONE_UPDATES z).set R.CORR_ZONE_NOREF (b2n mics.isEmpty) z).set R.CORR_ZONE_NOCAL
    (b2n (c.get R.CORR_ZONE_MIC_CAL z == 0)) z
  c.each mics (fun c e => c.micShow z e)

/-- How one ends with no confident microphone; `n` cells were valid. -/
def Ctl.stiLost (c : Ctl) (z n : Nat) : Ctl :=
  let c := (((c.set R.CORR_ZONE_CELLS n z).set R.CORR_ZONE_CONF 0 z).set R.ZONE_STI 0 z).set R.CORR_ZONE_CONF_LOST_SEEN 1 z
  (c.raise Ev.YARD_STI (z / 32) z).guardGains z (c.get R.CORR_ZONE_LIFT_DB z)

/-- What the zone shows of the microphone that decides. -/
def Ctl.stiShown (c : Ctl) (z : Nat) (m : StiMic) : Ctl :=
  ((c.set R.CORR_ZONE_CONF (micConf m) z).set R.ZONE_STI (stiOf m.mti) z).cellsShow z m

/-- How an estimate ends with a microphone that decides. -/
def Ctl.stiTaken (c : Ctl) (z : Nat) (m : StiMic) : Ctl :=
  let p := (c.stiShown z m).countermeasure z (stiOf m.mti)
  p.1.guardGains z p.2

/-- An estimate finds no confident microphone, or takes what one of them found. -/
theorem Ctl.stiApply_cases (c : Ctl) (z : Nat) (mics : List (Nat × StiMic)) :
    (confident mics = [] ∧ ∃ n, c.stiApply z mics = (c.stiCounted z mics).stiLost z n) ∨
      ∃ e ∈ confident mics, c.stiApply z mics = (c.stiCounted z mics).stiTaken z e.2 := by
  unfold Ctl.stiApply
  split
  · next h =>
    refine .inl ⟨List.eq_nil_iff_forall_not_mem.2 fun e he => ?_, _, rfl⟩
    have hs := (mem_sortBy (fun a b => stiOf a.2.mti ≤ stiOf b.2.mti) e _).2 he
    exact absurd (h ▸ hs) List.not_mem_nil
  · next e l h =>
    refine .inr ⟨e, (mem_sortBy (fun a b => stiOf a.2.mti ≤ stiOf b.2.mti) e _).1 (h ▸ List.mem_cons_self), rfl⟩

theorem Ctl.sameRegsBut_stiLost (c : Ctl) (z n : Nat) : c.sameRegsBut (c.stiLost z n)
    ([R.CORR_ZONE_CELLS, R.CORR_ZONE_CONF, R.ZONE_STI, R.CORR_ZONE_CONF_LOST_SEEN] ++ evtFields ++ gainFields) := by
  unfold Ctl.stiLost
  extract_lets d
  refine Ctl.sameRegsBut_trans ?_ (Ctl.sameRegsBut_mono (Ctl.sameRegsBut_guardGains _ _ _) (by decide))
  refine Ctl.sameRegsBut_trans ?_ (Ctl.sameRegsBut_raise _ _ _ _ _ (by simp +contextual))
  iterate 3 refine Ctl.sameRegsBut_set_right ?_ _ _ (by simp)
  exact Ctl.sameRegsBut_set _ _ _ _ _ (by simp)

theorem Ctl.stiLost_spec (c : Ctl) (z n : Nat) :
    (c.stiLost z n).get R.CORR_ZONE_CONF z = 0 ∧ (c.stiLost z n).get R.ZONE_STI z = 0 ∧
      (c.stiLost z n).get R.CORR_ZONE_CONF_LOST_SEEN z = 1 := by
  unfold Ctl.stiLost
  extract_lets d
  have hd : ∀ r : Reg, (∀ f ∈ gainFields ++ evtFields, f.id ≠ r.id) →
      ((d.raise Ev.YARD_STI (z / 32) z).guardGains z (d.get R.CORR_ZONE_LIFT_DB z)).get r z = d.get r z := fun r hr =>
    ((Ctl.sameRegsBut_guardGains _ _ _) r z fun f hf => hr f (List.mem_append_left _ hf)).trans
      (Ctl.get_raise _ _ _ _ _ _ fun f hf => hr f (List.mem_append_right _ hf))
  rw [hd _ (by decide), hd _ (by decide), hd _ (by decide)]
  unfold d
  simp (disch := decide) only [Ctl.get_set_field, Ctl.get_set_self]
  decide

theorem Ctl.sameRegsBut_stiShown (c : Ctl) (z : Nat) (m : StiMic) :
    c.sameRegsBut (c.stiShown z m) ([R.CORR_ZONE_CONF, R.ZONE_STI] ++ cellFields) := by
  refine Ctl.sameRegsBut_trans ?_ (Ctl.sameRegsBut_mono (Ctl.sameRegsBut_cellsShow _ _ _) (by decide))
  exact Ctl.sameRegsBut_set_right (Ctl.sameRegsBut_set _ _ _ _ _ (by simp)) _ _ (by simp)

theorem Ctl.stiShown_spec (c : Ctl) (z : Nat) (m : StiMic) :
    (c.stiShown z m).get R.CORR_ZONE_CONF z = micConf m % 2 ^ R.CORR_ZONE_CONF.width ∧
      (c.stiShown z m).get R.ZONE_STI z = stiOf m.mti % 2 ^ R.ZONE_STI.width := by
  have hcells : ∀ (d : Ctl) (r : Reg), (∀ f ∈ cellFields, f.id ≠ r.id) → (d.cellsShow z m).get r z = d.get r z :=
    fun d r hr => d.sameRegsBut_cellsShow z m r z hr
  unfold Ctl.stiShown
  rw [hcells _ _ (by decide), hcells _ _ (by decide)]
  exact ⟨(Ctl.get_set_field _ _ _ _ _ _ (by decide)).trans (Ctl.get_set_self _ _ _ _), Ctl.get_set_self _ _ _ _⟩

theorem Ctl.sameRegsBut_stiTaken_shown (c : Ctl) (z : Nat) (m : StiMic) :
    (c.stiShown z m).sameRegsBut (c.stiTaken z m) (stepFields ++ gainFields) :=
  Ctl.sameRegsBut_trans (Ctl.sameRegsBut_mono (Ctl.sameRegsBut_countermeasure _ _ _) (by simp +contextual))
    (Ctl.sameRegsBut_mono (Ctl.sameRegsBut_guardGains _ _ _) (by simp +contextual))

/-- With a microphone that decides, the zone shows its confidence and its estimate, and BELOW = 0 where that reaches the target. -/
theorem Ctl.stiTaken_spec (c : Ctl) (z : Nat) (m : StiMic) :
    (c.stiTaken z m).get R.CORR_ZONE_CONF z = micConf m % 2 ^ R.CORR_ZONE_CONF.width ∧
      (c.stiTaken z m).get R.ZONE_STI z = stiOf m.mti % 2 ^ R.ZONE_STI.width ∧
      (c.get R.ZONE_STI_TARGET z ≤ stiOf m.mti → (c.stiTaken z m).get R.CORR_ZONE_BELOW z = 0) := by
  obtain ⟨hconf, hsti⟩ := c.stiShown_spec z m
  have hkeep := c.sameRegsBut_stiTaken_shown z m
  refine ⟨(hkeep _ _ (by decide)).trans hconf, (hkeep _ _ (by decide)).trans hsti, fun h => ?_⟩
  rw [← c.sameRegsBut_stiShown z m _ _ (by decide)] at h
  exact ((Ctl.sameRegsBut_guardGains _ _ _) _ _ (by decide)).trans (Ctl.countermeasure_reached _ h)

/-- The fields that the outcome of an estimate changes. -/
def outcomeFields : List Reg :=
  [R.CORR_ZONE_CONF, R.ZONE_STI, R.CORR_ZONE_CONF_LOST_SEEN] ++ cellFields ++ stepFields ++ gainFields

theorem Ctl.sameRegsBut_stiApply_counted (c : Ctl) (z : Nat) (mics : List (Nat × StiMic)) :
    (c.stiCounted z mics).sameRegsBut (c.stiApply z mics) outcomeFields := by
  rcases c.stiApply_cases z mics with ⟨-, n, h⟩ | ⟨e, -, h⟩ <;> rw [h]
  · exact Ctl.sameRegsBut_mono (Ctl.sameRegsBut_stiLost _ _ _) (by decide)
  · exact Ctl.sameRegsBut_trans (Ctl.sameRegsBut_mono (Ctl.sameRegsBut_stiShown _ _ _) (by decide))
      (Ctl.sameRegsBut_mono (Ctl.sameRegsBut_stiTaken_shown _ _ _) (by decide))

/-- The fields that the beginning of an estimate changes. -/
def countFields : List Reg := [R.CORR_ZONE_UPDATES, R.CORR_ZONE_NOREF, R.CORR_ZONE_NOCAL] ++ micFields

theorem Ctl.sameRegsBut_stiCounted (c : Ctl) (z : Nat) (mics : List (Nat × StiMic)) :
    c.sameRegsBut (c.stiCounted z mics) countFields := by
  unfold Ctl.stiCounted
  refine Ctl.sameRegsBut_trans ?_
    (Ctl.sameRegsBut_each _ _ _ (fun c e _ => Ctl.sameRegsBut_mono (c.sameRegsBut_micShow z e) (by simp +contextual [countFields])) _)
  iterate 2 refine Ctl.sameRegsBut_set_right ?_ _ _ (by simp [countFields])
  exact Ctl.sameRegsBut_set _ _ _ _ _ (by simp [countFields])

theorem Ctl.stiCounted_spec (c : Ctl) (z : Nat) (mics : List (Nat × StiMic)) :
    (c.stiCounted z mics).get R.CORR_ZONE_NOREF z = (if mics = [] then 1 else 0) ∧
      (c.stiCounted z mics).get R.CORR_ZONE_UPDATES z = (c.get R.CORR_ZONE_UPDATES z + 1) % 2 ^ R.CORR_ZONE_UPDATES.width := by
  have hmics : ∀ (d : Ctl) (r : Reg), (∀ f ∈ micFields, f.id ≠ r.id) → (d.each mics (fun c e => c.micShow z e)).get r z = d.get r z :=
    fun d r hr => Ctl.sameRegsBut_each mics _ micFields (fun c e _ => c.sameRegsBut_micShow z e) d r z hr
  unfold Ctl.stiCounted Ctl.inc
  rw [hmics _ _ (by decide), hmics _ _ (by decide)]
  simp (disch := decide) only [Ctl.get_set_field, Ctl.get_set_self, and_true]
  cases mics with
  | nil => rfl
  | cons e mics => rw [if_neg (List.cons_ne_nil _ _)]; rfl

/-! ## The estimate (R121, R122) -/

theorem stiUpdate_notDue (z : Nat) (m0 m1 : List (BitVec 32)) (c : Ctl)
    (h : ¬ (c.guardRuns z = true ∧ max (c.get R.CORR_STI_CTRL_SPAN) ((c.guard z).second + 1) ≤ (c.guard z).run / c.rateHz)) :
    stiUpdate z m0 m1 c = c := by
  unfold stiUpdate
  extract_lets g sec
  refine if_pos ?_
  by_cases hr : c.guardRuns z = true
  · have hlt := Nat.not_le.1 fun hle => h ⟨hr, hle⟩
    simpa [hr] using hlt
  · simp [hr]

theorem stiUpdate_due (z : Nat) (m0 m1 : List (BitVec 32)) (c : Ctl) (hr : c.guardRuns z = true)
    (hle : max (c.get R.CORR_STI_CTRL_SPAN) ((c.guard z).second + 1) ≤ (c.guard z).run / c.rateHz) :
    stiUpdate z m0 m1 c =
      (c.setGuard z { c.guard z with second := (c.guard z).run / c.rateHz }).stiApply z (c.stiMics z m0 m1) := by
  unfold stiUpdate
  extract_lets g sec
  refine if_neg ?_
  have hlt := Nat.not_lt.2 hle
  simpa [hr] using hlt

/-! ## Ambient noise (R126) -/

/-- What a zone shows of its quiet frames: their mean level, or how long there has been none. -/
def Ctl.ambShow (c : Ctl) (z : Nat) : Ctl :=
  let g := c.guard z
  if g.quiet.isEmpty then c.set R.CORR_ZONE_AMB_STALE (b2n (3000 ≤ g.frames - g.lastQuiet)) z
  else (c.set R.CORR_ZONE_AMB (ux 16 ((g.quiet.foldl (fun s e => s + e.2) (0 : Int)).tdiv g.quiet.length)) z).set
    R.CORR_ZONE_AMB_STALE 0 z

theorem Ctl.ambShow_corr (c : Ctl) (z : Nat) : (c.ambShow z).corr = c.corr := by
  unfold Ctl.ambShow
  extract_lets g
  split <;> rfl

theorem Ctl.sameRegsBut_ambShow (c : Ctl) (z : Nat) : c.sameRegsBut (c.ambShow z) [R.CORR_ZONE_AMB, R.CORR_ZONE_AMB_STALE] := by
  unfold Ctl.ambShow
  extract_lets g
  split
  · exact Ctl.sameRegsBut_set _ _ _ _ _ (by simp)
  · exact Ctl.sameRegsBut_set_right (Ctl.sameRegsBut_set _ _ _ _ _ (by simp)) _ _ (by simp)

theorem Ctl.ambShow_none (c : Ctl) {z : Nat} (h : (c.guard z).quiet = []) :
    (c.ambShow z).get R.CORR_ZONE_AMB z = c.get R.CORR_ZONE_AMB z := by
  rw [Ctl.ambShow, h]
  exact Ctl.get_set_field _ _ _ _ _ _ (by decide)

theorem Ctl.ambShow_one (c : Ctl) {z n : Nat} {v : Int} (h : (c.guard z).quiet = [(n, v)]) :
    (c.ambShow z).get R.CORR_ZONE_AMB z = ux 16 v ∧ (c.ambShow z).get R.CORR_ZONE_AMB_STALE z = 0 := by
  have hv : ux 16 v % 2 ^ R.CORR_ZONE_AMB.width = ux 16 v := by
    rw [ux_eq]
    exact Nat.mod_eq_of_lt (BitVec.isLt _)
  have hs : c.ambShow z = (c.set R.CORR_ZONE_AMB (ux 16 v) z).set R.CORR_ZONE_AMB_STALE 0 z := by simp [Ctl.ambShow, h]
  rw [hs, Ctl.get_set_field _ _ _ _ _ _ (by decide), Ctl.get_set_self, Ctl.get_set_self, hv]
  exact ⟨rfl, rfl⟩

/-- The number of the frame that is measured at a zone. -/
def Ctl.ambFrame (c : Ctl) (z : Nat) : Nat :=
  (c.guard z).frames + (if (c.guard z).seen = c.corr.done / c.framePer then 0 else 1)

/-- The level of a quiet frame at microphone `i`, with its number. -/
def Ctl.ambFound (c : Ctl) (z i : Nat) : List (Nat × Int) :=
  (if c.ambQuiet z i then (c.ambLevel z i).toList else []).map (fun v => (c.ambFrame z, v))

/-- A frame that is due is measured: the zone's guard has seen and numbered it, microphone `i` is among those heard, a quiet
frame's level stands behind the others, and the zone shows its quiet frames. -/
theorem ambientFrame_due (c : Ctl) {z i : Nat} (h : c.ambDue z i = true) :
    ∃ g : GuardSt, ambientFrame z i c = (c.setGuard z g).ambShow z ∧ g.seen = c.corr.done / c.framePer ∧ i ∈ g.heard ∧
      g.frames = c.ambFrame z ∧ ((c.guard z).quiet = [] → g.quiet = c.ambFound z i) := by
  have hn : (if (c.guard z).seen == c.corr.done / c.framePer then (c.guard z).frames else (c.guard z).frames + 1) = c.ambFrame z := by
    unfold Ctl.ambFrame
    by_cases hs : (c.guard z).seen = c.corr.done / c.framePer <;> simp [hs]
  unfold ambientFrame
  extract_lets g now same n quiet level q g' c1 mean
  have hn' : n = c.ambFrame z := hn
  rw [if_neg (by simp [h])]
  refine ⟨g', ?_, rfl, ?_, hn', fun hq => ?_⟩
  · rw [Ctl.ambShow, Ctl.guard_setGuard]
  · change i ∈ if same then i :: g.heard else [i]
    split <;> simp
  · change (g.quiet ++ level.map (fun v => (n, v))).filter (fun e => n < e.1 + 1000) = _
    have hg : g.quiet = [] := hq
    rw [hg, hn']
    exact List.filter_eq_self.2 (by simp +contextual)

theorem Ctl.ambFound_quiet (c : Ctl) {z i : Nat} {v : Int} (hq : c.ambQuiet z i = true) (hv : c.ambLevel z i = some v) :
    c.ambFound z i = [(c.ambFrame z, v)] := by
  simp [Ctl.ambFound, hq, hv]

theorem Ctl.ambFound_loud (c : Ctl) {z i : Nat} (hq : c.ambQuiet z i = false) : c.ambFound z i = [] := by
  simp [Ctl.ambFound, hq]

theorem ambientFrame_notDue (z i : Nat) (c : Ctl) (h : c.ambDue z i = false) : ambientFrame z i c = c := by
  simp [ambientFrame, h]

/-- A frame that is due is measured once: it is no longer due at that microphone, and the registers of other things stand. -/
theorem ambientFrame_spec (c : Ctl) {z i : Nat} (h : c.ambDue z i = true) :
    ((ambientFrame z i c).guard z).seen = c.corr.done / c.framePer ∧ (ambientFrame z i c).ambDue z i = false ∧
      ((ambientFrame z i c).guard z).frames = c.ambFrame z ∧
      c.sameRegsBut (ambientFrame z i c) [R.CORR_ZONE_AMB, R.CORR_ZONE_AMB_STALE] := by
  obtain ⟨g, he, hseen, hheard, hframes, -⟩ := ambientFrame_due c h
  have hguard : (ambientFrame z i c).guard z = g := by
    rw [Ctl.guard, he, Ctl.ambShow_corr]
    exact Ctl.guard_setGuard _ _ _
  have hregs : c.sameRegsBut (ambientFrame z i c) [R.CORR_ZONE_AMB, R.CORR_ZONE_AMB_STALE] := by
    rw [he]
    exact Ctl.sameRegsBut_trans (Ctl.sameRegsBut_of_regs _ rfl) (Ctl.sameRegsBut_ambShow _ _)
  have hper : (ambientFrame z i c).framePer = c.framePer := by
    have hrate := hregs R.WIN_CTRL_RATE96 0 (by decide)
    rw [Ctl.framePer, Ctl.rate96, Ctl.is_eq, hrate]
    rfl
  have hdone : (ambientFrame z i c).corr.done = c.corr.done := by
    rw [he, Ctl.ambShow_corr]
    rfl
  refine ⟨by rw [hguard, hseen], ?_, by rw [hguard, hframes], hregs⟩
  simp [Ctl.ambDue, hguard, hseen, hper, hdone, hheard]

section
variable (c : Ctl) {z i : Nat} (h : c.ambDue z i = true) (hq : (c.guard z).quiet = [])
include h hq

/-- The first quiet frame shows its level. -/
theorem ambientFrame_quiet {v : Int} (ha : c.ambQuiet z i = true) (hv : c.ambLevel z i = some v) :
    (ambientFrame z i c).get R.CORR_ZONE_AMB z = ux 16 v ∧ (ambientFrame z i c).get R.CORR_ZONE_AMB_STALE z = 0 := by
  obtain ⟨g, he, -, -, -, hquiet⟩ := ambientFrame_due c h
  rw [he]
  refine Ctl.ambShow_one _ (n := c.ambFrame z) ?_
  rw [Ctl.guard_setGuard, hquiet hq, c.ambFound_quiet ha hv]

/-- Without a quiet frame the level shown stands. -/
theorem ambientFrame_loud (ha : c.ambQuiet z i = false) :
    (ambientFrame z i c).get R.CORR_ZONE_AMB z = c.get R.CORR_ZONE_AMB z := by
  obtain ⟨g, he, -, -, -, hquiet⟩ := ambientFrame_due c h
  rw [he]
  refine Ctl.ambShow_none _ ?_
  rw [Ctl.guard_setGuard, hquiet hq, c.ambFound_loud ha]

end

/-! ## Withdrawal (R129) -/

/-- The state of a zone that withdraws its countermeasures. -/
def Ctl.relaxed (c : Ctl) (z : Nat) : Ctl :=
  let c := c.guardMove z 0 0 (c.winSamples * c.tickLen)
  let c := (c.setGuard z { (c.guard z) with below := 0 }).setFallback z false
  ((c.set R.CORR_ZONE_STEP 0 z).set R.CORR_ZONE_CONF 0 z).set R.ZONE_STI 0 z

theorem guardRelax_carried (z : Nat) (c : Ctl) (h : c.carriesA z = true) : guardRelax z c = c := by
  simp [guardRelax, h]

theorem guardRelax_relaxed (z : Nat) (c : Ctl) (h : c.carriesA z = false) : guardRelax z c = c.relaxed z := by
  simp [guardRelax, h, Ctl.relaxed]

theorem Ctl.guardMove_gains (c : Ctl) (z lift anc span : Nat) :
    (c.guardMove z lift anc span).get R.CORR_ZONE_LIFT_DB z = lift % 2 ^ R.CORR_ZONE_LIFT_DB.width ∧
      (c.guardMove z lift anc span).get R.CORR_ZONE_ANC_DB z = anc % 2 ^ R.CORR_ZONE_ANC_DB.width :=
  ⟨(Ctl.get_set_field _ _ _ _ _ _ (by decide)).trans (Ctl.get_set_self _ _ _ _), Ctl.get_set_self _ _ _ _⟩

theorem Ctl.relaxed_gains (c : Ctl) (z : Nat) :
    (c.relaxed z).get R.CORR_ZONE_LIFT_DB z = 0 ∧ (c.relaxed z).get R.CORR_ZONE_ANC_DB z = 0 := by
  obtain ⟨hlift, hanc⟩ := c.guardMove_gains z 0 0 (c.winSamples * c.tickLen)
  have hkeep : (c.guardMove z 0 0 (c.winSamples * c.tickLen)).sameRegsBut (c.relaxed z)
      [R.CORR_ZONE_STEP, R.CORR_ZONE_CONF, R.ZONE_STI] := by
    iterate 3 refine Ctl.sameRegsBut_set_right ?_ _ _ (by simp)
    exact Ctl.sameRegsBut_of_regs _ rfl
  exact ⟨(hkeep _ _ (by decide)).trans hlift, (hkeep _ _ (by decide)).trans hanc⟩

theorem Ctl.relaxed_spec (c : Ctl) (z : Nat) :
    (c.relaxed z).get R.CORR_ZONE_STEP z = 0 ∧ (c.relaxed z).get R.CORR_ZONE_CONF z = 0 ∧ (c.relaxed z).get R.ZONE_STI z = 0 ∧
      ((c.relaxed z).guard z).below = 0 ∧ c.sameRegsBut (c.relaxed z)
        [R.CORR_ZONE_LIFT_DB, R.CORR_ZONE_ANC_DB, R.CORR_ZONE_STEP, R.CORR_ZONE_CONF, R.ZONE_STI] := by
  have hguard : ∀ (d : Ctl) (g : GuardSt), ((((d.setGuard z g).setFallback z false).set R.CORR_ZONE_STEP 0 z).set
      R.CORR_ZONE_CONF 0 z |>.set R.ZONE_STI 0 z).guard z = g := fun d g => d.guard_setGuard z g
  unfold Ctl.relaxed
  extract_lets d1 d2
  refine ⟨?_, ?_, ?_, ?_, ?_⟩
  · simp (disch := decide) only [Ctl.get_set_field, Ctl.get_set_self]
    rfl
  · simp (disch := decide) only [Ctl.get_set_field, Ctl.get_set_self]
    rfl
  · exact Ctl.get_set_self _ _ _ _
  · rw [hguard]
  · iterate 3 refine Ctl.sameRegsBut_set_right ?_ _ _ (by simp)
    have h1 : c.sameRegsBut d1 [R.CORR_ZONE_LIFT_DB, R.CORR_ZONE_ANC_DB, R.CORR_ZONE_STEP, R.CORR_ZONE_CONF, R.ZONE_STI] :=
      Ctl.sameRegsBut_mono (c.sameRegsBut_guardMove _ _ _ _) (by decide)
    exact Ctl.sameRegsBut_trans h1 (Ctl.sameRegsBut_of_regs _ rfl)

/-! ## The statement -/

/-- Settles O19: an estimate by its two outcomes, an ambient frame by what it leaves in the guard's state, and the withdrawal. -/
theorem intelligibilityGuard : Obligations.IntelligibilityGuard := by
  unfold Obligations.IntelligibilityGuard
  intro s z m0 m1 due hdue
  subst hdue
  refine ⟨fun h => ?_, fun h => ?_, fun c t mics ht => ?_, fun y k i hz => ⟨fun h => ?_, fun h => ?_⟩, fun h => ?_, fun h => ?_⟩
  · exact next_of_ctl rfl (stiUpdate_notDue z m0 m1 s.m.fresh.c h)
  · exact next_of_ctl rfl (stiUpdate_due z m0 m1 s.m.fresh.c h.1 h.2)
  · subst ht
    obtain ⟨hnoref, hupd⟩ := c.stiCounted_spec z mics
    have hkeep := c.sameRegsBut_stiApply_counted z mics
    refine ⟨(hkeep _ _ (by decide)).trans hnoref, (hkeep _ _ (by decide)).trans hupd, ?_, fun hnone => ?_, fun e he htarget => ?_⟩
    · exact Ctl.sameRegsBut_trans (Ctl.sameRegsBut_mono (c.sameRegsBut_stiCounted z mics) (by decide))
        (Ctl.sameRegsBut_mono hkeep (by decide))
    · rcases c.stiApply_cases z mics with ⟨-, n, h⟩ | ⟨e, hmem, -⟩
      · rw [h]
        exact Ctl.stiLost_spec _ z n
      · exact absurd (confident_eq_nil hnone ▸ hmem) List.not_mem_nil
    · have hconf : confident mics = [e] := he
      rcases c.stiApply_cases z mics with ⟨hnil, -⟩ | ⟨e', hmem, h⟩
      · exact absurd (hconf.symm.trans hnil) (List.cons_ne_nil _ _)
      · obtain rfl : e' = e := List.mem_singleton.1 (hconf ▸ hmem)
        obtain ⟨h1, h2, h3⟩ := (c.stiCounted z mics).stiTaken_spec z e'.2
        rw [h]
        exact ⟨h1, h2, h3 (((c.sameRegsBut_stiCounted z mics) _ _ (by decide)).trans_le htarget)⟩
  · have hw : ambientFrame (32 * y.val + k.val) i s.m.fresh.c = s.m.fresh.c := ambientFrame_notDue _ _ _ (hz ▸ h)
    exact next_of_ctl rfl hw
  · obtain ⟨hseen, hdue, hframes, hregs⟩ := ambientFrame_spec s.m.fresh.c h
    have hw : ambientFrame (32 * y.val + k.val) i s.m.fresh.c = ambientFrame z i s.m.fresh.c := by rw [hz]
    exact ⟨_, next_of_ctl rfl hw, hseen, hdue, hframes, hregs, rfl, fun v hq => ambientFrame_quiet s.m.fresh.c h hq,
      ambientFrame_loud s.m.fresh.c h⟩
  · exact next_of_ctl rfl (guardRelax_carried z s.m.fresh.c h)
  · obtain ⟨hlift, hanc⟩ := s.m.fresh.c.relaxed_gains z
    obtain ⟨hstep, hconf, hsti, hbelow, hregs⟩ := s.m.fresh.c.relaxed_spec z
    exact ⟨_, next_of_ctl rfl (guardRelax_relaxed z s.m.fresh.c h), hlift, hanc, hstep, hconf, hsti, hbelow, hregs, rfl⟩

end Sys2Proof.Machine
end

section
/-! PROOFS. The common queues and their watermarks (R134, R376, R378, R379) and the bus matrix (R371 to R374). -/
namespace Sys2Proof.Machine

/-! ## Readings of the render fabric and of the ports -/

@[simp] theorem Ctl.stable_setStable (c : Ctl) (n : Nat) (t : StableSt) : (c.setStable n t).stable n = t := by
  simp [Ctl.stable, Ctl.setStable]

theorem Ctl.stable_setStable_ne (c : Ctl) {n m : Nat} (t : StableSt) (h : m ≠ n) : (c.setStable n t).stable m = c.stable m :=
  kgetD_kput_ne _ _ _ h

@[simp] theorem Ctl.yard_setYard (c : Ctl) (y : Nat) (t : YardSt) : (c.setYard y t).yard y = t := by
  simp [Ctl.yard, Ctl.setYard]

theorem Ctl.yard_setYard_ne (c : Ctl) {y z : Nat} (t : YardSt) (h : z ≠ y) : (c.setYard y t).yard z = c.yard z :=
  kgetD_kput_ne _ _ _ h

@[simp] theorem Ctl.port_setPort (c : Ctl) (p : Nat) (q : PortSt) : (c.setPort p q).port p = q := by
  simp [Ctl.port, Ctl.setPort]

/-- A reading that a conditional change does not enter. -/
theorem Ctl.when_keeps {β : Type} (p : Ctl → β) (c : Ctl) (b : Bool) (f : Ctl → Ctl) (h : p (f c) = p c) :
    p (c.when b f) = p c := by
  cases b
  · rfl
  · exact h

/-- A field that is counted up. -/
theorem Ctl.get_inc_self (c : Ctl) (r : Reg) (i n : Nat) : (c.inc r i n).get r i = (c.get r i + n) % 2 ^ r.width :=
  Ctl.get_set_self _ _ _ _

/-- Counting a field up leaves every other field. -/
theorem Ctl.get_inc_field (c : Ctl) (r : Reg) (i n : Nat) (r' : Reg) (j : Nat) (h : r.id ≠ r'.id) :
    (c.inc r i n).get r' j = c.get r' j := Ctl.get_set_field c r _ i r' j h

/-! ## The queues and what shows them (R134, R285, R308, R379, R434) -/

/-- What shows a stable's queue beside DEPTH. -/
def queueMarks : List Reg :=
  [R.YARD_Q_DEPTH_A, R.YARD_Q_HI_SEEN, R.YARD_Q_LO_SEEN, R.YARD_Q_CROSS, R.YARD_STATUS_WM_SEEN] ++ evtFields

theorem Ctl.setQueue_fabr (c : Ctl) (n : Nat) (q : List Order) :
    (c.setQueue n q).fabr = (c.setStable n { c.stable n with queue := q }).fabr := by
  unfold Ctl.setQueue
  extract_lets t y x c1 c2 c3 c4
  refine (Ctl.when_keeps (·.fabr) c4 _ _ (by simp)).trans ?_
  exact (Ctl.when_keeps (·.fabr) c3 _ _ rfl).trans (Ctl.when_keeps (·.fabr) c2 _ _ rfl)

/-- Beside DEPTH, a change of a stable's queue shows in the marks of its watermarks. -/
theorem Ctl.sameRegsBut_setQueue_depth (c : Ctl) (n : Nat) (q : List Order) :
    (c.set R.YARD_Q_DEPTH q.length n).sameRegsBut (c.setQueue n q) queueMarks := by
  unfold Ctl.setQueue
  extract_lets t y x c1 c2 c3 c4
  have h2 : (c.set R.YARD_Q_DEPTH q.length n).sameRegsBut c2 queueMarks :=
    Ctl.sameRegsBut_set_right (Ctl.sameRegsBut_of_regs _ rfl) _ _ (by simp [queueMarks])
  have h3 : c2.sameRegsBut c3 queueMarks := Ctl.sameRegsBut_when _ _ _ _
    (Ctl.sameRegsBut_set_right (Ctl.sameRegsBut_set _ _ _ _ _ (by simp [queueMarks])) _ _ (by simp [queueMarks]))
  have h4 : c3.sameRegsBut c4 queueMarks := Ctl.sameRegsBut_when _ _ _ _
    (Ctl.sameRegsBut_set_right (Ctl.sameRegsBut_set _ _ _ _ _ (by simp [queueMarks])) _ _ (by simp [queueMarks]))
  refine Ctl.sameRegsBut_trans (Ctl.sameRegsBut_trans h2 (Ctl.sameRegsBut_trans h3 h4)) (Ctl.sameRegsBut_when _ _ _ _ ?_)
  exact Ctl.sameRegsBut_trans (Ctl.sameRegsBut_set _ _ _ _ _ (by simp [queueMarks]))
    (Ctl.sameRegsBut_raise _ _ _ _ _ (fun f hf => by simp [queueMarks, hf]))

@[simp] theorem Ctl.get_setQueue_depth (c : Ctl) (n : Nat) (q : List Order) :
    (c.setQueue n q).get R.YARD_Q_DEPTH n = q.length % 2 ^ R.YARD_Q_DEPTH.width := by
  rw [c.sameRegsBut_setQueue_depth n q _ _ (by decide), Ctl.get_set_self]

theorem Ctl.stable_setQueue (c : Ctl) (n : Nat) (q : List Order) : (c.setQueue n q).stable n = { c.stable n with queue := q } := by
  rw [Ctl.stable, Ctl.setQueue_fabr]
  exact Ctl.stable_setStable _ _ _

theorem Ctl.stable_setQueue_ne (c : Ctl) {n m : Nat} (q : List Order) (h : m ≠ n) : (c.setQueue n q).stable m = c.stable m := by
  rw [Ctl.stable, Ctl.setQueue_fabr]
  exact Ctl.stable_setStable_ne _ _ h

theorem Ctl.stall?_setQueue (c : Ctl) (n : Nat) (q : List Order) (i : Nat) : (c.setQueue n q).stall? i = c.stall? i := by
  rw [Ctl.stall?, Ctl.setQueue_fabr]
  rfl

theorem Ctl.yard_setQueue (c : Ctl) (n : Nat) (q : List Order) (y : Nat) : (c.setQueue n q).yard y = c.yard y := by
  rw [Ctl.yard, Ctl.setQueue_fabr]
  rfl

/-- A port's queue of launch reports as it is put. -/
theorem Ctl.setReports_spec (c : Ctl) (p : Nat) (q : List (List Nat)) :
    ((c.setReports p q).port p).reports = q ∧
      (c.setReports p q).get R.NET_LREP_STAT_DEPTH p = q.length % 2 ^ R.NET_LREP_STAT_DEPTH.width := by
  unfold Ctl.setReports
  extract_lets x _ c1 c2
  have hnet : c2.net = c1.net := (Ctl.when_keeps (·.net) _ _ _ rfl).trans (Ctl.when_keeps (·.net) _ _ _ rfl)
  have hdepth : c2.get R.NET_LREP_STAT_DEPTH p = c1.get R.NET_LREP_STAT_DEPTH p :=
    (Ctl.when_keeps (·.get R.NET_LREP_STAT_DEPTH p) _ _ _ (Ctl.get_set_field _ _ _ _ _ _ (by decide))).trans
      (Ctl.when_keeps (·.get R.NET_LREP_STAT_DEPTH p) _ _ _ (Ctl.get_set_field _ _ _ _ _ _ (by decide)))
  refine ⟨?_, ?_⟩
  · rw [Ctl.port, Ctl.when_keeps (·.net) c2 _ _ (Ctl.raise_net _ _ _ _), hnet]
    exact congrArg (·.reports) (Ctl.port_setPort _ _ _)
  · rw [Ctl.when_keeps (·.get R.NET_LREP_STAT_DEPTH p) c2 _ _ (Ctl.get_raise _ _ _ _ _ _ (by decide)), hdepth]
    exact Ctl.get_set_self _ _ _ _

/-- The monitor's queue as it is put. -/
theorem Ctl.setMonQ_spec (c : Ctl) (q : List (List Nat)) :
    (c.setMonQ q).mon.queue = q ∧ (c.setMonQ q).get R.MON_Q_DEPTH = q.length % 2 ^ R.MON_Q_DEPTH.width := by
  unfold Ctl.setMonQ
  extract_lets x _ c1 c2
  have hmon : c2.mon = c1.mon := (Ctl.when_keeps (·.mon) _ _ _ rfl).trans (Ctl.when_keeps (·.mon) _ _ _ rfl)
  have hdepth : c2.get R.MON_Q_DEPTH = c1.get R.MON_Q_DEPTH :=
    (Ctl.when_keeps (·.get R.MON_Q_DEPTH) _ _ _ (Ctl.get_set_field _ _ _ _ _ _ (by decide))).trans
      (Ctl.when_keeps (·.get R.MON_Q_DEPTH) _ _ _ (Ctl.get_set_field _ _ _ _ _ _ (by decide)))
  have hq : c2.mon.queue = q := congrArg (·.queue) hmon
  have hd : c2.get R.MON_Q_DEPTH = q.length % 2 ^ R.MON_Q_DEPTH.width := hdepth.trans (Ctl.get_set_self _ _ _ _)
  split
  · exact ⟨by rw [Ctl.raise_mon, hq], by rw [Ctl.get_raise _ _ _ _ _ _ (by decide), hd]⟩
  · exact ⟨hq, hd⟩

/-- The control queue's items as they are put; a pending drop stays as it is. -/
theorem Ctl.ctrlDepth_fab (c : Ctl) (q : List CtrlMsg) : (c.ctrlDepth q).fab = { c.fab with ctrlq := q } := by
  unfold Ctl.ctrlDepth
  extract_lets x _ c1 c2
  refine (Ctl.when_keeps (·.fab) c2 _ _ (Ctl.raise_fab _ _ _ _)).trans ?_
  exact (Ctl.when_keeps (·.fab) _ _ _ rfl).trans (Ctl.when_keeps (·.fab) _ _ _ rfl)

/-! ## Queues that lose their contents (R134, R376, R378) -/

/-- A stable's queue whose pointers disagree: it is empty, and what it held is counted as lost. -/
theorem Ctl.queueReset_spec (c : Ctl) (n : Nat) :
    ((c.queueReset n).stable n).queue = [] ∧ (c.queueReset n).get R.YARD_Q_DEPTH n = 0 ∧
      (c.queueReset n).get R.YARD_QLOST_LOST n = (c.get R.YARD_QLOST_LOST n + (c.stable n).queue.length) % 2 ^ 32 ∧
      (c.queueReset n).get R.YARD_STATUS_QLOST_SEEN (n / 4) = 1 := by
  unfold Ctl.queueReset
  extract_lets q y t c1
  refine ⟨?_, ?_, ?_, ?_⟩
  · rw [Ctl.stable, Ctl.raise_fabr]
    exact congrArg (·.queue) (c1.stable_setQueue n [])
  · rw [Ctl.get_raise _ _ _ _ _ _ (by decide), Ctl.get_set_field _ _ _ _ _ _ (by decide), Ctl.get_inc_field _ _ _ _ _ _ (by decide),
      Ctl.get_setQueue_depth]
    rfl
  · rw [Ctl.get_raise _ _ _ _ _ _ (by decide), Ctl.get_set_field _ _ _ _ _ _ (by decide), Ctl.get_inc_self,
      c1.sameRegsBut_setQueue_depth n [] _ _ (by decide), Ctl.get_set_field _ _ _ _ _ _ (by decide)]
    rfl
  · rw [Ctl.get_raise _ _ _ _ _ _ (by decide), Ctl.get_set_self]
    rfl

/-- The launch reports of a port. -/
theorem launchMismatch_spec (p : Fin 4) (c : Ctl) :
    ((queuePointerMismatch (.launch p) c).port p).reports = [] ∧
      (queuePointerMismatch (.launch p) c).get R.NET_LREP_STAT_DEPTH p = 0 ∧
      (queuePointerMismatch (.launch p) c).get R.NET_STATUS_LREP_LOST_SEEN p = 1 := by
  obtain ⟨hq, hd⟩ := c.setReports_spec p []
  unfold queuePointerMismatch Ctl.netEvent
  refine ⟨?_, ?_, ?_⟩
  · rw [Ctl.port, Ctl.raise_net]
    exact hq
  · rw [Ctl.get_raise _ _ _ _ _ _ (by decide), Ctl.get_set_field _ _ _ _ _ _ (by decide), Ctl.get_inc_field _ _ _ _ _ _ (by decide),
      hd]
    rfl
  · rw [Ctl.get_raise _ _ _ _ _ _ (by decide), Ctl.get_set_self]
    rfl

/-- The records of the monitor. -/
theorem monitorMismatch_spec (c : Ctl) :
    (queuePointerMismatch .monitor c).mon.queue = [] ∧ (queuePointerMismatch .monitor c).get R.MON_Q_DEPTH = 0 ∧
      (queuePointerMismatch .monitor c).get R.MON_STATUS_LOST_SEEN = 1 := by
  obtain ⟨hq, hd⟩ := c.setMonQ_spec []
  unfold queuePointerMismatch
  refine ⟨?_, ?_, ?_⟩
  · rw [Ctl.raise_mon]
    exact hq
  · rw [Ctl.get_raise _ _ _ _ _ _ (by decide), Ctl.get_set_field _ _ _ _ _ _ (by decide), Ctl.get_inc_field _ _ _ _ _ _ (by decide),
      hd]
    rfl
  · rw [Ctl.get_raise _ _ _ _ _ _ (by decide), Ctl.get_set_self]
    rfl

/-- DROP_PKT with an end of packet in the queue: the items up to and with the first one go. -/
theorem dropPkt_marked (c : Ctl) {l r : List CtrlMsg} {x : CtrlMsg} (hq : c.fab.ctrlq = l ++ x :: r) (hx : x.last = true)
    (hl : ∀ y ∈ l, y.last = false) : (dropPkt c).fab = { c.fab with ctrlq := r } := by
  have hany : c.fab.ctrlq.any CtrlMsg.last = true := by simp [hq, hx]
  have hdrop : c.fab.ctrlq.dropWhile (fun m => !m.last) = x :: r := by
    rw [hq, List.dropWhile_append_of_pos (fun y hy => by simp [hl y hy]), List.dropWhile_cons_of_neg (by simp [hx])]
  simp only [dropPkt, hany, if_true, hdrop, List.tail_cons, Ctl.ctrlDepth_fab]

/-- DROP_PKT with none: all go, and the rest is dropped as it arrives. -/
theorem dropPkt_unmarked (c : Ctl) (h : ∀ y ∈ c.fab.ctrlq, y.last = false) :
    (dropPkt c).fab = { c.fab with ctrlq := [], dropPend := true } := by
  have hany : c.fab.ctrlq.any CtrlMsg.last = false := by simpa using h
  simp only [dropPkt, hany, Bool.false_eq_true, if_false, Ctl.ctrlDepth_fab]

/-! ## The bus matrix (R371 to R374) -/

/-- The precedence that a target serves: the highest that requests it. -/
def Ctl.mtxTop (c : Ctl) (g : Nat) (reqs : List (Fin 10 × Fin 4)) : Nat := reqs.foldl (fun n r => min n (c.mtxPrec g r)) 4

/-- The minimum of a list and a start value is below them all, and is one of them. -/
theorem foldl_min_spec {α : Type} (f : α → Nat) (l : List α) (n : Nat) :
    l.foldl (fun n a => min n (f a)) n ≤ n ∧ (∀ a ∈ l, l.foldl (fun n a => min n (f a)) n ≤ f a) ∧
      (l.foldl (fun n a => min n (f a)) n = n ∨ ∃ a ∈ l, f a = l.foldl (fun n a => min n (f a)) n) := by
  induction l generalizing n with
  | nil => simp
  | cons b l ih =>
    obtain ⟨hn, hl, hmem⟩ := ih (min n (f b))
    simp only [List.foldl_cons, List.mem_cons, forall_eq_or_imp]
    refine ⟨by omega, ⟨by omega, hl⟩, ?_⟩
    rcases hmem with h | ⟨a, ha, h⟩
    · by_cases hb : n ≤ f b
      · exact .inl (by omega)
      · exact .inr ⟨b, .inl rfl, by omega⟩
    · exact .inr ⟨a, .inr ha, h⟩

/-- Every class lies below the start value of the search, so some request has the precedence that is served. -/
theorem Ctl.mtxTop_spec (c : Ctl) (g : Nat) {reqs : List (Fin 10 × Fin 4)} (h : reqs ≠ []) :
    (∀ r ∈ reqs, c.mtxTop g reqs ≤ c.mtxPrec g r) ∧ ∃ r ∈ reqs, c.mtxPrec g r = c.mtxTop g reqs := by
  obtain ⟨-, hle, hmem⟩ := foldl_min_spec (c.mtxPrec g) reqs 4
  refine ⟨hle, hmem.resolve_left fun h4 => ?_⟩
  obtain ⟨r, hr⟩ := List.exists_mem_of_ne_nil _ h
  have hprec : c.mtxPrec g r < 4 := by
    unfold Ctl.mtxPrec
    split <;> omega
  exact absurd (h4 ▸ hle r hr) (Nat.not_le.2 hprec)

/-- The masters that request a target with the precedence that it serves. -/
def Ctl.mtxFront (c : Ctl) (g : Nat) (reqs : List (Fin 10 × Fin 4)) : List Nat :=
  (reqs.filter (fun r => c.mtxPrec g r == c.mtxTop g reqs)).map (fun r => r.1.val)

/-- The state after a target has granted a master. -/
def Ctl.mtxGranted (c : Ctl) (g m : Nat) : Ctl :=
  { c with mtx := { last := cset c.mtx.last g (m + 1), aged := c.mtx.aged.filter (· != (g, m)) } }.emit (.note 1 m)

/-- The first of a set of masters in the order that starts at master `a`: no other one lies fewer places on. -/
theorem find?_rotation (p : Nat → Bool) (a : Nat) {m : Nat} (hm : m < 10) (hp : p m = true) :
    ∃ k, ((List.range 10).map (fun k => (a + k) % 10)).find? p = some k ∧ p k = true ∧
      ∀ j < 10, p j = true → (k + 10 - a % 10) % 10 ≤ (j + 10 - a % 10) % 10 := by
  rw [List.find?_map]
  cases hf : (List.range 10).find? (p ∘ fun k => (a + k) % 10) with
  | none =>
    have hnone := List.find?_eq_none.1 hf ((m + 10 - a % 10) % 10) (List.mem_range.2 (by omega))
    have hplace : (a + (m + 10 - a % 10) % 10) % 10 = m := by omega
    exact absurd hp (by simpa [hplace] using hnone)
  | some k =>
    obtain ⟨hpk, -, hfirst⟩ := List.find?_range_eq_some.1 hf
    refine ⟨(a + k) % 10, rfl, hpk, fun j hj hpj => ?_⟩
    have hplace : (a + (j + 10 - a % 10) % 10) % 10 = j := by omega
    by_contra hlt
    have hnot := hfirst ((j + 10 - a % 10) % 10) (by omega)
    simp [hplace, hpj] at hnot

/-- A target with requests grants, among those of the precedence that it serves, the first after the one granted last (R372). -/
theorem matrixGrant_spec (c : Ctl) (g : Fin 16) {reqs : List (Fin 10 × Fin 4)} (h : reqs ≠ []) :
    ∃ m p, (m, p) ∈ reqs ∧ c.mtxPrec g (m, p) = c.mtxTop g reqs ∧ matrixGrant g reqs c = c.mtxGranted g m ∧
      ∀ r ∈ reqs, c.mtxPrec g r = c.mtxTop g reqs →
        (m.val + 10 - cget c.mtx.last g % 10) % 10 ≤ (r.1.val + 10 - cget c.mtx.last g % 10) % 10 := by
  have hfront : ∀ k, (c.mtxFront g reqs).contains k = true ↔ ∃ r ∈ reqs, c.mtxPrec g r = c.mtxTop g reqs ∧ r.1.val = k := by
    simp [Ctl.mtxFront, and_assoc]
  obtain ⟨r0, hr0, htop⟩ := (c.mtxTop_spec g h).2
  obtain ⟨k, hfind, hk, hmin⟩ := find?_rotation (c.mtxFront g reqs).contains (cget c.mtx.last g) r0.1.isLt
    ((hfront _).2 ⟨r0, hr0, htop, rfl⟩)
  obtain ⟨⟨m, p⟩, hmem, hprec, rfl⟩ := (hfront k).1 hk
  refine ⟨m, p, hmem, hprec, ?_, fun r hr hrp => hmin _ r.1.isLt ((hfront _).2 ⟨r, hr, hrp, rfl⟩)⟩
  have hgrant : matrixGrant g reqs c = match ((List.range 10).map (fun k => (cget c.mtx.last g + k) % 10)).find?
      (c.mtxFront g reqs).contains with | none => c | some m => c.mtxGranted g m := rfl
  rw [hgrant, hfind]

/-- With no request nothing is granted. -/
theorem matrixGrant_nil (c : Ctl) (g : Fin 16) : matrixGrant g [] c = c := by
  have hnone : ((List.range 10).map (fun k => (cget c.mtx.last g + k) % 10)).find? (fun m => ([] : List Nat).contains m) = none :=
    List.find?_eq_none.2 (by simp)
  simp only [matrixGrant, List.filter_nil, List.map_nil, hnone]

/-- A promoted transfer has class-A precedence, and the others keep theirs (R372). -/
theorem matrixAgePromote_spec (c : Ctl) (g : Fin 16) (m : Fin 10) :
    (∀ p, (matrixAgePromote g m c).mtxPrec g (m, p) = 0) ∧
      ∀ n p, n ≠ m → (matrixAgePromote g m c).mtxPrec g (n, p) = c.mtxPrec g (n, p) := by
  refine ⟨fun p => by simp [matrixAgePromote, Ctl.mtxPrec], fun n p hn => ?_⟩
  have hv : n.val ≠ m.val := Fin.val_ne_of_ne hn
  simp [matrixAgePromote, Ctl.mtxPrec, hv]

/-- What the matrix captures of an access that has not completed in time. -/
def Ctl.timeoutCapture (c : Ctl) (m : Master) (a : Nat) (w : Bool) (t : Nat) : Ctl :=
  ((((c.set R.MTX_CAP_ADDR_ADDR a).set R.MTX_CAP_INFO_MASTER m.num).set R.MTX_CAP_INFO_TARGET t).set
    R.MTX_CAP_INFO_WRITE (b2n w)).set R.MTX_CAP_INFO_KIND 3 |>.set R.MTX_CAP_INFO_CLASS (c.masterClass m)

/-- An access that does not complete in time sets its mark and counts, over a capture of the first one, and raises its event. -/
theorem Ctl.mtxFault_timeout (c : Ctl) (m : Master) (a : Nat) (w : Bool) (t : Nat) : c.mtxFault 3 m a w t =
    (((c.when (!c.is R.MTX_STATUS_TIMEOUT_SEEN) (fun c => c.timeoutCapture m a w t)).set R.MTX_STATUS_TIMEOUT_SEEN 1).inc
      R.MTX_TIMEOUT_COUNT).raise Ev.MTX_TIMEOUT m.num a := rfl

theorem Ctl.sameRegsBut_timeoutCapture (c : Ctl) (m : Master) (a : Nat) (w : Bool) (t : Nat) :
    c.sameRegsBut (c.timeoutCapture m a w t) capFields := by
  unfold Ctl.timeoutCapture
  iterate 5 refine Ctl.sameRegsBut_trans ?_ (Ctl.sameRegsBut_set _ _ _ _ _ (by simp [capFields]))
  exact Ctl.sameRegsBut_set _ _ _ _ _ (by simp [capFields])

/-- The capture holds the address, the kind, the direction and the target (R374). -/
theorem Ctl.timeoutCapture_spec (c : Ctl) (m : Master) (a : BitVec 32) (w : Bool) (g : Fin 16) :
    (c.timeoutCapture m a.toNat w g).get R.MTX_CAP_ADDR_ADDR = a.toNat ∧
      (c.timeoutCapture m a.toNat w g).get R.MTX_CAP_INFO_KIND = 3 ∧
      (c.timeoutCapture m a.toNat w g).get R.MTX_CAP_INFO_WRITE = b2n w ∧
      (c.timeoutCapture m a.toNat w g).get R.MTX_CAP_INFO_TARGET = g := by
  unfold Ctl.timeoutCapture
  simp (disch := decide) only [Ctl.get_set_field, Ctl.get_set_self]
  exact ⟨Nat.mod_eq_of_lt a.isLt, rfl, by cases w <;> rfl, Nat.mod_eq_of_lt g.isLt⟩

/-- Fields that the timeout's own mark, count and event do not enter read as the capture leaves them. -/
theorem Ctl.get_mtxTimeout (c : Ctl) (g : Fin 16) (m : Master) (a : BitVec 32) (w : Bool) (r : Reg)
    (h : ∀ f ∈ R.MTX_STATUS_TIMEOUT_SEEN :: R.MTX_TIMEOUT_COUNT :: evtFields, f.id ≠ r.id) :
    (matrixTimeout g m a w c).get r =
      (c.when (!c.is R.MTX_STATUS_TIMEOUT_SEEN) (fun c => c.timeoutCapture m a.toNat w g)).get r := by
  have hseen := h R.MTX_STATUS_TIMEOUT_SEEN (by simp)
  have hcount := h R.MTX_TIMEOUT_COUNT (by simp)
  rw [matrixTimeout, Ctl.get_emit, Ctl.mtxFault_timeout, Ctl.get_raise _ _ _ _ _ _ (fun f hf => h f (by simp [hf])),
    Ctl.get_inc_field _ _ _ _ _ _ hcount, Ctl.get_set_field _ _ _ _ _ _ hseen]

theorem matrixTimeout_counts (c : Ctl) (g : Fin 16) (m : Master) (a : BitVec 32) (w : Bool) :
    (matrixTimeout g m a w c).get R.MTX_STATUS_TIMEOUT_SEEN = 1 ∧
      (matrixTimeout g m a w c).get R.MTX_TIMEOUT_COUNT =
        (c.get R.MTX_TIMEOUT_COUNT + 1) % 2 ^ R.MTX_TIMEOUT_COUNT.width := by
  have hcap := Ctl.sameRegsBut_when c (!c.is R.MTX_STATUS_TIMEOUT_SEEN) (fun c => c.timeoutCapture m a.toNat w g) _
    (c.sameRegsBut_timeoutCapture m a.toNat w g)
  rw [matrixTimeout, Ctl.get_emit, Ctl.get_emit, Ctl.mtxFault_timeout, Ctl.get_raise _ _ _ _ _ _ (by decide),
    Ctl.get_raise _ _ _ _ _ _ (by decide)]
  refine ⟨?_, ?_⟩
  · rw [Ctl.get_inc_field _ _ _ _ _ _ (by decide), Ctl.get_set_self]
    rfl
  · rw [Ctl.get_inc_self, Ctl.get_set_field _ _ _ _ _ _ (by decide), hcap _ _ (by decide)]

/-- The first timeout is captured: address, kind, direction and target (R374). -/
theorem matrixTimeout_first (c : Ctl) (g : Fin 16) (m : Master) (a : BitVec 32) (w : Bool)
    (h : c.is R.MTX_STATUS_TIMEOUT_SEEN = false) :
    (matrixTimeout g m a w c).get R.MTX_CAP_ADDR_ADDR = a.toNat ∧ (matrixTimeout g m a w c).get R.MTX_CAP_INFO_KIND = 3 ∧
      (matrixTimeout g m a w c).get R.MTX_CAP_INFO_WRITE = b2n w ∧ (matrixTimeout g m a w c).get R.MTX_CAP_INFO_TARGET = g := by
  simp (disch := decide) only [Ctl.get_mtxTimeout, h]
  exact c.timeoutCapture_spec m a w g

/-- A later one leaves the capture. -/
theorem matrixTimeout_later (c : Ctl) (g : Fin 16) (m : Master) (a : BitVec 32) (w : Bool)
    (h : c.is R.MTX_STATUS_TIMEOUT_SEEN = true) :
    (matrixTimeout g m a w c).get R.MTX_CAP_ADDR_ADDR = c.get R.MTX_CAP_ADDR_ADDR := by
  rw [Ctl.get_mtxTimeout _ _ _ _ _ _ (by decide), h]
  rfl

/-! ## The statement -/

/-- Settles O48: a grant by the first requester in the rotation, a timeout by its capture and its count, and each queue by the lemma
of its loss; the storm door's queue loses its entries in its own state alone (log entry 90). -/
theorem matrixAndQueues : Obligations.MatrixAndQueues := by
  unfold Obligations.MatrixAndQueues
  refine ⟨fun s g => ⟨fun reqs hreqs => ?_, ?_, fun m => ?_, fun m a w => ?_⟩,
    fun s => ⟨fun n => ?_, fun p => ?_, ?_, ?_, fun l r x hq hx hl => ?_, fun h => ?_⟩⟩
  · obtain ⟨m, p, hmem, hprec, hgrant, hfirst⟩ := matrixGrant_spec s.m.fresh.c g hreqs
    have hle := (s.m.fresh.c.mtxTop_spec g hreqs).1
    exact ⟨_, m, p, next_of_ctl rfl hgrant, hmem, fun r hr => hprec.trans_le (hle r hr),
      fun r hr hrp => hfirst r hr (hrp.trans hprec), cget_cset_self s.m.c.mtx.last g (m + 1), rfl, rfl, rfl⟩
  · exact next_of_ctl rfl (matrixGrant_nil s.m.fresh.c g)
  · obtain ⟨hself, hothers⟩ := matrixAgePromote_spec s.m.fresh.c g m
    exact ⟨_, next_of_ctl rfl rfl, hself, hothers, rfl, rfl⟩
  · obtain ⟨hseen, hcount⟩ := matrixTimeout_counts s.m.fresh.c g m a w
    exact ⟨_, next_of_ctl rfl rfl, hseen, hcount, List.mem_append_right _ (List.mem_singleton.2 rfl), rfl,
      matrixTimeout_first s.m.fresh.c g m a w, matrixTimeout_later s.m.fresh.c g m a w⟩
  · obtain ⟨hq, hdepth, hlost, hseen⟩ := s.m.fresh.c.queueReset_spec n
    exact ⟨_, next_of_ctl rfl rfl, hq, hdepth, hlost, hseen, rfl⟩
  · obtain ⟨hq, hdepth, hseen⟩ := launchMismatch_spec p s.m.fresh.c
    exact ⟨_, next_of_ctl rfl rfl, hq, hdepth, hseen, rfl⟩
  · exact ⟨_, next_of_ctl rfl rfl, rfl, rfl, rfl, rfl⟩
  · obtain ⟨hq, hdepth, hseen⟩ := monitorMismatch_spec s.m.fresh.c
    exact ⟨_, next_of_ctl rfl rfl, hq, hdepth, hseen, rfl⟩
  · have hfab := dropPkt_marked s.m.fresh.c hq hx hl
    exact ⟨_, next_of_ctl rfl rfl, congrArg (·.ctrlq) hfab, congrArg (·.dropPend) hfab, rfl⟩
  · have hfab := dropPkt_unmarked s.m.fresh.c h
    exact ⟨_, next_of_ctl rfl rfl, congrArg (·.ctrlq) hfab, congrArg (·.dropPend) hfab, rfl⟩

end Sys2Proof.Machine
end

section
/-! PROOFS. Dispatch, limits and phases of stalls, stables and yards (R136 to R158). -/
namespace Sys2Proof.Machine

/-! ## Loops that change nothing -/

/-- A loop whose every round leaves the value that it starts from. -/
theorem foldl_of_fixed {α β : Type} (f : β → α → β) (l : List α) (b : β) (h : ∀ a ∈ l, f b a = b) : l.foldl f b = b := by
  induction l with
  | nil => rfl
  | cons a l ih =>
    rw [List.foldl_cons, h a (List.mem_cons_self ..)]
    exact ih fun x hx => h x (List.mem_cons_of_mem _ hx)

/-- A value read at a key is listed there. -/
theorem mem_of_kget? {α : Type} {m : Keyed α} {i : Nat} {v : α} (h : kget? m i = some v) : (i, v) ∈ m := by
  induction m with
  | nil => cases h
  | cons e m ih =>
    obtain ⟨k, w⟩ := e
    rw [kget?] at h
    split at h
    · next hk =>
      cases h
      rw [beq_iff_eq.1 hk]
      exact List.mem_cons_self ..
    · exact List.mem_cons_of_mem _ (ih h)

/-! ## Dispatch (R137, R182) -/

/-- The state after stall `i` has started the order of its pick. -/
def Ctl.started (c : Ctl) (i : Nat) (k : Pick) : Ctl :=
  ((c.setStable (i / 8) { c.stable (i / 8) with creditB := k.creditB, creditC := k.creditC }).setQueue (i / 8)
    ((c.stable (i / 8)).queue.filter (fun o => o.post != k.order.post))).setStall i (jobStart k)

theorem Ctl.dispatch_busy (c : Ctl) {i : Nat} (h : (c.stall? i).isSome = true) : c.dispatch i = c := by
  simp [Ctl.dispatch, h]

theorem Ctl.dispatch_starts (c : Ctl) {i : Nat} {k : Pick} (hs : c.inService i = true) (hf : c.stall? i = none)
    (hk : c.pick i = some k) : c.dispatch i = c.started i k := by
  simp [Ctl.dispatch, Ctl.started, hs, hf, hk]

/-- A free stall starts its pick where the stalls that pick before it are busy. -/
theorem jobDispatch_starts (c : Ctl) {i : Fin 128} {k : Pick} (hs : c.inService i = true) (hf : c.stall? i = none)
    (hk : c.pick i = some k) (hb : ∀ j ∈ (c.pickOrder (i / 8)).takeWhile (· != i.val), (c.stall? j).isSome = true) :
    jobDispatch i c = c.started i k := by
  have hfirst : ((c.pickOrder (i / 8)).takeWhile (· != i.val)).foldl Ctl.dispatch c = c :=
    foldl_of_fixed _ _ c fun j hj => c.dispatch_busy (hb j hj)
  have hfree : (!c.inService i || (c.stall? i).isSome) = false := by simp [hs, hf]
  rw [jobDispatch, hfree, hfirst]
  exact c.dispatch_starts hs hf hk

theorem jobDispatch_busy (c : Ctl) {i : Fin 128} {x : StallSt} (h : c.stall? i = some x) : jobDispatch i c = c := by
  simp [jobDispatch, h]

/-- What a start leaves: the job in its stall, the queue without its order and shown so, and the credits left. -/
theorem Ctl.started_spec (c : Ctl) (i : Nat) (k : Pick) :
    (c.started i k).stall? i = some (jobStart k) ∧
      ((c.started i k).stable (i / 8)).queue = (c.stable (i / 8)).queue.filter (fun o => o.post != k.order.post) ∧
      ((c.started i k).stable (i / 8)).creditB = k.creditB ∧ ((c.started i k).stable (i / 8)).creditC = k.creditC ∧
      (c.started i k).get R.YARD_Q_DEPTH (i / 8) = ((c.started i k).stable (i / 8)).queue.length % 2 ^ R.YARD_Q_DEPTH.width ∧
      ∀ j, j ≠ i → (c.started i k).stall? j = c.stall? j := by
  have hstable : (c.started i k).stable (i / 8) = { c.stable (i / 8) with
      creditB := k.creditB, creditC := k.creditC, queue := (c.stable (i / 8)).queue.filter (fun o => o.post != k.order.post) } :=
    (Ctl.stable_setQueue _ _ _).trans (by rw [Ctl.stable_setStable])
  refine ⟨Ctl.stall?_setStall _ _ _, ?_, ?_, ?_, ?_, fun j hj => ?_⟩
  · rw [hstable]
  · rw [hstable]
  · rw [hstable]
  · rw [hstable]
    exact Ctl.get_setQueue_depth _ _ _
  · exact (Ctl.stall?_setStall_ne _ _ hj).trans (Ctl.stall?_setQueue _ _ _ _)

/-! ## Ageing (R139, R143) -/

/-- An order of class B or C that has been eligible for long enough becomes aged, and no other order of its queue changes. -/
theorem orderAged_spec (c : Ctl) (n : Fin 16) (post : Nat) :
    ((orderAged n post c).stable n).queue = (c.stable n).queue.map (fun o =>
      if o.post = post ∧ (o.cls = 1 ∨ o.cls = 2) ∧ o.aged = none ∧ c.eligible o = true
      then { o with aged := some (c.stable n).agedCount } else o) ∧ (orderAged n post c).regs = c.regs := by
  unfold orderAged
  extract_lets t due
  have hdue : ∀ o, due o = true ↔ o.post = post ∧ (o.cls = 1 ∨ o.cls = 2) ∧ o.aged = none ∧ c.eligible o = true := by
    simp [due, and_assoc]
  simp only [← hdue]
  split
  · exact ⟨congrArg (·.queue) (Ctl.stable_setStable _ _ _), rfl⟩
  · next hnone =>
    have hkept : ∀ o ∈ t.queue, due o = false := by simpa using hnone
    exact ⟨((List.map_congr_left fun o ho => if_neg (by simp [hkept o ho])).trans (List.map_id _)).symm, rfl⟩

/-- A channel with no transfer in progress has none to promote (R143). -/
theorem xbarAgePromote_idle (y : Fin 4) (ch : Fin 16) (c : Ctl) (h : (c.chan y ch).run = none) : xbarAgePromote y ch c = c := by
  simp [xbarAgePromote, h]

/-! ## The end of jobs (R145, R157, R183) -/

/-- `c'` is `c` after jobs have ended: the stables are those of `c`, each yard's cut-off stands as it was, every job that runs
carries the order of the job that ran in its stall, and only fields of `l` differ. -/
structure JobsEnded (l : List Reg) (c c' : Ctl) : Prop where
  stables : c'.fabr.stables = c.fabr.stables
  cut : ∀ y, (c'.yard y).cut = (c.yard y).cut
  orders : ∀ i st', c'.stall? i = some st' → ∃ st, c.stall? i = some st ∧ st'.order = st.order
  regs : c.sameRegsBut c' l

namespace JobsEnded

variable {l : List Reg}

theorem refl (c : Ctl) : JobsEnded l c c := ⟨rfl, fun _ => rfl, fun _ st h => ⟨st, h, rfl⟩, c.sameRegsBut_refl l⟩

theorem trans {a b c : Ctl} (h : JobsEnded l a b) (k : JobsEnded l b c) : JobsEnded l a c := by
  refine ⟨k.stables.trans h.stables, fun y => (k.cut y).trans (h.cut y), fun i st' hst => ?_, Ctl.sameRegsBut_trans h.regs k.regs⟩
  obtain ⟨st1, h1, o1⟩ := k.orders i st' hst
  obtain ⟨st0, h0, o0⟩ := h.orders i st1 h1
  exact ⟨st0, h0, o1.trans o0⟩

theorem mono {m : List Reg} {c c' : Ctl} (h : JobsEnded l c c') (hs : ∀ f ∈ l, f ∈ m) : JobsEnded m c c' :=
  ⟨h.stables, h.cut, h.orders, Ctl.sameRegsBut_mono h.regs hs⟩

/-- A stall that is free stays free. -/
theorem free {c c' : Ctl} (h : JobsEnded l c c') {i : Nat} (hi : c.stall? i = none) : c'.stall? i = none := by
  cases h' : c'.stall? i with
  | none => rfl
  | some st' =>
    obtain ⟨st, hst, -⟩ := h.orders i st' h'
    exact absurd (hi.symm.trans hst) nofun

/-- A change of other parts of the state than the stables, the yards and the stalls. -/
theorem of_fabr {c c' : Ctl} (hs : c'.fabr.stables = c.fabr.stables) (hy : c'.fabr.yards = c.fabr.yards)
    (hj : c'.fabr.stalls = c.fabr.stalls) (hr : c.sameRegsBut c' l) : JobsEnded l c c' :=
  ⟨hs, fun y => by rw [Ctl.yard, hy]; rfl, fun i st h => ⟨st, by rw [Ctl.stall?, ← hj]; exact h, rfl⟩, hr⟩

theorem set (c : Ctl) {r : Reg} (v i : Nat) (h : r ∈ l) : JobsEnded l c (c.set r v i) :=
  of_fabr rfl rfl rfl (c.sameRegsBut_set r v i l h)

theorem raise (c : Ctl) (src info detail : Nat) (h : ∀ f ∈ evtFields, f ∈ l) : JobsEnded l c (c.raise src info detail) :=
  of_fabr (by simp) (by simp) (by simp) (c.sameRegsBut_raise src info detail l h)

theorem setYard (c : Ctl) (y : Nat) (t : YardSt) (h : t.cut = (c.yard y).cut) : JobsEnded l c (c.setYard y t) := by
  refine ⟨rfl, fun z => ?_, fun i st hst => ⟨st, hst, rfl⟩, Ctl.sameRegsBut_of_regs l rfl⟩
  by_cases hz : z = y
  · rw [hz, Ctl.yard_setYard, h]
  · rw [Ctl.yard_setYard_ne _ _ hz]

theorem setStall {c : Ctl} {i : Nat} {st st' : StallSt} (h : c.stall? i = some st) (ho : st'.order = st.order) :
    JobsEnded l c (c.setStall i st') := by
  refine ⟨rfl, fun _ => rfl, fun j st1 hj => ?_, Ctl.sameRegsBut_of_regs l rfl⟩
  by_cases hij : j = i
  · subst hij
    rw [Ctl.stall?_setStall] at hj
    cases hj
    exact ⟨st, h, ho⟩
  · rw [Ctl.stall?_setStall_ne _ _ hij] at hj
    exact ⟨st1, hj, rfl⟩

theorem when (c : Ctl) (b : Bool) (f : Ctl → Ctl) (h : JobsEnded l c (f c)) : JobsEnded l c (c.when b f) := by
  cases b
  · exact refl c
  · exact h

theorem each {α : Type} (xs : List α) (f : Ctl → α → Ctl) (h : ∀ c a, JobsEnded l c (f c a)) (c : Ctl) :
    JobsEnded l c (c.each xs f) := by
  induction xs generalizing c with
  | nil => exact refl c
  | cons x xs ih => exact (h c x).trans (ih (f c x))

end JobsEnded

theorem Ctl.stall?_resMark (c : Ctl) (s level index : Nat) (take : Bool) (i : Nat) :
    (c.resMark s level index take).stall? i = c.stall? i := by
  unfold Ctl.resMark
  split
  · rfl
  · split <;> rfl

section
variable {l : List Reg} (hl : R.LATCH ∈ l)
include hl

theorem jobsEnded_resMark (c : Ctl) (s level index : Nat) (take : Bool) : JobsEnded l c (c.resMark s level index take) := by
  unfold Ctl.resMark
  split
  · exact .of_fabr rfl rfl rfl (Ctl.sameRegsBut_of_regs l rfl)
  · split
    · exact .of_fabr rfl rfl rfl (Ctl.sameRegsBut_of_regs l rfl)
    · exact .set c _ _ hl

theorem jobsEnded_resTake (c : Ctl) (s level index : Nat) : JobsEnded l c (c.resTake s level index) := by
  unfold Ctl.resTake
  split
  · exact .refl c
  · next st hst =>
    extract_lets w fx
    exact (jobsEnded_resMark hl c s level index true).trans (.setStall ((Ctl.stall?_resMark _ _ _ _ _ _).trans hst) rfl)

/-- A freed resource goes to a job that waits for it, and no job ends or begins. -/
theorem jobsEnded_resFreeUp (c : Ctl) (s level index : Nat) : JobsEnded l c (c.resFreeUp s level index) := by
  refine (jobsEnded_resMark hl c s level index false).trans ?_
  unfold Ctl.resFreeUp Ctl.resGrant
  dsimp only
  split
  · exact .refl _
  · exact JobsEnded.trans (b := (Ctl.free _ 7).2) (.of_fabr rfl rfl rfl (Ctl.sameRegsBut_of_regs l rfl))
      (jobsEnded_resTake hl _ _ _ _)

end

/-- The state without the job of a stall. -/
def Ctl.withoutJob (c : Ctl) (s : Nat) : Ctl := { c with fabr := { c.fabr with stalls := kdel c.fabr.stalls s } }

theorem Ctl.stall?_withoutJob (c : Ctl) (s : Nat) : (c.withoutJob s).stall? s = none := kget?_kdel_self _ _

theorem jobsEnded_withoutJob (l : List Reg) (c : Ctl) (s : Nat) : JobsEnded l c (c.withoutJob s) := by
  refine ⟨rfl, fun _ => rfl, fun i st h => ?_, Ctl.sameRegsBut_of_regs l rfl⟩
  by_cases hi : i = s
  · subst hi
    exact absurd (h.symm.trans (c.stall?_withoutJob i)) nofun
  · exact ⟨st, (kget?_kdel_ne c.fabr.stalls hi).symm.trans h, rfl⟩

theorem jobsEnded_cover (l : List Reg) (c : Ctl) (y : Nat) (o : Order) : JobsEnded l c (c.cover y o) := by
  unfold Ctl.cover
  extract_lets t
  split
  · exact .refl c
  · exact .setYard c y _ rfl

/-- The record of a job that has ended, in the completion queue of the sequencer that posted its order (R183). -/
def Ctl.jobRecorded (c : Ctl) (y post : Nat) (r : CqRec) : Ctl :=
  if decide (2 ^ 31 ≤ (post + 2 ^ 32 - (c.seq y).firstPost) % 2 ^ 32) then c else c.setSeq y ((c.seq y).pushCq r)

theorem jobsEnded_jobRecorded (l : List Reg) (c : Ctl) (y post : Nat) (r : CqRec) : JobsEnded l c (c.jobRecorded y post r) := by
  unfold Ctl.jobRecorded
  split
  · exact .refl c
  · exact .of_fabr rfl rfl rfl (Ctl.sameRegsBut_of_regs l rfl)

/-- What its yard notes of a job that has ended: the objects that it covers, or that its MIX or law order is missed (R148, R151). -/
def Ctl.jobScored (c : Ctl) (y fault : Nat) (o : Order) : Ctl :=
  if fault = 0 then c.cover y o
  else if o.kind = 0 then c
  else c.setYard y { c.yard y with missMix := o :: (c.yard y).missMix }

theorem jobsEnded_jobScored (l : List Reg) (c : Ctl) (y fault : Nat) (o : Order) : JobsEnded l c (c.jobScored y fault o) := by
  unfold Ctl.jobScored
  split
  · exact jobsEnded_cover l c y o
  · split
    · exact .refl c
    · exact .setYard c y _ rfl

/-- The cycles of a freeze that ends with its job are a free value (log entry 132). -/
def Ctl.thawed (c : Ctl) (froze : Bool) : Nat × Ctl := if froze then c.free 32 else (0, c)

theorem jobsEnded_thawed (l : List Reg) (c : Ctl) (froze : Bool) : JobsEnded l c (c.thawed froze).2 := by
  cases froze
  · exact .refl c
  · exact .of_fabr rfl rfl rfl (Ctl.sameRegsBut_of_regs l rfl)

/-- The end of a job: its stall and its resources are free, its record is written, and its yard notes it. -/
theorem Ctl.endJob_eq (c : Ctl) (s fault user : Nat) {st : StallSt} (h : c.stall? s = some st) : ∃ r, c.endJob s fault user =
    ((((c.thawed st.froze).2.withoutJob s).each st.held (fun c h => c.resFreeUp s h.1 h.2)).jobRecorded (stallYard s)
      st.order.post r).jobScored (stallYard s) fault st.order := by
  unfold Ctl.endJob
  rw [h]
  exact ⟨_, rfl⟩

/-- The end of a job frees its stall. -/
theorem Ctl.endJob_spec (c : Ctl) (s fault user : Nat) :
    JobsEnded [R.LATCH] c (c.endJob s fault user) ∧ (c.endJob s fault user).stall? s = none := by
  cases hst : c.stall? s with
  | none =>
    have hsame : c.endJob s fault user = c := by simp [Ctl.endJob, hst]
    rw [hsame]
    exact ⟨.refl c, hst⟩
  | some st =>
    obtain ⟨r, he⟩ := c.endJob_eq s fault user hst
    have hfreed := JobsEnded.each st.held (fun c (h : Nat × Nat) => c.resFreeUp s h.1 h.2)
      (fun c h => jobsEnded_resFreeUp (l := [R.LATCH]) (by simp) c s h.1 h.2) ((c.thawed st.froze).2.withoutJob s)
    have hend := hfreed.trans ((jobsEnded_jobRecorded _ _ (stallYard s) st.order.post r).trans
      (jobsEnded_jobScored _ _ (stallYard s) fault st.order))
    rw [he]
    exact ⟨(jobsEnded_thawed _ c _).trans ((jobsEnded_withoutJob _ _ s).trans hend), hend.free (Ctl.stall?_withoutJob _ s)⟩

/-! ## Aborts (R156, R157) -/

/-- The capture of an abort (R157). -/
def abortCapFields : List Reg :=
  [R.YARD_ERR_CAP_LEVEL, R.YARD_ERR_CAP_STABLE, R.YARD_ERR_CAP_STALL, R.YARD_ERR_CAP_FAULT, R.YARD_ERR_WIN_WIN]

/-- What an abort changes of the registers: the latches that its job held, the capture, the yard's mark and count, and the event. -/
def abortFields : List Reg := R.LATCH :: R.YARD_STATUS_FAULT_SEEN :: R.YARD_ABORTS :: abortCapFields ++ evtFields

/-- The first abort since its mark was cleared is captured (R157). -/
def Ctl.abortCapture (c : Ctl) (s fault : Nat) : Ctl :=
  ((((c.set R.YARD_ERR_CAP_LEVEL (faultLevel fault) (stallYard s)).set R.YARD_ERR_CAP_STABLE (stallStable s % 4) (stallYard s)).set
    R.YARD_ERR_CAP_STALL (s % 8) (stallYard s)).set R.YARD_ERR_CAP_FAULT fault (stallYard s)).set
      R.YARD_ERR_WIN_WIN c.winNo (stallYard s)

/-- Every abort is marked and counted in its yard. -/
def Ctl.abortCounted (c : Ctl) (s : Nat) : Ctl :=
  ((c.set R.YARD_STATUS_FAULT_SEEN 1 (stallYard s)).inc R.YARD_ABORTS (stallYard s)).raise Ev.YARD_FAULT (stallYard s)

/-- An abort for another cause than parity retires no stall. -/
theorem Ctl.abortNote_eq (c : Ctl) (s : Nat) {fault : Nat} (h : fault ≠ 1) : c.abortNote s fault =
    (c.when (!c.is R.YARD_STATUS_FAULT_SEEN (stallYard s)) (fun c => c.abortCapture s fault)).abortCounted s := by
  have hb : (fault != 1) = true := by simpa using h
  exact if_pos hb

theorem jobsEnded_abortCapture (c : Ctl) (s fault : Nat) : JobsEnded abortCapFields c (c.abortCapture s fault) := by
  unfold Ctl.abortCapture
  iterate 4 refine JobsEnded.trans ?_ (.set _ _ _ (by simp [abortCapFields]))
  exact .set _ _ _ (by simp [abortCapFields])

theorem jobsEnded_abortCounted (c : Ctl) (s : Nat) : JobsEnded abortFields c (c.abortCounted s) := by
  unfold Ctl.abortCounted
  refine JobsEnded.trans ?_ (.raise _ _ _ _ (fun f hf => by simp [abortFields, hf]))
  exact (JobsEnded.set _ _ _ (by simp [abortFields])).trans (.set _ _ _ (by simp [abortFields]))

/-- The note of an abort: its mark and its count, over the capture of the first one. -/
theorem Ctl.abortNote_spec (c : Ctl) (s : Nat) {fault : Nat} (h : fault ≠ 1) :
    JobsEnded abortFields c (c.abortNote s fault) ∧ (c.abortNote s fault).get R.YARD_STATUS_FAULT_SEEN (stallYard s) = 1 ∧
      (c.abortNote s fault).get R.YARD_ABORTS (stallYard s) =
        (c.get R.YARD_ABORTS (stallYard s) + 1) % 2 ^ R.YARD_ABORTS.width := by
  have hcap := JobsEnded.when c (!c.is R.YARD_STATUS_FAULT_SEEN (stallYard s)) (fun c => c.abortCapture s fault)
    (jobsEnded_abortCapture c s fault)
  have hcount := hcap.regs R.YARD_ABORTS (stallYard s) (by decide)
  rw [c.abortNote_eq s h]
  refine ⟨(hcap.mono (by simp +contextual [abortFields])).trans (jobsEnded_abortCounted _ s), ?_, ?_⟩ <;> rw [Ctl.abortCounted]
  · rw [Ctl.get_raise _ _ _ _ _ _ (by decide), Ctl.get_inc_field _ _ _ _ _ _ (by decide), Ctl.get_set_self]
    rfl
  · rw [Ctl.get_raise _ _ _ _ _ _ (by decide), Ctl.get_inc_self, Ctl.get_set_field _ _ _ _ _ _ (by decide), hcount]

/-- An abort for another cause than parity ends the job of its stall. -/
theorem Ctl.abortJob_spec (c : Ctl) (s : Nat) {fault : Nat} (h : fault ≠ 1) :
    JobsEnded abortFields c (c.abortJob s fault) ∧ (c.abortJob s fault).stall? s = none ∧
      (c.abortJob s fault).get R.YARD_STATUS_FAULT_SEEN (stallYard s) = 1 ∧
      (c.abortJob s fault).get R.YARD_ABORTS (stallYard s) =
        (c.get R.YARD_ABORTS (stallYard s) + 1) % 2 ^ R.YARD_ABORTS.width := by
  obtain ⟨hend, hfree⟩ := c.endJob_spec s fault 0
  obtain ⟨hnote, hseen, hcount⟩ := (c.endJob s fault 0).abortNote_spec s h
  rw [hend.regs _ _ (by decide)] at hcount
  exact ⟨(hend.mono (by simp [abortFields])).trans hnote, hnote.free hfree, hseen, hcount⟩

/-- Aborts of several jobs, one after the other, leave each of their stalls free. -/
theorem Ctl.each_abortJob (l : List Nat) (c : Ctl) :
    JobsEnded abortFields c (c.each l (fun c s => c.abortJob s 3)) ∧
      ∀ s ∈ l, (c.each l (fun c s => c.abortJob s 3)).stall? s = none := by
  induction l generalizing c with
  | nil => exact ⟨.refl c, nofun⟩
  | cons a l ih =>
    obtain ⟨hend, hfree, -⟩ := c.abortJob_spec a (fault := 3) (by decide)
    obtain ⟨hends, hfrees⟩ := ih (c.abortJob a 3)
    refine ⟨hend.trans hends, fun s hs => ?_⟩
    rcases List.mem_cons.1 hs with rfl | hs
    · exact hends.free hfree
    · exact hfrees s hs

/-! ## Limits (R140, R184) -/

/-- No bundle of the job has begun to issue and not yet landed (R184). -/
def StallSt.settled (st : StallSt) : Prop := st.wait ≠ .granted ∧ (st.wait = .none → st.fx = [])

/-- Where no bundle has begun to issue, there is none to complete. -/
theorem Mach.bundleSettle_settled (x : Mach) {i : Nat} {st : StallSt} (h : x.c.stall? i = some st) (hst : st.settled) :
    x.bundleSettle i = x := by
  obtain ⟨hgranted, hfx⟩ := hst
  have hwake : x.wake i = x := by simp [Mach.wake, h, hgranted]
  have hlanded : (st.wait == .none && !st.fx.isEmpty) = false := by
    cases hw : st.wait == .none with
    | false => rfl
    | true => simp [hfx (beq_iff_eq.1 hw)]
  simp only [Mach.bundleSettle, hwake, h, hlanded, Bool.false_eq_true, if_false]

theorem Mach.bundleSettle_free (x : Mach) {i : Nat} (h : x.c.stall? i = none) : x.bundleSettle i = x := by
  simp [Mach.bundleSettle, Mach.wake, h]

section
variable (x : Mach) {i : Fin 128} {st : StallSt} (h : x.c.stall? i = some st) (hst : st.settled)
include h hst

/-- A job that has run for its limit, or that is frozen when the limit comes (log entry 132), is aborted, and its yard
notes it (R140, R157). -/
theorem jobLimitAbort_reached (hlim : x.c.jobLimit i ≤ st.cycles ∨ st.froze = true) : ∃ c, jobLimitAbort i x = { x with c := c } ∧
    c.stall? i = none ∧ c.get R.YARD_STATUS_FAULT_SEEN (i / 32) = 1 ∧
    c.get R.YARD_ABORTS (i / 32) = (x.c.get R.YARD_ABORTS (i / 32) + 1) % 2 ^ R.YARD_ABORTS.width := by
  by_cases hrun : x.c.jobLimit i ≤ st.cycles
  · refine ⟨x.c.abortJob i 4, ?_, (x.c.abortJob_spec i (by decide)).2⟩
    simp only [jobLimitAbort, x.bundleSettle_settled h hst, h, hrun, if_true]
  · have hfroze := hlim.resolve_left hrun
    refine ⟨(x.c.setStall i { st with cycles := x.c.jobLimit i, froze := false }).abortJob i 4, ?_,
      (Ctl.abortJob_spec _ i (by decide)).2⟩
    simp only [jobLimitAbort, x.bundleSettle_settled h hst, h, hrun, hfroze, if_false, if_true]

/-- One that runs below its limit goes on. -/
theorem jobLimitAbort_below (hrun : st.cycles < x.c.jobLimit i) (hfroze : st.froze = false) : jobLimitAbort i x = x := by
  simp only [jobLimitAbort, x.bundleSettle_settled h hst, h, Nat.not_le.2 hrun, hfroze, Bool.false_eq_true, if_false]

end

/-! ## The mix phase (R147) -/

/-- What the cut-off discards and aborts: the MIX orders of the window. -/
def Ctl.mixDue (c : Ctl) (o : Order) : Bool := o.kind == 1 && o.deadline == c.cwin

theorem Ctl.mixDue_iff (c : Ctl) (o : Order) : c.mixDue o = true ↔ o.kind = 1 ∧ o.deadline = c.cwin := by
  simp [Ctl.mixDue]

/-- One stable's part of the discarding: the orders that `due` names leave its queue, and are missed. -/
def Ctl.dropFrom (c : Ctl) (y : Nat) (due : Order → Bool) (n : Nat) : Ctl :=
  if !(c.stable n).queue.any due then c
  else
    (c.setYard y { c.yard y with
      missMix := (c.stable n).queue.filter (fun o => due o && o.kind != 0) ++ (c.yard y).missMix }).setQueue n
        ((c.stable n).queue.filter (fun o => !due o))

theorem Ctl.dropOrders_eq (c : Ctl) (y : Nat) (due : Order → Bool) :
    c.dropOrders y due = c.each ((List.range 4).map (4 * y + ·)) (fun c n => c.dropFrom y due n) := rfl

theorem Ctl.dropFrom_spec (c : Ctl) (y : Nat) (due : Order → Bool) (n : Nat) :
    (∀ m, ((c.dropFrom y due n).stable m).queue =
      if m = n then (c.stable m).queue.filter (fun o => !due o) else (c.stable m).queue) ∧
      (∀ i, (c.dropFrom y due n).stall? i = c.stall? i) ∧ ((c.dropFrom y due n).yard y).cut = (c.yard y).cut := by
  unfold Ctl.dropFrom
  split
  · next h =>
    have hnone : (c.stable n).queue.filter (fun o => !due o) = (c.stable n).queue := List.filter_eq_self.2 (by simpa using h)
    refine ⟨fun m => ?_, fun _ => rfl, rfl⟩
    split
    · next hm => rw [hm, hnone]
    · rfl
  · refine ⟨fun m => ?_, fun i => ?_, ?_⟩
    · split
      · next hm =>
        rw [hm, Ctl.stable_setQueue]
      · next hm =>
        rw [Ctl.stable_setQueue_ne _ _ hm]
        rfl
    · exact Ctl.stall?_setQueue _ _ _ _
    · rw [Ctl.yard_setQueue, Ctl.yard_setYard]

/-- The orders that `due` names leave the queues of the stables listed; the jobs and the yard's cut-off stay as they are. -/
theorem Ctl.each_dropFrom (l : List Nat) (y : Nat) (due : Order → Bool) (c : Ctl) :
    (∀ m, ((c.each l (fun c n => c.dropFrom y due n)).stable m).queue =
      if m ∈ l then (c.stable m).queue.filter (fun o => !due o) else (c.stable m).queue) ∧
      (∀ i, (c.each l (fun c n => c.dropFrom y due n)).stall? i = c.stall? i) ∧
      ((c.each l (fun c n => c.dropFrom y due n)).yard y).cut = (c.yard y).cut := by
  induction l generalizing c with
  | nil => exact ⟨fun _ => rfl, fun _ => rfl, rfl⟩
  | cons a l ih =>
    obtain ⟨hq, hj, hcut⟩ := c.dropFrom_spec y due a
    obtain ⟨hqs, hjs, hcuts⟩ := ih (c.dropFrom y due a)
    refine ⟨fun m => (hqs m).trans ?_, fun i => (hjs i).trans (hj i), hcuts.trans hcut⟩
    rw [hq m]
    by_cases hm : m = a <;> by_cases hml : m ∈ l <;> simp [hm, hml]

/-- Feed dispatch begins, and changes neither the stables, the jobs nor the cut-off. -/
theorem Ctl.dispatchFeeds_spec (c : Ctl) (y : Nat) :
    ((c.dispatchFeeds y).yard y).dispatched = true ∧ ((c.dispatchFeeds y).yard y).cut = (c.yard y).cut ∧
      (c.dispatchFeeds y).fabr.stables = c.fabr.stables ∧ (c.dispatchFeeds y).fabr.stalls = c.fabr.stalls ∧
      (c.dispatchFeeds y).regs = c.regs := by
  unfold Ctl.dispatchFeeds
  extract_lets t take jobs
  split
  · next h => exact ⟨h, rfl, rfl, rfl, rfl⟩
  · exact ⟨by rw [Ctl.yard_setYard], by rw [Ctl.yard_setYard], rfl, rfl, rfl⟩

/-- Before the cut-off, feed dispatch waits for the MIX orders of the window. -/
theorem feedDispatch_waits (y : Fin 4) (c : Ctl) (h : c.mixOver = false) : feedDispatch y c = c := by
  simp [feedDispatch, h]

/-- The control state after the mix cut-off of a yard in which every bundle has landed. -/
def Ctl.mixCut (c : Ctl) (y : Nat) : Ctl :=
  (((c.setYard y { c.yard y with cut := true }).dropOrders y c.mixDue).abortJobs y c.mixDue).dispatchFeeds y

theorem mixCutoff_settled (x : Mach) (y : Fin 4) (h : ∀ e ∈ x.c.fabr.stalls, e.1 / 32 = y.val → e.2.settled) :
    mixCutoff y x = { x with c := x.c.mixCut y } := by
  have hsettle : x.yardSettle y = x := by
    refine foldl_of_fixed _ _ x fun i hi => ?_
    obtain ⟨e, he, rfl⟩ := List.mem_map.1 hi
    have hy : e.1 / 32 = y.val := by simpa using (List.mem_filter.1 he).2
    cases hst : x.c.stall? e.1 with
    | none => exact x.bundleSettle_free hst
    | some st => exact x.bundleSettle_settled hst (h _ (mem_of_kget? hst) hy)
  rw [mixCutoff, hsettle]
  rfl

/-- After the cut-off the yard's queues hold no MIX order of the window, no stall of it runs one, and feed dispatch has begun. -/
theorem Ctl.mixCut_spec (c : Ctl) (y : Nat) :
    ((c.mixCut y).yard y).cut = true ∧ ((c.mixCut y).yard y).dispatched = true ∧
      (∀ n < 4, ((c.mixCut y).stable (4 * y + n)).queue = (c.stable (4 * y + n)).queue.filter (fun o => !c.mixDue o)) ∧
      ∀ i st, i / 32 = y → (c.mixCut y).stall? i = some st → c.mixDue st.order = false := by
  unfold Ctl.mixCut Ctl.abortJobs
  rw [Ctl.dropOrders_eq]
  obtain ⟨hqueue, -, hcut⟩ := (c.setYard y { c.yard y with cut := true }).each_dropFrom ((List.range 4).map (4 * y + ·)) y c.mixDue
  generalize Ctl.each _ _ _ = dropped at hqueue hcut
  generalize hl : (dropped.fabr.stalls.filter (fun e => e.1 / 32 == y && c.mixDue e.2.order)).map (·.1) = due
  obtain ⟨hend, hfree⟩ := Ctl.each_abortJob due dropped
  generalize Ctl.each _ _ _ = aborted at hend hfree
  obtain ⟨hdisp, hkept, hstables, hstalls, -⟩ := aborted.dispatchFeeds_spec y
  refine ⟨?_, hdisp, fun n hn => ?_, fun i st hy hst => ?_⟩
  · rw [hkept, hend.cut, hcut, Ctl.yard_setYard]
  · have hmem : 4 * y + n ∈ (List.range 4).map (4 * y + ·) := List.mem_map.2 ⟨n, List.mem_range.2 hn, rfl⟩
    rw [Ctl.stable, hstables, hend.stables]
    exact (hqueue _).trans (if_pos hmem)
  · rw [Ctl.stall?, hstalls] at hst
    obtain ⟨st0, h0, ho⟩ := hend.orders i st hst
    rw [ho]
    by_contra hdue
    have hi : i ∈ due := by
      rw [← hl]
      exact List.mem_map.2 ⟨(i, st0), List.mem_filter.2 ⟨mem_of_kget? h0, by simpa [hy] using hdue⟩, rfl⟩
    exact absurd ((hfree i hi).symm.trans hst) nofun

theorem mixCutoff_spec (x : Mach) (y : Fin 4) (h : ∀ e ∈ x.c.fabr.stalls, e.1 / 32 = y.val → e.2.settled) :
    ∃ c, mixCutoff y x = { x with c := c } ∧ (c.yard y).cut = true ∧ (c.yard y).dispatched = true ∧
      (∀ n < 4, (c.stable (4 * y + n)).queue = (x.c.stable (4 * y + n)).queue.filter (fun o => !x.c.mixDue o)) ∧
      ∀ i st, i / 32 = y.val → c.stall? i = some st → x.c.mixDue st.order = false :=
  ⟨_, mixCutoff_settled x y h, x.c.mixCut_spec y⟩

/-! ## Registers of a yard (R136, R158) -/

/-- A running module keeps its yards on (R158). -/
theorem Ctl.yardCtrl_refused (c : Ctl) (y d : Nat) (hen : R.YARD_CTRL_EN.of d = 0) (hon : c.is R.YARD_CTRL_EN y = true)
    (hrun : c.is R.WIN_STATUS_RUN = true) : c.yardCtrl y d = c.yardState y := by
  simp [Ctl.yardCtrl, hen, hon, hrun]

theorem Ctl.yardState_spec (c : Ctl) (y : Nat) : (c.yardState y).get R.YARD_STATUS_ERR_STATE y = 1 ∧
    c.sameRegsBut (c.yardState y) (R.YARD_STATUS_ERR_STATE :: evtFields) := by
  refine ⟨?_, c.sameRegsBut_refuse _ _ _ _⟩
  rw [Ctl.yardState, Ctl.refuse, Ctl.get_raise _ _ _ _ _ _ (by decide), Ctl.get_set_self]
  rfl

/-- A block enable is carried out, and shown in the ledger, or is refused with LEDGER and changes nothing (R38). -/
theorem Ctl.enableBlock_cases (c : Ctl) (on : Ctl → Ctl) :
    (c.enableBlock on).1 = (on c).ledgShow ∨ ∃ i, (c.enableBlock on).1 = c.raise Ev.LEDG_REFUSE 0 i := by
  unfold Ctl.enableBlock Ctl.enableBlocks
  simp only [List.foldl_cons, List.foldl_nil, Option.isSome_none, Bool.false_eq_true, if_false]
  cases c.enableBar (on c) with
  | none => exact .inl rfl
  | some i => exact .inr ⟨i, rfl⟩

/-- A write that leaves EN and STABLE_EN as they are is taken. -/
theorem Ctl.yardCtrl_same (c : Ctl) (y d : Nat) (hen : R.YARD_CTRL_EN.of d = c.get R.YARD_CTRL_EN y)
    (hst : R.YARD_CTRL_STABLE_EN.of d = c.get R.YARD_CTRL_STABLE_EN y)
    (hoff : ¬ (R.YARD_CTRL_EN.of d = 0 ∧ c.is R.YARD_CTRL_EN y = true)) :
    (c.yardCtrl y d).get R.YARD_CTRL_EN y = R.YARD_CTRL_EN.of d ∧
      (c.yardCtrl y d).get R.YARD_CTRL_STABLE_EN y = R.YARD_CTRL_STABLE_EN.of d := by
  have htaken : c.yardCtrl y d = (c.enableBlock (fun c => (c.set R.YARD_CTRL_EN (R.YARD_CTRL_EN.of d) y).set
      R.YARD_CTRL_STABLE_EN (R.YARD_CTRL_STABLE_EN.of d) y)).1 := by
    have hidle : (List.range 4).any (fun i => bit (c.get R.YARD_CTRL_STABLE_EN y) i && !bit (c.get R.YARD_CTRL_STABLE_EN y) i &&
        (!(c.stable (4 * y + i)).queue.isEmpty || c.fabr.stalls.any (fun e => e.1 / 8 == 4 * y + i))) = false := by simp
    have hflat : (List.range 4).any (fun i =>
        !bit (c.get R.YARD_CTRL_STABLE_EN y) i && bit (c.get R.YARD_CTRL_STABLE_EN y) i) = false := by simp
    have hon : (decide (R.YARD_CTRL_EN.of d = 0) && c.is R.YARD_CTRL_EN y) = false := by simpa using hoff
    simp only [Ctl.yardCtrl, hst, hidle, hflat, hon, Bool.false_and, Bool.or_self, Bool.false_eq_true, if_false]
  rw [htaken]
  rcases c.enableBlock_cases (fun c => (c.set R.YARD_CTRL_EN (R.YARD_CTRL_EN.of d) y).set R.YARD_CTRL_STABLE_EN
      (R.YARD_CTRL_STABLE_EN.of d) y) with he | ⟨i, he⟩
  · rw [he, Ctl.get_ledgShow _ _ _ (by decide), Ctl.get_ledgShow _ _ _ (by decide), Ctl.get_set_field _ _ _ _ _ _ (by decide),
      Ctl.get_set_self, Ctl.get_set_self]
    exact ⟨Nat.mod_mod _ _, Nat.mod_mod _ _⟩
  · rw [he, Ctl.get_raise _ _ _ _ _ _ (by decide), Ctl.get_raise _ _ _ _ _ _ (by decide)]
    exact ⟨hen.symm, hst.symm⟩

/-- A read-write field of a word that is stored. -/
theorem Ctl.get_store_rw (fields : List Reg) (i d : Nat) {r : Reg} (hrw : r.acc = .rw) (c : Ctl) (hr : r ∈ fields)
    (hid : ∀ f ∈ fields, f.id = r.id → f = r) : (c.store fields i d).get r i = storeVal r (r.of d) % 2 ^ r.width := by
  induction fields generalizing c with
  | nil => cases hr
  | cons f fs ih =>
    have hstep : ∀ e : Ctl, (e.store (f :: fs) i d) = (e.store [f] i d).store fs i d := fun _ => rfl
    rw [hstep]
    by_cases hmem : r ∈ fs
    · exact ih _ hmem fun g hg => hid g (List.mem_cons_of_mem _ hg)
    · obtain rfl : r = f := (List.mem_cons.1 hr).resolve_right hmem
      have hlater : ∀ g ∈ fs, g.id ≠ r.id := fun g hg he => hmem (hid g (List.mem_cons_of_mem _ hg) he ▸ hg)
      rw [Ctl.sameRegsBut_store _ fs i d r i hlater]
      simp only [Ctl.store, Ctl.each, List.foldl_cons, List.foldl_nil, hrw, Ctl.get_set_self]

/-- One of the words that a yard latches, where it has been written. -/
def Ctl.putCfg (c : Ctl) (y w : Nat) (v : Option Nat) : Ctl :=
  match v with
  | none => c
  | some d => c.store (wordFields R.fieldsYARD (0x100008 + 4 * w)) y d

theorem yardConfigApply_eq (y : Fin 4) (c : Ctl) : yardConfigApply y c =
    (((c.putCfg y 0 (c.yard y).cfg.reserve).putCfg y 1 (c.yard y).cfg.arb).putCfg y 2 (c.yard y).cfg.limits).setYard y
      { c.yard y with cfg := {} } := rfl

theorem Ctl.sameRegsBut_putCfg (c : Ctl) (y w : Nat) (v : Option Nat) :
    c.sameRegsBut (c.putCfg y w v) (wordFields R.fieldsYARD (0x100008 + 4 * w)) := by
  cases v
  · exact c.sameRegsBut_refl _
  · exact c.sameRegsBut_store _ _ _

/-- A read-write field of a latched word, where its storing adjusts nothing. -/
theorem Ctl.get_putCfg (c : Ctl) (y w d : Nat) {r : Reg} (hr : r ∈ wordFields R.fieldsYARD (0x100008 + 4 * w)) (hrw : r.acc = .rw)
    (hid : ∀ f ∈ wordFields R.fieldsYARD (0x100008 + 4 * w), f.id = r.id → f = r) (hplain : ∀ v, storeVal r v = v) :
    (c.putCfg y w (some d)).get r y = r.of d := by
  have hget := c.get_store_rw _ y d hrw hr hid
  rw [hplain] at hget
  exact hget.trans (Nat.mod_mod _ _)

/-- Each latched word takes effect: a field of it reads what was written last. -/
theorem yardConfigApply_spec (y : Fin 4) (c : Ctl) :
    ((yardConfigApply y c).yard y).cfg = {} ∧
      (∀ d, (c.yard y).cfg.limits = some d → (yardConfigApply y c).get R.YARD_LIMITS_JOB_LIMIT y = R.YARD_LIMITS_JOB_LIMIT.of d) ∧
      (∀ d, (c.yard y).cfg.arb = some d → (yardConfigApply y c).get R.YARD_ARB_WB y = R.YARD_ARB_WB.of d) ∧
      ∀ d, (c.yard y).cfg.reserve = some d → (yardConfigApply y c).get R.YARD_RESERVE_RESERVE y = R.YARD_RESERVE_RESERVE.of d := by
  rw [yardConfigApply_eq]
  refine ⟨by rw [Ctl.yard_setYard], fun d hd => ?_, fun d hd => ?_, fun d hd => ?_⟩
  · rw [Ctl.get_setYard, hd]
    exact Ctl.get_putCfg _ _ 2 _ (by decide) rfl (by decide) (fun v => storeVal_of_plain _ v (by decide) (by decide) (by decide))
  · rw [Ctl.get_setYard, Ctl.sameRegsBut_putCfg _ _ 2 _ _ _ (by decide), hd]
    exact Ctl.get_putCfg _ _ 1 _ (by decide) rfl (by decide) (fun v => storeVal_of_plain _ v (by decide) (by decide) (by decide))
  · rw [Ctl.get_setYard, Ctl.sameRegsBut_putCfg _ _ 2 _ _ _ (by decide), Ctl.sameRegsBut_putCfg _ _ 1 _ _ _ (by decide), hd]
    exact Ctl.get_putCfg _ _ 0 _ (by decide) rfl (by decide) (fun v => storeVal_of_plain _ v (by decide) (by decide) (by decide))

theorem yardEn_of (d : Nat) : R.YARD_CTRL_EN.of d = d % 2 := rfl

/-! ## The statement -/

/-- Settles O20: dispatch, limits and the mix phase by their lemmas, a write of YARD_CTRL by its outcomes, and each latched word from
its own store. -/
theorem yards : Obligations.Yards := by
  unfold Obligations.Yards
  refine ⟨fun s => ⟨fun i k hs hf hk hb => ?_, fun i x hx => ?_, fun n post => ?_, fun i x hx hgranted hfx => ⟨fun hlim => ?_,
    fun hrun hfroze => ?_⟩⟩, fun s y => ⟨fun h => ?_, fun h => ?_, fun h => ?_, fun ch h => ?_, fun ch h => ?_,
    fun m d hrole => ⟨fun hd hon hrun => ?_, fun hen hst hoff => ?_⟩, ?_⟩⟩
  · obtain ⟨hjob, hqueue, hcreditB, hcreditC, hdepth, hothers⟩ := s.m.fresh.c.started_spec i k
    exact ⟨_, next_of_ctl rfl (jobDispatch_starts s.m.fresh.c hs hf hk hb), hjob, hqueue, hcreditB, hcreditC,
      hdepth, hothers, rfl⟩
  · exact next_of_ctl rfl (jobDispatch_busy s.m.fresh.c hx)
  · obtain ⟨hqueue, hregs⟩ := orderAged_spec s.m.fresh.c n post
    exact ⟨_, next_of_ctl rfl rfl, hqueue, hregs, rfl⟩
  · obtain ⟨c, he, hfree, hseen, hcount⟩ := jobLimitAbort_reached s.m.fresh hx ⟨hgranted, hfx⟩ hlim
    exact ⟨_, next_of_mach rfl he, hfree, hseen, hcount, rfl⟩
  · exact next_of_mach rfl (jobLimitAbort_below s.m.fresh hx ⟨hgranted, hfx⟩ hrun hfroze)
  · obtain ⟨c, he, hcut, hdisp, hqueues, hjobs⟩ := mixCutoff_spec s.m.fresh y h
    refine ⟨_, next_of_mach rfl he, hcut, hdisp, hqueues, fun i st hy hst hdue => ?_, rfl⟩
    have hnot := hjobs i st hy hst
    rw [(s.m.fresh.c.mixDue_iff st.order).2 hdue] at hnot
    exact absurd hnot nofun
  · obtain ⟨hdisp, -, -, -, hregs⟩ := s.m.fresh.c.dispatchFeeds_spec y
    exact ⟨_, next_of_ctl rfl (if_pos h), hdisp, hregs, rfl⟩
  · exact next_of_ctl rfl (feedDispatch_waits y s.m.fresh.c h)
  · exact next_of_ctl rfl (xbarAgePromote_idle y ch s.m.fresh.c h)
  · exact next_of_ctl rfl (if_pos h)
  · have hen : R.YARD_CTRL_EN.of d.toNat = 0 := (yardEn_of _).trans hd
    obtain ⟨herr, hregs⟩ := s.m.fresh.c.yardState_spec y
    exact ⟨_, alone_next rfl hrole (Ctl.yardCtrl_refused s.m.fresh.c y d.toNat hen hon hrun), herr, hregs, rfl⟩
  · obtain ⟨hen', hstable⟩ := s.m.fresh.c.yardCtrl_same y d.toNat hen hst hoff
    exact ⟨_, alone_next rfl hrole rfl, hen', hstable, rfl⟩
  · obtain ⟨hcfg, hlimits, harb, hreserve⟩ := yardConfigApply_spec y s.m.fresh.c
    exact ⟨_, next_of_ctl rfl rfl, hcfg, rfl, hlimits, harb, hreserve⟩

end Sys2Proof.Machine
end

section
/-! PROOFS. A slot's command joins its effects to its bundle (R161), and the M slot: its multiplies and the conversion of an
accumulator (R164, R165, R169). -/
namespace Sys2Proof.Machine

/-! ## What a slot's command issues (R161) -/

/-- The next state of a slot's command where its stall is ready for it. -/
theorem slotOp_next {i : Instr} {k : Slot} {s : State} {st : StallSt} {f : Mach → StallSt → List Fx} {fx : List Fx}
    (he : exec i s = s.mach (slotOp k f)) (h : s.m.c.slotReady k st) (hf : f s.m.fresh st = fx) :
    exec i s = .next (s.issued k st fx) := by
  rw [he, ← hf]
  exact mach_slotAt k _ f s st h

/-! ## Lanes and masks (R169) -/

/-- The four lanes of a multiply; a group that begins above v60 is ILLEGAL. -/
theorem laneFx_four (mk : Nat → Int → Fx) (d : Nat) (b : Fin 64) (z : Nat → Int) :
    laneFx mk d b ((List.range 4).map z) =
      if b ≤ 60 then [mk (4 * d) (z 0), mk (4 * d + 1) (z 1), mk (4 * d + 2) (z 2), mk (4 * d + 3) (z 3)] else [.fault 5] := by
  have hb : 60 < b.val ↔ ¬ b ≤ 60 := by rw [Fin.le_def]; exact Nat.not_le.symm
  unfold laneFx
  by_cases h : b ≤ 60
  · rw [if_neg (fun hgt => hb.1 hgt h), if_pos h]
    rfl
  · rw [if_pos (hb.2 h), if_neg h]

theorem bitsOf_eq_testBit (w n : Nat) : bitsOf w n = (List.range w).filter (fun d => n.testBit d) :=
  congrArg (List.filter · _) (funext (bit_eq_testBit n))

/-! ## The conversion of an accumulator (R165) -/

/-- A value in the range of a field is read back from its pattern. -/
theorem sx_ux_of_range {w : Nat} (hw : 0 < w) {z : Int} (hlo : -2 ^ (w - 1) ≤ z) (hhi : z < 2 ^ (w - 1)) : sx w (ux w z) = z := by
  rw [ux_eq, sx_toInt]
  exact BitVec.toInt_ofInt_eq_self hw hlo hhi

theorem sat31_eq (z : Int) : sat31 z = max (-2 ^ 31) (min (2 ^ 31 - 1) z) := by
  unfold sat31 clampI
  split
  · omega
  · split <;> omega

theorem sats31_iff (z : Int) : sats31 z = true ↔ z < -2 ^ 31 ∨ 2 ^ 31 ≤ z := by
  unfold sats31
  rw [decide_eq_true_iff]
  omega

/-- The shift of each code of a conversion. -/
theorem convShift (sh : Fin 8) : ∃ n : Nat, [0, 16, 20, 21, 22, 23, 24, 31][sh.val]? = some n ∧
    [0, 16, 20, 21, 22, 23, 24, 31].getD sh.val 0 = n := by
  revert sh
  decide +kernel

theorem asr_eq (z : Int) (n : Nat) : asr z n = z / 2 ^ n := by simp [asr]

/-! ## The statement -/

/-- Settles O21: each row of the M slot by its own effects, and the conversion by its shift and its saturation. -/
theorem multiplyAndConvert : Obligations.MultiplyAndConvert := by
  unfold Obligations.MultiplyAndConvert
  refine ⟨fun k s st h => ⟨fun e he d b v => ?_, fun d cf y => ⟨slotOp_next rfl h rfl, slotOp_next rfl h rfl, slotOp_next rfl h rfl⟩,
    fun mask => slotOp_next rfl h (congrArg (List.map _) (bitsOf_eq_testBit 8 mask)),
    fun d a => ⟨slotOp_next rfl h rfl, slotOp_next rfl h rfl⟩⟩, fun a sh => ?_⟩
  · simp only [laneTable, List.mem_cons, List.not_mem_nil, or_false] at he
    rcases he with rfl | rfl | rfl | rfl | rfl
    · exact slotOp_next rfl h (laneFx_four .aadd d b _)
    · exact slotOp_next rfl h (laneFx_four .aadd d b fun i => -(st.samp (b + i) * st.coef v))
    · exact slotOp_next rfl h (laneFx_four .aset d b _)
    · exact slotOp_next rfl h (laneFx_four .aadd d b _)
    · exact slotOp_next rfl h (laneFx_four .aset d b _)
  · obtain ⟨n, hn, hsh⟩ := convShift sh
    refine ⟨n, hn, ?_, ?_⟩ <;> rw [convAcc, hsh, asr_eq]
    · exact sats31_iff _
    · have hrange := sat31_eq (a / 2 ^ n)
      rw [sx_ux_of_range (by decide) (by omega) (by omega), hrange]

end Sys2Proof.Machine
end

section
/-! PROOFS. The A slot, its pointers and their rings (R170, R171). -/
namespace Sys2Proof.Machine

/-! ## Pointers (R171) -/

section
variable (st : StallSt) (k : Nat) (d p : Int)

/-- A plain pointer advances by bytes. -/
theorem StallSt.advance_plain (h : st.ring k = none) : st.advance k d p = ux 32 ((st.ptr k : Int) + p) := by
  simp only [StallSt.advance, h]

/-- A ring pointer advances by words round its ring, its low two bits kept. -/
theorem StallSt.advance_ring {base len : Nat} (h : st.ring k = some (base, len)) :
    st.advance k d p = ux 32 (4 * (base + (((st.ptr k / 4 : Nat) : Int) - base + d) % (len : Int)) + ((st.ptr k % 4 : Nat) : Int)) := by
  simp only [StallSt.advance, h]

/-- A ring has a length of its own. -/
theorem StallSt.ring_len_pos {base len : Nat} (h : st.ring k = some (base, len)) : 0 < len := by
  unfold StallSt.ring at h
  split at h
  · next hm =>
    cases h
    simp only [Bool.and_eq_true, bne_iff_ne] at hm
    exact Nat.pos_of_ne_zero hm.2
  · cases h

/-- Where an advance takes a ring pointer: a word of the ring, so many words on. -/
theorem StallSt.advance_ring_spec {base len : Nat} (h : st.ring k = some (base, len)) (hb : base < 65536) (hl : len < 65536) :
    base ≤ st.advance k d p / 4 ∧ st.advance k d p / 4 < base + len ∧ st.advance k d p % 4 = st.ptr k % 4 ∧
      ((st.advance k d p / 4 : Nat) - base : Int) % len = (((st.ptr k / 4 : Nat) : Int) - base + d) % len := by
  have hpos := st.ring_len_pos k h
  have hlo := Int.emod_nonneg (((st.ptr k / 4 : Nat) : Int) - base + d) (b := len) (by omega)
  have hhi := Int.emod_lt_of_pos (((st.ptr k / 4 : Nat) : Int) - base + d) (b := len) (by omega)
  have hwrap := Int.emod_emod_of_dvd (((st.ptr k / 4 : Nat) : Int) - base + d) (dvd_refl (len : Int))
  rw [st.advance_ring k d p h]
  generalize (((st.ptr k / 4 : Nat) : Int) - base + d) % (len : Int) = w at *
  obtain ⟨n, rfl⟩ := Int.eq_ofNat_of_zero_le hlo
  have hux : ux 32 (4 * ((base : Int) + (n : Int)) + ((st.ptr k % 4 : Nat) : Int)) = 4 * (base + n) + st.ptr k % 4 := by
    unfold ux
    omega
  have hdiv : (4 * (base + n) + st.ptr k % 4) / 4 = base + n := by omega
  rw [hux, hdiv]
  refine ⟨by omega, by omega, by omega, ?_⟩
  rw [show ((base + n : Nat) : Int) - base = n by omega, hwrap]

end

/-! ## Words as signed numbers -/

theorem ux_add (x y : BitVec 32) : ux 32 ((x.toNat : Int) + (y.toNat : Int)) = (x + y).toNat := by
  rw [ux_eq, BitVec.ofInt_add, BitVec.ofInt_natCast, BitVec.ofInt_natCast, BitVec.ofNat_toNat, BitVec.ofNat_toNat]
  simp

theorem ux_sub (x y : BitVec 32) : ux 32 ((x.toNat : Int) + -(y.toNat : Int)) = (x - y).toNat := by
  unfold ux
  have := x.isLt
  have := y.isLt
  rw [BitVec.toNat_sub]
  omega

/-- An arithmetic shift right of a word. -/
theorem ux_asr (x : BitVec 32) (n : Nat) : ux 32 (asr (sx 32 x.toNat) n) = (x.sshiftRight n).toNat := by
  rw [ux_eq, sx_toInt, asr, ← Int.shiftRight_eq_div_pow]
  rfl

/-- The words that a pointer's bytes make. -/
theorem toInt_sshiftRight_two (y : BitVec 32) : (y.sshiftRight 2).toInt = sx 32 y.toNat / 4 := by
  rw [BitVec.toInt_sshiftRight, sx_toInt, Int.shiftRight_eq_div_pow]
  rfl

theorem toNat_shiftLeft_eq (x : BitVec 32) (n : Nat) : (x <<< n).toNat = x.toNat * 2 ^ n % 2 ^ 32 := by
  rw [BitVec.toNat_shiftLeft, Nat.shiftLeft_eq]

/-! ## The statement -/

/-- Settles O22: each row of the A slot by its own effects, and an advance by the pointer's kind. -/
theorem pointerSlot : Obligations.PointerSlot := by
  unfold Obligations.PointerSlot
  refine ⟨fun k s st d h => ⟨fun imm => ⟨slotOp_next rfl h rfl, slotOp_next rfl h rfl⟩, fun a x y hx hy => ⟨fun hplain => ⟨?_, ?_⟩,
    fun ring hring => ⟨?_, ?_⟩, ?_, ?_, fun n => ⟨?_, ?_⟩, fun n => ⟨?_, ?_⟩⟩, fun n imm => slotOp_next rfl h rfl,
    slotOp_next rfl h rfl⟩, fun st k d p => ⟨fun hplain => ?_, fun base len hring hb hl => st.advance_ring_spec k d p hring hb hl⟩⟩
  · refine slotOp_next rfl h ?_
    rw [StallSt.advance_plain _ _ _ _ hplain, hx, hy, ux_add]
  · refine slotOp_next rfl h ?_
    rw [StallSt.advance_plain _ _ _ _ hplain, hx, hy, ux_sub]
  · refine slotOp_next rfl h ?_
    rw [StallSt.advance_ring _ _ _ _ hring, StallSt.advance_ring _ _ _ _ hring, hy, toInt_sshiftRight_two]
  · refine slotOp_next rfl h ?_
    rw [StallSt.advance_ring _ _ _ _ hring, StallSt.advance_ring _ _ _ _ hring, hy, toInt_sshiftRight_two]
  · refine slotOp_next rfl h ?_
    rw [hy]
  · refine slotOp_next rfl h ?_
    rw [hx, hy, BitVec.toNat_and]
  · refine slotOp_next rfl h ?_
    rw [hx, toNat_shiftLeft_eq]
  · refine slotOp_next rfl h ?_
    rw [hx, ux_asr]
  · refine slotOp_next rfl h ?_
    rw [hy]
  · refine slotOp_next rfl h ?_
    rw [hy]
    rfl
  · rw [st.advance_plain k d p hplain, ux_eq, BitVec.ofNat_toNat, BitVec.ofInt_add]
    simp

end Sys2Proof.Machine
end

section
/-! PROOFS. The L slots: loads, stores, moves and sends (R165, R172 to R174). -/
namespace Sys2Proof.Machine

/-! ## Words of the store (R172, R173) -/

/-- The next state of a load's command where its stall is ready for it. -/
theorem slotLoad_next {i : Instr} {k : Slot} {s : State} {st : StallSt} {a : StallSt → Nat} {f : Mach → StallSt → List Fx} {fx : List Fx}
    (he : exec i s = s.mach (slotLoad k a f)) (h : s.m.c.slotReady k st) (hf : f s.m.fresh st = fx) :
    exec i s = .next ((s.issued k st fx).freed 4) := by
  have hslot := mach_slotAt k a f s st h
  rw [State.mach_eq, hf] at hslot
  rw [he, State.mach_eq, slotLoad, ← Host.Outcome.next.inj hslot]
  rfl

/-- A word of the store that is a word, is not poisoned and that no transfer writes. -/
def Mach.loadable (x : Mach) (s a : Nat) : Prop :=
  storeOk a = true ∧ x.c.storeBad s a 4 = false ∧ x.c.writing s a = none

/-- A load of words that can be loaded gives each of them. -/
theorem Mach.loadFx_loadable (x : Mach) (s : Nat) (l : List Nat) (mk : Nat → Nat → Fx) (h : ∀ a ∈ l, x.loadable s a) :
    x.loadFx s l mk = l.zipIdx.map (fun e => mk e.2 (x.m.store.rdN (storeAt s e.1) 4)) := by
  have hok : l.all storeOk = true := List.all_eq_true.2 fun a ha => (h a ha).1
  have hgood : l.any (fun a => x.c.storeBad s a 4) = false := List.any_eq_false.2 fun a ha => by simp [(h a ha).2.1]
  have hword : ∀ e ∈ l.zipIdx, mk e.2 (x.loadWord s e.1 e.2) = mk e.2 (x.m.store.rdN (storeAt s e.1) 4) := by
    intro e he
    simp only [Mach.loadWord, (h e.1 (List.fst_mem_of_mem_zipIdx he)).2.2]
  simp only [Mach.loadFx, hok, hgood, Bool.not_true, Bool.false_eq_true, if_false]
  exact List.map_congr_left hword

/-- A store of words takes effect where every one of them is a word of the store outside the code. -/
theorem Mach.storeFx_ok (x : Mach) (s : Nat) (l : List (Nat × Nat))
    (h : ∀ e ∈ l, storeOk e.1 = true ∧ x.c.inCode (stallYard s) e.1 = false) :
    x.storeFx s l = l.map (fun e => .store e.1 e.2) := by
  have hall : l.all (fun e => storeOk e.1 && !x.c.inCode (stallYard s) e.1) = true :=
    List.all_eq_true.2 fun e he => by simp [(h e he).1, (h e he).2]
  simp only [Mach.storeFx, hall, Bool.not_true, Bool.false_eq_true, if_false]

/-- A store of one word. -/
theorem Mach.storeFx_one (x : Mach) (s a v : Nat) : x.storeFx s [(a, v)] =
    [if storeOk a = true ∧ x.c.inCode (stallYard s) a = false then .store a v else .fault 6] := by
  unfold Mach.storeFx
  by_cases h : storeOk a = true ∧ x.c.inCode (stallYard s) a = false
  · simp [h.1, h.2]
  · simp only [List.all_cons, List.all_nil, Bool.and_true, Bool.not_eq_true', Bool.and_eq_false_iff, Bool.not_eq_false',
      List.map_cons, List.map_nil, if_neg h]
    rw [if_pos]
    cases hok : storeOk a with
    | false => exact .inl rfl
    | true => exact .inr (by simpa [hok] using h)

/-- The words of a group access in order; REV turns the order of the addresses. -/
theorem StallSt.group_eq (st : StallSt) (p : Nat) (rev : Bool) :
    st.group p rev = (List.range 4).map (fun i => st.groupAddr p (if rev then 3 - i else i)) := by
  cases rev <;> rfl

/-- What holds of the four words of a group holds of them in either order. -/
theorem StallSt.forall_group {st : StallSt} {p : Nat} {q : Nat → Prop} (h : ∀ i < 4, q (st.groupAddr p i)) (rev : Bool) :
    ∀ a ∈ st.group p rev, q a := by
  intro a ha
  rw [st.group_eq] at ha
  obtain ⟨i, hi, rfl⟩ := List.mem_map.1 ha
  have hlt := List.mem_range.1 hi
  exact h _ (by split <;> omega)

/-! ## Sends (R174) -/

section
variable (k : Slot) (p : Fin 16) (a : Fin 8) (rev : Bool) (post : Fin 4) {s : State} {st : StallSt} (h : s.m.c.slotReady k st)
  (hkind : st.order.kind = 1)
include h hkind

/-- A send of one accumulator. -/
theorem acc_one_next (hi : s.m.c.accIndexOk (st.ptr p) = true) :
    exec (.acc k p a false rev post) s = .next (s.issued k st (.send (st.ptr p) (ux 72 (st.acc a)) ::
      (if post = 0 then [] else [.p 2 p (ux 32 ((st.ptr p : Int) + postWords post)) 1]))) := by
  have hi' : s.m.fresh.c.accIndexOk (st.ptr p) = true := hi
  refine slotOp_next rfl h ?_
  simp only [hkind, bne_self_eq_false, Bool.false_and, Bool.false_or, Bool.false_eq_true, if_false, List.all_cons, List.all_nil,
    hi', Bool.and_true, Bool.not_true, List.map_cons, List.map_nil, ← Fin.val_eq_zero_iff]
  rfl

/-- A send of four accumulators. -/
theorem acc_four_next (ha : a.val % 4 = 0) (hi : ∀ i < 4, s.m.c.accIndexOk (st.ptr p + i) = true) :
    exec (.acc k p a true rev post) s = .next (s.issued k st ((List.range 4).map (fun i =>
      .send (st.ptr p + (if rev then 3 - i else i)) (ux 72 (st.acc (a + i)))) ++
      (if post = 0 then [] else [.p 2 p (ux 32 ((st.ptr p : Int) + postWords post)) 1]))) := by
  have hall : ((List.range 4).map (fun j => (st.ptr p + (if rev then 3 - j else j), st.acc (a + j)))).all
      (fun e => s.m.fresh.c.accIndexOk e.1) = true := by
    rw [List.all_map]
    exact List.all_eq_true.2 fun i hi4 => hi _ (by have := List.mem_range.1 hi4; split <;> omega)
  refine slotOp_next rfl h ?_
  simp only [hkind, ha, bne_self_eq_false, Bool.and_false, Bool.or_self, Bool.false_eq_true, if_false, if_true, hall,
    Bool.not_true, List.map_map, ← Fin.val_eq_zero_iff]
  rfl

end

/-! ## The statement -/

/-- Settles O23: loads and stores by their words, moves and conversions by their registers, sends by their accumulators. -/
theorem loadStoreSlot : Obligations.LoadStoreSlot := by
  unfold Obligations.LoadStoreSlot
  refine fun k s st h => ⟨fun d p post hok hgood hfree => ?_, fun d p post hok hgood hfree => ?_, fun g p post rev hw => ?_,
    fun v p post => ?_, fun g p post rev hw => ?_, fun p a sh post => ?_, fun d a sh => slotOp_next rfl h rfl,
    fun g hh sh => slotOp_next rfl h rfl, fun d a => slotOp_next rfl h rfl, fun d a => slotOp_next rfl h rfl,
    fun d a => slotOp_next rfl h rfl, fun p a rev post hkind hi => acc_one_next k p a rev post h hkind hi,
    fun p a rev post hkind ha hi => acc_four_next k p a rev post h hkind ha hi⟩
  · refine slotLoad_next rfl h ?_
    rw [Mach.loadFx_loadable s.m.fresh _ _ _ (List.forall_mem_singleton.2 ⟨hok, hgood, hfree⟩)]
    rfl
  · refine slotLoad_next rfl h ?_
    rw [Mach.loadFx_loadable s.m.fresh _ _ _ (List.forall_mem_singleton.2 ⟨hok, hgood, hfree⟩)]
    rfl
  · refine slotLoad_next rfl h ?_
    rw [Mach.loadFx_loadable _ _ _ _ (StallSt.forall_group (q := s.m.fresh.loadable k.stall) hw rev), st.group_eq]
    rfl
  · refine slotOp_next rfl h ?_
    rw [Mach.storeFx_one]
    rfl
  · refine slotOp_next rfl h ?_
    rw [Mach.storeFx_ok, st.group_eq]
    · rfl
    · intro e he
      obtain ⟨w, hmem, rfl⟩ := List.mem_map.1 he
      exact StallSt.forall_group (q := fun a => storeOk a = true ∧ s.m.fresh.c.inCode (stallYard k.stall) a = false) hw rev w.1
        (List.fst_mem_of_mem_zipIdx hmem)
  · refine slotOp_next rfl h ?_
    dsimp only
    rw [Mach.storeFx_one, List.append_assoc]
    rfl

end Sys2Proof.Machine
end

section
/-! PROOFS. What a bundle leaves when it ends (R160, R161, R164, R166, R167, R180, R184). -/
namespace Sys2Proof.Machine

/-! ## The causes of a bundle (R161, R184) -/

/-- The causes that a bundle can have, the first of them the one that its job's FAULT names (R184). -/
def faultOrder : List Nat := [5, 1, 6, 2, 7]

theorem any_fault (fx : List Fx) (j : Nat) : fx.any (fun e => e == .fault j) = decide (Fx.fault j ∈ fx) := by
  rw [Bool.eq_iff_iff, List.any_eq_true, decide_eq_true_iff]
  exact ⟨fun ⟨e, he, hj⟩ => beq_iff_eq.1 hj ▸ he, fun h => ⟨_, h, beq_self_eq_true _⟩⟩

/-- A search finds an element of the list that passes where none before it does. -/
theorem find?_of_takeWhile {α : Type} [BEq α] [LawfulBEq α] (p : α → Bool) (l : List α) {a : α} (hmem : a ∈ l) (ha : p a = true)
    (hbefore : ∀ b ∈ l.takeWhile (· != a), p b = false) : l.find? p = some a := by
  induction l with
  | nil => cases hmem
  | cons b l ih =>
    by_cases hb : b = a
    · subst hb
      exact List.find?_cons_of_pos ha
    · have hne : (b != a) = true := by simpa using hb
      rw [List.takeWhile_cons_of_pos (p := (· != a)) hne] at hbefore
      rw [List.find?_cons_of_neg (by simp [hbefore b (List.mem_cons_self ..)])]
      exact ih ((List.mem_cons.1 hmem).resolve_left fun h => hb h.symm) fun c hc => hbefore c (List.mem_cons_of_mem _ hc)

/-- The cause that a bundle shows: the first in order among those that it has. -/
theorem firstFault_of_mem {fx : List Fx} {code : Nat} (hcode : code ∈ faultOrder) (hmem : Fx.fault code ∈ fx)
    (hbefore : ∀ j ∈ faultOrder.takeWhile (· != code), Fx.fault j ∉ fx) : firstFault fx = some code := by
  simp only [firstFault, any_fault]
  exact find?_of_takeWhile _ _ hcode (by simpa using hmem) fun j hj => by simpa using hbefore j hj

/-- A bundle with a cause shows one. -/
theorem firstFault_isSome {fx : List Fx} {code : Nat} (hcode : code ∈ faultOrder) (hmem : Fx.fault code ∈ fx) :
    ∃ j, firstFault fx = some j := by
  simp only [firstFault, any_fault]
  exact Option.isSome_iff_exists.1 (List.find?_isSome.2 ⟨code, hcode, by simpa using hmem⟩)

section
variable (x : Mach) {n : Nat} {st : StallSt} (h : x.c.stall? n = some st)
include h

/-- The causes of a bundle abort its job (R184). -/
theorem Mach.bundleEnd_fault {code : Nat} (hf : firstFault (if ptrClash st.fx then .fault 5 :: st.fx else st.fx) = some code) :
    x.bundleEnd n = { x with c := x.c.abortJob n code } := by
  simp only [Mach.bundleEnd, h, hf]

theorem Mach.bundleEnd_fault_of_mem {code : Nat} (hcode : code ∈ faultOrder) (hmem : Fx.fault code ∈ st.fx)
    (hbefore : ∀ j ∈ faultOrder.takeWhile (· != code), Fx.fault j ∉ st.fx) (hclash : ptrClash st.fx = false ∨ code = 5) :
    x.bundleEnd n = { x with c := x.c.abortJob n code } := by
  refine x.bundleEnd_fault h ?_
  split
  · next hc =>
    obtain rfl := hclash.resolve_left (by simp [hc])
    exact firstFault_of_mem hcode (List.mem_cons_self ..) nofun
  · exact firstFault_of_mem hcode hmem hbefore

/-- A bundle with a cause aborts its job, for that cause or another. -/
theorem Mach.bundleEnd_aborts {code : Nat} (hcode : code ∈ faultOrder) (hmem : Fx.fault code ∈ st.fx) :
    ∃ j, x.bundleEnd n = { x with c := x.c.abortJob n j } := by
  obtain ⟨j, hj⟩ : ∃ j, firstFault (if ptrClash st.fx then .fault 5 :: st.fx else st.fx) = some j :=
    firstFault_isSome hcode (by split <;> simp [hmem])
  exact ⟨j, x.bundleEnd_fault h hj⟩

variable (hclash : ptrClash st.fx = false) (hfault : firstFault st.fx = none)
include hclash hfault

/-- A bundle that something holds back waits with its effects (R167). -/
theorem Mach.bundleEnd_waits {w : Wait} (hw : x.c.bundleWait n st st.fx = w) (hne : w ≠ .none) :
    x.bundleEnd n = { x with c := x.c.setStall n { st with wait := w, froze := true } } := by
  have hwait : (w != .none) = true := bne_iff_ne.2 hne
  simp only [Mach.bundleEnd, h, hclash, hfault, hw, hwait, Bool.false_eq_true, if_false, if_true]

variable (hw : x.c.bundleWait n st st.fx = .none)
include hw

/-- One that is free to issue and then shows a cause aborts its job (R180). -/
theorem Mach.bundleEnd_late {code : Nat} (hl : x.lateFault n st st.fx = some code) :
    x.bundleEnd n = { x with c := x.c.abortJob n code } := by
  simp only [Mach.bundleEnd, h, hclash, hfault, hw, hl, bne_self_eq_false, Bool.false_eq_true, if_false]

theorem Mach.bundleEnd_goes (hl : x.lateFault n st st.fx = none) : x.bundleEnd n = x.bundleGo n st st.fx := by
  simp only [Mach.bundleEnd, h, hclash, hfault, hw, hl, bne_self_eq_false, Bool.false_eq_true, if_false]

end

/-! ## Streams (R167, R180) -/

section
variable (x : Mach) {n ch : Nat} {st : StallSt} (h : x.c.stall? n = some st)
  (hown : (x.c.chan (stallYard n) ch).owner = some n)
include h hown

/-- STRM and SWAIT wait for the transfer of their channel. -/
theorem Mach.bundleEnd_streamRuns (a : Nat) (hrun : (x.c.chan (stallYard n) ch).run.isSome = true) :
    (st.fx = [.strm ch a] → x.bundleEnd n = { x with c := x.c.setStall n { st with wait := .strm ch, froze := true } }) ∧
      (st.fx = [.swait ch] → x.bundleEnd n = { x with c := x.c.setStall n { st with wait := .swait ch, froze := true } }) := by
  refine ⟨fun hfx => x.bundleEnd_waits h ?_ ?_ ?_ nofun, fun hfx => x.bundleEnd_waits h ?_ ?_ ?_ nofun⟩ <;> rw [hfx]
  · rfl
  · rfl
  · simp [Ctl.bundleWait, Chan.ownedBy, hown, hrun]
  · rfl
  · rfl
  · simp [Ctl.bundleWait, Chan.ownedBy, hown, hrun]

variable (hidle : (x.c.chan (stallYard n) ch).run = none)
include hidle

/-- On an idle channel, what is wrong with the descriptor or with the transfer before shows (R180). -/
theorem Mach.bundleEnd_strm_late {a code : Nat} (hfx : st.fx = [.strm ch a]) (ha : a % 32 = 0) (hend : a + 32 ≤ 0x40000)
    (hcode : (if x.c.storeBad n a 32 then some 2 else if (x.descAt n a).isNone then some 6 else none) = some code) :
    x.bundleEnd n = { x with c := x.c.abortJob n code } := by
  refine x.bundleEnd_late h ?_ ?_ ?_ ?_ <;> rw [hfx]
  · rfl
  · rfl
  · simp [Ctl.bundleWait, Chan.ownedBy, hown, hidle]
  · have hin : ¬ 0x40000 < a + 32 := Nat.not_lt.2 hend
    simpa [Mach.lateFault, Chan.ownedBy, hown, ha, hin] using hcode

theorem Mach.bundleEnd_swait_late (hfx : st.fx = [.swait ch]) (hbad : st.bad = true) :
    x.bundleEnd n = { x with c := x.c.abortJob n 7 } := by
  refine x.bundleEnd_late h ?_ ?_ ?_ ?_ <;> rw [hfx]
  · rfl
  · rfl
  · simp [Ctl.bundleWait, Chan.ownedBy, hown, hidle]
  · simp [Mach.lateFault, Chan.ownedBy, hown, hbad]

end

/-! ## Bundles that write registers alone (R161, R166) -/

/-- The job after its bundle has issued, its loops apart, with the writes of `fx` under way. -/
def StallSt.issuedOn (st : StallSt) (fx : List Fx) : StallSt :=
  { st with fx := [], pend := st.pend ++ fx.filterMap (fun e => e.latency.map (fun l => (st.t + l, e))), t := st.t + 1,
            cycles := st.cycles + 1, wait := .none }

/-- The state after a bundle of register writes: the job goes on to its next bundle, and what is due lands. -/
def Mach.wrote (x : Mach) (n : Nat) (st : StallSt) (fx : List Fx) : Mach :=
  let u := (passEnd st.pc st.loops (st.issuedOn fx)).landDue
  { x with c := (x.c.setStall n u).useCycles n st (u.cycles - st.cycles) }

/-- The effects of a bundle that writes registers alone: nothing holds it back, it has no cause, and it does nothing else. -/
structure WritesAlone (fx : List Fx) : Prop where
  clash : ptrClash fx = false
  fault : firstFault fx = none
  wait : ∀ (c : Ctl) n st, c.bundleWait n st fx = .none
  late : ∀ (x : Mach) n st, x.lateFault n st fx = none
  go : ∀ (x : Mach) n st, x.bundleGo n st fx = x.wrote n st fx

theorem writesAlone_nil : WritesAlone [] := ⟨rfl, rfl, fun _ _ _ => rfl, fun _ _ _ => rfl, fun _ _ _ => rfl⟩

/-- One write of a pointer does not meet another (R161). -/
theorem ptrClash_single (e : Fx) : ptrClash [e] = false := by
  rw [ptrClash, List.any_cons, List.any_nil, Bool.or_false]
  split <;> rfl

theorem writesAlone_single {e : Fx} {l : Nat} (h : e.latency = some l) : WritesAlone [e] := by
  cases e with
  | store | send | loop | branch | rrb | acq | rel | strm | swait | halt | fault => cases h
  | _ => exact ⟨ptrClash_single _, rfl, fun _ _ _ => rfl, fun _ _ _ => rfl, fun _ _ _ => rfl⟩

theorem Mach.bundleEnd_writes (x : Mach) {n : Nat} {st : StallSt} (h : x.c.stall? n = some st) (hfx : WritesAlone st.fx) :
    x.bundleEnd n = x.wrote n st st.fx := by
  obtain ⟨hclash, hfault, hwait, hlate, hgo⟩ := hfx
  rw [x.bundleEnd_goes h hclash hfault (hwait ..) (hlate ..), hgo]

theorem Mach.wrote_spec (x : Mach) (n : Nat) (st : StallSt) (fx : List Fx) :
    (x.wrote n st fx).c.stall? n = some (passEnd st.pc st.loops (st.issuedOn fx)).landDue ∧ (x.wrote n st fx).m = x.m ∧
      (x.wrote n st fx).c.regs = x.c.regs :=
  ⟨Ctl.stall?_setStall _ _ _, rfl, rfl⟩

/-! ## Writes that land (R164, R166) -/

/-- A write that lands changes registers, and no other part of the job. -/
theorem StallSt.land_keeps (st : StallSt) (e : Fx) : (st.land e).pc = st.pc ∧ (st.land e).t = st.t ∧
    (st.land e).cycles = st.cycles ∧ (st.land e).fx = st.fx ∧ (st.land e).pend = st.pend := by
  cases e <;> exact ⟨rfl, rfl, rfl, rfl, rfl⟩

/-- What two jobs have alike that hold the same in their registers. -/
def StallSt.sameRegs (st u : StallSt) : Prop :=
  u.v = st.v ∧ u.a = st.a ∧ u.p = st.p ∧ u.m = st.m ∧ u.lc = st.lc ∧ u.govf = st.govf

/-- A write lands alike in registers that hold the same. -/
theorem StallSt.sameRegs_land {st u : StallSt} (h : st.sameRegs u) (e : Fx) : (st.land e).sameRegs (u.land e) := by
  obtain ⟨⟩ := st
  obtain ⟨⟩ := u
  simp only [StallSt.sameRegs] at h
  obtain ⟨rfl, rfl, rfl, rfl, rfl, rfl⟩ := h
  cases e <;> exact ⟨rfl, rfl, rfl, rfl, rfl, rfl⟩

/-- With no write under way none lands. -/
theorem StallSt.landDue_nil (st : StallSt) (h : st.pend = []) : st.landDue = st := by
  obtain ⟨⟩ := st
  subst h
  rfl

/-- A single write under way lands once its time has come. -/
theorem StallSt.landDue_due (st : StallSt) {t : Nat} {e : Fx} (h : st.pend = [(t, e)]) (ht : t ≤ st.t) :
    st.landDue = ({ st with pend := [] } : StallSt).land e := by
  have hnot : ¬ st.t < t := Nat.not_lt.2 ht
  simp only [StallSt.landDue, h, List.filter_cons, List.filter_nil, ht, hnot, decide_true, decide_false, if_true, if_false,
    Bool.false_eq_true]
  rfl

theorem StallSt.landDue_notDue (st : StallSt) {t : Nat} {e : Fx} (h : st.pend = [(t, e)]) (ht : st.t < t) : st.landDue = st := by
  have hnot : ¬ t ≤ st.t := Nat.not_le.2 ht
  obtain ⟨⟩ := st
  subst h
  simp only [StallSt.landDue, List.filter_cons, List.filter_nil, ht, hnot, decide_true, decide_false, if_true, if_false,
    Bool.false_eq_true]
  rfl

/-- One register write of a bundle outside any loop: the job goes on, and the write lands as many bundles on as its latency. -/
theorem Mach.bundleEnd_single (x : Mach) {n : Nat} {st : StallSt} {e : Fx} {l : Nat} (h : x.c.stall? n = some st) (hfx : st.fx = [e])
    (hl : e.latency = some l) (hpos : 1 ≤ l) (hpend : st.pend = []) (hloops : st.loops = []) :
    ∃ u, (x.bundleEnd n).c.stall? n = some u ∧ u.pc = st.pc + 8 ∧ u.t = st.t + 1 ∧ u.cycles = st.cycles + 1 ∧ u.fx = [] ∧
      (x.bundleEnd n).m = x.m ∧ (x.bundleEnd n).c.regs = x.c.regs ∧ (l = 1 → u.pend = [] ∧ (st.land e).sameRegs u) ∧
      (2 ≤ l → u.pend = [(st.t + l, e)] ∧ st.sameRegs u) := by
  obtain ⟨hstall, hm, hregs⟩ := x.wrote_spec n st [e]
  rw [x.bundleEnd_writes h (hfx ▸ writesAlone_single hl), hfx]
  have hnext : passEnd st.pc st.loops (st.issuedOn [e]) = { st with
      fx := [], pend := [(st.t + l, e)], t := st.t + 1, cycles := st.cycles + 1, wait := .none, loops := [], pc := st.pc + 8 } := by
    simp [hloops, passEnd, StallSt.issuedOn, hl, hpend]
  rw [hnext] at hstall
  refine ⟨_, hstall, ?_⟩
  by_cases hone : l = 1
  · subst hone
    rw [StallSt.landDue_due _ rfl le_rfl]
    obtain ⟨hpc, ht, hcycles, hfx', hpend'⟩ := StallSt.land_keeps _ e
    refine ⟨hpc, ht, hcycles, hfx', hm, hregs, fun _ => ⟨hpend', StallSt.sameRegs_land ?_ e⟩, nofun⟩
    exact ⟨rfl, rfl, rfl, rfl, rfl, rfl⟩
  · rw [StallSt.landDue_notDue _ rfl (by show st.t + 1 < st.t + l; omega)]
    exact ⟨rfl, rfl, rfl, rfl, hm, hregs, fun h1 => absurd h1 hone, fun _ => ⟨rfl, rfl, rfl, rfl, rfl, rfl, rfl⟩⟩

@[simp] theorem bit_setBit_self (n b : Nat) : bit (setBit n b) b = true := bit_putBit_self n b true

/-- An accumulating write adds modulo 2^72 and marks GOVF where the sum leaves the accumulator's range (R164). -/
theorem StallSt.land_aadd (st : StallSt) (d : Nat) (z : Int) : ((st.land (.aadd d z)).acc d - (st.acc d + z)) % 2 ^ 72 = 0 ∧
    (bit (st.land (.aadd d z)).govf d = true ↔ bit st.govf d = true ∨ st.acc d + z < -2 ^ 71 ∨ 2 ^ 71 ≤ st.acc d + z) := by
  have hacc : (st.land (.aadd d z)).acc d = wrap72 (st.acc d + z) := kgetD_kput_self _ _ _ _
  refine ⟨?_, ?_⟩
  · rw [hacc]
    exact Int.emod_eq_zero_of_dvd (Int.ModEq.dvd (wrap72_emod _).symm)
  · rw [StallSt.land]
    by_cases hw : st.acc d + z < -2 ^ 71 ∨ 2 ^ 71 ≤ st.acc d + z
    · simp only [hw, decide_true, if_true, bit_setBit_self, or_true]
    · simp only [hw, decide_false, Bool.false_eq_true, if_false, or_false]

theorem StallSt.land_aset (st : StallSt) (d : Nat) (z : Int) :
    ((st.land (.aset d z)).acc d - z) % 2 ^ 72 = 0 ∧ (st.land (.aset d z)).govf = st.govf := by
  have hacc : (st.land (.aset d z)).acc d = wrap72 z := kgetD_kput_self _ _ _ _
  refine ⟨?_, rfl⟩
  rw [hacc]
  exact Int.emod_eq_zero_of_dvd (Int.ModEq.dvd (wrap72_emod _).symm)

end Sys2Proof.Machine
end

section
/-! PROOFS. Words that stop a job: a slot or a bundle with a cause of its own (R156, R157, R160, R184, R185). -/
namespace Sys2Proof.Machine

/-! ## Aborts for parity (R156, R157) -/

/-- A parity abort is noted for its stall, which the third within 1,024 windows retires (R156). -/
def Ctl.parityNoted (c : Ctl) (s : Nat) : Ctl :=
  let w := c.cwin
  let l := w :: (kgetD c.fabr.parity s []).filter (fun v => (w + 2 ^ 32 - v) % 2 ^ 32 < 1024)
  let c : Ctl := { c with fabr := { c.fabr with parity := kput c.fabr.parity s l } }
  if 3 ≤ l.length then
    c.set R.YARD_STALL_OFF_OFF (setBit (c.get R.YARD_STALL_OFF_OFF (stallYard s)) (s % 32)) (stallYard s)
  else c

theorem Ctl.abortNote_parity (c : Ctl) (s : Nat) : c.abortNote s 1 =
    ((c.when (!c.is R.YARD_STATUS_FAULT_SEEN (stallYard s)) (fun c => c.abortCapture s 1)).abortCounted s).parityNoted s := rfl

theorem jobsEnded_parityNoted (c : Ctl) (s : Nat) : JobsEnded [R.YARD_STALL_OFF_OFF] c (c.parityNoted s) := by
  unfold Ctl.parityNoted
  extract_lets w l _ c'
  have hc : JobsEnded [R.YARD_STALL_OFF_OFF] c c' := .of_fabr rfl rfl rfl (Ctl.sameRegsBut_of_regs _ rfl)
  split
  · exact hc.trans (.set _ _ _ (by simp))
  · exact hc

/-- What a counted abort shows in its yard. -/
theorem Ctl.abortCounted_spec (c : Ctl) (s : Nat) : (c.abortCounted s).get R.YARD_STATUS_FAULT_SEEN (stallYard s) = 1 ∧
    (c.abortCounted s).get R.YARD_ABORTS (stallYard s) = (c.get R.YARD_ABORTS (stallYard s) + 1) % 2 ^ R.YARD_ABORTS.width := by
  constructor <;> rw [Ctl.abortCounted, Ctl.get_raise _ _ _ _ _ _ (by decide)]
  · rw [Ctl.get_inc_field _ _ _ _ _ _ (by decide), Ctl.get_set_self]
    rfl
  · rw [Ctl.get_inc_self, Ctl.get_set_field _ _ _ _ _ _ (by decide)]

theorem Ctl.abortNote_parity_spec (c : Ctl) (s : Nat) : (∀ i, c.stall? i = none → (c.abortNote s 1).stall? i = none) ∧
    (c.abortNote s 1).get R.YARD_STATUS_FAULT_SEEN (stallYard s) = 1 ∧
    (c.abortNote s 1).get R.YARD_ABORTS (stallYard s) = (c.get R.YARD_ABORTS (stallYard s) + 1) % 2 ^ R.YARD_ABORTS.width := by
  have hcap := JobsEnded.when c (!c.is R.YARD_STATUS_FAULT_SEEN (stallYard s)) (fun c => c.abortCapture s 1)
    (jobsEnded_abortCapture c s 1)
  rw [c.abortNote_parity, ← hcap.regs R.YARD_ABORTS (stallYard s) (by decide)]
  generalize c.when (!c.is R.YARD_STATUS_FAULT_SEEN (stallYard s)) (fun c => c.abortCapture s 1) = d at *
  obtain ⟨hseen, hcount⟩ := d.abortCounted_spec s
  have hpar := jobsEnded_parityNoted (d.abortCounted s) s
  exact ⟨fun i hi => hpar.free ((jobsEnded_abortCounted d s).free (hcap.free hi)), (hpar.regs _ _ (by decide)).trans hseen,
    (hpar.regs _ _ (by decide)).trans hcount⟩

/-- `c'` is `c` after the job of stall `s` has been aborted: the stall is free, and its yard has marked and counted the abort. -/
structure Aborted (s : Nat) (c c' : Ctl) : Prop where
  free : c'.stall? s = none
  seen : c'.get R.YARD_STATUS_FAULT_SEEN (stallYard s) = 1
  count : c'.get R.YARD_ABORTS (stallYard s) = (c.get R.YARD_ABORTS (stallYard s) + 1) % 2 ^ R.YARD_ABORTS.width

/-- Every abort, whatever its cause (R157). -/
theorem aborted_abortJob (c : Ctl) (s fault : Nat) : Aborted s c (c.abortJob s fault) := by
  by_cases h : fault = 1
  · subst h
    obtain ⟨hend, hfree⟩ := c.endJob_spec s 1 0
    obtain ⟨hstall, hseen, hcount⟩ := (c.endJob s 1 0).abortNote_parity_spec s
    exact ⟨hstall s hfree, hseen, hend.regs R.YARD_ABORTS _ (by decide) ▸ hcount⟩
  · obtain ⟨-, hfree, hseen, hcount⟩ := c.abortJob_spec s h
    exact ⟨hfree, hseen, hcount⟩

/-! ## The check of a bundle's word (R156) -/

/-- What a word found in error can change of the registers. -/
def eccFields : List Reg := [R.YARD_ECC_CORR_LOFT, R.YARD_ECC_CORR_STORE, R.YARD_STATUS_ECC_SEEN] ++ evtFields

theorem Ctl.sameRegsBut_eccHit (c : Ctl) (y : Nat) (h : ScrubHit) : c.sameRegsBut (c.eccHit y h) eccFields := by
  unfold Ctl.eccHit
  extract_lets cnt w f d
  split
  · exact c.sameRegsBut_set _ _ _ _ (by unfold cnt; split <;> simp [eccFields])
  · have hd : c.sameRegsBut d eccFields := Ctl.sameRegsBut_of_regs _ rfl
    exact Ctl.sameRegsBut_trans (Ctl.sameRegsBut_set_right hd _ _ (by simp [eccFields]))
      (Ctl.sameRegsBut_raise _ _ _ _ _ fun f hf => by simp [eccFields, hf])

theorem Ctl.sameRegsBut_storeEcc (c : Ctl) (n a : Nat) (e : EccOut) : c.sameRegsBut (c.storeEcc n a e) eccFields := by
  unfold Ctl.storeEcc
  split
  · exact c.sameRegsBut_refl _
  · cases e with
    | clean => exact c.sameRegsBut_refl _
    | corrected => exact c.sameRegsBut_eccHit _ _
    | bad b => exact c.sameRegsBut_eccHit _ _

/-- The place of a word in the stores of its yard is its place in all of them. -/
theorem storeAt_yard (n : Nat) {a : Nat} (ha : a < 0x40000) : stallYard n * 0x100000 + storeAt n a % 0x100000 = storeAt n a := by
  unfold stallYard storeAt stallStable
  omega

/-- A bundle's word that its check finds uncorrectable is poisoned (R156). -/
theorem storeBad_storeEcc_bad (c : Ctl) (n : Nat) {a : Nat} (b : Bool) (ha : a < 0x40000) :
    (c.storeEcc n a (.bad b)).storeBad n a 8 = true := by
  have hat := storeAt_yard n ha
  have hecc : c.storeEcc n a (.bad b) = c.eccHit (stallYard n) ⟨false, storeAt n a % 0x100000, true⟩ := if_neg (Nat.not_le.2 ha)
  rw [hecc, Ctl.storeBad, List.any_eq_true]
  refine ⟨stallYard n * 0x100000 + storeAt n a % 0x100000 / 4 * 4, by simp [Ctl.eccHit], ?_⟩
  simp only [Bool.and_eq_true, decide_eq_true_iff]
  omega

/-! ## A bundle without an operation (R160, R185) -/

/-- The causes that a slot has of its own: of its registers, of its fields, and of its bundle's place and word (R156, R184). -/
def Ctl.slotFaults (c : Ctl) (k : Slot) (pc : Nat) : List Fx :=
  (if k.parity then [Fx.fault 1] else []) ++ (if k.mbz then [Fx.fault 5] else []) ++
    (if 0x40000 ≤ pc then [Fx.fault 6] else if c.storeBad k.stall pc 8 then [Fx.fault 2] else [])

/-- The state in which a bundle without an operation ends: its stall has collected the causes of its word. -/
def Ctl.nopIssued (c : Ctl) (k : Slot) (st : StallSt) : Ctl :=
  let d := c.storeEcc k.stall st.pc k.ecc
  (d.setStall k.stall { st with fx := st.fx ++ d.slotFaults k st.pc, cycles := st.cycles + k.frozen, froze := false }).useCycles
    k.stall st k.frozen

theorem Ctl.nopIssued_stall (c : Ctl) (k : Slot) (st : StallSt) : (c.nopIssued k st).stall? k.stall = some { st with
    fx := st.fx ++ (c.storeEcc k.stall st.pc k.ecc).slotFaults k st.pc, cycles := st.cycles + k.frozen, froze := false } :=
  Ctl.stall?_setStall _ _ _

theorem Ctl.sameRegsBut_nopIssued (c : Ctl) (k : Slot) (st : StallSt) : c.sameRegsBut (c.nopIssued k st) eccFields :=
  Ctl.sameRegsBut_trans (c.sameRegsBut_storeEcc k.stall st.pc k.ecc) (Ctl.sameRegsBut_of_regs _ rfl)

/-- A parity error, a field marked 0 that is not and an uncorrectable word are causes of their slot. -/
theorem slotFaults_of_bad (c : Ctl) (k : Slot) {pc : Nat} (hpc : pc < 0x40000)
    (hbad : k.parity = true ∨ k.mbz = true ∨ ∃ b, k.ecc = .bad b) :
    ∃ code ∈ faultOrder, Fx.fault code ∈ (c.storeEcc k.stall pc k.ecc).slotFaults k pc := by
  unfold Ctl.slotFaults
  rcases hbad with hp | hm | ⟨b, he⟩
  · exact ⟨1, by simp [faultOrder], by simp [hp]⟩
  · exact ⟨5, by simp [faultOrder], by simp [hm]⟩
  · refine ⟨2, by simp [faultOrder], ?_⟩
    rw [he, storeBad_storeEcc_bad c k.stall b hpc, if_neg (Nat.not_le.2 hpc)]
    simp

section
variable (k : Slot) (x : Mach) {st : StallSt} (h : x.c.stall? k.stall = some st) (hw : st.wait = .none)
include h hw

/-- A slot without an operation adds the causes of its word alone, and ends its bundle where it is the last slot. -/
theorem nopBundle_eq : nopBundle k x = if k.last || !k.mbz then Mach.bundleEnd { x with c := x.c.nopIssued k st } k.stall
    else { x with c := x.c.nopIssued k st } := by
  have hwake : x.wake k.stall = x := x.wake_eq _ fun u hu => by rw [h] at hu; cases hu; simp [hw]
  simp only [nopBundle, slotOp, slotAt, hwake, h, hw, bne_self_eq_false, Bool.false_eq_true, if_false, List.append_nil,
    Ctl.nopIssued, Ctl.slotFaults]

/-- A cause of its word, of its registers or of its fields aborts the job (R156, R184, R185). -/
theorem nopBundle_aborts (hlast : (k.last || !k.mbz) = true) (hpc : st.pc < 0x40000)
    (hbad : k.parity = true ∨ k.mbz = true ∨ ∃ b, k.ecc = .bad b) :
    ∃ c, nopBundle k x = { x with c := c } ∧ Aborted k.stall x.c c := by
  obtain ⟨code, hcode, hmem⟩ := slotFaults_of_bad x.c k hpc hbad
  have hkeep := x.c.sameRegsBut_nopIssued k st R.YARD_ABORTS (stallYard k.stall) (by decide)
  obtain ⟨j, hend⟩ := Mach.bundleEnd_aborts { x with c := x.c.nopIssued k st } (x.c.nopIssued_stall k st) hcode
    (List.mem_append_right _ hmem)
  obtain ⟨hfree, hseen, hcount⟩ := aborted_abortJob (x.c.nopIssued k st) k.stall j
  exact ⟨_, ((nopBundle_eq k x h hw).trans (if_pos hlast)).trans hend, hfree, hseen, hkeep ▸ hcount⟩

end

end Sys2Proof.Machine
end

section
/-! PROOFS. The words of bundles (R160, R169, R170, R172, R175, R185). -/
namespace Sys2Proof

open Sys2Proof.Machine (laneTable)

/-! ## The slots of a bundle (R160) -/

/-- The operations of a bundle by its four slots: those that are not NOP. -/
theorem slotOps_of_slots {m a b c : Nat} (hm : m < 2 ^ 16) (ha : a < 2 ^ 16) (hb : b < 2 ^ 16) (hc : c < 2 ^ 16) :
    slotOps (m + a * 2 ^ 16 + b * 2 ^ 32 + c * 2 ^ 48) =
      ([(mSlot, m), (aSlot, a), (lSlot, b), (cSlot, c)].filter (fun e => e.2 != 0)).map (fun e k => e.1 k e.2) := by
  have hslots : [(mSlot, m), (aSlot, a), (lSlot, b), (cSlot, c)] = [(mSlot, 0), (aSlot, 16), (lSlot, 32), (cSlot, 48)].map
      (fun e => (e.1, (m + a * 2 ^ 16 + b * 2 ^ 32 + c * 2 ^ 48) / 2 ^ e.2 % 65536)) := by
    simp only [List.map_cons, List.map_nil, List.cons.injEq, Prod.mk.injEq, true_and, and_true]
    omega
  rw [hslots, List.filter_map, List.map_map]
  rfl

theorem decodeBundle_one (k : Slot) {w : Nat} {f : Slot → Instr} (h : slotOps w = [f]) :
    decodeBundle k w = [f { k with last := true }] := by
  rw [decodeBundle, h]
  rfl

theorem decodeBundle_four (k : Slot) {w : Nat} {f g i j : Slot → Instr} (h : slotOps w = [f, g, i, j]) :
    decodeBundle k w = [f { k with last := false }, g { k with last := false, frozen := 0 }, i { k with last := false, frozen := 0 },
      j { k with last := true, frozen := 0 }] := by
  rw [decodeBundle, h]
  rfl

/-- A bundle of four operations. -/
theorem decodeBundle_full (k : Slot) {m a b c : Nat} (hm : m < 2 ^ 16) (ha : a < 2 ^ 16) (hb : b < 2 ^ 16) (hc : c < 2 ^ 16)
    (hm0 : m ≠ 0) (ha0 : a ≠ 0) (hb0 : b ≠ 0) (hc0 : c ≠ 0) :
    decodeBundle k (m + a * 2 ^ 16 + b * 2 ^ 32 + c * 2 ^ 48) = [mSlot { k with last := false } m,
      aSlot { k with last := false, frozen := 0 } a, lSlot { k with last := false, frozen := 0 } b,
      cSlot { k with last := true, frozen := 0 } c] := by
  refine decodeBundle_four k (f := (mSlot · m)) (g := (aSlot · a)) (i := (lSlot · b)) (j := (cSlot · c)) ((slotOps_of_slots hm ha hb hc).trans ?_)
  simp [hm0, ha0, hb0, hc0]

/-- Bundles of one operation, in the M, the A, the L and the C slot. -/
theorem decodeBundle_single (k : Slot) {w : Nat} (hw : w < 2 ^ 16) (h0 : w ≠ 0) :
    decodeBundle k w = [mSlot { k with last := true } w] ∧ decodeBundle k (w * 2 ^ 16) = [aSlot { k with last := true } w] ∧
      decodeBundle k (w * 2 ^ 32) = [lSlot { k with last := true } w] ∧
      decodeBundle k (w * 2 ^ 48) = [cSlot { k with last := true } w] := by
  have hz : 0 < 2 ^ 16 := by decide
  have hm := slotOps_of_slots hw hz hz hz
  have ha := slotOps_of_slots hz hw hz hz
  have hl := slotOps_of_slots hz hz hw hz
  have hc := slotOps_of_slots hz hz hz hw
  simp only [Nat.zero_mul, Nat.zero_add, Nat.add_zero] at hm ha hl hc
  refine ⟨decodeBundle_one k (f := (mSlot · w)) (hm.trans ?_), decodeBundle_one k (f := (aSlot · w)) (ha.trans ?_),
    decodeBundle_one k (f := (lSlot · w)) (hl.trans ?_), decodeBundle_one k (f := (cSlot · w)) (hc.trans ?_)⟩ <;> simp [h0]

/-! ## Fields of a slot's word -/

theorem finOf_eq {w hi lo n : Nat} [NeZero n] {x : Fin n} (h : fieldOf w hi lo = x.val) : finOf w hi lo n = x := by
  rw [finOf, h]
  exact Fin.ofNat_val_eq_self x

theorem Slot.check_false (k : Slot) : k.check false = k := by
  unfold Slot.check
  rw [Bool.or_false]

/-- A word of an opcode, a field of four bits and a byte, in the A and the C slot. -/
def byteWord (op d low : Nat) : Nat := op * 2 ^ 12 + d * 2 ^ 8 + low

/-- A word of an opcode and two fields of six bits, in the L slot. -/
def nameWord (op d low : Nat) : Nat := op * 2 ^ 12 + d * 2 ^ 6 + low

/-- A word of an opcode of three bits and fields of one, six and six bits, in the M slot. -/
def laneWord (op d b v : Nat) : Nat := op * 2 ^ 13 + d * 2 ^ 12 + b * 2 ^ 6 + v

/-- The fields of a word of the A or of the C slot. -/
theorem byteWord_fields {op low : Nat} (d : Fin 16) (hop : op < 16) (hlow : low < 2 ^ 8) :
    fieldOf (byteWord op d low) 15 12 = op ∧ fieldOf (byteWord op d low) 11 8 = d ∧ fieldOf (byteWord op d low) 7 4 = low / 16 ∧
      fieldOf (byteWord op d low) 3 0 = low % 16 ∧ byteWord op d low % 2 ^ 8 = low := by
  have hd := d.isLt
  refine ⟨?_, ?_, ?_, ?_, ?_⟩ <;> simp only [fieldOf, byteWord, Nat.reduceSub, Nat.reduceAdd, Nat.reducePow] <;> omega

/-- The fields of a word of the L slot. -/
theorem nameWord_fields {op low : Nat} (d : Fin 64) (hop : op < 16) (hlow : low < 2 ^ 6) :
    fieldOf (nameWord op d low) 15 12 = op ∧ fieldOf (nameWord op d low) 11 6 = d ∧ fieldOf (nameWord op d low) 5 2 = low / 4 ∧
      fieldOf (nameWord op d low) 1 0 = low % 4 ∧ fieldOf (nameWord op d low) 5 0 = low := by
  have hd := d.isLt
  refine ⟨?_, ?_, ?_, ?_, ?_⟩ <;> simp only [fieldOf, nameWord, Nat.reduceSub, Nat.reduceAdd, Nat.reducePow] <;> omega

/-- The fields of a word of the M slot. -/
theorem laneWord_fields {op : Nat} (d : Fin 2) (b v : Fin 64) (hop : op < 8) :
    fieldOf (laneWord op d b v) 15 13 = op ∧ finOf (laneWord op d b v) 12 12 2 = d ∧ finOf (laneWord op d b v) 11 6 64 = b ∧
      finOf (laneWord op d b v) 5 0 64 = v := by
  have hd := d.isLt
  have hb := b.isLt
  have hv := v.isLt
  refine ⟨?_, finOf_eq ?_, finOf_eq ?_, finOf_eq ?_⟩ <;>
    simp only [fieldOf, laneWord, Nat.reduceSub, Nat.reduceAdd, Nat.reducePow] <;> omega

section
variable (k : Slot) (d : Fin 16) (imm : BitVec 8)

/-- The fields of a word of the A or of the C slot that ends in an immediate. -/
theorem immWord_fields {op : Nat} (hop : op < 16) : fieldOf (byteWord op d imm.toNat) 15 12 = op ∧
    finOf (byteWord op d imm.toNat) 11 8 16 = d ∧ BitVec.ofNat 8 (byteWord op d imm.toNat) = imm := by
  obtain ⟨h1, h2, -, -, h3⟩ := byteWord_fields d hop imm.isLt
  exact ⟨h1, finOf_eq h2, BitVec.eq_of_toNat_eq (by rw [BitVec.toNat_ofNat, h3])⟩

/-! ## The A slot (R170) -/

theorem aSlot_paddi : aSlot k (byteWord 1 d imm.toNat) = .paddi k d imm := by
  obtain ⟨hop, hd, himm⟩ := immWord_fields d imm (op := 1) (by decide)
  simp only [aSlot, hop, hd, himm]

theorem aSlot_pli : aSlot k (byteWord 5 d imm.toNat) = .pli k d imm := by
  obtain ⟨hop, hd, himm⟩ := immWord_fields d imm (op := 5) (by decide)
  simp only [aSlot, hop, hd, himm]

theorem aSlot_pmov (s : Fin 16) : aSlot k (byteWord 4 d s) = .pmov k d s := by
  have hs := s.isLt
  obtain ⟨hop, hd, hz, hlow, -⟩ := byteWord_fields d (op := 4) (low := s) (by decide) (by omega)
  have hsrc : finOf (byteWord 4 d s) 3 0 16 = s := finOf_eq (hlow.trans (Nat.mod_eq_of_lt hs))
  have hz0 : (fieldOf (byteWord 4 d s) 7 4 != 0) = false := by rw [hz, Nat.div_eq_of_lt hs]; rfl
  simp only [aSlot, hop, finOf_eq hd, hsrc, hz0, Slot.check_false]

/-! ## The C slot (R175) -/

theorem cSlot_bz : cSlot k (byteWord 3 d imm.toNat) = .bz k d imm := by
  obtain ⟨hop, hd, himm⟩ := immWord_fields d imm (op := 3) (by decide)
  simp only [cSlot, hop, hd, himm]

theorem cSlot_bnz : cSlot k (byteWord 4 d imm.toNat) = .bnz k d imm := by
  obtain ⟨hop, hd, himm⟩ := immWord_fields d imm (op := 4) (by decide)
  simp only [cSlot, hop, hd, himm]

/-- The field of four bits of a word that has none. -/
theorem byteWord_zero_field {op : Nat} (hop : op < 16) : (fieldOf (byteWord op 0 imm.toNat) 11 8 != 0) = false := by
  obtain ⟨-, hd, -⟩ := byteWord_fields (0 : Fin 16) hop imm.isLt
  exact bne_eq_false_iff_eq.2 hd

theorem cSlot_br : cSlot k (byteWord 2 0 imm.toNat) = .br k imm := by
  obtain ⟨hop, -, himm⟩ := immWord_fields 0 imm (op := 2) (by decide)
  simp only [Fin.val_zero] at hop himm
  simp only [cSlot, hop, himm, byteWord_zero_field, Nat.reduceLT, Slot.check_false]

theorem cSlot_halt : cSlot k (byteWord 10 0 imm.toNat) = .halt k imm := by
  obtain ⟨hop, -, himm⟩ := immWord_fields 0 imm (op := 10) (by decide)
  simp only [Fin.val_zero] at hop himm
  simp only [cSlot, hop, himm, byteWord_zero_field, Nat.reduceLT, Slot.check_false]

end

/-! ## The L slot (R172) -/

section
variable (k : Slot) (d : Fin 64)

/-- The fields of a word of the L slot that ends in a pointer and its post-modify. -/
theorem pointerWord_fields (p : Fin 16) (post : Fin 4) {op : Nat} (hop : op < 16) :
    fieldOf (nameWord op d (p * 2 ^ 2 + post)) 15 12 = op ∧ finOf (nameWord op d (p * 2 ^ 2 + post)) 11 6 64 = d ∧
      finOf (nameWord op d (p * 2 ^ 2 + post)) 5 2 16 = p ∧ finOf (nameWord op d (p * 2 ^ 2 + post)) 1 0 4 = post := by
  have hp := p.isLt
  have hpost := post.isLt
  obtain ⟨h1, h2, h3, h4, -⟩ := nameWord_fields d (low := p * 2 ^ 2 + post) hop (by omega)
  exact ⟨h1, finOf_eq h2, finOf_eq (h3.trans (by omega)), finOf_eq (h4.trans (by omega))⟩

theorem lSlot_ld1 (p : Fin 16) (post : Fin 4) : lSlot k (nameWord 1 d (p * 2 ^ 2 + post)) = .ld1 k d p post := by
  obtain ⟨hop, hd, hp, hpost⟩ := pointerWord_fields d p post (op := 1) (by decide)
  simp only [lSlot, hop, hd, hp, hpost]

theorem lSlot_st1 (p : Fin 16) (post : Fin 4) : lSlot k (nameWord 2 d (p * 2 ^ 2 + post)) = .st1 k d p post := by
  obtain ⟨hop, hd, hp, hpost⟩ := pointerWord_fields d p post (op := 2) (by decide)
  simp only [lSlot, hop, hd, hp, hpost]

theorem lSlot_movv (v : Fin 64) : lSlot k (nameWord 10 d v) = .movv k d v := by
  obtain ⟨hop, hd, -, -, hv⟩ := nameWord_fields d (op := 10) (by decide) v.isLt
  simp only [lSlot, hop, finOf_eq hd, finOf_eq hv]

end

/-! ## The M slot (R169) -/

/-- The four-lane multiplies by their opcodes. -/
theorem mSlot_lane (k : Slot) {e : ((Slot → Fin 2 → Fin 64 → Fin 64 → Instr) × Bool × (Machine.StallSt → Nat → Nat → Int)) × Nat}
    (he : e ∈ laneTable.zipIdx) (d : Fin 2) (b v : Fin 64) :
    e.2 < 5 ∧ mSlot k (laneWord (1 + e.2) d b v) = e.1.1 k d b v := by
  simp only [laneTable, List.zipIdx_cons, List.zipIdx_nil, List.mem_cons, List.not_mem_nil, or_false] at he
  have hword : ∀ op < 8, ∀ i : Instr, (∀ w, fieldOf w 15 13 = op → finOf w 12 12 2 = d → finOf w 11 6 64 = b →
      finOf w 5 0 64 = v → mSlot k w = i) → mSlot k (laneWord op d b v) = i := by
    intro op hop i hi
    obtain ⟨h1, h2, h3, h4⟩ := laneWord_fields d b v hop
    exact hi _ h1 h2 h3 h4
  rcases he with rfl | rfl | rfl | rfl | rfl <;>
    exact ⟨by decide, hword _ (by decide) _ fun w h1 h2 h3 h4 => by simp only [mSlot, h1, h2, h3, h4]⟩

/-! ## Reserved codes (R185) -/

/-- A reserved code of the A or of the L slot. -/
theorem reserved_code {w : Nat} (hw : w < 2 ^ 16) (h : w < 2 ^ 12 ∨ 13 * 2 ^ 12 ≤ w) :
    fieldOf w 15 12 = 0 ∨ fieldOf w 15 12 = 13 ∨ fieldOf w 15 12 = 14 ∨ fieldOf w 15 12 = 15 := by
  simp only [fieldOf, Nat.reduceSub, Nat.reduceAdd, Nat.reducePow] at *
  omega

theorem aSlot_reserved (k : Slot) {w : Nat} (hw : w < 2 ^ 16) (h : w < 2 ^ 12 ∨ 13 * 2 ^ 12 ≤ w) :
    aSlot k w = .nopBundle (k.check true) := by
  rcases reserved_code hw h with h | h | h | h <;> simp only [aSlot, h]

theorem lSlot_reserved (k : Slot) {w : Nat} (hw : w < 2 ^ 16) (h : w < 2 ^ 12 ∨ 13 * 2 ^ 12 ≤ w) :
    lSlot k w = .nopBundle (k.check true) := by
  rcases reserved_code hw h with h | h | h | h <;> simp only [lSlot, h]

theorem cSlot_reserved (k : Slot) {w : Nat} (hw : w < 2 ^ 16) (h : w < 2 ^ 12 ∨ 11 * 2 ^ 12 ≤ w) :
    cSlot k w = .nopBundle (k.check true) := by
  have hcode : fieldOf w 15 12 = 0 ∨ fieldOf w 15 12 = 11 ∨ fieldOf w 15 12 = 12 ∨ fieldOf w 15 12 = 13 ∨
      fieldOf w 15 12 = 14 ∨ fieldOf w 15 12 = 15 := by
    simp only [fieldOf, Nat.reduceSub, Nat.reduceAdd, Nat.reducePow] at *
    omega
  rcases hcode with h | h | h | h | h | h <;> simp only [cSlot, h]

end Sys2Proof
end

section
/-! PROOFS. The C slot, what a bundle leaves and what its word spells (R160, R161, R166, R175 to R185). -/
namespace Sys2Proof.Machine

/-! ## Loops, branches and resources (R176 to R179) -/

/-- The conditions of LOOP (R176, R177). -/
def StallSt.loopOk (st : StallSt) (n rot : Fin 4) (len : Fin 256) : Prop :=
  rot ≠ 3 ∧ st.inUse n = false ∧ st.loops.length < 4 ∧ ∀ l ∈ st.loops, st.pc + 8 * (len.val + 1) ≤ l.stop

/-- What holds LOOP back in the model, by the conditions that it must meet. -/
theorem StallSt.loop_barred_iff (st : StallSt) (n rot : Fin 4) (len : Fin 256) :
    (decide (rot.val = 3) || st.inUse n || decide (4 ≤ st.loops.length) ||
      st.loops.any (fun l => decide (l.stop < st.pc + 8 * (len.val + 1)))) = true ↔ ¬ st.loopOk n rot len := by
  simp only [StallSt.loopOk, Bool.or_eq_true, decide_eq_true_eq, List.any_eq_true, not_and_or, not_forall, ne_eq, not_not,
    Bool.not_eq_false, not_lt, not_le, Fin.ext_iff, exists_prop, or_assoc]
  rfl

theorem resOk_iff (level : Fin 4) (i : Fin 64) :
    resOk level i = true ↔ (level = 1 ∧ i.val < 8) ∨ (level = 2 ∧ i.val < 16) ∨ level = 3 := by
  simp [resOk, Fin.ext_iff, or_assoc]

/-- A branch outside every loop. -/
theorem branchFx_free {st : StallSt} (off : BitVec 8) (h : st.loops = []) : branchFx st off false = [] ∧
    branchFx st off true = [.branch (ux 32 ((st.pc : Int) + 8 + 8 * off.toInt))] := by
  simp [branchFx, h]

section
variable {k : Slot} {s : State} {st : StallSt} (h : s.m.c.slotReady k st)
include h

theorem loop_next (n rot : Fin 4) (len : Fin 256) {_ : Decidable (st.loopOk n rot len)} : exec (.loop k n rot len) s =
    .next (s.issued k st (if st.loopOk n rot len then [.loop n rot (len.val + 1)] else [.fault 5])) :=
  slotOp_next rfl h ((if_congr (st.loop_barred_iff n rot len) rfl rfl).trans (ite_not ..))

theorem setrrb_next (v : Fin 32) : exec (.setrrb k v) s = .next (s.issued k st
    (if ∃ l ∈ st.loops, l.rot ≠ 0 then [.fault 5] else [.rrb v])) :=
  slotOp_next rfl h (if_congr (by simp) rfl rfl)

/-- ACQ and REL of a level and an index that name a resource. -/
theorem resource_next {level : Fin 4} {i : Fin 64} (hr : (level = 1 ∧ i.val < 8) ∨ (level = 2 ∧ i.val < 16) ∨ level = 3) :
    exec (.acq k level i) s = .next (s.issued k st [.acq level i]) ∧ exec (.rel k level i) s = .next (s.issued k st [.rel level i]) :=
  ⟨slotOp_next rfl h (if_pos ((resOk_iff level i).2 hr)), slotOp_next rfl h (if_pos ((resOk_iff level i).2 hr))⟩

/-- ACQ and REL of others are ILLEGAL. -/
theorem noResource_next {level : Fin 4} {i : Fin 64} (hr : ¬ ((level = 1 ∧ i.val < 8) ∨ (level = 2 ∧ i.val < 16) ∨ level = 3)) :
    exec (.acq k level i) s = .next (s.issued k st [.fault 5]) ∧ exec (.rel k level i) s = .next (s.issued k st [.fault 5]) :=
  ⟨slotOp_next rfl h (if_neg (mt (resOk_iff level i).1 hr)), slotOp_next rfl h (if_neg (mt (resOk_iff level i).1 hr))⟩

/-- A bundle of one reserved code aborts its job (R184, R185). -/
theorem reserved_next : ∃ t, exec (.nopBundle (Slot.check { k with last := true } true)) s = .next t ∧ t.m.c.stall? k.stall = none ∧
    t.m.c.get R.YARD_STATUS_FAULT_SEEN (stallYard k.stall) = 1 ∧ t.m.m = s.m.m := by
  obtain ⟨hstall, hwait, hpc, -⟩ := h
  obtain ⟨c, hnop, hfree, hseen, -⟩ := nopBundle_aborts (Slot.check { k with last := true } true) s.m.fresh hstall hwait rfl hpc
    (.inr (.inl (Bool.or_true _)))
  exact ⟨_, next_of_mach rfl hnop, hfree, hseen, rfl⟩

end

/-- The reserved codes of the A, the L and the C slot. -/
theorem decodeBundle_reserved (k : Slot) {w sh : Nat} (hw : w < 2 ^ 16) (h0 : w ≠ 0)
    (h : ((sh = 16 ∨ sh = 32) ∧ (w < 2 ^ 12 ∨ 13 * 2 ^ 12 ≤ w)) ∨ (sh = 48 ∧ (w < 2 ^ 12 ∨ 11 * 2 ^ 12 ≤ w))) :
    decodeBundle k (w * 2 ^ sh) = [.nopBundle (Slot.check { k with last := true } true)] := by
  obtain ⟨-, ha, hl, hc⟩ := decodeBundle_single k hw h0
  rcases h with ⟨rfl | rfl, hcode⟩ | ⟨rfl, hcode⟩
  · rw [ha, aSlot_reserved _ hw hcode]
  · rw [hl, lSlot_reserved _ hw hcode]
  · rw [hc, cSlot_reserved _ hw hcode]

/-! ## Words of one operation (R169, R170, R172, R175) -/

theorem byteWord_range {op low : Nat} (d : Fin 16) (hop : 0 < op ∧ op < 16) (hlow : low < 2 ^ 8) :
    byteWord op d low < 2 ^ 16 ∧ byteWord op d low ≠ 0 := by
  have hd := d.isLt
  unfold byteWord
  omega

theorem nameWord_range {op low : Nat} (d : Fin 64) (hop : 0 < op ∧ op < 16) (hlow : low < 2 ^ 6) :
    nameWord op d low < 2 ^ 16 ∧ nameWord op d low ≠ 0 := by
  have hd := d.isLt
  unfold nameWord
  omega

theorem laneWord_range {op : Nat} (d : Fin 2) (b v : Fin 64) (hop : 0 < op ∧ op < 8) :
    laneWord op d b v < 2 ^ 16 ∧ laneWord op d b v ≠ 0 := by
  have hd := d.isLt
  have hb := b.isLt
  have hv := v.isLt
  unfold laneWord
  omega

/-- A word of the A slot alone. -/
theorem decodeBundle_aSlot (k : Slot) {op low : Nat} (d : Fin 16) (hop : 0 < op ∧ op < 16) (hlow : low < 2 ^ 8) {i : Instr}
    (h : aSlot { k with last := true } (byteWord op d low) = i) : decodeBundle k (byteWord op d low * 2 ^ 16) = [i] := by
  obtain ⟨hw, h0⟩ := byteWord_range d hop hlow
  obtain ⟨-, ha, -⟩ := decodeBundle_single k hw h0
  rw [ha, h]

/-- A word of the C slot alone. -/
theorem decodeBundle_cSlot (k : Slot) {op : Nat} (d : Fin 16) (imm : BitVec 8) (hop : 0 < op ∧ op < 16) {i : Instr}
    (h : cSlot { k with last := true } (byteWord op d imm.toNat) = i) : decodeBundle k (byteWord op d imm.toNat * 2 ^ 48) = [i] := by
  obtain ⟨hw, h0⟩ := byteWord_range d hop imm.isLt
  obtain ⟨-, -, -, hc⟩ := decodeBundle_single k hw h0
  rw [hc, h]

/-- A word of the L slot alone. -/
theorem decodeBundle_lSlot (k : Slot) {op low : Nat} (d : Fin 64) (hop : 0 < op ∧ op < 16) (hlow : low < 2 ^ 6) {i : Instr}
    (h : lSlot { k with last := true } (nameWord op d low) = i) : decodeBundle k (nameWord op d low * 2 ^ 32) = [i] := by
  obtain ⟨hw, h0⟩ := nameWord_range d hop hlow
  obtain ⟨-, -, hl, -⟩ := decodeBundle_single k hw h0
  rw [hl, h]

theorem decodeBundle_lane (k : Slot) {e : ((Slot → Fin 2 → Fin 64 → Fin 64 → Instr) × Bool × (StallSt → Nat → Nat → Int)) × Nat}
    (he : e ∈ laneTable.zipIdx) (d : Fin 2) (b v : Fin 64) :
    decodeBundle k (laneWord (1 + e.2) d b v) = [e.1.1 { k with last := true } d b v] := by
  obtain ⟨hop, hm⟩ := mSlot_lane { k with last := true } he d b v
  obtain ⟨hw, h0⟩ := laneWord_range d b v (op := 1 + e.2) (by omega)
  obtain ⟨hone, -⟩ := decodeBundle_single k hw h0
  rw [hone, hm]

/-- PADDI, PLI and PMOV by their fields. -/
theorem decodeBundle_pointers (k : Slot) (d s : Fin 16) (imm : BitVec 8) :
    decodeBundle k ((0x1000 + d * 2 ^ 8 + imm.toNat) * 2 ^ 16) = [.paddi { k with last := true } d imm] ∧
      decodeBundle k ((0x5000 + d * 2 ^ 8 + imm.toNat) * 2 ^ 16) = [.pli { k with last := true } d imm] ∧
      decodeBundle k ((0x4000 + d * 2 ^ 8 + s) * 2 ^ 16) = [.pmov { k with last := true } d s] :=
  ⟨decodeBundle_aSlot k d (op := 1) (by decide) imm.isLt (aSlot_paddi _ d imm),
    decodeBundle_aSlot k d (op := 5) (by decide) imm.isLt (aSlot_pli _ d imm),
    decodeBundle_aSlot k d (op := 4) (by decide) (by omega) (aSlot_pmov _ d s)⟩

/-- LD1, ST1 and MOVV by their fields. -/
theorem decodeBundle_words (k : Slot) (d v : Fin 64) (p : Fin 16) (post : Fin 4) :
    decodeBundle k ((0x1000 + d * 2 ^ 6 + p * 2 ^ 2 + post) * 2 ^ 32) = [.ld1 { k with last := true } d p post] ∧
      decodeBundle k ((0x2000 + d * 2 ^ 6 + p * 2 ^ 2 + post) * 2 ^ 32) = [.st1 { k with last := true } d p post] ∧
      decodeBundle k ((0xA000 + d * 2 ^ 6 + v) * 2 ^ 32) = [.movv { k with last := true } d v] := by
  have hassoc : ∀ op : Nat, op + d * 2 ^ 6 + p * 2 ^ 2 + post = op + d * 2 ^ 6 + (p * 2 ^ 2 + post) := fun _ => Nat.add_assoc ..
  rw [hassoc, hassoc]
  exact ⟨decodeBundle_lSlot k d (op := 1) (by decide) (by omega) (lSlot_ld1 _ d p post),
    decodeBundle_lSlot k d (op := 2) (by decide) (by omega) (lSlot_st1 _ d p post),
    decodeBundle_lSlot k d (op := 10) (by decide) v.isLt (lSlot_movv _ d v)⟩

/-- The branches and HALT by their fields. -/
theorem decodeBundle_branches (k : Slot) (p : Fin 16) (off : BitVec 8) :
    decodeBundle k ((0x2000 + off.toNat) * 2 ^ 48) = [.br { k with last := true } off] ∧
      decodeBundle k ((0x3000 + p * 2 ^ 8 + off.toNat) * 2 ^ 48) = [.bz { k with last := true } p off] ∧
      decodeBundle k ((0x4000 + p * 2 ^ 8 + off.toNat) * 2 ^ 48) = [.bnz { k with last := true } p off] ∧
      decodeBundle k ((0xA000 + off.toNat) * 2 ^ 48) = [.halt { k with last := true } off] :=
  ⟨decodeBundle_cSlot k 0 off (op := 2) (by decide) (cSlot_br _ off), decodeBundle_cSlot k p off (op := 3) (by decide) (cSlot_bz _ p off),
    decodeBundle_cSlot k p off (op := 4) (by decide) (cSlot_bnz _ p off),
    decodeBundle_cSlot k 0 off (op := 10) (by decide) (cSlot_halt _ off)⟩

/-! ## The statement -/

/-- Settles O24: the C slot's rows by their effects, the end of a bundle by what its effects are, and its word by its slots. -/
theorem controlSlot : Obligations.ControlSlot := by
  unfold Obligations.ControlSlot
  refine ⟨fun k s st h => ⟨fun n rot len => loop_next h n rot len, fun off => ⟨slotOp_next rfl h rfl, fun p => ⟨slotOp_next rfl h rfl,
      slotOp_next rfl h rfl⟩, branchFx_free off⟩, fun level i => ⟨resource_next h, noResource_next h⟩, fun ch p => slotOp_next rfl h rfl,
      fun ch => slotOp_next rfl h rfl, fun v => setrrb_next h v, fun user => slotOp_next rfl h rfl⟩,
    ⟨fun x n st code h hcode hmem hbefore hclash => x.bundleEnd_fault_of_mem h hcode hmem hbefore hclash, fun x n ch a st h hown =>
      ⟨fun hrun => x.bundleEnd_streamRuns h hown a hrun, fun hidle => ⟨fun hfx ha hend hgood hdesc => ?_, fun hfx ha hend hbad => ?_,
        fun hfx hbad => x.bundleEnd_swait_late h hown hidle hfx hbad⟩⟩, fun x n st e l h hfx hl hpos hpend hloops => ?_,
      fun st d z => ?_⟩,
    fun k s l hl => ⟨rfl, rfl, ?_, fun m a b c hm ha hb hc hm0 ha0 hb0 hc0 => decodeBundle_full k hm ha hb hc hm0 ha0 hb0 hc0,
      fun e he d b v => ?_, fun d s imm => ?_, fun d v p post => ?_, fun p off => ?_, fun w sh st h _ hw hcode h0 => ?_⟩⟩
  · exact x.bundleEnd_strm_late h hown hidle hfx ha hend (by simp [hgood, hdesc])
  · exact x.bundleEnd_strm_late h hown hidle hfx ha hend (by simp [hbad])
  · exact x.bundleEnd_single h hfx hl hpos hpend hloops
  · obtain ⟨hsum, hgovf⟩ := st.land_aadd d z
    exact ⟨hsum, hgovf, st.land_aset d z⟩
  · subst hl
    rfl
  · subst hl
    exact decodeBundle_lane k he d b v
  · subst hl
    exact decodeBundle_pointers k d s imm
  · subst hl
    exact decodeBundle_words k d v p post
  · subst hl
    exact decodeBundle_branches k p off
  · obtain ⟨t, ht⟩ := reserved_next h
    exact ⟨_, t, decodeBundle_reserved k hw h0 hcode, ht⟩

end Sys2Proof.Machine
end

section
/-! PROOFS. Completions of what a stall asks for: bundles, sends, halts and transfers (R156, R160, R174, R180, R183). -/
namespace Sys2Proof.Machine

/-! ## The empty bundle (R156, R160) -/

/-- A bundle that is ready and has no cause of its own has none at all. -/
theorem slotFaults_ready {c : Ctl} {k : Slot} {st : StallSt} (h : c.slotReady k st) :
    (c.storeEcc k.stall st.pc k.ecc).slotFaults k st.pc = [] ∧ c.storeEcc k.stall st.pc k.ecc = c := by
  obtain ⟨-, -, hpc, hpar, hmbz, hecc, hgood⟩ := h
  have hclean : c.storeEcc k.stall st.pc k.ecc = c := by
    rw [hecc]
    exact if_neg (Nat.not_le.2 hpc)
  rw [hclean, Ctl.slotFaults, hpar, hmbz, hgood, if_neg (Nat.not_le.2 hpc)]
  exact ⟨rfl, rfl⟩

/-- The end of a bundle without effects, outside any loop and with no write under way. -/
theorem Mach.bundleEnd_empty (x : Mach) {n : Nat} {st : StallSt} (h : x.c.stall? n = some st) (hfx : st.fx = [])
    (hpend : st.pend = []) (hloops : st.loops = []) : (x.bundleEnd n).c.stall? n = some { st with
      fx := [], pend := [], loops := [], pc := st.pc + 8, t := st.t + 1, cycles := st.cycles + 1, wait := .none } ∧
      (x.bundleEnd n).m = x.m ∧ (x.bundleEnd n).c.regs = x.c.regs := by
  have hspec := x.wrote_spec n st []
  rw [x.bundleEnd_writes h (hfx ▸ writesAlone_nil), hfx]
  rwa [StallSt.landDue_nil, hloops, passEnd, StallSt.issuedOn, hpend] at hspec
  rw [hloops, passEnd, StallSt.issuedOn, hpend]
  rfl

/-- The empty bundle outside any loop goes on to the next one and changes no register (R160). -/
theorem nopBundle_goesOn (x : Mach) {k : Slot} {st : StallSt} (h : x.c.slotReady k st) (hfx : st.fx = []) (hpend : st.pend = [])
    (hloops : st.loops = []) : ∃ u, (nopBundle k x).c.stall? k.stall = some u ∧ u.pc = st.pc + 8 ∧
      u.t = st.t + 1 ∧ st.sameRegs u ∧ u.rrb = st.rrb ∧ (nopBundle k x).m = x.m ∧ (nopBundle k x).c.regs = x.c.regs := by
  obtain ⟨hnone, hclean⟩ := slotFaults_ready h
  obtain ⟨hstall, hwait, -, -, hmbz, -⟩ := h
  have hissued := x.c.nopIssued_stall k st
  have hregs : (x.c.nopIssued k st).regs = x.c.regs := show (x.c.storeEcc k.stall st.pc k.ecc).regs = _ by rw [hclean]
  rw [hnone, hfx] at hissued
  obtain ⟨hu, hm, hr⟩ := Mach.bundleEnd_empty { x with c := x.c.nopIssued k st } hissued rfl hpend hloops
  rw [nopBundle_eq k x hstall hwait, if_pos (by simp [hmbz])]
  exact ⟨_, hu, rfl, rfl, ⟨rfl, rfl, rfl, rfl, rfl, rfl⟩, rfl, hm, hr.trans hregs⟩

/-- A corrected word is counted, and its slot issues as with a clean one (R156). -/
theorem Ctl.nopIssued_corrected (c : Ctl) {k : Slot} {st : StallSt} (hpc : st.pc < 0x40000) (he : k.ecc = .corrected) :
    c.nopIssued k st = (c.inc R.YARD_ECC_CORR_STORE (stallYard k.stall)).nopIssued { k with ecc := .clean } st := by
  have hhit : c.storeEcc k.stall st.pc k.ecc = c.inc R.YARD_ECC_CORR_STORE (stallYard k.stall) := by
    rw [he]
    exact if_neg (Nat.not_le.2 hpc)
  have hclean : (c.inc R.YARD_ECC_CORR_STORE (stallYard k.stall)).storeEcc k.stall st.pc .clean =
      c.inc R.YARD_ECC_CORR_STORE (stallYard k.stall) := if_neg (Nat.not_le.2 hpc)
  simp only [Ctl.nopIssued, hhit, hclean]
  rfl

/-- A corrected word is counted, and its slot goes on as with a clean one (R156). -/
theorem nopBundle_corrected (x : Mach) {k : Slot} {st : StallSt} (h : x.c.stall? k.stall = some st) (hw : st.wait = .none)
    (hpc : st.pc < 0x40000) (he : k.ecc = .corrected) : nopBundle k x =
      nopBundle { k with ecc := .clean } { x with c := x.c.inc R.YARD_ECC_CORR_STORE (stallYard k.stall) } := by
  have hclean := nopBundle_eq { k with ecc := .clean } { x with c := x.c.inc R.YARD_ECC_CORR_STORE (stallYard k.stall) } h hw
  rw [hclean, nopBundle_eq k x h hw, x.c.nopIssued_corrected hpc he]

/-! ## Sends and halts (R174, R183) -/

/-- A job that does not halt is not ended. -/
theorem Ctl.haltTry_running (c : Ctl) {n : Nat} {st : StallSt} (h : c.stall? n = some st)
    (hw : (∀ u, st.wait ≠ .halt u) ∨ st.sends ≠ 0) : c.haltTry n = c := by
  simp only [Ctl.haltTry, h]
  split
  · next u hu => simp [hw.resolve_left fun hn => hn u hu]
  · rfl

/-- An acknowledged send is no longer outstanding (R174). -/
theorem accAck_running (c : Ctl) {n : Fin 128} {st : StallSt} (h : c.stall? n = some st) (hs : st.sends ≠ 0)
    (hw : ∀ u, st.wait ≠ .halt u) : accAck n c = c.setStall n { st with sends := st.sends - 1 } := by
  simp only [accAck, h, hs, if_false]
  exact Ctl.haltTry_running _ (Ctl.stall?_setStall _ _ _) (.inl hw)

/-- The completion record of a job that ends (R183). -/
def StallSt.endRecord (st : StallSt) (fault user cycles : Nat) : CqRec :=
  { words := [(if fault = 0 then 0 else 7) + 16 * fault + 256 * b2n st.sat + 65536 * st.govf + 16777216 * user, st.order.post,
      cycles, st.pc % 2 ^ 18] }

/-- The record of a job that ends with HALT says OK (R183). -/
theorem StallSt.endRecord_ok (st : StallSt) (user cycles : Nat) : st.endRecord 0 user cycles =
    { words := [256 * (if st.sat then 1 else 0) + 65536 * st.govf + 16777216 * user, st.order.post, cycles, st.pc % 2 ^ 18] } := by
  rw [endRecord, if_pos rfl, Nat.mul_zero, Nat.zero_add, b2n]

/-- The end of a job that holds no resource (R183). -/
theorem Ctl.endJob_record (c : Ctl) {n : Nat} (fault user : Nat) {st : StallSt} (h : c.stall? n = some st)
    (hheld : st.held = []) : c.endJob n fault user = (((c.thawed st.froze).2.withoutJob n).jobRecorded (stallYard n) st.order.post
      (st.endRecord fault user ((st.cycles + (c.thawed st.froze).1) % 2 ^ 32))).jobScored (stallYard n) fault st.order := by
  unfold Ctl.endJob
  rw [h]
  dsimp only
  rw [hheld]
  rfl

section
variable (c : Ctl) {n : Nat} {user : Nat} {st : StallSt} (h : c.stall? n = some st) (hw : st.wait = .halt user) (hs : st.sends = 0)
  (hfx : st.fx = []) (hheld : st.held = []) (hkind : st.order.kind ≠ 1)
  (hpost : (st.order.post + 2 ^ 32 - (c.seq (stallYard n)).firstPost) % 2 ^ 32 < 2 ^ 31)
include h hw hs hfx hheld hkind hpost

/-- A halting job with nothing outstanding ends, and its record goes to the sequencer that posted its order (R183). -/
theorem Ctl.haltTry_ends : c.haltTry n = ((c.thawed st.froze).2.withoutJob n).setSeq (stallYard n)
    ((c.seq (stallYard n)).pushCq (st.endRecord 0 user ((st.cycles + (c.thawed st.froze).1) % 2 ^ 32))) := by
  have hcover : ∀ d : Ctl, d.cover (stallYard n) st.order = d := fun d => by simp [Ctl.cover, hkind]
  have hseq : ((c.thawed st.froze).2.withoutJob n).seq (stallYard n) = c.seq (stallYard n) := by cases st.froze <;> rfl
  have hend : c.haltTry n = c.endJob n 0 user := by simp [Ctl.haltTry, h, hw, hs, hfx]
  rw [hend, c.endJob_record 0 user h hheld, Ctl.jobScored, if_pos rfl, hcover, Ctl.jobRecorded, hseq,
    if_neg (by simpa using hpost)]

theorem Ctl.haltTry_spec (hcq : (c.seq (stallYard n)).cq.length < 256) : ∃ cycles, (c.haltTry n).stall? n = none ∧
    (st.froze = false → cycles = st.cycles % 2 ^ 32) ∧
    ((c.haltTry n).seq (stallYard n)).cq = (c.seq (stallYard n)).cq ++ [st.endRecord 0 user cycles] ∧
    (c.haltTry n).regs = c.regs := by
  rw [c.haltTry_ends h hw hs hfx hheld hkind hpost]
  refine ⟨(st.cycles + (c.thawed st.froze).1) % 2 ^ 32, Ctl.stall?_withoutJob _ n, fun hf => by rw [hf]; rfl, ?_, ?_⟩
  · rw [Ctl.seq_setSeq, SeqSt.pushCq, if_pos hcq]
  · cases st.froze <;> rfl

end

/-! ## Transfers into a store (R180) -/

theorem Mem.wrs_append (m : Mem) (a : Nat) (l r : List Byte) : m.wrs a (l ++ r) = (m.wrs a l).wrs (a + l.length) r := by
  induction l generalizing m a with
  | nil => rfl
  | cons v l ih => rw [List.cons_append, Mem.wrs, Mem.wrs, ih, List.length_cons, Nat.add_assoc, Nat.add_comm 1]

theorem Mem.rds_add (m : Mem) (a n k : Nat) : m.rds a (n + k) = m.rds a n ++ m.rds (a + n) k := by
  induction n generalizing a with
  | zero => simp [Mem.rds]
  | succ n ih => rw [Nat.add_right_comm, Mem.rds, Mem.rds, ih, List.cons_append, Nat.add_assoc, Nat.add_comm 1]

/-- Words that are moved one after the other are moved as one run of bytes. -/
theorem foldl_moved (f : Mem × Ctl → Nat → Mem × Ctl) (src : Mem) (a b : Nat) (c : Ctl) (n : Nat)
    (hf : ∀ i < n, ∀ m, f (m, c) i = (m.wrs (a + 4 * i) (src.rds (b + 4 * i) 4), c)) (m : Mem) :
    (List.range n).foldl f (m, c) = (m.wrs a (src.rds b (n * 4)), c) := by
  induction n with
  | zero => rfl
  | succ n ih =>
    rw [List.range_succ, List.foldl_append, ih fun i hi => hf i (Nat.lt_succ_of_lt hi), List.foldl_cons, List.foldl_nil,
      hf n (Nat.lt_succ_self n), Nat.mul_comm 4 n, Nat.succ_mul n, Mem.rds_add, Mem.wrs_append, Mem.length_rds]

@[simp] theorem Ctl.ledgShow_fabr (c : Ctl) : c.ledgShow.fabr = c.fabr := by
  unfold Ctl.ledgShow
  extract_lets base c1
  refine (Ctl.each_keeps (·.fabr) _ _ (fun c k => ?_) c1).trans ?_ <;> simp [c1]

@[simp] theorem Ctl.dramWake_fabr (c : Ctl) : c.dramWake.fabr = c.fabr := by
  unfold Ctl.dramWake
  split
  · rfl
  · simp [Ctl.inc, Ctl.free]

/-- An exit from self-refresh changes nothing of what DRAM answers. -/
theorem Ctl.dramWake_stated (c : Ctl) (a : Nat) :
    c.dramWake.unstated a = c.unstated a ∧ c.dramWake.historyByte a = c.historyByte a := by
  have hbank := c.sameRegsBut_dramWake R.CORR_BANK_BASE 0 (by decide)
  have hfdl := c.sameRegsBut_dramWake R.CORR_FDL_BASE 0 (by decide)
  exact ⟨Ctl.unstated_congr c.dramWake_corr hbank hfdl a, Ctl.historyByte_congr c.dramWake_corr hfdl a⟩

/-- The state whose poisoned words of the stores are those given (R156). -/
def Ctl.storePoisoned (c : Ctl) (p : List Nat) : Ctl := { c with fabr := { c.fabr with storePoison := p } }

/-- A transfer from DRAM moves what DRAM stores, and the poison of the words that it writes goes. -/
theorem Mach.move_fromDram (x : Mach) (n : Nat) {d : Desc} (hout : d.out = false) (hdram : d.dram = true) (hring : d.ringLen = 0)
    (hst : ∀ i < d.len / 4 * 4, x.c.unstated (d.far + i) = false ∧ x.c.historyByte (d.far + i) = none) : ∃ p : List Nat,
    x.move n d = (⟨x.c.storePoisoned p,
      { x.m with store := x.m.store.wrs (storeAt n d.store) (x.m.dram.rds d.far (d.len / 4 * 4)) }⟩, true) := by
  have hat : ∀ i, d.farAt i = d.far + i := fun i => by simp [Desc.farAt, hring]
  simp only [Mach.move, hout, hdram, Bool.false_eq_true, if_false, if_true]
  rw [foldl_moved (src := x.m.dram) (a := storeAt n d.store) (b := d.far)]
  · exact ⟨_, rfl⟩
  · intro i hi m
    have hword := x.c.dramOut_of_stated x.m.dram (d.far + 4 * i) 4 fun j hj => by
      rw [Nat.add_assoc]
      exact hst _ (by omega)
    simp only [hat, hword, storeAt, Nat.add_assoc]

/-- A channel whose transfer has ended is idle, and its stall marks an error (R180). -/
def Ctl.xferEnded (c : Ctl) (y ch n : Nat) (k : Chan) (st : StallSt) (ok : Bool) : Ctl :=
  (c.setChan y ch { k with run := none }).setStall n { st with bad := st.bad || !ok }

@[simp] theorem Ctl.chan_xferEnded (c : Ctl) (y ch n : Nat) (k : Chan) (st : StallSt) (ok : Bool) :
    (c.xferEnded y ch n k st ok).chan y ch = { k with run := none } := kgetD_kput_self _ _ _ _

@[simp] theorem Ctl.stall?_xferEnded (c : Ctl) (y ch n : Nat) (k : Chan) (st : StallSt) (ok : Bool) :
    (c.xferEnded y ch n k st ok).stall? n = some { st with bad := st.bad || !ok } := Ctl.stall?_setStall _ _ _

/-- DRAM that holds no chunk known to be uncorrectable is read after its exit from self-refresh (R354, R365). -/
theorem Ctl.streamTouch_clean (c : Ctl) (y cls : Nat) {d : Desc} (hdram : d.dram = true) (hbad : c.dram.bad = []) :
    c.streamTouch y cls d = (c.dramWake, true) := by
  simp [Ctl.streamTouch, hdram, hbad]

section
variable (x : Mach) {y : Fin 4} {ch : Fin 16} {n : Nat} {d : Desc} {st : StallSt} (hstall : x.c.stall? n = some st)
  (hrun : (x.c.chan y ch).run = some d) (hown : (x.c.chan y ch).owner = some n) (hw : st.wait = .none)
include hstall hrun hown hw

/-- A transfer that ends with an error stores nothing. -/
theorem streamTransferEnd_err :
    streamTransferEnd y ch ⟨true, []⟩ x = { x with c := x.c.xferEnded y ch n (x.c.chan y ch) st false } := by
  have hkeep : ∀ k, (x.c.setChan y ch k).stall? n = some st := fun _ => hstall
  simp [streamTransferEnd, hrun, hown, Ctl.each, hkeep, hw, Ctl.xferEnded]

/-- A transfer from DRAM that ends without error has moved its words (R180). -/
theorem streamTransferEnd_fromDram (hout : d.out = false) (hdram : d.dram = true) (hmode : x.c.get R.DRAM_STATUS_MODE ≠ 3)
    (hbad : x.c.dram.bad = []) (hring : d.ringLen = 0)
    (hst : ∀ i < d.len / 4 * 4, x.c.unstated (d.far + i) = false ∧ x.c.historyByte (d.far + i) = none) : ∃ c : Ctl,
    streamTransferEnd y ch ⟨false, []⟩ x = ⟨c.xferEnded y ch n (x.c.chan y ch) st true,
      { x.m with store := x.m.store.wrs (storeAt n d.store) (x.m.dram.rds d.far (d.len / 4 * 4)) }⟩ := by
  obtain ⟨p, hmoved⟩ := Mach.move_fromDram { x with c := x.c.dramWake } n hout hdram hring fun i hi => by
    obtain ⟨hu, hh⟩ := x.c.dramWake_stated (d.far + i)
    rw [hu, hh]
    exact hst i hi
  have hkeep : ∀ k, ((x.c.dramWake.storePoisoned p).setChan y ch k).stall? n = some st := fun k => by
    show kget? x.c.dramWake.fabr.stalls n = some st
    rw [x.c.dramWake_fabr]
    exact hstall
  refine ⟨x.c.dramWake.storePoisoned p, ?_⟩
  simp [streamTransferEnd, hrun, hown, Ctl.each, hmode, x.c.streamTouch_clean _ _ hdram hbad, hmoved, hkeep, hw, Ctl.xferEnded]

end

/-- Settles O25: how an empty bundle ends, when a job that halts is over, and what a transfer from DRAM moves. -/
theorem jobCompletions : Obligations.JobCompletions := by
  intro s n st hstall
  refine ⟨?_, ?_, ?_, ?_, ?_, ?_, ?_, ?_⟩
  · intro k hready hk hfx hpend hloops
    subst hk
    obtain ⟨u, hu, hpc, ht, ⟨hv, ha, hp, hm, hlc, -⟩, hrrb, hmem, hregs⟩ :=
      nopBundle_goesOn s.m.fresh hready hfx hpend hloops
    exact ⟨_, u, next_of_mach rfl rfl, hu, hpc, ht, hv, ha, hp, hm, hlc, hrrb, hmem, hregs⟩
  · intro k hk hw hfx hpc hlast hbad
    subst hk
    obtain ⟨c, hnop, hfree, hseen, hcount⟩ := nopBundle_aborts k s.m.fresh hstall hw (by rw [hlast]; rfl) hpc hbad
    exact ⟨_, next_of_mach rfl hnop, hfree, hseen, hcount, rfl⟩
  · intro k hk hw hpc he
    subst hk
    refine (next_of_mach rfl (nopBundle_corrected s.m.fresh hstall hw hpc he)).trans ?_
    exact Eq.symm (next_of_mach rfl rfl)
  · intro hs hw
    exact ⟨_, next_of_ctl rfl (accAck_running _ hstall hs hw), Ctl.stall?_setStall _ _ _, rfl, rfl⟩
  · intro user hw hs hfx hheld hkind hpost hcq
    obtain ⟨cycles, hfree, hcycles, hrec, hregs⟩ :=
      Ctl.haltTry_spec { s.m.c with out := [] } hstall hw hs hfx hheld hkind hpost hcq
    exact ⟨_, cycles, next_of_ctl rfl rfl, hfree, hcycles, hrec.trans (by rw [st.endRecord_ok]; rfl), hregs, rfl⟩
  · intro hw
    exact next_of_ctl rfl (Ctl.haltTry_running _ hstall hw)
  · intro y ch d hrun hown hw hout hdram hmode hbad hring hst
    constructor
    · obtain ⟨c, hmoved⟩ := streamTransferEnd_fromDram s.m.fresh hstall hrun hown hw hout hdram hmode hbad hring hst
      refine ⟨_, next_of_mach rfl hmoved, by simp, by simp, fun i hi => ?_, fun a ha => ?_, rfl, rfl⟩
      · have hlen : i < (s.m.m.dram.rds d.far (d.len / 4 * 4)).length := by rwa [Mem.length_rds]
        exact (Mem.rd_wrs_inside _ _ _ i hlen).trans (Mem.getElem_rds _ _ _ i hlen)
      · exact Mem.rd_wrs_of_outside _ _ (by rwa [Mem.length_rds])
    · refine ⟨_, next_of_mach rfl (streamTransferEnd_err s.m.fresh hstall hrun hown hw), by simp, by simp, rfl, rfl⟩
  · intro y ch fin hrun
    exact next_of_mach rfl (by rw [streamTransferEnd, show (s.m.fresh.c.chan y ch).run = none from hrun]; rfl)

end Sys2Proof.Machine
end

section
/-! PROOFS. How an instruction of a sequencer ends: with its result, or in an exception (R187, R189, R209). -/
namespace Sys2Proof.Machine

/-! ## Results (R187) -/

/-- The next state of an instruction that issues and succeeds. -/
theorem seqOp_next {i : Instr} {k : Issue} {f : SeqSt → SeqRes} {s : State} {q : SeqSt} (he : exec i s = s.ctl (seqOp k f))
    (h : s.m.c.issues k) (hf : f (s.m.c.seq k.yard) = .ok q) : exec i s = .next (s.withSeq k.yard q) :=
  he.trans (ctl_seqOp k f s q h hf)

theorem Ctl.issues_ready {c : Ctl} {k : Issue} (h : c.issues k) : c.seqReady k.yard = true := by
  obtain ⟨hrun, hwait, -⟩ := h
  simp [Ctl.seqReady, hrun, hwait]

theorem Ctl.issues_preCauses {c : Ctl} {k : Issue} (h : c.issues k) : preCauses k (c.seq k.yard) = [] := by
  obtain ⟨-, -, hpc, hmbz, hecc, hparity⟩ := h
  simp [preCauses, hmbz, hecc, hparity, Nat.not_le.2 hpc]

/-- A word with a reserved code or a field marked 0 that is not 0 brings that cause alone (R189). -/
theorem Ctl.issues_preCauses_illegal {c : Ctl} {k : Issue} (h : c.issues k) :
    preCauses (k.check true) (c.seq k.yard) = [1] := by
  obtain ⟨-, -, hpc, -, hecc, hparity⟩ := h
  simp [preCauses, Issue.check, hecc, hparity, Nat.not_le.2 hpc]

/-! ## Exceptions (R209) -/

/-- Freeing a latch leaves the sequencers. -/
theorem Ctl.resFreeUp_seqs (c : Ctl) (n level index : Nat) : (c.resFreeUp n level index).seqs = c.seqs := by
  have hmark : ∀ (c : Ctl) n (take : Bool), (c.resMark n level index take).seqs = c.seqs := by
    intro c n take
    unfold Ctl.resMark
    split
    · rfl
    · split <;> rfl
  have htake : ∀ (c : Ctl) n, (c.resTake n level index).seqs = c.seqs := by
    intro c n
    unfold Ctl.resTake
    split
    · rfl
    · exact hmark c n true
  unfold Ctl.resFreeUp Ctl.resGrant
  dsimp only
  split
  · exact hmark c n false
  · exact (htake _ _).trans (hmark c n false)

theorem Ctl.latchRelease_seqs (c : Ctl) (p : Nat → Bool) : (c.latchRelease p).seqs = c.seqs := by
  refine Ctl.each_keeps (·.seqs) _ _ (fun c i => ?_) c
  dsimp only
  split
  · exact c.resFreeUp_seqs _ _ _
  · rfl

theorem Ctl.sameRegsBut_latchRelease (c : Ctl) (p : Nat → Bool) : c.sameRegsBut (c.latchRelease p) [R.LATCH] := by
  refine Ctl.sameRegsBut_each _ _ _ (fun c i _ => ?_) c
  dsimp only
  split
  · exact (jobsEnded_resFreeUp (by simp) c 0 3 i).regs
  · exact Ctl.sameRegsBut_refl _ _

/-- `c'` is `c` with the sequencer of yard `y` halted by an exception of cause `code`, TRAP's number being `trap`. -/
structure Ctl.Halted (c c' : Ctl) (y code trap : Nat) : Prop where
  cause : c'.get R.YARD_SEQ_CAP_CAUSE y = code % 2 ^ R.YARD_SEQ_CAP_CAUSE.width
  trap : c'.get R.YARD_SEQ_CAP_TRAP y = (if code = 9 then trap else 0) % 2 ^ R.YARD_SEQ_CAP_TRAP.width
  epc : c'.get R.YARD_SEQ_EPC y = (c.seq y).pc % 2 ^ R.YARD_SEQ_EPC.width
  run : c'.get R.YARD_STATUS_SEQ_RUN y = 0
  exc : c'.get R.YARD_STATUS_SEQ_EXC y = 1
  seq : c'.seq y = { c.seq y with wait := .none, excWin := some c.winNo }

/-- The capture registers and what halts the sequencer. -/
def Ctl.seqCaptured (c : Ctl) (y code addr trap : Nat) : Ctl :=
  let q := c.seq y
  let c := c.setSeq y { q with wait := .none, excWin := some c.winNo }
  let c := ((c.set R.YARD_STATUS_SEQ_RUN 0 y).set R.YARD_STATUS_SEQ_EXC 1 y).set R.YARD_SEQ_CAP_CAUSE code y
  let c := ((c.set R.YARD_SEQ_CAP_TRAP (if code = 9 then trap else 0) y).set R.YARD_SEQ_EPC q.pc y).set R.YARD_SEQ_EADDR addr y
  (c.set R.YARD_SEQ_EWIN c.winNo y).set R.YARD_SEQ_IMAGE ((q.active.map (·.id)).getD 0) y

theorem Ctl.halted_seqCaptured (c : Ctl) (y code addr trap : Nat) : c.Halted (c.seqCaptured y code addr trap) y code trap := by
  unfold Ctl.seqCaptured
  extract_lets q c1 c2 c3
  have hcap : ∀ (r : Reg), r.id ≠ R.YARD_SEQ_EWIN.id → r.id ≠ R.YARD_SEQ_IMAGE.id → r.id ≠ R.YARD_SEQ_EADDR.id →
      ((c3.set R.YARD_SEQ_EWIN c3.winNo y).set R.YARD_SEQ_IMAGE ((q.active.map (·.id)).getD 0) y).get r y =
        ((c2.set R.YARD_SEQ_CAP_TRAP (if code = 9 then trap else 0) y).set R.YARD_SEQ_EPC q.pc y).get r y := by
    intro r h1 h2 h3
    rw [Ctl.get_set_field _ _ _ _ _ _ h2.symm, Ctl.get_set_field _ _ _ _ _ _ h1.symm, Ctl.get_set_field _ _ _ _ _ _ h3.symm]
  refine ⟨?_, ?_, ?_, ?_, ?_, c.seq_setSeq y _⟩
  · rw [hcap _ (by decide) (by decide) (by decide), Ctl.get_set_field _ _ _ _ _ _ (by decide),
      Ctl.get_set_field _ _ _ _ _ _ (by decide), Ctl.get_set_self]
  · rw [hcap _ (by decide) (by decide) (by decide), Ctl.get_set_field _ _ _ _ _ _ (by decide), Ctl.get_set_self]
  · rw [hcap _ (by decide) (by decide) (by decide), Ctl.get_set_self]
  · rw [hcap _ (by decide) (by decide) (by decide)]
    iterate 4 rw [Ctl.get_set_field _ _ _ _ _ _ (by decide)]
    rw [Ctl.get_set_self, Nat.zero_mod]
  · rw [hcap _ (by decide) (by decide) (by decide)]
    iterate 3 rw [Ctl.get_set_field _ _ _ _ _ _ (by decide)]
    rw [Ctl.get_set_self]
    rfl

theorem Ctl.halted_seqExc (c : Ctl) (y code addr trap : Nat) : c.Halted (c.seqExc y code addr trap) y code trap := by
  obtain ⟨hcause, htrap, hepc, hrun, hexc, hseq⟩ := c.halted_seqCaptured y code addr trap
  have hregs : ∀ (r : Reg), (∀ f ∈ R.LATCH :: evtFields, f.id ≠ r.id) →
      (c.seqExc y code addr trap).get r y = (c.seqCaptured y code addr trap).get r y := fun r hr =>
    Ctl.sameRegsBut_trans (Ctl.sameRegsBut_mono (Ctl.sameRegsBut_latchRelease _ _) (by simp))
      (Ctl.sameRegsBut_raise _ _ _ _ _ (fun f hf => by simp [hf])) r y hr
  have hseqs : (c.seqExc y code addr trap).seqs = (c.seqCaptured y code addr trap).seqs :=
    (Ctl.raise_seqs _ _ _ _).trans (Ctl.latchRelease_seqs _ _)
  exact ⟨(hregs _ (by decide)).trans hcause, (hregs _ (by decide)).trans htrap, (hregs _ (by decide)).trans hepc,
    (hregs _ (by decide)).trans hrun, (hregs _ (by decide)).trans hexc, by rw [Ctl.seq, hseqs]; exact hseq⟩

/-- An instruction that ends in an exception of its own. -/
theorem exc_next {i : Instr} {s : State} {f : Ctl → Ctl} {y code addr trap : Nat} (he : exec i s = s.ctl f)
    (hf : f { s.m.c with out := [] } = Ctl.seqExc { s.m.c with out := [] } y code addr trap) :
    ∃ t, exec i s = .next t ∧ s.m.c.Halted t.m.c y code trap ∧ t.m.m = s.m.m :=
  let ⟨hcause, htrap, hepc, hrun, hexc, hseq⟩ := Ctl.halted_seqExc { s.m.c with out := [] } y code addr trap
  ⟨_, next_of_ctl he hf, ⟨hcause, htrap, hepc, hrun, hexc, hseq⟩, rfl⟩

/-- One that touches its sequencer alone. -/
theorem seqOp_exc_next {i : Instr} {k : Issue} {f : SeqSt → SeqRes} {s : State} {code addr : Nat} (he : exec i s = s.ctl (seqOp k f))
    (h : s.m.c.issues k) (hf : f (s.m.c.seq k.yard) = .exc code addr) :
    ∃ t, exec i s = .next t ∧ s.m.c.Halted t.m.c k.yard code 0 ∧ t.m.m = s.m.m :=
  exc_next he (seqOp_exc k f { s.m.c with out := [] } code addr h hf)

/-- ILLEGAL has the lowest code, so that no cause of the instruction itself goes before it (R209). -/
theorem worst_illegal {r : SeqRes} (hr : ∀ m a, r = .exc m a → 1 ≤ m) : ∃ addr, worst [1] r = .exc 1 addr := by
  cases r with
  | ok q => exact ⟨0, rfl⟩
  | exc m a =>
    by_cases hm : 1 < m
    · exact ⟨0, if_pos hm⟩
    · have hm1 : m = 1 := by have := hr m a rfl; omega
      exact ⟨a, by rw [hm1]; rfl⟩

/-- A word with a reserved code or a field marked 0 that is not 0 is ILLEGAL (R189). -/
theorem illegal_next {i : Instr} {k : Issue} {f : SeqSt → SeqRes} {s : State} (he : exec i s = s.ctl (seqOp (k.check true) f))
    (h : s.m.c.issues k) (hf : ∀ m a, f (s.m.c.seq k.yard) = .exc m a → 1 ≤ m) :
    ∃ t, exec i s = .next t ∧ s.m.c.Halted t.m.c k.yard 1 0 ∧ t.m.m = s.m.m := by
  obtain ⟨addr, hw⟩ := worst_illegal hf
  refine exc_next (addr := addr) he ?_
  have hready : Ctl.seqReady { s.m.c with out := [] } (k.check true).yard = true := Ctl.issues_ready (k := k) h
  have hpre : preCauses (k.check true) (Ctl.seq { s.m.c with out := [] } (k.check true).yard) = [1] :=
    Ctl.issues_preCauses_illegal h
  rw [seqOp, if_pos hready, Ctl.seqEnd, hpre]
  dsimp only
  rw [show worst [1] (f (Ctl.seq { s.m.c with out := [] } (k.check true).yard)) = .exc 1 addr from hw]
  rfl

end Sys2Proof.Machine
end

section
/-! PROOFS. The integer instructions of a sequencer and the words of formats R and I (R189 to R191). -/
namespace Sys2Proof

/-! ## Fields of an instruction word (R189) -/

theorem Issue.check_false (k : Issue) : k.check false = k := by
  unfold Issue.check
  rw [Bool.or_false]

/-- The opcode, the two registers and the low half of an instruction word. -/
theorem scalarWord_fields {w op low : Nat} {rd ra : Fin 32} (hw : w = op * 2 ^ 26 + rd * 2 ^ 21 + ra * 2 ^ 16 + low) (hop : op < 64)
    (hlow : low < 2 ^ 16) : fieldOf w 31 26 = op ∧ finOf w 25 21 32 = rd ∧ finOf w 20 16 32 = ra ∧ w % 2 ^ 16 = low := by
  have hd := rd.isLt
  have ha := ra.isLt
  refine ⟨?_, finOf_eq ?_, finOf_eq ?_, ?_⟩ <;> simp only [fieldOf, hw, Nat.reduceSub, Nat.reduceAdd, Nat.reducePow] <;> omega

/-- A field of the low half. -/
theorem fieldOf_low (w : Nat) {hi lo : Nat} (h : hi < 16) (hlo : lo ≤ hi) : fieldOf w hi lo = fieldOf (w % 2 ^ 16) hi lo := by
  unfold fieldOf
  rw [show 2 ^ 16 = 2 ^ lo * 2 ^ (16 - lo) by rw [← pow_add]; congr 1; omega, Nat.mod_mul_right_div_self,
    Nat.mod_mod_of_dvd _ (pow_dvd_pow 2 (by omega))]

/-- As `fieldOf_low`, where the low half is known. -/
theorem fieldOf_of_low {w low hi lo : Nat} (hw : w % 2 ^ 16 = low) (h : hi < 16) (hlo : lo ≤ hi) :
    fieldOf w hi lo = fieldOf low hi lo := by
  rw [fieldOf_low w h hlo, hw]

/-- A field as it is read where it is known as a number of its range. -/
theorem fieldOf_of_finOf {w hi lo n : Nat} [NeZero n] {x : Fin n} (h : finOf w hi lo n = x) (hn : 2 ^ (hi - lo + 1) = n) :
    fieldOf w hi lo = x := by
  rw [← h, finOf, Fin.val_ofNat, Nat.mod_eq_of_lt]
  rw [← hn]
  exact Nat.mod_lt _ (by positivity)

end Sys2Proof

namespace Sys2Proof.Machine

/-! ## Format R, opcode 0x00 (R189, R191) -/

/-- The fields of a word of format R. -/
theorem rWord_fields {op func : Nat} (rd ra rb : Fin 32) (hop : op < 64) (hfunc : func < 2048) :
    fieldOf (rWord op rd ra rb func) 31 26 = op ∧ finOf (rWord op rd ra rb func) 25 21 32 = rd ∧
      finOf (rWord op rd ra rb func) 20 16 32 = ra ∧ fieldOf (rWord op rd ra rb func) 15 11 = rb ∧
      fieldOf (rWord op rd ra rb func) 10 0 = func := by
  have hb := rb.isLt
  obtain ⟨hopc, hrd, hra, hlow⟩ := scalarWord_fields (w := rWord op rd ra rb func) (op := op) (rd := rd) (ra := ra)
    (low := rb * 2 ^ 11 + func) (by unfold rWord; omega) hop (by omega)
  refine ⟨hopc, hrd, hra, ?_, ?_⟩
  · rw [fieldOf_low _ (by decide) (by decide), hlow]
    simp only [fieldOf, Nat.reduceSub, Nat.reduceAdd, Nat.reducePow]
    omega
  · rw [fieldOf_low _ (by decide) (by decide), hlow]
    simp only [fieldOf, Nat.reduceSub, Nat.reduceAdd, Nat.reducePow]
    omega

section
variable (k : Issue) (rd ra rb : Fin 32)

/-- What a word of opcode 0 spells, by its function. -/
theorem decodeScalar_rWord {func : Nat} (hfunc : func < 2048) {i : Instr}
    (h : ∀ w, finOf w 25 21 32 = rd → finOf w 20 16 32 = ra → fieldOf w 15 11 = rb → finOf w 15 11 32 = rb →
      fieldOf w 10 0 = func → intWord k w = i) : decodeScalar k (rWord 0 rd ra rb func) = i := by
  obtain ⟨hop, hrd, hra, hrb, hfn⟩ := rWord_fields rd ra rb (show 0 < 64 by decide) hfunc
  simp only [decodeScalar, hop]
  exact h _ hrd hra hrb (finOf_eq hrb) hfn

theorem decodeScalar_int : ∀ e ∈ intTable.zipIdx, decodeScalar k (rWord 0 rd ra rb e.2) = e.1.1 k rd ra rb := by
  have hrow : ∀ e ∈ intTable.zipIdx, ∀ w, finOf w 25 21 32 = rd → finOf w 20 16 32 = ra → finOf w 15 11 32 = rb →
      fieldOf w 10 0 = e.2 → intWord k w = e.1.1 k rd ra rb := by
    simp only [intTable, List.zipIdx_cons, List.zipIdx_nil, List.forall_mem_cons, List.not_mem_nil, IsEmpty.forall_iff,
      implies_true, and_true, zero_add, Nat.reduceAdd]
    refine ⟨?_, ?_, ?_, ?_, ?_, ?_, ?_, ?_, ?_, ?_, ?_, ?_, ?_, ?_, ?_, ?_, ?_, ?_, ?_, ?_, ?_⟩ <;>
      exact fun w hd ha hb hf => by simp only [intWord, hf, hd, ha, hb]
  intro e he
  have hlt : e.2 < 21 := (List.snd_lt_of_mem_zipIdx he)
  exact decodeScalar_rWord k rd ra rb (by omega) fun w hd ha _ hb hf => hrow e he w hd ha hb hf

theorem decodeScalar_shift : ∀ e ∈ shiftTable.zipIdx, decodeScalar k (rWord 0 rd ra rb (21 + e.2)) = e.1.1 k rd ra rb := by
  simp only [shiftTable, List.zipIdx_cons, List.zipIdx_nil, List.forall_mem_cons, List.not_mem_nil, IsEmpty.forall_iff,
    implies_true, and_true, zero_add, Nat.reduceAdd]
  refine ⟨?_, ?_, ?_⟩ <;>
    exact decodeScalar_rWord k rd ra rb (by decide) fun w hd ha _ hb hf => by simp only [intWord, hf, hd, ha, hb]

/-- The two counts have no second register, and its field is 0. -/
theorem decodeScalar_counts :
    decodeScalar k (rWord 0 rd ra 0 24) = .ctz k rd ra ∧ decodeScalar k (rWord 0 rd ra 0 25) = .clz k rd ra := by
  constructor <;> refine decodeScalar_rWord k rd ra 0 (by decide) fun w hd ha hb _ hf => ?_
  all_goals
    simp only [intWord, hf, hd, ha, hb, Fin.val_zero, bne_self_eq_false, Issue.check_false]

/-- A function above 25 is reserved. -/
theorem decodeScalar_int_reserved {func : Nat} (h : 26 ≤ func) (hfunc : func < 2048) :
    decodeScalar k (rWord 0 rd ra rb func) = .add (k.check true) rd ra rb := by
  obtain ⟨n, rfl⟩ := Nat.exists_eq_add_of_le' h
  refine decodeScalar_rWord k rd ra rb hfunc fun w hd ha _ hb hf => ?_
  simp only [intWord, hf, hd, ha, hb]

end

/-! ## Results (R190, R191) -/

section
variable (a b : BitVec 32)

theorem b2n_eq (p : Bool) : b2n p = (if p then 1#32 else 0#32).toNat := by cases p <;> rfl

theorem slt_result : b2n (s32 a.toNat < s32 b.toNat) = (if a.slt b then 1#32 else 0#32).toNat := by
  rw [b2n_eq, s32_toInt, s32_toInt]
  rfl

theorem sltu_result : b2n (a.toNat < b.toNat) = (if a.ult b then 1#32 else 0#32).toNat := by
  rw [b2n_eq]
  rfl

theorem add_result : (a.toNat + b.toNat) % 2 ^ 32 = (a + b).toNat := (BitVec.toNat_add a b).symm

theorem sub_result : (a.toNat + 2 ^ 32 - b.toNat) % 2 ^ 32 = (a - b).toNat := by
  have := b.isLt
  rw [BitVec.toNat_sub]
  congr 1
  omega

theorem srl_result (n : Nat) : a.toNat / 2 ^ n = (a >>> n).toNat := by
  rw [BitVec.toNat_ushiftRight, Nat.shiftRight_eq_div_pow]

theorem mulh_result : ux 32 (asr (s32 a.toNat * s32 b.toNat) 32) = (BitVec.ofInt 32 (a.toInt * b.toInt / 2 ^ 32)).toNat := by
  rw [ux_eq, s32_toInt, s32_toInt, asr_eq]

theorem mulhu_result : a.toNat * b.toNat / 2 ^ 32 % 2 ^ 32 = (BitVec.ofNat 32 (a.toNat * b.toNat / 2 ^ 32)).toNat := by
  rw [BitVec.toNat_ofNat]

/-- A quotient of signed words, the divisor 0 and the quotient 2^31 included. -/
theorem div32_result : div32 a.toNat b.toNat = (if b = 0 then BitVec.allOnes 32 else a.sdiv b).toNat := by
  unfold div32
  by_cases hb : b = 0
  · simp [hb]
  · have hb' : b.toNat ≠ 0 := fun h => hb (BitVec.eq_of_toNat_eq h)
    rw [if_neg hb', if_neg hb, ux_eq, s32_toInt, s32_toInt]
    congr 1
    exact BitVec.eq_of_toInt_eq (by rw [BitVec.toInt_ofInt, BitVec.toInt_sdiv])

theorem divu_result :
    (if b.toNat = 0 then 0xFFFFFFFF else a.toNat / b.toNat) = (if b = 0 then BitVec.allOnes 32 else a.udiv b).toNat := by
  by_cases hb : b = 0
  · simp [hb]
  · have hb' : b.toNat ≠ 0 := fun h => hb (BitVec.eq_of_toNat_eq h)
    rw [if_neg hb', if_neg hb]
    rfl

theorem rem32_result : rem32 a.toNat b.toNat = (if b = 0 then a else a.srem b).toNat := by
  unfold rem32
  by_cases hb : b = 0
  · simp [hb]
  · have hb' : b.toNat ≠ 0 := fun h => hb (BitVec.eq_of_toNat_eq h)
    rw [if_neg hb', if_neg hb, ux_eq, s32_toInt, s32_toInt, ← BitVec.toInt_srem, BitVec.ofInt_toInt]

theorem remu_result : (if b.toNat = 0 then a.toNat else a.toNat % b.toNat) = (if b = 0 then a else a.umod b).toNat := by
  by_cases hb : b = 0
  · simp [hb]
  · have hb' : b.toNat ≠ 0 := fun h => hb (BitVec.eq_of_toNat_eq h)
    rw [if_neg hb', if_neg hb]
    rfl

/-- The lesser and the greater of two signed words, one test for both. -/
theorem pick_slt_result (x y : BitVec 32) :
    (if s32 x.toNat < s32 y.toNat then b.toNat else a.toNat) = (if x.slt y then b else a).toNat := by
  rw [s32_toInt, s32_toInt, apply_ite BitVec.toNat]
  simp only [BitVec.slt, decide_eq_true_eq]

theorem min_result : min a.toNat b.toNat = (if b.ult a then b else a).toNat := by
  rw [apply_ite BitVec.toNat]
  simp only [BitVec.ult, decide_eq_true_eq]
  split <;> omega

theorem max_result : max a.toNat b.toNat = (if a.ult b then b else a).toNat := by
  rw [apply_ite BitVec.toNat]
  simp only [BitVec.ult, decide_eq_true_eq]
  split <;> omega

/-- A sum with a signed immediate. -/
theorem addi_result {w : Nat} (imm : BitVec w) : ux 32 ((a.toNat : Int) + imm.toInt) = (a + imm.signExtend 32).toNat := by
  rw [ux_eq, BitVec.ofInt_add, BitVec.ofInt_natCast, BitVec.ofNat_toNat, BitVec.setWidth_eq]
  rfl

/-! ## Counts (R191) -/

/-- The first of 32 bits that is set, by whatever order they are read in. -/
theorem find_bit (p : Nat → Bool) : ((List.range 32).find? p).getD 32 ≤ 32 ∧
    (∀ i < ((List.range 32).find? p).getD 32, p i = false) ∧
    (((List.range 32).find? p).getD 32 < 32 → p (((List.range 32).find? p).getD 32) = true) := by
  cases h : (List.range 32).find? p with
  | none =>
    rw [List.find?_range_eq_none] at h
    exact ⟨le_refl _, fun i hi => by simpa using h i hi, fun hlt => absurd hlt (lt_irrefl _)⟩
  | some n =>
    rw [List.find?_range_eq_some] at h
    obtain ⟨hp, hn, hlt⟩ := h
    exact ⟨(List.mem_range.1 hn).le, fun i hi => by simpa using hlt i hi, fun _ => hp⟩

theorem trailing_ctz32 : trailing a (ctz32 a.toNat) := by
  have hbit : ∀ i, a.getLsbD i = bit a.toNat i := fun i => (Nat.testBit_eq_decide_div_mod_eq).trans rfl
  simp only [trailing, hbit]
  exact find_bit _

theorem leading_clz32 : leading a (clz32 a.toNat) := by
  have hbit : ∀ i < 32, a.getMsbD i = bit a.toNat (31 - i) := fun i hi => by
    rw [BitVec.getMsbD_eq_getLsbD, decide_eq_true hi, Bool.true_and, show 32 - 1 - i = 31 - i by omega]
    exact (Nat.testBit_eq_decide_div_mod_eq).trans rfl
  obtain ⟨hle, hlow, hhigh⟩ := find_bit (fun i => bit a.toNat (31 - i))
  exact ⟨hle, fun i hi => (hbit i (by unfold clz32 at hi; omega)).trans (hlow i hi), fun hlt => (hbit _ hlt).trans (hhigh hlt)⟩

end

/-! ## Next states (R190, R191) -/

section
variable {i : Instr} {k : Issue} {rd ra rb : Fin 32} {s : State} {a b : BitVec 32} (h : s.m.c.issues k)
  (ha : (s.m.c.seq k.yard).rs ra = a.toNat) (hb : (s.m.c.seq k.yard).rs rb = b.toNat)

include h ha in
/-- An instruction that writes rd with a function of one register. -/
theorem alu_next {g : Nat → Nat} {v : BitVec 32} (he : exec i s = s.ctl (seqOp k fun q => q.alu rd (g (q.rs ra))))
    (hv : g a.toNat % 2 ^ 32 = v.toNat) : exec i s = .next (s.withSeq k.yard ((s.m.c.seq k.yard).ws rd v.toNat).adv) := by
  refine (seqOp_next he h rfl).trans ?_
  rw [ha, ws_congr _ _ _ _ (hv.trans (Nat.mod_eq_of_lt v.isLt).symm)]

include h ha hb in
/-- An integer instruction of three registers. -/
theorem intOp_next {g : Nat → Nat → Nat} {v : BitVec 32} (he : exec i s = s.ctl (intOp k rd ra rb g))
    (hv : g a.toNat b.toNat % 2 ^ 32 = v.toNat) : exec i s = .next (s.withSeq k.yard ((s.m.c.seq k.yard).ws rd v.toNat).adv) := by
  rw [he, intOp_ok k rd ra rb g s h, ha, hb, ws_congr _ _ _ _ (hv.trans (Nat.mod_eq_of_lt v.isLt).symm)]

include h ha hb in
/-- One whose result is a word as it stands. -/
theorem intOp_word_next {g : Nat → Nat → Nat} {v : BitVec 32} (he : exec i s = s.ctl (intOp k rd ra rb g))
    (hv : g a.toNat b.toNat = v.toNat) : exec i s = .next (s.withSeq k.yard ((s.m.c.seq k.yard).ws rd v.toNat).adv) :=
  intOp_next h ha hb he (by rw [hv, Nat.mod_eq_of_lt v.isLt])

include h ha hb in
/-- The integer instructions of three registers, each by its result. -/
theorem intTable_next : ∀ e ∈ intTable,
    exec (e.1 k rd ra rb) s = .next (s.withSeq k.yard ((s.m.c.seq k.yard).ws rd (e.2 a b).toNat).adv) := by
  simp only [intTable, List.forall_mem_cons, List.not_mem_nil, IsEmpty.forall_iff, implies_true, and_true]
  exact ⟨intOp_next h ha hb rfl (add_result a b), intOp_next h ha hb rfl (sub_result a b),
    intOp_word_next h ha hb rfl (BitVec.toNat_and a b).symm, intOp_word_next h ha hb rfl (BitVec.toNat_or a b).symm,
    intOp_word_next h ha hb rfl (BitVec.toNat_xor a b).symm,
    intOp_next h ha hb rfl (toNat_shiftLeft_eq a _).symm, intOp_word_next h ha hb rfl (srl_result a _),
    intOp_word_next h ha hb rfl (ux_asr a _), intOp_word_next h ha hb rfl (slt_result a b),
    intOp_word_next h ha hb rfl (sltu_result a b), intOp_next h ha hb rfl (BitVec.toNat_mul a b).symm,
    intOp_word_next h ha hb rfl (mulh_result a b), intOp_next h ha hb rfl (mulhu_result a b),
    intOp_word_next h ha hb rfl (div32_result a b), intOp_word_next h ha hb rfl (divu_result a b),
    intOp_word_next h ha hb rfl (rem32_result a b), intOp_word_next h ha hb rfl (remu_result a b),
    intOp_word_next h ha hb rfl (pick_slt_result a b b a), intOp_word_next h ha hb rfl (pick_slt_result a b a b),
    intOp_word_next h ha hb rfl (min_result a b), intOp_word_next h ha hb rfl (max_result a b)⟩

include h ha in
/-- The shifts by a constant. -/
theorem shiftTable_next : ∀ e ∈ shiftTable, ∀ n : Fin 32,
    exec (e.1 k rd ra n) s = .next (s.withSeq k.yard ((s.m.c.seq k.yard).ws rd (e.2 a n).toNat).adv) := by
  simp only [shiftTable, List.forall_mem_cons, List.not_mem_nil, IsEmpty.forall_iff, implies_true, and_true]
  exact ⟨fun n => alu_next h ha (g := (· * 2 ^ n.val)) rfl (toNat_shiftLeft_eq a n).symm,
    fun n => alu_next h ha (g := (· / 2 ^ n.val)) rfl (by rw [srl_result, Nat.mod_eq_of_lt (BitVec.isLt _)]),
    fun n => alu_next h ha (g := fun x => ux 32 (asr (s32 x) n)) rfl
      ((congrArg (· % 2 ^ 32) (ux_asr a n)).trans (Nat.mod_eq_of_lt (BitVec.isLt _)))⟩

include h ha in
/-- The instructions with an immediate: ADDI and the compares extend its sign, the logical ones extend it with zeros. -/
theorem immTable_next (imm : BitVec 16) : ∀ e ∈ immTable,
    exec (e.1 k rd ra imm) s = .next (s.withSeq k.yard ((s.m.c.seq k.yard).ws rd (e.2 a imm).toNat).adv) := by
  simp only [immTable, List.forall_mem_cons, List.not_mem_nil, IsEmpty.forall_iff, implies_true, and_true]
  have hsext : (imm.signExtend 32).toInt = imm.toInt := BitVec.toInt_signExtend_of_le (by decide)
  have hzext : (imm.zeroExtend 32).toNat = imm.toNat := BitVec.toNat_setWidth_of_le (by decide)
  have hword : ∀ v : BitVec 32, v.toNat % 2 ^ 32 = v.toNat := fun v => Nat.mod_eq_of_lt v.isLt
  refine ⟨?_, ?_, ?_, ?_, ?_, ?_⟩
  · exact alu_next h ha (g := fun x => ux 32 ((x : Int) + imm.toInt)) rfl (by rw [addi_result, hword])
  · exact alu_next h ha (g := (· &&& imm.toNat)) rfl (by rw [← hzext, ← BitVec.toNat_and, hword])
  · exact alu_next h ha (g := (· ||| imm.toNat)) rfl (by rw [← hzext, ← BitVec.toNat_or, hword])
  · exact alu_next h ha (g := (· ^^^ imm.toNat)) rfl (by rw [← hzext, ← BitVec.toNat_xor, hword])
  · exact alu_next h ha (g := fun x => b2n (s32 x < imm.toInt)) rfl (by rw [← hsext, ← s32_toInt, slt_result, hword]; rfl)
  · exact alu_next h ha (g := fun x => b2n (x < ux 32 imm.toInt)) rfl (by rw [ux_eq, sltu_result, hword]; rfl)

end

/-! ## The statement -/

/-- Settles O26: each row of the tables by its result, and each word by its fields; a reserved function is ILLEGAL. -/
theorem sequencerIntegers : Obligations.SequencerIntegers := by
  unfold Obligations.SequencerIntegers
  refine ⟨fun k rd ra rb s a b h ha hb => ⟨intTable_next h ha hb, shiftTable_next h ha,
    ⟨_, trailing_ctz32 a, ?_⟩, ⟨_, leading_clz32 a, ?_⟩, decodeScalar_int k rd ra rb, decodeScalar_shift k rd ra rb,
    (decodeScalar_counts k rd ra).1, (decodeScalar_counts k rd ra).2, fun n hn hlt => ?_⟩,
    fun k rd ra imm s a h ha => ⟨immTable_next h ha imm, seqOp_next rfl h rfl⟩⟩
  · rw [← ha]
    exact seqOp_next rfl h rfl
  · rw [← ha]
    exact seqOp_next rfl h rfl
  · rw [decodeScalar_int_reserved k rd ra rb hn hlt]
    obtain ⟨t, ht, halt, hmem⟩ := illegal_next (i := .add (k.check true) rd ra rb)
      (f := fun q => q.alu rd (q.rs ra + q.rs rb)) rfl h nofun
    exact ⟨t, ht, halt.cause, halt.run, by rw [halt.seq], by rw [halt.seq], hmem⟩

end Sys2Proof.Machine
end

section
/-! PROOFS. Branches, jumps and waits of a sequencer, and the words of its other formats (R189, R190, R193, R195, R200, R209). -/
namespace Sys2Proof.Machine

/-! ## Branches and jumps (R195) -/

/-- The target of a branch or of JAL. -/
theorem target_eq {w : Nat} (pc : BitVec 32) (off : BitVec w) :
    ux 32 ((pc.toNat : Int) + 4 + 4 * off.toInt) = (pc + 4 + 4 * off.signExtend 32).toNat := by
  rw [ux_eq, BitVec.ofInt_add, BitVec.ofInt_add, BitVec.ofInt_mul, BitVec.ofInt_natCast, BitVec.ofNat_toNat, BitVec.setWidth_eq]
  rfl

theorem SeqSt.adv_eq {q : SeqSt} {pc : BitVec 32} (h : q.pc = pc.toNat) : q.adv = { q with pc := (pc + 4).toNat } := by
  unfold SeqSt.adv
  rw [h]
  rfl

theorem SeqSt.ws_next {q : SeqSt} {pc : BitVec 32} (h : q.pc = pc.toNat) (i : Nat) : q.ws i (q.pc + 4) = q.ws i (pc + 4).toNat :=
  ws_congr q i _ _ (by rw [h, BitVec.toNat_add, Nat.mod_mod]; rfl)

section
variable {i : Instr} {k : Issue} {s : State} {q : SeqSt} {pc : BitVec 32} (h : s.m.c.issues k) (hq : s.m.c.seq k.yard = q)
  (hpc : q.pc = pc.toNat)
include h hq hpc

/-- A branch goes to its target where its condition holds of the two words, and on otherwise. -/
theorem branch_next {ra rb : Fin 32} {off : BitVec 16} {a b : BitVec 32} {p : Nat → Nat → Bool} {taken : Bool}
    (ha : q.rs ra = a.toNat)
    (hb : q.rs rb = b.toNat) (he : exec i s = s.ctl (branchOp k ra rb off p)) (hp : p a.toNat b.toNat = taken) :
    exec i s = .next (s.withSeq k.yard
      { q with pc := (if taken then pc + 4 + 4 * off.signExtend 32 else pc + 4).toNat }) := by
  subst hq
  refine seqOp_next he h (congrArg SeqRes.ok ?_)
  rw [ha, hb, hp]
  cases taken with
  | true => simp only [if_true, hpc, target_eq]
  | false => simp only [Bool.false_eq_true, if_false, SeqSt.adv_eq hpc]

theorem branchTable_next : ∀ e ∈ branchTable, ∀ (ra rb : Fin 32) (off : BitVec 16) (a b : BitVec 32), q.rs ra = a.toNat →
    q.rs rb = b.toNat → exec (e.1 k ra rb off) s = .next (s.withSeq k.yard
      { q with pc := (if e.2 a b then pc + 4 + 4 * off.signExtend 32 else pc + 4).toNat }) := by
  simp only [branchTable, List.forall_mem_cons, List.not_mem_nil, IsEmpty.forall_iff, implies_true, and_true]
  have heq : ∀ a b : BitVec 32, (a.toNat == b.toNat) = (a == b) := fun a b => by
    rw [Bool.eq_iff_iff, beq_iff_eq, beq_iff_eq, BitVec.toNat_inj]
  refine ⟨?_, ?_, ?_, ?_, ?_, ?_⟩ <;> intro ra rb off a b ha hb
  · exact branch_next h hq hpc ha hb rfl (heq a b)
  · exact branch_next h hq hpc ha hb rfl (congrArg (!·) (heq a b))
  · exact branch_next h hq hpc ha hb rfl (by rw [s32_toInt, s32_toInt]; rfl)
  · exact branch_next h hq hpc ha hb rfl (by rw [s32_toInt, s32_toInt]; rfl)
  · exact branch_next h hq hpc ha hb rfl rfl
  · exact branch_next h hq hpc ha hb rfl rfl

theorem jal_next (off : BitVec 26) : exec (.jal k off) s = .next (s.withSeq k.yard
    { (q.ws 31 (pc + 4).toNat) with pc := (pc + 4 + 4 * off.signExtend 32).toNat }) := by
  subst hq
  refine seqOp_next rfl h (congrArg SeqRes.ok ?_)
  rw [SeqSt.ws_next hpc, hpc, target_eq]

theorem jalr_next (rd ra : Fin 32) (imm : BitVec 16) (a : BitVec 32) (ha : q.rs ra = a.toNat)
    (hal : (a + imm.signExtend 32).toNat % 4 = 0) : exec (.jalr k rd ra imm) s = .next (s.withSeq k.yard
      { (q.ws rd (pc + 4).toNat) with pc := (a + imm.signExtend 32).toNat }) := by
  subst hq
  refine seqOp_next rfl h ?_
  simp only [ha, addi_result, hal, bne_self_eq_false, Bool.false_eq_true, if_false, SeqSt.ws_next hpc]

end

/-- A target that is not aligned (R209). -/
theorem jalr_misaligned {k : Issue} {s : State} (h : s.m.c.issues k) (rd ra : Fin 32) (imm : BitVec 16) (a : BitVec 32)
    (ha : (s.m.c.seq k.yard).rs ra = a.toNat) (hal : (a + imm.signExtend 32).toNat % 4 ≠ 0) :
    ∃ t, exec (.jalr k rd ra imm) s = .next t ∧ s.m.c.Halted t.m.c k.yard 2 0 ∧ t.m.m = s.m.m := by
  refine seqOp_exc_next (addr := (a + imm.signExtend 32).toNat) rfl h ?_
  simp only [ha, addi_result, bne_iff_ne, ne_eq, hal, not_false_eq_true, if_true]

/-! ## Waits and TRAP (R200, R209) -/

theorem waitWAbs_next {k : Issue} {s : State} (h : s.m.c.issues k) (rd ra : Fin 32) : exec (.waitWAbs k rd ra) s =
    .next (s.withSeq k.yard (if s.m.c.winStarted ((s.m.c.seq k.yard).rs ra) then (s.m.c.seq k.yard).resume s.m.c.cwin rd
      else { s.m.c.seq k.yard with wait := .abs ((s.m.c.seq k.yard).rs ra) rd })) :=
  next_of_ctl (f := seqWaitAbs k rd ra) rfl (seqOp_ok k _ { s.m.c with out := [] } _ h rfl)

theorem trap_next {k : Issue} {s : State} (h : s.m.c.issues k) (n : Fin 64) :
    ∃ t, exec (.trap k n) s = .next t ∧ s.m.c.Halted t.m.c k.yard 9 n ∧ t.m.m = s.m.m := by
  refine exc_next (f := seqTrap k n) (addr := 0) rfl ?_
  have hready : Ctl.seqReady { s.m.c with out := [] } k.yard = true := Ctl.issues_ready (k := k) h
  have hpre : preCauses k (Ctl.seq { s.m.c with out := [] } k.yard) = [] := Ctl.issues_preCauses h
  rw [seqTrap, if_pos hready, Ctl.seqEnd, hpre]
  rfl

/-! ## Words of the other formats (R189, R190) -/

section
variable (k : Issue) (rd ra : Fin 32) (imm : BitVec 16)

/-- What a word of an opcode with two registers and a low half spells. -/
theorem decodeScalar_word {w op low : Nat} {i : Instr} (hw : w = op * 2 ^ 26 + rd * 2 ^ 21 + ra * 2 ^ 16 + low) (hop : op < 64)
    (hlow : low < 2 ^ 16) (h : fieldOf w 31 26 = op → finOf w 25 21 32 = rd → finOf w 20 16 32 = ra → w % 2 ^ 16 = low →
      decodeScalar k w = i) : decodeScalar k w = i := by
  obtain ⟨h1, h2, h3, h4⟩ := scalarWord_fields hw hop hlow
  exact h h1 h2 h3 h4

/-- One whose low half is an immediate. -/
theorem decodeScalar_imm {w op : Nat} {i : Instr} (hw : w = op * 2 ^ 26 + rd * 2 ^ 21 + ra * 2 ^ 16 + imm.toNat) (hop : op < 64)
    (h : fieldOf w 31 26 = op → finOf w 25 21 32 = rd → finOf w 20 16 32 = ra → BitVec.ofNat 16 w = imm → decodeScalar k w = i) :
    decodeScalar k w = i :=
  decodeScalar_word k rd ra hw hop imm.isLt fun h1 h2 h3 h4 => h h1 h2 h3 (BitVec.eq_of_toNat_eq (by rw [BitVec.toNat_ofNat, h4]))

theorem decodeScalar_immTable : ∀ e ∈ immTable.zipIdx,
    decodeScalar k ((1 + e.2) * 2 ^ 26 + rd * 2 ^ 21 + ra * 2 ^ 16 + imm.toNat) = e.1.1 k rd ra imm := by
  simp only [immTable, List.zipIdx_cons, List.zipIdx_nil, List.forall_mem_cons, List.not_mem_nil, IsEmpty.forall_iff, implies_true,
    and_true]
  refine ⟨?_, ?_, ?_, ?_, ?_, ?_⟩ <;>
    exact decodeScalar_imm k rd ra imm rfl (by decide) fun h1 h2 h3 h4 => by
      simp only [decodeScalar, h1, h2, h3, h4, zero_add, Nat.reduceAdd]

theorem decodeScalar_branchTable : ∀ e ∈ branchTable.zipIdx,
    decodeScalar k ((0x12 + e.2) * 2 ^ 26 + rd * 2 ^ 21 + ra * 2 ^ 16 + imm.toNat) = e.1.1 k rd ra imm := by
  simp only [branchTable, List.zipIdx_cons, List.zipIdx_nil, List.forall_mem_cons, List.not_mem_nil, IsEmpty.forall_iff, implies_true,
    and_true]
  refine ⟨?_, ?_, ?_, ?_, ?_, ?_⟩ <;>
    exact decodeScalar_imm k rd ra imm rfl (by decide) fun h1 h2 h3 h4 => by
      simp only [decodeScalar, h1, h2, h3, h4, zero_add, Nat.reduceAdd]

theorem decodeScalar_lui : decodeScalar k (0x07 * 2 ^ 26 + rd * 2 ^ 21 + imm.toNat) = .lui k rd imm := by
  refine decodeScalar_imm k rd 0 imm (op := 0x07) (by simp) (by decide) fun hop hrd hra himm => ?_
  have hzero : fieldOf (0x07 * 2 ^ 26 + rd * 2 ^ 21 + imm.toNat) 20 16 = 0 := fieldOf_of_finOf hra rfl
  simp only [decodeScalar, hop, hrd, himm, hzero, bne_self_eq_false, Issue.check_false]

theorem decodeScalar_jal (n : BitVec 26) : decodeScalar k (0x18 * 2 ^ 26 + n.toNat) = .jal k n := by
  have hn := n.isLt
  have hop : fieldOf (0x18 * 2 ^ 26 + n.toNat) 31 26 = 0x18 := by
    simp only [fieldOf, Nat.reduceSub, Nat.reduceAdd, Nat.reducePow]
    omega
  have hoff : BitVec.ofNat 26 (0x18 * 2 ^ 26 + n.toNat) = n := BitVec.eq_of_toNat_eq (by rw [BitVec.toNat_ofNat]; omega)
  simp only [decodeScalar, hop, hoff]

theorem decodeScalar_post : decodeScalar k (0x1D * 2 ^ 26 + rd * 2 ^ 21 + ra * 2 ^ 16) = .post k rd ra := by
  refine decodeScalar_word k rd ra (op := 0x1D) (low := 0) (Nat.add_zero _).symm (by decide) (by decide) fun hop hrd hra hlow => ?_
  have hzero : fieldOf (0x1D * 2 ^ 26 + rd * 2 ^ 21 + ra * 2 ^ 16) 15 0 = 0 := fieldOf_of_low hlow (by decide) (by decide)
  simp only [decodeScalar, hop, hrd, hra, hzero, bne_self_eq_false, Issue.check_false]

end

section
variable (k : Issue) (rd ra : Fin 32) (n : Fin 64)

/-- The low half of a word of format S: its index and its function (R190). -/
theorem sysWord_fields {w func : Nat} (hlow : w % 2 ^ 16 = n * 2 ^ 10 + func) (hf : func < 64) :
    finOf w 15 10 64 = n ∧ fieldOf w 9 6 = 0 ∧ fieldOf w 5 0 = func := by
  have hn := n.isLt
  refine ⟨finOf_eq ?_, ?_, ?_⟩ <;> rw [fieldOf_of_low hlow (by decide) (by decide)] <;>
    simp only [fieldOf, Nat.reduceSub, Nat.reduceAdd, Nat.reducePow] <;> omega

theorem decodeScalar_mfk : decodeScalar k (0x1C * 2 ^ 26 + rd * 2 ^ 21 + n * 2 ^ 10 + 1) = .mfk k rd n := by
  have hn := n.isLt
  refine decodeScalar_word k rd 0 (op := 0x1C) (low := n * 2 ^ 10 + 1) (by simp only [Fin.val_zero]; omega) (by decide)
    (by omega) fun hop hrd _ hlow => ?_
  obtain ⟨hidx, hzero, hfunc⟩ := sysWord_fields n hlow (by decide)
  simp only [decodeScalar, hop, sysWord, hfunc, hidx, hrd, hzero, bne_self_eq_false, Issue.check_false]

theorem decodeScalar_trap : decodeScalar k (0x1C * 2 ^ 26 + n * 2 ^ 10 + 7) = .trap k n := by
  have hn := n.isLt
  refine decodeScalar_word k 0 0 (op := 0x1C) (low := n * 2 ^ 10 + 7) (by simp only [Fin.val_zero]; omega) (by decide)
    (by omega) fun hop hrd hra hlow => ?_
  obtain ⟨hidx, hzero, hfunc⟩ := sysWord_fields n hlow (by decide)
  have hregs : fieldOf (0x1C * 2 ^ 26 + n * 2 ^ 10 + 7) 25 16 = 0 := by
    simp only [fieldOf, Nat.reduceSub, Nat.reduceAdd, Nat.reducePow]
    omega
  simp only [decodeScalar, hop, sysWord, hfunc, hidx, hzero, hregs, bne_self_eq_false, Issue.check_false]

/-- The low half of a latch's word: its operation and its index (R205). -/
theorem latchWord_fields {w : Nat} {op : Nat} (hlow : w % 2 ^ 16 = 0x8000 * op + n) (_hop : op < 2) :
    fieldOf w 15 15 = op ∧ fieldOf w 14 6 = 0 ∧ finOf w 5 0 64 = n := by
  have hn := n.isLt
  refine ⟨?_, ?_, finOf_eq ?_⟩ <;> rw [fieldOf_of_low hlow (by decide) (by decide)] <;>
    simp only [fieldOf, Nat.reduceSub, Nat.reduceAdd, Nat.reducePow] <;> omega

theorem decodeScalar_ltry : decodeScalar k (0x1E * 2 ^ 26 + rd * 2 ^ 21 + ra * 2 ^ 16 + n) = .ltry k rd ra n := by
  have hn := n.isLt
  refine decodeScalar_word k rd ra (op := 0x1E) (low := 0x8000 * 0 + n) (by omega) (by decide) (by omega) fun hop hrd hra hlow => ?_
  obtain ⟨hbit, hzero, hidx⟩ := latchWord_fields n hlow (by decide)
  simp only [decodeScalar, hop, latchWord, hbit, hidx, hrd, hra, hzero, bne_self_eq_false, Issue.check_false, if_true]

theorem decodeScalar_lrel : decodeScalar k (0x1E * 2 ^ 26 + ra * 2 ^ 16 + 0x8000 + n) = .lrel k ra n := by
  have hn := n.isLt
  refine decodeScalar_word k 0 ra (op := 0x1E) (low := 0x8000 * 1 + n) (by simp only [Fin.val_zero]; omega) (by decide)
    (by omega) fun hop hrd hra hlow => ?_
  obtain ⟨hbit, hzero, hidx⟩ := latchWord_fields n hlow (by decide)
  have hnone : fieldOf (0x1E * 2 ^ 26 + ra * 2 ^ 16 + 0x8000 + n) 25 21 = 0 := fieldOf_of_finOf hrd rfl
  simp only [decodeScalar, hop, latchWord, hbit, hidx, hra, hzero, hnone, bne_self_eq_false, Issue.check_false, one_ne_zero, if_false]

end

/-! ## Reserved words (R189) -/

/-- An issue that is ILLEGAL twice over. -/
theorem Issue.check_check (k : Issue) (b : Bool) : (k.check b).check true = k.check true := by
  simp [Issue.check]

/-- A letterbox word with its reserved function. -/
theorem lbt_illegal_next {k : Issue} {s : State} (h : s.m.c.issues k) (rd : Fin 32) (n : Fin 16) :
    ∃ t, exec (.lbt (k.check true) rd n) s = .next t ∧ s.m.c.Halted t.m.c k.yard 1 0 ∧ t.m.m = s.m.m := by
  have hready : Ctl.seqReady { s.m.c with out := [] } (k.check true).yard = true := Ctl.issues_ready (k := k) h
  have hpre : preCauses (k.check true) (Ctl.seq { s.m.c with out := [] } (k.check true).yard) = [1] :=
    Ctl.issues_preCauses_illegal h
  have hr : ∀ m a, (if k.ecc then SeqRes.exc 5 0 else .ok (s.m.c.seq k.yard)) = .exc m a → 1 ≤ m := by
    intro m a hm
    split at hm <;> cases hm
    decide
  obtain ⟨addr, hw⟩ := worst_illegal hr
  have hstart : Ctl.mbxStart { s.m.c with out := [] } (k.check true) none = .exc 1 addr := by
    rw [Ctl.mbxStart, hpre]
    exact hw
  refine exc_next (f := seqLbt (k.check true) rd n) (addr := addr) rfl ?_
  unfold seqLbt
  rw [if_neg (by rw [hready]; decide), hstart]
  rfl

/-- A geometry word with a reserved function: that a base is out of range has the same code. -/
theorem vadd3_illegal_next {k : Issue} {s : State} (h : s.m.c.issues k) (rd ra rb : Fin 32) :
    ∃ t, exec (.vadd3 (k.check true) rd ra rb) s = .next t ∧ s.m.c.Halted t.m.c k.yard 1 0 ∧ t.m.m = s.m.m := by
  refine illegal_next
    (f := fun q => if rd ≤ 29 && ra ≤ 29 && rb ≤ 29 then q.vres rd (fZip fAdd (q.vec ra) (q.vec rb)) else .exc 1 0)
    rfl h fun m a hm => ?_
  split at hm <;> cases hm
  decide

/-- A word with a reserved opcode or function, or LUI with a register in its field marked 0, is ILLEGAL. -/
theorem reservedWord_next {k : Issue} {s : State} (h : s.m.c.issues k) {w : Nat} (hw : w < 2 ^ 32)
    (hres : 0x20 ≤ w / 2 ^ 26 ∨ (w / 2 ^ 26 = 0x1A ∧ 17 ≤ w % 2 ^ 11) ∨ (w / 2 ^ 26 = 0x1B ∧ 8 ≤ w % 2 ^ 11) ∨
      (w / 2 ^ 26 = 0x1C ∧ (w % 64 = 0 ∨ 9 ≤ w % 64)) ∨ (w / 2 ^ 26 = 0x1F ∧ w % 4 = 3) ∨
      (w / 2 ^ 26 = 0x07 ∧ w / 2 ^ 16 % 32 ≠ 0)) :
    ∃ t, exec (decodeScalar k w) s = .next t ∧ s.m.c.Halted t.m.c k.yard 1 0 ∧ t.m.m = s.m.m := by
  have hop : fieldOf w 31 26 = w / 2 ^ 26 := Nat.mod_eq_of_lt (by omega)
  have hfn : fieldOf w 10 0 = w % 2 ^ 11 := by rw [fieldOf, pow_zero, Nat.div_one]
  have hsys : fieldOf w 5 0 = w % 64 := by simp [fieldOf]
  have hbox : fieldOf w 1 0 = w % 4 := by simp [fieldOf]
  rcases hres with hop' | ⟨hop', hf⟩ | ⟨hop', hf⟩ | ⟨hop', hf⟩ | ⟨hop', hf⟩ | ⟨hop', hf⟩
  · obtain ⟨n, hn⟩ := Nat.exists_eq_add_of_le' hop'
    simp only [decodeScalar, hop, hn]
    exact illegal_next (f := fun q => q.alu _ (q.rs _ + q.rs _)) rfl h nofun
  · obtain ⟨n, hn⟩ := Nat.exists_eq_add_of_le' hf
    simp only [decodeScalar, hop, hop', fpuWord, hfn, hn]
    exact illegal_next (f := fun q => q.fres _ (fAdd (q.rf _) (q.rf _))) rfl h nofun
  · obtain ⟨n, hn⟩ := Nat.exists_eq_add_of_le' hf
    simp only [decodeScalar, hop, hop', geoWord, hfn, hn]
    exact vadd3_illegal_next h _ _ _
  · have hfence : decodeScalar k w = .fence (k.check true) := by
      rcases hf with hf | hf
      · simp only [decodeScalar, hop, hop', sysWord, hsys, hf, Issue.check_check]
      · obtain ⟨n, hn⟩ := Nat.exists_eq_add_of_le' hf
        simp only [decodeScalar, hop, hop', sysWord, hsys, hn, Issue.check_check]
    rw [hfence]
    exact illegal_next (f := fun q => .ok q.adv) rfl h nofun
  · simp only [decodeScalar, hop, hop', mbxWord, hbox, hf, Issue.check_check]
    exact lbt_illegal_next h _ _
  · have hreg : (fieldOf w 20 16 != 0) = true := bne_iff_ne.2 hf
    simp only [decodeScalar, hop, hop', hreg]
    exact illegal_next (f := fun q => q.alu _ (_ * 65536)) rfl h nofun

/-! ## The statement -/

/-- Settles O27: branches and jumps by their targets, waits and TRAP by what they leave, and each word by its fields. -/
theorem sequencerControl : Obligations.SequencerControl := by
  unfold Obligations.SequencerControl
  refine ⟨fun k s q pc h hq hpc => ⟨branchTable_next h hq hpc, jal_next h hq hpc, jalr_next h hq hpc,
    fun rd ra imm a ha hal => ?_⟩, fun k s q h hq => ⟨fun rd ra => ⟨fun hw => ?_, fun hw => ?_⟩,
      fun rd => ⟨?_, ?_⟩, ?_, fun n => ?_⟩,
    fun k s rd ra rb imm => ⟨rfl, rfl, decodeScalar_immTable k rd ra imm, decodeScalar_lui k rd imm,
      decodeScalar_branchTable k rd ra imm, decodeScalar_jal k, decodeScalar_post k rd ra, fun n => ⟨decodeScalar_mfk k rd n,
      decodeScalar_trap k n, decodeScalar_ltry k rd ra n, decodeScalar_lrel k ra n⟩, fun w h hw hres => ?_⟩⟩
  · subst hq
    obtain ⟨t, ht, halt, -⟩ := jalr_misaligned h rd ra imm a ha hal
    exact ⟨t, ht, halt.cause, halt.run, by rw [halt.seq], by rw [halt.seq]⟩
  · subst hq
    rw [waitWAbs_next h, hw]
    rfl
  · subst hq
    rw [waitWAbs_next h, hw]
    rfl
  · exact seqOp_next rfl h (by rw [hq])
  · exact seqOp_next rfl h (by rw [hq])
  · exact seqOp_next rfl h (by rw [hq])
  · subst hq
    obtain ⟨t, ht, halt, hmem⟩ := trap_next h n
    have hpc : (s.m.c.seq k.yard).pc < 2 ^ 32 := by
      obtain ⟨-, -, hpc, -⟩ := h
      omega
    exact ⟨t, ht, halt.cause, halt.trap.trans (Nat.mod_eq_of_lt n.isLt), halt.epc.trans (Nat.mod_eq_of_lt hpc), halt.run, halt.exc,
      by rw [halt.seq], by rw [halt.seq], hmem⟩
  · obtain ⟨t, ht, halt, hmem⟩ := reservedWord_next h hw hres
    exact ⟨t, ht, halt.cause, halt.run, by rw [halt.seq], hmem⟩

end Sys2Proof.Machine
end

section
/-! PROOFS. Loads and stores of a sequencer, and where its own memories lie (R190, R192). -/
namespace Sys2Proof.Machine

/-! ## The memory map (R192) -/

theorem seqPlace_imem {o : Nat} (h : o < 0x20000) : seqPlace o = .imem o := if_pos h

theorem seqPlace_dmem {o : Nat} (h : o < 0x20000) : seqPlace (0x40000 + o) = .dmem o := by
  have h1 : ¬ 0x40000 + o < 0x20000 := by omega
  have h2 : 0x40000 + o < 0x60000 := by omega
  simp [seqPlace, h1, h2]

theorem seqPlace_store {i o : Nat} (hi : i < 4) (h : o < 0x40000) : seqPlace (0x100000 + i * 0x40000 + o) = .store i o := by
  have h1 : ¬ 0x100000 + i * 0x40000 + o < 0x20000 := by omega
  have h2 : ¬ 0x100000 + i * 0x40000 + o < 0x60000 := by omega
  have h3 : 0x100000 ≤ 0x100000 + i * 0x40000 + o := by omega
  have h4 : 0x100000 + i * 0x40000 + o < 0x200000 := by omega
  have h5 : (0x100000 + i * 0x40000 + o - 0x100000) / 0x40000 = i := by omega
  have h6 : (0x100000 + i * 0x40000 + o) % 0x40000 = o := by omega
  simp only [seqPlace, h1, h2, h3, h4, h5, h6, decide_true, decide_false, Bool.and_true, Bool.and_false, Bool.false_eq_true,
    if_true, if_false]

theorem seqPlace_loft {o : Nat} (h : o < 0x400000) : seqPlace (0x400000 + o) = .loft o := by
  have h1 : ¬ 0x400000 + o < 0x20000 := by omega
  have h2 : ¬ 0x400000 + o < 0x60000 := by omega
  have h3 : ¬ 0x400000 + o < 0x200000 := by omega
  have h4 : ¬ 0x400000 + o < 0x240000 := by omega
  have h5 : 0x400000 + o < 0x800000 := by omega
  simp [seqPlace, h1, h2, h3, h4, h5]

theorem Mach.seqRead_store (x : Mach) (y n : Nat) {a i o : Nat} (h : seqPlace a = .store i o) :
    x.seqRead y a n = (x, x.m.store.rdN ((4 * y + i) * 0x40000 + o) n, none) := by
  simp only [Mach.seqRead, h]

theorem Mach.seqRead_own (x : Mach) (y : Fin 4) (o n : Nat) :
    (o < 0x20000 → x.seqRead y o n = (x, x.m.imem.rdN (x.c.seqHalf y + o) n, none)) ∧
    (o < 0x20000 → x.seqRead y (0x40000 + o) n = (x, x.m.dmem.rdN (x.c.seqHalf y + o) n, none)) ∧
    (∀ i < 4, o < 0x40000 → x.seqRead y (0x100000 + i * 0x40000 + o) n =
      (x, x.m.store.rdN ((4 * y + i) * 0x40000 + o) n, none)) ∧
    (o < 0x400000 → x.seqRead y (0x400000 + o) n = (x, x.m.loft.rdN (y * 0x400000 + o) n, none)) := by
  refine ⟨fun h => ?_, fun h => ?_, fun i hi h => ?_, fun h => ?_⟩
  · simp only [Mach.seqRead, seqPlace_imem h]
  · simp only [Mach.seqRead, seqPlace_dmem h]
  · exact x.seqRead_store y n (seqPlace_store hi h)
  · simp only [Mach.seqRead, seqPlace_loft h]

/-- A store into DMEM. -/
theorem Mach.seqWrite_dmem (x : Mach) (y n v : Nat) {o : Nat} (h : o < 0x20000) : x.seqWrite y (0x40000 + o) n v =
    ({ x with m := { x.m with dmem := x.m.dmem.wrN (x.c.seqHalf y + o) n v } }, none) := by
  unfold Mach.seqWrite
  rw [seqPlace_dmem h]
  rfl

/-! ## Bytes of a value that is written -/

theorem getElem_leBytes {n i : Nat} (v : Nat) (h : i < (leBytes n v).length) : (leBytes n v)[i] = BitVec.ofNat 8 (v / 256 ^ i) := by
  induction n generalizing v i with
  | zero => exact absurd h (Nat.not_lt_zero i)
  | succ n ih =>
    cases i with
    | zero => simp [leBytes]
    | succ i =>
      simp only [leBytes, List.getElem_cons_succ, ih]
      rw [Nat.div_div_eq_div_mul, ← Nat.pow_succ']

/-- The low bytes of a value are those of the value. -/
theorem getElem_leBytes_mod {n i : Nat} (v : Nat) (h : i < n) :
    BitVec.ofNat 8 (v % 2 ^ (8 * n) / 256 ^ i) = BitVec.ofNat 8 (v / 256 ^ i) := by
  apply BitVec.eq_of_toNat_eq
  have hpow : 2 ^ (8 * n) = 256 ^ i * 256 ^ (n - i) := by
    rw [pow_mul, ← pow_add]
    congr 1
    omega
  rw [BitVec.toNat_ofNat, BitVec.toNat_ofNat, hpow, Nat.mod_mul_right_div_self, Nat.mod_mod_of_dvd _ (dvd_pow_self 256 (by omega))]

/-- What a write of the low bytes of a value leaves in a memory. -/
theorem Mem.rd_wrN_low (m : Mem) (a n v : Nat) :
    (∀ i < n, (m.wrN a n (v % 2 ^ (8 * n))).rd (a + i) = BitVec.ofNat 8 (v / 256 ^ i)) ∧
    (∀ b, (b < a ∨ a + n ≤ b) → (m.wrN a n (v % 2 ^ (8 * n))).rd b = m.rd b) := by
  refine ⟨fun i hi => ?_, fun b hb => Mem.rd_wrs_of_outside _ _ (by rwa [leBytes_length])⟩
  have hlen : i < (leBytes n (v % 2 ^ (8 * n))).length := by rwa [leBytes_length]
  rw [Mem.wrN, Mem.rd_wrs_inside _ _ _ _ hlen, getElem_leBytes, getElem_leBytes_mod v hi]

/-! ## Loads and stores with no cause (R190) -/

section
variable {i : Instr} {k : Issue} {ra : Fin 32} {imm : BitVec 16} {n : Nat} {s : State} {x : Mach}
  (hready : s.m.c.seqReady k.yard = true)
include hready

theorem load_next {put : SeqSt → Nat → SeqSt} {v : Nat} (he : exec i s = s.mach (seqLoad k ra imm n put))
    (hc : s.m.c.seqCauses k ((s.m.c.seq k.yard).addr ra imm) n false = [])
    (hr : s.m.fresh.seqRead k.yard ((s.m.c.seq k.yard).addr ra imm) n = (x, v, none)) :
    exec i s = .next { s with m := { x with c := x.c.setSeq k.yard (put (x.c.seq k.yard) v).adv } } := by
  refine next_of_mach he ?_
  have hready' : s.m.fresh.c.seqReady k.yard = true := hready
  have hc' : s.m.fresh.c.seqCauses k ((s.m.fresh.c.seq k.yard).addr ra imm) n false = [] := hc
  have hr' : s.m.fresh.seqRead k.yard ((s.m.fresh.c.seq k.yard).addr ra imm) n = (x, v, none) := hr
  unfold seqLoad
  rw [hready']
  simp only [hc', hr', Bool.not_true, List.isEmpty_nil, Bool.false_eq_true, if_false]

theorem store_next {val : SeqSt → Nat} (he : exec i s = s.mach (seqStore k ra imm n val))
    (hc : s.m.c.seqCauses k ((s.m.c.seq k.yard).addr ra imm) n true = [])
    (hw : s.m.fresh.seqWrite k.yard ((s.m.c.seq k.yard).addr ra imm) n (val (s.m.c.seq k.yard) % 2 ^ (8 * n)) = (x, none)) :
    exec i s = .next { s with m := { x with c := x.c.setSeq k.yard (x.c.seq k.yard).adv } } := by
  refine next_of_mach he ?_
  have hready' : s.m.fresh.c.seqReady k.yard = true := hready
  have hc' : s.m.fresh.c.seqCauses k ((s.m.fresh.c.seq k.yard).addr ra imm) n true = [] := hc
  have hw' : s.m.fresh.seqWrite k.yard ((s.m.fresh.c.seq k.yard).addr ra imm) n (val (s.m.fresh.c.seq k.yard) % 2 ^ (8 * n)) =
      (x, none) := hw
  unfold seqStore
  rw [hready']
  simp only [hc', hw', Bool.not_true, List.isEmpty_nil, Bool.false_eq_true, if_false]

/-- A row of the stores: what its target takes, and in DMEM the low bytes of the value alone. -/
theorem store_row {val : SeqSt → Nat} (he : exec i s = s.mach (seqStore k ra imm n val)) {a : Nat}
    (ha : a = (s.m.c.seq k.yard).addr ra imm) (hc : s.m.c.seqCauses k a n true = []) :
    (∀ x, s.m.fresh.seqWrite k.yard a n (val (s.m.c.seq k.yard) % 2 ^ (8 * n)) = (x, none) →
      exec i s = .next { s with m := { x with c := x.c.setSeq k.yard (x.c.seq k.yard).adv } }) ∧
    (∀ o < 0x20000, a = 0x40000 + o → ∃ t, exec i s = .next t ∧ t.m.c = (s.withSeq k.yard (s.m.c.seq k.yard).adv).m.c ∧
      (∀ j, (h : j < n) → t.m.m.dmem.rd (s.m.c.seqHalf k.yard + o + j) = BitVec.ofNat 8 (val (s.m.c.seq k.yard) / 256 ^ j)) ∧
      (∀ b, (b < s.m.c.seqHalf k.yard + o ∨ s.m.c.seqHalf k.yard + o + n ≤ b) → t.m.m.dmem.rd b = s.m.m.dmem.rd b) ∧
      t.m.m.dram = s.m.m.dram ∧ t.m.m.loft = s.m.m.loft ∧ t.m.m.store = s.m.m.store ∧ t.m.m.imem = s.m.m.imem ∧
      t.m.m.nor = s.m.m.nor) := by
  subst ha
  refine ⟨fun x hw => store_next hready he hc hw, fun o ho ha => ?_⟩
  have hw := s.m.fresh.seqWrite_dmem k.yard n (val (s.m.c.seq k.yard) % 2 ^ (8 * n)) ho
  rw [← ha] at hw
  obtain ⟨hin, hout⟩ := s.m.m.dmem.rd_wrN_low (s.m.c.seqHalf k.yard + o) n (val (s.m.c.seq k.yard))
  exact ⟨_, store_next hready he hc hw, rfl, hin, hout, rfl, rfl, rfl, rfl, rfl⟩

end

/-- A byte or a halfword that a load extends with its sign. -/
theorem ux_sx (w v : Nat) : ux 32 (sx w v) = ((BitVec.ofNat w v).signExtend 32).toNat := by
  have hsx : sx w v = (BitVec.ofNat w v).toInt := by
    rw [← sx_toInt, BitVec.toNat_ofNat]
    unfold sx
    rw [Nat.mod_mod]
  rw [ux_eq, hsx]
  rfl

/-! ## The statement -/

/-- Settles O28: each row of the tables by the one rule of loads or of stores, and the map by its ranges. -/
theorem sequencerMemory : Obligations.SequencerMemory := by
  unfold Obligations.SequencerMemory
  refine ⟨?_, fun x y o n => x.seqRead_own y o n, ?_⟩
  · simp only [loadTable, List.forall_mem_cons, List.not_mem_nil, IsEmpty.forall_iff, implies_true, and_true]
    refine ⟨?_, ?_, ?_, ?_, ?_, ?_⟩ <;> rintro k rd ra imm s a v x hready rfl hc hr
    · exact load_next (put := fun q v => q.ws rd v) hready rfl hc hr
    · rw [← ux_sx]
      exact load_next (put := fun q v => q.ws rd (ux 32 (sx 16 v))) hready rfl hc hr
    · exact load_next (put := fun q v => q.ws rd v) hready rfl hc hr
    · rw [← ux_sx]
      exact load_next (put := fun q v => q.ws rd (ux 32 (sx 8 v))) hready rfl hc hr
    · exact load_next (put := fun q v => q.ws rd v) hready rfl hc hr
    · exact load_next (put := fun q v => q.wf rd v) hready rfl hc hr
  · simp only [storeTable, List.forall_mem_cons, List.not_mem_nil, IsEmpty.forall_iff, implies_true, and_true]
    refine ⟨?_, ?_, ?_, ?_⟩ <;> intro k rd ra imm s a hready ha hc
    · exact store_row (val := fun q => q.rs rd) hready rfl ha hc
    · exact store_row (val := fun q => q.rs rd) hready rfl ha hc
    · exact store_row (val := fun q => q.rs rd) hready rfl ha hc
    · exact store_row (val := fun q => q.rf rd) hready rfl ha hc

end Sys2Proof.Machine
end

section
/-! PROOFS. Floating point, geometry and special registers of a sequencer (R188, R196 to R198). -/
namespace Sys2Proof.Machine

/-! ## Sign bits (R197) -/

/-- FNEG turns the top bit. -/
theorem putBit_top (a : BitVec 32) : putBit a.toNat 31 (!bit a.toNat 31) = (a ^^^ BitVec.twoPow 32 31).toNat := by
  have ha := a.isLt
  have hhigh : (a.toNat ^^^ 2 ^ 31) / 2 ^ 31 = a.toNat / 2 ^ 31 ^^^ 1 := by rw [Nat.xor_div_two_pow, Nat.div_self (by decide)]
  have hlow : (a.toNat ^^^ 2 ^ 31) % 2 ^ 31 = a.toNat % 2 ^ 31 := by rw [Nat.xor_mod_two_pow, Nat.mod_self, Nat.xor_zero]
  rw [BitVec.toNat_xor, BitVec.toNat_twoPow, Nat.mod_eq_of_lt (by decide : 2 ^ 31 < 2 ^ 32)]
  rcases (by omega : a.toNat / 2 ^ 31 = 0 ∨ a.toNat / 2 ^ 31 = 1) with h | h <;> rw [h] at hhigh <;>
    simp only [putBit, setBit, clrBit, bit, h, Nat.zero_mod, Nat.one_mod, Nat.reduceBEq, Bool.not_true, Bool.not_false,
      if_true, if_false, Bool.false_eq_true, Nat.zero_xor, Nat.xor_self] at hhigh ⊢ <;> omega

/-- FABS clears it. -/
theorem clrBit_top (a : BitVec 32) : clrBit a.toNat 31 = a.toNat % 2 ^ 31 := by
  have ha := a.isLt
  unfold clrBit bit
  split <;> simp_all <;> omega

theorem fltOp_next {i : Instr} {k : Issue} {rd ra rb : Fin 32} {g : Nat → Nat → Nat × Nat} {s : State}
    (he : exec i s = s.ctl (fltOp k rd ra rb g)) (h : s.m.c.issues k) :
    exec i s = .next (s.withSeq k.yard ((((s.m.c.seq k.yard).wf rd (g ((s.m.c.seq k.yard).rf ra) ((s.m.c.seq k.yard).rf rb)).1).flag
      (g ((s.m.c.seq k.yard).rf ra) ((s.m.c.seq k.yard).rf rb)).2).adv)) := seqOp_next he h rfl

/-! ## Vectors (R198) -/

/-- Results put at f[rd + n] on, their flags accumulated. -/
def SeqSt.vput (q : SeqSt) (rd n : Nat) (l : List (Nat × Nat)) : SeqSt :=
  (l.zipIdx n).foldl (fun q e => (q.wf (rd + e.2) e.1.1).flag e.1.2) q

theorem SeqSt.vres_eq (q : SeqSt) (rd : Nat) (l : List (Nat × Nat)) : q.vres rd l = .ok (q.vput rd 0 l).adv := rfl

theorem SeqSt.rf_wf_self (q : SeqSt) (i v : Nat) : (q.wf i v).rf i = v % 2 ^ 32 := cget_cset_self _ _ _

theorem SeqSt.rf_wf_ne (q : SeqSt) {i j : Nat} (v : Nat) (h : j ≠ i) : (q.wf i v).rf j = q.rf j := cget_cset_ne _ _ h

theorem SeqSt.vput_spec (q : SeqSt) (rd n : Nat) (l : List (Nat × Nat)) :
    (∀ i, (h : i < l.length) → (q.vput rd n l).rf (rd + n + i) = l[i].1 % 2 ^ 32) ∧
    (∀ j, (j < rd + n ∨ rd + n + l.length ≤ j) → (q.vput rd n l).rf j = q.rf j) ∧
    (q.vput rd n l).fflags = l.foldl (fun n r => n ||| r.2) q.fflags ∧ (q.vput rd n l).s = q.s ∧ (q.vput rd n l).pc = q.pc := by
  induction l generalizing q n with
  | nil => exact ⟨nofun, fun _ _ => rfl, rfl, rfl, rfl⟩
  | cons r l ih =>
    obtain ⟨hin, hout, hflags, hs, hpc⟩ := ih ((q.wf (rd + n) r.1).flag r.2) (n + 1)
    have hstep : q.vput rd n (r :: l) = ((q.wf (rd + n) r.1).flag r.2).vput rd (n + 1) l := rfl
    rw [hstep]
    refine ⟨fun i hi => ?_, fun j hj => ?_, hflags, hs, hpc⟩
    · cases i with
      | zero => exact (hout _ (by omega)).trans (q.rf_wf_self _ _)
      | succ i =>
        rw [show rd + n + (i + 1) = rd + (n + 1) + i by omega]
        exact hin i (Nat.lt_of_succ_lt_succ hi)
    · rw [List.length_cons] at hj
      exact (hout j (by omega)).trans (q.rf_wf_ne _ (by omega))

theorem decide_and_and (p q r : Prop) [Decidable p] [Decidable q] [Decidable r] :
    (decide p && decide q && decide r) = decide (p ∧ q ∧ r) := by
  simp only [Bool.decide_and, Bool.and_assoc]

/-- The distance of two points with its flags. -/
def fDist (a b : List Nat) : Nat × Nat :=
  let d := List.zipWith fSub a b
  ((fSqrt (fDot d d).1).1, (fDot d d).2 ||| (fSqrt (fDot d d).1).2)

section
variable {i : Instr} {k : Issue} {rd : Fin 32} {s : State} {q : SeqSt} (h : s.m.c.issues k) (hq : s.m.c.seq k.yard = q)
include h hq

/-- A vector instruction writes its results, or is ILLEGAL where a base is out of range (R198, R209). -/
theorem geo_row {ok : Bool} {g : SeqSt → List (Nat × Nat)} {p : Prop} [Decidable p] (he : exec i s = s.ctl (geoOp k ok rd g))
    (hok : ok = decide p) :
    (∀ l, (if p then some (g q) else none) = some l → ∃ t, exec i s = .next t ∧
      (∀ j, (h : j < l.length) → (t.m.c.seq k.yard).rf (rd + j) = l[j].1 % 2 ^ 32) ∧
      (∀ j, (j < rd.val ∨ rd.val + l.length ≤ j) → (t.m.c.seq k.yard).rf j = q.rf j) ∧
      (t.m.c.seq k.yard).fflags = l.foldl (fun n r => n ||| r.2) q.fflags ∧ (t.m.c.seq k.yard).s = q.s ∧
      (t.m.c.seq k.yard).pc = (q.pc + 4) % 2 ^ 32 ∧ t.m.m = s.m.m ∧ t.m.c.regs = s.m.c.regs) ∧
    ((if p then some (g q) else none) = none → ∃ t, exec i s = .next t ∧ t.m.c.get R.YARD_SEQ_CAP_CAUSE k.yard = 1 ∧
      (t.m.c.seq k.yard).f = q.f) := by
  subst hq
  constructor
  · intro l hl
    have hp : p := by
      by_contra hp
      rw [if_neg hp] at hl
      cases hl
    rw [if_pos hp, Option.some.injEq] at hl
    subst hl
    have hseq : ∀ r, (((s.withSeq k.yard r).m.c).seq k.yard) = r := fun r => Ctl.seq_setSeq _ _ _
    obtain ⟨hin, hout, hflags, hs, hpc⟩ := (s.m.c.seq k.yard).vput_spec rd 0 (g (s.m.c.seq k.yard))
    refine ⟨_, seqOp_next (q := ((s.m.c.seq k.yard).vput rd 0 (g (s.m.c.seq k.yard))).adv) he h
      (by rw [hok, if_pos (decide_eq_true hp), SeqSt.vres_eq]), ?_⟩
    rw [hseq]
    exact ⟨hin, hout, hflags, hs, by rw [SeqSt.adv, hpc], rfl, rfl⟩
  · intro hn
    have hp : ¬ p := fun hp => by
      rw [if_pos hp] at hn
      cases hn
    obtain ⟨t, ht, halt, -⟩ := seqOp_exc_next (code := 1) (addr := 0) he h (by rw [hok, decide_eq_false hp]; rfl)
    exact ⟨t, ht, halt.cause, by rw [halt.seq]⟩

end

/-! ## Special registers (R188) -/

/-- CYCLE rises from each read to the next, by a free value (log entry 13). -/
theorem Ctl.seqCycles_lt_cycleRead (c : Ctl) : c.clk.seqCycles < c.cycleRead.1 := by
  unfold Ctl.cycleRead
  dsimp only
  omega

section
variable {k : Issue} {c : Ctl} (h : c.issues k)
include h

theorem Ctl.seqEnd_ok (trap : Nat) (q : SeqSt) : c.seqEnd k trap (.ok q) = c.setSeq k.yard q := by
  rw [Ctl.seqEnd, Ctl.issues_preCauses h]
  rfl

theorem Ctl.seqEnd_exc (trap code addr : Nat) : c.seqEnd k trap (.exc code addr) = c.seqExc k.yard code addr trap := by
  rw [Ctl.seqEnd, Ctl.issues_preCauses h]
  rfl

/-- A read of a special register that latches no other. -/
theorem seqMfk_plain (rd : Fin 32) {n : Fin 64} {v : Nat} (h1 : n ≠ 1) (h6 : n ≠ 6) (hv : c.special k.yard n 0 = some v) :
    seqMfk k rd n c = c.setSeq k.yard ((c.seq k.yard).ws rd v).adv := by
  have h1' : n.val ≠ 1 := fun e => h1 (Fin.ext e)
  have h6' : n.val ≠ 6 := fun e => h6 (Fin.ext e)
  simp only [seqMfk, if_neg h1', if_neg h6', Ctl.issues_ready h, hv, Ctl.seqEnd_ok h, Bool.not_true, Bool.false_eq_true, if_false]

/-- An index without a register is ILLEGAL. -/
theorem seqMfk_reserved (rd : Fin 32) {n : Fin 64} (hn : 16 ≤ n.val) : seqMfk k rd n c = c.seqExc k.yard 1 0 0 := by
  have h6 : n.val ≠ 6 := by omega
  have hv : c.special k.yard n 0 = none := List.getElem?_eq_none hn
  simp only [seqMfk, if_neg h6, Ctl.issues_ready h, hv, Ctl.seqEnd_exc h, Bool.not_true, Bool.false_eq_true, if_false]

/-- A read of WIN latches WINHI. -/
theorem seqMfk_win (rd : Fin 32) : seqMfk k rd 1 c =
    c.setSeq k.yard { ((c.seq k.yard).ws rd c.cwin).adv with winHi := c.win.ext / 2 ^ 32 % 2 ^ 32 } := by
  have hws : ∀ q : SeqSt, ({ q with winHi := c.win.ext / 2 ^ 32 % 2 ^ 32 } : SeqSt).ws rd c.cwin =
      { q.ws rd c.cwin with winHi := c.win.ext / 2 ^ 32 % 2 ^ 32 } := fun q => by
    unfold SeqSt.ws
    split <;> rfl
  have hv : c.special k.yard (1 : Fin 64) 0 = some c.cwin := rfl
  have h6 : (1 : Fin 64).val ≠ 6 := by decide
  have h1 : (1 : Fin 64).val = 1 := rfl
  simp only [seqMfk, if_neg h6, if_pos h1, Ctl.issues_ready h, hv, Ctl.seqEnd_ok h, Bool.not_true, Bool.false_eq_true, if_false]
  rw [hws]
  rfl

/-- A read of CYCLE latches CYCLEHI. -/
theorem seqMfk_cycle (rd : Fin 32) : seqMfk k rd 6 c =
    c.cycleRead.2.setSeq k.yard { ((c.seq k.yard).ws rd (c.cycleRead.1 % 2 ^ 32)).adv with cycHi := c.cycleRead.1 / 2 ^ 32 } := by
  have hws : ∀ (q : SeqSt) (v w : Nat), ({ q with cycHi := v } : SeqSt).ws rd w = { q.ws rd w with cycHi := v } := fun q v w => by
    unfold SeqSt.ws
    split <;> rfl
  have hv : ∀ cyc, c.special k.yard (6 : Fin 64) cyc = some (cyc % 2 ^ 32) := fun _ => rfl
  have h6 : (6 : Fin 64).val = 6 := rfl
  have h1 : (6 : Fin 64).val ≠ 1 := by decide
  have hend : ∀ q, c.cycleRead.2.seqEnd k 0 (.ok q) = c.cycleRead.2.setSeq k.yard q := fun q =>
    Ctl.seqEnd_ok (c := c.cycleRead.2) h 0 q
  simp only [seqMfk, if_neg h1, if_pos h6, Ctl.issues_ready h, hv, hend, Bool.not_true, Bool.false_eq_true, if_false]
  rw [hws]
  rfl

end

/-- A write of a special register that is not RW is ILLEGAL. -/
theorem mtk_reserved {k : Issue} {s : State} (h : s.m.c.issues k) (ra : Fin 32) (n : Fin 64)
    (h8 : n ≠ 8) (h12 : n ≠ 12) (h13 : n ≠ 13)
    (h14 : n ≠ 14) : ∃ t, exec (.mtk k n ra) s = .next t ∧ s.m.c.Halted t.m.c k.yard 1 0 ∧ t.m.m = s.m.m := by
  refine seqOp_exc_next (addr := 0) rfl h ?_
  dsimp only
  split
  · next hn => exact absurd (Fin.ext hn) h8
  · next hn => exact absurd (Fin.ext hn) h12
  · next hn => exact absurd (Fin.ext hn) h13
  · next hn => exact absurd (Fin.ext hn) h14
  · rfl

/-! ## The statement -/

/-- Settles O29: float instructions by their operations, vectors by their rows, and special registers by what a read latches. -/
theorem sequencerFloatAndSpecial : Obligations.SequencerFloatAndSpecial := by
  unfold Obligations.SequencerFloatAndSpecial
  refine ⟨fun k rd ra rb n s q h hq => ⟨?_, ?_, ?_, ?_, ?_, ?_, ?_, ?_, ?_, fun a ha => ⟨?_, ?_⟩⟩, ?_,
    fun k s q h hq => ⟨fun rd n v h1 h6 hv => ?_,
    fun rd => ?_, fun rd => ?_, fun rd n hn => ?_, fun ra => ⟨?_, ?_, ?_, ?_, fun n h8 h12 h13 h14 => ?_⟩⟩⟩
  · subst hq
    simp only [floatTable, List.forall_mem_cons, List.not_mem_nil, IsEmpty.forall_iff, implies_true, and_true]
    exact ⟨fltOp_next rfl h, fltOp_next rfl h, fltOp_next rfl h, fltOp_next rfl h, fltOp_next rfl h, fltOp_next rfl h⟩
  · subst hq
    simp only [compareTable, List.forall_mem_cons, List.not_mem_nil, IsEmpty.forall_iff, implies_true, and_true]
    exact ⟨seqOp_next rfl h rfl, seqOp_next rfl h rfl, seqOp_next rfl h rfl⟩
  · exact seqOp_next rfl h (by rw [hq]; rfl)
  · exact seqOp_next rfl h (by rw [hq]; rfl)
  · exact seqOp_next rfl h (by rw [hq]; rfl)
  · exact seqOp_next rfl h (by rw [hq]; rfl)
  · exact seqOp_next rfl h (by rw [hq])
  · exact seqOp_next rfl h (by rw [hq]; rfl)
  · exact seqOp_next rfl h (by rw [hq])
  · exact seqOp_next rfl h (by rw [hq, ha, putBit_top])
  · exact seqOp_next rfl h (by rw [hq, ha, clrBit_top])
  · simp only [geoTable, List.forall_mem_cons, List.not_mem_nil, IsEmpty.forall_iff, implies_true, and_true]
    refine ⟨?_, ?_, ?_, ?_, ?_, ?_, ?_⟩ <;> intro k rd ra rb s q h hq
    · exact geo_row (p := rd ≤ 29 ∧ ra ≤ 29 ∧ rb ≤ 29)
        (g := fun q => fZip fAdd (q.vec ra) (q.vec rb)) h hq rfl (decide_and_and _ _ _)
    · exact geo_row (p := rd ≤ 29 ∧ ra ≤ 29 ∧ rb ≤ 29)
        (g := fun q => fZip fSub (q.vec ra) (q.vec rb)) h hq rfl (decide_and_and _ _ _)
    · exact geo_row (p := rd ≤ 29 ∧ ra ≤ 29) (g := fun q => (q.vec ra).map (fMul · (q.rf rb))) h hq rfl (Bool.decide_and _ _).symm
    · exact geo_row (p := ra ≤ 29 ∧ rb ≤ 29) (g := fun q => [fDot ((q.vec ra).map fop0) ((q.vec rb).map fop0)]) h hq rfl
        (Bool.decide_and _ _).symm
    · exact geo_row (p := ra ≤ 29 ∧ rb ≤ 29) (g := fun q => [fDist (q.vec ra) (q.vec rb)]) h hq rfl (Bool.decide_and _ _).symm
    · exact geo_row (p := rd ≤ 29 ∧ ra ≤ 29 ∧ rb ≤ 29)
        (g := fun q => fCross (q.vec ra) (q.vec rb)) h hq rfl (decide_and_and _ _ _)
    · exact geo_row (p := rd ≤ 29 ∧ ra ≤ 23 ∧ rb ≤ 29)
        (g := fun q => [0, 3, 6].map fun i => fDot ((q.vec (ra + i)).map fop0) ((q.vec rb).map fop0)) h hq rfl (decide_and_and _ _ _)
  · exact next_of_ctl (f := seqMfk k rd n) rfl (by rw [seqMfk_plain (c := { s.m.c with out := [] }) h rd h1 h6 hv, ← hq]; rfl)
  · exact next_of_ctl (f := seqMfk k rd 1) rfl (by rw [seqMfk_win (c := { s.m.c with out := [] }) h rd, ← hq]; rfl)
  · subst hq
    exact ⟨_, _, next_of_ctl (f := seqMfk k rd 6) rfl (seqMfk_cycle (c := { s.m.c with out := [] }) h rd),
      Ctl.seqCycles_lt_cycleRead { s.m.c with out := [] }, rfl, Ctl.seq_setSeq _ _ _, rfl, rfl⟩
  · subst hq
    obtain ⟨t, ht, halt, -⟩ := exc_next (i := .mfk k rd n) (f := seqMfk k rd n) rfl
      (seqMfk_reserved (c := { s.m.c with out := [] }) h rd hn)
    exact ⟨t, ht, halt.cause, halt.run, by rw [halt.seq]⟩
  · exact seqOp_next rfl h (by rw [hq]; rfl)
  · exact seqOp_next rfl h (by rw [hq]; rfl)
  · exact seqOp_next rfl h (by rw [hq]; rfl)
  · exact seqOp_next rfl h (by rw [hq]; rfl)
  · subst hq
    obtain ⟨t, ht, halt, -⟩ := mtk_reserved h ra n h8 h12 h13 h14
    exact ⟨t, ht, halt.cause, by rw [halt.seq], by rw [halt.seq], by rw [halt.seq], by rw [halt.seq]⟩

end Sys2Proof.Machine
end

section
/-! PROOFS. What letterboxes leave alone (R391, R394), and a sequencer at a boundary (R200, R209, R210, R213, R214). -/
namespace Sys2Proof.Machine

/-! ## What a letterbox's write, its LB_GO and a reply leave alone (R374, R391) -/

section
variable {β : Type} (p : Ctl → β) (hset : ∀ (c : Ctl) (r : Reg) (v i : Nat), p (c.set r v i) = p c)
  (hraise : ∀ (c : Ctl) (src info detail : Nat), p (c.raise src info detail) = p c)
  (hemit : ∀ (c : Ctl) (o : Output), p (c.emit o) = p c)
  (hmbx : ∀ (c : Ctl) (b : MbxSt), p { c with mbx := b } = p c)
include hset

include hmbx in
theorem Ctl.showFull_keeps (c : Ctl) : p c.showFull = p c := by
  unfold Ctl.showFull
  rw [hset, hmbx]

include hraise

theorem Ctl.collide_keeps (c : Ctl) (n : Nat) : p (c.collide n) = p c := by
  unfold Ctl.collide
  split
  · rw [hraise, hset, hset]
  · rfl

include hmbx in
theorem Ctl.lbRead_keeps (c : Ctl) (m : Master) (n : Nat) : p (c.lbRead m n).1 = p c := by
  unfold Ctl.lbRead
  extract_lets v full c1
  split
  · rfl
  · refine (Ctl.when_keeps p c1 _ (fun c => c.raise Ev.MBX_EMPTY (n / 2)) (hraise _ _ _ _)).trans ?_
    rw [Ctl.showFull_keeps p hset hmbx, hset]

include hemit

theorem Ctl.denied_keeps (c : Ctl) (m : Master) (a : Nat) : p (c.denied m a) = p c := by
  unfold Ctl.denied Ctl.mtxFault
  extract_lets seen cnt ev first c1
  have h1 : p c1 = p c := Ctl.when_keeps p _ _ _ (by rw [hset, hset, hset, hset, hset, hset])
  rw [hemit, hraise, Ctl.inc, hset, hset, h1]

theorem Ctl.lbData_keeps (c : Ctl) (m : Master) (n w d : Nat) : p (c.lbData m n w d) = p c := by
  unfold Ctl.lbData
  split
  · rw [hset, Ctl.denied_keeps p hset hraise hemit]
  · rw [hset, hset, Ctl.collide_keeps p hset hraise]

include hmbx

theorem Ctl.lbGo_keeps (c : Ctl) (m : Master) (n : Nat) : p (c.lbGo m n) = p c := by
  unfold Ctl.lbGo
  split
  · rw [hset, Ctl.denied_keeps p hset hraise hemit]
  · rw [Ctl.showFull_keeps p hset hmbx]
    refine (Ctl.when_keeps p _ _ _ (hraise _ _ _ _)).trans ?_
    rw [hset, Ctl.inc, hset, hset, Ctl.collide_keeps p hset hraise]

theorem Ctl.keepReply_keeps (c : Ctl) (k head status : Nat) (res : List Nat) (key : List Byte) :
    p (c.keepReply k head status res key) = p c := by
  unfold Ctl.keepReply
  split
  · rfl
  · rw [hemit, Ctl.lbGo_keeps p hset hraise hemit hmbx]
    exact Ctl.each_keeps p _ _ (fun c e => Ctl.lbData_keeps p hset hraise hemit c _ _ _ _) c

end

theorem Ctl.lbRead_seqs (c : Ctl) (m : Master) (n : Nat) : (c.lbRead m n).1.seqs = c.seqs :=
  Ctl.lbRead_keeps (·.seqs) (fun _ _ _ _ => rfl) Ctl.raise_seqs (fun _ _ => rfl) c m n

theorem Ctl.lbData_seqs (c : Ctl) (m : Master) (n w d : Nat) : (c.lbData m n w d).seqs = c.seqs :=
  Ctl.lbData_keeps (·.seqs) (fun _ _ _ _ => rfl) Ctl.raise_seqs (fun _ _ => rfl) c m n w d

theorem Ctl.lbGo_seqs (c : Ctl) (m : Master) (n : Nat) : (c.lbGo m n).seqs = c.seqs :=
  Ctl.lbGo_keeps (·.seqs) (fun _ _ _ _ => rfl) Ctl.raise_seqs (fun _ _ => rfl) (fun _ _ => rfl) c m n

/-- A long command that ends with another status than STATE: it is off the list, and the sequencers stand as they were. -/
theorem Ctl.keepDone_spec (c : Ctl) (l : LongCmd) {status : Nat} (res : List Nat) (h : status ≠ 1) :
    (c.keepDone l status res).seqs = c.seqs ∧ (c.keepDone l status res).tab = c.tab ∧
      (c.keepDone l status res).keep.long = c.keep.long.filter (· != l) := by
  refine ⟨?_, (replied_keepDone c l status res).tab, ?_⟩ <;> unfold Ctl.keepDone <;> dsimp only <;> rw [if_neg h]
  · exact Ctl.keepReply_keeps (·.seqs) (fun _ _ _ _ => rfl) Ctl.raise_seqs (fun _ _ => rfl) (fun _ _ => rfl) _ _ _ _ _ _
  · exact congrArg (·.long)
      (Ctl.keepReply_keeps (·.keep) (fun _ _ _ _ => rfl) Ctl.raise_keep (fun _ _ => rfl) (fun _ _ => rfl) _ _ _ _ _ _)

/-! ## Resuming and the watchdog (R200, R209) -/

section
variable {y : Fin 4} {c : Ctl} (hrun : c.is R.YARD_STATUS_SEQ_RUN y = true)
include hrun

/-- WAIT.W resumes once its boundary has passed and its snapshot is taken. -/
theorem seqWaitResume_due {rd : Nat} (hdue : c.tab.tickDue = false)
    (h : (c.seq y).wait = .next rd true ∨ (c.seq y).wait = .tick rd true ∨
      (∃ w, (c.seq y).wait = .abs w rd ∧ c.winStarted w = true)) :
    seqWaitResume y c = c.setSeq y ((c.seq y).resume c.cwin rd) := by
  unfold seqWaitResume
  simp only [hrun, hdue, Bool.not_true, Bool.or_self, Bool.false_eq_true, if_false]
  rcases h with h | h | ⟨w, h, hw⟩ <;> rw [h]
  exact if_pos hw

omit hrun in
/-- It does not for any other reason. -/
theorem seqWaitResume_waits {rd : Nat} (h : c.tab.tickDue = true ∨ (c.seq y).wait = .none ∨ (c.seq y).wait = .next rd false ∨
    (c.seq y).wait = .tick rd false) : seqWaitResume y c = c := by
  unfold seqWaitResume
  rcases h with h | h | h | h
  · simp only [h, Bool.or_true, if_true]
  all_goals
    dsimp only
    rw [h]
    exact ite_self c

theorem seqWatchdog_fires (hw : (c.seq y).wait = .none) (hd : (c.seq y).wdog ≤ (c.seq y).boundaries) :
    seqWatchdog y c = c.seqExc y 8 0 0 := by
  simp [seqWatchdog, Ctl.seqReady, hrun, hw, hd]

omit hrun in
theorem seqWatchdog_holds (h : (c.seq y).wait ≠ .none ∨ (c.seq y).boundaries < (c.seq y).wdog) : seqWatchdog y c = c := by
  unfold seqWatchdog Ctl.seqReady
  rcases h with h | h
  · simp [h]
  · simp [Nat.not_le.2 h]

end

/-! ## The keeper's restart (R210) -/

/-- A sequencer that starts anew from the image in force. -/
def SeqSt.started (q : SeqSt) (g : Image) : SeqSt :=
  { q with s := [], f := [], pc := g.start, wait := .none, fflags := 0, cq := [], boundaries := 0, excWin := none, kitDue := false }

/-- The control state with it. -/
def Ctl.seqStarted (c : Ctl) (y : Nat) (g : Image) : Ctl :=
  ((c.setSeq y ((c.seq y).started g)).set R.YARD_STATUS_SEQ_RUN 1 y).set R.YARD_STATUS_SEQ_EXC 0 y

theorem Mach.seqStart_eq {x : Mach} {y : Nat} {g : Image} (hact : (x.c.seq y).active = some g) :
    x.seqStart y = ⟨x.c.seqStarted y g, { x.m with
      dmem := (x.m.dmem.wipe (y * 0x40000 + (x.c.seq y).half * 0x20000) 0x20000).wrs
        (y * 0x40000 + (x.c.seq y).half * 0x20000) g.data }⟩ := by
  unfold Mach.seqStart
  dsimp only
  split
  · next h => cases hact.symm.trans h
  · next h =>
      cases hact.symm.trans h
      rfl

/-- That of one that the keeper restarts. -/
def Ctl.seqRestarted (c : Ctl) (y : Nat) (g : Image) : Ctl :=
  ((c.seqStarted y g).setSeq y { (c.seqStarted y g).seq y with restarted := some c.winNo }).inc R.YARD_SEQ_CAP_RESTARTS y

/-- A sequencer that has not been restarted before is, at a tick boundary 2 windows or more after its exception. -/
theorem seqRestart_due {x : Mach} {y : Fin 4} {w : Nat} {g : Image} (hexc : (x.c.seq y).excWin = some w)
    (hact : (x.c.seq y).active = some g) (hnone : (x.c.seq y).restarted = none) (hdue : x.c.tab.tickDue = true)
    (hage : 2 ≤ (x.c.winNo + 2 ^ 32 - w) % 2 ^ 32) : seqRestart y x = ⟨x.c.seqRestarted y g, { x.m with
      dmem := (x.m.dmem.wipe (y * 0x40000 + (x.c.seq y).half * 0x20000) 0x20000).wrs
        (y * 0x40000 + (x.c.seq y).half * 0x20000) g.data }⟩ := by
  unfold seqRestart
  simp only [hexc, hact, hnone, hdue, Nat.not_lt.2 hage, Bool.not_true, decide_false, Bool.or_self, Bool.false_eq_true, if_false,
    Mach.seqStart_eq hact]
  rfl

theorem Ctl.seqStarted_spec (c : Ctl) (y : Nat) (g : Image) :
    (c.seqStarted y g).seq y = (c.seq y).started g ∧ (c.seqStarted y g).get R.YARD_STATUS_SEQ_RUN y = 1 ∧
    (c.seqStarted y g).get R.YARD_STATUS_SEQ_EXC y = 0 ∧
    (c.seqStarted y g).get R.YARD_SEQ_CAP_RESTARTS y = c.get R.YARD_SEQ_CAP_RESTARTS y :=
  ⟨Ctl.seq_setSeq _ _ _, (Ctl.get_set_field _ _ _ _ _ _ (by decide)).trans (Ctl.get_set_self _ _ _ _), Ctl.get_set_self _ _ _ _,
    (Ctl.get_set_field _ _ _ _ _ _ (by decide)).trans (Ctl.get_set_field _ _ _ _ _ _ (by decide))⟩

theorem Ctl.seqRestarted_spec (c : Ctl) (y : Nat) (g : Image) :
    (c.seqRestarted y g).seq y = { (c.seq y).started g with restarted := some c.winNo } ∧
    (c.seqRestarted y g).get R.YARD_STATUS_SEQ_RUN y = 1 ∧ (c.seqRestarted y g).get R.YARD_STATUS_SEQ_EXC y = 0 ∧
    (c.seqRestarted y g).get R.YARD_SEQ_CAP_RESTARTS y =
      (c.get R.YARD_SEQ_CAP_RESTARTS y + 1) % 2 ^ R.YARD_SEQ_CAP_RESTARTS.width := by
  obtain ⟨hseq, hrun, hexc, hcount⟩ := Ctl.seqStarted_spec c y g
  unfold Ctl.seqRestarted
  refine ⟨?_, ?_, ?_, ?_⟩
  · rw [hseq]
    exact Ctl.seq_setSeq _ _ _
  · exact (Ctl.get_inc_field _ _ _ _ _ _ (by decide)).trans hrun
  · exact (Ctl.get_inc_field _ _ _ _ _ _ (by decide)).trans hexc
  · rw [Ctl.get_inc_self, ← hcount]
    rfl

/-! ## A loaded image comes into force (R214) -/

/-- The sequencer of a yard as a new image starts it. -/
def SeqSt.forced (q : SeqSt) (g : Image) (posts now : Nat) : SeqSt :=
  { pc := g.start
    lastPost := q.lastPost
    cqLost := q.cqLost
    winHi := q.winHi
    cycHi := q.cycHi
    active := some g
    half := 1 - q.half
    leftWin := q.active.map fun _ => now
    firstPost := posts }

/-- The control state with it. -/
def Ctl.imageForced (c : Ctl) (y : Nat) (g : Image) : Ctl :=
  (((c.setSeq y ((c.seq y).forced g (c.get R.YARD_POSTS y) c.winNo)).set R.YARD_STATUS_SEQ_RUN 1 y).set
    R.YARD_STATUS_SEQ_EXC 0 y).bulkAgain (2 + y)

theorem imageIntoForce_due {c : Ctl} {y : Fin 4} {w : Nat} {g : Image} (hfrom : (c.seq y).forceFrom = some w)
    (hload : (c.seq y).loaded = some g) (hnew : c.carriedIn y g = false) (hdue : c.tab.tickDue = true)
    (hw : later w c.winNo = false) : imageIntoForce y c = c.imageForced y g := by
  unfold imageIntoForce
  simp only [hfrom, hdue, hw, Bool.not_false, Bool.and_self, if_true]
  unfold Ctl.imageForce
  simp only [hload, hnew, Bool.false_eq_true, if_false]
  rfl

theorem Ctl.imageForced_spec (c : Ctl) (y : Nat) (g : Image) :
    (c.imageForced y g).seq y = (c.seq y).forced g (c.get R.YARD_POSTS y) c.winNo ∧
    (c.imageForced y g).get R.YARD_STATUS_SEQ_RUN y = 1 ∧ (c.imageForced y g).get R.YARD_STATUS_SEQ_EXC y = 0 := by
  have hregs : ∀ (c : Ctl) k r i, (c.bulkAgain k).get r i = c.get r i := fun _ _ _ _ => rfl
  unfold Ctl.imageForced
  refine ⟨Ctl.seq_setSeq _ _ _, ?_, ?_⟩
  · rw [hregs, Ctl.get_set_field _ _ _ _ _ _ (by decide)]
    exact Ctl.get_set_self _ _ _ _
  · rw [hregs]
    exact Ctl.get_set_self _ _ _ _

/-! ## The end of a program load (R213, R214) -/

theorem Mach.loadProgs_regs (x : Mach) (l : List ProgImg) : (x.loadProgs l).c.regs = x.c.regs := by
  have hyard : ∀ (x : Mach) (p : ProgImg) (y : Nat), (x.loadYard p y).c.regs = x.c.regs := by
    intro x p y
    unfold Mach.loadYard
    split <;> rfl
  have hyards : ∀ (p : ProgImg) (ys : List Nat) (x : Mach), (ys.foldl (fun x y => x.loadYard p y) x).c.regs = x.c.regs := by
    intro p ys
    induction ys with
    | nil => exact fun _ => rfl
    | cons y ys ih => exact fun x => (ih _).trans (hyard x p y)
  unfold Mach.loadProgs
  induction l generalizing x with
  | nil => rfl
  | cons p l ih => exact (ih _).trans (hyards p _ x)

/-- The yards of a load wait for the image from window `w` on. -/
def Ctl.forceSet (c : Ctl) (ys : List Nat) (w : Nat) : Ctl :=
  c.each ys fun c y => c.setSeq y { c.seq y with forceFrom := some w }

theorem Ctl.forceSet_keeps (ys : List Nat) {y w : Nat} (c : Ctl) (h : (c.seq y).forceFrom = some w) :
    ((c.forceSet ys w).seq y).forceFrom = some w := by
  induction ys generalizing c with
  | nil => exact h
  | cons z ys ih =>
    refine ih _ ?_
    by_cases hz : y = z
    · rw [hz, Ctl.seq_setSeq]
    · rw [Ctl.seq_setSeq_ne _ _ hz, h]

theorem Ctl.forceFrom_forceSet {ys : List Nat} {y : Nat} (hy : y ∈ ys) (w : Nat) (c : Ctl) :
    ((c.forceSet ys w).seq y).forceFrom = some w := by
  induction ys generalizing c with
  | nil => cases hy
  | cons z ys ih =>
    rcases List.mem_cons.1 hy with rfl | hy
    · exact Ctl.forceSet_keeps ys _ (by rw [Ctl.seq_setSeq])
    · exact ih hy _

section
variable {x : Mach}

theorem programLoadDone_nothing (h : x.c.longOf 0x22 = none ∨ x.c.tab.loadProg = []) : programLoadDone x = x := by
  unfold programLoadDone
  rcases h with h | h <;> rw [h]
  split
  · next heq => cases heq
  · rfl

variable {l : LongCmd} {p : ProgImg} {ps : List ProgImg} (hl : x.c.longOf 0x22 = some l) (hp : x.c.tab.loadProg = p :: ps)
include hl hp

theorem programLoadDone_busy (h : x.c.regionFree [p] = false) : programLoadDone x = x := by
  simp only [programLoadDone, hl, hp, h, Bool.not_false, if_true]

/-- The image lies in the inactive halves, and its yards wait for the second boundary from now. -/
theorem programLoadDone_loads (h : x.c.regionFree [p] = true) : (programLoadDone x).m = (x.loadProgs [p]).m ∧
    (programLoadDone x).c.tab.loadProg = [] ∧
    (∀ y ∈ yardsOf p.yards, ((programLoadDone x).c.seq y).forceFrom = some (winAdd x.c.winNo 2)) ∧
    l ∉ (programLoadDone x).c.keep.long := by
  have hwin : (x.loadProgs [p]).c.winNo = x.c.winNo := by
    unfold Ctl.winNo Ctl.get
    rw [x.loadProgs_regs]
  simp only [programLoadDone, hl, hp, h, Bool.not_true, Bool.false_eq_true, if_false, hwin]
  obtain ⟨hseqs, htab, hlong⟩ := Ctl.keepDone_spec { (x.loadProgs [p]).c.forceSet (yardsOf p.yards) (winAdd x.c.winNo 2) with
    tab := { ((x.loadProgs [p]).c.forceSet (yardsOf p.yards) (winAdd x.c.winNo 2)).tab with loadProg := [] } } l (status := 0)
    [p.img.id, p.yards, Ctl.tickAt { (x.loadProgs [p]).c.forceSet (yardsOf p.yards) (winAdd x.c.winNo 2) with
      tab := { ((x.loadProgs [p]).c.forceSet (yardsOf p.yards) (winAdd x.c.winNo 2)).tab with loadProg := [] } } (winAdd x.c.winNo 2)]
    (by decide)
  refine ⟨trivial, congrArg (·.loadProg) htab, fun y hy => ?_, fun hmem => ?_⟩
  · refine Eq.trans ?_ (Ctl.forceFrom_forceSet hy (winAdd x.c.winNo 2) (x.loadProgs [p]).c)
    exact congrArg (fun m => (kgetD m y {}).forceFrom) hseqs
  · have hmem' := hlong ▸ hmem
    simp at hmem'

end

/-! ## The statement -/

/-- Settles O30: each command by the lemma of its case; a restart and an image in force by the state that they start. -/
theorem sequencerBoundaries : Obligations.SequencerBoundaries := by
  unfold Obligations.SequencerBoundaries
  refine ⟨fun s y q rd hrun hq => ⟨fun hdue h => ?_, fun h => ?_, fun hw hd => ?_, fun h => ?_,
    fun w g hexc hact hnone hdue hage => ?_, fun w g hfrom hload hnew hdue hlater => ?_⟩,
    fun s => ⟨fun h => ?_, fun l p ps hl hp => ⟨fun h => ?_, fun h => ?_⟩⟩⟩
  · subst hq
    exact next_of_ctl (f := seqWaitResume y) rfl (seqWaitResume_due (c := { s.m.c with out := [] }) hrun hdue h)
  · subst hq
    exact next_of_ctl (f := seqWaitResume y) rfl (seqWaitResume_waits (c := { s.m.c with out := [] }) h)
  · subst hq
    obtain ⟨t, ht, halt, hmem⟩ := exc_next (i := .seqWatchdog y) (f := seqWatchdog y) rfl
      (seqWatchdog_fires (c := { s.m.c with out := [] }) hrun hw hd)
    exact ⟨t, ht, halt.cause, halt.run, halt.epc, hmem⟩
  · subst hq
    exact next_of_ctl (f := seqWatchdog y) rfl (seqWatchdog_holds (c := { s.m.c with out := [] }) h)
  · subst hq
    obtain ⟨hseq, hrun', hexc', hcount⟩ := Ctl.seqRestarted_spec { s.m.c with out := [] } y g
    exact ⟨_, _, next_of_mach (f := seqRestart y) rfl (seqRestart_due (x := s.m.fresh) hexc hact hnone hdue hage), hseq, rfl, rfl,
      rfl, rfl, rfl, rfl, rfl, hact, hrun', hexc', hcount, fun i hi => Mem.rd_wrs_inside _ _ _ _ hi, rfl, rfl⟩
  · subst hq
    obtain ⟨hseq, hrun', hexc'⟩ := Ctl.imageForced_spec { s.m.c with out := [] } y g
    exact ⟨_, _, next_of_ctl (f := imageIntoForce y) rfl (imageIntoForce_due (c := { s.m.c with out := [] }) hfrom hload hnew hdue
      hlater), hseq, rfl, rfl, rfl, rfl, rfl, rfl, rfl, rfl, rfl, hrun', hexc', rfl⟩
  · exact next_of_mach (f := programLoadDone) rfl (programLoadDone_nothing (x := s.m.fresh) h)
  · exact next_of_mach (f := programLoadDone) rfl (programLoadDone_busy (x := s.m.fresh) hl hp h)
  · exact ⟨_, next_of_mach (f := programLoadDone) rfl rfl, programLoadDone_loads (x := s.m.fresh) hl hp h⟩

end Sys2Proof.Machine
end

section
/-! PROOFS. Words in memory, posting an order and taking a completion record (R201 to R204). -/
namespace Sys2Proof.Machine

/-! ## Words at consecutive addresses -/

theorem Mem.wrWords_concat (m : Mem) (a : Nat) (l : List Nat) (v : Nat) :
    m.wrWords a (l ++ [v]) = (m.wrWords a l).wrN (a + 4 * l.length) 4 v := by
  simp [Mem.wrWords, List.zipIdx_append]

theorem Mem.rd_wrWords_of_outside (l : List Nat) (m : Mem) {a b : Nat} (h : b < a ∨ a + 4 * l.length ≤ b) :
    (m.wrWords a l).rd b = m.rd b := by
  induction l using List.reverseRecOn with
  | nil => rfl
  | append_singleton l v ih =>
    rw [List.length_append, List.length_singleton] at h
    rw [Mem.wrWords_concat, Mem.wrN, Mem.rd_wrs_of_outside _ _ (by rw [leBytes_length]; omega), ih (by omega)]

/-- Each word reads as written, modulo its size. -/
theorem Mem.rdN_wrWords (l : List Nat) (m : Mem) (a : Nat) {i : Nat} (h : i < l.length) :
    (m.wrWords a l).rdN (a + 4 * i) 4 = l[i] % 2 ^ 32 := by
  induction l using List.reverseRecOn with
  | nil => exact absurd h (Nat.not_lt_zero i)
  | append_singleton l v ih =>
    rw [Mem.wrWords_concat]
    by_cases hi : i < l.length
    · rw [Mem.rdN_wrN_of_disjoint _ _ (by omega), ih hi, List.getElem_append_left hi]
    · rw [List.length_append, List.length_singleton] at h
      obtain rfl : i = l.length := by omega
      rw [Mem.rdN_wrN_self, List.getElem_concat_length rfl]
      rfl

/-- A buffer in DMEM that is aligned brings no cause. -/
theorem bufCause_none {a align n : Nat} (halign : a % align = 0) (hlo : 0x40000 ≤ a) (hhi : a + n ≤ 0x60000) :
    bufCause a align n = none := by
  simp [bufCause, inDmem, halign, hlo, hhi]

/-! ## The decision of a POST (R40, R132, R133) -/

/-- The charge of an order leaves the stables and the count of orders. -/
theorem Ctl.chargeOrder_keeps (c : Ctl) (k w cost : Nat) : (c.chargeOrder k w cost).1.fabr = c.fabr ∧
    ∀ y, (c.chargeOrder k w cost).1.get R.YARD_POSTS y = c.get R.YARD_POSTS y := by
  unfold Ctl.chargeOrder
  extract_lets cost j ovr jobs c1
  split
  · exact ⟨by simp [Ctl.ledgRefuse, Ctl.inc], fun y =>
      (Ctl.get_raise _ _ _ _ _ _ (by decide)).trans (Ctl.get_inc_field _ _ _ _ _ _ (by decide))⟩
  · exact ⟨Ctl.when_keeps (·.fabr) c1 _ _ rfl, fun y =>
      Ctl.when_keeps (·.get R.YARD_POSTS y) c1 _ _ (Ctl.get_set_field _ _ _ _ _ _ (by decide))⟩

/-- The stable that takes an order is one of the yard's. -/
theorem Ctl.pickStable_div {c : Ctl} {y n : Nat} {o : Order} (h : c.pickStable y o = some n) : n / 4 = y := by
  have hmem := (mem_sortBy _ _ _).1 (List.mem_of_head? h)
  obtain ⟨i, hi, rfl⟩ := List.mem_map.1 (List.mem_of_mem_filter hmem)
  have hi4 := List.mem_range.1 (List.mem_of_mem_filter hi)
  omega

/-- OK queues the order, with its number, and counts it; any other answer leaves the queues and the count. -/
theorem Ctl.postOrder_spec (c : Ctl) (y : Nat) (o : Order) :
    ((c.postOrder y o).2 = 0 → ∃ n, (c.postOrder y o).1.get R.YARD_POSTS y = (c.get R.YARD_POSTS y + 1) % 2 ^ 32 ∧
      ((c.postOrder y o).1.stable n).queue = (c.stable n).queue ++ [{ o with post := c.get R.YARD_POSTS y }] ∧ n / 4 = y) ∧
    ((c.postOrder y o).2 ≠ 0 → (c.postOrder y o).1.fabr.stables = c.fabr.stables ∧
      (c.postOrder y o).1.get R.YARD_POSTS y = c.get R.YARD_POSTS y) := by
  unfold Ctl.postOrder
  extract_lets powered
  split
  · exact ⟨fun h => absurd h (by decide : (2 : Nat) ≠ 0), fun _ => ⟨rfl, rfl⟩⟩
  split
  · exact ⟨fun h => absurd h (by decide : (1 : Nat) ≠ 0), fun _ =>
      ⟨by simp [Ctl.yardState, Ctl.refuse], (c.yardState_spec y).2 _ _ (by decide)⟩⟩
  split
  · exact ⟨fun h => absurd h (by decide : (3 : Nat) ≠ 0), fun _ => ⟨rfl, rfl⟩⟩
  · next p c1 o1 _ _ _ n hn =>
    obtain ⟨hfabr, hposts⟩ := c.chargeOrder_keeps o.cls o.deadline o.cost
    split
    · exact ⟨fun h => absurd h (by decide : (5 : Nat) ≠ 0), fun _ => ⟨congrArg (·.stables) hfabr, hposts y⟩⟩
    · have hstable : c1.stable n = c.stable n := congrArg (fun f : FabricSt => kgetD f.stables n {}) hfabr
      refine ⟨fun _ => ⟨n, ?_, ?_, Ctl.pickStable_div hn⟩, fun h => absurd rfl h⟩
      · rw [Ctl.sameRegsBut_setQueue_depth _ _ _ _ _ (by decide), Ctl.get_set_field _ _ _ _ _ _ (by decide), Ctl.get_inc_self,
          show c1.get R.YARD_POSTS y = c.get R.YARD_POSTS y from hposts y]
        rfl
      · rw [Ctl.stable_setQueue, hstable]
        exact congrArg (fun p => (c.stable n).queue ++ [{ o with post := p }]) (hposts y)

/-! ## POST and CPOP (R202, R204) -/

/-- An instruction that issues ends with its own result. -/
theorem Ctl.issues_worst {c : Ctl} {k : Issue} (h : c.issues k) (r : SeqRes) : worst (preCauses k (c.seq k.yard)) r = r := by
  rw [Ctl.issues_preCauses h]
  rfl

section
variable {k : Issue} {ra rd : Fin 32} {x : Mach} {a : Nat} (h : x.c.issues k) (ha : a = (x.c.seq k.yard).rs ra)
include h ha

theorem seqPost_posts {o : Order} {g : Image} {c : Ctl} {r : Nat} (hecc : k.ecc = false) (halign : a % 32 = 0) (hlo : 0x40000 ≤ a)
    (hhi : a + 32 ≤ 0x60000)
    (ho : orderOf (fun i => x.m.dmem.rdN (k.yard * 0x40000 + (x.c.seq k.yard).half * 0x20000 + (a - 0x40000) + 4 * i) 4) = (o, true))
    (hg : (x.c.seq k.yard).active = some g) (hallow : g.allows o = true) (hpost : x.c.postOrder k.yard o = (c, r)) :
    seqPost k rd ra x = { x with c := c.setSeq k.yard { ((c.seq k.yard).ws rd r).adv with
      lastPost := if r = 0 then x.c.get R.YARD_POSTS k.yard else (c.seq k.yard).lastPost } } := by
  subst ha
  have haddr : (fun i => x.m.dmem.rdN (dmemAt k.yard (x.c.seq k.yard).half ((x.c.seq k.yard).rs ra + 4 * i)) 4) =
      fun i => x.m.dmem.rdN (k.yard * 0x40000 + (x.c.seq k.yard).half * 0x20000 + ((x.c.seq k.yard).rs ra - 0x40000) + 4 * i) 4 :=
    funext fun i => congrArg (x.m.dmem.rdN · 4) (by unfold dmemAt; omega)
  unfold seqPost
  simp only [Ctl.issues_ready h, Ctl.issues_worst h, bufCause_none halign hlo hhi, haddr, ho, hg, hallow, hecc, hpost,
    Bool.not_true, Bool.and_self, Bool.false_eq_true, if_false, if_true]

theorem seqCpop_takes {r : CqRec} {l : List CqRec} (hq : (x.c.seq k.yard).cq = r :: l) (halign : a % 16 = 0) (hlo : 0x40000 ≤ a)
    (hhi : a + 16 ≤ 0x60000) : seqCpop k rd ra x =
      ⟨x.c.setSeq k.yard { ((x.c.seq k.yard).ws rd (if r.poison || k.ecc then 3 else 1)).adv with cq := l },
        { x.m with dmem := x.m.dmem.wrWords (dmemAt k.yard (x.c.seq k.yard).half a) r.words }⟩ := by
  subst ha
  unfold seqCpop
  simp only [Ctl.issues_ready h, Ctl.issues_worst h, hq, bufCause_none halign hlo hhi, Bool.not_true, Bool.false_eq_true,
    if_false]

omit ha in
theorem seqCpop_empty (hq : (x.c.seq k.yard).cq = []) :
    seqCpop k rd ra x = { x with c := x.c.setSeq k.yard ((x.c.seq k.yard).ws rd 0).adv } := by
  unfold seqCpop
  simp only [Ctl.issues_ready h, hq, Ctl.seqEnd_ok h, Bool.not_true, Bool.false_eq_true, if_false]

end

/-- Settles O31: POST by the decision of the order's yard, CPOP by the words that it writes. -/
theorem sequencerOrders : Obligations.SequencerOrders := by
  unfold Obligations.SequencerOrders
  intro k rd ra s q a h hq ha
  subst hq
  refine ⟨fun o g c r hecc halign hlo hhi ho hg hallow hpost => ?_, fun hempty => ?_,
    fun w0 w1 w2 w3 l p hcq halign hlo hhi => ?_⟩
  · obtain ⟨hok, hrefused⟩ := Ctl.postOrder_spec { s.m.c with out := [] } k.yard o
    rw [hpost] at hok hrefused
    exact ⟨next_of_mach (f := seqPost k rd ra) rfl
      (seqPost_posts (x := s.m.fresh) h ha hecc halign hlo hhi ho hg hallow hpost), hok, hrefused⟩
  · exact next_of_mach (f := seqCpop k rd ra) rfl (seqCpop_empty (x := s.m.fresh) h hempty)
  · refine ⟨_, next_of_mach (f := seqCpop k rd ra) rfl (seqCpop_takes (x := s.m.fresh) h ha hcq halign hlo hhi), rfl,
      fun i hi => ?_, fun b hb => Mem.rd_wrWords_of_outside _ _ hb, rfl, rfl, rfl, rfl⟩
    refine (Mem.rdN_wrWords [w0.toNat, w1.toNat, w2.toNat, w3.toNat] _ _ hi).trans (Nat.mod_eq_of_lt ?_)
    have hwords : ∀ v ∈ [w0.toNat, w1.toNat, w2.toNat, w3.toNat], v < 2 ^ 32 := by
      simp only [List.forall_mem_cons]
      exact ⟨w0.isLt, w1.isLt, w2.isLt, w3.isLt, List.forall_mem_nil _⟩
    exact hwords _ (List.getElem_mem _)

end Sys2Proof.Machine
end

section
/-! PROOFS. The latches and the letterboxes of a sequencer (R205, R206, R391, R403, R404). -/
namespace Sys2Proof.Machine

/-! ## Latches (R403, R404) -/

/-- A latch that no stall waits for is free when it is freed. -/
theorem Ctl.resFreeUp_latch {c : Ctl} {i : Nat} (h : ∀ e ∈ c.fabr.stalls, e.2.wait ≠ .acq 3 i) :
    c.resFreeUp 0 3 i = c.set R.LATCH 0 i := by
  have hwaits : (c.fabr.stalls.filter fun e => e.2.wait == .acq 3 i && sameScope 3 0 e.1) = [] :=
    List.filter_eq_nil_iff.2 fun e he => by simp [h e he]
  have hmark : c.resMark 0 3 i false = c.set R.LATCH 0 i := rfl
  unfold Ctl.resFreeUp Ctl.resGrant
  rw [hmark, Ctl.set_fabr, hwaits]
  rfl

/-- The word of a sequencer that owns a latch fits the register. -/
theorem ownerWord_mod (y : Fin 4) : (0x80000000 + ownerCode (.seq y)) % 2 ^ R.LATCH.width = 0x80000000 + ownerCode (.seq y) := by
  revert y
  decide

section
variable {k : Issue} {c : Ctl} (h : c.issues k) {ra rd : Fin 32} {n : Fin 64} {i : Nat}
  (hi : i = ((c.seq k.yard).rs ra + n) % 64)
include h hi

theorem seqLtry_free (hfree : c.get R.LATCH i = 0) : seqLtry k rd ra n c =
    (c.set R.LATCH (0x80000000 + ownerCode (.seq k.yard)) i).setSeq k.yard ((c.seq k.yard).ws rd 0).adv := by
  have htry : c.latchTry (.seq k.yard) ((c.seq k.yard).latch ra n) =
      (c.set R.LATCH (0x80000000 + ownerCode (.seq k.yard)) i, 0) := by
    rw [SeqSt.latch, ← hi]
    exact if_pos hfree
  unfold seqLtry
  simp only [Ctl.issues_ready h, Ctl.issues_worst h, htry, Bool.not_true, Bool.false_eq_true, if_false]
  rfl

theorem seqLtry_held (hheld : c.get R.LATCH i ≠ 0) :
    seqLtry k rd ra n c = c.setSeq k.yard ((c.seq k.yard).ws rd (c.get R.LATCH i)).adv := by
  have htry : c.latchTry (.seq k.yard) ((c.seq k.yard).latch ra n) = (c, c.get R.LATCH i) := by
    rw [SeqSt.latch, ← hi]
    exact if_neg hheld
  unfold seqLtry
  simp only [Ctl.issues_ready h, Ctl.issues_worst h, htry, Bool.not_true, Bool.false_eq_true, if_false]

theorem seqLrel_own (hown : c.get R.LATCH i = 0x80000000 + ownerCode (.seq k.yard))
    (hwait : ∀ e ∈ c.fabr.stalls, e.2.wait ≠ .acq 3 i) :
    seqLrel k ra n c = (c.set R.LATCH 0 i).setSeq k.yard (c.seq k.yard).adv := by
  have hfree : c.latchFree (.seq k.yard) ((c.seq k.yard).latch ra n) = c.set R.LATCH 0 i := by
    rw [SeqSt.latch, ← hi]
    exact (if_pos hown).trans (Ctl.resFreeUp_latch hwait)
  unfold seqLrel
  simp only [Ctl.issues_ready h, Ctl.issues_worst h, hfree, Bool.not_true, Bool.false_eq_true, if_false]
  rfl

end

/-! ## Letterboxes (R391) -/

theorem Ctl.sameRegsBut_collide (c : Ctl) (n : Nat) :
    c.sameRegsBut (c.collide n) ([R.MBX_LB_COLLIDE, R.MBX_STATUS_COLLIDE_SEEN] ++ evtFields) := by
  unfold Ctl.collide
  split
  · exact Ctl.sameRegsBut_trans (Ctl.sameRegsBut_set _ _ _ _ _ (by simp))
      (Ctl.sameRegsBut_trans (Ctl.sameRegsBut_set _ _ _ _ _ (by simp)) (Ctl.sameRegsBut_raise _ _ _ _ _ (by simp +contextual)))
  · exact Ctl.sameRegsBut_refl _ _

theorem Ctl.sameRegsBut_showFull (c : Ctl) : c.sameRegsBut c.showFull [R.MBX_STATUS_FULL_MAP] := by
  unfold Ctl.showFull
  exact Ctl.sameRegsBut_set_right (Ctl.sameRegsBut_of_regs _ rfl) _ _ (by simp)

/-- Who sends to a letterbox rests on the allocation of the pairs alone. -/
theorem Ctl.sender_of_replied {c c' : Ctl} (h : Replied c c') (n : Nat) : c'.sender n = c.sender n := by
  have hen : ∀ i, c'.is R.MBX_ALLOC_EN i = c.is R.MBX_ALLOC_EN i := fun i => congrArg (· != 0) (h.regs _ _ (by decide))
  have hyard : ∀ i, c'.get R.MBX_ALLOC_YARD i = c.get R.MBX_ALLOC_YARD i := fun i => h.regs _ _ (by decide)
  simp only [Ctl.sender, Ctl.pairPeer, hen, hyard]

section
variable {c : Ctl} {m : Master} {n : Nat} (hown : c.sender n = some m)
include hown

/-- The sender's write of a data word. -/
theorem Ctl.lbData_own (w d : Nat) :
    c.lbData m n w d = ((c.collide n).set R.MBX_LB_DATA d (16 * n + w)).set R.MBX_STATUS_LAST 0 := by
  simp [Ctl.lbData, hown]

theorem Ctl.get_lbData_self (w d : Nat) : (c.lbData m n w d).get R.MBX_LB_DATA (16 * n + w) = d % 2 ^ 32 := by
  rw [Ctl.lbData_own hown, Ctl.get_set_field _ _ _ _ _ _ (by decide), Ctl.get_set_self]
  rfl

theorem Ctl.get_lbData_ne (w d : Nat) {j : Nat} (hj : j ≠ 16 * n + w) :
    (c.lbData m n w d).get R.MBX_LB_DATA j = c.get R.MBX_LB_DATA j := by
  rw [Ctl.lbData_own hown, Ctl.get_set_field _ _ _ _ _ _ (by decide), Ctl.get_set_ne _ _ _ _ _ _ (.inr hj.symm),
    c.sameRegsBut_collide n _ _ (by decide)]

/-- What the sender's write of LB_GO shows beside the letterbox is its pair's bell and the map of the full ones. -/
theorem Ctl.sameRegsBut_lbGo_own : ((((c.collide n).set R.MBX_LB_FULL 1 n).inc R.MBX_LB_LB_GO n).set R.MBX_STATUS_LAST 0).sameRegsBut
    (c.lbGo m n) (R.MBX_STATUS_FULL_MAP :: evtFields) := by
  unfold Ctl.lbGo
  rw [if_neg (by simp [hown])]
  extract_lets c1
  refine Ctl.sameRegsBut_trans (Ctl.sameRegsBut_when c1 (n % 2 == 1) (fun c => c.raise (Ev.MBX_BELL + n / 2) (n / 2)) _ ?_)
    (Ctl.sameRegsBut_mono (Ctl.sameRegsBut_showFull _) (by simp))
  exact Ctl.sameRegsBut_raise _ _ _ _ _ fun f hf => List.mem_cons_of_mem _ hf

/-- It fills the letterbox and leaves the words. -/
theorem Ctl.lbGo_own : (c.lbGo m n).get R.MBX_LB_FULL n = 1 ∧
    ∀ j, (c.lbGo m n).get R.MBX_LB_DATA j = c.get R.MBX_LB_DATA j := by
  constructor
  · rw [Ctl.sameRegsBut_lbGo_own hown _ _ (by decide), Ctl.get_set_field _ _ _ _ _ _ (by decide),
      Ctl.get_inc_field _ _ _ _ _ _ (by decide), Ctl.get_set_self]
    rfl
  · intro j
    rw [Ctl.sameRegsBut_lbGo_own hown _ _ (by decide), Ctl.get_set_field _ _ _ _ _ _ (by decide),
      Ctl.get_inc_field _ _ _ _ _ _ (by decide), Ctl.get_set_field _ _ _ _ _ _ (by decide),
      c.sameRegsBut_collide n _ _ (by decide)]

end

/-- The first `k` words of a letterbox, as the sender writes them in turn. -/
def Ctl.lbFill (c : Ctl) (m : Master) (n : Nat) (v : Nat → Nat) (k : Nat) : Ctl :=
  c.each (List.range k) fun c i => c.lbData m n i (v i)

theorem Ctl.lbFill_succ (c : Ctl) (m : Master) (n : Nat) (v : Nat → Nat) (k : Nat) :
    c.lbFill m n v (k + 1) = (c.lbFill m n v k).lbData m n k (v k) := by
  simp [Ctl.lbFill, Ctl.each, List.range_succ]

theorem Ctl.lbFill_keeps (c : Ctl) (m : Master) (n : Nat) (v : Nat → Nat) (k : Nat) :
    (c.lbFill m n v k).sender n = c.sender n ∧ (c.lbFill m n v k).seqs = c.seqs :=
  ⟨Ctl.sender_of_replied (Replied.each _ _ (fun c i => replied_lbData c m n i (v i)) c) n,
    Ctl.each_keeps (·.seqs) _ _ (fun c i => Ctl.lbData_seqs c m n i (v i)) c⟩

theorem Ctl.get_lbFill {c : Ctl} {m : Master} {n : Nat} (hown : c.sender n = some m) (v : Nat → Nat) {k i : Nat} (hi : i < k) :
    (c.lbFill m n v k).get R.MBX_LB_DATA (16 * n + i) = v i % 2 ^ 32 := by
  induction k with
  | zero => exact absurd hi (Nat.not_lt_zero i)
  | succ k ih =>
    have hown' : (c.lbFill m n v k).sender n = some m := (c.lbFill_keeps m n v k).1.trans hown
    rw [Ctl.lbFill_succ]
    by_cases hk : i = k
    · rw [hk, Ctl.get_lbData_self hown']
    · rw [Ctl.get_lbData_ne hown' _ _ (by omega), ih (by omega)]

/-- The receiver's read of LB_GO empties the letterbox. -/
theorem Ctl.get_lbRead_full {c : Ctl} {m : Master} {n : Nat} (hown : c.receiver n = some m) :
    (c.lbRead m n).1.get R.MBX_LB_FULL n = 0 := by
  have hread : (c.set R.MBX_LB_FULL 0 n).sameRegsBut (c.lbRead m n).1 (R.MBX_STATUS_FULL_MAP :: evtFields) := by
    unfold Ctl.lbRead
    extract_lets v full c1
    rw [if_neg (by simp [hown])]
    refine Ctl.sameRegsBut_trans (Ctl.sameRegsBut_mono (Ctl.sameRegsBut_showFull _) (by simp))
      (Ctl.sameRegsBut_when c1 _ (fun c => c.raise Ev.MBX_EMPTY (n / 2)) _ ?_)
    exact Ctl.sameRegsBut_raise _ _ _ _ _ fun f hf => List.mem_cons_of_mem _ hf
  rw [hread _ _ (by decide), Ctl.get_set_self, Nat.zero_mod]

theorem Ctl.getElem_lbWords (c : Ctl) (n : Nat) {i : Nat} (hi : i < (c.lbWords n).length) :
    (c.lbWords n)[i] = c.get R.MBX_LB_DATA (16 * n + i) := by
  simp [Ctl.lbWords]

/-! ## LBS, LBR and LBT (R206) -/

/-- MBX with no cause standing: no error of the word, and of a buffer none of the address. -/
theorem Ctl.issues_mbxStart {c : Ctl} {k : Issue} (h : c.issues k) (hecc : k.ecc = false) {a : Option Nat}
    (ha : a.bind (bufCause · 4 64) = none) : c.mbxStart k a = .ok (c.seq k.yard) := by
  simp only [Ctl.mbxStart, Ctl.issues_worst h, ha, hecc, Bool.false_eq_true, if_false]

section
variable {k : Issue} {x : Mach} (h : x.c.issues k) (hecc : k.ecc = false) {ra rd : Fin 32} {n : Fin 16}
include h hecc

theorem seqLbs_other (hmine : ¬(n.val < 8 ∧ x.c.sender n = some (.seq k.yard))) :
    seqLbs k rd ra n x = { x with c := x.c.mbxRd k.yard rd 4 } := by
  have hmine' : (decide (n.val < 8) && x.c.sender n == some (.seq k.yard)) = false := by simpa using hmine
  unfold seqLbs
  simp only [Ctl.issues_ready h, hmine', Ctl.issues_mbxStart h hecc (a := none) rfl, Bool.not_true, Bool.false_eq_true, if_false]

theorem seqLbs_own (hn : n.val < 8) (hown : x.c.sender n = some (.seq k.yard)) (halign : (x.c.seq k.yard).rs ra % 4 = 0)
    (hlo : 0x40000 ≤ (x.c.seq k.yard).rs ra) (hhi : (x.c.seq k.yard).rs ra + 64 ≤ 0x60000) : seqLbs k rd ra n x = { x with
      c := ((x.c.lbFill (.seq k.yard) n (fun i => x.m.dmem.rdN (dmemAt k.yard (x.c.seq k.yard).half
        ((x.c.seq k.yard).rs ra + 4 * i)) 4) 16).lbGo (.seq k.yard) n).mbxRd k.yard rd (16 * b2n (x.c.is R.MBX_LB_FULL n)) } := by
  have hmine : (decide (n.val < 8) && x.c.sender n == some (.seq k.yard)) = true := by simp [hn, hown]
  unfold seqLbs
  simp only [Ctl.issues_ready h, hmine, Ctl.issues_mbxStart h hecc (a := some _) (bufCause_none halign hlo hhi), Bool.not_true,
    Bool.false_eq_true, if_false, if_true]
  rfl

theorem seqLbr_other (hmine : ¬(n.val < 8 ∧ x.c.receiver n = some (.seq k.yard))) :
    seqLbr k rd ra n x = { x with c := x.c.mbxRd k.yard rd 4 } := by
  have hmine' : (decide (n.val < 8) && x.c.receiver n == some (.seq k.yard)) = false := by simpa using hmine
  unfold seqLbr
  simp only [Ctl.issues_ready h, hmine', Ctl.issues_mbxStart h hecc (a := none) rfl, Bool.not_true, Bool.not_false, Bool.false_and,
    Bool.false_eq_true, if_false, if_true]

variable (hn : n.val < 8) (hown : x.c.receiver n = some (.seq k.yard))
include hn hown

theorem seqLbr_empty (hfull : x.c.get R.MBX_LB_FULL n = 0) : seqLbr k rd ra n x = { x with c := x.c.mbxRd k.yard rd 3 } := by
  have hmine : (decide (n.val < 8) && x.c.receiver n == some (.seq k.yard)) = true := by simp [hn, hown]
  have hfull' : x.c.is R.MBX_LB_FULL n = false := congrArg (· != 0) hfull
  unfold seqLbr
  simp only [Ctl.issues_ready h, hmine, hfull', Ctl.issues_mbxStart h hecc (a := none) rfl, Bool.not_true, Bool.not_false,
    Bool.and_false, Bool.false_eq_true, if_false, if_true]

theorem seqLbr_full (hfull : x.c.get R.MBX_LB_FULL n = 1) (halign : (x.c.seq k.yard).rs ra % 4 = 0)
    (hlo : 0x40000 ≤ (x.c.seq k.yard).rs ra) (hhi : (x.c.seq k.yard).rs ra + 64 ≤ 0x60000) :
    seqLbr k rd ra n x = ⟨(x.c.lbRead (.seq k.yard) n).1.mbxRd k.yard rd 0, { x.m with
      dmem := x.m.dmem.wrWords (dmemAt k.yard (x.c.seq k.yard).half ((x.c.seq k.yard).rs ra)) (x.c.lbWords n) }⟩ := by
  have hmine : (decide (n.val < 8) && x.c.receiver n == some (.seq k.yard)) = true := by simp [hn, hown]
  have hfull' : x.c.is R.MBX_LB_FULL n = true := congrArg (· != 0) hfull
  unfold seqLbr
  simp only [Ctl.issues_ready h, hmine, hfull', Ctl.issues_mbxStart h hecc (a := some _) (bufCause_none halign hlo hhi), Bool.not_true,
    Bool.and_self, Bool.false_eq_true, if_false, if_true]

end

/-- A sequencer that MBX ends for has its result, whatever the letterbox did. -/
theorem Ctl.seq_mbxRd {c c' : Ctl} (h : c'.seqs = c.seqs) (y rd v : Nat) : (c'.mbxRd y rd v).seq y = ((c.seq y).ws rd v).adv :=
  (Ctl.seq_setSeq _ _ _).trans (congrArg (fun m => ((kgetD m y {}).ws rd v).adv) h)

theorem seqLbt_eq {k : Issue} {c : Ctl} (h : c.issues k) (hecc : k.ecc = false) (rd : Fin 32) (n : Fin 16) :
    seqLbt k rd n c = c.mbxRd k.yard rd
      (if n.val < 8 ∧ (c.sender n = some (.seq k.yard) ∨ c.receiver n = some (.seq k.yard)) then
        b2n (c.is R.MBX_LB_FULL n) + 2 * b2n (c.is R.MBX_LB_COLLIDE n) else 4) := by
  unfold seqLbt
  simp only [Ctl.issues_ready h, Ctl.issues_mbxStart h hecc (a := none) rfl, Bool.not_true, Bool.false_eq_true, if_false,
    Bool.and_eq_true, Bool.or_eq_true, decide_eq_true_eq, beq_iff_eq]

/-- Settles O32: each instruction by the lemma of its case; the words of a letterbox by those of the loop that copies them. -/
theorem sequencerLatchesAndLetterboxes : Obligations.SequencerLatchesAndLetterboxes := by
  unfold Obligations.SequencerLatchesAndLetterboxes
  intro k rd ra s q h hq
  subst hq
  refine ⟨fun n i hi => ⟨fun hfree => ?_, fun hheld => ?_, fun hown hwait => ?_⟩, fun n hmine hecc => ?_,
    fun n hn hown hecc halign hlo hhi => ?_, fun n hmine hecc => ?_,
    fun n hn hown hecc => ⟨fun hfull => ?_, fun hfull halign hlo hhi => ?_⟩,
    fun n hecc => ⟨fun hmine => ?_, fun hmine => ?_⟩⟩
  · refine ⟨_, next_of_ctl (f := seqLtry k rd ra n) rfl (seqLtry_free (c := { s.m.c with out := [] }) h hi hfree),
      Ctl.seq_setSeq _ _ _, ?_, fun j hj => Ctl.get_set_ne _ _ _ _ _ _ (.inr hj.symm), Ctl.sameRegsBut_set _ _ _ _ _ (by simp), rfl⟩
    exact (Ctl.get_set_self _ _ _ _).trans (ownerWord_mod k.yard)
  · exact next_of_ctl (f := seqLtry k rd ra n) rfl (seqLtry_held (c := { s.m.c with out := [] }) h hi hheld)
  · refine ⟨_, next_of_ctl (f := seqLrel k ra n) rfl (seqLrel_own (c := { s.m.c with out := [] }) h hi hown hwait), ?_,
      Ctl.seq_setSeq _ _ _, ?_, rfl⟩
    · exact Ctl.get_set_self { s.m.c with out := [] } R.LATCH 0 i
    · exact Ctl.sameRegsBut_set { s.m.c with out := [] } R.LATCH 0 i _ (List.mem_singleton_self _)
  · exact next_of_mach (f := seqLbs k rd ra n) rfl (seqLbs_other (x := s.m.fresh) h hecc hmine)
  · obtain ⟨hsender, hseqs⟩ := s.m.fresh.c.lbFill_keeps (.seq k.yard) n (fun i => s.m.m.dmem.rdN (dmemAt k.yard
      (s.m.c.seq k.yard).half ((s.m.c.seq k.yard).rs ra + 4 * i)) 4) 16
    obtain ⟨hfull, hdata⟩ := Ctl.lbGo_own (hsender.trans hown)
    refine ⟨_, next_of_mach (f := seqLbs k rd ra n) rfl (seqLbs_own (x := s.m.fresh) h hecc hn hown halign hlo hhi), hfull,
      fun i hi => ?_, Ctl.seq_mbxRd ((Ctl.lbGo_seqs _ _ _).trans hseqs) _ _ _, rfl⟩
    refine (hdata _).trans ((Ctl.get_lbFill (c := s.m.fresh.c) hown _ hi).trans (Nat.mod_eq_of_lt ?_))
    exact (leVal_lt _).trans_eq (by rw [Mem.length_rds]; rfl)
  · exact next_of_mach (f := seqLbr k rd ra n) rfl (seqLbr_other (x := s.m.fresh) h hecc hmine)
  · exact next_of_mach (f := seqLbr k rd ra n) rfl (seqLbr_empty (x := s.m.fresh) h hecc hn hown hfull)
  · refine ⟨_, next_of_mach (f := seqLbr k rd ra n) rfl (seqLbr_full (x := s.m.fresh) h hecc hn hown hfull halign hlo hhi),
      Ctl.get_lbRead_full (c := s.m.fresh.c) hown, Ctl.seq_mbxRd (Ctl.lbRead_seqs s.m.fresh.c _ _) _ _ _, fun i hi => ?_⟩
    have hlen : i < (s.m.c.lbWords n).length := by simpa [Ctl.lbWords] using hi
    exact (Mem.rdN_wrWords _ _ _ hlen).trans (by rw [Ctl.getElem_lbWords])
  · exact next_of_ctl (f := seqLbt k rd n) rfl ((seqLbt_eq (c := { s.m.c with out := [] }) h hecc rd n).trans
      (congrArg (Ctl.mbxRd _ k.yard rd) (if_pos hmine)))
  · exact next_of_ctl (f := seqLbt k rd n) rfl ((seqLbt_eq (c := { s.m.c with out := [] }) h hecc rd n).trans
      (congrArg (Ctl.mbxRd _ k.yard rd) (if_neg hmine)))

end Sys2Proof.Machine
end

section
/-! PROOFS. Only a storm-store update writes the flash of the storm door (R228, R449). -/
namespace Sys2Proof.Machine

/-- A meaning that edits the memories leaves the storm store as it was. -/
theorem State.Edits.nor {s t : State} {o : Host.Outcome State Fault Refusal} (h : s.Edits o) (e : o = .next t) :
    t.m.m.nor = s.m.m.nor := by
  obtain ⟨f, rfl, hf⟩ := h
  cases e
  exact (hf s.m.fresh).nor

/-- Settles O5: every command but the update's two edits the memories, and an idle step edits none. -/
theorem flashIsolation : Obligations.FlashIsolation := by
  unfold Obligations.FlashIsolation
  intro s t l hl hupdate hdone e
  unfold step at e
  rw [hl] at e
  cases l with
  | nil => exact (s.edits_ctl Ctl.timeCycle).nor e
  | cons c rest =>
    have hc : State.Edits { s with pending := rest } (exec c { s with pending := rest }) :=
      exec_edits c _ (fun p hp => hupdate p rest (hp ▸ rfl)) (fun hd => hdone rest (hd ▸ rfl))
    exact hc.nor e

end Sys2Proof.Machine
end

section
/-! PROOFS. The storm door's own state: what records, programmes and zones that are taken leave of it, and what a zone that is
taken reads as (R230, R234, R240). -/
namespace Sys2Proof.Machine

/-! ## One round of a list's updates -/

/-- A reading that no round of a list's updates enters, the rounds being those of the list. -/
theorem Ctl.each_keeps_of_mem {α β : Type} (p : Ctl → β) (f : Ctl → α → Ctl) (l : List α)
    (h : ∀ c, ∀ a ∈ l, p (f c a) = p c) (c : Ctl) :
    p (c.each l f) = p c := by
  induction l generalizing c with
  | nil => rfl
  | cons a l ih =>
    exact (ih (fun c b hb => h c b (List.mem_cons_of_mem _ hb)) (f c a)).trans (h c a (List.mem_cons_self ..))

/-- The round of one element of a list, with those before and after it. -/
theorem Ctl.each_split {α : Type} {l : List α} {a : α} (hnd : l.Nodup) (ha : a ∈ l) :
    ∃ l₁ l₂ : List α, a ∉ l₁ ∧ a ∉ l₂ ∧ (∀ b ∈ l₁ ++ l₂, b ∈ l) ∧
      ∀ (c : Ctl) (f : Ctl → α → Ctl), c.each l f = (f (c.each l₁ f) a).each l₂ f := by
  obtain ⟨l₁, l₂, rfl⟩ := List.append_of_mem ha
  rw [List.nodup_append] at hnd
  obtain ⟨-, h₂, hne⟩ := hnd
  refine ⟨l₁, l₂, fun h => hne a h a (List.mem_cons_self ..) rfl, (List.nodup_cons.1 h₂).1, fun b hb => ?_, fun c f => ?_⟩
  · rcases List.mem_append.1 hb with hb | hb
    · exact List.mem_append_left _ hb
    · exact List.mem_append_right _ (List.mem_cons_of_mem _ hb)
  · rw [Ctl.each, List.foldl_append]
    rfl

/-! ## Refusals and the journal (R10, R239, R249) -/

/-- A command of one of the door's blocks that is refused with STATE (R10, R239). -/
theorem Ctl.status_refused (c : Ctl) (last err : Reg) (ev : Nat) (hl : last.width = 4) (he : err.width = 1)
    (hev : ∀ f ∈ evtFields, f.id ≠ last.id ∧ f.id ≠ err.id) (hne : err.id ≠ last.id) :
    (c.status last err ev 1).get last = 1 ∧ (c.status last err ev 1).get err = 1 ∧
      c.sameRegsBut (c.status last err ev 1) ([last, err] ++ evtFields) := by
  refine ⟨?_, ?_, c.sameRegsBut_status _ _ _ _ _ _⟩ <;> rw [Ctl.status_one]
  · rw [Ctl.get_raise _ _ _ _ _ _ (fun f hf => (hev f hf).1), Ctl.get_set_field _ _ _ _ _ _ hne, Ctl.get_set_self, hl]
    rfl
  · rw [Ctl.get_raise _ _ _ _ _ _ (fun f hf => (hev f hf).2), Ctl.get_set_self, he]
    rfl

/-- What the hinge's journal leaves of the control state. -/
theorem Ctl.jot_keeps {β : Type} (p : Ctl → β) (hset : ∀ (c : Ctl) (r : Reg) (v i : Nat), p (c.set r v i) = p c)
    (hhng : ∀ (c : Ctl) (h : HngSt), p { c with hng := h } = p c) (c : Ctl) (kind loc value : Nat) (args : List Nat) :
    p (c.jot kind loc value args) = p c := by
  unfold Ctl.jot
  extract_lets h
  split
  · rfl
  · split
    · rw [hset, hhng]
    · exact hhng _ _

/-! ## Readings that records and programmes do not enter (R230, R240) -/

/-- A reading of the storm door's state that its records and its programmes do not enter. -/
def StormSt.Apart {β : Type} (p : StormSt → β) : Prop :=
  ∀ (st : StormSt) (progs : Keyed Prog) (evq : List EvRec) (n : Nat), p { st with progs := progs, evq := evq, evqLost := n } = p st

theorem StormSt.apart_plans : StormSt.Apart (·.plans) := fun _ _ _ _ => rfl
theorem StormSt.apart_inForce : StormSt.Apart (·.inForce) := fun _ _ _ _ => rfl
theorem StormSt.apart_bqForce : StormSt.Apart (·.bqForce) := fun _ _ _ _ => rfl
theorem StormSt.apart_hdrOk : StormSt.Apart (·.hdrOk) := fun _ _ _ _ => rfl
theorem StormSt.apart_ready : StormSt.Apart (·.ready) := fun _ _ _ _ => rfl

section
variable {β : Type} {p : StormSt → β} (hp : StormSt.Apart p)
include hp

theorem Ctl.raise_apart (c : Ctl) (src info detail : Nat) : p (c.raise src info detail).storm = p c.storm := by
  rw [(evtOnly_raise c src info detail).shape]
  exact hp _ _ _ _

theorem Ctl.showProg_apart (c : Ctl) : p c.showProg.storm = p c.storm := by
  unfold Ctl.showProg
  extract_lets c1 play want msgs toned lost progs _ c2
  have h1 : p c1.storm = p c.storm := Ctl.each_keeps (fun c => p c.storm) _ _ (fun c z => by rfl) c
  have h2 : p c2.storm = p c1.storm := hp _ _ _ _
  refine (Ctl.each_keeps (fun c => p c.storm) _ _ (fun c q => ?_) c2).trans (h2.trans h1)
  exact Ctl.raise_apart hp _ _ _ _

/-- Taking zones enters, beside the programmes, the zones that may return and the fades (R234, R235). -/
theorem Ctl.takeZones_apart (hr : ∀ (st : StormSt) (l : List Nat), p { st with ready := l } = p st)
    (hf : ∀ (st : StormSt) (m : Counts), p { st with fadeIn := m } = p st) (c : Ctl) (cause : Nat) (zs : List Nat) :
    p (c.takeZones cause zs).storm = p c.storm := by
  unfold Ctl.takeZones
  split
  · rfl
  · unfold Ctl.takeAs
    extract_lets _ c1
    have h1 : p c1.storm = p c.storm := hr _ _
    split
    · exact h1
    · next z0 zs' _ =>
      extract_lets c2 c3
      have h2 : p c2.storm = p c1.storm := by
        refine Ctl.each_keeps (fun c => p c.storm) _ _ (fun c z => ?_) c1
        extract_lets fresh c4 c5 c6 fade _
        have h5 : c5.storm = c4.storm := Ctl.when_keeps (·.storm) _ _ _ rfl
        exact (hf _ _).trans (congrArg p h5)
      exact (Ctl.showProg_apart hp _).trans ((Ctl.raise_apart hp _ _ _ _).trans (h2.trans h1))

end

theorem Ctl.takeZones_plans (c : Ctl) (cause : Nat) (zs : List Nat) : (c.takeZones cause zs).storm.plans = c.storm.plans :=
  Ctl.takeZones_apart StormSt.apart_plans (fun _ _ => rfl) (fun _ _ => rfl) c cause zs

theorem Ctl.takeFor_plans (c : Ctl) (cause p : Nat) (zs : List Nat) : (c.takeFor cause p zs).storm.plans = c.storm.plans :=
  c.takeZones_plans cause zs

theorem Ctl.planRt_eq {c c' : Ctl} (h : c'.storm.plans = c.storm.plans) (p : Nat) : c'.planRt p = c.planRt p :=
  congrArg (fun m => kgetD m p ({} : PlanRt)) h

@[simp] theorem Ctl.planRt_setPlanRt (c : Ctl) (p : Nat) (r : PlanRt) : (c.setPlanRt p r).planRt p = r := kgetD_kput_self _ _ _ _

theorem Ctl.planRt_setPlanRt_ne (c : Ctl) {p q : Nat} (r : PlanRt) (h : q ≠ p) : (c.setPlanRt p r).planRt q = c.planRt q :=
  kgetD_kput_ne _ _ _ h

/-! ## Zones that are taken (R234, R251) -/

theorem Ctl.sameRegsBut_takeFor (c : Ctl) (cause p : Nat) (zs : List Nat) : c.sameRegsBut (c.takeFor cause p zs) takeFields :=
  c.sameRegsBut_takeZones cause zs

/-- A field that each round of a list's updates sets to one value at its element. -/
theorem Ctl.get_each_as (r : Reg) (v : Nat) (f : Ctl → Nat → Ctl)
    (h : ∀ (c : Ctl) (a j : Nat), (f c a).get r j = (c.set r v a).get r j) (l : List Nat) (c : Ctl) (j : Nat) :
    (c.each l f).get r j = if j ∈ l then v % 2 ^ r.width else c.get r j := by
  induction l generalizing c with
  | nil => rfl
  | cons a l ih =>
    refine (ih (f c a)).trans ?_
    rw [h]
    by_cases hj : j = a
    · subst hj
      simp
    · simp [hj, Ctl.get_set_ne _ _ _ _ _ _ (.inr (Ne.symm hj))]

/-- The storm door owns every zone that it takes. -/
theorem Ctl.owner_takeAs (c : Ctl) (cause : Nat) {zs : List Nat} {z : Nat} (hz : z ∈ zs) :
    (c.takeAs cause zs).get R.ZONE_OWNER z = 1 := by
  unfold Ctl.takeAs
  extract_lets _ c1
  have hnew : c1.get R.ZONE_OWNER z ≠ 1 → z ∈ zs.filter (fun z => c1.get R.ZONE_OWNER z != 1) := fun h =>
    List.mem_filter.2 ⟨hz, bne_iff_ne.2 h⟩
  split
  · next hnil =>
    rw [hnil] at hnew
    exact Classical.byContradiction fun h => List.not_mem_nil (hnew h)
  · next z0 zs' hcons =>
    extract_lets c2 c3
    rw [hcons] at hnew
    have h2 : c2.get R.ZONE_OWNER z = 1 := by
      refine (Ctl.get_each_as R.ZONE_OWNER 1 _ (fun c a j => ?_) _ c1 z).trans ?_
      · extract_lets fresh c4 c5 c6 fade _
        have h5 : c5.get R.ZONE_OWNER j = c4.get R.ZONE_OWNER j :=
          Ctl.when_keeps (·.get R.ZONE_OWNER j) _ _ _ (Ctl.get_set_field _ _ _ _ _ _ (by decide))
        have h6 : c6.get R.ZONE_OWNER j = c5.get R.ZONE_OWNER j := by
          simp (disch := decide) only [c6, Ctl.get_set_field]
        exact h6.trans (h5.trans (Ctl.get_set_field _ _ _ _ _ _ (by decide)))
      · split
        · rfl
        · next h => exact Classical.byContradiction fun k => h (hnew k)
    have h3 : c3.get R.ZONE_OWNER z = c2.get R.ZONE_OWNER z := by
      unfold c3
      simp (disch := decide) only [Ctl.get_set_field]
    rw [Ctl.sameRegsBut_showProg _ _ _ (by decide), Ctl.sameRegsBut_faults _ _ _ (by decide), Ctl.get_raise _ _ _ _ _ _ (by decide),
      h3, h2]

theorem Ctl.owner_takeZones (c : Ctl) (cause : Nat) {zs : List Nat} {z : Nat} (harmed : c.is R.STORM_STATUS_ARMED = true)
    (hrole : c.get R.HNG_STATUS_ROLE ≠ 3) (hz : z ∈ zs) : (c.takeZones cause zs).get R.ZONE_OWNER z = 1 := by
  rw [Ctl.takeZones, harmed, if_neg (by simpa using hrole)]
  exact c.owner_takeAs cause hz

theorem Ctl.owner_takeFor (c : Ctl) (cause p : Nat) {zs : List Nat} {z : Nat} (harmed : c.is R.STORM_STATUS_ARMED = true)
    (hrole : c.get R.HNG_STATUS_ROLE ≠ 3) (hz : z ∈ zs) : (c.takeFor cause p zs).get R.ZONE_OWNER z = 1 :=
  c.owner_takeZones cause harmed hrole hz

end Sys2Proof.Machine
end

section
/-! PROOFS. Requests to open and close shutters, and the boundary that carries them out (R8, R216 to R218, R248, R249). -/
namespace Sys2Proof.Machine

/-! ## Requests (R216, R217) -/

/-- The requests to open that are noted with those of word `i` (R216). -/
def Ctl.openAsked (c : Ctl) (i d : Nat) : Ctl :=
  { c with fire := { c.fire with openReq := cset c.fire.openReq i (cget c.fire.openReq i ||| d) } }.set R.SHUT_STATUS_LAST 0

/-- The requests to close that are noted with those of word `i` (R217). -/
def Ctl.closeAsked (c : Ctl) (i d : Nat) : Ctl :=
  { c with fire := { c.fire with closeReq := cset c.fire.closeReq i (cget c.fire.closeReq i ||| d) } }.set R.SHUT_STATUS_LAST 0

theorem Ctl.shutOpen_accepted (c : Ctl) {i d : Nat} (h : ∀ f ∈ wordFeeds i d, c.mayOpen f = true) : c.shutOpen i d = c.openAsked i d :=
  if_pos (List.all_eq_true.2 h)

theorem Ctl.shutOpen_refused (c : Ctl) {i d : Nat} (h : ∃ f ∈ wordFeeds i d, c.mayOpen f = false) : c.shutOpen i d = c.shutStatus 1 := by
  obtain ⟨f, hf, hno⟩ := h
  refine if_neg fun hall => ?_
  rw [List.all_eq_true.1 hall f hf] at hno
  cases hno

theorem Ctl.openAsked_spec (c : Ctl) (i d : Nat) :
    cget (c.openAsked i d).fire.openReq i = cget c.fire.openReq i ||| d ∧ (c.openAsked i d).get R.SHUT_STATUS_LAST = 0 ∧
      c.sameRegsBut (c.openAsked i d) [R.SHUT_STATUS_LAST] :=
  ⟨cget_cset_self _ _ _, Ctl.get_set_self _ _ _ _,
    Ctl.sameRegsBut_set_right (Ctl.sameRegsBut_of_regs _ rfl) _ _ (List.mem_singleton_self _)⟩

theorem Ctl.closeAsked_spec (c : Ctl) (i d : Nat) :
    cget (c.closeAsked i d).fire.closeReq i = cget c.fire.closeReq i ||| d ∧ (c.closeAsked i d).get R.SHUT_STATUS_LAST = 0 ∧
      c.sameRegsBut (c.closeAsked i d) [R.SHUT_STATUS_LAST] :=
  ⟨cget_cset_self _ _ _, Ctl.get_set_self _ _ _ _,
    Ctl.sameRegsBut_set_right (Ctl.sameRegsBut_of_regs _ rfl) _ _ (List.mem_singleton_self _)⟩

theorem Ctl.shutStatus_refused (c : Ctl) : (c.shutStatus 1).get R.SHUT_STATUS_LAST = 1 ∧ (c.shutStatus 1).get R.SHUT_STATUS_ERR_STATE = 1 ∧
    c.sameRegsBut (c.shutStatus 1) ([R.SHUT_STATUS_LAST, R.SHUT_STATUS_ERR_STATE] ++ evtFields) ∧ (c.shutStatus 1).fire = c.fire := by
  obtain ⟨hlast, herr, hregs⟩ := c.status_refused R.SHUT_STATUS_LAST R.SHUT_STATUS_ERR_STATE Ev.FIRE_STATE rfl rfl (by decide) (by decide)
  refine ⟨hlast, herr, hregs, ?_⟩
  rw [Ctl.shutStatus, Ctl.status_one, Ctl.raise_fire]
  rfl

theorem shutOpenRequest_off (m : Master) (i d : Nat) (c : Ctl) (hsec : c.secure m = true) (hrole : c.get R.HNG_STATUS_ROLE = 0) :
    shutOpenRequest m i d c = c.shutOpen i d := by
  rw [shutOpenRequest, Ctl.ifSecure_true _ _ _ _ hsec, Ctl.hngGate_off _ _ _ _ _ _ hrole]

theorem shutOpenRequest_denied (m : Master) (i d : Nat) (c : Ctl) (hsec : c.secure m = false) :
    shutOpenRequest m i d c = c.denied m (0xD0100 + 4 * i) := Ctl.ifSecure_false _ _ _ _ hsec

theorem shutCloseRequest_denied (m : Master) (i d : Nat) (c : Ctl) (hsec : c.secure m = false) :
    shutCloseRequest m i d c = c.denied m (0xD0180 + 4 * i) := by
  rw [shutCloseRequest, Ctl.ifSecure_false _ _ _ _ hsec]

theorem Ctl.hngBar_of_off {c : Ctl} (m : Master) (h : c.get R.HNG_STATUS_ROLE = 0) : c.hngBar m ≠ 1 := by
  simp [Ctl.hngBar, h]

theorem Ctl.hngBar_cases (c : Ctl) (m : Master) : c.hngBar m = 0 ∨ c.hngBar m = 1 ∨ c.hngBar m = 3 := by
  unfold Ctl.hngBar
  split_ifs <;> simp

/-- The keeper's pass that a nearly full journal gives a closing, and a module that is no standby, leave the closing to the
journal (R216, R249; log entry 45). -/
theorem shutCloseRequest_taken (m : Master) (i d : Nat) (c : Ctl) (hsec : c.secure m = true) (hbar : c.hngBar m ≠ 1) :
    shutCloseRequest m i d c = (c.jot 0 ((0xD0180 + 4 * i) / 4) d).closeAsked i d := by
  have hpass : c.hngBar (if c.hngBar m = 3 then .keeper else m) = 0 := by
    rcases c.hngBar_cases m with h | h | h
    · rw [if_neg (by omega), h]
    · exact absurd h hbar
    · rw [if_pos h]
      rfl
  rw [shutCloseRequest, Ctl.ifSecure_true _ _ _ _ hsec, Ctl.hngGate]
  simp only [hpass, if_true]
  exact if_pos (Ctl.closeAsked_spec _ i d).2.1

/-! ## The boundary (R217, R218) -/

/-- The feeds of word `i` that are open once the requests of a boundary have come into effect (R217, R218). -/
def Ctl.shutNow (c : Ctl) (i : Nat) : Nat :=
  andNot 32 (c.get R.SHUT_OPEN i ||| cget c.fire.openDue i) (cget c.fire.closeDue i ||| cget c.fire.autoDue i)

/-- What SHUT_OPEN and SHUT_AUTO show of it. -/
def Ctl.shutShown (c : Ctl) (i : Nat) : Ctl :=
  let shut := cget c.fire.autoDue i &&& c.get R.SHUT_OPEN i
  let c' := c.set R.SHUT_OPEN (c.shutNow i) i
  if shut = 0 then c' else (c'.set R.SHUT_AUTO (c'.get R.SHUT_AUTO i ||| shut) i).set R.SHUT_STATUS_AUTO_SEEN 1

theorem Ctl.get_shutWord (c : Ctl) (i : Nat) {r : Reg} (h : ∀ f ∈ R.FEED_SHUT :: evtFields, f.id ≠ r.id) (j : Nat) :
    (c.shutWord i).get r j = (c.shutShown i).get r j := by
  have hfeeds : ∀ (l : List Nat) (v : Nat) (c : Ctl), c.sameRegsBut (c.each l (fun c f => c.set R.FEED_SHUT v f)) (R.FEED_SHUT :: evtFields) :=
    fun l v => Ctl.sameRegsBut_each _ _ _ fun c f _ => c.sameRegsBut_set _ _ _ _ (List.mem_cons_self ..)
  have hraise : ∀ (l : List Nat) (c : Ctl), c.sameRegsBut (c.each l (fun c f => c.raise Ev.SHUT_AUTO f)) (R.FEED_SHUT :: evtFields) :=
    fun l => Ctl.sameRegsBut_each _ _ _ fun c f _ => c.sameRegsBut_raise _ _ _ _ fun f hf => List.mem_cons_of_mem _ hf
  unfold Ctl.shutWord Ctl.shutShown
  extract_lets was auto now c1 shut c2 c3 c4 opening closing shut' c1'
  have h4 : c4.get r j = c2.get r j := (hfeeds _ _ c3 r j h).trans (hfeeds _ _ c2 r j h)
  refine h4.trans ?_
  unfold c2
  split
  · rfl
  · exact hraise _ _ r j h

/-- The requests that a boundary took stay as they are while the words are carried out. -/
theorem Ctl.shutWord_due (c : Ctl) (i : Nat) : (c.shutWord i).fire.openDue = c.fire.openDue ∧
    (c.shutWord i).fire.closeDue = c.fire.closeDue ∧ (c.shutWord i).fire.autoDue = c.fire.autoDue := by
  have hraise : ∀ (l : List Nat) (c : Ctl), (c.each l (fun c f => c.raise Ev.SHUT_AUTO f)).fire = c.fire :=
    fun l => Ctl.each_keeps (·.fire) _ _ fun c f => c.raise_fire _ _ _
  have hfeeds : ∀ (l : List Nat) (v : Nat) (c : Ctl), (c.each l (fun c f => c.set R.FEED_SHUT v f)).fire = c.fire :=
    fun l v => Ctl.each_keeps (·.fire) _ _ fun _ _ => rfl
  unfold Ctl.shutWord
  extract_lets was auto now c1 shut c2 c3 c4 opening closing
  have h2 : c2.fire = c.fire := by
    unfold c2
    split
    · rfl
    · exact hraise _ _
  have h4 : c4.fire = c.fire := (hfeeds _ _ c3).trans ((hfeeds _ _ c2).trans h2)
  exact ⟨congrArg (·.openDue) h4, congrArg (·.closeDue) h4, congrArg (·.autoDue) h4⟩

theorem Ctl.shutNow_lt (c : Ctl) (i : Nat) : c.shutNow i < 2 ^ 32 :=
  Nat.lt_of_le_of_lt Nat.and_le_right (by omega)

theorem Ctl.shutShown_open (c : Ctl) (i : Nat) : (c.shutShown i).get R.SHUT_OPEN i = c.shutNow i := by
  have hset : (c.set R.SHUT_OPEN (c.shutNow i) i).get R.SHUT_OPEN i = c.shutNow i :=
    (Ctl.get_set_self _ _ _ _).trans (Nat.mod_eq_of_lt (c.shutNow_lt i))
  unfold Ctl.shutShown
  extract_lets shut c1
  split
  · exact hset
  · simp (disch := decide) only [Ctl.get_set_field]
    exact hset

theorem Ctl.shutShown_other (c : Ctl) {i j : Nat} (h : j ≠ i) : (c.shutShown i).get R.SHUT_OPEN j = c.get R.SHUT_OPEN j ∧
    (c.shutShown i).get R.SHUT_AUTO j = c.get R.SHUT_AUTO j := by
  unfold Ctl.shutShown
  extract_lets shut c1
  have hopen : c1.get R.SHUT_OPEN j = c.get R.SHUT_OPEN j := Ctl.get_set_ne _ _ _ _ _ _ (.inr h.symm)
  have hauto : c1.get R.SHUT_AUTO j = c.get R.SHUT_AUTO j := Ctl.get_set_field _ _ _ _ _ _ (by decide)
  split
  · exact ⟨hopen, hauto⟩
  · simp (disch := decide) only [Ctl.get_set_field]
    exact ⟨hopen, (Ctl.get_set_ne _ _ _ _ _ _ (.inr h.symm)).trans hauto⟩

theorem Ctl.shutShown_seen (c : Ctl) (i : Nat) (h : c.get R.SHUT_STATUS_AUTO_SEEN = 1) : (c.shutShown i).get R.SHUT_STATUS_AUTO_SEEN = 1 := by
  unfold Ctl.shutShown
  extract_lets shut c1
  split
  · exact (Ctl.get_set_field _ _ _ _ _ _ (by decide)).trans h
  · exact Ctl.get_set_self _ _ _ _

/-- An open shutter that R218 closes shows in SHUT_AUTO. -/
theorem Ctl.shutShown_auto (c : Ctl) {i b : Nat} (hb : b < 32) (hauto : bit (cget c.fire.autoDue i) b = true)
    (hopen : bit (c.get R.SHUT_OPEN i) b = true) :
    bit ((c.shutShown i).get R.SHUT_AUTO i) b = true ∧ (c.shutShown i).get R.SHUT_STATUS_AUTO_SEEN = 1 := by
  have hbit : (cget c.fire.autoDue i &&& c.get R.SHUT_OPEN i).testBit b = true := by
    rw [Nat.testBit_and, ← bit_eq_testBit, ← bit_eq_testBit, hauto, hopen]
    rfl
  unfold Ctl.shutShown
  extract_lets shut c1
  have hshut : shut ≠ 0 := fun h0 => by simp [show cget c.fire.autoDue i &&& c.get R.SHUT_OPEN i = 0 from h0] at hbit
  rw [if_neg hshut]
  refine ⟨?_, Ctl.get_set_self _ _ _ _⟩
  rw [Ctl.get_set_field _ _ _ _ _ _ (by decide), Ctl.get_set_self, bit_mod _ _ _ (show b < R.SHUT_AUTO.width from hb), bit_eq_testBit,
    Nat.testBit_or, hbit, Bool.or_true]

/-- What the readings of word `i` are before and after its own round, in a loop over the words. -/
theorem Ctl.each_shutWord (l : List Nat) (c : Ctl) {i : Nat} (hi : i ∉ l) :
    (c.each l Ctl.shutWord).get R.SHUT_OPEN i = c.get R.SHUT_OPEN i ∧ (c.each l Ctl.shutWord).get R.SHUT_AUTO i = c.get R.SHUT_AUTO i ∧
      (c.get R.SHUT_STATUS_AUTO_SEEN = 1 → (c.each l Ctl.shutWord).get R.SHUT_STATUS_AUTO_SEEN = 1) ∧
      (c.each l Ctl.shutWord).fire.openDue = c.fire.openDue ∧ (c.each l Ctl.shutWord).fire.closeDue = c.fire.closeDue ∧
      (c.each l Ctl.shutWord).fire.autoDue = c.fire.autoDue := by
  induction l generalizing c with
  | nil => exact ⟨rfl, rfl, id, rfl, rfl, rfl⟩
  | cons a l ih =>
    obtain ⟨hne, hl⟩ := not_or.1 (List.mem_cons.not.1 hi)
    obtain ⟨hopen, hauto, hseen, ho, hc, ha⟩ := ih (c.shutWord a) hl
    obtain ⟨ho', hc', ha'⟩ := c.shutWord_due a
    obtain ⟨hopen', hauto'⟩ := c.shutShown_other hne
    refine ⟨hopen.trans ((c.get_shutWord a (by decide) i).trans hopen'), hauto.trans ((c.get_shutWord a (by decide) i).trans hauto'),
      fun h => hseen ?_, ho.trans ho', hc.trans hc', ha.trans ha'⟩
    exact (c.get_shutWord a (by decide) 0).trans (c.shutShown_seen a h)

theorem Ctl.each_shutWord_at (c : Ctl) {n i : Nat} (hi : i < n) :
    (c.each (List.range n) Ctl.shutWord).get R.SHUT_OPEN i = c.shutNow i ∧
      (∀ b < 32, bit (cget c.fire.autoDue i) b = true → bit (c.get R.SHUT_OPEN i) b = true →
        bit ((c.each (List.range n) Ctl.shutWord).get R.SHUT_AUTO i) b = true ∧
          (c.each (List.range n) Ctl.shutWord).get R.SHUT_STATUS_AUTO_SEEN = 1) := by
  obtain ⟨l, r, hl, hr, -, hsplit⟩ := Ctl.each_split List.nodup_range (List.mem_range.2 hi)
  obtain ⟨hopen, -, -, ho, hc, ha⟩ := c.each_shutWord l hl
  obtain ⟨hopen', hauto', hseen', -⟩ := Ctl.each_shutWord r ((c.each l Ctl.shutWord).shutWord i) hr
  have hnow : (c.each l Ctl.shutWord).shutNow i = c.shutNow i := by simp only [Ctl.shutNow, hopen, ho, hc, ha]
  rw [hsplit]
  refine ⟨?_, fun b hb hab hob => ?_⟩
  · rw [hopen', Ctl.get_shutWord _ _ (by decide), Ctl.shutShown_open, hnow]
  · obtain ⟨hbit, hseen⟩ := Ctl.shutShown_auto (c.each l Ctl.shutWord) (i := i) hb (ha ▸ hab) (hopen ▸ hob)
    refine ⟨?_, hseen' ((Ctl.get_shutWord _ _ (by decide) _).trans hseen)⟩
    rw [hauto', Ctl.get_shutWord _ _ (by decide)]
    exact hbit

/-- The end of a boundary's changes: nothing waits any more, and OPEN counts the open feeds. -/
def Ctl.shutDone (c : Ctl) : Ctl :=
  { c with fire := { c.fire with openDue := [], closeDue := [], autoDue := [] } }.set R.SHUT_STATUS_OPEN
    ((List.range 24).foldl (fun n i => n + (bitsOf 32 (c.get R.SHUT_OPEN i)).length) 0)

theorem Ctl.shutDone_spec (c : Ctl) : c.shutDone.fire.openDue = [] ∧ c.shutDone.fire.closeDue = [] ∧ c.shutDone.fire.autoDue = [] ∧
    c.sameRegsBut c.shutDone [R.SHUT_STATUS_OPEN] :=
  ⟨rfl, rfl, rfl, Ctl.sameRegsBut_set_right (Ctl.sameRegsBut_of_regs _ rfl) _ _ (List.mem_singleton_self _)⟩

theorem shutterChange_due (c : Ctl) (h : c.fire.openDue ≠ [] ∨ c.fire.closeDue ≠ [] ∨ c.fire.autoDue ≠ []) :
    shutterChange c = (c.each (List.range 24) Ctl.shutWord).shutDone := by
  refine if_neg fun hnone => ?_
  simp only [Bool.and_eq_true, List.isEmpty_iff] at hnone
  tauto

theorem shutterChange_none (c : Ctl) (ho : c.fire.openDue = []) (hc : c.fire.closeDue = []) (ha : c.fire.autoDue = []) :
    shutterChange c = c := by
  simp [shutterChange, ho, hc, ha]

/-! ## The statement -/

/-- Settles O33: a request by the gate and the check of its feeds, the boundary by the round of each word. -/
theorem shutterRequests : Obligations.ShutterRequests := by
  unfold Obligations.ShutterRequests
  intro s m i d
  refine ⟨fun hsec hrole => ⟨fun hall => ?_, fun hno => ?_, ?_⟩, fun hsec hbar => ?_, fun hsec => ⟨?_, ?_⟩, fun hdue => ?_,
    fun ho hc ha => ?_⟩
  · have heq := (shutOpenRequest_off m i d.toNat s.m.fresh.c hsec hrole).trans (Ctl.shutOpen_accepted _ hall)
    obtain ⟨hreq, hlast, hregs⟩ := Ctl.openAsked_spec s.m.fresh.c i d.toNat
    exact ⟨_, next_of_ctl rfl heq, hreq, hlast, hregs, rfl⟩
  · have heq := (shutOpenRequest_off m i d.toNat s.m.fresh.c hsec hrole).trans (Ctl.shutOpen_refused _ hno)
    obtain ⟨hlast, herr, hregs, hfire⟩ := Ctl.shutStatus_refused s.m.fresh.c
    exact ⟨_, next_of_ctl rfl heq, congrArg (·.openReq) hfire, hlast, herr, hregs, rfl⟩
  · have heq := shutCloseRequest_taken m i d.toNat s.m.fresh.c hsec (Ctl.hngBar_of_off m hrole)
    rw [Ctl.jot_of_role _ _ _ _ _ (by simp [hrole])] at heq
    obtain ⟨hreq, hlast, hregs⟩ := Ctl.closeAsked_spec s.m.fresh.c i d.toNat
    exact ⟨_, next_of_ctl rfl heq, hreq, hlast, hregs, rfl⟩
  · have heq := shutCloseRequest_taken m i d.toNat s.m.fresh.c hsec hbar
    obtain ⟨hreq, hlast, -⟩ := Ctl.closeAsked_spec (s.m.fresh.c.jot 0 ((0xD0180 + 4 * i.val) / 4) d.toNat) i d.toNat
    have hfire := s.m.fresh.c.jot_keeps (·.fire) (fun _ _ _ _ => rfl) (fun _ _ => rfl) 0 ((0xD0180 + 4 * i.val) / 4) d.toNat []
    exact ⟨_, next_of_ctl rfl heq, hreq.trans (congrArg (fun f : FireSt => cget f.closeReq i ||| d.toNat) hfire), hlast, rfl⟩
  · exact next_of_ctl rfl (shutOpenRequest_denied m i d.toNat s.m.fresh.c hsec)
  · exact next_of_ctl rfl (shutCloseRequest_denied m i d.toNat s.m.fresh.c hsec)
  · have heq := shutterChange_due s.m.fresh.c hdue
    obtain ⟨hopen, hauto⟩ := Ctl.each_shutWord_at s.m.fresh.c i.isLt
    obtain ⟨ho, hc, ha, hregs⟩ := (s.m.fresh.c.each (List.range 24) Ctl.shutWord).shutDone_spec
    refine ⟨_, next_of_ctl rfl heq, (hregs _ _ (by decide)).trans hopen, fun b hb hab hob => ?_, ho, hc, ha, rfl⟩
    obtain ⟨hbit, hseen⟩ := hauto b hb hab hob
    exact ⟨(congrArg (bit · b) (hregs _ _ (by decide))).trans hbit, (hregs _ _ (by decide)).trans hseen⟩
  · exact next_of_ctl rfl (shutterChange_none s.m.fresh.c ho hc ha)

end Sys2Proof.Machine
end

section
/-! PROOFS. The fire inputs, what their changes trigger, the relays and the keeper's heartbeat (R219 to R222, R227, R239). -/
namespace Sys2Proof.Machine

/-! ## Measurements (R219, R220) -/

/-- A loop's raw state and its hold after one more measurement (R220). -/
def LoopSt.measured (l : LoopSt) (raw : Nat) : LoopSt := if l.raw = raw then { l with heldMs := l.heldMs + 1 } else { raw := raw, heldMs := 0 }

/-- The raw state that a resistance gives loop `i` (R219). -/
def Ctl.rawState (c : Ctl) (i ohms : Nat) : Nat := loopState ohms (i < 16 && c.is R.FIRE_IN_SHORT_IS_ALARM i)

/-- The loop's state with one more measurement. -/
def Ctl.loopTaken (c : Ctl) (i ohms : Nat) : Ctl :=
  { c with fire := { c.fire with loops := kput c.fire.loops i ((kgetD c.fire.loops i {}).measured (c.rawState i ohms)) } }

theorem Ctl.loopMeasure_eq (c : Ctl) (i ohms : Nat) : c.loopMeasure i ohms =
    if c.loopOn i then (if i < 16 then (c.loopTaken i ohms).set R.FIRE_IN_OHMS (min (ohms / 10) 65535) i else c.loopTaken i ohms) else c := by
  unfold Ctl.loopMeasure
  cases c.loopOn i <;> rfl

theorem Ctl.sameRegsBut_loopMeasure (c : Ctl) (i ohms : Nat) : c.sameRegsBut (c.loopMeasure i ohms) [R.FIRE_IN_OHMS] := by
  have htaken : c.sameRegsBut (c.loopTaken i ohms) [R.FIRE_IN_OHMS] := Ctl.sameRegsBut_of_regs _ rfl
  rw [Ctl.loopMeasure_eq]
  split
  · split
    · exact Ctl.sameRegsBut_set_right htaken _ _ (List.mem_singleton_self _)
    · exact htaken
  · exact c.sameRegsBut_refl _

theorem Ctl.loopMeasure_storm (c : Ctl) (i ohms : Nat) : (c.loopMeasure i ohms).storm = c.storm := by
  rw [Ctl.loopMeasure_eq]
  split
  · split <;> rfl
  · rfl

/-- A measurement of one loop leaves the others as they were. -/
theorem Ctl.loopMeasure_other (c : Ctl) {i j : Nat} (ohms : Nat) (h : j ≠ i) :
    kget? (c.loopMeasure i ohms).fire.loops j = kget? c.fire.loops j ∧ (c.loopMeasure i ohms).get R.FIRE_IN_OHMS j = c.get R.FIRE_IN_OHMS j := by
  have htaken : kget? (c.loopTaken i ohms).fire.loops j = kget? c.fire.loops j := kget?_kput_ne _ _ h
  rw [Ctl.loopMeasure_eq]
  split
  · split
    · exact ⟨htaken, Ctl.get_set_ne _ _ _ _ _ _ (.inr h.symm)⟩
    · exact ⟨htaken, rfl⟩
  · exact ⟨rfl, rfl⟩

theorem Ctl.loopMeasure_self (c : Ctl) {i : Nat} (ohms : Nat) (h : c.loopOn i = true) :
    kget? (c.loopMeasure i ohms).fire.loops i = some ((kgetD c.fire.loops i {}).measured (c.rawState i ohms)) ∧
      (i < 16 → (c.loopMeasure i ohms).get R.FIRE_IN_OHMS i = min (ohms / 10) 65535) := by
  have htaken : kget? (c.loopTaken i ohms).fire.loops i = some ((kgetD c.fire.loops i {}).measured (c.rawState i ohms)) :=
    kget?_kput_self _ _ _
  rw [Ctl.loopMeasure_eq, if_pos h]
  split
  · exact ⟨htaken, fun _ => (Ctl.get_set_self _ _ _ _).trans (Nat.mod_eq_of_lt (Nat.lt_succ_of_le (Nat.min_le_right ..)))⟩
  · next hi => exact ⟨htaken, fun h => absurd h hi⟩

/-- Whether a loop is enabled, and its raw state, hang on its own fields and the copy in force. -/
theorem Ctl.loop_congr {c c' : Ctl} (hregs : c.sameRegsBut c' [R.FIRE_IN_OHMS]) (hstorm : c'.storm = c.storm) (i ohms : Nat) :
    c'.loopOn i = c.loopOn i ∧ c'.rawState i ohms = c.rawState i ohms := by
  have hen : c'.is R.FIRE_IN_EN i = c.is R.FIRE_IN_EN i := congrArg (· != 0) (hregs R.FIRE_IN_EN i (by decide))
  have hsh : c'.is R.FIRE_IN_SHORT_IS_ALARM i = c.is R.FIRE_IN_SHORT_IS_ALARM i :=
    congrArg (· != 0) (hregs R.FIRE_IN_SHORT_IS_ALARM i (by decide))
  exact ⟨by simp only [Ctl.loopOn, hen, Ctl.inForce, hstorm], by simp only [Ctl.rawState, hsh]⟩

theorem Ctl.sameRegsBut_loops (l : List (Nat × Nat)) (c : Ctl) :
    c.sameRegsBut (c.each l (fun c e => c.loopMeasure e.2 e.1)) [R.FIRE_IN_OHMS] :=
  Ctl.sameRegsBut_each _ _ _ (fun c e _ => c.sameRegsBut_loopMeasure e.2 e.1) c

/-- A millisecond's measurements: each enabled loop has its own (R219). -/
theorem fireLoopMeasure_loop (c : Ctl) {ohms : List Nat} {i n : Nat} (hi : i < 18) (hn : ohms[i]? = some n) (hon : c.loopOn i = true) :
    kget? (fireLoopMeasure ohms c).fire.loops i = some ((kgetD c.fire.loops i {}).measured (c.rawState i n)) ∧
      (i < 16 → (fireLoopMeasure ohms c).get R.FIRE_IN_OHMS i = min (n / 10) 65535) := by
  have hmem : (n, i) ∈ (ohms.take 18).zipIdx := by
    rw [List.mk_mem_zipIdx_iff_getElem?, List.getElem?_take_of_lt hi, hn]
  have hnd : (ohms.take 18).zipIdx.Nodup := List.Nodup.of_map Prod.snd (by simpa using List.nodup_range' ..)
  obtain ⟨l, r, hl, hr, hsub, hsplit⟩ := Ctl.each_split hnd hmem
  have hne : ∀ e ∈ (ohms.take 18).zipIdx, e ≠ (n, i) → i ≠ e.2 := by
    intro e he hne h
    obtain ⟨k, j⟩ := e
    subst h
    rw [List.mk_mem_zipIdx_iff_getElem?] at he hmem
    exact hne (by rw [Option.some.inj (he.symm.trans hmem)])
  have hkeep : ∀ q : List (Nat × Nat), (n, i) ∉ q → (∀ e ∈ q, e ∈ (ohms.take 18).zipIdx) → ∀ d : Ctl,
      kget? (d.each q (fun c e => c.loopMeasure e.2 e.1)).fire.loops i = kget? d.fire.loops i ∧
        (d.each q (fun c e => c.loopMeasure e.2 e.1)).get R.FIRE_IN_OHMS i = d.get R.FIRE_IN_OHMS i := fun q hq hin d =>
    have hother (c : Ctl) (e : Nat × Nat) (he : e ∈ q) := c.loopMeasure_other e.1 (hne e (hin e he) fun h => hq (h ▸ he))
    ⟨Ctl.each_keeps_of_mem (fun c => kget? c.fire.loops i) _ q (fun c e he => (hother c e he).1) d,
      Ctl.each_keeps_of_mem (·.get R.FIRE_IN_OHMS i) _ q (fun c e he => (hother c e he).2) d⟩
  obtain ⟨hl1, -⟩ := hkeep l hl (fun e he => hsub e (List.mem_append_left _ he)) c
  obtain ⟨hr1, hr2⟩ := hkeep r hr (fun e he => hsub e (List.mem_append_right _ he))
    ((c.each l (fun c e => c.loopMeasure e.2 e.1)).loopMeasure i n)
  obtain ⟨hon', hraw⟩ := Ctl.loop_congr (Ctl.sameRegsBut_loops l c)
    (Ctl.each_keeps (·.storm) l _ (fun c e => c.loopMeasure_storm e.2 e.1) c) i n
  obtain ⟨hself, hohms⟩ := Ctl.loopMeasure_self (c.each l (fun c e => c.loopMeasure e.2 e.1)) n (hon'.trans hon)
  rw [fireLoopMeasure, hsplit]
  refine ⟨hr1.trans (hself.trans ?_), fun h => hr2.trans (hohms h)⟩
  rw [hraw, kgetD, hl1, kgetD]

/-! ## Triggers (R222, R223, R227) -/

theorem Ctl.sameRegsBut_stormTrigger (c : Ctl) (p : Nat) : c.sameRegsBut (c.stormTrigger p) takeFields := by
  unfold Ctl.stormTrigger
  refine Ctl.sameRegsBut_trans ?_ (Ctl.sameRegsBut_mono (Ctl.sameRegsBut_showProg _) (fun f hf => by simp [takeFields, hf]))
  refine Ctl.sameRegsBut_trans ?_ (Ctl.sameRegsBut_raise _ _ _ _ _ (fun f hf => by simp [takeFields, progFields, hf]))
  exact Ctl.sameRegsBut_trans (Ctl.sameRegsBut_of_regs _ rfl) (Ctl.sameRegsBut_takeFor _ _ _ _)

theorem Ctl.keeperTrigger_regs (c : Ctl) (p : Nat) : (c.keeperTrigger p).regs = c.regs := by
  unfold Ctl.keeperTrigger
  split <;> rfl

theorem Ctl.sameRegsBut_doorTrigger (c : Ctl) (p : Nat) : c.sameRegsBut (c.doorTrigger p) takeFields := by
  unfold Ctl.doorTrigger
  split
  · exact c.sameRegsBut_refl _
  · split
    · exact c.sameRegsBut_stormTrigger p
    · exact Ctl.sameRegsBut_of_regs _ rfl

theorem Ctl.sameRegsBut_trigger (c : Ctl) (p : Nat) (keeper door : Bool) : c.sameRegsBut (c.trigger p keeper door) takeFields := by
  unfold Ctl.trigger
  split
  · exact c.sameRegsBut_refl _
  · refine Ctl.sameRegsBut_trans (b := c.when keeper (·.keeperTrigger p)) ?_ (Ctl.sameRegsBut_when _ _ _ _ (Ctl.sameRegsBut_doorTrigger _ _))
    exact Ctl.sameRegsBut_when _ _ _ _ (Ctl.sameRegsBut_of_regs _ (c.keeperTrigger_regs p))

theorem Ctl.sameRegsBut_risen (was c : Ctl) : c.sameRegsBut (Ctl.risen was c) takeFields :=
  Ctl.sameRegsBut_each _ _ _ (fun d p _ => d.sameRegsBut_trigger p _ _) c

/-! ## Reported changes (R220) -/

/-- The fields that a reported change of a loop can change, beside the loop's own state. -/
def loopFields : List Reg :=
  [R.STORM_EMIC_PRESSES, R.FIRE_IN_ALARMS, R.FIRE_STATUS_ALARM_SEEN, R.FIRE_STATUS_FAULT_SEEN] ++ evtFields

/-- The count and the event of an alarm (R220). -/
def Ctl.alarmNoted (c : Ctl) (i : Nat) : Ctl :=
  ((if 16 ≤ i then c.inc R.STORM_EMIC_PRESSES (i - 16) else c.inc R.FIRE_IN_ALARMS i).set R.FIRE_STATUS_ALARM_SEEN 1).raise Ev.FIRE_ALARM i

/-- The fault mark and the events of a change of loop `i` from `a` to `b`, and the causes brought up to date (R220, R221). -/
def Ctl.faultNoted (c : Ctl) (i a b : Nat) : Ctl :=
  let c := c.when (16 ≤ i && (b == 2 || (a == 2 && b == 1))) (·.raise Ev.STORM_PTT (i - 16) b)
  let c := c.when (3 ≤ b) (·.set R.FIRE_STATUS_FAULT_SEEN 1)
  (c.when (3 ≤ a || 3 ≤ b) (·.raise Ev.FIRE_FAULT i b)).faults

theorem Ctl.loopEffects_eq (c : Ctl) (i a b : Nat) : c.loopEffects i a b = (if b = 2 then c.alarmNoted i else c).faultNoted i a b := by
  unfold Ctl.loopEffects Ctl.faultNoted Ctl.alarmNoted
  by_cases hb : b = 2
  · subst hb
    by_cases hi : 16 ≤ i <;> simp [hi]
  · simp [hb]

theorem Ctl.sameRegsBut_alarmNoted (c : Ctl) (i : Nat) : c.sameRegsBut (c.alarmNoted i) loopFields := by
  unfold Ctl.alarmNoted
  refine Ctl.sameRegsBut_trans ?_ (Ctl.sameRegsBut_raise _ _ _ _ _ (fun f hf => by simp [loopFields, hf]))
  refine Ctl.sameRegsBut_set_right ?_ _ _ (by simp [loopFields])
  split
  · exact Ctl.sameRegsBut_set _ _ _ _ _ (by simp [loopFields])
  · exact Ctl.sameRegsBut_set _ _ _ _ _ (by simp [loopFields])

theorem Ctl.sameRegsBut_faultNoted (c : Ctl) (i a b : Nat) : c.sameRegsBut (c.faultNoted i a b) (R.FIRE_STATUS_FAULT_SEEN :: evtFields) := by
  unfold Ctl.faultNoted
  extract_lets c1 c2
  refine Ctl.sameRegsBut_trans (b := c2) ?_ (Ctl.sameRegsBut_trans (Ctl.sameRegsBut_when _ _ _ _
    (Ctl.sameRegsBut_raise _ _ _ _ _ fun f hf => List.mem_cons_of_mem _ hf))
    (Ctl.sameRegsBut_mono (Ctl.sameRegsBut_faults _) (by simp [evtFields])))
  refine Ctl.sameRegsBut_trans (b := c1) ?_ (Ctl.sameRegsBut_when _ _ _ _ (Ctl.sameRegsBut_set _ _ _ _ _ (List.mem_cons_self ..)))
  exact Ctl.sameRegsBut_when _ _ _ _ (Ctl.sameRegsBut_raise _ _ _ _ _ fun f hf => List.mem_cons_of_mem _ hf)

theorem Ctl.faultNoted_seen (c : Ctl) (i a : Nat) {b : Nat} (h : 3 ≤ b) : (c.faultNoted i a b).get R.FIRE_STATUS_FAULT_SEEN = 1 := by
  unfold Ctl.faultNoted
  extract_lets c1 c2
  have h2 : c2.get R.FIRE_STATUS_FAULT_SEEN = 1 := by
    simp only [c2, Ctl.when, h, decide_true, if_true, Ctl.get_set_self]
    rfl
  rw [Ctl.sameRegsBut_faults _ _ _ (by decide)]
  exact (Ctl.when_keeps (·.get R.FIRE_STATUS_FAULT_SEEN) _ _ _ (Ctl.get_raise _ _ _ _ _ _ (by decide))).trans h2

theorem Ctl.sameRegsBut_loopEffects (c : Ctl) (i a b : Nat) : c.sameRegsBut (c.loopEffects i a b) loopFields := by
  rw [Ctl.loopEffects_eq]
  refine Ctl.sameRegsBut_trans (b := if b = 2 then c.alarmNoted i else c) ?_
    (Ctl.sameRegsBut_mono (Ctl.sameRegsBut_faultNoted _ i a b) (fun f hf => by simp_all [loopFields]))
  split
  · exact c.sameRegsBut_alarmNoted i
  · exact c.sameRegsBut_refl _

theorem Ctl.loopEffects_alarm (c : Ctl) {i : Nat} (a : Nat) (hi : i < 16) :
    (c.loopEffects i a 2).get R.FIRE_IN_ALARMS i = (c.get R.FIRE_IN_ALARMS i + 1) % 2 ^ R.FIRE_IN_ALARMS.width ∧
      (c.loopEffects i a 2).get R.FIRE_STATUS_ALARM_SEEN = 1 := by
  rw [Ctl.loopEffects_eq, if_pos rfl, Ctl.sameRegsBut_faultNoted _ _ _ _ _ _ (by decide), Ctl.sameRegsBut_faultNoted _ _ _ _ _ _ (by decide),
    Ctl.alarmNoted, if_neg (by omega), Ctl.get_raise _ _ _ _ _ _ (by decide), Ctl.get_raise _ _ _ _ _ _ (by decide),
    Ctl.get_set_field _ _ _ _ _ _ (by decide), Ctl.get_inc_self, Ctl.get_set_self]
  exact ⟨rfl, rfl⟩

theorem Ctl.loopEffects_fault (c : Ctl) (i a : Nat) {b : Nat} (h : 3 ≤ b) : (c.loopEffects i a b).get R.FIRE_STATUS_FAULT_SEEN = 1 := by
  rw [Ctl.loopEffects_eq]
  exact Ctl.faultNoted_seen _ i a h

/-- The state that loop `i` reports, put at `v`. -/
def Ctl.loopPut (c : Ctl) (i v : Nat) : Ctl := if i < 16 then c.set R.FIRE_IN_STATE v i else c.set R.STORM_EMIC_PTT v (i - 16)

theorem Ctl.sameRegsBut_loopPut (c : Ctl) (i v : Nat) : c.sameRegsBut (c.loopPut i v) [R.FIRE_IN_STATE, R.STORM_EMIC_PTT] := by
  unfold Ctl.loopPut
  split
  · exact Ctl.sameRegsBut_set _ _ _ _ _ (by simp)
  · exact Ctl.sameRegsBut_set _ _ _ _ _ (by simp)

theorem Ctl.loopPut_self (c : Ctl) (i v : Nat) :
    (i < 16 → (c.loopPut i v).get R.FIRE_IN_STATE i = v % 2 ^ R.FIRE_IN_STATE.width) ∧
      (16 ≤ i → (c.loopPut i v).get R.STORM_EMIC_PTT (i - 16) = v % 2 ^ R.STORM_EMIC_PTT.width) := by
  unfold Ctl.loopPut
  exact ⟨fun h => by rw [if_pos h, Ctl.get_set_self], fun h => by rw [if_neg (by omega), Ctl.get_set_self]⟩

/-- A reported change with its effects, and what it triggers (R220, R222, R231). -/
def Ctl.loopReported (c : Ctl) (i raw : Nat) : Ctl :=
  (c.risen ((c.loopPut i raw).loopEffects i (c.loopShown i) raw)).when (16 ≤ i && raw == 2 && c.inForce R.STORM_EMIC_PLAN_EN (i - 16) == 1)
    (·.trigger (c.inForce R.STORM_EMIC_PLAN (i - 16)))

theorem inputStateChange_held (c : Ctl) {i : Nat} {l : LoopSt} (hl : kget? c.fire.loops i = some l) (hon : c.loopOn i = true)
    (hne : l.raw ≠ c.loopShown i) (hheld : c.loopHold i l.raw ≤ l.heldMs) : inputStateChange i c = c.loopReported i l.raw := by
  unfold inputStateChange
  rw [hl]
  simp [hon, hne, Nat.not_lt.2 hheld, Ctl.loopReported, Ctl.loopPut]

theorem inputStateChange_none (c : Ctl) {i : Nat} (h : c.loopOn i = false ∨ kget? c.fire.loops i = none) : inputStateChange i c = c := by
  unfold inputStateChange
  rcases h with h | h
  · simp only [h, Bool.not_false, Bool.true_or, if_true]
    split <;> rfl
  · rw [h]

/-- What a change reports stays as its effects leave it: a trigger takes zones. -/
theorem Ctl.get_loopReported (c : Ctl) (i raw : Nat) {r : Reg} (h : ∀ f ∈ takeFields, f.id ≠ r.id) (j : Nat) :
    (c.loopReported i raw).get r j = ((c.loopPut i raw).loopEffects i (c.loopShown i) raw).get r j :=
  (Ctl.sameRegsBut_when _ _ _ _ (Ctl.sameRegsBut_trigger _ _ _ _) r j h).trans (Ctl.sameRegsBut_risen _ _ r j h)

theorem Ctl.loopReported_spec (c : Ctl) (i raw : Nat) :
    (i < 16 → (c.loopReported i raw).get R.FIRE_IN_STATE i = raw % 2 ^ R.FIRE_IN_STATE.width) ∧
      (16 ≤ i → (c.loopReported i raw).get R.STORM_EMIC_PTT (i - 16) = raw % 2 ^ R.STORM_EMIC_PTT.width) ∧
      (i < 16 → raw = 2 → (c.loopReported i raw).get R.FIRE_IN_ALARMS i = (c.get R.FIRE_IN_ALARMS i + 1) % 2 ^ R.FIRE_IN_ALARMS.width ∧
        (c.loopReported i raw).get R.FIRE_STATUS_ALARM_SEEN = 1) ∧
      (3 ≤ raw → (c.loopReported i raw).get R.FIRE_STATUS_FAULT_SEEN = 1) := by
  obtain ⟨hstate, hptt⟩ := c.loopPut_self i raw
  refine ⟨fun hi => ?_, fun hi => ?_, fun hi h2 => ?_, fun h3 => ?_⟩
  · rw [c.get_loopReported i raw (by decide), Ctl.sameRegsBut_loopEffects _ _ _ _ _ _ (by decide), hstate hi]
  · rw [c.get_loopReported i raw (by decide), Ctl.sameRegsBut_loopEffects _ _ _ _ _ _ (by decide), hptt hi]
  · subst h2
    obtain ⟨hcount, hseen⟩ := (c.loopPut i 2).loopEffects_alarm (c.loopShown i) hi
    rw [c.get_loopReported i 2 (by decide), c.get_loopReported i 2 (by decide), hcount, hseen, Ctl.sameRegsBut_loopPut _ _ _ _ _ (by decide)]
    exact ⟨rfl, rfl⟩
  · rw [c.get_loopReported i raw (by decide), Ctl.loopEffects_fault _ _ _ h3]

/-! ## Relays and the keeper's heartbeat (R221) -/

theorem relayUpdate_spec (k : Fin 4) (c : Ctl) : bit ((relayUpdate k c).get R.FIRE_STATUS_RELAYS) k = c.faults.relayOn k ∧
    c.sameRegsBut (relayUpdate k c) (R.FIRE_STATUS_RELAYS :: evtFields) := by
  have hfaults : c.sameRegsBut c.faults (R.FIRE_STATUS_RELAYS :: evtFields) := Ctl.sameRegsBut_mono (Ctl.sameRegsBut_faults _) (by simp [evtFields])
  unfold relayUpdate
  extract_lets c1 r on c2
  split
  · next h => exact ⟨beq_iff_eq.1 h, hfaults⟩
  · have hbit : bit (c2.get R.FIRE_STATUS_RELAYS) k = on := by
      rw [Ctl.get_set_self, bit_mod _ _ _ (show k.val < R.FIRE_STATUS_RELAYS.width from k.isLt), bit_putBit_self]
    have hregs : c.sameRegsBut c2 (R.FIRE_STATUS_RELAYS :: evtFields) := Ctl.sameRegsBut_set_right hfaults _ _ (List.mem_cons_self ..)
    have hraise : ∀ src info detail : Nat, bit ((c2.raise src info detail).get R.FIRE_STATUS_RELAYS) k = on ∧
        c.sameRegsBut (c2.raise src info detail) (R.FIRE_STATUS_RELAYS :: evtFields) := fun src info detail =>
      ⟨(congrArg (bit · k) (Ctl.get_raise _ _ _ _ _ _ (by decide))).trans hbit,
        Ctl.sameRegsBut_trans hregs (Ctl.sameRegsBut_raise _ _ _ _ _ fun f hf => List.mem_cons_of_mem _ hf)⟩
    split
    · exact hraise _ _ _
    · exact hraise _ _ _

theorem keeperHeartbeatLoss_spec (c : Ctl) : (keeperHeartbeatLoss c).keeperLost = true ∧
    c.sameRegsBut (keeperHeartbeatLoss c) [R.FIRE_FAULT] := by
  refine ⟨?_, Ctl.sameRegsBut_set _ _ _ _ _ (List.mem_singleton_self _)⟩
  rw [Ctl.keeperLost, keeperHeartbeatLoss, Ctl.get_set_self, bit_mod _ _ _ (show 1 < R.FIRE_FAULT.width by decide)]
  exact bit_putBit_self _ 1 true

/-! ## FIRE_IN (R239) -/

/-- The fields of the first word of FIRE_IN. -/
def fireInFields : List Reg := [R.FIRE_IN_EN, R.FIRE_IN_SHORT_IS_ALARM, R.FIRE_IN_DEBOUNCE, R.FIRE_IN_FAULT_HOLD]

/-- The word of FIRE_IN[i] stored, and accepted. -/
def Ctl.fireInPut (c : Ctl) (i d : Nat) : Ctl := (c.store fireInFields i d).set R.FIRE_STATUS_LAST 0

theorem Ctl.fireInStore_accepted (c : Ctl) {i d : Nat} (hr : inRange fireInFields d = true) (h : d % 2 = 1 ∨ c.is R.FIRE_IN_EN i = false) :
    c.fireInStore i d = if d % 2 = 1 then c.fireInPut i d else (c.fireInPut i d).loopOff i := by
  have hbusy : (c.is R.FIRE_IN_EN i && d % 2 == 0 &&
      (List.range 64).any (fun p => c.get R.PLAN_STATE p != 0 && bit (c.get R.PLAN_FI_MASK p) i)) = false := by
    rcases h with h | h <;> simp [h]
  unfold Ctl.fireInStore
  extract_lets fields c1
  rw [if_neg (by rw [show inRange fields d = true from hr]; decide), hbusy, if_neg (by decide)]
  simp only [beq_iff_eq]
  rfl

theorem Ctl.fireInStore_busy (c : Ctl) {i d : Nat} (hr : inRange fireInFields d = true) (hd : d % 2 = 0) (hon : c.is R.FIRE_IN_EN i = true)
    (h : ∃ p < 64, c.get R.PLAN_STATE p ≠ 0 ∧ bit (c.get R.PLAN_FI_MASK p) i = true) : c.fireInStore i d = c.fireStatus 1 := by
  obtain ⟨p, hp, hstate, hmask⟩ := h
  have hbusy : (List.range 64).any (fun p => c.get R.PLAN_STATE p != 0 && bit (c.get R.PLAN_FI_MASK p) i) = true :=
    List.any_eq_true.2 ⟨p, List.mem_range.2 hp, by simp [hstate, hmask]⟩
  unfold Ctl.fireInStore
  extract_lets fields c1
  rw [if_neg (by rw [show inRange fields d = true from hr]; decide), hbusy, hon, hd]
  rfl

theorem Ctl.get_fireInPut (c : Ctl) (i d : Nat) {r : Reg} (hr : r ∈ fireInFields) :
    (c.fireInPut i d).get r i = d / 2 ^ r.lo % 2 ^ r.width := by
  have hplain : ∀ r ∈ fireInFields, r.acc = .rw ∧ isCoord r = false ∧ r.id ≠ R.WIN_GUARD_CYCLES.id ∧ r.id ≠ R.FIRE_K1_MASK.id ∧
      R.FIRE_STATUS_LAST.id ≠ r.id ∧ ∀ f ∈ fireInFields, f.id = r.id → f = r := by decide
  obtain ⟨hrw, hcoord, hguard, hmask, hlast, hid⟩ := hplain r hr
  rw [Ctl.fireInPut, Ctl.get_set_field _ _ _ _ _ _ hlast, Ctl.get_store_rw _ i d hrw c hr hid, storeVal_of_plain r _ hcoord hguard hmask,
    Reg.of_mod, Reg.of, Nat.shiftRight_eq_div_pow]

/-- A loop that is disabled reads DISABLED, and a fault that it showed goes. -/
theorem Ctl.loopOff_spec (c : Ctl) {i : Nat} (hi : i < 16) : (c.loopOff i).get R.FIRE_IN_STATE i = 0 ∧
    c.sameRegsBut (c.loopOff i) ([R.FIRE_IN_STATE, R.STORM_EMIC_PTT] ++ loopFields) := by
  have heq : c.loopOff i = ({ c with fire := { c.fire with loops := kdel c.fire.loops i } }.loopPut i 0).loopEffects i (c.loopShown i) 0 := rfl
  rw [heq]
  refine ⟨?_, ?_⟩
  · rw [Ctl.sameRegsBut_loopEffects _ _ _ _ _ _ (by decide), (Ctl.loopPut_self _ i 0).1 hi]
    rfl
  · refine Ctl.sameRegsBut_trans ?_ (Ctl.sameRegsBut_mono (Ctl.sameRegsBut_loopEffects _ _ _ _) (fun f hf => List.mem_append_right _ hf))
    exact Ctl.sameRegsBut_mono (Ctl.sameRegsBut_loopPut _ i 0) (fun f hf => List.mem_append_left _ hf)

/-- An accepted word of FIRE_IN[i]: its fields take their values, and an input that it disables reads DISABLED. -/
theorem Ctl.fireInStore_spec (c : Ctl) (i : Fin 16) {d : Nat} (hr : inRange fireInFields d = true) (h : d % 2 = 1 ∨ c.is R.FIRE_IN_EN i = false) :
    (c.fireInStore i d).get R.FIRE_STATUS_LAST = 0 ∧ (c.fireInStore i d).get R.FIRE_IN_EN i = d % 2 ∧
      (c.fireInStore i d).get R.FIRE_IN_DEBOUNCE i = d / 4 % 2 ^ 10 ∧ (c.fireInStore i d).get R.FIRE_IN_FAULT_HOLD i = d / 2 ^ 12 % 2 ^ 7 ∧
      (d % 2 = 0 → (c.fireInStore i d).get R.FIRE_IN_STATE i = 0) := by
  obtain ⟨hoff, hregs⟩ := (c.fireInPut i d).loopOff_spec i.isLt
  have hsame : ∀ (r : Reg) (j : Nat), (∀ f ∈ [R.FIRE_IN_STATE, R.STORM_EMIC_PTT] ++ loopFields, f.id ≠ r.id) →
      (c.fireInStore i d).get r j = (c.fireInPut i d).get r j := by
    intro r j hne
    rw [c.fireInStore_accepted hr h]
    split
    · rfl
    · exact hregs r j hne
  refine ⟨?_, ?_, ?_, ?_, fun h0 => ?_⟩
  · rw [hsame _ _ (by decide), Ctl.fireInPut, Ctl.get_set_self]
    rfl
  · rw [hsame _ _ (by decide), c.get_fireInPut i d (by decide)]
    simp [R.FIRE_IN_EN]
  · rw [hsame _ _ (by decide), c.get_fireInPut i d (by decide)]
    rfl
  · rw [hsame _ _ (by decide), c.get_fireInPut i d (by decide)]
    rfl
  · rw [c.fireInStore_accepted hr h, if_neg (by omega), hoff]

/-! ## The statement -/

/-- Settles O34: each command by the lemma that says what it leaves of the fields. -/
theorem fireInputs : Obligations.FireInputs := by
  unfold Obligations.FireInputs
  intro s
  refine ⟨fun ohms => ?_, fun i l hl hon hne hheld => ?_, fun i h => ?_, fun k => ?_, ?_, fun m i d hr hsec h => ?_,
    fun m i d hr hsec hd hon h => ?_⟩
  · refine ⟨_, rfl, rfl, fun i n hi hn hon => ?_, Ctl.sameRegsBut_loops _ s.m.fresh.c⟩
    exact fireLoopMeasure_loop s.m.fresh.c hi hn hon
  · obtain ⟨hstate, hptt, halarm, hfault⟩ := s.m.fresh.c.loopReported_spec i l.raw
    exact ⟨_, next_of_ctl rfl (inputStateChange_held s.m.fresh.c hl hon hne hheld), rfl, hstate, hptt, halarm, hfault⟩
  · exact next_of_ctl rfl (inputStateChange_none s.m.fresh.c h)
  · obtain ⟨hbit, hregs⟩ := relayUpdate_spec k s.m.fresh.c
    exact ⟨_, rfl, hbit, hregs, rfl⟩
  · obtain ⟨hlost, hregs⟩ := keeperHeartbeatLoss_spec s.m.fresh.c
    exact ⟨_, rfl, hlost, hregs, rfl⟩
  · obtain ⟨hlast, hen, hdeb, hhold, hoff⟩ := s.m.fresh.c.fireInStore_spec i hr h
    exact ⟨_, next_of_ctl rfl (Ctl.ifSecure_true s.m.fresh.c m (0xE8100 + 8 * i.val) (·.fireInStore i d.toNat) hsec), hlast, hen, hdeb,
      hhold, hoff, rfl⟩
  · obtain ⟨hlast, herr, hregs⟩ := s.m.fresh.c.status_refused R.FIRE_STATUS_LAST
      R.FIRE_STATUS_ERR_STATE Ev.FIRE_STATE rfl rfl (by decide) (by decide)
    exact ⟨_, next_of_ctl rfl ((Ctl.ifSecure_true s.m.fresh.c m (0xE8100 + 8 * i.val) (·.fireInStore i d.toNat) hsec).trans
      (s.m.fresh.c.fireInStore_busy hr hd hon h)), hlast, herr, hregs, rfl⟩

end Sys2Proof.Machine
end

section
/-! PROOFS. Alarm plans: what carrying one out leaves alone, confirmation, chains, the backstop and the programmes (R222 to R230). -/
namespace Sys2Proof.Machine

/-! ## What carrying a plan out leaves alone (R39, R46, R61, R223) -/

/-- Fields that the requests for a plan's objects, and the zones taken meanwhile, leave as they are. -/
def planHeld : List Reg := [R.PLAN_STATE, R.PLAN_COUNT, R.ZONE_ALARM, R.WIN_COUNT]

/-- `c'` has the plans in progress of `c` and those fields. -/
structure PlanKept (c c' : Ctl) : Prop where
  plans : c'.storm.plans = c.storm.plans
  regs : ∀ r ∈ planHeld, ∀ i, c'.get r i = c.get r i

namespace PlanKept

theorem refl (c : Ctl) : PlanKept c c := ⟨rfl, fun _ _ _ => rfl⟩

theorem trans {a b c : Ctl} (h : PlanKept a b) (k : PlanKept b c) : PlanKept a c :=
  ⟨k.plans.trans h.plans, fun r hr i => (k.regs r hr i).trans (h.regs r hr i)⟩

theorem of_same {c c' : Ctl} (hplans : c'.storm.plans = c.storm.plans) (hregs : c'.regs = c.regs) : PlanKept c c' :=
  ⟨hplans, fun _ _ _ => by rw [Ctl.get, Ctl.get, hregs]⟩

theorem of_sameRegsBut {c c' : Ctl} {l : List Reg} (hplans : c'.storm.plans = c.storm.plans) (hregs : c.sameRegsBut c' l)
    (hl : ∀ r ∈ planHeld, ∀ f ∈ l, f.id ≠ r.id) : PlanKept c c' :=
  ⟨hplans, fun r hr i => hregs r i (hl r hr)⟩

theorem set (c : Ctl) (r : Reg) (v i : Nat) (h : ∀ f ∈ planHeld, r.id ≠ f.id) : PlanKept c (c.set r v i) :=
  ⟨rfl, fun f hf _ => Ctl.get_set_field _ _ _ _ _ _ (h f hf)⟩

theorem raise (c : Ctl) (src info detail : Nat) : PlanKept c (c.raise src info detail) :=
  of_sameRegsBut (Ctl.raise_apart StormSt.apart_plans _ _ _ _) (Ctl.sameRegsBut_raise _ _ _ _ evtFields fun _ h => h) (by decide)

theorem when (c : Ctl) (b : Bool) (f : Ctl → Ctl) (h : PlanKept c (f c)) : PlanKept c (c.when b f) := by
  cases b
  · exact refl c
  · exact h

theorem foldl {α : Type} (f : Ctl → α → Ctl) (l : List α) (h : ∀ c, ∀ a ∈ l, PlanKept c (f c a)) (c : Ctl) :
    PlanKept c (l.foldl f c) := by
  induction l generalizing c with
  | nil => exact refl c
  | cons a l ih =>
    exact (h c a (List.mem_cons_self ..)).trans (ih (fun c b hb => h c b (List.mem_cons_of_mem _ hb)) (f c a))

theorem each {α : Type} (l : List α) (f : Ctl → α → Ctl) (h : ∀ c a, PlanKept c (f c a)) (c : Ctl) : PlanKept c (c.each l f) :=
  foldl f l (fun c a _ => h c a) c

theorem ledg (c : Ctl) (l : LedgSt) : PlanKept c { c with ledg := l } := of_same rfl rfl

theorem tab (c : Ctl) (t : TabSt) : PlanKept c { c with tab := t } := of_same rfl rfl

end PlanKept

theorem planKept_shedAdd (c : Ctl) (x : ShedItem) : PlanKept c (c.shedAdd x) := .of_same rfl rfl

theorem planKept_objFade (c : Ctl) (o n : Nat) : PlanKept c (c.objFade o n) := .of_same rfl rfl

theorem planKept_jot (c : Ctl) (kind loc value : Nat) (args : List Nat) : PlanKept c (c.jot kind loc value args) :=
  .of_sameRegsBut (c.jot_keeps (·.storm.plans) (fun _ _ _ _ => rfl) (fun _ _ => rfl) _ _ _ _) (c.jot_spec _ _ _ _).2 (by decide)

theorem planKept_showProg (c : Ctl) : PlanKept c c.showProg :=
  .of_sameRegsBut (Ctl.showProg_apart StormSt.apart_plans c) c.sameRegsBut_showProg (by decide)

theorem planKept_takeZones (c : Ctl) (cause : Nat) (zs : List Nat) : PlanKept c (c.takeZones cause zs) :=
  .of_sameRegsBut (c.takeZones_plans cause zs) (c.sameRegsBut_takeZones cause zs) (by decide)

theorem planKept_takeFor (c : Ctl) (cause p : Nat) (zs : List Nat) : PlanKept c (c.takeFor cause p zs) :=
  .of_sameRegsBut (c.takeFor_plans cause p zs) (c.sameRegsBut_takeFor cause p zs) (by decide)

theorem planKept_faults (c : Ctl) : PlanKept c c.faults := .of_sameRegsBut rfl c.sameRegsBut_faults (by decide)

/-! ### Shedding for a request of class A (R39, R46) -/

theorem planKept_shedObj (c : Ctl) (step o : Nat) : PlanKept c (c.shedObj step o) := by
  unfold Ctl.shedObj
  extract_lets c1
  have h1 : PlanKept c c1 := ((PlanKept.set c R.OBJ_STATE 5 o (by decide)).trans (planKept_shedAdd _ _)).trans (planKept_jot _ _ _ _ _)
  exact h1.trans (.of_same rfl rfl)

theorem planKept_shedObjs (c : Ctl) (step : Nat) (l : List Nat) (ok : Ctl → Bool) : PlanKept c (c.shedObjs step l ok) :=
  .foldl _ _ (fun c o _ => by
    split
    · exact .refl c
    · exact planKept_shedObj c step o) c

theorem planKept_lowerAllow (ok : Ctl → Bool) (n : Nat) (c : Ctl) : PlanKept c (lowerAllow ok n c) := by
  induction n generalizing c with
  | zero => exact .refl c
  | succ n ih =>
    unfold lowerAllow
    extract_lets a
    split
    · exact .refl c
    · exact (PlanKept.set c R.LEDG_JOB_ALLOW_ALLOW (a - 1) 3 (by decide)).trans (ih _)

theorem planKept_shedLean (c : Ctl) (step : Nat) : PlanKept c (c.shedLean step) := by
  unfold Ctl.shedLean
  split
  · exact .refl c
  · exact .of_same rfl rfl

/-- A step of shedding that leaves the blocks enabled. -/
theorem planKept_shedOne (c : Ctl) (ok : Ctl → Bool) {step : Nat} (h : step ≠ 0) : PlanKept c (c.shedOne ok step) := by
  unfold Ctl.shedOne
  split
  · exact absurd rfl h
  · extract_lets a c1 c2
    have h1 : PlanKept c c1 := planKept_lowerAllow ok a c
    have h2 : PlanKept c c2 := h1.trans (planKept_jot _ _ _ _ _)
    split
    · exact .refl c
    · split
      · exact h2
      · exact h2.trans (planKept_shedAdd _ _)
  · exact planKept_shedObjs _ _ _ _
  · exact planKept_shedObjs _ _ _ _
  · split
    · exact .refl c
    · exact planKept_shedLean c 4
  · exact planKept_shedObjs _ _ _ _

theorem planKept_shedProj (c : Ctl) (ok : Ctl → Bool) {steps : List Nat} (h : 0 ∉ steps) : PlanKept c (c.shedProj ok steps) :=
  .foldl _ _ (fun c s hs => by
    split
    · exact .refl c
    · exact planKept_shedOne c ok fun h0 => h (h0 ▸ hs)) c

theorem planKept_showStep (c : Ctl) : PlanKept c c.showStep := by
  unfold Ctl.showStep
  extract_lets s c1
  have h1 : PlanKept c c1 := .set c R.LEDG_STATUS_STEP s 0 (by decide)
  split
  · exact h1
  · have h2 : PlanKept c1 { c1 with ledg := { c1.ledg with stepShown := s } } := .ledg c1 _
    exact (h1.trans h2).trans (.raise _ Ev.LEDG_STEP 0 s)

theorem planKept_admitA (c : Ctl) (add prio : Nat) (displace : Bool) : PlanKept c (c.admitA add prio displace).1 := by
  unfold Ctl.admitA
  extract_lets ok c1 c2
  have h1 : PlanKept c c1 := planKept_shedProj c ok (by decide)
  split
  · dsimp only
    exact h1.trans (planKept_showStep c1)
  · split
    · split
      · have h2 : PlanKept c1 c2 := planKept_shedObjs c1 5 _ ok
        dsimp only
        exact (h1.trans h2).trans (planKept_showStep c2)
      · dsimp only
        exact .refl c
    · dsimp only
      exact .refl c

/-! ### The request of an object (R61, R223) -/

theorem Ctl.ledgShow_storm (c : Ctl) : c.ledgShow.storm = c.storm := by
  unfold Ctl.ledgShow
  extract_lets base c1
  refine (Ctl.each_keeps (·.storm) _ _ (fun c k => ?_) c1).trans ?_ <;> rfl

theorem Ctl.denseSlot_storm (c : Ctl) (o st : Nat) : (c.denseSlot o st).storm = c.storm := by
  unfold Ctl.denseSlot
  extract_lets own
  split
  · rfl
  · split
    · rfl
    · split <;> rfl

theorem Ctl.objState_storm (c : Ctl) (o st : Nat) : (c.objState o st).storm = c.storm := by
  unfold Ctl.objState
  extract_lets was src c1 c2 c3 mute
  have h2 : c2.storm = c1.storm := Ctl.when_keeps (·.storm) _ _ _ rfl
  have h3 : c3.storm = c2.storm := by
    unfold c3
    split
    · rfl
    · split <;> rfl
  exact h3.trans (h2.trans (Ctl.denseSlot_storm _ o st))

theorem planKept_objState (c : Ctl) (o st : Nat) : PlanKept c (c.objState o st) :=
  .of_sameRegsBut (congrArg (·.plans) (c.objState_storm o st)) (c.sameRegsBut_objState o st) (by decide)

theorem planKept_objAdmit (c : Ctl) (o : Nat) : PlanKept c (c.objAdmit o) :=
  .of_sameRegsBut (congrArg (·.plans) ((Ctl.ledgShow_storm _).trans (c.objState_storm o 1))) (c.objAdmit_spec o).2.2.2 (by decide)

theorem planKept_tableState (c : Ctl) (o : Nat) : PlanKept c (c.tableState R.OBJ_LAST R.OBJ_ERR_STATE o) :=
  ((PlanKept.set c R.OBJ_LAST 1 o (by decide)).trans (.set _ R.OBJ_ERR_STATE 1 o (by decide))).trans (.raise _ _ _ _)

theorem planKept_ledgRefuse (c : Ctl) (k detail : Nat) : PlanKept c (c.ledgRefuse k detail) :=
  (PlanKept.set c R.LEDG_REFUSED_COUNT _ _ (by decide)).trans (.raise _ _ _ _)

theorem planKept_floorFail (c : Ctl) : PlanKept c c.floorFail := by
  unfold Ctl.floorFail
  extract_lets new c1 c2
  have h2 : PlanKept c c2 := (PlanKept.set c R.LEDG_STATUS_FLOOR_FAIL 1 0 (by decide)).trans (.when c1 _ _ (.raise c1 _ _ _))
  exact h2.trans ((planKept_takeZones _ _ _).trans (planKept_faults _))

theorem planKept_objDecide (c : Ctl) (o : Nat) (remote : Bool) : PlanKept c (c.objDecide o remote).1 := by
  unfold Ctl.objDecide
  extract_lets k cost c1 p c2
  have h1 : PlanKept c c1 := by
    unfold c1
    split
    · exact planKept_objState c o 0
    · exact .refl c
  have hreq : PlanKept c1 (c1.set R.OBJ_ACT_REQ 0 o) := .set c1 R.OBJ_ACT_REQ 0 o (by decide)
  refine h1.trans ?_
  split
  · dsimp only
    exact hreq.trans (planKept_tableState (c1.set R.OBJ_ACT_REQ 0 o) o)
  · split
    · split
      · have hp : PlanKept c1 p.1 := planKept_admitA c1 cost (c1.get R.OBJ_PRIO o) true
        dsimp only
        exact (hp.trans (planKept_objAdmit p.1 o)).trans (planKept_jot (p.1.objAdmit o) 1 o 0 [])
      · have h2 : PlanKept c1 c2 := hreq.trans ((planKept_objState (c1.set R.OBJ_ACT_REQ 0 o) o 6).trans
          (.set ((c1.set R.OBJ_ACT_REQ 0 o).objState o 6) R.OBJ_LAST 5 o (by decide)))
        have h3 : PlanKept c2 (c2.ledgRefuse 0 o).floorFail := (planKept_ledgRefuse c2 0 o).trans (planKept_floorFail (c2.ledgRefuse 0 o))
        dsimp only
        exact (h2.trans h3).trans (planKept_jot (c2.ledgRefuse 0 o).floorFail 2 o 5 [])
    · split
      · dsimp only
        exact (planKept_objAdmit c1 o).trans (planKept_jot _ _ _ _ _)
      · have h2 := hreq.trans (.set _ R.OBJ_LAST 5 o (by decide))
        dsimp only
        exact (h2.trans (planKept_ledgRefuse _ k o)).trans (planKept_jot _ 2 o 5 [])

theorem planKept_objActivate (c : Ctl) (o : Nat) : PlanKept c (c.objActivate o) := by
  unfold Ctl.objActivate
  extract_lets c1 st _
  have h1 : PlanKept c c1 := by
    unfold c1
    split
    · exact planKept_objState c o 0
    · exact .refl c
  have hreq : ∀ d : Ctl, PlanKept d (d.set R.OBJ_ACT_REQ 1 o) := fun d => .set d _ _ _ (by decide)
  have hlast : ∀ d : Ctl, PlanKept d (d.set R.OBJ_LAST 0 o) := fun d => .set d _ _ _ (by decide)
  refine h1.trans ?_
  split
  · split
    · exact ((hreq c1).trans (planKept_objState _ o 7)).trans (hlast _)
    · exact planKept_objDecide c1 o false
  · split
    · exact (PlanKept.tab _ _).trans ((hreq _).trans (hlast _))
    · exact ((hreq c1).trans (planKept_objFade _ o 0)).trans (hlast _)

theorem planKept_planRequest (c : Ctl) (o : Nat) : PlanKept c (c.planRequest o) :=
  (planKept_jot c _ _ _ _).trans (planKept_objActivate _ o)

theorem planKept_stallTake (c : Ctl) (s : Nat) : PlanKept c (c.stallTake s) :=
  .each _ _ (fun c p => planKept_takeFor c 6 p _) c

/-! ## Activation (R223) -/

theorem Ctl.sameRegsBut_planState (c : Ctl) (p v : Nat) :
    (c.set R.PLAN_STATE v p).sameRegsBut (c.planState p v) (R.HNG_STATUS_JOURNAL_FULL_SEEN :: evtFields) :=
  Ctl.sameRegsBut_trans (Ctl.sameRegsBut_raise _ _ _ _ _ fun _ h => List.mem_cons_of_mem _ h)
    (Ctl.sameRegsBut_mono (Ctl.jot_spec _ _ _ _ _).2 (by simp))

theorem Ctl.planState_plans (c : Ctl) (p v : Nat) : (c.planState p v).storm.plans = c.storm.plans :=
  (Ctl.jot_keeps (·.storm.plans) (fun _ _ _ _ => rfl) (fun _ _ => rfl) _ _ _ _ _).trans (Ctl.raise_apart StormSt.apart_plans _ _ _ _)

theorem Ctl.get_planState_self (c : Ctl) (p v : Nat) : (c.planState p v).get R.PLAN_STATE p = v % 2 ^ R.PLAN_STATE.width := by
  rw [c.sameRegsBut_planState p v _ _ (by decide), Ctl.get_set_self]

theorem Ctl.get_planState_field (c : Ctl) (p v : Nat) {r : Reg}
    (h : ∀ f ∈ R.PLAN_STATE :: R.HNG_STATUS_JOURNAL_FULL_SEEN :: evtFields, f.id ≠ r.id) (i : Nat) : (c.planState p v).get r i = c.get r i :=
  (c.sameRegsBut_planState p v r i fun f hf => h f (List.mem_cons_of_mem _ hf)).trans
    (Ctl.get_set_field _ _ _ _ _ _ (h _ (List.mem_cons_self ..)))

/-- The plan's state, its count and the end of a pending switch (R73, R223). -/
def Ctl.planEntered (c : Ctl) (p : Nat) : Ctl := (((c.planState p 1).inc R.PLAN_COUNT p).set R.PLAN_LAST 0 p).cancelSwitch

theorem Ctl.planEntered_spec (c : Ctl) (p : Nat) : (c.planEntered p).get R.PLAN_STATE p = 1 ∧
    (c.planEntered p).get R.PLAN_COUNT p = (c.get R.PLAN_COUNT p + 1) % 2 ^ R.PLAN_COUNT.width ∧ (c.planEntered p).winNo = c.winNo ∧
      (c.planEntered p).planZones p = c.planZones p := by
  have hget : ∀ (r : Reg) (i : Nat), (∀ f ∈ R.PLAN_LAST :: R.SYS_SCENE_PENDING :: R.SYS_SCENE_WIN :: R.SYS_SCENE_LAST_SW ::
      R.SYS_SCENE_CANCEL_SEEN :: evtFields, f.id ≠ r.id) → (c.planEntered p).get r i = ((c.planState p 1).inc R.PLAN_COUNT p).get r i :=
    fun r i h => (Ctl.sameRegsBut_cancelSwitch _ r i fun f hf => h f (List.mem_cons_of_mem _ hf)).trans
      (Ctl.get_set_field _ _ _ _ _ _ (h _ (List.mem_cons_self ..)))
  refine ⟨?_, ?_, ?_, ?_⟩
  · rw [hget _ _ (by decide), Ctl.get_inc_field _ _ _ _ _ _ (by decide), Ctl.get_planState_self]
    rfl
  · rw [hget _ _ (by decide), Ctl.get_inc_self, Ctl.get_planState_field _ _ _ (by decide)]
  · rw [Ctl.winNo, hget _ _ (by decide), Ctl.get_inc_field _ _ _ _ _ _ (by decide), Ctl.get_planState_field _ _ _ (by decide)]
    rfl
  · unfold Ctl.planZones Ctl.planCovers
    have hz : ∀ i, (c.planEntered p).get R.PLAN_ZONES i = c.get R.PLAN_ZONES i := fun i => by
      rw [hget _ _ (by decide), Ctl.get_inc_field _ _ _ _ _ _ (by decide), Ctl.get_planState_field _ _ _ (by decide)]
    simp only [hz]

/-- The zones of the plan are in alarm. -/
def Ctl.planAlarmed (c : Ctl) (p : Nat) : Ctl := (c.planEntered p).each ((c.planEntered p).planZones p) (fun c z => c.set R.ZONE_ALARM 1 z)

/-- The requests of its objects, and the zones of sources that are STALLED. -/
def Ctl.planAsked (c : Ctl) (p : Nat) : Ctl :=
  let objs := c.planA p
  let c := (c.each objs Ctl.planRequest).planTimes p objs
  c.each ((objs.map (c.get R.OBJ_SRC ·)).eraseDups.filter (fun s => c.get R.SRC_LINK s == 3)) Ctl.stallTake

/-- A plan with no object of class A goes to the storm door at once. -/
def Ctl.planGiven (c : Ctl) (p : Nat) (none : Bool) : Ctl :=
  (if none then (c.planState p 3).takeFor 5 p (c.planZones p) else c).showProg

theorem Ctl.planActivate_eq (c : Ctl) (p : Nat) :
    c.planActivate p = ((c.planAlarmed p).planAsked p).planGiven p ((c.planAlarmed p).planA p).isEmpty := rfl

theorem Ctl.mem_planZones {c : Ctl} {p z : Nat} : z ∈ c.planZones p ↔ z < 128 ∧ c.planCovers p z = true := by
  simp [Ctl.planZones]

theorem Ctl.planAlarmed_spec (c : Ctl) (p : Nat) : (c.planAlarmed p).get R.PLAN_STATE p = 1 ∧
    (c.planAlarmed p).get R.PLAN_COUNT p = (c.get R.PLAN_COUNT p + 1) % 2 ^ R.PLAN_COUNT.width ∧ (c.planAlarmed p).winNo = c.winNo ∧
      ∀ z < 128, c.planCovers p z = true → (c.planAlarmed p).get R.ZONE_ALARM z = 1 := by
  obtain ⟨hstate, hcount, hwin, hzones⟩ := c.planEntered_spec p
  have hregs : (c.planEntered p).sameRegsBut (c.planAlarmed p) [R.ZONE_ALARM] :=
    Ctl.sameRegsBut_each _ _ _ (fun c z _ => c.sameRegsBut_set _ _ _ _ (List.mem_singleton_self _)) _
  refine ⟨(hregs _ _ (by decide)).trans hstate, (hregs _ _ (by decide)).trans hcount, (hregs R.WIN_COUNT 0 (by decide)).trans hwin,
    fun z hz hcov => ?_⟩
  rw [Ctl.planAlarmed, Ctl.get_each_set, if_pos (hzones ▸ Ctl.mem_planZones.2 ⟨hz, hcov⟩)]
  rfl

/-- The requests keep the plan's fields; its times begin with the window in progress (R223 to R225). -/
theorem Ctl.planAsked_spec (c : Ctl) (p : Nat) : (∀ r ∈ planHeld, ∀ i, (c.planAsked p).get r i = c.get r i) ∧
    ((c.planAsked p).planRt p).pendAct = false ∧ ((c.planAsked p).planRt p).actWin = c.winNo := by
  unfold Ctl.planAsked
  extract_lets objs d
  have hreq : PlanKept c (c.each objs Ctl.planRequest) := .each _ _ planKept_planRequest c
  have hstall : PlanKept d (d.each ((objs.map (d.get R.OBJ_SRC ·)).eraseDups.filter (fun s => d.get R.SRC_LINK s == 3)) Ctl.stallTake) :=
    .each _ _ planKept_stallTake d
  have hregs : d.regs = (c.each objs Ctl.planRequest).regs := rfl
  have hwin : (c.each objs Ctl.planRequest).winNo = c.winNo := hreq.regs R.WIN_COUNT (by decide) 0
  refine ⟨fun r hr i => (hstall.regs r hr i).trans (hreq.regs r hr i), ?_, ?_⟩
  · rw [Ctl.planRt_eq hstall.plans]
    simp only [d, Ctl.planTimes, Ctl.planRt_setPlanRt]
  · rw [Ctl.planRt_eq hstall.plans]
    simp only [d, Ctl.planTimes, Ctl.planRt_setPlanRt]
    exact hwin

theorem Ctl.planGiven_spec (c : Ctl) (p : Nat) (none : Bool) (h : c.get R.PLAN_STATE p = 1) :
    (c.planGiven p none).get R.PLAN_STATE p ≠ 0 ∧ (c.planGiven p none).storm.plans = c.storm.plans ∧
      ∀ r ∈ planHeld, R.PLAN_STATE.id ≠ r.id → ∀ i, (c.planGiven p none).get r i = c.get r i := by
  unfold Ctl.planGiven
  have hshow := planKept_showProg
  cases none with
  | false =>
    refine ⟨?_, (hshow c).plans, fun r hr _ i => (hshow c).regs r hr i⟩
    rw [if_neg (by decide), (hshow c).regs _ (by decide), h]
    decide
  | true =>
    have htake := (planKept_takeFor (c.planState p 3) 5 p (c.planZones p)).trans (hshow _)
    have hother : ∀ r ∈ planHeld, R.PLAN_STATE.id ≠ r.id →
        ∀ f ∈ R.PLAN_STATE :: R.HNG_STATUS_JOURNAL_FULL_SEEN :: evtFields, f.id ≠ r.id := by
      decide
    refine ⟨?_, htake.plans.trans (c.planState_plans p 3), fun r hr hne i =>
      (htake.regs r hr i).trans (c.get_planState_field p 3 (hother r hr hne) i)⟩
    rw [if_pos rfl, htake.regs _ (by decide), Ctl.get_planState_self]
    decide

theorem Ctl.planActivate_spec (c : Ctl) (p : Nat) :
    (c.planActivate p).get R.PLAN_COUNT p = (c.get R.PLAN_COUNT p + 1) % 2 ^ R.PLAN_COUNT.width ∧ (c.planActivate p).get R.PLAN_STATE p ≠ 0 ∧
      (∀ z < 128, c.planCovers p z = true → (c.planActivate p).get R.ZONE_ALARM z = 1) ∧ ((c.planActivate p).planRt p).pendAct = false ∧
      ((c.planActivate p).planRt p).actWin = c.winNo := by
  obtain ⟨hstate, hcount, hwin, halarm⟩ := c.planAlarmed_spec p
  obtain ⟨hkept, hpend, hact⟩ := (c.planAlarmed p).planAsked_spec p
  obtain ⟨hstate', hplans, hregs⟩ := ((c.planAlarmed p).planAsked p).planGiven_spec p ((c.planAlarmed p).planA p).isEmpty
    ((hkept _ (by decide) p).trans hstate)
  rw [Ctl.planActivate_eq, Ctl.planRt_eq hplans]
  refine ⟨?_, hstate', fun z hz hcov => ?_, hpend, hact.trans hwin⟩
  · rw [hregs _ (by decide) (by decide), hkept _ (by decide), hcount]
  · rw [hregs _ (by decide) (by decide), hkept _ (by decide), halarm z hz hcov]

theorem planActivate_idle (p : Nat) (c : Ctl) (hpend : (c.planRt p).pendAct = true) (hdown : c.keep.down = false)
    (h : c.get R.PLAN_STATE p = 0) : planActivate p c = c.planActivate p := by
  simp [planActivate, hpend, hdown, h]

theorem planActivate_running (p : Nat) (c : Ctl) (hpend : (c.planRt p).pendAct = true) (hdown : c.keep.down = false)
    (h : c.get R.PLAN_STATE p ≠ 0) : planActivate p c = c.setPlanRt p { c.planRt p with pendAct := false } := by
  simp [planActivate, hpend, hdown, h]

/-! ## The end of the confirmation time (R224) -/

/-- The zones of a plan that are not confirmed. -/
def Ctl.unconfirmed (c : Ctl) (p : Nat) : List Nat := (c.planZones p).filter (fun z => !(c.planRt p).confirmed.contains z)

theorem Ctl.mem_unconfirmed {c : Ctl} {p z : Nat} :
    z ∈ c.unconfirmed p ↔ (z < 128 ∧ c.planCovers p z = true) ∧ z ∉ (c.planRt p).confirmed := by
  simp [Ctl.unconfirmed, Ctl.mem_planZones]

/-- The confirmation count of a plan is over. -/
def Ctl.countEnded (c : Ctl) (p : Nat) : Ctl := c.setPlanRt p { c.planRt p with confirmEnd := none }

/-- The zones left unconfirmed go to the storm door, and the plan's state tells whether all of its zones have. -/
def Ctl.confirmFailed (c : Ctl) (p : Nat) : Ctl :=
  let d := ((c.countEnded p).takeFor 5 p (c.unconfirmed p)).raise Ev.FIRE_CONFIRM p p
  d.planState p (if (d.planZones p).any (fun z => d.get R.ZONE_OWNER z != 1) then 2 else 3)

theorem confirmEnd_due {p w : Nat} {c : Ctl} (hw : (c.planRt p).confirmEnd = some w) (hnow : later w c.winNo = false)
    (hstate : c.get R.PLAN_STATE p = 1) (hrole : c.get R.HNG_STATUS_ROLE ≠ 3) :
    confirmEnd p c = if (c.unconfirmed p).isEmpty then c.countEnded p else c.confirmFailed p := by
  unfold confirmEnd
  extract_lets r c1 bad c2 left
  have hr : r.confirmEnd = some w := hw
  simp only [hr, hnow, hstate]
  rw [if_neg (by decide), if_neg (show ¬ c1.get R.HNG_STATUS_ROLE = 3 from hrole)]
  rfl

theorem confirmEnd_none {p : Nat} {c : Ctl} (h : (c.planRt p).confirmEnd = none) : confirmEnd p c = c := by
  unfold confirmEnd
  extract_lets r
  rw [show r.confirmEnd = none from h]

theorem Ctl.confirmFailed_spec (c : Ctl) (p : Nat) :
    ((c.confirmFailed p).get R.PLAN_STATE p = 2 ∨ (c.confirmFailed p).get R.PLAN_STATE p = 3) ∧
      (c.is R.STORM_STATUS_ARMED = true → c.get R.HNG_STATUS_ROLE ≠ 3 → ∀ z ∈ c.unconfirmed p,
        (c.confirmFailed p).get R.ZONE_OWNER z = 1) := by
  unfold Ctl.confirmFailed
  extract_lets d
  refine ⟨?_, fun harmed hrole z hz => ?_⟩
  · rw [Ctl.get_planState_self]
    split
    · exact .inl rfl
    · exact .inr rfl
  · rw [Ctl.get_planState_field _ _ _ (by decide), Ctl.get_raise _ _ _ _ _ _ (by decide)]
    exact (c.countEnded p).owner_takeFor 5 p harmed hrole hz

/-! ## Chains (R225) -/

/-- A reading of the plans in progress that an update of one of them keeps. -/
theorem Ctl.planRt_update {β : Type} (g : PlanRt → β) (c : Ctl) (q : Nat) (r : PlanRt) (p : Nat) (h : g r = g (c.planRt q)) :
    g ((c.setPlanRt q r).planRt p) = g (c.planRt p) := by
  by_cases hp : p = q
  · subst hp
    rw [Ctl.planRt_setPlanRt, h]
  · rw [Ctl.planRt_setPlanRt_ne _ _ hp]

theorem Ctl.keeperTrigger_cases (c : Ctl) (q : Nat) : c.keeperTrigger q =
    if c.is R.PLAN_EN q = true ∧ c.keep.down = false then c.setPlanRt q { c.planRt q with pendAct := true } else c := by
  simp [Ctl.keeperTrigger]

/-- While the keeper is there, the storm door sets its backstop and nothing else (R227). -/
theorem Ctl.doorTrigger_cases (c : Ctl) (q : Nat) (h : c.keeperLost = false) :
    c.doorTrigger q = c ∨ ∃ w, c.doorTrigger q = c.setPlanRt q { c.planRt q with backstopAt := some w } := by
  unfold Ctl.doorTrigger
  rw [h]
  split
  · exact .inl rfl
  · exact .inr ⟨_, rfl⟩

theorem Ctl.trigger_chainAt (c : Ctl) (q p : Nat) (h : c.keeperLost = false) : ((c.trigger q).planRt p).chainAt = (c.planRt p).chainAt := by
  unfold Ctl.trigger
  split
  · rfl
  · have hk : ((c.keeperTrigger q).planRt p).chainAt = (c.planRt p).chainAt := by
      rw [Ctl.keeperTrigger_cases]
      split
      · exact c.planRt_update (·.chainAt) q _ p rfl
      · rfl
    refine Eq.trans ?_ hk
    rcases (c.keeperTrigger q).doorTrigger_cases q ((congrArg (fun m => bit (RegMap.get m R.FIRE_FAULT 0) 1) (c.keeperTrigger_regs q)).trans h)
      with hd | ⟨w, hd⟩
    · exact congrArg (fun d => (Ctl.planRt d p).chainAt) hd
    · exact (congrArg (fun d => (Ctl.planRt d p).chainAt) hd).trans (Ctl.planRt_update (·.chainAt) _ q _ p rfl)

/-- A trigger that the keeper takes: it will carry the plan out (R223). -/
theorem Ctl.trigger_pendAct (c : Ctl) (q : Nat) (h : c.keeperLost = false) (hrole : c.get R.HNG_STATUS_ROLE ≠ 3)
    (hidle : c.stormActive q = false) (hen : c.is R.PLAN_EN q = true) (hdown : c.keep.down = false) :
    ((c.trigger q).planRt q).pendAct = true := by
  have hk : c.keeperTrigger q = c.setPlanRt q { c.planRt q with pendAct := true } := by
    rw [Ctl.keeperTrigger_cases, if_pos ⟨hen, hdown⟩]
  have ht : c.trigger q = (c.setPlanRt q { c.planRt q with pendAct := true }).doorTrigger q := by
    simp [Ctl.trigger, hrole, hidle, Ctl.when, hk]
  rw [ht]
  rcases (c.setPlanRt q { c.planRt q with pendAct := true }).doorTrigger_cases q h with hd | ⟨w, hd⟩
  · rw [hd, Ctl.planRt_setPlanRt]
  · rw [hd, Ctl.planRt_setPlanRt, Ctl.planRt_setPlanRt]

/-- A plan whose NEXT has been triggered. -/
def Ctl.unchained (c : Ctl) (p : Nat) : Ctl := c.setPlanRt p { c.planRt p with chainAt := none }

theorem planChain_due {p w : Nat} {c : Ctl} (hw : (c.planRt p).chainAt = some w) (hnow : w ≤ c.storm.safeCount) (hk : c.keeperLost = false) :
    planChain p c = (c.unchained p).trigger (c.get R.PLAN_NEXT p) := by
  unfold planChain
  extract_lets r next
  rw [show r.chainAt = some w from hw]
  simp only [Nat.not_lt.2 hnow, if_false, next, hk]
  rfl

theorem planChain_early {p : Nat} {c : Ctl} (h : ∀ w, (c.planRt p).chainAt = some w → c.storm.safeCount < w) : planChain p c = c := by
  unfold planChain
  extract_lets r next
  split
  · rfl
  · next w hw => exact if_pos (h w hw)

/-- A plan that a chain triggers is no more and no less active for the end of the chain. -/
theorem Ctl.stormActive_unchained (c : Ctl) (p q : Nat) : (c.unchained p).stormActive q = c.stormActive q := by
  have hon : ((c.unchained p).planRt q).stormOn = (c.planRt q).stormOn := c.planRt_update (·.stormOn) p _ q rfl
  exact congrArg (fun b => c.get R.PLAN_STATE q != 0 || b) hon

/-! ## The backstop (R227) -/

theorem Ctl.stormTrigger_spec (c : Ctl) (p : Nat) : ((c.stormTrigger p).planRt p).stormOn = true ∧
    ((c.stormTrigger p).planRt p).backstopAt = none ∧
      (c.is R.STORM_STATUS_ARMED = true → c.get R.HNG_STATUS_ROLE ≠ 3 → ∀ z < 128, c.stormCovers p z = true →
        (c.stormTrigger p).get R.ZONE_OWNER z = 1) := by
  unfold Ctl.stormTrigger
  extract_lets chain _ d
  have hplans : ((d.takeFor 7 p ((List.range 128).filter (d.stormCovers p))).raise Ev.STORM_BACKSTOP p).showProg.storm.plans = d.storm.plans :=
    (Ctl.showProg_apart StormSt.apart_plans _).trans ((Ctl.raise_apart StormSt.apart_plans _ _ _ _).trans (Ctl.takeFor_plans _ _ _ _))
  rw [Ctl.planRt_eq hplans, Ctl.planRt_setPlanRt]
  refine ⟨rfl, rfl, fun harmed hrole z hz hcov => ?_⟩
  rw [Ctl.sameRegsBut_showProg _ _ _ (by decide), Ctl.get_raise _ _ _ _ _ _ (by decide)]
  exact d.owner_takeFor 7 p harmed hrole (List.mem_filter.2 ⟨List.mem_range.2 hz, hcov⟩)

/-- A plan whose backstop has expired. -/
def Ctl.backstopOff (c : Ctl) (p : Nat) : Ctl := c.setPlanRt p { c.planRt p with backstopAt := none }

theorem backstopExpiry_due {p w : Nat} {c : Ctl} (hw : (c.planRt p).backstopAt = some w) (hnow : w ≤ c.storm.safeCount) :
    backstopExpiry p c = if c.get R.PLAN_STATE p ≠ 0 ∨ c.is R.STORM_STATUS_ARMED = false then c.backstopOff p
      else (c.backstopOff p).stormTrigger p := by
  unfold backstopExpiry
  extract_lets r c1
  rw [show r.backstopAt = some w from hw]
  simp only [Nat.not_lt.2 hnow, if_false]
  have hcond : (c1.get R.PLAN_STATE p != 0 || !c1.is R.STORM_STATUS_ARMED) = true ↔
      c.get R.PLAN_STATE p ≠ 0 ∨ c.is R.STORM_STATUS_ARMED = false := by
    simp [c1, Ctl.is_eq]
  simp only [hcond]
  rfl

theorem backstopExpiry_early {p : Nat} {c : Ctl} (h : ∀ w, (c.planRt p).backstopAt = some w → c.storm.safeCount < w) :
    backstopExpiry p c = c := by
  unfold backstopExpiry
  extract_lets r c1
  split
  · rfl
  · next w hw => exact if_pos (h w hw)

/-! ## Programmes (R230) -/

theorem stormProgrammeStep_due {p : Nat} {x : Mach} {g : Prog} (hg : kget? x.c.storm.progs p = some g)
    (h : x.c.progLength x.m.nor p g ≤ g.pos) :
    kget? (stormProgrammeStep p x).c.storm.progs p = some { g with
      pos := 0, phase := (if g.msg = false then 0 else if x.c.inForce R.PLAN_TONE_EN p = 1 then (g.phase + 1) % 3 else 1) } ∧
      (stormProgrammeStep p x).c.regs = x.c.regs := by
  have hnext : (if (!g.msg) = true then 0 else if (!(x.c.inForce R.PLAN_TONE_EN p == 1)) = true then 1 else (g.phase + 1) % 3) =
      if g.msg = false then 0 else if x.c.inForce R.PLAN_TONE_EN p = 1 then (g.phase + 1) % 3 else 1 := by
    by_cases ht : x.c.inForce R.PLAN_TONE_EN p = 1 <;> simp [ht]
  unfold stormProgrammeStep
  extract_lets c
  rw [show kget? c.storm.progs p = some g from hg]
  dsimp only
  rw [if_neg (Nat.not_lt.2 h)]
  exact ⟨(kget?_kput_self _ _ _).trans (by rw [hnext]), rfl⟩

theorem stormProgrammeStep_within {p : Nat} {x : Mach}
    (h : kget? x.c.storm.progs p = none ∨ ∃ g, kget? x.c.storm.progs p = some g ∧ g.pos < x.c.progLength x.m.nor p g) :
    stormProgrammeStep p x = x := by
  unfold stormProgrammeStep
  extract_lets c
  rcases h with h | ⟨g, hg, hpos⟩
  · rw [show kget? c.storm.progs p = none from h]
  · rw [show kget? c.storm.progs p = some g from hg]
    exact if_pos hpos

/-! ## The statement -/

/-- Settles O35: each command by the lemmas on what it does when it is due, and that it does nothing before. -/
theorem alarmPlans : Obligations.AlarmPlans := by
  unfold Obligations.AlarmPlans
  intro s p
  refine ⟨fun hpend hdown => ⟨fun h => ?_, fun h => ?_⟩, fun w hw hnow hstate hrole => ⟨fun hall => ?_, fun hsome => ?_⟩,
    fun w hw hnow hk => ?_, fun w hw hnow => ⟨fun hstate harmed => ?_, fun hstate => ?_⟩, fun g hg hpos => ?_, fun h => ?_, fun h => ?_,
    fun h => ?_, fun h => ?_⟩
  · obtain ⟨hcount, hstate, halarm, hpend', hact⟩ := s.m.fresh.c.planActivate_spec p
    exact ⟨_, next_of_ctl rfl (planActivate_idle p s.m.fresh.c hpend hdown h), hcount, hstate, halarm, hpend', hact, rfl⟩
  · exact next_of_ctl rfl (planActivate_running p s.m.fresh.c hpend hdown h)
  · have hnone : s.m.fresh.c.unconfirmed p = [] := List.eq_nil_iff_forall_not_mem.2 fun z hz => by
      obtain ⟨⟨hlt, hcov⟩, hnot⟩ := Ctl.mem_unconfirmed.1 hz
      exact hnot (hall z hlt hcov)
    have heq := confirmEnd_due (c := s.m.fresh.c) hw hnow hstate hrole
    rw [hnone] at heq
    exact next_of_ctl rfl heq
  · obtain ⟨z, hlt, hcov, hnot⟩ := hsome
    have hne : (s.m.fresh.c.unconfirmed p).isEmpty = false :=
      List.isEmpty_eq_false_iff_exists_mem.2 ⟨z, Ctl.mem_unconfirmed.2 ⟨⟨hlt, hcov⟩, hnot⟩⟩
    have heq := confirmEnd_due (c := s.m.fresh.c) hw hnow hstate hrole
    rw [hne, if_neg (by decide)] at heq
    obtain ⟨hstate', howner⟩ := s.m.fresh.c.confirmFailed_spec p
    exact ⟨_, next_of_ctl rfl heq, hstate', fun harmed z hlt hcov hnot =>
      howner harmed hrole z (Ctl.mem_unconfirmed.2 ⟨⟨hlt, hcov⟩, hnot⟩), rfl⟩
  · refine ⟨_, next_of_ctl rfl (planChain_due (c := s.m.fresh.c) hw hnow hk), ?_, fun hrole hidle hen hdown => ?_, rfl⟩
    · exact (Ctl.trigger_chainAt (s.m.fresh.c.unchained p) _ p hk).trans (congrArg (·.chainAt) (Ctl.planRt_setPlanRt _ _ _))
    · exact Ctl.trigger_pendAct (s.m.fresh.c.unchained p) _ hk hrole ((Ctl.stormActive_unchained _ _ _).trans hidle) hen hdown
  · have heq := backstopExpiry_due (c := s.m.fresh.c) hw hnow
    have hgo : ¬ (s.m.fresh.c.get R.PLAN_STATE p ≠ 0 ∨ s.m.fresh.c.is R.STORM_STATUS_ARMED = false) := by simp [hstate, harmed]
    rw [if_neg hgo] at heq
    obtain ⟨hon, hoff, howner⟩ := (s.m.fresh.c.backstopOff p).stormTrigger_spec p
    exact ⟨_, next_of_ctl rfl heq, hon, hoff, howner harmed, rfl⟩
  · have heq := backstopExpiry_due (c := s.m.fresh.c) hw hnow
    rw [if_pos (.inl hstate)] at heq
    exact next_of_ctl rfl heq
  · obtain ⟨hprog, hregs⟩ := stormProgrammeStep_due (x := s.m.fresh) hg hpos
    exact ⟨_, rfl, hprog, hregs, stormProgrammeStep_m p s.m.fresh⟩
  · exact next_of_mach rfl (stormProgrammeStep_within (x := s.m.fresh) h)
  · exact next_of_ctl rfl (confirmEnd_none (c := s.m.fresh.c) h)
  · exact next_of_ctl rfl (planChain_early (c := s.m.fresh.c) h)
  · exact next_of_ctl rfl (backstopExpiry_early (c := s.m.fresh.c) h)

end Sys2Proof.Machine
end

section
/-! PROOFS. The storm door's own commands: the store, commits, arming, forced zones, returns and its records (R228, R233, R234, R237, R240). -/
namespace Sys2Proof.Machine

/-! ## Status (R239) -/

theorem Ctl.stormStatus_zero (c : Ctl) : c.stormStatus 0 = c.set R.STORM_STATUS_LAST 0 := Ctl.status_ne_one _ _ _ _ _ _ _ (by decide)

theorem Ctl.stormStatus_refused (c : Ctl) : (c.stormStatus 1).get R.STORM_STATUS_LAST = 1 ∧
    c.sameRegsBut (c.stormStatus 1) ([R.STORM_STATUS_LAST, R.STORM_STATUS_ERR_STATE] ++ evtFields) := by
  obtain ⟨hlast, -, hregs⟩ := c.status_refused R.STORM_STATUS_LAST R.STORM_STATUS_ERR_STATE Ev.FIRE_STATE rfl rfl (by decide) (by decide)
  exact ⟨hlast, hregs⟩

theorem Ctl.stormStatus_apart {β : Type} {p : StormSt → β} (hp : StormSt.Apart p) (c : Ctl) : p (c.stormStatus 1).storm = p c.storm := by
  rw [Ctl.stormStatus, Ctl.status_one, Ctl.raise_apart hp]
  rfl

/-- An accepted command leaves every field but LAST. -/
theorem Ctl.get_stormStatus_zero (c : Ctl) {r : Reg} (h : R.STORM_STATUS_LAST.id ≠ r.id) (i : Nat) : (c.stormStatus 0).get r i = c.get r i := by
  rw [Ctl.stormStatus_zero, Ctl.get_set_field _ _ _ _ _ _ h]

theorem Ctl.stormStatus_zero_last (c : Ctl) : (c.stormStatus 0).get R.STORM_STATUS_LAST = 0 := by
  rw [Ctl.stormStatus_zero, Ctl.get_set_self]
  rfl

/-! ## The loss of the render die (R234, R235) -/

/-- The door with the render die lost. -/
def Ctl.dieGone (c : Ctl) : Ctl := { c with fire := { c.fire with dieLost := true } }

theorem dieStrobeLoss_eq {c : Ctl} (h : c.fire.dieLost = false) :
    dieStrobeLoss c = (c.dieGone.allLinks.takeZones 2 (List.range 128)).faults := by
  rw [dieStrobeLoss, h]
  rfl

theorem dieStrobeLoss_spec {c : Ctl} (h : c.fire.dieLost = false) : (dieStrobeLoss c).fire.dieLost = true ∧
    (c.is R.STORM_STATUS_ARMED = true → c.get R.HNG_STATUS_ROLE ≠ 3 → ∀ z < 128, (dieStrobeLoss c).get R.ZONE_OWNER z = 1) := by
  rw [dieStrobeLoss_eq h]
  refine ⟨?_, fun harmed hrole z hz => ?_⟩
  · rw [Ctl.faults_fire, Ctl.takeZones_fire, Ctl.allLinks_fire]
    rfl
  · have harmed' : c.dieGone.allLinks.is R.STORM_STATUS_ARMED = true := by
      rw [Ctl.is_eq, c.dieGone.sameRegsBut_allLinks R.STORM_STATUS_ARMED 0 (by decide)]
      exact harmed
    have hrole' : c.dieGone.allLinks.get R.HNG_STATUS_ROLE ≠ 3 := by
      rw [c.dieGone.sameRegsBut_allLinks R.HNG_STATUS_ROLE 0 (by decide)]
      exact hrole
    rw [Ctl.sameRegsBut_faults _ _ _ (by decide)]
    exact c.dieGone.allLinks.owner_takeZones 2 harmed' hrole' (List.mem_range.2 hz)

/-! ## The store (R228) -/

/-- The fields that messages marked BAD show in. -/
def badFields : List Reg := [R.STORM_MSG_BAD, R.STORM_STATUS_STORE_SEEN] ++ progFields

/-- Messages newly marked BAD, before their events. -/
def Ctl.badPut (c : Ctl) (new : List Nat) : Ctl :=
  { c.set R.STORM_MSG_BAD (new.foldl setBit (c.get R.STORM_MSG_BAD)) with fire := { c.fire with storeBad := true } }.set R.STORM_STATUS_STORE_SEEN 1

/-- The events of messages newly marked BAD. -/
def Ctl.badNoted (c : Ctl) (new : List Nat) : Ctl := (c.each new (fun c k => c.raise Ev.STORM_STORE k)).faults.showProg

theorem Ctl.markBad_cases (c : Ctl) (l : List Nat) : c.markBad l = c ∨ ∃ new, c.markBad l = (c.badPut new).badNoted new := by
  unfold Ctl.markBad
  extract_lets new c1 c2
  split
  · exact .inl rfl
  · exact .inr ⟨new, rfl⟩

theorem Ctl.sameRegsBut_badNoted (c : Ctl) (new : List Nat) : c.sameRegsBut (c.badNoted new) progFields := by
  refine Ctl.sameRegsBut_trans (Ctl.sameRegsBut_each _ _ _ (fun c k _ => c.sameRegsBut_raise _ _ _ _ ?_) c)
    (Ctl.sameRegsBut_trans (Ctl.sameRegsBut_mono (Ctl.sameRegsBut_faults _) ?_) (Ctl.sameRegsBut_showProg _))
  · exact fun f hf => List.mem_append_right _ hf
  · simp [progFields, evtFields]

theorem Ctl.sameRegsBut_markBad (c : Ctl) (l : List Nat) : c.sameRegsBut (c.markBad l) badFields := by
  rcases c.markBad_cases l with h | ⟨new, h⟩ <;> rw [h]
  · exact c.sameRegsBut_refl _
  · have hput : c.sameRegsBut (c.badPut new) badFields :=
      Ctl.sameRegsBut_set_right (Ctl.sameRegsBut_set c R.STORM_MSG_BAD _ 0 _ (by simp [badFields])) _ _ (by simp [badFields])
    exact Ctl.sameRegsBut_trans hput (Ctl.sameRegsBut_mono (Ctl.sameRegsBut_badNoted _ _) fun f hf => List.mem_append_right _ hf)

theorem Ctl.badNoted_fire (c : Ctl) (new : List Nat) : (c.badNoted new).fire = c.fire :=
  (Ctl.showProg_keeps (·.fire) Ctl.set_fire Ctl.raise_fire (fun _ _ => rfl) _).trans
    (Ctl.each_keeps (·.fire) _ _ (fun _ _ => Ctl.raise_fire _ _ _ _) c)

theorem Ctl.badNoted_apart {β : Type} {p : StormSt → β} (hp : StormSt.Apart p) (c : Ctl) (new : List Nat) :
    p (c.badNoted new).storm = p c.storm :=
  (Ctl.showProg_apart hp _).trans (Ctl.each_keeps (fun c => p c.storm) _ _ (fun _ _ => Ctl.raise_apart hp _ _ _ _) c)

theorem Ctl.markBad_apart {β : Type} {p : StormSt → β} (hp : StormSt.Apart p) (c : Ctl) (l : List Nat) : p (c.markBad l).storm = p c.storm := by
  rcases c.markBad_cases l with h | ⟨new, h⟩ <;> rw [h]
  exact Ctl.badNoted_apart hp _ _

/-- A store that is known to be bad stays so, and its mark. -/
theorem Ctl.markBad_bad (c : Ctl) (l : List Nat) (hseen : c.get R.STORM_STATUS_STORE_SEEN = 1) (hbad : c.fire.storeBad = true) :
    (c.markBad l).get R.STORM_STATUS_STORE_SEEN = 1 ∧ (c.markBad l).fire.storeBad = true := by
  rcases c.markBad_cases l with h | ⟨new, h⟩ <;> rw [h]
  · exact ⟨hseen, hbad⟩
  · rw [Ctl.sameRegsBut_badNoted _ _ _ _ (by decide), Ctl.badNoted_fire, Ctl.badPut, Ctl.get_set_self]
    exact ⟨rfl, rfl⟩

/-- A header that passes, with the store's name (R228). -/
def Ctl.headerGood (c : Ctl) (id : Nat) : Ctl := { c with storm := { c.storm with hdrOk := true } }.set R.STORM_STORE_ID id

/-- A header that does not. -/
def Ctl.headerBad (c : Ctl) : Ctl :=
  ((({ c with storm := { c.storm with hdrOk := false }, fire := { c.fire with storeBad := true } }).set R.STORM_STATUS_STORE_SEEN 1).raise
    Ev.STORM_STORE 255).faults

/-- The VALID messages of the store that fail their check. -/
def badMsgs (nor : Mem) : List Nat := (List.range 32).filter (fun k => bit (nor.rdN (0x40 + 32 * k + 0xE) 2) 0 && !norMsgOk nor k)

theorem stormStoreCheck_good {x : Mach} (h : norHeaderOk x.m.nor = true) :
    (stormStoreCheck x).c = (x.c.headerGood (x.m.nor.rdN 8 4)).markBad (badMsgs x.m.nor) := by
  simp only [stormStoreCheck, Mach.storeCheck, h]
  rfl

theorem stormStoreCheck_bad {x : Mach} (h : norHeaderOk x.m.nor = false) :
    (stormStoreCheck x).c = x.c.headerBad.markBad (badMsgs x.m.nor) := by
  simp only [stormStoreCheck, Mach.storeCheck, h]
  rfl

theorem Ctl.headerBad_spec (c : Ctl) : c.headerBad.storm.hdrOk = false ∧ c.headerBad.get R.STORM_STATUS_STORE_SEEN = 1 ∧
    c.headerBad.fire.storeBad = true := by
  unfold Ctl.headerBad
  refine ⟨Ctl.raise_apart StormSt.apart_hdrOk _ _ _ _, ?_, ?_⟩
  · rw [Ctl.sameRegsBut_faults _ _ _ (by decide), Ctl.get_raise _ _ _ _ _ _ (by decide), Ctl.get_set_self]
    rfl
  · rw [Ctl.faults_fire, Ctl.raise_fire]
    rfl

theorem stormStoreCheck_spec (x : Mach) : (stormStoreCheck x).c.storm.hdrOk = norHeaderOk x.m.nor ∧
    (norHeaderOk x.m.nor = true → (stormStoreCheck x).c.get R.STORM_STORE_ID = x.m.nor.rdN 8 4) ∧
      (norHeaderOk x.m.nor = false → (stormStoreCheck x).c.get R.STORM_STATUS_STORE_SEEN = 1 ∧ (stormStoreCheck x).c.fire.storeBad = true) := by
  cases h : norHeaderOk x.m.nor with
  | true =>
    rw [stormStoreCheck_good h]
    refine ⟨Ctl.markBad_apart StormSt.apart_hdrOk _ _, fun _ => ?_, fun h => absurd h (by decide)⟩
    have hlt := leVal_lt (x.m.nor.rds 8 4)
    rw [Mem.length_rds] at hlt
    rw [Ctl.sameRegsBut_markBad _ _ _ _ (by decide), Ctl.headerGood, Ctl.get_set_self]
    exact Nat.mod_eq_of_lt hlt
  | false =>
    obtain ⟨hok, hseen, hbad⟩ := x.c.headerBad_spec
    rw [stormStoreCheck_bad h]
    exact ⟨(Ctl.markBad_apart StormSt.apart_hdrOk _ _).trans hok, fun h => absurd h (by decide), fun _ => Ctl.markBad_bad _ _ hseen hbad⟩

/-! ## COMMIT (R233) -/

/-- A reading of the door's state that a reported change of a loop does not enter (R220). -/
theorem Ctl.loopEffects_apart {β : Type} {p : StormSt → β} (hp : StormSt.Apart p) (c : Ctl) (i a b : Nat) :
    p (c.loopEffects i a b).storm = p c.storm := by
  have hraise : ∀ (d : Ctl) (e : Bool) (src info detail : Nat), p (d.when e (·.raise src info detail)).storm = p d.storm :=
    fun d e src info detail => Ctl.when_keeps (fun c => p c.storm) d e _ (Ctl.raise_apart hp _ _ _ _)
  have hnoted : p (if b = 2 then c.alarmNoted i else c).storm = p c.storm := by
    split
    · refine (Ctl.raise_apart hp _ _ _ _).trans ?_
      split <;> rfl
    · rfl
  rw [Ctl.loopEffects_eq]
  refine Eq.trans ?_ hnoted
  unfold Ctl.faultNoted
  extract_lets c1 c2
  have h1 : p c1.storm = p (if b = 2 then c.alarmNoted i else c).storm := hraise _ _ _ _ _
  have h2 : p c2.storm = p c1.storm := Ctl.when_keeps (fun c => p c.storm) c1 _ _ rfl
  exact (hraise c2 _ _ _ _).trans (h2.trans h1)

theorem Ctl.loopOff_apart {β : Type} {p : StormSt → β} (hp : StormSt.Apart p) (c : Ctl) (i : Nat) : p (c.loopOff i).storm = p c.storm := by
  unfold Ctl.loopOff
  extract_lets a c1
  refine (Ctl.loopEffects_apart hp _ _ _ _).trans ?_
  split <;> rfl

/-- The shadow in force, before what shows it. -/
def Ctl.shadowIn (c : Ctl) : Ctl := { c with storm := { c.storm with inForce := c.shadow, bqForce := c.storm.bqShadow } }

theorem Ctl.stormMap_storm (c : Ctl) : c.stormMap.storm = c.storm := by
  unfold Ctl.stormMap
  refine Ctl.each_keeps (·.storm) _ _ (fun c f => ?_) c
  rfl

/-- What COMMIT does beyond putting the shadow in force enters none of the copies. -/
theorem Ctl.commit_apart {β : Type} {p : StormSt → β} (hp : StormSt.Apart p) (c : Ctl) : p c.commit.storm = p c.shadowIn.storm := by
  unfold Ctl.commit
  extract_lets off _ c1
  have h1 : p c1.storm = p c.shadowIn.storm := (Ctl.showProg_apart hp _).trans (congrArg p c.shadowIn.stormMap_storm)
  exact (Ctl.each_keeps (fun c => p c.storm) _ _ (fun c i => Ctl.loopOff_apart hp c i) c1).trans h1

theorem stormCommit_taken {m : Master} {c : Ctl} (hsec : c.secure m = true) (h : c.drivenZones = []) :
    stormCommit m c = c.commit.stormStatus 0 := by
  rw [stormCommit, Ctl.ifSecure_true _ _ _ _ hsec, Ctl.stormCommitCmd, Ctl.commitBlocked, h]
  rfl

theorem stormCommit_refused {m : Master} {c : Ctl} (hsec : c.secure m = true) (h : c.drivenZones ≠ []) : stormCommit m c = c.stormStatus 1 := by
  have hne : c.drivenZones.isEmpty = false := by simpa using h
  rw [stormCommit, Ctl.ifSecure_true _ _ _ _ hsec, Ctl.stormCommitCmd, Ctl.commitBlocked, hne]
  rfl

/-! ## ARM and DISARM (R228, R233) -/

theorem Ctl.get_standing (c : Ctl) {r : Reg} (h : ∀ f ∈ [R.STORM_STATUS_ALL_LINKS, R.STORM_STATUS_SAFE_CLK] ++ takeFields, f.id ≠ r.id)
    (i : Nat) : c.standing.get r i = c.get r i := by
  have htake : ∀ f ∈ takeFields, f.id ≠ r.id := fun f hf => h f (List.mem_append_right _ hf)
  have hlinks : ∀ f ∈ [R.STORM_STATUS_ALL_LINKS, R.STORM_STATUS_SAFE_CLK] ++ evtFields, f.id ≠ r.id := fun f hf => by
    rcases List.mem_append.1 hf with hf | hf
    · exact h f (List.mem_append_left _ hf)
    · exact htake f (by simp [takeFields, progFields, hf])
  have hzones : ∀ (d : Ctl) (b : Bool) (cause : Nat) (zs : List Nat), (d.when b (·.takeZones cause zs)).get r i = d.get r i :=
    fun d b cause zs => Ctl.when_keeps (·.get r i) d b _ (d.sameRegsBut_takeZones cause zs r i htake)
  unfold Ctl.standing
  extract_lets c1 c2 c3 c4
  have h1 : c1.get r i = c.get r i := Ctl.when_keeps (·.get r i) c _ _ (c.sameRegsBut_allLinks r i hlinks)
  have h2 : c2.get r i = c1.get r i := hzones _ _ _ _
  have h3 : c3.get r i = c2.get r i := hzones _ _ _ _
  have h4 : c4.get r i = c3.get r i := hzones _ _ _ _
  exact (c4.sameRegsBut_takeZones _ _ r i htake).trans (h4.trans (h3.trans (h2.trans h1)))

/-- The door armed, with what takes its zones at once. -/
def Ctl.armedNow (c : Ctl) : Ctl := (((c.set R.STORM_STATUS_ARMED 1).raise Ev.STORM_ARM 0 1).standing.stormStatus 0).ledgShow

theorem Ctl.armedNow_spec (c : Ctl) : c.armedNow.get R.STORM_STATUS_ARMED = 1 ∧ c.armedNow.get R.STORM_STATUS_LAST = 0 := by
  unfold Ctl.armedNow
  rw [Ctl.sameRegsBut_ledgShow _ _ _ (by decide), Ctl.sameRegsBut_ledgShow _ _ _ (by decide), Ctl.stormStatus_zero_last,
    Ctl.get_stormStatus_zero _ (by decide), Ctl.get_standing _ (by decide), Ctl.get_raise _ _ _ _ _ _ (by decide), Ctl.get_set_self]
  exact ⟨rfl, rfl⟩

theorem stormArm_armed {m : Master} {x : Mach} (hsec : x.c.secure m = true)
    (hmsgs : ∀ k ∈ x.c.planMsgs, norMsgOk x.m.nor k = true ∧ bit (x.c.get R.STORM_MSG_BAD) k = false) (hdirty : x.c.dirty = false)
    (hhdr : x.c.storm.hdrOk = true) (hsafe : x.c.is R.MON_STATUS_SAFE_BAD = false) (hoff : x.c.is R.STORM_STATUS_ARMED = false) :
    stormArm m x = { x with c := x.c.armedNow } := by
  have hnone : x.c.planMsgs.filter (fun k => !norMsgOk x.m.nor k) = [] := List.filter_eq_nil_iff.2 fun k hk => by
    simp [(hmsgs k hk).1]
  have hall : x.c.planMsgs.all (fun k => !bit (x.c.get R.STORM_MSG_BAD) k) = true := List.all_eq_true.2 fun k hk => by
    simp [(hmsgs k hk).2]
  have hmark : x.c.markBad [] = x.c := rfl
  rw [stormArm, if_pos hsec, Mach.stormArm, hnone, hmark]
  simp only [hdirty, hhdr, hall, hsafe, hoff]
  rfl

theorem stormArm_denied {m : Master} {x : Mach} (hsec : x.c.secure m = false) : stormArm m x = { x with c := x.c.denied m 0xE0000 } := by
  rw [stormArm, hsec, if_neg (by decide)]

/-- The backstops of all plans off (R233). -/
def Ctl.backstopsOff (c : Ctl) : Ctl :=
  { c with storm := { c.storm with plans := c.storm.plans.map (fun (e : Nat × PlanRt) => (e.1, { e.2 with backstopAt := none })) } }

theorem kget?_mapValues {α : Type} (f : α → α) (m : Keyed α) (i : Nat) : kget? (m.map (fun e => (e.1, f e.2))) i = (kget? m i).map f := by
  induction m with
  | nil => rfl
  | cons e m ih =>
    obtain ⟨k, v⟩ := e
    simp only [List.map_cons, kget?, ih]
    split <;> rfl

theorem Ctl.planRt_backstopsOff (c : Ctl) (p : Nat) : (c.backstopsOff.planRt p).backstopAt = none := by
  show (kgetD (c.storm.plans.map (fun e => (e.1, { e.2 with backstopAt := none }))) p ({} : PlanRt)).backstopAt = none
  rw [kgetD, kget?_mapValues (fun r : PlanRt => { r with backstopAt := none })]
  cases kget? c.storm.plans p <;> rfl

/-- The door disarmed. -/
def Ctl.disarmed (c : Ctl) : Ctl := (((c.backstopsOff.set R.STORM_STATUS_ARMED 0).raise Ev.STORM_ARM 0 0).stormStatus 0).ledgShow

theorem Ctl.disarmed_spec (c : Ctl) : c.disarmed.get R.STORM_STATUS_ARMED = 0 ∧ c.disarmed.get R.STORM_STATUS_LAST = 0 ∧
    ∀ p, (c.disarmed.planRt p).backstopAt = none := by
  unfold Ctl.disarmed
  refine ⟨?_, ?_, fun p => ?_⟩
  · rw [Ctl.sameRegsBut_ledgShow _ _ _ (by decide), Ctl.get_stormStatus_zero _ (by decide), Ctl.get_raise _ _ _ _ _ _ (by decide),
      Ctl.get_set_self]
    rfl
  · rw [Ctl.sameRegsBut_ledgShow _ _ _ (by decide), Ctl.stormStatus_zero_last]
  · have hplans : (((c.backstopsOff.set R.STORM_STATUS_ARMED 0).raise Ev.STORM_ARM 0 0).stormStatus 0).ledgShow.storm.plans =
        c.backstopsOff.storm.plans := by
      rw [Ctl.ledgShow_storm, Ctl.stormStatus_zero, Ctl.set_storm, Ctl.raise_apart StormSt.apart_plans, Ctl.set_storm]
    rw [Ctl.planRt_eq hplans, Ctl.planRt_backstopsOff]

theorem stormDisarm_disarmed {m : Master} {c : Ctl} (hsec : c.secure m = true) (hidle : ∀ p < 64, c.stormActive p = false)
    (h : c.drivenZones = []) (harmed : c.is R.STORM_STATUS_ARMED = true) : stormDisarm m c = c.disarmed := by
  have hany : (List.range 64).any c.stormActive = false := List.any_eq_false.2 fun p hp => by simp [hidle p (List.mem_range.1 hp)]
  rw [stormDisarm, Ctl.ifSecure_true _ _ _ _ hsec, Ctl.stormDisarmCmd, hany, h, harmed]
  rfl

theorem stormDisarm_refused {m : Master} {c : Ctl} (hsec : c.secure m = true) (h : c.drivenZones ≠ []) :
    stormDisarm m c = c.stormStatus 1 := by
  have hne : c.drivenZones.isEmpty = false := by simpa using h
  rw [stormDisarm, Ctl.ifSecure_true _ _ _ _ hsec, Ctl.stormDisarmCmd, hne, if_pos (by simp)]

/-! ## Forced zones and requests to return them (R234, R237) -/

theorem Ctl.mem_wordZones {i n z : Nat} {p : Nat → Bool} :
    z ∈ ((bitsOf 32 n).map (32 * i + ·)).filter p ↔ ∃ b < 32, bit n b = true ∧ p (32 * i + b) = true ∧ z = 32 * i + b := by
  simp only [bitsOf, List.mem_filter, List.mem_map, List.mem_range]
  constructor
  · rintro ⟨⟨b, ⟨hb, hbit⟩, rfl⟩, hp⟩
    exact ⟨b, hb, hbit, hp, rfl⟩
  · rintro ⟨b, hb, hbit, hp, rfl⟩
    exact ⟨⟨b, ⟨hb, hbit⟩, rfl⟩, hp⟩

/-- A bit of `n` with the bits of `m` cleared. -/
theorem bit_andNot (n m : Nat) {w b : Nat} (h : b < w) : bit (andNot w n m) b = (bit n b && !bit m b) := by
  have hm : m % 2 ^ w < 2 ^ w := Nat.mod_lt _ (Nat.two_pow_pos w)
  rw [andNot, bit_eq_testBit, bit_eq_testBit, bit_eq_testBit, Nat.testBit_and, Nat.sub_sub, Nat.add_comm 1,
    Nat.testBit_two_pow_sub_succ hm, Nat.testBit_mod_two_pow]
  simp [h]

theorem Ctl.sameRegsBut_returnZone (c : Ctl) (z : Nat) :
    c.sameRegsBut (c.returnZone z) [R.ZONE_OWNER, R.STORM_CAUSE_RETURNING, R.STORM_CAUSE_CHECKED] := by
  unfold Ctl.returnZone
  split
  · exact c.sameRegsBut_refl _
  · split
    · exact Ctl.sameRegsBut_of_regs _ rfl
    · refine Ctl.sameRegsBut_set_right (Ctl.sameRegsBut_set_right (c.sameRegsBut_set _ _ _ _ ?_) _ _ ?_) _ _ ?_ <;> simp

theorem Ctl.owner_returnZone (c : Ctl) {z z' : Nat} (h : z ≠ z') : (c.returnZone z').get R.ZONE_OWNER z = c.get R.ZONE_OWNER z := by
  unfold Ctl.returnZone
  split
  · rfl
  · split
    · rfl
    · rw [Ctl.get_set_field _ _ _ _ _ _ (by decide), Ctl.get_set_field _ _ _ _ _ _ (by decide), Ctl.get_set_ne _ _ _ _ _ _ (.inr h.symm)]

/-- The zones whose bit of FORCE[i] rises with `d` (R234). -/
def Ctl.forceRising (c : Ctl) (i d : Nat) : List Nat := (bitsOf 32 (andNot 32 d (c.get R.STORM_FORCE i))).map (32 * i + ·)

/-- FORCE[i] written, and its rising zones taken. -/
def Ctl.forcePut (c : Ctl) (i d : Nat) : Ctl := (c.set R.STORM_FORCE d i).takeZones 8 (c.forceRising i d)

/-- The forced zones whose bit of FORCE[i] falls with `d` (R237). -/
def Ctl.forceFalling (c : Ctl) (i d : Nat) : List Nat :=
  ((bitsOf 32 (andNot 32 (c.get R.STORM_FORCE i) d)).map (32 * i + ·)).filter (fun z => (c.forcePut i d).get R.STORM_CAUSE_CAUSE z == 8)

theorem stormForceWrite_eq {m : Master} {c : Ctl} (hsec : c.secure m = true) (i d : Nat) :
    stormForceWrite m i d c = ((c.forcePut i d).each (c.forceFalling i d) Ctl.returnZone).stormStatus 0 := by
  rw [stormForceWrite, Ctl.ifSecure_true _ _ _ _ hsec]
  rfl

theorem Ctl.force_put (c : Ctl) (i d : Nat) : ((c.forcePut i d).each (c.forceFalling i d) Ctl.returnZone).get R.STORM_FORCE i = d % 2 ^ 32 := by
  rw [Ctl.sameRegsBut_each _ _ _ (fun c z _ => c.sameRegsBut_returnZone z) _ _ _ (by decide), Ctl.forcePut,
    Ctl.sameRegsBut_takeZones _ _ _ _ _ (by decide), Ctl.get_set_self]
  rfl

/-- A zone whose bit rises goes to the storm door: none of those that fall is that zone. -/
theorem Ctl.owner_force (c : Ctl) {i d b : Nat} (hb : b < 32) (harmed : c.is R.STORM_STATUS_ARMED = true) (hrole : c.get R.HNG_STATUS_ROLE ≠ 3)
    (hd : bit d b = true) (hwas : bit (c.get R.STORM_FORCE i) b = false) :
    ((c.forcePut i d).each (c.forceFalling i d) Ctl.returnZone).get R.ZONE_OWNER (32 * i + b) = 1 := by
  have hrise : 32 * i + b ∈ c.forceRising i d := by
    refine List.mem_map.2 ⟨b, List.mem_filter.2 ⟨List.mem_range.2 hb, ?_⟩, rfl⟩
    rw [bit_andNot _ _ hb, hd, hwas]
    rfl
  have hput : (c.forcePut i d).get R.ZONE_OWNER (32 * i + b) = 1 := by
    refine Ctl.owner_takeZones _ 8 ?_ ?_ hrise
    · rw [Ctl.is_eq, Ctl.get_set_field _ _ _ _ _ _ (by decide)]
      exact harmed
    · rw [Ctl.get_set_field _ _ _ _ _ _ (by decide)]
      exact hrole
  refine (Ctl.each_keeps_of_mem (·.get R.ZONE_OWNER (32 * i + b)) _ _ (fun c z hz => ?_) _).trans hput
  obtain ⟨b', hb', hbit, -, rfl⟩ := Ctl.mem_wordZones.1 hz
  refine c.owner_returnZone fun heq => ?_
  rw [bit_andNot _ _ hb', ← Nat.add_left_cancel heq, hd] at hbit
  simp at hbit

theorem stormReturnRequest_taken {m : Master} {c : Ctl} (hsec : c.secure m = true) {i d : Nat}
    (h : ∀ b < 32, bit d b = true → c.driven (32 * i + b) = true → c.causeHolds (32 * i + b) = false) :
    stormReturnRequest m i d c = (c.each (((bitsOf 32 d).map (32 * i + ·)).filter c.driven) Ctl.returnZone).stormStatus 0 := by
  have hany : (((bitsOf 32 d).map (32 * i + ·)).filter c.driven).any c.causeHolds = false := List.any_eq_false.2 fun z hz => by
    obtain ⟨b, hb, hbit, hdrv, rfl⟩ := Ctl.mem_wordZones.1 hz
    simp [h b hb hbit hdrv]
  rw [stormReturnRequest, Ctl.ifSecure_true _ _ _ _ hsec]
  exact if_neg (by rw [hany]; decide)

theorem stormReturnRequest_refused {m : Master} {c : Ctl} (hsec : c.secure m = true) {i d b : Nat} (hb : b < 32) (hbit : bit d b = true)
    (hdrv : c.driven (32 * i + b) = true) (h : c.causeHolds (32 * i + b) = true) : stormReturnRequest m i d c = c.stormStatus 1 := by
  have hany : (((bitsOf 32 d).map (32 * i + ·)).filter c.driven).any c.causeHolds = true :=
    List.any_eq_true.2 ⟨_, Ctl.mem_wordZones.2 ⟨b, hb, hbit, hdrv, rfl⟩, h⟩
  rw [stormReturnRequest, Ctl.ifSecure_true _ _ _ _ hsec]
  exact if_pos hany

/-! ## A zone handed back (R237) -/

/-- The fields of a zone's cause. -/
def causeFields : List Reg :=
  [R.STORM_CAUSE_CAUSE, R.STORM_CAUSE_PLAN, R.STORM_CAUSE_RETURNING, R.STORM_CAUSE_NOPLAN, R.STORM_CAUSE_CHECKED]

/-- A zone that is the render's again, with no cause. -/
def Ctl.zoneFreed (c : Ctl) (z : Nat) : Ctl :=
  ((c.set R.ZONE_OWNER 0 z).set R.STORM_OWNER (clrBit (c.get R.STORM_OWNER (z / 32)) (z % 32)) (z / 32)).each causeFields (fun c r => c.set r 0 z)

/-- What shows that a zone has been handed back. -/
def Ctl.handShown (c : Ctl) (z : Nat) : Ctl :=
  ((c.set R.STORM_STATUS_ZONES c.drivenZones.length).raise Ev.STORM_RETURN z).allLinksEnd.faults.showProg

/-- The fields that it shows in. -/
def handFields : List Reg := [R.STORM_STATUS_ZONES, R.STORM_STATUS_ALL_LINKS, R.STORM_STATUS_SAFE_CLK] ++ progFields

theorem Ctl.handBack_eq (c : Ctl) (z : Nat) : ∃ st : StormSt, st.ready = ((c.zoneFreed z).setZrun z 0).storm.ready.filter (· != z) ∧
    c.handBack z = ({ (c.zoneFreed z).setZrun z 0 with storm := st }).handShown z := ⟨_, rfl, rfl⟩

theorem Ctl.sameRegsBut_allLinksEnd (c : Ctl) :
    c.sameRegsBut c.allLinksEnd ([R.STORM_STATUS_ALL_LINKS, R.STORM_STATUS_SAFE_CLK] ++ evtFields) := by
  unfold Ctl.allLinksEnd
  split
  · exact c.sameRegsBut_refl _
  · refine Ctl.sameRegsBut_trans (Ctl.sameRegsBut_set_right (c.sameRegsBut_set _ _ _ _ ?_) _ _ ?_) (Ctl.sameRegsBut_raise _ _ _ _ _ ?_)
    · simp
    · simp
    · exact fun f hf => List.mem_append_right _ hf

theorem Ctl.allLinksEnd_apart {β : Type} {p : StormSt → β} (hp : StormSt.Apart p) (c : Ctl) : p c.allLinksEnd.storm = p c.storm := by
  unfold Ctl.allLinksEnd
  split
  · rfl
  · exact Ctl.raise_apart hp _ _ _ _

theorem Ctl.sameRegsBut_handShown (c : Ctl) (z : Nat) : c.sameRegsBut (c.handShown z) handFields := by
  unfold Ctl.handShown
  refine Ctl.sameRegsBut_trans ?_ (Ctl.sameRegsBut_mono (Ctl.sameRegsBut_showProg _) fun f hf => List.mem_append_right _ hf)
  refine Ctl.sameRegsBut_trans ?_ (Ctl.sameRegsBut_mono (Ctl.sameRegsBut_faults _) (by simp [handFields, progFields, evtFields]))
  refine Ctl.sameRegsBut_trans ?_ (Ctl.sameRegsBut_mono (Ctl.sameRegsBut_allLinksEnd _) fun f hf => by
    rcases List.mem_append.1 hf with hf | hf
    · exact List.mem_append_left _ (List.mem_cons_of_mem _ hf)
    · exact List.mem_append_right _ (List.mem_append_right _ hf))
  refine Ctl.sameRegsBut_trans (c.sameRegsBut_set _ _ _ _ (by simp [handFields])) (Ctl.sameRegsBut_raise _ _ _ _ _ fun f hf => ?_)
  simp [handFields, progFields, hf]

theorem Ctl.handShown_apart {β : Type} {p : StormSt → β} (hp : StormSt.Apart p) (c : Ctl) (z : Nat) : p (c.handShown z).storm = p c.storm :=
  (Ctl.showProg_apart hp _).trans ((Ctl.allLinksEnd_apart hp _).trans (Ctl.raise_apart hp _ _ _ _))

/-- The fields of zone `z`'s owner and cause once it is freed. -/
theorem Ctl.zoneFreed_spec (c : Ctl) (z : Nat) : (c.zoneFreed z).get R.ZONE_OWNER z = 0 ∧ (c.zoneFreed z).driven z = false ∧
    (c.zoneFreed z).get R.STORM_CAUSE_CAUSE z = 0 := by
  have hcause : ∀ (d : Ctl) (r : Reg) (i : Nat), (∀ f ∈ causeFields, f.id ≠ r.id) →
      (d.each causeFields (fun c r => c.set r 0 z)).get r i = d.get r i :=
    Ctl.sameRegsBut_each _ _ _ fun c r hr => c.sameRegsBut_set _ _ _ _ hr
  refine ⟨?_, ?_, ?_⟩
  · rw [Ctl.zoneFreed, hcause _ _ _ (by decide), Ctl.get_set_field _ _ _ _ _ _ (by decide), Ctl.get_set_self]
    rfl
  · rw [Ctl.driven, Ctl.zoneFreed, hcause _ _ _ (by decide), Ctl.get_set_self]
    exact (bit_mod _ _ 32 (Nat.mod_lt _ (by decide))).trans (bit_putBit_self _ _ false)
  · simp only [Ctl.zoneFreed, causeFields, Ctl.each, List.foldl_cons, List.foldl_nil]
    rw [Ctl.get_set_field _ _ _ _ _ _ (by decide), Ctl.get_set_field _ _ _ _ _ _ (by decide), Ctl.get_set_field _ _ _ _ _ _ (by decide),
      Ctl.get_set_field _ _ _ _ _ _ (by decide), Ctl.get_set_self]
    rfl

theorem Ctl.handBack_spec (c : Ctl) (z : Nat) : (c.handBack z).get R.ZONE_OWNER z = 0 ∧ (c.handBack z).driven z = false ∧
    (c.handBack z).get R.STORM_CAUSE_CAUSE z = 0 ∧ z ∉ (c.handBack z).storm.ready := by
  obtain ⟨st, hst, heq⟩ := c.handBack_eq z
  obtain ⟨howner, hdriven, hcause⟩ := c.zoneFreed_spec z
  have hget : ∀ (r : Reg) (i : Nat), (∀ f ∈ R.YARD_ZRUN_RUN :: handFields, f.id ≠ r.id) →
      (c.handBack z).get r i = (c.zoneFreed z).get r i := by
    intro r i h
    rw [heq, Ctl.sameRegsBut_handShown _ _ _ _ fun f hf => h f (List.mem_cons_of_mem _ hf)]
    exact Ctl.get_set_field _ _ _ _ _ _ (h _ (List.mem_cons_self ..))
  refine ⟨(hget _ _ (by decide)).trans howner, ?_, (hget _ _ (by decide)).trans hcause, ?_⟩
  · rw [Ctl.driven, hget _ _ (by decide)]
    exact hdriven
  · rw [heq, Ctl.handShown_apart StormSt.apart_ready]
    simp [hst]

theorem handbackFade_ready {c : Ctl} {z : Nat} (waited : Bool) (hready : z ∈ c.storm.ready) (h : c.get R.ZONE_OWNER z ≠ 2) :
    handbackFade z waited c = c.handBack z := by
  simp [handbackFade, hready, h]

/-! ## The door's records (R240) -/

theorem Ctl.msix_storm (c : Ctl) (fn vec : Nat) : (c.msix fn vec).storm = c.storm := by
  unfold Ctl.msix
  extract_lets f v g
  split
  · rfl
  · split <;> rfl

theorem Ctl.signalClass_storm (c : Ctl) (k : Nat) : (c.signalClass k).storm = c.storm :=
  (Ctl.when_keeps (·.storm) _ _ _ (Ctl.msix_storm _ _ _)).trans (Ctl.when_keeps (·.storm) _ _ _ (Ctl.msix_storm _ _ _))

theorem Ctl.evtUpdate_storm (c : Ctl) : c.evtUpdate.storm = c.storm := by
  unfold Ctl.evtUpdate
  extract_lets was g k c1 c2
  exact (Ctl.each_keeps (·.storm) _ _ (fun c k => c.signalClass_storm k) c1).trans rfl

theorem Ctl.evtQueue_storm (c : Ctl) (q : List EvRec) : (c.evtQueue q).1.storm = c.storm := by
  unfold Ctl.evtQueue
  extract_lets x n _ c1 c2 c3 c4
  have h3 : c3.storm = c2.storm := Ctl.when_keeps (·.storm) c2 _ _ rfl
  have h4 : c4.storm = c3.storm := Ctl.when_keeps (·.storm) c3 _ _ rfl
  exact h4.trans h3

theorem Ctl.pushRec_storm (c : Ctl) (e : EvRec) : (c.pushRec e).1.storm = c.storm := by
  unfold Ctl.pushRec
  extract_lets logged c1 q c2
  have h1 : c1.storm = c.storm := Ctl.when_keeps (·.storm) c _ _ rfl
  split
  · exact (Ctl.evtQueue_storm _ _).trans h1
  · exact (Ctl.evtQueue_storm _ _).trans h1

/-- Delivering a record that is made leaves the door's state. -/
theorem Ctl.deliver_storm (c : Ctl) (e : EvRec) : (c.deliver e).storm = c.storm := by
  unfold Ctl.deliver
  extract_lets p c1 m c2
  have h1 : c1.storm = c.storm := c.pushRec_storm e
  refine (Ctl.evtUpdate_storm _).trans (Eq.trans ?_ h1)
  unfold c2
  split
  · exact Ctl.pushRec_storm _ _
  · rfl

/-- The door's records taken off its queue. -/
def Ctl.recordsOut (c : Ctl) : Ctl := { c with storm := { c.storm with evq := [], evqLost := 0 } }

theorem stormEventDeliver_spec {c : Ctl} (h : c.fire.dieLost = false) : (stormEventDeliver c).storm.evq = [] ∧
    c.sameRegsBut (stormEventDeliver c) evtFields := by
  have heq : stormEventDeliver c = c.recordsOut.each c.storm.evq Ctl.deliver := by
    rw [stormEventDeliver, h]
    rfl
  rw [heq]
  refine ⟨congrArg (·.evq) (Ctl.each_keeps (·.storm) _ _ Ctl.deliver_storm c.recordsOut), ?_⟩
  exact Ctl.sameRegsBut_trans (Ctl.sameRegsBut_of_regs _ rfl)
    (Ctl.sameRegsBut_each _ _ _ (fun c e _ => (evtOnly_deliver c e).regs) c.recordsOut)

/-! ## The statement -/

theorem bit_toNat (d : BitVec 32) (b : Nat) : bit d.toNat b = d.getLsbD b := bit_eq_testBit _ _

/-- Settles O36: each command by the lemmas on what it does when it is taken, and that it is refused or denied else. -/
theorem stormDoor : Obligations.StormDoor := by
  unfold Obligations.StormDoor
  intro s m
  refine ⟨fun h => ?_, ?_, fun hsec => ⟨fun h => ?_, fun h => ?_, fun hmsgs hdirty hhdr hsafe hoff => ?_, fun hidle h harmed => ?_, fun h => ?_,
    fun i d => ?_, fun i d => ⟨fun h => ?_, fun h => ?_⟩⟩, fun hsec => ?_, fun z w hready h => ?_, fun h => ?_⟩
  · obtain ⟨hlost, howner⟩ := dieStrobeLoss_spec (c := s.m.fresh.c) h
    exact ⟨_, next_of_ctl rfl rfl, hlost, howner, rfl⟩
  · obtain ⟨hok, hid, hbad⟩ := stormStoreCheck_spec s.m.fresh
    exact ⟨_, next_of_mach rfl rfl, hok, rfl, hid, hbad⟩
  · refine ⟨_, next_of_ctl rfl (stormCommit_taken (c := s.m.fresh.c) hsec h), ?_, ?_, Ctl.stormStatus_zero_last _, rfl⟩
    · rw [Ctl.stormStatus_zero]
      exact Ctl.commit_apart StormSt.apart_inForce s.m.fresh.c
    · rw [Ctl.stormStatus_zero]
      exact Ctl.commit_apart StormSt.apart_bqForce s.m.fresh.c
  · exact ⟨_, next_of_ctl rfl (stormCommit_refused (c := s.m.fresh.c) hsec h), Ctl.stormStatus_apart StormSt.apart_inForce s.m.fresh.c,
      s.m.fresh.c.stormStatus_refused.1, rfl⟩
  · obtain ⟨harmed, hlast⟩ := s.m.fresh.c.armedNow_spec
    exact ⟨_, next_of_mach rfl (stormArm_armed (x := s.m.fresh) hsec hmsgs hdirty hhdr hsafe hoff), harmed, hlast, rfl⟩
  · obtain ⟨hoff, hlast, hback⟩ := s.m.fresh.c.disarmed_spec
    exact ⟨_, next_of_ctl rfl (stormDisarm_disarmed (c := s.m.fresh.c) hsec hidle h harmed), hoff, hlast, hback, rfl⟩
  · obtain ⟨hlast, hregs⟩ := s.m.fresh.c.stormStatus_refused
    exact ⟨_, next_of_ctl rfl (stormDisarm_refused (c := s.m.fresh.c) hsec h), hlast, hregs _ _ (by decide), rfl⟩
  · refine ⟨_, next_of_ctl rfl (stormForceWrite_eq (c := s.m.fresh.c) hsec i d.toNat), ?_, Ctl.stormStatus_zero_last _, rfl,
      fun harmed hrole b hb hd hwas => ?_⟩
    · rw [Ctl.get_stormStatus_zero _ (by decide), Ctl.force_put]
      exact Nat.mod_eq_of_lt d.isLt
    · rw [Ctl.get_stormStatus_zero _ (by decide)]
      exact Ctl.owner_force s.m.fresh.c hb harmed hrole ((bit_toNat d b).trans hd) hwas
  · exact next_of_ctl rfl (stormReturnRequest_taken (c := s.m.fresh.c) hsec fun b hb hbit => h b hb ((bit_toNat d b).symm.trans hbit))
  · obtain ⟨b, hb, hbit, hdrv, hholds⟩ := h
    exact next_of_ctl rfl (stormReturnRequest_refused (c := s.m.fresh.c) hsec hb ((bit_toNat d b).trans hbit) hdrv hholds)
  · simp only [List.forall_mem_cons, List.not_mem_nil, false_implies, implies_true, and_true]
    exact ⟨next_of_ctl rfl (Ctl.ifSecure_false s.m.fresh.c m 0xE0000 _ hsec), next_of_mach rfl (stormArm_denied (x := s.m.fresh) hsec),
      next_of_ctl rfl (Ctl.ifSecure_false s.m.fresh.c m 0xE0000 _ hsec)⟩
  · obtain ⟨howner, hdriven, hcause, hnot⟩ := s.m.fresh.c.handBack_spec z
    exact ⟨_, next_of_ctl rfl (handbackFade_ready (c := s.m.fresh.c) w hready h), howner, hdriven, hcause, hnot, rfl⟩
  · obtain ⟨hevq, hregs⟩ := stormEventDeliver_spec (c := s.m.fresh.c) h
    exact ⟨_, next_of_ctl rfl rfl, hevq, hregs, rfl⟩

end Sys2Proof.Machine
end

section
/-! PROOFS. The hinge's role, sync phase and status, and a module that joins as a standby or leaves service (R243, R260 to R265). -/
namespace Sys2Proof.Machine

/-! ## What leaves the hinge's own state alone -/

/-- `d` has the hinge's state of `c`, and every register field of it outside `l`. -/
structure HngKept (l : List Reg) (c d : Ctl) : Prop where
  hng : d.hng = c.hng
  regs : c.sameRegsBut d l

namespace HngKept

variable {l m : List Reg}

theorem refl (c : Ctl) : HngKept l c c := ⟨rfl, c.sameRegsBut_refl l⟩

theorem trans {a b c : Ctl} (h : HngKept l a b) (k : HngKept l b c) : HngKept l a c :=
  ⟨k.hng.trans h.hng, Ctl.sameRegsBut_trans h.regs k.regs⟩

theorem mono {c d : Ctl} (h : HngKept l c d) (hlm : ∀ f ∈ l, f ∈ m) : HngKept m c d := ⟨h.hng, Ctl.sameRegsBut_mono h.regs hlm⟩

theorem of_regs {c d : Ctl} (hhng : d.hng = c.hng) (hregs : d.regs = c.regs) : HngKept l c d := ⟨hhng, Ctl.sameRegsBut_of_regs l hregs⟩

theorem set (c : Ctl) {r : Reg} (v i : Nat) (h : r ∈ l) : HngKept l c (c.set r v i) := ⟨rfl, c.sameRegsBut_set r v i l h⟩

theorem raise (c : Ctl) (src info detail : Nat) (h : ∀ f ∈ evtFields, f ∈ l) : HngKept l c (c.raise src info detail) :=
  ⟨c.raise_hng src info detail, c.sameRegsBut_raise src info detail l h⟩

theorem when (c : Ctl) (b : Bool) (f : Ctl → Ctl) (h : HngKept l c (f c)) : HngKept l c (c.when b f) := by
  cases b
  · exact refl c
  · exact h

theorem each {α : Type} (xs : List α) (f : Ctl → α → Ctl) (h : ∀ c, ∀ a ∈ xs, HngKept l c (f c a)) (c : Ctl) :
    HngKept l c (c.each xs f) := by
  induction xs generalizing c with
  | nil => exact refl c
  | cons a xs ih => exact (h c a (List.mem_cons_self ..)).trans (ih (fun c b hb => h c b (List.mem_cons_of_mem _ hb)) (f c a))

end HngKept

/-! ## Role and phase (R262 to R264) -/

theorem hngKept_setRole (c : Ctl) (r : Nat) : HngKept (R.HNG_STATUS_ROLE :: evtFields) c (c.setRole r) := by
  unfold Ctl.setRole
  split
  · exact .refl c
  · exact (HngKept.set c _ _ (List.mem_cons_self ..)).trans (.raise _ _ _ _ fun _ => List.mem_cons_of_mem _)

theorem Ctl.role_setRole (c : Ctl) {r : Nat} (h : r < 8) : (c.setRole r).role = r := by
  unfold Ctl.setRole
  split
  · assumption
  · rw [Ctl.role, Ctl.get_raise _ _ _ _ _ _ (by decide), Ctl.get_set_self]
    exact Nat.mod_eq_of_lt h

theorem hngKept_setSync (c : Ctl) (n : Nat) : HngKept (R.HNG_STATUS_SYNC :: evtFields) c (c.setSync n) := by
  unfold Ctl.setSync
  split
  · exact .refl c
  · exact (HngKept.set c _ _ (List.mem_cons_self ..)).trans (.raise _ _ _ _ fun _ => List.mem_cons_of_mem _)

theorem Ctl.sync_setSync (c : Ctl) {n : Nat} (h : n < 4) : (c.setSync n).get R.HNG_STATUS_SYNC = n := by
  unfold Ctl.setSync
  split
  · assumption
  · rw [Ctl.get_raise _ _ _ _ _ _ (by decide), Ctl.get_set_self]
    exact Nat.mod_eq_of_lt h

/-- The role does not enter the phase, nor the phase the role. -/
theorem Ctl.sync_setRole (c : Ctl) (r : Nat) : (c.setRole r).get R.HNG_STATUS_SYNC = c.get R.HNG_STATUS_SYNC :=
  (hngKept_setRole c r).regs _ _ (by decide)

theorem Ctl.role_setSync (c : Ctl) (n : Nat) : (c.setSync n).role = c.role := (hngKept_setSync c n).regs R.HNG_STATUS_ROLE 0 (by decide)

theorem hngKept_phaseStep (c : Ctl) (back : Bool) : HngKept [R.WIN_TICK_PHASE] c (c.phaseStep back) := .set _ _ _ (by simp)

/-- The fields that a return to CONVERGE changes. -/
def convergeFields : List Reg := [R.HNG_RESYNC_MATCHED, R.HNG_STATUS_SYNC] ++ evtFields

/-- A standby in CONVERGE has no run of matches; of the hinge's state only the STATE set can go (R263). -/
theorem Ctl.toConverge_spec (c : Ctl) : c.toConverge.get R.HNG_STATUS_SYNC = 2 ∧ c.toConverge.get R.HNG_RESYNC_MATCHED = 0 ∧
    c.sameRegsBut c.toConverge convergeFields ∧
      ∃ (set : Option HngState) (done : Bool), c.toConverge.hng = { c.hng with stateSet := set, stateDone := done } := by
  unfold Ctl.toConverge
  extract_lets _ h
  have hkept := hngKept_setSync (({ c with hng := h } : Ctl).set R.HNG_RESYNC_MATCHED 0) 2
  refine ⟨Ctl.sync_setSync _ (by decide), ?_, ?_, ?_⟩
  · rw [hkept.regs _ _ (by decide), Ctl.get_set_self]
    rfl
  · exact Ctl.sameRegsBut_trans (b := ({ c with hng := h } : Ctl).set R.HNG_RESYNC_MATCHED 0)
      (fun r i k => Ctl.get_set_field _ _ _ _ _ _ (k _ (by simp [convergeFields]))) (Ctl.sameRegsBut_mono hkept.regs (by decide))
  · rw [hkept.hng]
    unfold h
    split
    · exact ⟨c.hng.stateSet, c.hng.stateDone, rfl⟩
    · exact ⟨none, false, rfl⟩

theorem Ctl.role_toConverge (c : Ctl) : c.toConverge.role = c.role := by
  obtain ⟨-, -, hregs, -⟩ := c.toConverge_spec
  exact hregs R.HNG_STATUS_ROLE 0 (by decide)

/-! ## Joining and leaving service (R243, R260 to R262) -/

/-- A module that joins is a standby in BULK of which nothing has arrived. -/
theorem Ctl.joinStandby_spec (c : Ctl) : c.joinStandby.role = 3 ∧ c.joinStandby.get R.HNG_STATUS_SYNC = 1 ∧
    c.joinStandby.get R.HNG_RESYNC_BULK_PCT = 0 := by
  unfold Ctl.joinStandby
  extract_lets _ d
  refine ⟨?_, Ctl.sync_setSync _ (by decide), ?_⟩
  · rw [Ctl.role_setSync, Ctl.role, Ctl.get_set_field _ _ _ _ _ _ (by decide)]
    exact Ctl.role_setRole _ (by decide)
  · rw [(hngKept_setSync _ _).regs _ _ (by decide), Ctl.get_set_self]
    rfl

/-- The hinge's state of a module out of service: no handover, no decision and no journal. -/
def HngSt.off (h : HngSt) : HngSt := { h with standAt := none, decide := none, journal := [], jwords := 0, overflow := false }

/-- The fields that leaving service changes. -/
def leaveFields : List Reg := [R.HNG_STATUS_DUAL, R.HNG_STATUS_SYNC, R.HNG_STATUS_ROLE] ++ evtFields

theorem Ctl.leaveService_spec (c : Ctl) {r : Nat} (h : r < 8) : (c.leaveService r).role = r ∧
    (c.leaveService r).get R.HNG_STATUS_SYNC = 0 ∧ (c.leaveService r).get R.HNG_STATUS_DUAL = 0 ∧
      (c.leaveService r).hng = c.hng.off ∧ c.sameRegsBut (c.leaveService r) leaveFields := by
  unfold Ctl.leaveService
  extract_lets _ d
  have hsync := hngKept_setSync (d.set R.HNG_STATUS_DUAL 0) 0
  have hrole := hngKept_setRole ((d.set R.HNG_STATUS_DUAL 0).setSync 0) r
  refine ⟨Ctl.role_setRole _ h, ?_, ?_, ?_, ?_⟩
  · rw [Ctl.sync_setRole]
    exact Ctl.sync_setSync _ (by decide)
  · rw [hrole.regs _ _ (by decide), hsync.regs _ _ (by decide), Ctl.get_set_self]
    rfl
  · rw [hrole.hng, hsync.hng]
    rfl
  · have hdual : c.sameRegsBut (d.set R.HNG_STATUS_DUAL 0) leaveFields :=
      Ctl.sameRegsBut_trans (b := d) (Ctl.sameRegsBut_of_regs _ rfl) (d.sameRegsBut_set _ _ _ _ (by decide))
    exact Ctl.sameRegsBut_trans hdual
      (Ctl.sameRegsBut_trans (Ctl.sameRegsBut_mono hsync.regs (by decide)) (Ctl.sameRegsBut_mono hrole.regs (by decide)))

theorem Ctl.role_leaveService (c : Ctl) {r : Nat} (h : r < 8) : (c.leaveService r).role = r := (c.leaveService_spec h).1

/-! ## Status (R265) -/

theorem Ctl.hngStatus_zero (c : Ctl) : c.hngStatus 0 = c.set R.HNG_STATUS_LAST 0 := Ctl.status_ne_one _ _ _ _ _ _ _ (by decide)

theorem Ctl.hngStatus_zero_last (c : Ctl) : (c.hngStatus 0).get R.HNG_STATUS_LAST = 0 := by
  rw [Ctl.hngStatus_zero, Ctl.get_set_self]
  rfl

theorem hngKept_hngStatus_zero (c : Ctl) : HngKept [R.HNG_STATUS_LAST] c (c.hngStatus 0) := by
  rw [Ctl.hngStatus_zero]
  exact .set _ _ _ (by simp)

theorem Ctl.hngStatus_one_last (c : Ctl) : (c.hngStatus 1).get R.HNG_STATUS_LAST = 1 :=
  (c.status_refused R.HNG_STATUS_LAST R.HNG_STATUS_ERR_STATE Ev.HNG_STATE rfl rfl (by decide) (by decide)).1

theorem hngKept_hngStatus_one (c : Ctl) : HngKept ([R.HNG_STATUS_LAST, R.HNG_STATUS_ERR_STATE] ++ evtFields) c (c.hngStatus 1) where
  hng := by
    rw [Ctl.hngStatus, Ctl.status_one, Ctl.raise_hng]
    rfl
  regs := c.sameRegsBut_status _ _ _ _ _ _

theorem Ctl.role_hngStatus_zero (c : Ctl) : (c.hngStatus 0).role = c.role := (hngKept_hngStatus_zero c).regs R.HNG_STATUS_ROLE 0 (by decide)

theorem Ctl.role_hngStatus_one (c : Ctl) : (c.hngStatus 1).role = c.role := (hngKept_hngStatus_one c).regs R.HNG_STATUS_ROLE 0 (by decide)

/-! ## The next state of a command -/

/-- A command that the control state alone carries out answers a next state with that control state and the same memories. -/
theorem ctl_next {i : Instr} {s : State} {f : Ctl → Ctl} {c : Ctl} (he : exec i s = s.ctl f) (h : f s.m.fresh.c = c) :
    ∃ t, exec i s = .next t ∧ t.m.c = c ∧ t.m.m = s.m.m := ⟨_, next_of_ctl he h, rfl, rfl⟩

/-- A command that acts on the whole module answers a next state with that module. -/
theorem mach_next {i : Instr} {s : State} {f : Mach → Mach} {y : Mach} (he : exec i s = s.mach f) (h : f s.m.fresh = y) :
    ∃ t, exec i s = .next t ∧ t.m = y := ⟨_, next_of_mach he h, rfl⟩

end Sys2Proof.Machine
end

section
/-! PROOFS. The commands of HNG_CMD (R8, R243, R255, R260, R265). -/
namespace Sys2Proof.Machine

/-! ## What a command that is taken leaves (R243, R260) -/

/-- A module that enters FORMING, before its status. -/
def Ctl.forming (c : Ctl) : Ctl := { c with hng := { c.hng with formWait := 0, offAfter := false, standAt := none } }.setRole 1

theorem Ctl.forming_spec (c : Ctl) : c.forming.role = 1 ∧ c.forming.hng.formWait = 0 ∧
    c.sameRegsBut c.forming (R.HNG_STATUS_ROLE :: evtFields) := by
  have hkept := hngKept_setRole { c with hng := { c.hng with formWait := 0, offAfter := false, standAt := none } } 1
  refine ⟨Ctl.role_setRole _ (by decide), congrArg (·.formWait) hkept.hng, ?_⟩
  exact Ctl.sameRegsBut_trans (Ctl.sameRegsBut_of_regs _ rfl) hkept.regs

/-- DISABLE taken: the handover that it asks for, and OFF after it. -/
def Ctl.offAsked (c : Ctl) (at' : Option Nat) : Ctl := { c with hng := { c.hng with offAfter := true, standAt := at' } }

/-- STAND_DOWN taken: the boundary of the handover. -/
def Ctl.standSet (c : Ctl) : Ctl := { c with hng := { c.hng with standAt := some (winAdd c.winNo 2) } }

/-! ## The commands of a master that R8 lets write them (R243, R255, R260, R265) -/

section
variable {m : Master} {c : Ctl} (hsec : c.secure m = true)
include hsec

theorem hngEnable_off (hmode : c.get R.HNG_CFG_MODE ≠ 0) (h0 : c.is R.HNG_CFG_H0_EN = true) (h1 : c.is R.HNG_CFG_H1_EN = true)
    (hrole : c.role = 0) : hngEnable m c = c.forming.hngStatus 0 := by
  rw [hngEnable, Ctl.ifSecure_true _ _ _ _ hsec]
  simp [Ctl.hngEnable, Ctl.forming, hmode, h0, h1, hrole]

theorem hngEnable_solo (hmode : c.get R.HNG_CFG_MODE = 0) : hngEnable m c = c.hngStatus 1 := by
  rw [hngEnable, Ctl.ifSecure_true _ _ _ _ hsec]
  simp [Ctl.hngEnable, hmode]

theorem hngDisable_eq : hngDisable m c =
    (c.offAsked (if c.role = 2 ∧ c.syncedPartner.isSome = true then some (winAdd c.winNo 2) else none)).hngStatus 0 := by
  rw [hngDisable, Ctl.ifSecure_true _ _ _ _ hsec]
  simp [Ctl.hngDisable, Ctl.offAsked]

theorem hngRejoin_failed (hrole : c.role = 5) : hngRejoin m c = c.joinStandby.hngStatus 0 := by
  simp [hngRejoin, Ctl.ifSecure_true _ _ _ _ hsec, hrole]

theorem hngRejoin_refused (hrole : c.role ≠ 5) : hngRejoin m c = c.hngStatus 1 := by
  simp [hngRejoin, Ctl.ifSecure_true _ _ _ _ hsec, hrole]

theorem hngStandDown_taken (hrole : c.role = 2) (hpartner : c.syncedPartner.isSome = true) :
    hngStandDown m c = c.standSet.hngStatus 0 := by
  obtain ⟨r, hr⟩ := Option.isSome_iff_exists.1 hpartner
  simp [hngStandDown, Ctl.ifSecure_true _ _ _ _ hsec, hrole, hr, Ctl.standSet]

theorem hngStandDown_refused (hrole : c.role ≠ 2) : hngStandDown m c = c.hngStatus 1 := by
  simp [hngStandDown, Ctl.ifSecure_true _ _ _ _ hsec, hrole]

theorem hngProbe_eq : hngProbe m c = (c.startProbe 0).hngStatus 0 := Ctl.ifSecure_true _ _ _ _ hsec

end

/-- A command that is refused: the role and the hinge's own state stay, and LAST shows it. -/
theorem hng_refused_next {i : Instr} {s : State} {f : Ctl → Ctl} (he : exec i s = s.ctl f) (h : f s.m.fresh.c = s.m.fresh.c.hngStatus 1) :
    ∃ t, exec i s = .next t ∧ t.m.c.role = s.m.c.role ∧ t.m.c.hng = s.m.c.hng ∧ t.m.c.get R.HNG_STATUS_LAST = 1 ∧ t.m.m = s.m.m :=
  ⟨_, next_of_ctl he h, Ctl.role_hngStatus_one _, (hngKept_hngStatus_one _).hng, Ctl.hngStatus_one_last _, rfl⟩

/-! ## The statement -/

/-- Settles O37: each command by what it does when it is taken, by the refusal that its row states, and by R8 for other masters. That a
handover is due at N + 2 is log entry 98. -/
theorem hingeCommands : Obligations.HingeCommands := by
  unfold Obligations.HingeCommands
  intro s m
  refine ⟨fun hsec => ⟨fun hmode h0 h1 hrole => ?_, fun hmode => ?_, ?_, fun hrole => ?_, fun hrole => ?_, fun hrole hpartner => ?_,
    fun hrole => ?_, ?_⟩, fun hsec => ?_⟩
  · obtain ⟨hform, hwait, hregs⟩ := s.m.fresh.c.forming_spec
    have hkept := hngKept_hngStatus_zero s.m.fresh.c.forming
    rw [← hkept.hng] at hwait
    refine ⟨_, next_of_ctl rfl (hngEnable_off (c := s.m.fresh.c) hsec hmode h0 h1 hrole), (Ctl.role_hngStatus_zero _).trans hform, hwait,
      Ctl.hngStatus_zero_last _, ?_, rfl⟩
    exact Ctl.sameRegsBut_trans (Ctl.sameRegsBut_mono hregs (by decide)) (Ctl.sameRegsBut_mono hkept.regs (by decide))
  · obtain ⟨t, ht, hrole, -, hlast, hm⟩ := hng_refused_next (i := .hngEnable m) rfl (hngEnable_solo (c := s.m.fresh.c) hsec hmode)
    exact ⟨t, ht, hrole, hlast, hm⟩
  · have hrun := hngDisable_eq (c := s.m.fresh.c) hsec
    have hkept := hngKept_hngStatus_zero (s.m.fresh.c.offAsked
      (if s.m.c.role = 2 ∧ s.m.c.syncedPartner.isSome = true then some (winAdd s.m.c.winNo 2) else none))
    exact ⟨_, next_of_ctl rfl hrun, congrArg (·.offAfter) hkept.hng, Ctl.hngStatus_zero_last _, congrArg (·.standAt) hkept.hng,
      hkept.regs, rfl⟩
  · obtain ⟨hjoin, hsync, hpct⟩ := s.m.fresh.c.joinStandby_spec
    have hkept := hngKept_hngStatus_zero s.m.fresh.c.joinStandby
    exact ⟨_, next_of_ctl rfl (hngRejoin_failed (c := s.m.fresh.c) hsec hrole), (Ctl.role_hngStatus_zero _).trans hjoin,
      (hkept.regs _ _ (by decide)).trans hsync, (hkept.regs _ _ (by decide)).trans hpct, Ctl.hngStatus_zero_last _, rfl⟩
  · obtain ⟨t, ht, hsame, -, hlast, hm⟩ := hng_refused_next (i := .hngRejoin m) rfl (hngRejoin_refused (c := s.m.fresh.c) hsec hrole)
    exact ⟨t, ht, hsame, hlast, hm⟩
  · exact ⟨_, next_of_ctl rfl (hngStandDown_taken (c := s.m.fresh.c) hsec hrole hpartner),
      congrArg (·.standAt) (hngKept_hngStatus_zero _).hng, (Ctl.role_hngStatus_zero _).trans hrole, Ctl.hngStatus_zero_last _, rfl⟩
  · obtain ⟨t, ht, -, hhng, hlast, hm⟩ :=
      hng_refused_next (i := .hngStandDown m) rfl (hngStandDown_refused (c := s.m.fresh.c) hsec hrole)
    exact ⟨t, ht, congrArg (·.standAt) hhng, hlast, hm⟩
  · have hkept := hngKept_hngStatus_zero (s.m.fresh.c.startProbe 0)
    exact ⟨_, next_of_ctl rfl (hngProbe_eq (c := s.m.fresh.c) hsec), congrArg (·.probe) hkept.hng, congrArg (·.probeWhy) hkept.hng,
      Ctl.hngStatus_zero_last _, hkept.regs, rfl⟩
  · have hden : ∀ f : Ctl → Ctl, s.m.fresh.c.ifSecure m 0x80008 f = s.m.fresh.c.denied m 0x80008 :=
      fun f => Ctl.ifSecure_false _ _ _ f hsec
    simp only [List.forall_mem_cons, List.not_mem_nil, false_implies, implies_true, and_true]
    exact ⟨next_of_ctl rfl (hden _), next_of_ctl rfl (hden _), next_of_ctl rfl (hden _), next_of_ctl rfl (hden _),
      next_of_ctl rfl (hden _)⟩

end Sys2Proof.Machine
end

section
/-! PROOFS. Promotion: the rings, what it triggers and sends, and the module in service (R94, R222, R227, R245, R251, R258, R259). -/
namespace Sys2Proof.Machine

/-! ## What a promotion writes again in the rings (R94, R259) -/

/-- The fields that the ring writers show in. -/
def ringFields : List Reg := [R.SRC_LINK, R.SRC_LOST_SEEN, R.OBJ_SRC_MUTE, R.SRC_PEAK]

theorem hngKept_setLink (c : Ctl) (i v : Nat) : HngKept ringFields c (c.setLink i v) := by
  unfold Ctl.setLink Ctl.showMute
  refine HngKept.trans (b := (c.set R.SRC_LINK v i).when (2 ≤ v) (·.set R.SRC_LOST_SEEN 1 i)) ?_
    (.each _ _ (fun c o _ => .set c _ _ (by decide)) _)
  exact (HngKept.set c _ _ (by decide)).trans (.when _ _ _ (.set _ _ _ (by decide)))

/-- The ring with the block that was held, and what shows it (R94). -/
def Ctl.heldWritten (c : Ctl) (i : Nat) (r : Ring) : Ctl :=
  if r.held.isEmpty then c
  else
    let p := c.srcFilter i r.held
    let r' := (kgetD p.2.src.rings i r).append (c.get R.SRC_RING i) p.1
    let c := { p.2 with src := { p.2.src with rings := kput p.2.src.rings i r' } }
    ((c.nearWrite i p.1).setLink i (if c.get R.SRC_PORT i = 0 then 0 else r.heldLink)).set R.SRC_PEAK (levelDb (blockPeak p.1)) i

theorem Ctl.ringBoundary_shape (c : Ctl) (i : Nat) (staged : List Int) (link : Nat) {r : Ring} (h : kget? c.src.rings i = some r) :
    ∃ rings : Keyed Ring, c.ringBoundary i staged link =
      { c.heldWritten i r with src := { (c.heldWritten i r).src with rings := rings } } := by
  have heq : c.ringBoundary i staged link = match kget? (c.heldWritten i r).src.rings i with
      | none => c.heldWritten i r
      | some q => { c.heldWritten i r with src := { (c.heldWritten i r).src with
          rings := kput (c.heldWritten i r).src.rings i { q with held := staged, heldLink := link } } } := by
    rw [Ctl.ringBoundary, h]
    rfl
  rw [heq]
  cases kget? (c.heldWritten i r).src.rings i with
  | none => exact ⟨_, rfl⟩
  | some q => exact ⟨_, rfl⟩

theorem hngKept_heldWritten (c : Ctl) (i : Nat) (r : Ring) : HngKept ringFields c (c.heldWritten i r) := by
  unfold Ctl.heldWritten
  split
  · exact .refl c
  · extract_lets p r' _ _ c1
    have hfilter : HngKept ringFields c p.2 := .of_regs rfl rfl
    have hnear : HngKept ringFields p.2 (c1.nearWrite i p.1) := .of_regs rfl rfl
    refine HngKept.trans ?_ (HngKept.set _ _ _ (by decide))
    refine HngKept.trans ?_ (hngKept_setLink _ _ _)
    exact hfilter.trans hnear

theorem hngKept_ringBoundary (c : Ctl) (i : Nat) (staged : List Int) (link : Nat) :
    HngKept ringFields c (c.ringBoundary i staged link) := by
  cases h : kget? c.src.rings i with
  | none =>
    rw [Ctl.ringBoundary, h]
    exact .refl c
  | some r =>
    obtain ⟨rings, heq⟩ := c.ringBoundary_shape i staged link h
    rw [heq]
    exact (hngKept_heldWritten c i r).trans (.of_regs rfl rfl)

theorem hngKept_ringReplay (c : Ctl) (i n : Nat) (bs : List (List Int × Nat)) : HngKept ringFields c (c.ringReplay i n bs) := by
  unfold Ctl.ringReplay
  split
  · exact .refl c
  · extract_lets k r' _ c1
    exact HngKept.trans (b := c1) (.of_regs rfl rfl) (.each bs _ (fun c (b : List Int × Nat) _ => hngKept_ringBoundary c i b.1 b.2) c1)

/-! ## What a promotion triggers and sends (R222, R227, R245, R251) -/

theorem hngKept_takeZones (c : Ctl) (cause : Nat) (zs : List Nat) : HngKept takeFields c (c.takeZones cause zs) where
  hng := Ctl.takeZones_keeps (·.hng) Ctl.set_hng Ctl.raise_hng (fun _ _ => rfl) c cause zs
  regs := c.sameRegsBut_takeZones cause zs

theorem hngKept_showProg (c : Ctl) : HngKept progFields c c.showProg where
  hng := Ctl.showProg_keeps (·.hng) Ctl.set_hng Ctl.raise_hng (fun _ _ => rfl) c
  regs := c.sameRegsBut_showProg

theorem Ctl.stormTrigger_hng (c : Ctl) (p : Nat) : (c.stormTrigger p).hng = c.hng := by
  unfold Ctl.stormTrigger
  rw [(hngKept_showProg _).hng, Ctl.raise_hng]
  exact (hngKept_takeZones _ _ _).hng

theorem Ctl.doorTrigger_hng (c : Ctl) (p : Nat) : (c.doorTrigger p).hng = c.hng := by
  unfold Ctl.doorTrigger
  split
  · rfl
  · split
    · exact c.stormTrigger_hng p
    · rfl

theorem Ctl.trigger_hng (c : Ctl) (p : Nat) (keeper door : Bool) : (c.trigger p keeper door).hng = c.hng := by
  unfold Ctl.trigger
  split
  · rfl
  · refine (Ctl.when_keeps (·.hng) _ _ _ (Ctl.doorTrigger_hng _ _)).trans (Ctl.when_keeps (·.hng) _ _ _ ?_)
    unfold Ctl.keeperTrigger
    split <;> rfl

theorem hngKept_triggerHeld (c : Ctl) : HngKept takeFields c c.triggerHeld :=
  .each _ _ (fun d p _ => ⟨d.trigger_hng p _ _, d.sameRegsBut_trigger p _ _⟩) c

/-- A frame sent takes its number, and stands in what is sent out. -/
theorem Ctl.hngSend_shape (c : Ctl) (type dst cwin : Nat) (payload : List Nat) : ∃ (n : Nat) (out : List Output),
    c.hngSend type dst cwin payload = { c with hng := { c.hng with seqOut := n }, out := out } := by
  unfold Ctl.hngSend
  split
  · exact ⟨c.hng.seqOut, c.out, rfl⟩
  · exact ⟨_, _, rfl⟩

/-- A reading that neither the number of the next frame nor what is sent out enters. -/
theorem Ctl.hngSend_keeps {β : Type} (p : Ctl → β) (h : ∀ (c : Ctl) (n : Nat) (out : List Output),
    p { c with hng := { c.hng with seqOut := n }, out := out } = p c) (c : Ctl) (type dst cwin : Nat) (payload : List Nat) :
    p (c.hngSend type dst cwin payload) = p c := by
  obtain ⟨n, out, heq⟩ := c.hngSend_shape type dst cwin payload
  rw [heq]
  exact h c n out

theorem Ctl.sendBlocks_keeps {β : Type} (p : Ctl → β) (h : ∀ (c : Ctl) (n : Nat) (out : List Output),
    p { c with hng := { c.hng with seqOut := n }, out := out } = p c) (c : Ctl) (cwin : Nat) (l : List FwdBlock) :
    p (c.sendBlocks cwin l) = p c :=
  Ctl.each_keeps p _ _ (fun c _ => Ctl.hngSend_keeps p h c _ _ _ _) c

/-! ## Promotion (R258, R259) -/

/-- The module in service: its role, no phase, and the promotion counted. -/
def Ctl.nowActive (c : Ctl) : Ctl := ((c.setRole 2).setSync 0).inc R.HNG_PROMOTIONS

theorem Ctl.nowActive_spec (c : Ctl) : c.nowActive.role = 2 ∧ c.nowActive.get R.HNG_STATUS_SYNC = 0 ∧
    c.nowActive.get R.HNG_PROMOTIONS = (c.get R.HNG_PROMOTIONS + 1) % 2 ^ R.HNG_PROMOTIONS.width ∧
      HngKept ([R.HNG_STATUS_ROLE, R.HNG_STATUS_SYNC, R.HNG_PROMOTIONS] ++ evtFields) c c.nowActive := by
  have hrole := hngKept_setRole c 2
  have hsync := hngKept_setSync (c.setRole 2) 0
  unfold Ctl.nowActive
  refine ⟨?_, ?_, ?_, ?_⟩
  · rw [Ctl.role, Ctl.get_inc_field _ _ _ _ _ _ (by decide)]
    exact (Ctl.role_setSync _ _).trans (Ctl.role_setRole _ (by decide))
  · rw [Ctl.get_inc_field _ _ _ _ _ _ (by decide)]
    exact Ctl.sync_setSync _ (by decide)
  · rw [Ctl.get_inc_self, hsync.regs _ _ (by decide), hrole.regs _ _ (by decide)]
  · exact ((hrole.mono (by decide)).trans (hsync.mono (by decide))).trans (.set _ _ _ (by decide))

/-- The fields that a promotion changes beside the role, the phase and the count of promotions. -/
def promoteFields : List Reg := [R.WIN_TICK_PHASE, R.HNG_STATUS_UNSYNC_PROMOTE] ++ ringFields ++ takeFields

/-- A promotion goes by way of a module in service: what comes before it and after leaves the role, the phase, the count and the
members that are lost as they are. -/
theorem Ctl.promote_nowActive (c : Ctl) : ∃ d : Ctl, c.sameRegsBut d promoteFields ∧ d.hng.lost = c.hng.lost ∧
    d.nowActive.sameRegsBut c.promote promoteFields ∧ c.promote.hng.lost = d.nowActive.hng.lost := by
  unfold Ctl.promote
  extract_lets unsync first n live blocks c1 _ h c2 c3 c4 c5
  have hring : HngKept promoteFields c c1 := by
    unfold c1
    split
    · exact HngKept.trans (b := c.each live (fun c i => c.ringReplay i n (blocks i)))
        (.each _ _ (fun c i _ => (hngKept_ringReplay c i n (blocks i)).mono (by decide)) c) ((hngKept_phaseStep _ _).mono (by decide))
    · exact .refl c
  have hheld : HngKept promoteFields c2 c4 :=
    (HngKept.when c2 _ _ (.set _ _ _ (by decide))).trans ((hngKept_triggerHeld c3).mono (by decide))
  refine ⟨{ c1 with hng := h }, Ctl.sameRegsBut_trans hring.regs (Ctl.sameRegsBut_of_regs _ rfl), congrArg (·.lost) hring.hng, ?_, ?_⟩
  · refine Ctl.sameRegsBut_trans (b := c4) hheld.regs (Ctl.sameRegsBut_of_regs _ ?_)
    exact (Ctl.each_keeps (·.regs) _ _ (fun c k => Ctl.sendBlocks_keeps (·.regs) (fun _ _ _ => rfl) _ _ _) c5).trans
      (Ctl.hngSend_keeps (·.regs) (fun _ _ _ => rfl) _ _ _ _ _)
  · have hlost : c4.hng.lost = c2.hng.lost := by rw [hheld.hng]
    have hsend : c5.hng.lost = c4.hng.lost := by
      unfold c5
      exact Ctl.hngSend_keeps (·.hng.lost) (fun _ _ _ => rfl) _ _ _ _ _
    refine Eq.trans ?_ (hsend.trans hlost)
    exact Ctl.each_keeps (·.hng.lost) _ _ (fun c k => Ctl.sendBlocks_keeps (·.hng.lost) (fun _ _ _ => rfl) _ _ _) c5

/-- A promoted module is ACTIVE and out of resynchronisation; its promotions count one more. -/
theorem Ctl.promote_spec (c : Ctl) : c.promote.role = 2 ∧ c.promote.get R.HNG_STATUS_SYNC = 0 ∧
    c.promote.get R.HNG_PROMOTIONS = (c.get R.HNG_PROMOTIONS + 1) % 2 ^ R.HNG_PROMOTIONS.width := by
  obtain ⟨d, hbefore, -, hafter, -⟩ := c.promote_nowActive
  obtain ⟨hrole, hsync, hcount, -⟩ := d.nowActive_spec
  refine ⟨(hafter R.HNG_STATUS_ROLE 0 (by decide)).trans hrole, (hafter _ _ (by decide)).trans hsync, ?_⟩
  rw [hafter _ _ (by decide), hcount, hbefore _ _ (by decide)]

theorem Ctl.role_promote (c : Ctl) : c.promote.role = 2 := c.promote_spec.1

/-- The marks of a lost member outlast a promotion. -/
theorem Ctl.promote_lost (c : Ctl) : c.promote.hng.lost = c.hng.lost ∧
    c.promote.get R.HNG_STATUS_HB_LOST_SEEN = c.get R.HNG_STATUS_HB_LOST_SEEN := by
  obtain ⟨d, hbefore, hlost, hafter, hlost'⟩ := c.promote_nowActive
  obtain ⟨-, -, -, hkept⟩ := d.nowActive_spec
  refine ⟨hlost'.trans ((congrArg (·.lost) hkept.hng).trans hlost), ?_⟩
  rw [hafter _ _ (by decide), hkept.regs _ _ (by decide), hbefore _ _ (by decide)]

end Sys2Proof.Machine
end

section
/-! PROOFS. The changes of role and phase at a boundary (R243, R260 to R264). -/
namespace Sys2Proof.Machine

/-! ## The handover (R260, R368) -/

/-- A former active that DISABLE takes to OFF. -/
def Ctl.goneOff (c : Ctl) : Ctl := { c.leaveService 0 with hng := { (c.leaveService 0).hng with offAfter := false } }

/-- A former active that stays as a SYNCED standby. -/
def Ctl.stoodDown (c : Ctl) : Ctl := ((c.leaveService 3).phaseStep true).setSync 3

section
variable {c : Ctl} {w : Nat} (hrole : c.role = 2) (hat : c.hng.standAt = some w) (hdue : later w c.winNo = false)
include hrole hat hdue

theorem standDownHandover_off (hoff : c.hng.offAfter = true) : standDownHandover c = c.goneOff := by
  simp [standDownHandover, hrole, hat, hdue, hoff, Ctl.goneOff]

theorem standDownHandover_frozen (hoff : c.hng.offAfter = false) (hmode : c.get R.DRAM_STATUS_MODE = 3) :
    standDownHandover c = c.leaveService 5 := by
  simp [standDownHandover, hrole, hat, hdue, hoff, hmode]

theorem standDownHandover_standby (hoff : c.hng.offAfter = false) (hmode : c.get R.DRAM_STATUS_MODE ≠ 3) :
    standDownHandover c = c.stoodDown := by
  simp [standDownHandover, hrole, hat, hdue, hoff, hmode, Ctl.stoodDown]

end

theorem standDownHandover_promote {c : Ctl} (hrole : c.role = 3) (hsync : c.get R.HNG_STATUS_SYNC = 3) :
    standDownHandover c = c.promote := by
  simp [standDownHandover, hrole, hsync]

theorem standDownHandover_idle {c : Ctl} (h2 : c.role ≠ 2) (h3 : c.role ≠ 3) : standDownHandover c = c := by
  unfold standDownHandover
  split
  · next h _ => exact absurd h h2
  · next h => exact absurd h h3
  · rfl

theorem Ctl.leaveService_journal (c : Ctl) {r : Nat} (h : r < 8) : (c.leaveService r).hng.journal = [] := by
  obtain ⟨-, -, -, hhng, -⟩ := c.leaveService_spec h
  rw [hhng]
  rfl

theorem Ctl.goneOff_spec (c : Ctl) : c.goneOff.role = 0 ∧ c.goneOff.hng.offAfter = false ∧ c.goneOff.hng.journal = [] :=
  ⟨c.role_leaveService (by decide), rfl, c.leaveService_journal (by decide)⟩

theorem Ctl.stoodDown_spec (c : Ctl) : c.stoodDown.role = 3 ∧ c.stoodDown.get R.HNG_STATUS_SYNC = 3 ∧ c.stoodDown.hng.journal = [] := by
  have hphase := hngKept_phaseStep (c.leaveService 3) true
  unfold Ctl.stoodDown
  refine ⟨?_, Ctl.sync_setSync _ (by decide), ?_⟩
  · exact (Ctl.role_setSync _ _).trans ((hphase.regs R.HNG_STATUS_ROLE 0 (by decide)).trans (c.role_leaveService (by decide)))
  · rw [(hngKept_setSync _ _).hng, hphase.hng]
    exact c.leaveService_journal (by decide)

/-! ## Forming, orphans and resynchronisation (R243, R261 to R264) -/

theorem formWaitExpiry_elected {c : Ctl} (hrole : c.role = 1) (hwait : c.get R.HNG_TIMING_FORM_WAIT ≤ c.hng.formWait)
    (hlower : ∀ r < c.get R.HNG_CFG_RANK, bit (c.get R.HNG_STATUS_HEARD) r = false) : formWaitExpiry c = c.setRole 2 := by
  have hany : (List.range (c.get R.HNG_CFG_RANK)).any (fun r => bit (c.get R.HNG_STATUS_HEARD) r) = false :=
    List.any_eq_false.2 fun r hr => by simp [hlower r (List.mem_range.1 hr)]
  rw [formWaitExpiry, hany, hrole]
  simp [Nat.not_lt.2 hwait]

theorem formWaitExpiry_idle {c : Ctl} (h : c.role ≠ 1) : formWaitExpiry c = c := by
  simp [formWaitExpiry, h]

theorem orphanStandDown_alone {c : Ctl} (hrole : c.role = 2) (hme : c.follow.1 = 0) (hother : 0 < c.follow.2.1) :
    orphanStandDown c = c.leaveService 4 := by
  simp [orphanStandDown, hrole, hme, hother]

theorem orphanStandDown_idle {c : Ctl} (h : c.role ≠ 2) : orphanStandDown c = c := by
  simp [orphanStandDown, h]

theorem orphanPromote_unserved {c : Ctl} (hrole : c.role = 4) (h : c.get R.HNG_TIMING_HB_MISS ≤ c.hng.unheard) :
    orphanPromote c = c.promote := by
  simp [orphanPromote, hrole, h]

theorem orphanPromote_idle {c : Ctl} (h : c.role ≠ 4) : orphanPromote c = c := by
  simp [orphanPromote, h]

theorem syncPhaseAdvance_converge {c : Ctl} (hrole : c.role = 3) (hsync : c.get R.HNG_STATUS_SYNC = 1) (hdone : c.hng.bulkDone = true) :
    syncPhaseAdvance c = c.toConverge := by
  simp [syncPhaseAdvance, hrole, hsync, hdone]

theorem syncPhaseAdvance_synced {c : Ctl} (hrole : c.role = 3) (hsync : c.get R.HNG_STATUS_SYNC = 2) (hdone : c.hng.stateDone = true)
    (hrun : c.get R.HNG_TIMING_MATCH_RUN ≤ c.get R.HNG_RESYNC_MATCHED)
    (hfull : ∀ i < 256, c.is R.SRC_EN i = true → (kgetD c.src.rings i {}).fill = c.get R.SRC_RING i) :
    syncPhaseAdvance c = c.setSync 3 := by
  have hall : ((List.range 256).filter (fun i => c.is R.SRC_EN i)).all
      (fun i => (kgetD c.src.rings i {}).fill == c.get R.SRC_RING i) = true := List.all_eq_true.2 fun i hi => by
    obtain ⟨hlt, hen⟩ := List.mem_filter.1 hi
    exact beq_iff_eq.2 (hfull i (List.mem_range.1 hlt) hen)
  rw [syncPhaseAdvance, hall, hrole, hsync, hdone]
  simp [hrun]

theorem syncPhaseAdvance_idle {c : Ctl} (h : c.role ≠ 3) : syncPhaseAdvance c = c := by
  simp [syncPhaseAdvance, h]

/-! ## The statement -/

/-- Settles O38: each change of role by the lemma on what it comes to when it is due, and that nothing changes in other roles. -/
theorem hingeRoles : Obligations.HingeRoles := by
  unfold Obligations.HingeRoles
  intro s
  refine ⟨fun w hrole hat hdue => ?_, fun hrole hsync => ?_, fun hrole hwait hlower => ?_, fun hrole hme hother => ?_, fun hrole h => ?_,
    fun h2 h3 => ?_, fun h => ?_, fun h => ?_, fun h => ?_, fun h => ?_, fun hrole hsync hdone => ?_,
    fun hrole hsync hdone hrun hfull => ?_⟩
  · by_cases hoff : s.m.c.hng.offAfter = true
    · obtain ⟨t, ht, hc, hm⟩ := ctl_next (i := .standDownHandover) rfl (standDownHandover_off (c := s.m.fresh.c) hrole hat hdue hoff)
      obtain ⟨hzero, hafter, hjournal⟩ := s.m.fresh.c.goneOff_spec
      rw [← hc] at hzero hafter hjournal
      exact ⟨t, ht, hjournal, hm, fun _ => ⟨hzero, hafter⟩, fun h => absurd hoff (by simp [h]), fun h => absurd hoff (by simp [h])⟩
    · have hoff' : s.m.fresh.c.hng.offAfter = false := by simpa using hoff
      by_cases hmode : s.m.c.get R.DRAM_STATUS_MODE = 3
      · obtain ⟨t, ht, hc, hm⟩ := ctl_next (i := .standDownHandover) rfl
          (standDownHandover_frozen (c := s.m.fresh.c) hrole hat hdue hoff' hmode)
        have hfive := s.m.fresh.c.role_leaveService (r := 5) (by decide)
        have hjournal := s.m.fresh.c.leaveService_journal (r := 5) (by decide)
        rw [← hc] at hfive hjournal
        exact ⟨t, ht, hjournal, hm, fun h => absurd h hoff, fun _ _ => hfive, fun _ h => absurd hmode h⟩
      · obtain ⟨t, ht, hc, hm⟩ := ctl_next (i := .standDownHandover) rfl
          (standDownHandover_standby (c := s.m.fresh.c) hrole hat hdue hoff' hmode)
        obtain ⟨hthree, hsync, hjournal⟩ := s.m.fresh.c.stoodDown_spec
        rw [← hc] at hthree hsync hjournal
        exact ⟨t, ht, hjournal, hm, fun h => absurd h hoff, fun _ h => absurd h hmode, fun _ _ => ⟨hthree, hsync⟩⟩
  · obtain ⟨t, ht, hc, hm⟩ := ctl_next (i := .standDownHandover) rfl (standDownHandover_promote (c := s.m.fresh.c) hrole hsync)
    obtain ⟨htwo, hzero, hcount⟩ := s.m.fresh.c.promote_spec
    rw [← hc] at htwo hzero hcount
    exact ⟨t, ht, htwo, hzero, hcount, hm⟩
  · obtain ⟨t, ht, hc, hm⟩ := ctl_next (i := .formWaitExpiry) rfl (formWaitExpiry_elected (c := s.m.fresh.c) hrole hwait hlower)
    have htwo := s.m.fresh.c.role_setRole (r := 2) (by decide)
    have hregs := (hngKept_setRole s.m.fresh.c 2).regs
    rw [← hc] at htwo hregs
    exact ⟨t, ht, htwo, hregs, hm⟩
  · obtain ⟨t, ht, hc, hm⟩ := ctl_next (i := .orphanStandDown) rfl (orphanStandDown_alone (c := s.m.fresh.c) hrole hme hother)
    obtain ⟨hfour, hzero, hdual, -, -⟩ := s.m.fresh.c.leaveService_spec (r := 4) (by decide)
    rw [← hc] at hfour hzero hdual
    exact ⟨t, ht, hfour, hzero, hdual, hm⟩
  · obtain ⟨t, ht, hc, hm⟩ := ctl_next (i := .orphanPromote) rfl (orphanPromote_unserved (c := s.m.fresh.c) hrole h)
    exact ⟨t, ht, hc ▸ s.m.fresh.c.role_promote, hm⟩
  · exact next_of_ctl rfl (standDownHandover_idle (c := s.m.fresh.c) h2 h3)
  · exact next_of_ctl rfl (formWaitExpiry_idle (c := s.m.fresh.c) h)
  · exact next_of_ctl rfl (orphanStandDown_idle (c := s.m.fresh.c) h)
  · exact next_of_ctl rfl (orphanPromote_idle (c := s.m.fresh.c) h)
  · exact next_of_ctl rfl (syncPhaseAdvance_idle (c := s.m.fresh.c) h)
  · obtain ⟨t, ht, hc, hm⟩ := ctl_next (i := .syncPhaseAdvance) rfl (syncPhaseAdvance_converge (c := s.m.fresh.c) hrole hsync hdone)
    obtain ⟨htwo, hmatched, -, -⟩ := s.m.fresh.c.toConverge_spec
    have hthree := s.m.fresh.c.role_toConverge.trans hrole
    rw [← hc] at htwo hmatched hthree
    exact ⟨t, ht, htwo, hthree, hmatched, hm⟩
  · obtain ⟨t, ht, hc, hm⟩ := ctl_next (i := .syncPhaseAdvance) rfl
      (syncPhaseAdvance_synced (c := s.m.fresh.c) hrole hsync hdone hrun hfull)
    have hphase := s.m.fresh.c.sync_setSync (n := 3) (by decide)
    have hthree := (s.m.fresh.c.role_setSync 3).trans hrole
    rw [← hc] at hphase hthree
    exact ⟨t, ht, hphase, hthree, hm⟩

end Sys2Proof.Machine
end

section
/-! PROOFS. The hinge's links, and RECORD and STATUS frames (R242 to R245, R249, R252, R254, R258, R262). -/
namespace Sys2Proof.Machine

/-! ## Links (R244) -/

/-- UP of a hinge link. -/
def upReg (i : Fin 2) : Reg := if i = 0 then R.HNG_STATUS_H0_UP else R.HNG_STATUS_H1_UP

/-- The enable of a hinge link. -/
def linkEn (i : Fin 2) : Reg := if i = 0 then R.HNG_CFG_H0_EN else R.HNG_CFG_H1_EN

theorem upReg_spec : ∀ i : Fin 2, upReg i ∈ [R.HNG_STATUS_H0_UP, R.HNG_STATUS_H1_UP] ++ evtFields ∧ (upReg i).width = 1 ∧
    ∀ f ∈ evtFields, f.id ≠ (upReg i).id := by decide

/-- A link's state as it becomes, with its event. -/
def Ctl.linkTo (c : Ctl) (i : Fin 2) (v : Nat) : Ctl := (c.set (upReg i) v).raise Ev.HNG_LINK i.val v

theorem Ctl.linkTo_spec (c : Ctl) (i : Fin 2) {v : Nat} (hv : v < 2) : (c.linkTo i v).get (upReg i) = v ∧
    c.sameRegsBut (c.linkTo i v) ([R.HNG_STATUS_H0_UP, R.HNG_STATUS_H1_UP] ++ evtFields) := by
  obtain ⟨hmem, hwidth, hevt⟩ := upReg_spec i
  unfold Ctl.linkTo
  refine ⟨?_, Ctl.sameRegsBut_trans (c.sameRegsBut_set _ _ _ _ hmem) (Ctl.sameRegsBut_raise _ _ _ _ _ fun f hf => by simp [hf])⟩
  rw [Ctl.get_raise _ _ _ _ _ _ hevt, Ctl.get_set_self, hwidth]
  exact Nat.mod_eq_of_lt hv

theorem hingeLinkUp_rises {c : Ctl} {i : Fin 2} (hen : c.is (linkEn i) = true) (hdown : c.is (upReg i) = false) :
    hingeLinkUp i c = c.linkTo i 1 := by
  unfold linkEn at hen
  unfold upReg at hdown
  simp [hingeLinkUp, hen, hdown, Ctl.linkTo, upReg]

theorem hingeLinkDown_falls {c : Ctl} {i : Fin 2} (hup : c.is (upReg i) = true) : hingeLinkDown i c = c.linkTo i 0 := by
  unfold upReg at hup
  simp [hingeLinkDown, hup, Ctl.linkTo, upReg]

/-! ## Zones as a record declares them (R252) -/

/-- The fields that the declared zones enter. -/
def ownerFields : List Reg := takeFields ++ causeFields ++ [R.YARD_ZRUN_RUN] ++ handFields

theorem hngKept_takeAs (c : Ctl) (cause : Nat) (zs : List Nat) : HngKept takeFields c (c.takeAs cause zs) where
  hng := Ctl.takeAs_keeps (·.hng) Ctl.set_hng Ctl.raise_hng (fun _ _ => rfl) c cause zs
  regs := c.sameRegsBut_takeAs cause zs

theorem Ctl.allLinksEnd_hng (c : Ctl) : c.allLinksEnd.hng = c.hng := by
  unfold Ctl.allLinksEnd
  split
  · rfl
  · exact Ctl.raise_hng _ _ _ _

theorem hngKept_handShown (c : Ctl) (z : Nat) : HngKept handFields c (c.handShown z) where
  hng := (hngKept_showProg _).hng.trans ((Ctl.allLinksEnd_hng _).trans (Ctl.raise_hng _ _ _ _))
  regs := c.sameRegsBut_handShown z

theorem hngKept_zoneFreed (c : Ctl) (z : Nat) : HngKept (takeFields ++ causeFields) c (c.zoneFreed z) :=
  ((HngKept.set c _ _ (by decide)).trans (.set _ _ _ (by decide))).trans
    (.each _ _ (fun c r hr => .set c _ _ (List.mem_append_right _ hr)) _)

theorem hngKept_handBack (c : Ctl) (z : Nat) : HngKept ownerFields c (c.handBack z) := by
  obtain ⟨st, -, heq⟩ := c.handBack_eq z
  rw [heq]
  have hrun : HngKept ownerFields (c.zoneFreed z) ((c.zoneFreed z).setZrun z 0) := .set _ _ _ (by decide)
  have hdoor : HngKept ownerFields ((c.zoneFreed z).setZrun z 0) { (c.zoneFreed z).setZrun z 0 with storm := st } := .of_regs rfl rfl
  exact (((hngKept_zoneFreed c z).mono (by decide)).trans hrun).trans (hdoor.trans ((hngKept_handShown _ z).mono (by decide)))

theorem hngKept_takeOwners (c : Ctl) (owners : List Nat) : HngKept ownerFields c (c.takeOwners owners) := by
  unfold Ctl.takeOwners
  split
  · exact .refl c
  · extract_lets want c1
    have htaken : HngKept ownerFields c c1 := .each _ _ (fun c e _ => (hngKept_takeAs c e.1 [e.2]).mono (by decide)) c
    exact htaken.trans (.each _ _ (fun c z _ => hngKept_handBack c z) c1)

/-! ## RECORD frames (R243, R249, R252, R258, R262) -/

/-- A filter by key leaves what stands at a key that it passes. -/
theorem kget?_filter_key {α : Type} (p : Nat → Bool) (m : Keyed α) {i : Nat} (h : p i = true) :
    kget? (m.filter (fun e => p e.1)) i = kget? m i := by
  induction m with
  | nil => rfl
  | cons e m ih =>
    obtain ⟨k, v⟩ := e
    by_cases hk : k = i
    · subst hk
      simp [kget?, h]
    · by_cases hp : p k = true
      · simp [kget?, hk, hp, ih]
      · simp [kget?, hk, hp, ih]

/-- A partner's record as a heartbeat that shows its role. -/
def Ctl.recordShown (c : Ctl) (src : Nat) (r : RecordFrame) : Ctl := (c.beat src).set R.HNG_PEER_ROLE r.role src

/-- The record of an active kept by its window, with the budget that it gives. -/
def Ctl.recordKept (c : Ctl) (h : HngHead) (r : RecordFrame) : Ctl :=
  { c with hng := { c.hng with
    records := (kput c.hng.records h.cwin r).filter (fun (e : Nat × RecordFrame) => (h.cwin + 2 ^ 32 - e.1) % 2 ^ 32 < 4)
    budget := some r.budget } }

/-- The rings of a remaining standby at FIRST of a promotion that the record tells of. -/
def Ctl.recordRewound (c : Ctl) (h : HngHead) (r : RecordFrame) : Ctl :=
  if r.promoted then
    let c := c.rewindAll ((h.cwin + 2 ^ 32 - 1 - r.first) % 2 ^ 32)
    { c with hng := { c.hng with promotedAt := some h.cwin, first := r.first, blocks := [] } }
  else c

/-- A standby whose active has cut its journal waits for a new STATE set. -/
def Ctl.recordCut (c : Ctl) (r : RecordFrame) : Ctl :=
  c.when (r.overflow && 2 ≤ c.get R.HNG_STATUS_SYNC) (fun c =>
    { c with hng := { c.hng with stateSet := none, stateDone := false } }.toConverge)

/-- What a standby does with a record of its active. -/
def Ctl.recordTaken (c : Ctl) (h : HngHead) (r : RecordFrame) : Ctl :=
  (((c.recordKept h r).recordRewound h r).recordCut r).takeOwners r.owners

theorem Ctl.beat_regs (c : Ctl) (r : Nat) : c.sameRegsBut (c.beat r) [R.HNG_STATUS_HEARD] :=
  Ctl.sameRegsBut_trans (b := { c with hng := (c.beat r).hng }) (Ctl.sameRegsBut_of_regs _ rfl) (Ctl.sameRegsBut_set _ _ _ _ _ (by simp))

theorem Ctl.heard_beat (c : Ctl) {r : Nat} (h : r < 3) : bit ((c.beat r).get R.HNG_STATUS_HEARD) r = true := by
  rw [Ctl.beat, Ctl.get_set_self]
  exact (bit_mod _ _ 3 h).trans (bit_setBit_self _ _)

/-- The heartbeat of a record leaves the module's own role and phase. -/
theorem Ctl.recordShown_spec (c : Ctl) (src : Nat) (r : RecordFrame) : (c.recordShown src r).role = c.role ∧
    (c.recordShown src r).get R.HNG_PEER_ROLE src = r.role % 8 ∧
      (src < 3 → bit ((c.recordShown src r).get R.HNG_STATUS_HEARD) src = true) := by
  unfold Ctl.recordShown
  refine ⟨?_, Ctl.get_set_self _ _ _ _, fun h => ?_⟩
  · exact (Ctl.get_set_field _ _ _ _ _ _ (by decide)).trans (c.beat_regs src R.HNG_STATUS_ROLE 0 (by decide))
  · rw [Ctl.get_set_field _ _ _ _ _ _ (by decide)]
    exact c.heard_beat h

section
variable {c0 c : Ctl} {link : Nat} {h : HngHead} {payload : List Nat} {r : RecordFrame} (hacc : c0.hngAccept link h = (c, true))
  (hdiff : (c.peer h.src).differs = false) (hr : r = recordParse h.src payload)
include hacc hdiff hr

theorem recordReceive_other (hrole : r.role ≠ 2) : recordReceive link h payload c0 = c.recordShown h.src r := by
  simp only [recordReceive, hacc, hdiff, ← hr]
  exact if_pos (bne_iff_ne.2 hrole)

/-- A record of an active, by the module that it finds: one that is a standby already, or joins as one. -/
theorem recordReceive_active (hrole : r.role = 2) {d : Ctl} (hd : (if (c.recordShown h.src r).role = 1 || (c.recordShown h.src r).role = 4
    then (c.recordShown h.src r).joinStandby else c.recordShown h.src r) = d) (hthree : d.role = 3) :
    recordReceive link h payload c0 = d.recordTaken h r := by
  subst hd hr
  rw [recordReceive, hacc, if_neg (by simp [hdiff])]
  extract_lets r c2 c3
  have hown : c3.role = 3 := hthree
  rw [if_neg (show ¬(r.role != 2) = true by simp [r, hrole]), if_neg (show ¬(c3.role != 3) = true by simp [hown])]
  rfl

theorem recordReceive_standby (hrole : r.role = 2) (hown : c.role = 3) :
    recordReceive link h payload c0 = (c.recordShown h.src r).recordTaken h r := by
  have hthree : (c.recordShown h.src r).role = 3 := (c.recordShown_spec h.src r).1.trans hown
  exact recordReceive_active hacc hdiff hr hrole (if_neg (by simp [hthree])) hthree

theorem recordReceive_joins (hrole : r.role = 2) (hown : c.role = 1 ∨ c.role = 4) :
    recordReceive link h payload c0 = (c.recordShown h.src r).joinStandby.recordTaken h r := by
  have hsame : (c.recordShown h.src r).role = c.role := (c.recordShown_spec h.src r).1
  exact recordReceive_active hacc hdiff hr hrole (if_pos (by simp [hsame, hown])) (Ctl.joinStandby_spec _).1

end

theorem Ctl.recordRewound_regs (c : Ctl) (h : HngHead) (r : RecordFrame) : (c.recordRewound h r).regs = c.regs := by
  unfold Ctl.recordRewound
  split <;> rfl

/-- The rewound rings enter neither the records nor the budget. -/
theorem Ctl.recordRewound_hng (c : Ctl) (h : HngHead) (r : RecordFrame) : (c.recordRewound h r).hng.records = c.hng.records ∧
    (c.recordRewound h r).hng.budget = c.hng.budget := by
  unfold Ctl.recordRewound
  split <;> exact ⟨rfl, rfl⟩

theorem Ctl.recordCut_spec (c : Ctl) (r : RecordFrame) : (c.recordCut r).hng.records = c.hng.records ∧
    (c.recordCut r).hng.budget = c.hng.budget ∧ c.sameRegsBut (c.recordCut r) convergeFields := by
  unfold Ctl.recordCut Ctl.when
  split
  · obtain ⟨-, -, hregs, set, done, hhng⟩ :=
      ({ c with hng := { c.hng with stateSet := none, stateDone := false } } : Ctl).toConverge_spec
    exact ⟨by rw [hhng], by rw [hhng], Ctl.sameRegsBut_trans (Ctl.sameRegsBut_of_regs _ rfl) hregs⟩
  · exact ⟨rfl, rfl, c.sameRegsBut_refl _⟩

/-- Before its active's frames are compared, a standby has nothing to wait for anew. -/
theorem Ctl.recordCut_bulk {c : Ctl} (r : RecordFrame) (h : c.get R.HNG_STATUS_SYNC < 2) : c.recordCut r = c := by
  have hno : (r.overflow && decide (2 ≤ c.get R.HNG_STATUS_SYNC)) = false := by simp [h]
  rw [Ctl.recordCut, hno]
  rfl

/-- A record that a standby keeps changes, outside the zones that it declares, the phase alone. -/
theorem Ctl.recordTaken_spec (c : Ctl) (h : HngHead) (r : RecordFrame) : kget? (c.recordTaken h r).hng.records h.cwin = some r ∧
    (c.recordTaken h r).hng.budget = some r.budget ∧ c.sameRegsBut (c.recordTaken h r) (convergeFields ++ ownerFields) ∧
      (c.get R.HNG_STATUS_SYNC < 2 → (c.recordTaken h r).get R.HNG_STATUS_SYNC = c.get R.HNG_STATUS_SYNC) := by
  have hown := hngKept_takeOwners (((c.recordKept h r).recordRewound h r).recordCut r) r.owners
  obtain ⟨hrecords, hbudget, hcut⟩ := ((c.recordKept h r).recordRewound h r).recordCut_spec r
  obtain ⟨hrecords', hbudget'⟩ := (c.recordKept h r).recordRewound_hng h r
  have hregs : ((c.recordKept h r).recordRewound h r).regs = c.regs := (c.recordKept h r).recordRewound_regs h r
  unfold Ctl.recordTaken
  refine ⟨?_, ?_, ?_, fun hsync => ?_⟩
  · rw [hown.hng, hrecords, hrecords']
    refine (kget?_filter_key (fun k => decide ((h.cwin + 2 ^ 32 - k) % 2 ^ 32 < 4)) _ ?_).trans (kget?_kput_self _ _ _)
    rw [Nat.add_sub_cancel_left]
    rfl
  · rw [hown.hng, hbudget, hbudget']
    rfl
  · refine Ctl.sameRegsBut_trans (Ctl.sameRegsBut_of_regs _ hregs) ?_
    exact Ctl.sameRegsBut_trans (Ctl.sameRegsBut_mono hcut (by decide)) (Ctl.sameRegsBut_mono hown.regs (by decide))
  · have hsame : ((c.recordKept h r).recordRewound h r).get R.HNG_STATUS_SYNC = c.get R.HNG_STATUS_SYNC := by
      rw [Ctl.get, hregs]
      rfl
    rw [hown.regs _ _ (by decide), Ctl.recordCut_bulk r (by omega), hsame]

end Sys2Proof.Machine
end

section
/-! PROOFS. STATUS, INPUT, BULK and STATE frames of the hinge, and the journal (R242, R246, R249, R254, R263). -/
namespace Sys2Proof.Machine

/-! ## Mismatches (R254, R256) -/

/-- The fields that a mismatch changes. -/
def mismatchFields : List Reg := [R.HNG_MISMATCH, R.HNG_MISMATCH_WIN, R.HNG_STATUS_MISMATCH_SEEN] ++ evtFields

/-- A mismatch is counted, and the hinge notes its content window. -/
theorem Ctl.countMismatch_spec (c : Ctl) (w : Nat) : (c.countMismatch w).hng = { c.hng with counted := some w } ∧
    c.sameRegsBut (c.countMismatch w) mismatchFields ∧
      (c.countMismatch w).get R.HNG_MISMATCH = (c.get R.HNG_MISMATCH + 1) % 2 ^ R.HNG_MISMATCH.width := by
  unfold Ctl.countMismatch
  extract_lets d _
  have hset : HngKept mismatchFields c (((c.inc R.HNG_MISMATCH).set R.HNG_MISMATCH_WIN w).set R.HNG_STATUS_MISMATCH_SEEN 1) :=
    ((HngKept.set c _ _ (by decide)).trans (.set _ _ _ (by decide))).trans (.set _ _ _ (by decide))
  have hd : HngKept mismatchFields c d := hset.trans (.raise _ _ _ _ fun _ => List.mem_append_right _)
  refine ⟨congrArg (fun h : HngSt => { h with counted := some w }) hd.hng,
    Ctl.sameRegsBut_trans hd.regs (Ctl.sameRegsBut_of_regs _ rfl), ?_⟩
  show d.get R.HNG_MISMATCH = _
  rw [Ctl.get_raise _ _ _ _ _ _ (by decide), Ctl.get_set_field _ _ _ _ _ _ (by decide), Ctl.get_set_field _ _ _ _ _ _ (by decide),
    Ctl.get_inc_self]

/-- What a mismatch leaves of the members' statuses. -/
theorem Ctl.hngMismatch_spec (c : Ctl) (w : Nat) : (c.hngMismatch w).hng.peers = c.hng.peers ∧
    c.sameRegsBut (c.hngMismatch w) mismatchFields := by
  obtain ⟨hhng, hregs, -⟩ := c.countMismatch_spec w
  have hpeers : (c.countMismatch w).hng.peers = c.hng.peers := by rw [hhng]
  unfold Ctl.hngMismatch
  extract_lets d
  split
  · exact ⟨hpeers, Ctl.sameRegsBut_trans hregs (Ctl.sameRegsBut_of_regs _ rfl)⟩
  · exact ⟨hpeers, hregs⟩

/-! ## STATUS frames (R242, R245, R254) -/

/-- A member's last status, kept, and whether some member differs shown. -/
def Ctl.peerPut (c : Ctl) (src : Nat) (st : PeerStatus) : Ctl :=
  let c := { c with hng := { c.hng with peers := kput c.hng.peers src st } }
  c.set R.HNG_STATUS_CFG_DIFF (b2n (c.hng.peers.any (fun e => e.2.differs)))

/-- What a STATUS frame says, as the module keeps it. -/
def peerOf (i : HngInfo) (cwin : Nat) (differs : Bool) : PeerStatus :=
  { role := i.role, sync := i.sync, cwin := cwin, crcs := i.crcs, probes := i.probes, differs := differs }

/-- The role and phase of a member whose configuration agrees, and its heartbeat unless it is the active. -/
def Ctl.peerShown (c : Ctl) (src : Nat) (i : HngInfo) : Ctl :=
  ((if i.role = 2 then c else c.beat src).set R.HNG_PEER_ROLE i.role src).set R.HNG_PEER_SYNC i.sync src

theorem Ctl.peerShown_spec (c : Ctl) (src : Nat) (i : HngInfo) : (c.peerShown src i).hng.peers = c.hng.peers ∧
    (c.peerShown src i).get R.HNG_PEER_ROLE src = i.role % 2 ^ R.HNG_PEER_ROLE.width ∧
      (c.peerShown src i).get R.HNG_PEER_SYNC src = i.sync % 2 ^ R.HNG_PEER_SYNC.width := by
  unfold Ctl.peerShown
  refine ⟨?_, ?_, Ctl.get_set_self _ _ _ _⟩
  · rw [Ctl.set_hng, Ctl.set_hng]
    split <;> rfl
  · rw [Ctl.get_set_field _ _ _ _ _ _ (by decide), Ctl.get_set_self]

section
variable {c0 c : Ctl} {link : Nat} {h : HngHead} {i : HngInfo} (hacc : c0.hngAccept link h = (c, true))
include hacc

theorem statusFrameReceive_differs (hsame : c.sameConfig i = false) :
    (statusFrameReceive link h i c0).hng.peers = (c.peerPut h.src (peerOf i h.cwin true)).hng.peers := by
  rw [statusFrameReceive, hacc, if_neg (by simp)]
  extract_lets same st was again _ c1 c2
  have hno : same = false := hsame
  rw [if_pos (by simp [hno])]
  refine (Ctl.when_keeps (·.hng.peers) c2 _ _ (congrArg (·.peers) (Ctl.raise_hng _ _ _ _))).trans ?_
  show kput c.hng.peers h.src (peerOf i h.cwin !same) = _
  rw [hno]
  rfl

/-- What a member that agrees asks for beyond its status, a mismatch and a decision, changes neither what is kept of the members nor
what is shown of them. -/
theorem statusFrameReceive_same (hsame : c.sameConfig i = true) :
    (statusFrameReceive link h i c0).hng.peers = ((c.peerPut h.src (peerOf i h.cwin false)).peerShown h.src i).hng.peers ∧
      ((c.peerPut h.src (peerOf i h.cwin false)).peerShown h.src i).sameRegsBut (statusFrameReceive link h i c0) mismatchFields := by
  rw [statusFrameReceive, hacc, if_neg (by simp)]
  extract_lets same st was again _ c1 c2 c3 differ asks c4
  have hyes : same = true := hsame
  have hst : st = peerOf i h.cwin false := by
    show peerOf i h.cwin (!same) = _
    rw [hyes]
    rfl
  have hc3 : c3 = (c.peerPut h.src (peerOf i h.cwin false)).peerShown h.src i := by
    rw [← hst]
    rfl
  have hpeers : c4.hng.peers = c3.hng.peers := Ctl.when_keeps (·.hng.peers) c3 _ _ (c3.hngMismatch_spec _).1
  have hregs : c3.sameRegsBut c4 mismatchFields := Ctl.sameRegsBut_when _ _ _ _ (c3.hngMismatch_spec _).2
  rw [if_neg (by simp [hyes]), ← hc3]
  clear_value asks
  cases asks with
  | none => exact ⟨hpeers, hregs⟩
  | some e =>
    dsimp only
    split
    · exact ⟨hpeers, Ctl.sameRegsBut_trans hregs (Ctl.sameRegsBut_of_regs _ rfl)⟩
    · exact ⟨hpeers, hregs⟩

theorem statusFrameReceive_spec : (statusFrameReceive link h i c0).peer h.src = peerOf i h.cwin (!c.sameConfig i) ∧
    (c.sameConfig i = true → (statusFrameReceive link h i c0).get R.HNG_PEER_ROLE h.src = i.role % 2 ^ R.HNG_PEER_ROLE.width ∧
      (statusFrameReceive link h i c0).get R.HNG_PEER_SYNC h.src = i.sync % 2 ^ R.HNG_PEER_SYNC.width) := by
  cases hsame : c.sameConfig i with
  | false =>
    refine ⟨?_, fun h => absurd h (by decide)⟩
    rw [Ctl.peer, statusFrameReceive_differs hacc hsame]
    exact kgetD_kput_self _ _ _ _
  | true =>
    obtain ⟨hpeers, hregs⟩ := statusFrameReceive_same hacc hsame
    obtain ⟨hkept, hrole, hsync⟩ := (c.peerPut h.src (peerOf i h.cwin false)).peerShown_spec h.src i
    refine ⟨?_, fun _ => ⟨(hregs _ _ (by decide)).trans hrole, (hregs _ _ (by decide)).trans hsync⟩⟩
    rw [Ctl.peer, hpeers, hkept]
    exact kgetD_kput_self _ _ _ _

end

/-! ## INPUT, BULK and STATE frames (R246, R263) -/

/-- The blocks that an INPUT frame brings, kept with those of its window. -/
def Ctl.blocksKept (c : Ctl) (cwin : Nat) (payload : List Nat) : Ctl :=
  { c with hng := { c.hng with
    blocks := kput c.hng.blocks cwin (kgetD c.hng.blocks cwin [] ++ inputParse c.winSamples 256 payload) } }

/-- How much of the bulk data has come. -/
def Mach.bulkNoted (y : Mach) (pct : Nat) : Mach :=
  { y with c := { y.c with hng := { y.c.hng with bulkDone := decide (100 ≤ pct) } }.set R.HNG_RESYNC_BULK_PCT (min pct 100) }

section
variable {link : Nat} {h : HngHead} {c0 c : Ctl} (hacc : c0.hngAccept link h = (c, true)) (hrole : c.role = 3)
  (hdiff : (c.peer h.src).differs = false)
include hacc hrole hdiff

theorem hingeInputReceive_standby (payload : List Nat) : hingeInputReceive link h payload c0 = c.blocksKept h.cwin payload := by
  simp [hingeInputReceive, hacc, hrole, hdiff, Ctl.blocksKept]

theorem stateFrameReceive_standby (set : HngState) :
    stateFrameReceive link h set c0 = { c with hng := { c.hng with stateSet := some set } } := by
  simp [stateFrameReceive, hacc, hrole, hdiff]

theorem bulkFrameReceive_standby {x : Mach} (hx : x.c = c0) (hsync : c.get R.HNG_STATUS_SYNC = 1) (part : HngBulk) (pct : Nat) :
    bulkFrameReceive link h part pct x = (({ x with c := c } : Mach).bulkTake part).bulkNoted pct := by
  subst hx
  simp [bulkFrameReceive, hacc, hrole, hdiff, hsync, Mach.bulkNoted]

end

section
variable {link : Nat} {h : HngHead} {c0 c : Ctl} (hacc : c0.hngAccept link h = (c, false))
include hacc

/-! A frame that is not accepted (R242, R245). -/

theorem recordReceive_unused (payload : List Nat) : recordReceive link h payload c0 = c := by
  simp [recordReceive, hacc]

theorem hingeInputReceive_unused (payload : List Nat) : hingeInputReceive link h payload c0 = c := by
  simp [hingeInputReceive, hacc]

theorem statusFrameReceive_unused (i : HngInfo) : statusFrameReceive link h i c0 = c := by
  simp [statusFrameReceive, hacc]

theorem stateFrameReceive_unused (set : HngState) : stateFrameReceive link h set c0 = c := by
  simp [stateFrameReceive, hacc]

theorem bulkFrameReceive_unused {x : Mach} (hx : x.c = c0) (part : HngBulk) (pct : Nat) :
    bulkFrameReceive link h part pct x = { x with c := c } := by
  subst hx
  simp [bulkFrameReceive, hacc]

end

theorem Mach.bulkNoted_spec (y : Mach) (pct : Nat) : (y.bulkNoted pct).c.hng.bulkDone = decide (100 ≤ pct) ∧
    (y.bulkNoted pct).c.get R.HNG_RESYNC_BULK_PCT = min pct 100 := by
  refine ⟨rfl, (Ctl.get_set_self _ _ _ _).trans (Nat.mod_eq_of_lt ?_)⟩
  exact Nat.lt_of_le_of_lt (Nat.min_le_right _ _) (by decide)

theorem Mach.bulkNoted_m (y : Mach) (pct : Nat) : (y.bulkNoted pct).m = y.m := rfl

theorem Mach.bulkTake_tables (x : Mach) (t : HngTables) : (x.bulkTake (.tables t)).m = x.m := by
  rw [Mach.bulkTake]

/-- A bank that comes as bulk data is as a load leaves it: it holds its taps and is VALID. -/
theorem Mach.bulkTake_bank (x : Mach) (l : BankLoad) (active : Bool) (pct : Nat) :
    kget? ((x.bulkTake (.bank l active)).bulkNoted pct).c.corr.banks (2 * l.feed + l.bank) = some l.taps ∧
      ((x.bulkTake (.bank l active)).bulkNoted pct).c.get (validReg l.bank) l.feed = 1 := by
  obtain ⟨htaps, hvalid, -⟩ := x.bankPut_spec l
  have hpct : R.HNG_RESYNC_BULK_PCT.id ≠ (validReg l.bank).id := validReg_id_ne (by decide) (by decide) _
  have hactive : R.CORR_FEED_ACTIVE.id ≠ (validReg l.bank).id := validReg_id_ne (by decide) (by decide) _
  cases active with
  | false => exact ⟨htaps, (Ctl.get_set_field _ _ _ _ _ _ hpct).trans hvalid⟩
  | true => exact ⟨htaps, (Ctl.get_set_field _ _ _ _ _ _ hpct).trans ((Ctl.get_set_field _ _ _ _ _ _ hactive).trans hvalid)⟩

/-! ## The journal (R249, R252) -/

/-- The journal of a record carried out, and the record without it. -/
def Mach.journalTaken (x : Mach) (w : Nat) (r : RecordFrame) : Mach :=
  let c := { x.c with hng := { x.c.hng with records := kput x.c.hng.records w { r with journal := [] } },
                      win := { x.c.win with leanWanted := r.lean } }
  let x := r.journal.foldl Mach.journalOne { x with c := c }
  { x with c := (x.c.set R.LEDG_STATUS_STEP r.step).ledgShow }

theorem journalApply_taken {x : Mach} {r : RecordFrame} (hr : kget? x.c.hng.records ((x.c.winNo + 2 ^ 32 - 1) % 2 ^ 32) = some r)
    (hrole : x.c.role = 3) (hcut : r.overflow = false) :
    journalApply x = x.journalTaken ((x.c.winNo + 2 ^ 32 - 1) % 2 ^ 32) r := by
  rw [journalApply, hr]
  exact if_neg (by simp [hrole, hcut])

theorem journalApply_none {x : Mach} (hr : kget? x.c.hng.records ((x.c.winNo + 2 ^ 32 - 1) % 2 ^ 32) = none) : journalApply x = x := by
  simp only [journalApply, hr]

theorem journalApply_idle {x : Mach} (hrole : x.c.role ≠ 3) : journalApply x = x := by
  unfold journalApply
  extract_lets w
  split
  · rfl
  · exact if_pos (by simp [hrole])

/-! ## The statement -/

/-- Settles O39: each frame by what a module does with one that it accepts, and that it uses nothing of one that it does not.
The contents of bulk data, STATUS and STATE are those of log entries 5 and 19. -/
theorem hingeFrames : Obligations.HingeFrames := by
  unfold Obligations.HingeFrames
  intro s
  refine ⟨fun i hen hdown => ?_, fun i hup => ?_, fun link h c hacc => ⟨fun payload r hr hdiff => ⟨fun hrole => ?_,
      fun hrole hown hprom => ?_, fun hrole hown => ?_⟩, fun payload hown hdiff => ?_, fun i => ?_, fun part pct hown hsync hdiff => ?_, fun set hown hdiff => ?_⟩,
    fun link h c hacc => ⟨fun payload => ⟨?_, ?_⟩, fun i => ?_, fun part pct => ?_, fun set => ?_⟩, fun hidle => ?_, fun r hr hown hcut => ?_⟩
  · obtain ⟨t, ht, hc, hm⟩ := ctl_next (i := .hingeLinkUp i) rfl (hingeLinkUp_rises (c := s.m.fresh.c) hen hdown)
    obtain ⟨hup, hregs⟩ := s.m.fresh.c.linkTo_spec i (v := 1) (by decide)
    rw [← hc] at hup hregs
    exact ⟨t, ht, hup, hm, hregs⟩
  · obtain ⟨t, ht, hc, hm⟩ := ctl_next (i := .hingeLinkDown i) rfl (hingeLinkDown_falls (c := s.m.fresh.c) hup)
    obtain ⟨hdown, hregs⟩ := s.m.fresh.c.linkTo_spec i (v := 0) (by decide)
    rw [← hc] at hdown hregs
    exact ⟨t, ht, hdown, hregs, hm⟩
  · exact next_of_ctl rfl (recordReceive_other (c0 := s.m.fresh.c) hacc hdiff hr hrole)
  · obtain ⟨t, ht, hc, hm⟩ := ctl_next (i := .recordReceive link h payload) rfl
      (recordReceive_standby (c0 := s.m.fresh.c) hacc hdiff hr hrole hown)
    obtain ⟨-, hpeer, hheard⟩ := c.recordShown_spec h.src r
    obtain ⟨hrecord, hbudget, hregs, -⟩ := (c.recordShown h.src r).recordTaken_spec h r
    rw [← hc] at hrecord hbudget hregs
    rw [← hregs _ _ (by decide), hrole] at hpeer
    rw [← hregs _ _ (by decide)] at hheard
    exact ⟨t, ht, hrecord, hbudget, hheard, hpeer, hm⟩
  · obtain ⟨t, ht, hc, hm⟩ := ctl_next (i := .recordReceive link h payload) rfl
      (recordReceive_joins (c0 := s.m.fresh.c) hacc hdiff hr hrole hown)
    obtain ⟨hthree, hone, -⟩ := (c.recordShown h.src r).joinStandby_spec
    obtain ⟨-, -, hregs, hsync⟩ := (c.recordShown h.src r).joinStandby.recordTaken_spec h r
    rw [← hc] at hregs hsync
    exact ⟨t, ht, (hregs R.HNG_STATUS_ROLE 0 (by decide)).trans hthree, (hsync (by omega)).trans hone, hm⟩
  · obtain ⟨t, ht, hc, hm⟩ := ctl_next (i := .hingeInputReceive link h payload) rfl
      (hingeInputReceive_standby (c0 := s.m.fresh.c) hacc hown hdiff payload)
    refine ⟨t, ht, ?_, ?_, hm⟩
    · rw [hc]
      exact kgetD_kput_self _ _ _ _
    · rw [hc]
      rfl
  · obtain ⟨t, ht, hc, hm⟩ := ctl_next (i := .statusFrameReceive link h i) (c := statusFrameReceive link h i s.m.fresh.c) rfl rfl
    obtain ⟨hpeer, hshown⟩ := statusFrameReceive_spec (c0 := s.m.fresh.c) (i := i) hacc
    rw [← hc] at hpeer hshown
    exact ⟨t, ht, hm, hpeer, hshown⟩
  · obtain ⟨t, ht, hx⟩ := mach_next (i := .bulkFrameReceive link h part pct) rfl
      (bulkFrameReceive_standby (x := s.m.fresh) hacc hown hdiff rfl hsync part pct)
    obtain ⟨hdone, hpct⟩ := (({ s.m.fresh with c := c } : Mach).bulkTake part).bulkNoted_spec pct
    rw [← hx] at hdone hpct
    refine ⟨t, ht, hdone, hpct, fun l active hpart => ?_, fun p hpart => ?_⟩
    · rw [hx, hpart]
      exact Mach.bulkTake_bank _ l active pct
    · rw [hx, hpart, Mach.bulkNoted_m]
      exact Mach.bulkTake_tables _ p
  · obtain ⟨t, ht, hc, hm⟩ := ctl_next (i := .stateFrameReceive link h set) rfl
      (stateFrameReceive_standby (c0 := s.m.fresh.c) hacc hown hdiff set)
    exact ⟨t, ht, by rw [hc], by rw [hc], hm⟩
  · exact next_of_ctl rfl (recordReceive_unused (c0 := s.m.fresh.c) hacc payload)
  · exact next_of_ctl rfl (hingeInputReceive_unused (c0 := s.m.fresh.c) hacc payload)
  · exact next_of_ctl rfl (statusFrameReceive_unused (c0 := s.m.fresh.c) hacc i)
  · exact next_of_mach rfl (bulkFrameReceive_unused (x := s.m.fresh) hacc rfl part pct)
  · exact next_of_ctl rfl (stateFrameReceive_unused (c0 := s.m.fresh.c) hacc set)
  · refine next_of_mach rfl ?_
    rcases hidle with hrole | hnone
    · exact journalApply_idle (x := s.m.fresh) hrole
    · exact journalApply_none (x := s.m.fresh) hnone
  · exact next_of_mach rfl (journalApply_taken (x := s.m.fresh) hr hown hcut)

end Sys2Proof.Machine
end

section
/-! PROOFS. Probes, the decisions on them, votes and lost heartbeats (R255 to R258). -/
namespace Sys2Proof.Machine

/-! ## Probes (R255) -/

/-- A probe that has ended, with the results that are kept. -/
def Ctl.probeEnded (c : Ctl) (kept : List (Nat × Bool)) : Ctl := { c with hng := { c.hng with probe := none, probes := kept } }

/-- A probe that failed, shown. -/
def Ctl.probeShown (c : Ctl) : Ctl := (c.set R.HNG_STATUS_PROBE_FAIL_SEEN 1).raise Ev.HNG_PROBE

/-- The results with that of a failed probe: of a commanded one none is kept. -/
def Ctl.failKept (c : Ctl) : List (Nat × Bool) :=
  if c.hng.probeWhy ≠ 0 then ((c.winNo, false) :: c.hng.probes).take 8 else c.hng.probes

/-- The module after a probe that failed, before what it decides. -/
def Ctl.probeFailed (c : Ctl) : Ctl := (c.probeEnded c.failKept).probeShown

theorem probeResult_idle {c : Ctl} (hprobe : c.hng.probe = none) (hdec : c.hng.decide = none) (pass : Bool) : probeResult pass c = c := by
  simp [probeResult, hprobe, hdec]

section
variable {c : Ctl} {w : Nat} (hprobe : c.hng.probe = some w)
include hprobe

theorem probeResult_passed : probeResult true c = c.probeEnded (((c.winNo, true) :: c.hng.probes).take 8) := by
  simp [probeResult, hprobe, Ctl.probeEnded]

theorem probeResult_failed : probeResult false c =
    if c.hng.probeWhy ≠ 1 then c.probeFailed
    else if c.probeFailed.role = 3 then c.probeFailed.leaveService 5
    else if c.probeFailed.role = 2 ∧ c.probeFailed.hng.decide.isNone = true then c.probeFailed.decideAt c.probeFailed.cwin false
    else c.probeFailed := by
  simp [probeResult, hprobe, Ctl.probeFailed, Ctl.probeEnded, Ctl.probeShown, Ctl.failKept]

end

theorem Ctl.probeFailed_spec (c : Ctl) : c.probeFailed.get R.HNG_STATUS_PROBE_FAIL_SEEN = 1 ∧
    c.sameRegsBut c.probeFailed (R.HNG_STATUS_PROBE_FAIL_SEEN :: evtFields) ∧ c.probeFailed.hng.decide = c.hng.decide := by
  unfold Ctl.probeFailed Ctl.probeShown
  refine ⟨?_, ?_, ?_⟩
  · rw [Ctl.get_raise _ _ _ _ _ _ (by decide), Ctl.get_set_self]
    rfl
  · exact Ctl.sameRegsBut_trans (b := c.probeEnded c.failKept) (Ctl.sameRegsBut_of_regs _ rfl)
      (Ctl.sameRegsBut_trans (Ctl.sameRegsBut_set _ _ _ _ _ (by decide)) (Ctl.sameRegsBut_raise _ _ _ _ _ fun _ => List.mem_cons_of_mem _))
  · rw [Ctl.raise_hng]
    rfl

theorem Ctl.role_probeFailed (c : Ctl) : c.probeFailed.role = c.role := by
  obtain ⟨-, hregs, -⟩ := c.probeFailed_spec
  exact hregs R.HNG_STATUS_ROLE 0 (by decide)

/-- A failed probe shows whatever it decides. -/
theorem probeResult_seen {c : Ctl} {w : Nat} (hprobe : c.hng.probe = some w) :
    (probeResult false c).get R.HNG_STATUS_PROBE_FAIL_SEEN = 1 := by
  obtain ⟨hseen, -, -⟩ := c.probeFailed_spec
  rw [probeResult_failed hprobe]
  split
  · exact hseen
  · split
    · obtain ⟨-, -, -, -, hregs⟩ := c.probeFailed.leaveService_spec (r := 5) (by decide)
      exact (hregs _ _ (by decide)).trans hseen
    · split
      · exact hseen
      · exact hseen

theorem probeResult_standby {c : Ctl} {w : Nat} (hprobe : c.hng.probe = some w) (hwhy : c.hng.probeWhy = 1) (hrole : c.role = 3) :
    (probeResult false c).role = 5 := by
  rw [probeResult_failed hprobe, if_neg (by simp [hwhy]), if_pos (c.role_probeFailed.trans hrole)]
  exact Ctl.role_leaveService _ (by decide)

/-- An active whose periodic probe fails stays in service and lets both members probe. -/
theorem probeResult_active {c : Ctl} {w : Nat} (hprobe : c.hng.probe = some w) (hwhy : c.hng.probeWhy = 1) (hrole : c.role = 2)
    (hdec : c.hng.decide = none) :
    (probeResult false c).role = 2 ∧ (probeResult false c).hng.decide = some (winAdd c.cwin 4, false) := by
  obtain ⟨-, hregs, hdecide⟩ := c.probeFailed_spec
  have htwo : c.probeFailed.role = 2 := c.role_probeFailed.trans hrole
  have hcwin : c.probeFailed.cwin = c.cwin := by
    unfold Ctl.cwin Ctl.winNo
    rw [hregs R.HNG_STATUS_ROLE 0 (by decide), hregs R.WIN_COUNT 0 (by decide)]
  rw [probeResult_failed hprobe, if_neg (by simp [hwhy]), if_neg (by simp [htwo]), if_pos (by simp [htwo, hdecide, hdec]), hcwin]
  exact ⟨htwo, rfl⟩

theorem probeResult_other {c : Ctl} {w : Nat} (hprobe : c.hng.probe = some w) (hwhy : c.hng.probeWhy ≠ 1) :
    (probeResult false c).role = c.role := by
  rw [probeResult_failed hprobe, if_pos hwhy]
  exact c.role_probeFailed

theorem probePeriodic_idle {c : Ctl} (h : c.role = 0 ∨ c.get R.HNG_TIMING_PROBE_EVERY = 0) : probePeriodic c = c := by
  rcases h with h | h <;> simp [probePeriodic, h]

theorem probePeriodic_due {c : Ctl} (hrole : c.role ≠ 0) (hevery : c.get R.HNG_TIMING_PROBE_EVERY ≠ 0)
    (hdue : 16 * c.get R.HNG_TIMING_PROBE_EVERY ≤ c.hng.sinceProbe) :
    probePeriodic c = ({ c with hng := { c.hng with sinceProbe := 0 } } : Ctl).startProbe 1 := by
  simp [probePeriodic, hrole, hevery, Nat.not_lt.2 hdue]

/-! ## The decision on both probes (R256, R257) -/

/-- A decision taken. -/
def Ctl.decided (c : Ctl) (p : Nat) : Ctl := { c with hng := { c.hng with decide := none, decidedAt := some p } }

/-- Whether a member's probes for the decision at `p` passed. -/
def Ctl.memberOk (c : Ctl) (p r : Nat) : Bool := probesOk p (c.peer r).probes

/-- What an active decides of its own probes and those of the others. -/
def Ctl.activeDecides (c : Ctl) (p : Nat) (triplex : Bool) : Ctl :=
  if probesOk p c.hng.probes then c
  else if triplex then
    (if c.hngOthers.any (fun r => c.get R.HNG_PEER_ROLE r == 3) && c.hngOthers.all (c.memberOk p) then c.leaveService 5
      else c.raise Ev.HNG_PROBE)
  else if c.hngOthers.any (fun r => c.memberOk p r && c.get R.HNG_PEER_ROLE r == 3) then c.leaveService 5
  else c.raise Ev.HNG_PROBE

/-- What a standby decides. -/
def Ctl.standbyDecides (c : Ctl) (p : Nat) (triplex : Bool) : Ctl :=
  let own := probesOk p c.hng.probes
  let active := c.hngOthers.find? (fun r => c.get R.HNG_PEER_ROLE r == 2)
  let actOk : Bool := (active.map (c.memberOk p)).getD true
  let first := !c.hngOthers.any (fun r => r < c.get R.HNG_CFG_RANK && c.get R.HNG_PEER_ROLE r == 3 && c.memberOk p r)
  if own && actOk then c.toConverge
  else if own && triplex && !c.hngOthers.all (fun r => c.memberOk p r || c.get R.HNG_PEER_ROLE r == 2) then c.toConverge
  else if own then (if first then c.promote else c)
  else if triplex then c.leaveService 5
  else if actOk then c.leaveService 5
  else if c.hngOthers.any (c.memberOk p) then c.leaveService 5
  else c.toConverge

theorem duplexDecision_idle {c : Ctl} (h : c.hng.decide = none) : duplexDecision c = c := by
  simp [duplexDecision, h]

theorem duplexDecision_due {c : Ctl} {p : Nat} {b : Bool} (hdec : c.hng.decide = some (p, b)) (hdue : later p c.winNo = false) :
    duplexDecision c = if c.role = 2 then (c.decided p).activeDecides p b
      else if c.role = 3 then (c.decided p).standbyDecides p b else c.decided p := by
  rw [duplexDecision, hdec]
  exact if_neg (by simp [hdue])

section
variable {c : Ctl} {p : Nat} {b : Bool}

theorem Ctl.activeDecides_passed (hown : probesOk p c.hng.probes = true) : c.activeDecides p b = c := by
  simp [Ctl.activeDecides, hown]

/-- An active whose probes fail leaves service for a standby that passes; in a triplex only when it alone fails. -/
theorem Ctl.activeDecides_fails (hown : probesOk p c.hng.probes = false)
    (hpass : ∃ r ∈ c.hngOthers, c.memberOk p r = true ∧ c.get R.HNG_PEER_ROLE r = 3)
    (hothers : b = false ∨ ∀ r ∈ c.hngOthers, c.memberOk p r = true) : c.activeDecides p b = c.leaveService 5 := by
  obtain ⟨r, hr, hok, hrole⟩ := hpass
  have hstandby : c.hngOthers.any (fun r => c.get R.HNG_PEER_ROLE r == 3) = true := List.any_eq_true.2 ⟨r, hr, by simp [hrole]⟩
  have hany : c.hngOthers.any (fun r => c.memberOk p r && c.get R.HNG_PEER_ROLE r == 3) = true :=
    List.any_eq_true.2 ⟨r, hr, by simp [hrole, hok]⟩
  rw [Ctl.activeDecides, hown, hstandby, hany]
  cases b with
  | false => rfl
  | true =>
    have hall : c.hngOthers.all (c.memberOk p) = true := List.all_eq_true.2 (hothers.resolve_left (by decide))
    rw [hall]
    rfl

/-- In a triplex an active stays where another member fails too. -/
theorem Ctl.activeDecides_stays (hown : probesOk p c.hng.probes = false) (hfail : ∃ r ∈ c.hngOthers, c.memberOk p r = false) :
    c.activeDecides p true = c.raise Ev.HNG_PROBE := by
  obtain ⟨r, hr, hok⟩ := hfail
  have hall : c.hngOthers.all (c.memberOk p) = false := List.all_eq_false.2 ⟨r, hr, by simp [hok]⟩
  rw [Ctl.activeDecides, hown, hall, Bool.and_false]
  rfl

variable {r : Nat} (hothers : c.hngOthers = [r]) (hactive : c.get R.HNG_PEER_ROLE r = 2)
include hothers hactive

theorem Ctl.standbyDecides_both (hown : probesOk p c.hng.probes = true) (hok : c.memberOk p r = true) :
    c.standbyDecides p b = c.toConverge := by
  simp [Ctl.standbyDecides, hothers, hactive, hown, hok]

theorem Ctl.standbyDecides_promoted (hown : probesOk p c.hng.probes = true) (hok : c.memberOk p r = false) :
    c.standbyDecides p b = c.promote := by
  simp [Ctl.standbyDecides, hothers, hactive, hown, hok]

theorem Ctl.standbyDecides_fails (hown : probesOk p c.hng.probes = false) (hok : c.memberOk p r = true) :
    c.standbyDecides p b = c.leaveService 5 := by
  simp [Ctl.standbyDecides, hothers, hactive, hown, hok]

end

/-! ## Votes (R257) -/

theorem triplexVote_idle {c : Ctl} (h : c.get R.HNG_CFG_MODE ≠ 2) : triplexVote c = c := by
  simp [triplexVote, h]

/-- The vote of an active on content window `w` whose two standbys agree: it stays where their CRCs are its own, and fails otherwise. -/
theorem triplexVote_active {c : Ctl} {r1 r2 w : Nat} (hmode : c.get R.HNG_CFG_MODE = 2) (hrole : c.role = 2)
    (hw : w = (c.winNo + 2 ^ 32 - 2) % 2 ^ 32) (hranks : c.hngRanks = [r1, r2])
    (hvotes : ∀ r ∈ [r1, r2], (c.peer r).cwin = w ∧ (c.peer r).crcs ≠ [] ∧ (c.peer r).differs = false ∧ c.get R.HNG_PEER_ROLE r = 3)
    (hagree : (c.peer r1).crcs = (c.peer r2).crcs) :
    triplexVote c = if (c.peer r1).crcs = c.hngCrcs w then c else (c.countMismatch w).leaveService 5 := by
  obtain ⟨hw1, -, hd1, hp1⟩ := hvotes r1 (by simp)
  obtain ⟨hw2, hn2, hd2, hp2⟩ := hvotes r2 (by simp)
  rw [triplexVote, if_neg (by simp [hmode, hrole]), ← hw]
  extract_lets w' me there all c1
  have hthere : there = [(r1, 3, (c.peer r1).crcs), (r2, 3, (c.peer r1).crcs)] := by
    simp [there, w', hranks, hw1, hd1, hp1, hw2, hn2, hd2, hp2, hagree]
  have hfind : all.find? (fun e => e.2.1 == 2) = some me := by simp [all, me, hrole]
  have hfilter : all.filter (fun e => e.2.1 == 3) = [(r1, 3, (c.peer r1).crcs), (r2, 3, (c.peer r1).crcs)] := by
    simp [all, me, hrole, hthere]
  rw [hfind, hfilter]
  have hcount : (c.countMismatch w).role = 2 := by
    obtain ⟨-, hregs, -⟩ := c.countMismatch_spec w
    exact (hregs R.HNG_STATUS_ROLE 0 (by decide)).trans hrole
  by_cases hsame : (c.peer r1).crcs = c.hngCrcs w
  · simp [me, w', hsame]
  · have hc1 : c1 = c.countMismatch w := if_neg (by simp [hrole])
    simp [me, w', hsame, Ne.symm hsame, hc1, hcount]

/-- The module after a vote that contradicts it. -/
theorem Ctl.outvoted_spec (c : Ctl) (w : Nat) : ((c.countMismatch w).leaveService 5).role = 5 ∧
    ((c.countMismatch w).leaveService 5).get R.HNG_MISMATCH = (c.get R.HNG_MISMATCH + 1) % 2 ^ R.HNG_MISMATCH.width := by
  obtain ⟨hfive, -, -, -, hregs⟩ := (c.countMismatch w).leaveService_spec (r := 5) (by decide)
  obtain ⟨-, -, hcount⟩ := c.countMismatch_spec w
  exact ⟨hfive, (hregs _ _ (by decide)).trans hcount⟩

/-! ## Lost heartbeats (R258) -/

/-- A member declared lost. -/
def Ctl.lossNoted (c : Ctl) (r : Nat) : Ctl :=
  (({ c with hng := { c.hng with lost := r :: c.hng.lost } } : Ctl).set R.HNG_STATUS_HB_LOST_SEEN 1).raise Ev.HNG_HB_LOST r

theorem Ctl.lossNoted_spec (c : Ctl) (r : Nat) : (c.lossNoted r).get R.HNG_STATUS_HB_LOST_SEEN = 1 ∧ r ∈ (c.lossNoted r).hng.lost ∧
    c.sameRegsBut (c.lossNoted r) (R.HNG_STATUS_HB_LOST_SEEN :: evtFields) := by
  unfold Ctl.lossNoted
  refine ⟨?_, ?_, ?_⟩
  · rw [Ctl.get_raise _ _ _ _ _ _ (by decide), Ctl.get_set_self]
    rfl
  · rw [Ctl.raise_hng]
    exact List.mem_cons_self ..
  · exact Ctl.sameRegsBut_trans (b := { c with hng := { c.hng with lost := r :: c.hng.lost } }) (Ctl.sameRegsBut_of_regs _ rfl)
      (Ctl.sameRegsBut_trans (Ctl.sameRegsBut_set _ _ _ _ _ (by decide)) (Ctl.sameRegsBut_raise _ _ _ _ _ fun _ => List.mem_cons_of_mem _))

theorem Ctl.role_lossNoted (c : Ctl) (r : Nat) : (c.lossNoted r).role = c.role := by
  obtain ⟨-, -, hregs⟩ := c.lossNoted_spec r
  exact hregs R.HNG_STATUS_ROLE 0 (by decide)

theorem heartbeatLoss_idle {c : Ctl} (h : c.role = 0) (r : Fin 3) : heartbeatLoss r c = c := by
  simp [heartbeatLoss, h]

section
variable {c : Ctl} {r : Fin 3} (hrole : c.role ≠ 0) (hrank : r.val ∈ c.hngRanks) (hnew : r.val ∉ c.hng.lost)
  (hmissed : c.get R.HNG_TIMING_HB_MISS ≤ c.get R.HNG_PEER_MISSED r)
include hrole hrank hnew hmissed

theorem heartbeatLoss_cases : heartbeatLoss r c = c.lossNoted r ∨ (c.role = 3 ∧ heartbeatLoss r c = (c.lossNoted r).promote) := by
  rw [heartbeatLoss, if_neg (by simp [hrole, hrank, hnew, hmissed])]
  extract_lets _ c1 c2 wasActive synced better
  have hc2 : c2 = c.lossNoted r := rfl
  split
  · next h =>
    obtain ⟨⟨hthree, -⟩, -⟩ : (c2.role = 3 ∧ wasActive) ∧ better = false := by simpa using h
    exact .inr ⟨(c.role_lossNoted r).symm.trans (hc2 ▸ hthree), rfl⟩
  · exact .inl rfl

/-- A standby in step takes over where the member that is lost is the active and the only other one. -/
theorem heartbeatLoss_promotes (hstandby : c.role = 3) (hactive : c.get R.HNG_PEER_ROLE r = 2) (hsync : c.get R.HNG_STATUS_SYNC = 3)
    (honly : c.hngRanks = [r.val]) : heartbeatLoss r c = (c.lossNoted r).promote := by
  obtain ⟨-, -, hregs⟩ := c.lossNoted_spec r
  have hstandby' : (c.lossNoted r).role = 3 := (c.role_lossNoted r).trans hstandby
  have hactive' : (c.lossNoted r).get R.HNG_PEER_ROLE r = 2 := (hregs _ _ (by decide)).trans hactive
  have hsync' : (c.lossNoted r).get R.HNG_STATUS_SYNC = 3 := (hregs _ _ (by decide)).trans hsync
  have honly' : (c.lossNoted r).hngRanks = [r.val] := by
    rw [← honly]
    unfold Ctl.hngRanks Ctl.hngMembers
    rw [hregs R.HNG_CFG_MODE 0 (by decide), hregs R.HNG_CFG_RANK 0 (by decide)]
  rw [heartbeatLoss, if_neg (by simp [hrole, hrank, hnew, hmissed])]
  extract_lets _ c1 c2 wasActive synced better
  have hc2 : c2 = c.lossNoted r := rfl
  have hbetter : better = false := by simp [better, hc2, hsync', honly', synced]
  have hwas : wasActive := hactive'
  rw [if_pos (by simp [hc2, hstandby', hwas, hbetter]), hc2]

end

/-! ## The statement -/

/-- Settles O40: each decision by the lemma on what it comes to under its conditions, and that without one nothing changes. -/
theorem hingeDecisions : Obligations.HingeDecisions := by
  unfold Obligations.HingeDecisions
  intro s
  refine ⟨fun hprobe hdec pass => ?_, fun h => ?_, fun h => ?_, fun h r => ?_, fun h => ?_, fun hrole hevery hdue => ?_,
    fun w hprobe => ⟨?_, ?_⟩, fun p b hdec hdue => ⟨fun hrole hown => ?_, fun hrole hown hpass hothers => ?_,
      fun hrole hown hfail hb => ?_, fun r hrole hothers hactive => ?_⟩,
    fun r1 r2 w hmode hrole hw hranks hvotes hagree => ⟨fun hsame => ?_, fun hne => ?_⟩, fun r hrole hrank hnew hmissed => ?_⟩
  · exact next_of_ctl rfl (probeResult_idle (c := s.m.fresh.c) hprobe hdec pass)
  · exact next_of_ctl rfl (duplexDecision_idle (c := s.m.fresh.c) h)
  · exact next_of_ctl rfl (probePeriodic_idle (c := s.m.fresh.c) h)
  · exact next_of_ctl rfl (heartbeatLoss_idle (c := s.m.fresh.c) h r)
  · exact next_of_ctl rfl (triplexVote_idle (c := s.m.fresh.c) h)
  · exact ⟨_, next_of_ctl rfl (probePeriodic_due (c := s.m.fresh.c) hrole hevery hdue), rfl, rfl, rfl, rfl, rfl⟩
  · exact ⟨_, next_of_ctl rfl (probeResult_passed (c := s.m.fresh.c) hprobe), rfl, rfl, rfl, rfl⟩
  · obtain ⟨t, ht, hc, hm⟩ := ctl_next (i := .probeResult false) (c := probeResult false s.m.fresh.c) rfl rfl
    have hseen := probeResult_seen (c := s.m.fresh.c) hprobe
    rw [← hc] at hseen
    refine ⟨t, ht, hseen, hm, fun hwhy hrole => ?_, fun hwhy hrole hdec => ?_, fun hwhy => ?_⟩ <;> rw [hc]
    · exact probeResult_standby (c := s.m.fresh.c) hprobe hwhy hrole
    · exact probeResult_active (c := s.m.fresh.c) hprobe hwhy hrole hdec
    · exact probeResult_other (c := s.m.fresh.c) hprobe hwhy
  · have heq := (duplexDecision_due (c := s.m.fresh.c) hdec hdue).trans (if_pos hrole)
    rw [Ctl.activeDecides_passed (c := s.m.fresh.c.decided p) hown] at heq
    exact ⟨_, next_of_ctl rfl heq, rfl, rfl, rfl⟩
  · have heq := (duplexDecision_due (c := s.m.fresh.c) hdec hdue).trans (if_pos hrole)
    rw [Ctl.activeDecides_fails (c := s.m.fresh.c.decided p) hown hpass hothers] at heq
    obtain ⟨t, ht, hc, hm⟩ := ctl_next (i := .duplexDecision) rfl heq
    exact ⟨t, ht, hc ▸ Ctl.role_leaveService _ (by decide), hm⟩
  · have heq := (duplexDecision_due (c := s.m.fresh.c) hdec hdue).trans (if_pos hrole)
    rw [hb, Ctl.activeDecides_stays (c := s.m.fresh.c.decided p) hown hfail] at heq
    obtain ⟨t, ht, hc, hm⟩ := ctl_next (i := .duplexDecision) rfl heq
    refine ⟨t, ht, ?_, hm⟩
    rw [hc, Ctl.role, Ctl.get_raise _ _ _ _ _ _ (by decide)]
    exact hrole
  · have hnot : s.m.fresh.c.role ≠ 2 := fun h => absurd (hrole.symm.trans h) (by decide)
    have heq := ((duplexDecision_due (c := s.m.fresh.c) hdec hdue).trans (if_neg hnot)).trans (if_pos hrole)
    obtain ⟨t, ht, hc, hm⟩ := ctl_next (i := .duplexDecision) rfl heq
    refine ⟨t, ht, hm, fun hown hok => ?_, fun hown hok => ?_, fun hown hok => ?_⟩ <;> rw [hc]
    · rw [Ctl.standbyDecides_both (c := s.m.fresh.c.decided p) hothers hactive hown hok]
      exact ⟨(Ctl.toConverge_spec _).1, (Ctl.role_toConverge _).trans hrole⟩
    · rw [Ctl.standbyDecides_promoted (c := s.m.fresh.c.decided p) hothers hactive hown hok]
      exact Ctl.role_promote _
    · rw [Ctl.standbyDecides_fails (c := s.m.fresh.c.decided p) hothers hactive hown hok]
      exact Ctl.role_leaveService _ (by decide)
  · exact next_of_ctl rfl ((triplexVote_active (c := s.m.fresh.c) hmode hrole hw hranks hvotes hagree).trans (if_pos hsame))
  · obtain ⟨t, ht, hc, hm⟩ := ctl_next (i := .triplexVote) rfl
      ((triplexVote_active (c := s.m.fresh.c) hmode hrole hw hranks hvotes hagree).trans (if_neg hne))
    obtain ⟨hfive, hcount⟩ := s.m.fresh.c.outvoted_spec w
    rw [← hc] at hfive hcount
    exact ⟨t, ht, hfive, hcount, hm⟩
  · obtain ⟨t, ht, hc, hm⟩ := ctl_next (i := .heartbeatLoss r) (c := heartbeatLoss r s.m.fresh.c) rfl rfl
    have hcases := heartbeatLoss_cases (c := s.m.fresh.c) hrole hrank hnew hmissed
    obtain ⟨hseen, hlost, -⟩ := s.m.fresh.c.lossNoted_spec r
    obtain ⟨hlost', hseen'⟩ := (s.m.fresh.c.lossNoted r).promote_lost
    refine ⟨t, ht, ?_, ?_, hm, fun hthree hactive hsync honly => ?_, fun hother => ?_⟩ <;> rw [hc]
    · rcases hcases with h | ⟨-, h⟩ <;> rw [h]
      · exact hseen
      · exact hseen'.trans hseen
    · rcases hcases with h | ⟨-, h⟩ <;> rw [h]
      · exact hlost
      · exact hlost' ▸ hlost
    · rw [heartbeatLoss_promotes (c := s.m.fresh.c) hrole hrank hnew hmissed hthree hactive hsync honly]
      exact Ctl.role_promote _
    · rcases hcases with h | ⟨h, -⟩
      · rw [h]
        exact Ctl.role_lossNoted _ _
      · exact absurd h hother

end Sys2Proof.Machine
end

section
/-! PROOFS. A CREDIT cell that waits in a channel's queue (R271 to R273). -/
namespace Sys2Proof.Machine

/-- A CREDIT cell on channel 0. -/
def strayCredit : Cell := { vc := 0, cls := 0, kind := 5, mc := false, dst := 0, words := [] }

/-- A member whose gate 0 is up, with that cell alone in the queue of channel 0. -/
def strayCreditState : State :=
  { State.reset with m := { State.reset.m with c :=
    ((({ State.reset.m.c with fab := { State.reset.m.c.fab with out := [(0, [{ cell := strayCredit }])] } }.set R.FAB_CFG_EN 1).set
      R.FAB_CFG_GATE_EN 1).set R.FAB_STATUS_STATE 2).set R.FAB_GATE_UP 1 } }

/-- The first word of the payload of a cell that is sent out, which follows the two words of its header (R268). -/
def Output.cellWord : Output → Nat
  | .cell _ _ w => w.getD 2 0
  | _ => 0

theorem Output.cellWord_cellWire (g vc : Nat) (x : Cell) {w : Nat} {l : List Nat} (h : x.words = w :: l) :
    (Output.cell g vc (cellWire x)).cellWord = w := by
  simp [Output.cellWord, cellWire, h]

/-- The slot counts the cell as sent on channel 0 before the cell takes the counts: its first word is 1. -/
theorem cellSlotSend_strayCredit : (cellSlotSend 0 strayCreditState.m.fresh.c).out.map Output.cellWord = [1] := by
  decide +kernel

/-- Refutes O41: a CREDIT cell carries the counts of the instant at which it leaves (R272). One that waits in a channel's queue leaves
by that channel and is counted there, so that it carries a count one higher than that before the slot, which the statement gives it.
No command of a module queues such a cell; the statement speaks of every state. -/
theorem not_fabricGates : ¬ Obligations.FabricGates := by
  unfold Obligations.FabricGates
  intro h
  obtain ⟨-, -, -, -, hsend, -⟩ := h strayCreditState 0
  obtain ⟨t, ht, -, hcell, -⟩ := hsend 0 0 { cell := strayCredit } (by decide) (by decide) rfl rfl
  have hnext : exec (.cellSlotSend 0) strayCreditState = .next (strayCreditState.withCtl (cellSlotSend 0)) := rfl
  obtain rfl : strayCreditState.withCtl (cellSlotSend 0) = t := Host.Outcome.next.inj (hnext.symm.trans ht)
  have hzero : 0 ∈ (cellSlotSend 0 strayCreditState.m.fresh.c).out.map Output.cellWord :=
    List.mem_map.2 ⟨_, hcell, Output.cellWord_cellWire _ _ _ rfl⟩
  rw [cellSlotSend_strayCredit] at hzero
  exact absurd hzero (by decide)

end Sys2Proof.Machine
end

section
/-! PROOFS. What sending cells leaves of a node's fabric state, and the election and membership (R270 to R281). -/
namespace Sys2Proof.Machine

/-! ## Sending cells (R270 to R281, R285) -/

/-- `d` has the fabric state of `c` but for the queues, the credits, the exports announced and what counts cells sent. -/
structure FabSent (c d : Ctl) : Prop where
  shape : d.fab = { c.fab with out := d.fab.out, freed := d.fab.freed, owed := d.fab.owed, once := d.fab.once, ctrlSeq := d.fab.ctrlSeq,
                               exports := d.fab.exports, announced := d.fab.announced, annRoot := d.fab.annRoot }

namespace FabSent

theorem of_fab {c d : Ctl} (h : d.fab = c.fab) : FabSent c d := ⟨by rw [h]⟩

theorem refl (c : Ctl) : FabSent c c := ⟨rfl⟩

theorem trans {a b c : Ctl} (h : FabSent a b) (k : FabSent b c) : FabSent a c := ⟨by rw [k.shape, h.shape]⟩

/-- The fabric's own state stands as it was before the sending began. -/
theorem of_left {b c d : Ctl} (k : FabSent b d) (h : b.fab = c.fab) : FabSent c d := (of_fab h).trans k

theorem each {α : Type} (l : List α) (f : Ctl → α → Ctl) (h : ∀ c a, FabSent c (f c a)) (c : Ctl) : FabSent c (c.each l f) := by
  induction l generalizing c with
  | nil => exact refl c
  | cons a l ih => exact (h c a).trans (ih (f c a))

theorem heard {c d : Ctl} (h : FabSent c d) : d.fab.heard = c.fab.heard := by rw [h.shape]

theorem nbrs {c d : Ctl} (h : FabSent c d) : d.fab.nbrs = c.fab.nbrs := by rw [h.shape]

/-- The root's part of a generation is none of what sending changes (R280). -/
theorem generation {c d : Ctl} (h : FabSent c d) :
    d.fab.acks = c.fab.acks ∧ d.fab.acked = c.fab.acked ∧ d.fab.rootGen = c.fab.rootGen := by
  rw [h.shape]
  exact ⟨rfl, rfl, rfl⟩

end FabSent

theorem fabSent_raiseOnce (c : Ctl) (ev : Nat) : FabSent c (c.raiseOnce ev) := by
  unfold Ctl.raiseOnce
  split
  · exact .refl c
  · exact ⟨by rw [Ctl.raise_fab]⟩

theorem fabSent_cellDiscard (c : Ctl) : FabSent c c.cellDiscard := by
  unfold Ctl.cellDiscard
  exact (fabSent_raiseOnce _ _).of_left rfl

theorem fabSent_escaped (c : Ctl) : FabSent c c.escaped := by
  unfold Ctl.escaped
  exact (fabSent_raiseOnce _ _).of_left rfl

theorem fabSent_cellFree (c : Ctl) (held : Option (Nat × Nat)) : FabSent c (c.cellFree held) := by
  cases held
  · exact .refl c
  · exact ⟨rfl⟩

theorem fabSent_cellDrop (c : Ctl) (held : Option (Nat × Nat)) : FabSent c (c.cellDiscard.cellFree held) :=
  (fabSent_cellDiscard c).trans (fabSent_cellFree _ held)

theorem fabSent_cellOut (c : Ctl) (g : Nat) (x : Cell) (held : Option (Nat × Nat)) : FabSent c (c.cellOut g x held) := by
  unfold Ctl.cellOut
  split
  · exact fabSent_cellDrop c held
  · exact ⟨rfl⟩

theorem fabSent_route3 (c : Ctl) (x : Cell) (held : Option (Nat × Nat)) : FabSent c (c.route3 x held) := by
  unfold Ctl.route3
  extract_lets st
  split
  · exact fabSent_cellDrop c held
  · split
    · split
      · exact fabSent_cellOut c _ x held
      · exact fabSent_cellDrop c held
    · split
      · exact fabSent_cellDrop c held
      · exact fabSent_cellOut _ _ _ _

theorem fabSent_unicast (c : Ctl) (x : Cell) (held : Option (Nat × Nat)) : FabSent c (c.unicast x held) := by
  unfold Ctl.unicast
  extract_lets st
  split
  · exact fabSent_route3 c x held
  · split
    · exact fabSent_cellDrop c held
    · split
      · exact (fabSent_escaped c).trans (fabSent_route3 _ _ _)
      · exact fabSent_cellOut _ _ _ _

theorem fabSent_copyOut (c : Ctl) (g : Nat) (x : Cell) (held : Option (Nat × Nat)) : FabSent c (c.copyOut g x held) := by
  unfold Ctl.copyOut
  split
  · exact fabSent_cellOut c g x held
  · exact ((fabSent_escaped c).trans (.each _ _ (fun c _ => fabSent_route3 c _ _) _)).trans (fabSent_cellFree _ _)

theorem fabSent_copies (x : Cell) (held : Option (Nat × Nat)) (l : List Nat) (c : Ctl) : FabSent c (c.copies x held l) := by
  induction l generalizing c with
  | nil => exact fabSent_cellFree c held
  | cons g l ih =>
    cases l with
    | nil => exact fabSent_copyOut c g x held
    | cons => exact (fabSent_copyOut c g x none).trans (ih _)

/-- A CTRL cell takes the next number (R285). -/
theorem fabSent_ctrlSeq (c : Ctl) : FabSent c { c with fab := { c.fab with ctrlSeq := c.fab.ctrlSeq + 1 } } := ⟨rfl⟩

theorem fabSent_fabCtrl (c : Ctl) (cls op dst : Nat) (words : List Nat) : FabSent c (c.fabCtrl cls op dst words) := by
  unfold Ctl.fabCtrl
  split
  · exact .refl c
  · exact (fabSent_ctrlSeq c).trans (fabSent_unicast _ _ _)

theorem fabSent_fabBroadcast (c : Ctl) (cls op : Nat) (words : List Nat) : FabSent c (c.fabBroadcast cls op words) := by
  unfold Ctl.fabBroadcast
  split
  · exact .refl c
  · exact (fabSent_ctrlSeq c).trans (fabSent_copies _ _ _ _)

theorem fabSent_announce (c : Ctl) : FabSent c c.announce := by
  unfold Ctl.announce
  extract_lets l map words _ c1 ex
  split
  · exact .refl c
  · have h1 : FabSent c c1 := ⟨rfl⟩
    split
    · exact h1.trans (fabSent_fabCtrl _ _ _ _ _)
    · refine (h1.trans ?_).trans (fabSent_fabBroadcast _ _ _ _)
      exact ⟨rfl⟩

/-! ## CONVERGED, the election and membership (R276 to R278, R281) -/

theorem Ctl.showConv_fab (c : Ctl) : c.showConv.fab = c.fab := by
  unfold Ctl.showConv
  extract_lets on
  split
  · rfl
  · exact Ctl.raise_fab _ _ _ _

theorem Ctl.sameRegsBut_showConv (c : Ctl) : c.sameRegsBut c.showConv (R.FAB_STATUS_CONVERGED :: evtFields) := by
  unfold Ctl.showConv
  extract_lets on
  split
  · exact c.sameRegsBut_refl _
  · exact Ctl.sameRegsBut_trans (Ctl.sameRegsBut_set _ _ _ _ _ (List.mem_cons_self ..))
      (Ctl.sameRegsBut_raise _ _ _ _ _ fun _ => List.mem_cons_of_mem _)

theorem Ctl.when_raise_fab (c : Ctl) (b : Bool) (ev info detail : Nat) : (c.when b (·.raise ev info detail)).fab = c.fab :=
  Ctl.when_keeps (·.fab) _ _ _ (Ctl.raise_fab _ _ _ _)

theorem fabSent_sendSwitch (c : Ctl) (gen : Nat) : FabSent c (c.sendSwitch gen) := by
  unfold Ctl.sendSwitch
  extract_lets w
  exact (fabSent_fabBroadcast c 3 6 [gen, w]).trans (.of_fab (Ctl.showConv_fab _))

/-- A node that joins, or finds what bars it, changes its status, and announces its exports (R277, R278, R282). -/
theorem fabSent_member (c : Ctl) : FabSent c c.member := by
  unfold Ctl.member
  split
  · exact .refl c
  · extract_lets st n c1 m
    have h1 : c1.fab = c.fab := by
      simp only [c1]
      split
      · exact Ctl.when_raise_fab _ _ _ _ _
      · split
        · exact Ctl.when_raise_fab _ _ _ _ _
        · rfl
    exact (fabSent_announce _).of_left ((Ctl.showConv_fab _).trans h1)

/-- The election reads the neighbours and leaves them. -/
theorem Ctl.elect_nbrs (c : Ctl) : c.elect.fab.nbrs = c.fab.nbrs := by
  unfold Ctl.elect
  extract_lets was mine best _ self show' c1 c2
  have hshow : ∀ (d : Ctl) (up : Option Nat), (show' d up).fab = d.fab := fun d up => by
    refine Ctl.each_keeps (·.fab) _ _ (fun _ _ => ?_) d
    rfl
  clear_value best
  have h1 : c1.fab.nbrs = c.fab.nbrs := by
    simp only [c1]
    split
    · split
      · rw [hshow]
        rfl
      · rw [hshow]
        exact Ctl.when_keeps (·.fab.nbrs) _ _ _ rfl
    · rw [hshow]
      rfl
  have h2 : c2.fab = c1.fab := Ctl.when_keeps (·.fab) _ _ _ rfl
  rw [Ctl.when_raise_fab, h2, h1]

end Sys2Proof.Machine
end

section
/-! PROOFS. Cells that a station receives: knocks, data cells and control cells (R276, R277, R280 to R287). -/
namespace Sys2Proof.Machine

/-! ## Knocks and data cells (R275, R276, R284) -/

section
variable {c d : Ctl} {g : Fin 4} {x : Cell}

theorem knockReceive_dropped (h : c.cellIn g x = (d, false)) : knockReceive g x c = d := by simp [knockReceive, h]

/-- A knock of this version makes its sender the gate's neighbour (R275, R276). -/
theorem knockReceive_taken (h : c.cellIn g x = (d, true)) (hkind : x.kind = 3) (hver : x.words.getD 0 0 % 256 = 1) :
    kget? (knockReceive g x c).fab.nbrs g = some (knockParse x.words) ∧ (knockReceive g x c).get R.FAB_GATE_PEER_VALID g = 1 ∧
      (knockReceive g x c).get R.FAB_GATE_PEER g = x.words.getD 0 0 / 256 % 256 := by
  rw [knockReceive, h, if_neg (by simp only [hkind, hver]; decide)]
  extract_lets c1 heard _ c2 c3 _ c4
  refine ⟨?_, Ctl.get_set_self _ _ _ _, ?_⟩
  · have hnbrs : c4.fab.nbrs = c2.fab.nbrs := (fabSent_member c2.elect).nbrs.trans c2.elect_nbrs
    rw [Ctl.set_fab, Ctl.set_fab, hnbrs]
    exact kget?_kput_self _ _ _
  · rw [Ctl.get_set_ne _ _ _ _ _ _ (.inl (by decide)), Ctl.get_set_self]
    exact Nat.mod_mod _ _

theorem dataCellReceive_dropped (h : c.cellIn g x = (d, false)) : dataCellReceive g x c = d := by simp [dataCellReceive, h]

theorem dataCellReceive_unicast (h : c.cellIn g x = (d, true)) (hkind : x.kind = 1) (hmc : x.mc = false) :
    dataCellReceive g x c = if d.isMe (x.dst % 256) then (d.takePart (x.aux / 4 % 16384) x).cellFree (some (g, x.vc % 4))
      else d.unicast x (some (g, x.vc % 4)) := by
  simp [dataCellReceive, h, hkind, hmc]

theorem dataCellReceive_control (h : c.cellIn g x = (d, true)) (hkind : x.kind = 2) :
    dataCellReceive g x c = (if x.words.getD 0 0 % 256 = 0 ∨ 8 < x.words.getD 0 0 % 256 then d.cellDiscard else d).cellFree
      (some (g, x.vc % 4)) := by
  rw [dataCellReceive, h, if_neg (by simp [hkind]), if_pos hkind]
  simp only [Bool.or_eq_true, decide_eq_true_eq]
  split <;> rfl

theorem dataCellReceive_multicast (h : c.cellIn g x = (d, true)) (hkind : x.kind = 1) (hmc : x.mc = true) :
    dataCellReceive g x c = (d.takePart x.dst x).copies x (some (g, x.vc % 4))
      ((bitsOf 4 (kgetD (d.takePart x.dst x).fab.flows x.dst ⟨0, 0, []⟩).outs).filter (· != g.val)) := by
  simp [dataCellReceive, h, hkind, hmc]

/-! ## Control cells (R280 to R287) -/

/-- A control cell that this station does not handle leaves what its reception left. -/
theorem mirrorReceive_dropped (h : c.ctrlIn g x 1 = (d, false)) : mirrorReceive g x c = d := by simp [mirrorReceive, h]

theorem refuseReceive_dropped (h : c.ctrlIn g x 2 = (d, false)) : refuseReceive g x c = d := by simp [refuseReceive, h]

theorem switchReceive_dropped (h : c.ctrlIn g x 6 = (d, false)) : switchReceive g x c = d := by simp [switchReceive, h]

/-- MIRROR of this node's own objects does nothing (R67). -/
theorem mirrorReceive_own (h : c.ctrlIn g x 1 = (d, true)) (hown : ctrlFrom x % 64 = d.node) : mirrorReceive g x c = d := by
  simp [mirrorReceive, h, hown]

theorem mirrorReceive_taken (h : c.ctrlIn g x 1 = (d, true)) (hother : ctrlFrom x % 64 ≠ d.node) :
    mirrorReceive g x c =
      (d.mirrorTake (ctrlFrom x % 64) ((x.words.drop 2).take 6)).mirrorTake (ctrlFrom x % 64) ((x.words.drop 8).take 6) := by
  simp [mirrorReceive, h, hother]

/-- The keeper's operations enter its control queue where the station handles them (R285). -/
theorem topoReceive_eq {b : Bool} (h : c.ctrlIn g x 3 = (d, b)) :
    topoReceive g x c = if b then d.ctrlQueue { cell := x } else d := by rw [topoReceive, h]

theorem routeReceive_eq {b : Bool} (flows : Keyed Flow) (h : c.ctrlIn g x 4 = (d, b)) :
    routeReceive g x flows c = if b then d.ctrlQueue { cell := x, flows := flows } else d := by rw [routeReceive, h]

theorem exportsReceive_eq {b : Bool} (k : BitVec 512) (h : c.ctrlIn g x 5 = (d, b)) :
    exportsReceive g x k c = if b then d.ctrlQueue { cell := x, classes := k.toNat } else d := by rw [exportsReceive, h]

theorem ackReceive_eq {b : Bool} (h : c.ctrlIn g x 8 = (d, b)) :
    ackReceive g x c = if b then d.ctrlQueue { cell := x } else d := by rw [ackReceive, h]

theorem tickReceive_eq {b : Bool} (h : c.ctrlIn g x 7 = (d, b)) :
    tickReceive g x c = if b then d.fabTickLatch (x.words.getD 1 0 % 16) (x.words.getD 2 0) else d := by rw [tickReceive, h]

/-- SWITCH notes the next generation and its window (R280). -/
theorem switchReceive_taken (h : c.ctrlIn g x 6 = (d, true)) :
    (switchReceive g x c).get R.FAB_GEN_NEXT = x.words.getD 1 0 % 2 ^ 16 ∧
      (switchReceive g x c).get R.FAB_GEN_WIN = x.words.getD 2 0 % 2 ^ 32 := by
  rw [switchReceive, h, if_neg (by simp), Ctl.sameRegsBut_showConv _ _ _ (by decide), Ctl.sameRegsBut_showConv _ _ _ (by decide)]
  simp (disch := decide) only [Ctl.get_set_ne, Ctl.get_set_self]
  exact ⟨rfl, rfl⟩

end

/-! ## The fabric's tick (R287) -/

theorem Ctl.sameRegsBut_showSwitch (c : Ctl) : c.sameRegsBut c.showSwitch [R.SYS_SCENE_WIN] := by
  unfold Ctl.showSwitch
  split
  · exact c.sameRegsBut_refl _
  · exact Ctl.sameRegsBut_set _ _ _ _ _ (List.mem_cons_self ..)

theorem Ctl.showSwitch_win (c : Ctl) : c.showSwitch.win = c.win := by
  unfold Ctl.showSwitch
  split
  · rfl
  · exact Ctl.set_win _ _ _ _

theorem Ctl.showSwitch_fab (c : Ctl) : c.showSwitch.fab = c.fab := by
  unfold Ctl.showSwitch
  split
  · rfl
  · exact Ctl.set_fab _ _ _ _

/-- The fabric's length and origin are noted, whether or not the length is in force. -/
theorem Ctl.fabTickLatch_fab (c : Ctl) (n origin : Nat) :
    (c.fabTickLatch n origin).fab = { c.fab with tickOrigin := origin, rootTick := n } := by
  unfold Ctl.fabTickLatch
  extract_lets _ c1
  split
  · rfl
  · exact Ctl.showSwitch_fab _

/-- A length that is not in force is latched for the boundary of its origin. -/
theorem Ctl.fabTickLatch_latches {c : Ctl} {n : Nat} (origin : Nat) (h : n ≠ c.get R.WIN_TICK_LEN_ACTIVE) :
    (c.fabTickLatch n origin).win.tickReq = some n ∧ (c.fabTickLatch n origin).win.tickFrom = some origin ∧
      (c.fabTickLatch n origin).get R.WIN_TICK_PENDING = 1 := by
  unfold Ctl.fabTickLatch
  extract_lets _ c1
  rw [if_neg (show ¬ n = c1.get R.WIN_TICK_LEN_ACTIVE from h), Ctl.showSwitch_win, Ctl.sameRegsBut_showSwitch _ _ _ (by decide)]
  simp (disch := decide) only [Ctl.set_win, Ctl.get_set_ne, Ctl.get_set_self]
  exact ⟨trivial, trivial, rfl⟩

/-! ## The statement -/

/-- Settles O42: a knock, a data cell and each control cell by what it does when it is taken, and that nothing more is done with one
that is not. -/
theorem fabricCells : Obligations.FabricCells := by
  unfold Obligations.FabricCells
  intro s g x
  refine ⟨fun c h => ⟨fun hkind hver => ?_, fun hkind hmc hme => ?_, fun hkind => ?_, fun hkind hmc hme => ?_, fun hkind hmc => ?_⟩,
    fun c h => ⟨?_, ?_⟩, fun c n h => ⟨?_, ?_, ?_, ?_, ?_, ?_, ?_, ?_⟩, fun c h => ?_, fun c h hown => ?_, fun c h => ?_,
    fun c flows h => ?_, fun c k h => ?_, fun c h => ?_, fun c h => ?_, fun c h => ?_, fun c h hother => ?_⟩
  · obtain ⟨t, ht, hc, hm⟩ := ctl_next (s := s) (i := .knockReceive g x) rfl rfl
    obtain ⟨hnbr, hvalid, hpeer⟩ := knockReceive_taken (c := s.m.fresh.c) h hkind hver
    rw [← hc] at hnbr hvalid hpeer
    exact ⟨t, ht, hnbr, hvalid, hpeer, hm⟩
  · exact next_of_ctl rfl ((dataCellReceive_unicast (c := s.m.fresh.c) h hkind hmc).trans (if_pos hme))
  · exact next_of_ctl rfl (dataCellReceive_control (c := s.m.fresh.c) h hkind)
  · exact next_of_ctl rfl ((dataCellReceive_unicast (c := s.m.fresh.c) h hkind hmc).trans (if_neg (by simp [hme])))
  · exact next_of_ctl rfl (dataCellReceive_multicast (c := s.m.fresh.c) h hkind hmc)
  · exact next_of_ctl rfl (dataCellReceive_dropped (c := s.m.fresh.c) h)
  · exact next_of_ctl rfl (knockReceive_dropped (c := s.m.fresh.c) h)
  · rintro rfl
    exact next_of_ctl rfl (mirrorReceive_dropped (c := s.m.fresh.c) h)
  · rintro rfl
    exact next_of_ctl rfl (refuseReceive_dropped (c := s.m.fresh.c) h)
  · rintro rfl
    exact next_of_ctl rfl (topoReceive_eq (c := s.m.fresh.c) h)
  · rintro rfl flows
    exact next_of_ctl rfl (routeReceive_eq (c := s.m.fresh.c) flows h)
  · rintro rfl k
    exact next_of_ctl rfl (exportsReceive_eq (c := s.m.fresh.c) k h)
  · rintro rfl
    exact next_of_ctl rfl (switchReceive_dropped (c := s.m.fresh.c) h)
  · rintro rfl
    exact next_of_ctl rfl (tickReceive_eq (c := s.m.fresh.c) h)
  · rintro rfl
    exact next_of_ctl rfl (ackReceive_eq (c := s.m.fresh.c) h)
  · exact ⟨_, next_of_ctl rfl rfl, rfl, fun o => refuseReceive_marks g x s.m.fresh.c c h⟩
  · exact next_of_ctl rfl (mirrorReceive_own (c := s.m.fresh.c) h hown)
  · exact next_of_ctl rfl (topoReceive_eq (c := s.m.fresh.c) h)
  · exact next_of_ctl rfl (routeReceive_eq (c := s.m.fresh.c) flows h)
  · exact next_of_ctl rfl (exportsReceive_eq (c := s.m.fresh.c) k h)
  · exact next_of_ctl rfl (ackReceive_eq (c := s.m.fresh.c) h)
  · obtain ⟨hnext, hwin⟩ := switchReceive_taken (c := s.m.fresh.c) h
    exact ⟨_, next_of_ctl rfl rfl, hnext, hwin, rfl⟩
  · have hfab := c.fabTickLatch_fab (x.words.getD 1 0 % 16) (x.words.getD 2 0)
    exact ⟨_, next_of_ctl rfl (tickReceive_eq (c := s.m.fresh.c) h), congrArg (·.tickOrigin) hfab, congrArg (·.rootTick) hfab,
      Ctl.fabTickLatch_latches _, rfl⟩
  · exact next_of_ctl rfl (mirrorReceive_taken (c := s.m.fresh.c) h hother)

end Sys2Proof.Machine
end

section
/-! PROOFS. The fabric's membership, generations, windows and configuration (R276, R277, R280, R286, R287, R289). -/
namespace Sys2Proof.Machine

/-! ## The root and addresses (R276, R277) -/

/-- A node that follows a root drops the neighbours that forward it. -/
theorem rootTimeout_follows {c : Ctl} (hen : c.is R.FAB_CFG_EN = true) (hroot : c.is R.FAB_STATUS_ROOT = false) :
    rootTimeout c = (Ctl.elect { c with fab :=
      { c.fab with nbrs := c.fab.nbrs.filter (fun e => e.2.root != c.fab.rootIdent) } }).member := by
  simp [rootTimeout, hen, hroot]

theorem rootTimeout_idle {c : Ctl} (h : c.is R.FAB_CFG_EN = false ∨ c.is R.FAB_STATUS_ROOT = true) : rootTimeout c = c := by
  rcases h with h | h <;> simp [rootTimeout, h]

theorem addressExpiry_heard (c : Ctl) (n : Fin 64) : (addressExpiry n c).fab.heard = cset c.fab.heard n 0 := (fabSent_member _).heard

/-! ## Generations (R280) -/

theorem routeCompute_idle {c : Ctl} (h : c.is R.FAB_STATUS_ROOT = false ∨ c.get R.FAB_STATUS_STATE ≠ 2) (subs : List (Nat × List Nat)) :
    routeCompute subs c = c := by
  rcases h with h | h <;> simp [routeCompute, h]

/-- The number of the generation after one: 0 is left out. -/
def genAfter (gen : Nat) : Nat := if (gen + 1) % 65536 = 0 then 1 else (gen + 1) % 65536

/-- The root of a fabric awaits the acknowledgements of a new generation, its own given. -/
theorem routeCompute_root {c : Ctl} (hroot : c.is R.FAB_STATUS_ROOT = true) (hstate : c.get R.FAB_STATUS_STATE = 2)
    (subs : List (Nat × List Nat)) :
    (routeCompute subs c).fab.acks = [] ∧ (routeCompute subs c).fab.acked = true ∧
      (routeCompute subs c).fab.rootGen = genAfter (c.get R.FAB_GEN_GEN) := by
  rw [routeCompute, if_neg (by simp [hroot, hstate])]
  extract_lets own t root gen1 gen target words mine flows others _ c1 c2
  have h2 : FabSent c1 c2 := .each _ _ (fun c _ => .each _ _ (fun c _ => fabSent_fabCtrl c _ _ _ _) c) c1
  have hsent : FabSent c1 (if others.isEmpty then c2.sendSwitch gen else c2.showConv) := by
    split
    · exact h2.trans (fabSent_sendSwitch _ _)
    · exact h2.trans (.of_fab (Ctl.showConv_fab _))
  exact hsent.generation

theorem generationSwitch_notDue {c : Ctl} (h : c.get R.FAB_GEN_NEXT = 0 ∨ later (c.get R.FAB_GEN_WIN) c.winNo = true) :
    generationSwitch c = c := by
  rcases h with h | h <;> simp [generationSwitch, h]

/-- The pending generation in force at its boundary, with its flows. -/
theorem generationSwitch_due {c : Ctl} (hnext : c.get R.FAB_GEN_NEXT ≠ 0) (hdue : later (c.get R.FAB_GEN_WIN) c.winNo = false) :
    (generationSwitch c).get R.FAB_GEN_GEN = c.get R.FAB_GEN_NEXT % 2 ^ 16 ∧ (generationSwitch c).get R.FAB_GEN_NEXT = 0 ∧
      (generationSwitch c).fab.flows = c.fab.pendFlows ∧ (generationSwitch c).fab.pendRoutes = [] := by
  rw [generationSwitch, if_neg (by simp [hnext, hdue])]
  extract_lets f c1 c2 c3 far
  have hfab : c3.fab = c2.fab := (Ctl.showConv_fab _).trans (Ctl.raise_fab _ _ _ _)
  have hgen : c3.get R.FAB_GEN_GEN = c.get R.FAB_GEN_NEXT % 2 ^ 16 := by
    rw [Ctl.sameRegsBut_showConv _ _ _ (by decide), Ctl.get_raise _ _ _ _ _ _ (by decide), Ctl.get_set_ne _ _ _ _ _ _ (.inl (by decide)),
      Ctl.get_set_self]
    rfl
  have hnone : c3.get R.FAB_GEN_NEXT = 0 := by
    rw [Ctl.sameRegsBut_showConv _ _ _ (by decide), Ctl.get_raise _ _ _ _ _ _ (by decide), Ctl.get_set_self]
    rfl
  split
  · rw [Ctl.get_raise _ _ _ _ _ _ (by decide), Ctl.get_raise _ _ _ _ _ _ (by decide), Ctl.get_set_ne _ _ _ _ _ _ (.inl (by decide)),
      Ctl.get_set_ne _ _ _ _ _ _ (.inl (by decide)), Ctl.raise_fab, Ctl.set_fab, hfab]
    exact ⟨hgen, hnone, rfl, rfl⟩
  · rw [hfab]
    exact ⟨hgen, hnone, rfl, rfl⟩

/-! ## Windows and ticks of the fabric (R286, R287) -/

/-- The window to join depends on the length of a window, the time and the fabric's epoch. -/
theorem Ctl.joinWindow_congr {c d : Ctl} (hlen : d.get R.WIN_CTRL_LEN = c.get R.WIN_CTRL_LEN) (htime : d.time = c.time)
    (hfab : d.fab = c.fab) : d.joinWindow = c.joinWindow := by
  unfold Ctl.joinWindow Ctl.winDur48 Ctl.winS
  rw [hlen, htime, hfab]

/-- The fabric's epoch and tick length taken over (R286). -/
def Ctl.fabEpochTaken (c : Ctl) : Ctl :=
  (((c.set R.WIN_EPOCH_LO c.fab.rootEpoch).set R.WIN_EPOCH_HI (c.fab.rootEpoch / 2 ^ 32)).set R.WIN_CTRL_TICK c.fab.rootTick).set
    R.WIN_TICK_LEN_ACTIVE c.fab.rootTick

theorem Ctl.joinWindow_fabEpochTaken (c : Ctl) : c.fabEpochTaken.joinWindow = c.joinWindow := by
  refine Ctl.joinWindow_congr ?_ rfl rfl
  unfold Ctl.fabEpochTaken
  simp (disch := decide) only [Ctl.get_set_ne]

/-- A module of a converged fabric begins windows at the fabric's count. -/
theorem fabJoin_begins {c : Ctl} (hrun : c.is R.WIN_STATUS_RUN = false) (hconv : c.fabConverged = true) :
    fabJoin c = c.fabEpochTaken.beginWindows c.joinWindow
      ((c.joinWindow + 2 ^ 32 - c.fab.tickOrigin) % 2 ^ 32 % (c.fab.rootTick + 1)) := by
  rw [fabJoin, if_neg (by simp [hrun, hconv]), ← Ctl.joinWindow_fabEpochTaken]
  rfl

theorem fabJoin_refused {c : Ctl} (h : c.is R.WIN_STATUS_RUN = true ∨ c.fabConverged = false) : fabJoin c = c.fabState := by
  rcases h with h | h <;> simp [fabJoin, h]

/-- The root of a converged fabric broadcasts a length with its origin and latches it itself. -/
theorem fabTick_sent {c : Ctl} (hroot : c.is R.FAB_STATUS_ROOT = true) (hconv : c.fabConverged = true) (len : BitVec 4) :
    fabTick len c = (c.fabBroadcast 3 7 [len.toNat, c.tickAt (winAdd c.winNo 16)]).fabTickLatch len.toNat
      (c.tickAt (winAdd c.winNo 16)) := by
  simp [fabTick, hroot, hconv]

theorem fabTick_refused {c : Ctl} (h : c.is R.FAB_STATUS_ROOT = false ∨ c.fabConverged = false) (len : BitVec 4) :
    fabTick len c = c.fabState := by
  rcases h with h | h <;> simp [fabTick, h]

/-! ## FAB_CFG (R289) -/

/-- The identity fields of FAB_CFG, which are fixed while the fabric is enabled. -/
abbrev fabIdFields : List Reg := [R.FAB_CFG_NODE_REQ, R.FAB_CFG_ANY, R.FAB_CFG_PRIO]

theorem bitsOf_andNot_self : ∀ n < 2 ^ 4, bitsOf 4 (andNot 4 n n) = [] := by decide

theorem Ctl.enableBlocks_nil (c : Ctl) (on : Nat → Ctl → Ctl) : c.enableBlocks [] on = (c.ledgShow, 0) := rfl

/-- The fabric left: no gate is up, nobody is known (R289). -/
def Ctl.fabLeft (c : Ctl) : Ctl :=
  let c := c.each ((List.range 4).filter (c.is R.FAB_GATE_UP ·)) Ctl.gateDown
  let c : Ctl := { c with fab := { c.fab with nbrs := [], heard := [], acked := false } }
  c.each [R.FAB_CFG_EN, R.FAB_STATUS_STATE, R.FAB_STATUS_ROOT, R.FAB_STATUS_NODE, R.FAB_STATUS_NODES, R.FAB_STATUS_DUP,
    R.FAB_STATUS_CFG_DIFF] (fun c r => c.set r 0)

/-- The identity fields as a write of FAB_CFG stores them. -/
def Ctl.fabIdStored (c : Ctl) (d : Nat) : Ctl := c.ledgShow.store fabIdFields 0 d

theorem Ctl.fabIdStored_en (c : Ctl) (d : Nat) : (c.fabIdStored d).is R.FAB_CFG_EN = c.is R.FAB_CFG_EN := by
  rw [Ctl.is_eq, Ctl.fabIdStored, Ctl.sameRegsBut_store _ _ _ _ _ _ (by decide), Ctl.get_ledgShow _ _ _ (by decide)]
  rfl

theorem Ctl.get_fabIdStored (c : Ctl) (d : Nat) {r : Reg} (h : r ∈ fabIdFields) : (c.fabIdStored d).get r = r.of d := by
  have hfields : ∀ f ∈ fabIdFields, f.acc = .rw ∧ isCoord f = false ∧ f.id ≠ R.WIN_GUARD_CYCLES.id ∧
      f.id ≠ R.FIRE_K1_MASK.id ∧ ∀ e ∈ fabIdFields, e.id = f.id → e = f := by
    decide
  obtain ⟨hacc, hcoord, hguard, hmask, hid⟩ := hfields r h
  rw [Ctl.fabIdStored, Ctl.get_store_rw _ _ _ hacc _ h hid, storeVal_of_plain r _ hcoord hguard hmask, Reg.of_mod]

/-- Whether a write of FAB_CFG is refused: the fabric is enabled, and its identity would change, or an armed module would leave it. -/
def Ctl.fabCfgBar (c : Ctl) (d : Nat) : Bool :=
  c.is R.FAB_CFG_EN && (c.changes fabIdFields 0 d || (R.FAB_CFG_EN.of d = 0 && c.armed))

theorem Ctl.fabLeft_spec (c : Ctl) : c.fabLeft.get R.FAB_CFG_EN = 0 ∧ c.fabLeft.get R.FAB_STATUS_STATE = 0 ∧
    c.fabLeft.fab.nbrs = [] ∧ c.fabLeft.fab.heard = [] := by
  unfold Ctl.fabLeft
  extract_lets c1 _ c2
  have hfab : ∀ l : List Reg, (c2.each l fun c r => c.set r 0).fab = c2.fab := fun l =>
    Ctl.each_keeps (·.fab) l (fun c r => c.set r 0) (fun _ _ => Ctl.set_fab _ _ _ _) c2
  refine ⟨?_, ?_, congrArg (·.nbrs) (hfab _), congrArg (·.heard) (hfab _)⟩
  · simp (disch := decide) only [Ctl.each, List.foldl_cons, List.foldl_nil, Ctl.get_set_ne, Ctl.get_set_self]
    rfl
  · simp (disch := decide) only [Ctl.each, List.foldl_cons, List.foldl_nil, Ctl.get_set_ne, Ctl.get_set_self]
    rfl

theorem Ctl.ledgShow_fab (c : Ctl) : c.ledgShow.fab = c.fab := by
  unfold Ctl.ledgShow
  extract_lets base c1
  refine (Ctl.each_keeps (·.fab) _ _ (fun c k => ?_) c1).trans ?_ <;> rfl

section
variable {c : Ctl} {d : Nat}

theorem Ctl.fabCfgBar_of (hen : c.is R.FAB_CFG_EN = true)
    (h : c.changes fabIdFields 0 d = true ∨ (R.FAB_CFG_EN.of d = 0 ∧ c.armed = true)) : c.fabCfgBar d = true := by
  rcases h with h | ⟨hoff, harmed⟩
  · simp [Ctl.fabCfgBar, hen, h]
  · simp [Ctl.fabCfgBar, hen, hoff, harmed]

theorem fabCfg_refused (h : c.fabCfgBar d = true) : c.fabCfg d = c.fabState := if_pos h

/-- A write that keeps the gates as they are stores the identity fields, and may turn the fabric on or off. -/
theorem fabCfg_sameGates (h : c.fabCfgBar d = false) (hgates : R.FAB_CFG_GATE_EN.of d = c.get R.FAB_CFG_GATE_EN) :
    c.fabCfg d =
      if R.FAB_CFG_EN.of d = 1 && !c.is R.FAB_CFG_EN then (((c.fabIdStored d).set R.FAB_CFG_EN 1).set R.FAB_STATUS_STATE 1).ledgShow
      else if R.FAB_CFG_EN.of d = 0 && c.is R.FAB_CFG_EN then (c.fabIdStored d).fabLeft.showConv.ledgShow
      else (c.fabIdStored d).ledgShow := by
  have hnone := bitsOf_andNot_self (R.FAB_CFG_GATE_EN.of d) (Nat.mod_lt _ (by decide))
  have hpass := Bool.eq_false_iff.1 h
  unfold Ctl.fabCfgBar at hpass
  unfold Ctl.fabCfg
  extract_lets en gates was other p c1 c2 on c3 _ c4 c5
  have hp : p = (c.ledgShow, 0) := by simp only [p, gates, was, ← hgates, hnone, Ctl.enableBlocks_nil]
  have h1 : c1 = c.ledgShow := by simp only [c1, hp, gates, was, ← hgates, hnone, Ctl.each, List.foldl_nil]
  have h2 : c2 = c.fabIdStored d := congrArg (·.store fabIdFields 0 d) h1
  have h5 : c5 = c2.fabLeft := rfl
  rw [if_neg hpass, hp, if_neg (by simp), h5, ← c.fabIdStored_en d, ← h2]

/-- A write that turns the fabric on makes a candidate of the identity written. -/
theorem fabCfg_on (hoff : c.is R.FAB_CFG_EN = false) (hon : R.FAB_CFG_EN.of d = 1)
    (hgates : R.FAB_CFG_GATE_EN.of d = c.get R.FAB_CFG_GATE_EN) :
    (c.fabCfg d).get R.FAB_CFG_EN = 1 ∧ (c.fabCfg d).get R.FAB_STATUS_STATE = 1 ∧
      ∀ r ∈ fabIdFields, (c.fabCfg d).get r = r.of d := by
  have hpass : c.fabCfgBar d = false := by simp [Ctl.fabCfgBar, hoff]
  rw [fabCfg_sameGates hpass hgates, if_pos (by simp [hon, hoff])]
  refine ⟨?_, ?_, fun r hr => ?_⟩
  · rw [Ctl.get_ledgShow _ _ _ (by decide), Ctl.get_set_ne _ _ _ _ _ _ (.inl (by decide)), Ctl.get_set_self]
    rfl
  · rw [Ctl.get_ledgShow _ _ _ (by decide), Ctl.get_set_self]
    rfl
  · have hapart : ∀ f ∈ fabIdFields, (∀ e ∈ totalFields, e.id ≠ f.id) ∧ R.FAB_STATUS_STATE.id ≠ f.id ∧ R.FAB_CFG_EN.id ≠ f.id := by
      decide
    obtain ⟨htotal, hstate, hen⟩ := hapart r hr
    rw [Ctl.get_ledgShow _ _ _ htotal, Ctl.get_set_ne _ _ _ _ _ _ (.inl hstate), Ctl.get_set_ne _ _ _ _ _ _ (.inl hen),
      c.get_fabIdStored d hr]

/-- A write that turns it off on a module that is not armed leaves the fabric. -/
theorem fabCfg_off (hon : c.is R.FAB_CFG_EN = true) (hoff : R.FAB_CFG_EN.of d = 0) (harmed : c.armed = false)
    (hsame : c.changes fabIdFields 0 d = false) (hgates : R.FAB_CFG_GATE_EN.of d = c.get R.FAB_CFG_GATE_EN) :
    (c.fabCfg d).get R.FAB_CFG_EN = 0 ∧ (c.fabCfg d).get R.FAB_STATUS_STATE = 0 ∧ (c.fabCfg d).fab.nbrs = [] ∧
      (c.fabCfg d).fab.heard = [] := by
  have hpass : c.fabCfgBar d = false := by simp [Ctl.fabCfgBar, hsame, harmed]
  obtain ⟨hen, hstate, hnbrs, hheard⟩ := (c.fabIdStored d).fabLeft_spec
  rw [fabCfg_sameGates hpass hgates, if_neg (by simp [hon]), if_pos (by simp [hon, hoff]), Ctl.get_ledgShow _ _ _ (by decide),
    Ctl.get_ledgShow _ _ _ (by decide), Ctl.sameRegsBut_showConv _ _ _ (by decide), Ctl.sameRegsBut_showConv _ _ _ (by decide),
    Ctl.ledgShow_fab, Ctl.showConv_fab]
  exact ⟨hen, hstate, hnbrs, hheard⟩

end

/-! ## The statement -/

/-- Settles O43: each command by what it leaves when it is taken, and by its refusal or that it does nothing else. -/
theorem fabricConfiguration : Obligations.FabricConfiguration := by
  unfold Obligations.FabricConfiguration
  intro s
  refine ⟨fun hen hroot => ?_, fun h => ?_, fun h subs => ?_, fun h => ?_, fun n => ?_, fun subs hroot hstate => ?_, fun hnext hdue => ?_,
    fun hrun hconv => ?_, fun h => ?_, fun len hroot hconv => ?_, fun len h => ?_,
    fun d hgates => ⟨fun hoff hon => ?_, fun hon hoff harmed hsame => ?_⟩, fun d hen h => ?_⟩
  · exact next_of_ctl rfl (rootTimeout_follows (c := s.m.fresh.c) hen hroot)
  · exact next_of_ctl rfl (rootTimeout_idle (c := s.m.fresh.c) h)
  · exact next_of_ctl rfl (routeCompute_idle (c := s.m.fresh.c) h subs)
  · exact next_of_ctl rfl (generationSwitch_notDue (c := s.m.fresh.c) h)
  · obtain ⟨t, ht, hc, hm⟩ := ctl_next (s := s) (i := .addressExpiry n) rfl rfl
    have hheard := addressExpiry_heard s.m.fresh.c n
    rw [← hc] at hheard
    refine ⟨t, ht, ?_, fun k hk => ?_, hm⟩ <;> rw [hheard]
    · exact cget_cset_self _ _ _
    · exact cget_cset_ne _ _ hk
  · obtain ⟨t, ht, hc, hm⟩ := ctl_next (s := s) (i := .routeCompute subs) rfl rfl
    obtain ⟨hacks, hacked, hgen⟩ := routeCompute_root (c := s.m.fresh.c) hroot hstate subs
    rw [← hc] at hacks hacked hgen
    exact ⟨t, ht, hacks, hacked, hm, hgen⟩
  · obtain ⟨t, ht, hc, hm⟩ := ctl_next (s := s) (i := .generationSwitch) rfl rfl
    obtain ⟨hgen, hnone, hflows, hroutes⟩ := generationSwitch_due (c := s.m.fresh.c) hnext hdue
    rw [← hc] at hgen hnone hflows hroutes
    exact ⟨t, ht, hgen, hnone, hflows, hroutes, hm⟩
  · obtain ⟨t, ht, hc, hm⟩ := ctl_next (s := s) (i := .fabJoin) rfl (fabJoin_begins (c := s.m.fresh.c) hrun hconv)
    obtain ⟨hrun', hcount, -, hext, hawait, hregs⟩ := s.m.fresh.c.fabEpochTaken.beginWindows_spec s.m.fresh.c.joinWindow
      ((s.m.fresh.c.joinWindow + 2 ^ 32 - s.m.fresh.c.fab.tickOrigin) % 2 ^ 32 % (s.m.fresh.c.fab.rootTick + 1))
    rw [← hc] at hrun' hcount hext hawait hregs
    exact ⟨t, ht, hrun', hext, hawait, hcount, (hregs R.WIN_TICK_LEN_ACTIVE 0 (by decide)).trans (Ctl.get_set_self _ _ _ _), hm⟩
  · exact next_of_ctl rfl (fabJoin_refused (c := s.m.fresh.c) h)
  · obtain ⟨t, ht, hc, hm⟩ := ctl_next (s := s) (i := .fabTick len) rfl (fabTick_sent (c := s.m.fresh.c) hroot hconv len)
    have hfab := Ctl.fabTickLatch_fab (s.m.fresh.c.fabBroadcast 3 7 [len.toNat, s.m.fresh.c.tickAt (winAdd s.m.fresh.c.winNo 16)])
      len.toNat (s.m.fresh.c.tickAt (winAdd s.m.fresh.c.winNo 16))
    rw [← hc] at hfab
    exact ⟨t, ht, congrArg (·.rootTick) hfab, congrArg (·.tickOrigin) hfab, hm⟩
  · exact next_of_ctl rfl (fabTick_refused (c := s.m.fresh.c) h len)
  · obtain ⟨t, ht, hc, hm⟩ := ctl_next (s := s) (i := .fabCfgWrite d) rfl rfl
    obtain ⟨hen, hstate, hid⟩ := fabCfg_on (c := s.m.fresh.c) hoff hon hgates
    rw [fabCfgWrite] at hc
    rw [← hc] at hen hstate hid
    exact ⟨t, ht, hen, hstate, hid _ (by decide), hid _ (by decide), hid _ (by decide), hm⟩
  · obtain ⟨t, ht, hc, hm⟩ := ctl_next (s := s) (i := .fabCfgWrite d) rfl rfl
    obtain ⟨hen, hstate, hnbrs, hheard⟩ := fabCfg_off (c := s.m.fresh.c) hon hoff harmed hsame hgates
    rw [fabCfgWrite] at hc
    rw [← hc] at hen hstate hnbrs hheard
    exact ⟨t, ht, hen, hstate, hnbrs, hheard, hm⟩
  · exact next_of_ctl rfl (fabCfg_refused (c := s.m.fresh.c) (Ctl.fabCfgBar_of hen h))

end Sys2Proof.Machine
end
